-- ==== Sys2Proof/Word.lean ====
section
/-! DEFINITION. The word types of the panel (R2: least significant byte first everywhere). -/

namespace Sys2Proof

/-- One byte of any memory of the panel. -/
abbrev Byte := BitVec 8
/-- A 16-bit field. -/
abbrev W16 := BitVec 16
/-- A scalar-core register, a control register and a descriptor word. -/
abbrev W32 := BitVec 32
/-- A panel-time value and a long host address. -/
abbrev W64 := BitVec 64
/-- A 32-byte engine descriptor (R105), byte 0 in the low bits. -/
abbrev Desc := BitVec 256

end Sys2Proof
end

