-- ==== Sys2Proof/Machine/Maps.lean ====
section
/-! DEFINITION. Sparse maps from numbers and byte memories, both as sorted lists of pairs. -/

namespace Sys2Proof.Machine

/-- A finite map with natural keys: pairs in strictly rising key order. -/
abbrev NMap (α : Type) := List (Nat × α)

/-- The value at key `k`, or `d` where no pair names it. -/
def NMap.get {α : Type} (d : α) (m : NMap α) (k : Nat) : α :=
  match m with
  | [] => d
  | (i, v) :: r => if i = k then v else NMap.get d r k

/-- The value at key `k` where one is listed. -/
def NMap.find {α : Type} (m : NMap α) (k : Nat) : Option α :=
  match m with
  | [] => none
  | (i, v) :: r => if i = k then some v else NMap.find r k

/-- The map with the pair for `k` replaced by the pairs of `mid` (none or one). -/
def NMap.splice {α : Type} (m : NMap α) (k : Nat) (mid : NMap α) : NMap α :=
  m.filter (fun p => decide (p.1 < k)) ++ (mid ++ m.filter (fun p => decide (k < p.1)))

/-- The map with `v` at key `k`. -/
def NMap.put {α : Type} (m : NMap α) (k : Nat) (v : α) : NMap α :=
  NMap.splice m k [(k, v)]

/-- The map without key `k`. -/
def NMap.erase {α : Type} (m : NMap α) (k : Nat) : NMap α :=
  NMap.splice m k []

/-- The map with `v` at key `k`, where an unlisted key reads as `d`: the default value is never listed. -/
def NMap.set {α : Type} [DecidableEq α] (d : α) (m : NMap α) (k : Nat) (v : α) : NMap α :=
  NMap.splice m k (if v = d then [] else [(k, v)])

/-- `f` applied to the value at key `k`. -/
def NMap.modify {α : Type} (d : α) (m : NMap α) (k : Nat) (f : α → α) : NMap α :=
  NMap.put m k (f (NMap.get d m k))

/-- The listed keys. -/
def NMap.keys {α : Type} (m : NMap α) : List Nat := m.map (fun p => p.1)

/-- Keys strictly rising. -/
def NMap.sorted {α : Type} (m : NMap α) : Bool :=
  match m with
  | [] => true
  | [_] => true
  | a :: b :: r => decide (a.1 < b.1) && NMap.sorted (b :: r)

/-- A byte memory: the listed cells, every other address reading zero (log entry 5). -/
abbrev Mem := List Host.Cell

/-- The canonical form of a memory: addresses strictly rising, and no listed cell equal to what an unlisted address
reads as. -/
def Memory.wf (m : Mem) : Bool :=
  NMap.sorted m && m.all (fun c => decide (c.2 ≠ 0))

/-- The byte at address `a`. -/
def Mem.byte (m : Mem) (a : Nat) : Byte := NMap.get 0 m a

/-- The memory with byte `v` at address `a`. -/
def Mem.setByte (m : Mem) (a : Nat) (v : Byte) : Mem := NMap.set 0 m a v

/-- The cells of the `n` least significant bytes of `v`, from address `a` upward, zero bytes left out. -/
def Mem.cells (a n v : Nat) : Mem :=
  match n with
  | 0 => []
  | n + 1 =>
    (if v % 256 = 0 then [] else [(a, BitVec.ofNat 8 v)]) ++ Mem.cells (a + 1) n (v / 256)

/-- The `n` bytes from address `a`, least significant first (R2). -/
def Mem.read (m : Mem) (a n : Nat) : Nat :=
  match n with
  | 0 => 0
  | n + 1 => (Mem.byte m a).toNat + 256 * Mem.read m (a + 1) n

/-- The listed cells at addresses from `a` up to but not including `a + n`. -/
def Mem.span (m : Mem) (a n : Nat) : Mem :=
  m.filter (fun c => decide (a ≤ c.1) && decide (c.1 < a + n))

/-- The memory with the `n` least significant bytes of `v` from address `a` upward (R2). -/
def Mem.write (m : Mem) (a n v : Nat) : Mem :=
  m.filter (fun c => decide (c.1 < a)) ++ (Mem.cells a n v ++ m.filter (fun c => decide (a + n ≤ c.1)))

/-- The value of a list of listed cells, as a number whose byte 0 is at address `a`. -/
def Mem.valueFrom (a : Nat) (m : Mem) : Nat :=
  match m with
  | [] => 0
  | c :: r => c.2.toNat * 2 ^ (8 * (c.1 - a)) + Mem.valueFrom a r

/-- The `n` bytes from address `a` as one number, gathered in one pass over the listed cells. -/
def Mem.readWide (m : Mem) (a n : Nat) : Nat := Mem.valueFrom a (Mem.span m a n)

/-- Copies `n` bytes from address `a` of `src` to address `b` of `dst`. -/
def Mem.copy (src : Mem) (a : Nat) (dst : Mem) (b n : Nat) : Mem :=
  dst.filter (fun c => decide (c.1 < b)) ++
    ((Mem.span src a n).map (fun c => (c.1 - a + b, c.2)) ++ dst.filter (fun c => decide (b + n ≤ c.1)))

/-- Adds `x` at the end of a ring that keeps the newest `n`. -/
def ringPush {α : Type} (n : Nat) (l : List α) (x : α) : List α :=
  let l := l ++ [x]
  l.drop (l.length - n)

/-- The list with its `i`-th element replaced by `f` of it. -/
def listModify {α : Type} (l : List α) (i : Nat) (f : α → α) : List α :=
  match l, i with
  | [], _ => []
  | a :: r, 0 => f a :: r
  | a :: r, i + 1 => a :: listModify r i f

/-- The list without its `i`-th element. -/
def listDrop {α : Type} (l : List α) (i : Nat) : List α := l.take i ++ l.drop (i + 1)

end Sys2Proof.Machine
end

