-- ==== Sys2Proof/Machine/CoreTypes.lean ====
section
/-! DEFINITION. State of a core slot: scalar core, lap sequencer, engine queues, engines, macros, accumulator file,
streams (chapters "The core and its engines", "Compute-in-memory matrix engine", "Vector unit and engine descriptors",
"Pacer, laps and bounded timing"). -/

namespace Sys2Proof.Machine

/-- Core states (R62). -/
inductive CoreState where
  | off | retention | preload | halted | scalar | lapRunning | lapFrozen | lapFault | shed
deriving DecidableEq, Repr

/-- Causes of LAP_FAULT and of a unit fault (R63, R115, R149). -/
inductive FaultCause where
  | none | descFormat | tokenOverflow | tokenImbalance | ramUncorrectable | engineHard | engineState | tokenDeadlock
deriving DecidableEq, Repr

/-- Architectural state of the scalar control core (R43–R47). -/
structure Scalar where
  x : NMap W32 := []            -- x1–x31; x0 is never listed
  pc : W32 := 0
  mstatus : W32 := 0x1800       -- MPP hard-wired to machine mode
  mie : W32 := 0
  mtvec : W32 := 0
  mscratch : W32 := 0
  mepc : W32 := 0
  mcause : W32 := 0
  mtval : W32 := 0
  mcycle : W64 := 0
  minstret : W64 := 0
  halted : Bool := true
  wfi : Bool := false
  timerPend : Bool := false     -- mip bit 7
deriving DecidableEq, Repr

/-- A descriptor in an engine queue (R48): its lap index (R125), who issued it and its place in the program. -/
structure QEntry where
  desc : Desc := 0
  lap : Nat := 0
  seq : Bool := false           -- issued by the lap sequencer
  idx : Nat := 0                -- descriptor index within the program
deriving DecidableEq, Repr

/-- A descriptor an engine has started: how many vectors or rows are done, of how many. -/
structure Running where
  q : QEntry := {}
  done : Nat := 0
  total : Nat := 0
  release : List Nat := []      -- streams whose head slot is released at completion
  ranges : List (Nat × Nat) := []    -- accumulator entries of an MM, first and last per macro, as bound at its start (R114)
deriving DecidableEq, Repr

/-- A store engine's turn: its core, and the cc it waited on a streamed source (R143, R207). -/
structure StoreTurn where
  core : Nat
  starved : Nat := 0
deriving DecidableEq, Repr

/-- The rows a stream's fetch asks for, and the far-cache lines (set × 8 + way) it finds uncorrectable (R201, R315). -/
structure FetchTurn where
  rows : Nat := 0
  drops : List Nat := []
deriving DecidableEq, Repr

/-- The four engine queues (R48). -/
structure Queues where
  matrix : List QEntry := []    -- at most 16
  vector : List QEntry := []    -- at most 16
  store : List QEntry := []     -- at most 16
  pacer : List QEntry := []     -- at most 8
deriving DecidableEq, Repr

/-- What each engine is running (R114: the matrix engine runs an MM, a load and an ACC operation side by side). -/
structure Engines where
  mm : Option Running := none
  mmTail : List Running := []   -- earlier MMs that have begun their last macro op and not completed, oldest first
  load : Option Running := none
  acc : Option Running := none
  vector : Option Running := none
  store : Option Running := none
  pacer : Option Running := none
deriving DecidableEq, Repr

/-- The lap sequencer (R52–R56). -/
structure LapSeq where
  index : Nat := 0              -- TILE_LAP_INDEX
  next : Nat := 0               -- next program position to issue
  runsLeft : Option Nat := none -- laps still to run; none runs until stopped
  baseline : List Nat := []     -- the 16 token values of R52
  begun : Bool := false         -- the lap has begun (R208)
  waitStart : Bool := false     -- lap 0 or the lap after a thaw waits for START
  stopPend : Bool := false
  freezePend : Bool := false
  poisonLap : Bool := false     -- an engine wrote poison during this lap (R180)
  bubbles : Nat := 0            -- bubble laps still to run before the next lap (R461)
  bubbleRate : Nat := 0         -- bubble rate in force (R461, R462)
  startAt : Nat := 0            -- TILE_LAP_START as read at the request (R208)
  frameLaps : Nat := 0          -- laps per frame of the output slot, 0 where it is none (R217)
  stepLaps : Nat := 0           -- STEP_LAPS of the job, 0 where none is told (R396)
  boundaries : Nat := 0         -- lap boundaries since preload completed (R67)
  cutAt : Option Nat := none    -- the lap a CUT stopped (R565)
deriving DecidableEq, Repr

/-- An accumulator entry (R79). -/
structure AccEntry where
  value : Int := 0
  w : Int := 0
  invalid : Bool := false
  poison : Bool := false
  count : Nat := 0
deriving DecidableEq, Repr

/-- A macro with its binding, scale register and reference CRC (R97–R111, R122). -/
structure Macro where
  cells : NMap Nat := []        -- the 256 image rows of 512 bytes each
  scales : Nat := 0             -- the scale register, byte 0 lowest (R99)
  fmt : Nat := 0
  seg : Nat := 0
  accBase : Nat := 0
  ncol : Nat := 0
  fixedExp : Int := 0
  crc : Nat := 0
  loaded : Bool := false
  loading : Bool := false
  poisoned : Bool := false
  streamed : Bool := false
  srcRegion : Nat := 0          -- where the last load read the image
  srcRow : Nat := 0
  scaleRegion : Nat := 0
  scaleRow : Nat := 0
deriving DecidableEq, Repr

/-- Stream states (R207). -/
inductive StreamState where
  | idle | running | stopping | halted
deriving DecidableEq, Repr

/-- A row fetch in flight: the staging slot and row it fills. -/
structure Fetch where
  slot : Nat := 0
  row : Nat := 0
  lap : Nat := 0
  tag : Nat := 0                -- request tag of a WINDOW fetch
deriving DecidableEq, Repr

/-- A pacer stream (R145, R146, R197–R207). -/
structure Stream where
  state : StreamState := .idle
  landing : Bool := false
  setDesc : Option Desc := none -- STREAM_SET accepted since the last stop
  loopDesc : Option Desc := none
  ringRow : Nat := 0            -- store row of slot 0
  head : Nat := 0
  fill : Nat := 0
  full : Nat := 0               -- bit i set while slot i is FULL
  landed : NMap Nat := []       -- rows written so far into each EMPTY slot
  fetchLap : Nat := 0
  nextRow : Nat := 0            -- rows already requested in lap FETCH_LAP
  flight : List Fetch := []
  savedLap : Nat := 0           -- FETCH_LAP at the last halt (R565)
deriving DecidableEq, Repr

/-- An entry of the narrow store queue (R164). -/
structure NarrowEntry where
  word : Nat := 0               -- store word number: store row × 64 + word
  mask : Nat := 0               -- byte mask
  data : Nat := 0
deriving DecidableEq, Repr

end Sys2Proof.Machine
end

