-- ==== Sys2Proof/Config.lean ====
section
/-! DEFINITION. What the spec leaves to an implementation or does not state: constants with no body, so that no proof
can lean on a value of them. -/

namespace Sys2Proof.Config

/-- A free value: the n-th value that the spec leaves open in a run (log entry 2). -/
opaque freeNat : Nat → Nat

/-- The transcendental tables fixed in silicon (R137): the FP32 result of each function for an FP32 input, known only
within the error bound of R137 (log entry 11). -/
opaque tableExp : W32 → W32
opaque tableLog : W32 → W32
opaque tableTanh : W32 → W32
opaque tableSigmoid : W32 → W32
opaque tableGelu : W32 → W32
opaque tableRecip : W32 → W32
opaque tableRsqrt : W32 → W32

/-- mtval of an illegal-instruction exception, for the instruction's bits: the spec leaves it to the standard, which
leaves it open (log entry 12). -/
opaque mtvalIllegal : Nat → Nat
/-- The identity CSRs that the spec does not state: misa, mvendorid, marchid, mimpid, mconfigptr, by CSR number. -/
opaque csrIdentity : Nat → Nat

/-- The hash of (SRC, TAG) that spreads a peer's traffic over its live ports (R429): the spec names no function. -/
opaque siluaHash : Nat → Nat → Nat
/-- The Silua protocol version that an engine speaks (R424): the spec names none (log entry 13). -/
opaque siluaVersion : Nat

/-- What is fused at manufacture and given no value by the spec (R519, R538, R548): the panel serial, a die's serial,
the capability bitmap of a die that is neither tile nor hub, and three timing parameters (CORR_CC, WAIT_CC, REBUILD_CC as
in TILE_TIMING), by die: 0–255 tiles, 256 and 257 hubs, 258–265 optical engines, 266–521 photonic companions and 522–777
IVRs by their tile; a hub's ROLLBACK_FUSE as manufactured and its revoked keys (log entry 13). -/
opaque panelSerial : Nat
opaque dieSerial : Nat → Nat
opaque otherCaps : Nat → Nat
/-- The stepping codes of tile stepping B1 and hub stepping H-B2, which this edition applies to (R1, R537). -/
def dieStepping (n : Nat) : Nat := if n < 256 then 0x21 else 0x22
/-- A die's capability bitmap: tile stepping B1 and hub stepping H-B2 report 0x3FFF (R523). -/
def dieCaps (n : Nat) : Nat := if n < 258 then 0x3FFF else otherCaps n % 2 ^ 16
opaque dieTiming : Nat → Nat
opaque rollbackFuse : Nat → Nat
opaque revokedKeys : Nat → Nat

/-- SHA-384 of a number of bytes, and ECDSA P-384 verification of a signature (r, s) on a digest under key 0–3 of the
boot ROM or, as key 4, Welvotan's debug key: functions of other standards, left opaque (log entry 14). -/
opaque sha384 : Nat → Nat → Nat
opaque ecdsaVerify : Nat → Nat → Nat → Nat → Bool

/-- The decoders of ITU-T T.81, ITU-T H.265 and AV1 (R321): of a stream kind, the decoder's state and a unit's bytes and
length, whether the unit decodes, whether it is an IRAP picture, key frame or JPEG image, the state after it, how many
references it needs, whether it refers to a picture that failed to decode, whether its samples have 10 bits, its colour
description (matrix 0–2 as in R327 less one, plus 4 for full range), its reorder depth, and sample `c` (Y, Cb, Cr) at a
luma position after chroma upsampling (log entry 15). -/
opaque unitDecodes : Nat → Nat → Nat → Nat → Bool
opaque unitIsKey : Nat → Nat → Nat → Nat → Bool
opaque unitState : Nat → Nat → Nat → Nat → Nat
opaque unitDepth : Nat → Nat → Nat → Nat → Nat
opaque unitRefers : Nat → Nat → Nat → Nat → Bool
opaque unitIs10 : Nat → Nat → Nat → Nat → Bool
opaque unitColour : Nat → Nat → Nat → Nat → Nat
opaque unitReorder : Nat → Nat → Nat → Nat → Nat
opaque unitSample : Nat → Nat → Nat → Nat → Nat → Nat → Nat → Nat
/-- What post-processing leaves open (R328): the layout of a raw context's units, 0 NV12, 1 I420, 2 RGB8, 3 BGR8; an
upsampled chroma sample of a raw picture; the source position of an output sample in 1/64 pixel; the kernel coefficients
in 1/16,384 that are not exact; the sample taken beyond an edge; the colour coefficients and offsets (log entry 15). -/
opaque rawFormat : Nat → Nat
opaque rawChroma : Nat → Nat → Nat → Nat → Nat → Nat → Nat → Nat
opaque resizePos : Nat → Nat → Nat → Int
opaque bicubicTap : Nat → Nat → Int
opaque areaTap : Nat → Nat → Nat → Nat → Int
opaque edgeSample : Nat → Int → Nat
opaque colourTap : Nat → Nat → Nat → Nat → Nat → Int
opaque colourOffset : Nat → Nat → Nat → Nat → Int

/-- What the PLDM base commands answer (DSP0240): terminus ID, version, types and commands by command code
(log entry 16). -/
opaque pldmAnswer : Nat → Nat
/-- The PLDM completion codes the spec names without a value: ERROR_INVALID_DATA (0) and ERROR_UNSUPPORTED_PLDM_CMD (1)
(log entry 16). -/
opaque pldmCode : Nat → Nat

end Sys2Proof.Config
end

