-- ==== Sys2Proof/Machine/Bits.lean ====
section
/-! DEFINITION. Bit fields, signed numbers and checksums that every chapter uses. -/

namespace Sys2Proof.Machine

/-- Bits [hi:lo] of `v`. -/
def bitsOf (v : Nat) (hi lo : Nat) : Nat := (v / 2 ^ lo) % 2 ^ (hi + 1 - lo)

/-- Bit `i` of `v`. -/
def bitOf (v : Nat) (i : Nat) : Bool := (v / 2 ^ i) % 2 = 1

/-- `v` with bits [hi:lo] replaced by `x`. -/
def putBits (v : Nat) (hi lo x : Nat) : Nat :=
  v - bitsOf v hi lo * 2 ^ lo + (x % 2 ^ (hi + 1 - lo)) * 2 ^ lo

/-- A truth value as a bit. -/
def bitNat (b : Bool) : Nat := if b then 1 else 0

/-- The two's complement reading of the low `w` bits of `v`. -/
def signedOf (w : Nat) (v : Nat) : Int :=
  let u := v % 2 ^ w
  if 2 * u < 2 ^ w then (u : Int) else (u : Int) - (2 ^ w : Nat)

/-- The low `w` bits of the two's complement of `i`. -/
def natOfInt (w : Nat) (i : Int) : Nat := (i % (2 ^ w : Nat)).toNat

/-- Byte `i` of `v`. -/
def byteOf (v : Nat) (i : Nat) : Nat := bitsOf v (8 * i + 7) (8 * i)

/-- `n` bytes of a descriptor from offset `o`. -/
def descField (d : Desc) (o n : Nat) : Nat := bitsOf d.toNat (8 * (o + n) - 1) (8 * o)

/-- The number of set bits among the low `n` bits of `v`. -/
def popCount (v n : Nat) : Nat :=
  match n with
  | 0 => 0
  | n + 1 => v % 2 + popCount (v / 2) n

/-- The positions of the set bits among the low `n` bits, rising. -/
def setBits (v n : Nat) : List Nat := (List.range n).filter (fun i => bitOf v i)

/-- A mask with the named bits set. -/
def maskOf (l : List Nat) : Nat := l.foldl (fun a i => a ||| 2 ^ i) 0

/-- Quotient rounded up. -/
def ceilDiv (a b : Nat) : Nat := (a + b - 1) / b

/-- The larger value that a saturating counter of `w` bits holds after `n` more counts (R60). -/
def satAdd (w v n : Nat) : Nat := if v + n < 2 ^ w then v + n else 2 ^ w - 1

/-- One bit of the reflected CRC-32C division (R14, R110). -/
def crcStep (poly c : Nat) (n : Nat) : Nat :=
  match n with
  | 0 => c
  | n + 1 => crcStep poly (if c % 2 = 1 then (c / 2) ^^^ poly else c / 2) n

/-- CRC-32C over the `n` bytes of `v`, least significant byte first, from the running value `c` (polynomial
0x1EDC_6F41 bit-reflected). -/
def crc32cOver (c v n : Nat) : Nat :=
  match n with
  | 0 => c
  | n + 1 => crc32cOver (crcStep 0x82F63B78 (c ^^^ (v % 256)) 8) (v / 256) n

/-- CRC-32C of `n` bytes of `v`: initial value all ones, final value inverted (R110). -/
def crc32c (v n : Nat) : Nat := (crc32cOver 0xFFFFFFFF v n) ^^^ 0xFFFFFFFF

/-- CRC-16 over the `n` bytes of `v`, byte 0 first: polynomial 0x1021, initial value 0xFFFF, not reflected (R253). -/
def crc16Step (c n : Nat) : Nat :=
  match n with
  | 0 => c
  | n + 1 => crc16Step (if c < 0x8000 then 2 * c else (2 * c % 65536) ^^^ 0x1021) n
def crc16Over (c v n : Nat) : Nat :=
  match n with
  | 0 => c
  | n + 1 => crc16Over (crc16Step (c ^^^ (v % 256 * 256)) 8) (v / 256) n
def crc16 (v n : Nat) : Nat := crc16Over 0xFFFF v n

end Sys2Proof.Machine
end

