-- ==== Sys2Proof/Machine/Num.lean ====
section
/-! DEFINITION. Number formats, exact values and the single final rounding (chapter "Number formats and exact
accumulation"). -/

namespace Sys2Proof.Machine

/-- Bits of TILE_NUMERIC_STATUS (R96), as masks. -/
def nsNanIn : Nat := 1
def nsTermRange : Nat := 2
def nsCountLimit : Nat := 4
def nsInexact : Nat := 8
def nsSat : Nat := 16
def nsInvalidOut : Nat := 32
def nsPoisonOut : Nat := 64

/-- Format codes (R70). -/
def fmtInt4 : Nat := 0
def fmtInt8 : Nat := 1
def fmtTernary : Nat := 2
def fmtMxInt8 : Nat := 3
def fmtE4M3 : Nat := 4
def fmtE5M2 : Nat := 5
def fmtE2M3 : Nat := 6
def fmtE3M2 : Nat := 7
def fmtE2M1 : Nat := 8
def fmtBF16 : Nat := 9
def fmtFP16 : Nat := 10
def fmtFP32 : Nat := 11
def fmtLongsum : Nat := 12
def fmtAcc64 : Nat := 13

/-- An MX format (R70). -/
def fmtIsMx (f : Nat) : Bool := decide (3 ≤ f) && decide (f ≤ 8)
/-- A floating storage format FP32, FP16 or BF16. -/
def fmtIsFloat (f : Nat) : Bool := decide (9 ≤ f) && decide (f ≤ 11)
/-- Formats accepted as weights (R71). -/
def fmtIsWeight (f : Nat) : Bool := decide (f ≤ 8)
/-- Formats accepted as activations (R71). -/
def fmtIsAct (f : Nat) : Bool := f = 0 || f = 1 || f = 3 || f = 4 || f = 5 || f = 8
/-- An integer format INT4 or INT8. -/
def fmtIsInt (f : Nat) : Bool := decide (f ≤ 1)

/-- Bits that an element takes in a row (R76): a 6-bit element takes a byte. -/
def fmtStoreBits (f : Nat) : Nat :=
  if f = 0 || f = 8 then 4 else if f = 2 then 2 else if f = 9 || f = 10 then 16 else if f = 11 then 32 else 8

/-- Elements per 512-byte row (R76, R86, R84). -/
def fmtPerRow (f : Nat) : Nat :=
  if f = 12 then 21 else if f = 13 then 32 else 4096 / fmtStoreBits f

/-- The exponent of the element LSB (R71). -/
def fmtLsb (f : Nat) : Int :=
  if f = 3 then -6 else if f = 4 then -9 else if f = 5 then -16 else if f = 6 then -3 else if f = 7 then -4
  else if f = 8 then -1 else 0

/-- A floating layout: exponent bits, mantissa bits, bias and the largest code written for a finite value. -/
structure FloatFmt where
  ebits : Nat
  mbits : Nat
  bias : Nat
  maxCode : Nat
deriving DecidableEq, Repr

/-- The layout of a floating element or storage format (R71). -/
def floatFmt (f : Nat) : FloatFmt :=
  if f = 4 then ⟨4, 3, 7, 0x7E⟩ else if f = 5 then ⟨5, 2, 15, 0x7B⟩ else if f = 6 then ⟨2, 3, 1, 0x1F⟩
  else if f = 7 then ⟨3, 2, 3, 0x1F⟩ else if f = 8 then ⟨2, 1, 1, 0x7⟩ else if f = 9 then ⟨8, 7, 127, 0x7F7F⟩
  else if f = 10 then ⟨5, 10, 15, 0x7BFF⟩ else ⟨8, 23, 127, 0x7F7FFFFF⟩

/-- A value before its final rounding: not a number, an infinity, or exactly ± mag · 2^exp. -/
inductive Val where
  | nan
  | inf (neg : Bool)
  | fin (neg : Bool) (mag : Nat) (exp : Int)
deriving DecidableEq, Repr

/-- The exact integer `i` times 2^e; an exact zero carries no sign (R90). -/
def Val.ofInt (i : Int) (e : Int) : Val := .fin (decide (i < 0)) i.natAbs e

/-- True for a nan or an infinity. -/
def Val.special : Val → Bool
  | .nan => true
  | .inf _ => true
  | .fin _ _ _ => false

/-- The sign of a value. -/
def Val.neg? : Val → Bool
  | .nan => false
  | .inf n => n
  | .fin n _ _ => n

/-- True for a zero of either sign. -/
def Val.isZero : Val → Bool
  | .fin _ m _ => m = 0
  | _ => false

/-- `m · 2^e` rounded to an integer, ties to even. -/
def rneShift (m : Nat) (e : Int) : Nat :=
  if 0 ≤ e then m * 2 ^ e.toNat
  else
    let k := (-e).toNat
    let q := m / 2 ^ k
    let r := m % 2 ^ k
    if 2 * r > 2 ^ k || (2 * r = 2 ^ k && q % 2 = 1) then q + 1 else q

/-- `m · 2^e` truncated to an integer, and whether nonzero bits were lost. -/
def truncShift (m : Int) (e : Int) : Int × Bool :=
  if 0 ≤ e then (m * (2 ^ e.toNat : Nat), false)
  else
    let k : Int := (2 ^ (-e).toNat : Nat)
    (m / k, decide (m % k ≠ 0))

/-- floor(log2(m · 2^e)) of a nonzero magnitude. -/
def floorLog2 (m : Nat) (e : Int) : Int := (Nat.log2 m : Int) + e

/-- The magnitude code of `m · 2^e` rounded once, to nearest with ties to even (R89); above the largest finite code it
is that of an overflow. -/
def roundMag (f : FloatFmt) (m : Nat) (e : Int) : Nat :=
  if m = 0 then 0
  else
    let top := floorLog2 m e
    let x := max top (1 - (f.bias : Int))
    let n := rneShift m (e - (x - f.mbits))
    ((x + f.bias - 1).toNat) * 2 ^ f.mbits + n

/-- The exponent field of all ones, mantissa zero: the infinity code of an IEEE layout. -/
def FloatFmt.infCode (f : FloatFmt) : Nat := (2 ^ f.ebits - 1) * 2 ^ f.mbits

/-- The canonical NaN code of a floating storage format (R91). -/
def nanCode (fmt : Nat) : Nat := if fmt = 9 then 0x7FC0 else if fmt = 10 then 0x7E00 else 0x7FC00000

/-- The sign bit of a floating layout. -/
def signCode (f : FloatFmt) (neg : Bool) : Nat := if neg then 2 ^ (f.ebits + f.mbits) else 0

/-- A value converted to FP32, FP16 or BF16 (R89–R91): the code and the status bits. -/
def toFloat (fmt : Nat) (v : Val) : Nat × Nat :=
  let f := floatFmt fmt
  match v with
  | .nan => (nanCode fmt, nsInvalidOut)
  | .inf n => (f.infCode + signCode f n, 0)
  | .fin n m e =>
    let c := roundMag f m e
    if c > f.maxCode then (f.maxCode + signCode f n, nsSat) else (c + signCode f n, 0)

/-- A value rounded to a compute format as IEEE 754 arithmetic does it: an overflow is an infinity (R95). -/
def toArith (fmt : Nat) (v : Val) : Nat :=
  let f := floatFmt fmt
  match v with
  | .nan => nanCode fmt
  | .inf n => f.infCode + signCode f n
  | .fin n m e =>
    let c := roundMag f m e
    (if c > f.maxCode then f.infCode else c) + signCode f n

/-- The value of a code of a floating layout, its special codes apart. -/
def floatMag (f : FloatFmt) (c : Nat) : Val :=
  let e := bitsOf c (f.ebits + f.mbits - 1) f.mbits
  let m := c % 2 ^ f.mbits
  let n := bitOf c (f.ebits + f.mbits)
  if e = 0 then .fin n m (1 - (f.bias : Int) - f.mbits)
  else .fin n (2 ^ f.mbits + m) ((e : Int) - f.bias - f.mbits)

/-- The value of an FP32, FP16 or BF16 code. -/
def fromFloat (fmt : Nat) (c : Nat) : Val :=
  let f := floatFmt fmt
  if bitsOf c (f.ebits + f.mbits - 1) f.mbits = 2 ^ f.ebits - 1 then
    if c % 2 ^ f.mbits = 0 then .inf (bitOf c (f.ebits + f.mbits)) else .nan
  else floatMag f c

/-- The integer count of element LSBs of a matrix-engine element; none for an invalid element (R71, R72). -/
def elemInt (fmt : Nat) (c : Nat) : Option Int :=
  let fl (f : FloatFmt) (lsb : Int) : Option Int :=
    match floatMag f c with
    | .fin n m e => some ((if n then -1 else 1) * (m * 2 ^ (e - lsb).toNat : Nat))
    | _ => none
  if fmt = 0 then some (signedOf 4 c)
  else if fmt = 1 || fmt = 3 then some (signedOf 8 c)
  else if fmt = 2 then (if c % 4 = 2 then none else some (signedOf 2 c))
  else if fmt = 4 then (if c % 128 = 127 then none else fl (floatFmt 4) (-9))
  else if fmt = 5 then (if bitsOf c 6 2 = 31 then none else fl (floatFmt 5) (-16))
  else if fmt = 6 then fl (floatFmt 6) (-3)
  else if fmt = 7 then fl (floatFmt 7) (-4)
  else if fmt = 8 then fl (floatFmt 8) (-1)
  else none

/-- An element code as an exact value for the vector unit, and whether it was an invalid element (R72); a negative zero
decodes to the integer 0 (R73). The exponent
`x` is the block exponent, or the fixed exponent of an integer format. -/
def elemVal (fmt : Nat) (x : Option Int) (c : Nat) : Val × Bool :=
  if fmtIsFloat fmt then (fromFloat fmt c, false)
  else
    match x with
    | none => (.nan, true)
    | some x =>
      match elemInt fmt c with
      | some i => (Val.ofInt i (fmtLsb fmt + x), false)
      | none => (if fmt = 5 && c % 4 = 0 then .inf (bitOf c 7) else .nan, true)

/-- The block exponent of an E8M0 scale (R74). -/
def scaleExp (c : Nat) : Option Int := if c % 256 = 255 then none else some ((c % 256 : Nat) - 127 : Int)

/-- A value converted to INT8 or INT4 with output exponent `e` (R90–R92). -/
def toInt (fmt : Nat) (e : Int) (v : Val) : Nat × Nat :=
  let w := if fmt = 0 then 4 else 8
  let lim := 2 ^ (w - 1) - 1
  let enc (n : Bool) (m : Nat) : Nat := if n then natOfInt w (-(m : Int)) else m
  match v with
  | .nan => (2 ^ (w - 1), nsInvalidOut)
  | .inf n => (enc n lim, nsSat)
  | .fin n m x =>
    let r := rneShift m (x - e)
    if r > lim then (enc n lim, nsSat) else (enc n r, 0)

/-- One element of an MX block rounded at block exponent `x` (R93); a nonzero value that rounds to zero keeps its sign
(R90). -/
def toMxElem (fmt : Nat) (x : Int) (v : Val) : Nat × Nat :=
  match v with
  | .fin n m e =>
    if fmt = 3 then
      let r := rneShift m (e - x + 6)
      let enc (k : Nat) : Nat := if n then natOfInt 8 (-(k : Int)) else k
      if r > 127 then (enc 127, nsSat) else (enc r, 0)
    else
      let f := floatFmt fmt
      if m = 0 then (0, 0)
      else
        let c := roundMag f m (e - x)
        if c > f.maxCode then (f.maxCode + signCode f n, nsSat) else (c + signCode f n, 0)
  | _ => (0, 0)

/-- emax of R93. -/
def mxEmax (fmt : Nat) : Int :=
  if fmt = 4 then 8 else if fmt = 5 then 15 else if fmt = 6 then 2 else if fmt = 7 then 4 else if fmt = 8 then 2 else 0

/-- The largest floor(log2 |v|) of the nonzero values. -/
def maxLog2 (vs : List Val) : Option Int :=
  vs.foldl (fun a v =>
    match v with
    | .fin _ m e => if m = 0 then a else
        match a with
        | none => some (floorLog2 m e)
        | some b => some (max b (floorLog2 m e))
    | _ => a) none

/-- 32 values converted into one MX block (R93): scale, element codes, status bits. -/
def toMxBlock (fmt : Nat) (vs : List Val) : Nat × List Nat × Nat :=
  if vs.any Val.special then (255, vs.map (fun _ => 0), nsInvalidOut)
  else
    match maxLog2 vs with
    | none => (0, vs.map (fun _ => 0), 0)
    | some top =>
      let x0 := top - mxEmax fmt
      let x := min 127 (max (-127) x0)
      let rs := vs.map (toMxElem fmt x)
      ((x + 127).toNat, rs.map (fun r => r.1),
        rs.foldl (fun a r => a ||| r.2) (if x0 > 127 then nsSat else 0))

/-- A long-sum lane or an accumulator entry in memory form: value, INVALID, POISON. -/
structure Lane where
  value : Int := 0
  invalid : Bool := false
  poison : Bool := false
deriving DecidableEq, Repr

/-- The bound 2^135 − 1 of a long-sum term (R87). -/
def laneBound : Int := (2 ^ 135 : Nat) - 1

/-- `m · 2^e` as a long-sum term in units of 2^g (R87), with the status bits it sets. -/
def toTerm (m e g : Int) : Lane × Nat :=
  let (t, lost) := truncShift m (e - g)
  let st := if lost then nsInexact else 0
  if t > laneBound then ({ value := laneBound, invalid := true }, st ||| nsTermRange)
  else if t < -laneBound then ({ value := -laneBound, invalid := true }, st ||| nsTermRange)
  else ({ value := t }, st)

/-- A floating value converted to a long-sum lane (R87, R91). -/
def valToLane (g : Int) (v : Val) : Lane × Nat :=
  match v with
  | .fin n m e =>
    let (l, st) := toTerm (if n then -(m : Int) else m) e g
    (l, if l.invalid then st ||| nsInvalidOut else st)
  | _ => ({ invalid := true }, nsInvalidOut)

/-- The 24 bytes of a lane (R86). -/
def Lane.encode (l : Lane) : Nat :=
  natOfInt 160 l.value + 2 ^ 160 * (bitNat l.invalid + 2 * bitNat l.poison)

/-- The lane held in 24 bytes (R86). -/
def Lane.decode (b : Nat) : Lane := ⟨signedOf 160 b, bitOf b 160, bitOf b 161⟩

/-- Combining two lanes: operation 0 SUM, 1 MAX, 2 MIN (R88). -/
def Lane.combine (op : Nat) (a b : Lane) : Lane :=
  { value := if op = 0 then a.value + b.value else if op = 1 then max a.value b.value else min a.value b.value
    invalid := a.invalid || b.invalid
    poison := a.poison || b.poison }

/-- The lanes of a 512-byte row. Log entry 29. -/
def lanesOfRow (row : Nat) : List Lane :=
  (List.range 21).map (fun i => Lane.decode (bitsOf row (192 * i + 191) (192 * i)))

/-- A row made of up to 21 lanes. Log entry 29. -/
def rowOfLanes (ls : List Lane) : Nat :=
  ls.foldr (fun l a => l.encode + 2 ^ 192 * a) 0

/-! Arithmetic of the compute formats (R95). Operands and results are codes of the format. -/

/-- The exact sum of two values, with the IEEE sign of a zero sum (R95): two negative zeros give −0, where R73 speaks of
sums of zeros. Log entry 86. -/
def Val.add (a b : Val) : Val :=
  match a, b with
  | .nan, _ => .nan
  | _, .nan => .nan
  | .inf x, .inf y => if x = y then .inf x else .nan
  | .inf x, _ => .inf x
  | _, .inf y => .inf y
  | .fin n m e, .fin n' m' e' =>
    let q := min e e'
    let x : Int := (if n then -1 else 1) * (m * 2 ^ (e - q).toNat : Nat)
    let y : Int := (if n' then -1 else 1) * (m' * 2 ^ (e' - q).toNat : Nat)
    if x + y = 0 then .fin (n && n') 0 0 else Val.ofInt (x + y) q

/-- The value with its sign turned. -/
def Val.negate : Val → Val
  | .nan => .nan
  | .inf n => .inf (!n)
  | .fin n m e => .fin (!n) m e

/-- The exact product. -/
def Val.mul (a b : Val) : Val :=
  match a, b with
  | .nan, _ => .nan
  | _, .nan => .nan
  | .inf x, .inf y => .inf (x != y)
  | .inf x, .fin n m _ => if m = 0 then .nan else .inf (x != n)
  | .fin n m _, .inf y => if m = 0 then .nan else .inf (n != y)
  | .fin n m e, .fin n' m' e' => .fin (n != n') (m * m') (e + e')

/-- The quotient to 200 bits, its last bit set where the division was not exact. -/
def Val.div (a b : Val) : Val :=
  match a, b with
  | .nan, _ => .nan
  | _, .nan => .nan
  | .inf _, .inf _ => .nan
  | .inf x, .fin n _ _ => .inf (x != n)
  | .fin n _ _, .inf y => .fin (n != y) 0 0
  | .fin n m e, .fin n' m' e' =>
    if m' = 0 then (if m = 0 then .nan else .inf (n != n'))
    else
      let k := Nat.log2 m' + 200
      let q := m * 2 ^ k / m'
      let r := m * 2 ^ k % m'
      .fin (n != n') (2 * q + (if r = 0 then 0 else 1)) (e - e' - k - 1)

/-- The integer square root by bits: `k` at least half the bits of `n`. -/
def isqrtBits (k n : Nat) : Nat :=
  match k with
  | 0 => 0
  | k + 1 =>
    let r := 2 * isqrtBits k (n / 4)
    if (r + 1) * (r + 1) ≤ n then r + 1 else r

/-- The integer square root. -/
def isqrt (n : Nat) : Nat := isqrtBits (Nat.log2 n / 2 + 1) n

/-- The square root to about 200 bits, its last bit set where it was not exact. -/
def Val.sqrt (a : Val) : Val :=
  match a with
  | .nan => .nan
  | .inf n => if n then .nan else .inf false
  | .fin n m e =>
    if m = 0 then .fin n 0 0
    else if n then .nan
    else
      let k : Nat := 400 + (e % 2).toNat
      let s := m * 2 ^ k
      let r := isqrt s
      .fin false (2 * r + (if r * r = s then 0 else 1)) ((e - (k : Nat)) / 2 - 1)

/-- a < b of two values that are not NaN, a zero of negative sign below a zero of positive sign (R132). -/
def Val.below (a b : Val) : Bool :=
  match a, b with
  | .nan, _ => false
  | _, .nan => false
  | .inf x, .inf y => x && !y
  | .inf x, .fin _ _ _ => x
  | .fin _ _ _, .inf y => !y
  | .fin n m e, .fin n' m' e' =>
    let q := min e e'
    let x : Int := (if n then -1 else 1) * (m * 2 ^ (e - q).toNat : Nat)
    let y : Int := (if n' then -1 else 1) * (m' * 2 ^ (e' - q).toNat : Nat)
    if x = y then (m = 0 && n && !n') else decide (x < y)

/-- The maximum and minimum operations of IEEE 754-2019 (R132). -/
def Val.max (a b : Val) : Val :=
  match a, b with
  | .nan, _ => .nan
  | _, .nan => .nan
  | a, b => if Val.below a b then b else a
def Val.min (a b : Val) : Val :=
  match a, b with
  | .nan, _ => .nan
  | _, .nan => .nan
  | a, b => if Val.below b a then b else a

/-- The value rounded once to compute format `fmt`, as IEEE arithmetic rounds. -/
def Val.rnd (fmt : Nat) (v : Val) : Val := fromFloat fmt (toArith fmt v)

/-! The bounds of R137: each table answer lies within its error bound of the exact function. The exact function is
computed here in fixed point with 700 fraction bits; a table answer outside the bound is impossible by R137, and the
correctly rounded value stands in its place (log entry 11). -/

/-- Fraction bits of the fixed-point evaluation. -/
def fxBits : Nat := 700
/-- One in fixed point. -/
def fxOne : Int := (2 ^ fxBits : Nat)
/-- Fixed-point product. -/
def fxMul (a b : Int) : Int := (a * b) / fxOne
/-- Fixed-point quotient. -/
def fxDiv (a b : Int) : Int := (a * fxOne) / b

/-- The fixed-point form of m · 2^e. -/
def fxOf (n : Bool) (m : Nat) (e : Int) : Int :=
  let (t, _) := truncShift (if n then -(m : Int) else m) (e + fxBits)
  t

/-- Σ x^i / i! from the term `t = x^k / k!` on. -/
def fxExpSeries (fuel k : Nat) (x t acc : Int) : Int :=
  match fuel with
  | 0 => acc
  | fuel + 1 => fxExpSeries fuel (k + 1) x (fxMul t x / ((k : Int) + 1)) (acc + t)

/-- Σ y^(2i+1) / (2i+1) from the term `p = y^k` on. -/
def fxAtanhSeries (fuel k : Nat) (y2 p acc : Int) : Int :=
  match fuel with
  | 0 => acc
  | fuel + 1 => fxAtanhSeries fuel (k + 2) y2 (fxMul p y2) (acc + p / (k : Int))

/-- ln 2 = 2 atanh(1/3). -/
def fxLn2 : Int := 2 * fxAtanhSeries 230 1 (fxOne / 9) (fxOne / 3) 0

/-- e^x for a fixed-point x, as a mantissa in fixed point and a power of two. -/
def fxExp (x : Int) : Int × Int :=
  let k := x / fxLn2
  (fxExpSeries 120 0 (x - k * fxLn2) fxOne 0, k)

/-- ln of m · 2^e, m nonzero. -/
def fxLog (m : Nat) (e : Int) : Int :=
  let l := Nat.log2 m
  let a : Int := (m * 2 ^ fxBits / 2 ^ l : Nat)
  let y := fxDiv (a - fxOne) (a + fxOne)
  2 * fxAtanhSeries 230 1 (fxMul y y) y 0 + ((l : Int) + e) * fxLn2

/-- Σ (−1)^i z^(2i+1) / (i! (2i+1)) from `t = ± z^(2k+1) / k!` on. -/
def fxErfSeries (fuel k : Nat) (z2 t acc : Int) : Int :=
  match fuel with
  | 0 => acc
  | fuel + 1 => fxErfSeries fuel (k + 1) z2 (-(fxMul t z2) / ((k : Int) + 1)) (acc + t / (2 * (k : Int) + 1))

/-- The square root in fixed point. -/
def fxSqrt (a : Int) : Int := (isqrt (a.toNat * 2 ^ fxBits) : Nat)

/-- π = 16 atan(1/5) − 4 atan(1/239), by the alternating series. -/
def fxAtanInv (fuel k : Nat) (d2 p acc : Int) : Int :=
  match fuel with
  | 0 => acc
  | fuel + 1 => fxAtanInv fuel (k + 2) d2 (-(p / d2)) (acc + p / (k : Int))
def fxPi : Int := 16 * fxAtanInv 160 1 25 (fxOne / 5) 0 - 4 * fxAtanInv 50 1 57121 (fxOne / 239) 0

/-- A value from a fixed-point mantissa and a power of two. -/
def fxVal (a : Int × Int) : Val := Val.ofInt a.1 (a.2 - fxBits)

/-- e^x as a value: a far overflow or underflow is decided without the series. -/
def exactExp (n : Bool) (m : Nat) (e : Int) : Val :=
  if m = 0 then .fin false 1 0
  else if floorLog2 m e ≥ 8 then (if n then .fin false 1 (-1000) else .fin false 1 1000)
  else fxVal (fxExp (fxOf n m e))

/-- tanh x = (1 − e^−2|x|) / (1 + e^−2|x|), near zero by x itself. -/
def exactTanh (n : Bool) (m : Nat) (e : Int) : Val :=
  if m = 0 then .fin n 0 0
  else if floorLog2 m e ≥ 6 then .fin n (2 ^ 64 - 1) (-64)
  else if floorLog2 m e < -60 then .fin n m e
  else
    let (a, k) := fxExp (-2 * fxOf false m e)
    let (t, _) := truncShift a k
    match fxVal (fxDiv (fxOne - t) (fxOne + t), 0) with
    | .fin _ m e => .fin n m e
    | v => v

/-- 1 / (1 + e^−x). -/
def exactSigmoid (n : Bool) (m : Nat) (e : Int) : Val :=
  if m = 0 then .fin false 1 (-1)
  else
    let big := decide (floorLog2 m e ≥ 8)
    if big then (if n then .fin false 1 (-1000) else .fin false (2 ^ 64 - 1) (-64))
    else
      let (a, k) := fxExp (fxOf true m e)
      -- 1/(1+t) for x > 0, t/(1+t) for x < 0, where t = e^−|x|
      let (t, _) := truncShift a k
      if n then fxVal (fxDiv t (fxOne + t), 0) else fxVal (fxDiv fxOne (fxOne + t), 0)

/-- x · ½ · (1 + erf(x/√2)), for −16 < x. -/
def exactGelu (n : Bool) (m : Nat) (e : Int) : Val :=
  if m = 0 then .fin n 0 0
  else if floorLog2 m e < -60 then .fin n m (e - 1)
  else if !n && decide (floorLog2 m e ≥ 4) then .fin n m e
  else
    let x := fxOf n m e
    let z := fxDiv x (fxSqrt (2 * fxOne))
    let erf := fxDiv (2 * fxErfSeries 700 0 (fxMul z z) z 0) (fxSqrt fxPi)
    fxVal (fxMul x (fxOne + erf) / 2, 0)

/-- The exponent of one FP32 ulp of an exact value (2^−149 in the subnormal range). -/
def ulpExp (v : Val) : Int :=
  match v with
  | .fin _ m e => if m = 0 then -149 else max (floorLog2 m e - 23) (-149)
  | _ => -149

/-- True when FP32 code `c` lies within `k` ulp of the exact value. -/
def withinUlp (k : Nat) (v : Val) (c : Nat) : Bool :=
  match v, fromFloat fmtFP32 c with
  | .fin n m e, .fin n' m' e' =>
    let u := ulpExp v
    match Val.add (.fin n m e) (.fin (!n') m' e') with
    | .fin _ d x => !(Val.below (.fin false k u) (.fin false d x))
    | _ => false
  | _, _ => false

/-- A table answer where it keeps the bound of R137, else the exact value rounded. -/
def tableOr (k : Nat) (v : Val) (t : W32) : Nat :=
  if withinUlp k v t.toNat then t.toNat else toArith fmtFP32 v

/-- UNARY 3–9 of an FP32 code, with the special inputs of R138. -/
def unaryTable (func : Nat) (c : Nat) : Nat :=
  let v := fromFloat fmtFP32 c
  let one : Nat := 0x3F800000
  let x := BitVec.ofNat 32 c
  let out (v : Val) : Nat := toArith fmtFP32 v
  match v with
  | .nan => nanCode fmtFP32
  | .inf n =>
    if func = 3 then (if n then 0 else out (.inf false))
    else if func = 4 then (if n then nanCode fmtFP32 else out (.inf false))
    else if func = 5 then one + (if n then 2 ^ 31 else 0)
    else if func = 6 then (if n then 0 else one)
    else if func = 7 then (if n then 2 ^ 31 else out (.inf false))
    else if func = 8 then (if n then 2 ^ 31 else 0)
    else (if n then nanCode fmtFP32 else 0)
  | .fin n m e =>
    if func = 3 then
      let ex := exactExp n m e
      if toArith fmtFP32 ex = (floatFmt fmtFP32).infCode then out (.inf false) else tableOr 2 ex (Config.tableExp x)
    else if func = 4 then
      if m = 0 then out (.inf true)
      else if n then nanCode fmtFP32
      else tableOr 2 (fxVal (fxLog m e, 0)) (Config.tableLog x)
    else if func = 5 then tableOr 3 (exactTanh n m e) (Config.tableTanh x)
    else if func = 6 then tableOr 3 (exactSigmoid n m e) (Config.tableSigmoid x)
    else if func = 7 then
      if n && !(Val.below (.fin true 1 4) v) then 2 ^ 31
      else tableOr 4 (exactGelu n m e) (Config.tableGelu x)
    else if func = 8 then
      if m = 0 then out (.inf n) else tableOr 1 (Val.div (.fin false 1 0) v) (Config.tableRecip x)
    else
      if m = 0 then out (.inf n)
      else if n then nanCode fmtFP32
      else tableOr 1 (Val.div (.fin false 1 0) (Val.sqrt v)) (Config.tableRsqrt x)

end Sys2Proof.Machine
end

