-- ==== Sys2Proof/Machine/NetTypes.lean ====
section
/-! DEFINITION. State of the networks: mesh routers, translation replicas, straights, tadpole routers, windows and
transfers (chapters "Grid, identity and spare placement", "Mesh network", "Straights, multicast, reduction and batons",
"Tadpole control network", "Windows and the far cache"). -/

namespace Sys2Proof.Machine

/-- A mesh packet (R222–R224): header fields, and the fields that its type uses. -/
structure Packet where
  dst : Nat := 0
  src : Nat := 0
  type : Nat := 0
  vc : Nat := 0
  long : Bool := false
  baton : Bool := false
  poison : Bool := false
  ordered : Bool := false
  escape : Bool := false
  relay : Bool := false
  down : Bool := false
  ext : Bool := false
  epoch : Nat := 0
  hops : Nat := 0
  tag : Nat := 0
  window : Nat := 0
  gen : Nat := 0
  offset : Nat := 0
  total : Nat := 0
  group : Nat := 0
  peer : Nat := 0
  extHdr : Nat := 0             -- Silua extension header, 24 bytes
  misc : Nat := 0               -- RFLAGS of a READ_REQ, WMASK of a short WRITE
  bytes : Nat := 0              -- BYTES of an ACK or NACK
  status : Nat := 0
  answers : Nat := 0
  crc : Nat := 0                -- CRC-32C as the last sender computed it (R239)
  payload : Nat := 0            -- 512 payload bytes, or the 32 of a short WRITE, byte 0 lowest
  reserved : Bool := false      -- a reserved bit is set
deriving DecidableEq, Repr

/-- What the check bits of a packet's slot words find (R241): words corrected, words uncorrectable in the payload and in
bytes 0–63. -/
structure SlotEcc where
  corrected : Nat := 0
  payload : Nat := 0
  header : Nat := 0
deriving DecidableEq, Repr

/-- A contribution read out of a port's VC3 slots: the port, and what the check bits found (R241, R275). -/
structure SlotRead where
  port : Nat
  ecc : SlotEcc := {}
deriving DecidableEq, Repr

/-- A calibration of a straight: the waveguides it finds live, and whether it ends here or begins (R257, R261). -/
structure Calibration where
  live : Nat
  ends : Bool := true
deriving DecidableEq, Repr

/-- A packet in a channel slot: its assigned output port and its wait count (R233, R234). -/
structure Held where
  pkt : Packet := {}
  out : Option Nat := none
  wait : Nat := 0
  blocked : Nat := 0            -- network cycles granted to other channels while it could have gone (R228)
deriving DecidableEq, Repr

/-- A packet on a link with its link sequence number (R239). -/
structure LinkPkt where
  seq : Nat := 0
  chan : Nat := 0
  pkt : Packet := {}
deriving DecidableEq, Repr

/-- One port of a mesh router (R221, R227, R229, R239, R240). Channels: 0–3 VC0–VC3, 4 escape; 5,
on the local port, combined reduction packets waiting for their output (R275). -/
structure MeshPort where
  chans : NMap (List Held) := []     -- channel slots of the input side, head first
  wire : List LinkPkt := []          -- packets in flight toward this port
  replay : List LinkPkt := []        -- sent on this port and not yet acknowledged, at most 32
  sendSeq : Nat := 0
  recvSeq : Nat := 0                 -- next sequence number expected
  failing : Bool := false            -- discarding until the replay begins
  onBits : Nat := 0                  -- downstream ON per channel as last reported
  dead : Bool := false
  link : Nat := 0                    -- 0 absent, 1 down, 2 training, 3 up
  turnVc2 : Bool := false
  escDue : Bool := false
  ncCount : Nat := 0
  vc0Recent : List Nat := []         -- network cycles of the last VC0 grants
  rr : NMap Nat := []                -- last input served, per channel
  replayRuns : NMap Nat := []        -- replays performed per sequence number
deriving DecidableEq, Repr

/-- An open reduction slot (R275). -/
structure RedSlot where
  group : Nat := 0
  seq : Nat := 0
  lanes : List Lane := []
  poison : Bool := false
  ports : Nat := 0                   -- neighbour inputs already received
  local_ : Nat := 0                  -- local slots already received
  pkt : Packet := {}                 -- header of the first contribution
deriving DecidableEq, Repr

/-- A mesh router with its local port (R221). -/
structure Router where
  alive : Bool := false
  ports : NMap MeshPort := []
  eject : List (Nat × Packet) := []  -- endpoint buffers of the channels, oldest first: channel, packet (R231)
  red : List RedSlot := []
deriving DecidableEq, Repr

/-- Word 0 of a reduction descriptor that is not in use (R281). -/
def rgEmpty : Nat := 0x700000

/-- A replica of the translation and route tables with its two banks (R30, R232, R286). Route values keep the layout
of the ACT half of their register. -/
structure Replica where
  cur : Nat := 0                     -- epoch of injected packets
  old : Nat := 0
  draining : Bool := false
  ett : NMap Nat := []               -- bit 8 VALID, bits [7:0] physical tile
  ettShd : NMap Nat := []
  mesh : NMap Nat := []
  meshShd : NMap Nat := []
  tad : NMap Nat := []
  tadShd : NMap Nat := []
  relay : NMap Nat := []
  relayShd : NMap Nat := []
  mcast : NMap Nat := []
  mcastShd : NMap Nat := []
  members : NMap Nat := []
  membersShd : NMap Nat := []
  rgW0 : NMap Nat := []
  rgW0Shd : NMap Nat := []
  rgW1 : NMap Nat := []
  rgW1Shd : NMap Nat := []
  rgRoot : NMap (Nat × Nat × Nat) := []   -- DST, WINDOW and GEN of the descriptor's group (R274)
  rgRootShd : NMap (Nat × Nat × Nat) := []
  stale : Bool := false              -- its router or engine came back after a switch it may have missed
  shdValid : Bool := false
  got : Nat := 0                     -- PREPARE and ROUTE messages received in this switch
  drainSent : Bool := false
deriving DecidableEq, Repr

/-- A replica whose shadow banks hold nothing (R33, R36). -/
def Replica.noShadow (r : Replica) : Replica :=
  { r with
    shdValid := false, got := 0, ettShd := [], meshShd := [], tadShd := [], relayShd := [], mcastShd := [], membersShd := []
    rgW0Shd := [], rgW1Shd := [], rgRootShd := [] }

/-- The reply of R308 from EID `from_`. -/
def replyPacket (from_ : Nat) (p : Packet) (bytes status offset answers : Nat) : Packet :=
  { dst := p.src, src := from_, type := if status = 0 then 6 else 7, vc := 0, tag := p.tag, window := p.window
    gen := p.gen, offset := offset, bytes := bytes, status := status, answers := answers }

/-- A frame on a straight: the packet and the straight fields of R249. -/
structure Frame where
  pkt : Packet := {}
  sseq : Nat := 0
  sender : Nat := 0                  -- transmitting port position
  forwarded : Bool := false
  retry : Bool := false
  carried : Bool := false
  origin : Nat := 0
  retryTo : Nat := 0
  rset : Nat := 0
  ctarget : Nat := 0
  tries : NMap Nat := []             -- transmissions to a port beyond the first (R259)
  stream : Bool := false             -- the group's delivery mode is STREAM (R265)
  pending : List Nat := []           -- ports where it has not yet landed
  deliver : Bool := false            -- in a pool: still to be delivered to the tile
  forward : Bool := false            -- in a pool: still to be forwarded
  old : Bool := false                -- in a pool: of a sender whose latch has been cleared, to go first (R266)
deriving DecidableEq, Repr

/-- One port of a straight (R252–R260, R265). -/
structure StraightPort where
  fenced : Bool := false
  first : List Frame := []           -- FIRST pool, 96 frames
  relayed : List Frame := []         -- RELAYED pool
  sseq : Nat := 0
  replay : List Frame := []          -- launched frames, newest 8
  resend : List Frame := []          -- retransmissions asked for
  ownQ : List Frame := []            -- the tile's own frames and carried frames to launch
  retries : List (Nat × Nat) := []   -- (sender, SSEQ) to report in the next status slot
  shownFirst : Bool := true          -- pool states shown in this port's last slot
  shownRelayed : Bool := true
  heard : Bool := false              -- its last slot was good
  missed : Nat := 0                  -- consecutive status cycles without a good slot
  absent : Bool := false
  latched : Option Nat := none
  ownRR : Nat := 16                  -- the requester launched last: 0–15 a store engine, 16 the carried frames (R255)
  offSince : Option Nat := none      -- panel time since which a frame ready to launch waits on OFF (R279)
  slot : Nat := 0                    -- its last status slot, 16 bytes, byte 0 lowest (R253)
  gaps : List (Nat × Nat) := []      -- (sender, SSEQ) of failed frames whose retransmission has not arrived
deriving DecidableEq, Repr

/-- A straight (R247, R253, R261). -/
structure Straight where
  state : Nat := 0                   -- 0 absent, 1 down, 2 calibrating, 3 up
  wg : Nat := 0                      -- live waveguides
  ports : NMap StraightPort := []
  air : List Frame := []             -- frames in flight
  cycle : Nat := 0
deriving DecidableEq, Repr

/-- A tadpole message (R284). -/
structure TMsg where
  dst : Nat := 0
  src : Nat := 0
  type : Nat := 0
  urgent : Bool := false
  rgen : Bool := false
  sub : Nat := 0
  tag : Nat := 0
  payload : Nat := 0
  reserved : Bool := false
  outs : Nat := 0               -- in a router: output ports it has still to take
deriving DecidableEq, Repr

/-- One port of a tadpole router (R283, R287, R292). -/
structure TPort where
  urgentQ : List TMsg := []          -- input side, at most 2
  normalQ : List TMsg := []
  dead : Bool := false
  link : Nat := 0
  lastUrgent : Bool := false         -- the last slot granted on the output side went to urgent
  rrUrgent : Nat := 0
  rrNormal : Nat := 0
  delay : Nat := 0                   -- measured link delay in quarter ns (R296)
  replayTimes : List Nat := []       -- panel times of replays of the last millisecond
  sendSeq : Nat := 0                 -- link sequence number of the next message
  recvSeq : Nat := 0                 -- link sequence number expected
  replay : List TMsg := []           -- sent and not acknowledged, oldest first, at most 8
deriving DecidableEq, Repr

/-- A tadpole router and the queues of its endpoint (R282–R292). -/
structure TRouter where
  alive : Bool := false
  ports : NMap TPort := []
  outUrgent : List TMsg := []        -- endpoint to router
  outNormal : List TMsg := []
  inbox : List TMsg := []            -- router to endpoint, oldest first
  notices : List TMsg := []          -- notice queue, at most 32
  lostFlag : Bool := false           -- the next notice carries bit 63 (R289)
  injU : List Nat := []              -- tadpole cycles of recent urgent injections
  injN : List Nat := []
  rgen : Bool := false
  draining : Bool := false
deriving DecidableEq, Repr

/-- A window entry (R299–R301, R319). -/
structure Window where
  region : Nat := 0
  isOpen : Bool := false
  closing : Bool := false
  gen : Nat := 0
  write : Bool := false
  read : Bool := false
  reduce : Bool := false
  cro : Bool := false
  landing : Bool := false
  notify : Bool := false
  notifySlot : Nat := 0
  notifyToken : Nat := 0
  first : Nat := 0
  rows : Nat := 0
  srcKind : Nat := 0
  partition : Nat := 0
  lo0 : Nat := 0xFFFF
  hi0 : Nat := 0xFFFF
  lo1 : Nat := 0xFFFF
  hi1 : Nat := 0xFFFF
  done : Nat := 0
  failed : Nat := 0
  lastTag : Nat := 0
  lastStatus : Nat := 0
deriving DecidableEq, Repr

/-- A transfer record (R270, R307). -/
structure Xfer where
  ctrl : Bool := false               -- control write: `window` is a region number
  src : Nat := 0
  window : Nat := 0
  gen : Nat := 0
  tag : Nat := 0
  total : Nat := 0
  acc : Nat := 0
  ref : Nat := 0
  baton : Bool := false
  firstStatus : Nat := 0
  firstOff : Nat := 0
  firstType : Nat := 0
  batonOff : Nat := 0
  batonType : Nat := 0
  rows : List Nat := []              -- window or region rows written
deriving DecidableEq, Repr

/-- A reply withheld until the landing slots of its transfer are released (R309). -/
structure Withheld where
  reply : Packet := {}
  rows : List Nat := []              -- store rows still landed
deriving DecidableEq, Repr

/-- A send-tracker entry (R311). -/
structure Track where
  mcast : Bool := false
  target : Nat := 0
  window : Nat := 0
  tag : Nat := 0
  lo : Nat := 0
  hi : Nat := 0
  left : Nat := 1                    -- replies still to come
  since : Nat := 0
  reported : Bool := false
deriving DecidableEq, Repr

/-- A control-write transfer sent and not yet acknowledged (R306): the copy of a MIRROR region to its shadow. -/
structure CtrlSent where
  dst : Nat := 0                     -- tile control-block EID
  region : Nat := 0                  -- region there
  src : Nat := 0                     -- the sender's own region
  tag : Nat := 0
  rows : Nat := 0
  since : Nat := 0
  waiting : Bool := true             -- no reply and no timeout yet
  fails : Nat := 0
deriving DecidableEq, Repr

/-- A line of the far cache (R315). -/
structure FarLine where
  eid : Nat := 0
  window : Nat := 0
  gen : Nat := 0
  row : Nat := 0
  data : Nat := 0
deriving DecidableEq, Repr

end Sys2Proof.Machine
end

