-- ==== Sys2Proof/Machine/HubTypes.lean ====
section
/-! DEFINITION. State of the hubs and of the lead hub's firmware: queue pairs, commands, stream contexts, egress windows,
partitions, groups, jobs, the epoch switch, the global log (chapters "Ingest and egress stages", "Host link and queues",
"Command set", "Grid, identity and spare placement", "Register reference"). -/

namespace Sys2Proof.Machine

/-- A command fetched and not yet finally answered (R357, R358). -/
structure Cmd where
  raw : Nat := 0                -- the 64-byte packet, byte 0 lowest
  num : Nat := 0                -- a number of its own among the pair's commands
  fetched : Nat := 0            -- panel time of the fetch
  started : Bool := false
  accepted : Bool := false      -- its first reply said ACCEPTED: a job's command, in flight until the job ends
deriving DecidableEq, Repr

/-- A reply waiting to be written (R367). -/
structure Reply where
  num : Nat := 0
  cmdId : Nat := 0
  status : Nat := 0
  more : Bool := false
  irq : Bool := false           -- IRQ_ON_DONE applies to it
  later : Bool := false         -- not its command's first reply: no CQ slot is reserved for it (R358)
  field : Nat := 0
  result : Nat := 0
  handle : Nat := 0
deriving DecidableEq, Repr

/-- A queue pair whose command works on flash: the pair, and whether the flash device answers with an error (R377). -/
structure FlashPair where
  pair : Nat
  fail : Bool := false
deriving DecidableEq, Repr

/-- A queue pair's counts and state (R350–R360). -/
structure QP where
  state : Nat := 0              -- 0 DISABLED, 1 ENABLED, 2 DRAINING, 3 ERROR
  cause : Nat := 0
  drainCause : Nat := 0         -- cause the pair enters DISABLED with
  sqTail : Nat := 0
  sqHead : Nat := 0
  cqTail : Nat := 0
  cqHead : Nat := 0
  cmds : List Cmd := []         -- fetched, not finally answered, in SQ order
  replies : List Reply := []    -- waiting to be written, oldest first
  unsignalled : Nat := 0        -- replies since the last interrupt (R360)
  firstAt : Nat := 0            -- panel time of the first of them
  nextNum : Nat := 0            -- the number the next command takes
deriving DecidableEq, Repr

/-- An MSI-X table entry (R343, R345). Log entry 85. -/
structure Msix where
  addr : Nat := 0
  data : Nat := 0
  masked : Bool := true
  pending : Bool := false
deriving DecidableEq, Repr

/-- A picture decoded and waiting for delivery: its item payloads, or the handling of a decode error (R330, R332, R334). -/
structure Picture where
  items : List Nat := []        -- each item's rows as one number of 512 × ITEM_ROWS bytes
  poison : Bool := false        -- every row is sent poisoned
  again : Bool := false         -- the last good picture is sent again
  due : Nat := 0                -- panel time by which R336 wants it delivered
deriving DecidableEq, Repr

/-- An item received by an egress window and held until it is written to its target (R337, R340). -/
structure EgItem where
  item : Nat := 0
  reply : Packet := {}          -- the withheld reply
  time : Nat := 0               -- panel time at its last row
  full : Bool := false          -- counted as held on a full host ring
deriving DecidableEq, Repr

/-- A stream context (R325, R331–R335, R338, R361). -/
structure Context where
  record : Nat := 0             -- the 64 bytes as opened
  isOpen : Bool := false
  tail : Nat := 0               -- input ring tail (JOB_FEED)
  head : Nat := 0               -- input entries consumed, or host slots written
  freed : Nat := 0
  items : Nat := 0              -- items delivered or written
  fed : List (Nat × Nat) := []  -- tails fed and not yet passed, with the panel time of each
  unit_ : Nat := 0              -- bytes of the unit being gathered
  unitLen : Nat := 0
  unitBad : Bool := false       -- a chunk of it could not be read
  fresh : Bool := false         -- DISCONT applies to it
  ready : List (Nat × Nat × Bool × Nat) := []  -- Ethernet: complete units: bytes, length, DISCONT, panel time of the last byte
  decoder : Nat := 0            -- decoder state after the last unit
  needKey : Bool := true        -- waiting for an IRAP picture, a key frame or a JPEG image
  broken : Bool := false        -- a decode error since the last of these
  good : List Nat := []         -- the items of the last good delivered picture
  waiting : List Picture := []  -- decoded, not yet delivered
  nextItem : Nat := 0           -- items of the first waiting picture already sent
  pictures : Nat := 0           -- decoded so far (DIVIDER)
  unanswered : List Nat := []   -- items sent and not yet answered
  poisoned : List Nat := []     -- uncommitted items sent poisoned
  replayFrom : Option Nat := none    -- next item to send again (R333)
  committed : Nat := 0          -- items below which no replay is needed
  held : List EgItem := []      -- egress: items received and held
  toPeer : List EgItem := []    -- egress: items sent to a Silua peer and not yet answered
deriving DecidableEq, Repr

/-- A partition (R380). -/
structure Partition where
  tiles : Nat := 0              -- mask of logical tiles
deriving DecidableEq, Repr

/-- A multicast group as host software set it (R262, R387). -/
structure McGroup where
  holder : Nat := 0             -- tile-store or hub EID
  group : Nat := 0
  axis : Nat := 0
  mode : Nat := 0
  members : List Nat := []
  partition : Nat := 0
  rset : Nat := 0
deriving DecidableEq, Repr

/-- A reduction group as host software set it (R272, R388). -/
structure RGroup where
  group : Nat := 0
  op : Nat := 0
  reserve : Nat := 1
  g : Nat := 0
  contributors : List Nat := []
  root : Nat := 0
  window : Nat := 0
  gen : Nat := 0
  partition : Nat := 0
deriving DecidableEq, Repr

/-- A job table entry (chapter "Command set"). -/
structure JobEntry where
  slot : Nat := 0               -- core-slot EID
  base : Nat := 0
  len : Nat := 0
  phase : Nat := 0              -- cc
deriving DecidableEq, Repr

/-- Job states (R392). -/
inductive JobState where
  | idle | loading | running | hold | replaying | done | failed
deriving DecidableEq, Repr

/-- The parameters a job was started with (chapter "Command set", R217). -/
structure JobSpec where
  partition : Nat := 0
  table : List JobEntry := []
  prefOpp : Nat := 0
  watch : Bool := false
  stopOnMiss : Bool := false
  hostCommit : Bool := false
  bubble : Bool := false
  lapCc : Nat := 0
  runs : Nat := 0
  stepLaps : Nat := 1
  outputEid : Nat := 0
  frameLaps : Nat := 0
  cadence : Nat := 0
  tolerance : Nat := 0
  statusAddr : Option Nat := none
  hub : Nat := 0                -- where its second reply goes
  qp : Nat := 0
  num : Nat := 0
  cmdId : Nat := 0
  irq : Bool := false
deriving DecidableEq, Repr

/-- The frame watchdog of a job (R219). -/
structure Watchdog where
  anchored : Bool := false
  f0 : Nat := 0
  t0 : Nat := 0
  reported : List Nat := []
  highest : Nat := 0            -- largest frame number judged
deriving DecidableEq, Repr

/-- The commit of a step in progress (R398). -/
structure Commit where
  step : Nat := 0
  copying : Bool := false       -- MIRROR regions are being copied to their shadows (R490)
  waitTiles : List Nat := []    -- physical tiles whose commit sweep still runs
deriving DecidableEq, Repr

/-- A job slot (R391–R403). -/
structure Job where
  spec : JobSpec := {}
  state : JobState := .idle
  holdCause : Nat := 0          -- 0 NONE, 1 THERMAL, 2 COMMIT, 3 EPOCH
  before : Nat := 0             -- the HOLD_CAUSE a THERMAL hold replaced, 0 for none
  lastEvent : Nat := 0
  failStatus : Nat := 0
  seq : Nat := 0
  serial : Nat := 0
  lapsDone : Nat := 0
  lapsCommitted : Nat := 0
  replays : Nat := 0
  misses : Nat := 0
  missFrame : Nat := 0
  missNs : Nat := 0
  poisonSteps : Nat := 0
  opp : Nat := 0
  stopped : Bool := false
  faultEid : Nat := 0
  time : Nat := 0               -- panel time of the last update
  endedAt : Nat := 0
  t0 : Nat := 0
  ends : NMap (List Nat) := []  -- per step, the slots that have reported its end
  poison : List Nat := []       -- steps with poison reported
  commit : Option Commit := none
  asked : List (Nat × Bool) := []    -- STEP_COMMIT received: step, ACCEPT_POISON
  stopAtStep : Option Nat := none  -- JOB_STOP with AT_STEP: the step whose commit stops the job (R402)
  stopping : Bool := false      -- LAP_STOP has gone to its slots
  stopFail : Nat := 0           -- the status it fails with once stopped, 0 for DONE
  holdFor : Nat := 0            -- the HOLD_CAUSE it takes once its cores have frozen (R398, R498)
  frozeAt : Nat := 0            -- panel time of the last FREEZE
  cutAt : Option Nat := none    -- panel time of the last CUT (R565)
  purgedAt : Option Nat := none -- panel time of the GROUP_PURGE of the replay under way (R286)
  rewinds : Nat := 0            -- replays of the oldest uncommitted step in a row (R483)
  marks : NMap (List (Nat × Nat × Nat)) := []  -- per ended step, the items each ingest context needs no more (R333)
  wd : Watchdog := {}
deriving DecidableEq, Repr

/-- What a command still waits for before its final reply. -/
inductive WaitFor where
  | fill (tile : Nat)                       -- the tile's fills end (R161, R383)
  | release (tile region : Nat)             -- a region's release ends (R157)
  | invalidate (eid window gen : Nat)       -- a CRO close ends (R317)
  | stepCommit (job step : Nat)             -- R400
  | jobStop (job : Nat)                     -- R402
  | phase (job : Nat)                       -- R403
  | shed (key logical : Nat)                -- the unit, and the logical tile it serves, 256 for none (R379)
  | firmware                                -- R377
  | replay (job : Nat)                      -- R401
  | reset_ (partition : Nat)                -- PARTITION_RESET, until its jobs have ended (R381)
  | regs (dst tag : Nat)                    -- REG_READ or REG_WRITE of a tile (R375)
deriving DecidableEq, Repr

/-- A command waiting for an event: which pair and command, and the reply it will give. -/
structure Wait where
  hub : Nat := 0
  qp : Nat := 0
  num : Nat := 0
  for_ : WaitFor := .firmware
  reply : Reply := {}
deriving DecidableEq, Repr

/-- An epoch switch in progress at the lead hub (R33–R36). -/
structure Switch where
  epoch : Nat := 0              -- the new epoch
  phase : Nat := 1              -- 1 PREPARE sent, 2 COMMIT sent, 3 draining
  changes : List (Nat × Nat) := []         -- logical tile, new physical tile (256 none)
  sent : NMap Nat := []         -- PREPARE and ROUTE messages sent per replica
  routes : NMap (List (Nat × Nat × Nat)) := []   -- per replica: TABLE, INDEX, VALUE
  mcs : List McGroup := []      -- the multicast groups with the relay sets the new epoch gives them (R267)
  invalid : List (Nat × Nat × Nat) := []         -- groups the new epoch leaves invalid: group, kind, holder (R374)
  wait : List Nat := []         -- replicas still to answer
  drained : List Nat := []      -- routers that have drained
  since : Nat := 0              -- panel time of the phase's messages
deriving DecidableEq, Repr

/-- A global log entry (R541). -/
structure LogEntry where
  seq : Nat := 0
  code : Nat := 0
  severity : Nat := 0
  origin : Nat := 0
  time : Nat := 0
  unit_ : Nat := 0
  detail : Nat := 0
deriving DecidableEq, Repr

/-- A register request a hub has sent and not yet seen answered (R292). -/
structure RegReq where
  dst : Nat := 0
  tag : Nat := 0
  write : Bool := false
  off : Nat := 0
  data : Nat := 0
  since : Nat := 0
  resent : Bool := false
deriving DecidableEq, Repr

/-- A hub (chapters 14, 15, 23): registers, queue pairs, contexts, egress. -/
structure Hub where
  live : Bool := false          -- its main logic is out of reset and it is not lost
  regs : NMap Nat := []         -- changeable register bits by BAR0 offset
  qps : NMap QP := []
  pairCause : Nat := 0          -- CAUSE of a pair that `qps` does not list: how it last entered DISABLED (R349, R365)
  msix : NMap Msix := []
  busMaster : Bool := false
  memSpace : Bool := false
  maskAll : Bool := false
  linkRate : Nat := 0
  linkWidth : Nat := 0
  ready : Bool := false
  bound : Bool := false
  missing : Nat := 0
  bindLo : Nat := 0
  bind : Option Nat := none
  latched : NMap Nat := []      -- captured HI words of latched pairs (R534)
  ctxs : NMap Context := []
  egress : NMap Window := []    -- egress windows; FIRST and ROWS in pool rows
  exfers : List Xfer := []      -- transfer records of the egress windows
  pool : Mem := []              -- egress pool, byte b of pool row r at 512 r + b
  poolPoison : List Nat := []   -- pool rows received poisoned
  sram : Mem := []              -- hub memory as the debug port reaches it (R530)
  reqs : List RegReq := []
  mirrorOff : Int := 0          -- the non-lead hub's mirror of panel time minus panel time
  mirrorSlew : Int := 0
  heard : Nat := 0              -- panel time of the other hub's last heartbeat
  fetchRR : Nat := 0            -- the pair served last by fetching
  mctp : Option Nat := none     -- an MCTP response not yet read; SMB_ALERT_N is asserted while one is held (R554)
deriving DecidableEq, Repr

end Sys2Proof.Machine
end

