-- ==== Sys2Proof/Machine/PanelTypes.lean ====
section
/-! DEFINITION. State of the tile links, optical engines, power delivery, cooling, health scores, recovery, flash and boot
(chapters "Tile links" to "Start-up, flash and clocks"). -/

namespace Sys2Proof.Machine

/-- A lane group of a link as its receiver mapped it (R409, R418). -/
structure LaneGroup where
  bad : Nat := 0                -- lanes failed at the last test; the highest lane is the spare
  replaced : Nat := 0
  spareUsed : Bool := false
  live : Bool := false
deriving DecidableEq, Repr

/-- What a training finds for the lanes that one end receives (R408–R411): the failed lanes of each group (bit 16 the
spare lane), groups outside the link's tolerance, the failed control lanes (bit 2 the spare), the end's protocol version
and the measured round trip of the control channel in nc. -/
structure LaneTest where
  bad : List Nat := []
  late : Nat := 0
  ctrlBad : Nat := 0
  version : Nat := 0
  trip : Nat := 0
deriving DecidableEq, Repr

/-- The receiving end of a tile or hub link (R404–R419). -/
structure TileLink where
  phase : Nat := 0              -- 0 idle, 1 lock, 2 lane test, 3 lane map, 4 deskew, 5 capability, 6 up
  rxWidth : Nat := 0
  txWidth : Nat := 0
  version : Nat := 0
  hubLink : Bool := false
  groups : NMap LaneGroup := []
  ctrlBad : Nat := 0            -- control lanes failed; bit 2 is the spare
  ctrlLost : Bool := false
  txSpared : Nat := 0           -- the partner's RX_SPARED as it reported it
  txLost : Nat := 0
  cause : Nat := 0
  lastNs : Nat := 0
  lastTime : Nat := 0
  since : Nat := 0              -- panel time at which the running training began
  roundTrip : Nat := 0          -- measured control-channel round trip, nc
  caps : Nat := 0               -- the partner's capability bitmap
  tries : Nat := 0              -- full trainings failed in a row at boot step 7
  retrainTimes : List Nat := [] -- panel times of the retrains of the last second
  ctrlTimes : List Nat := []    -- panel times of control-word errors of the last millisecond
  replayTimes : List Nat := []  -- panel times of replays of the last millisecond
  lockLost : Bool := false      -- a lane has lost lock since the last training
  full : Bool := false          -- the training under way is a full one
  bootRetrains : Nat := 0       -- counts since boot (R419)
  bootCrc : Nat := 0
  bootReplays : Nat := 0
  bootCtrl : Nat := 0
deriving DecidableEq, Repr

/-- The masks of groups whose spare is in use, and of groups lost (R418). -/
def TileLink.spared (l : TileLink) : Nat := maskOf ((l.groups.filter (fun g => g.2.spareUsed)).map (fun g => g.1))
def TileLink.lost (l : TileLink) : Nat :=
  if l.groups = [] then 0 else maskOf ((l.groups.filter (fun g => !g.2.live)).map (fun g => g.1))
/-- The control spare lane is in use. -/
def TileLink.ctrlSpared (l : TileLink) : Bool := !l.ctrlLost && bitOf l.ctrlBad 0 || !l.ctrlLost && bitOf l.ctrlBad 1
/-- RX_SPARED with CTRL. -/
def TileLink.rxSpared (l : TileLink) : Nat := l.spared + 2 ^ 18 * bitNat l.ctrlSpared
def TileLink.degraded (l : TileLink) : Bool := l.phase = 6 && (l.rxWidth ≠ 18 || l.txWidth ≠ 18)
/-- The port's link ends at a hub (R221). -/
def hubPort (t p : Nat) : Bool := decide ((t % 16 = 0 ∧ p = 3) ∨ (t % 16 = 15 ∧ p = 1))
/-- A link register of R418 read at offset `off` of the port's block; `v` holds its changeable bits. -/
def TileLink.reg (l : TileLink) (t port off v : Nat) : Nat :=
  if off = 0x00 then
    l.phase + 2 ^ 3 * l.rxWidth + 2 ^ 8 * l.txWidth + 2 ^ 16 * l.version + 2 ^ 20 * bitNat l.degraded +
      2 ^ 21 * bitNat (hubPort t port)
  else if off = 0x04 then l.rxSpared
  else if off = 0x08 then l.lost
  else if off = 0x0C then l.txSpared
  else if off = 0x10 then l.txLost
  else if off = 0x1C then l.lastNs % 2 ^ 24 + 2 ^ 24 * l.cause
  else if 0x100 ≤ off && off < 0x100 + 72 && off % 4 = 0 then
    let g := NMap.get {} l.groups ((off - 0x100) / 4)
    g.bad + 2 ^ 17 * g.replaced + 2 ^ 21 * bitNat g.spareUsed + 2 ^ 22 * bitNat g.live
  else v

/-- A cell on a Silua link (R425). -/
structure Cell where
  seq : Nat := 0
  ack : Nat := 0
  long : Bool := false
  ackValid : Bool := false
  replay : Bool := false
  idle : Bool := false
  cls : Nat := 0                -- credit class the CREDITS field names
  hop : Nat := 0
  credits : Nat := 0
  pkt : Packet := {}
deriving DecidableEq, Repr

/-- A port of an optical engine (R420, R424–R428, R434–R437). -/
structure OptPort where
  role : Nat := 0               -- 0 RESERVE, 1 SILUA, 2 ETHERNET
  breakout : Bool := false
  lanes : Nat := 0              -- mask of live lanes
  link : Nat := 0               -- 0 down, 1 training, 2 up, 3 PEER_MISMATCH
  peer : Nat := 0
  version : Nat := 0
  sendSeq : Nat := 0
  recvSeq : Nat := 0
  failing : Bool := false       -- discarding until the replay begins
  replay : List Cell := []      -- sent and not yet acknowledged, at most 512
  waiting : List Cell := []     -- cells waiting for credits or replay space
  sent : List Cell := []        -- cells put on the fibre and not yet taken off it by the outside
  credits : NMap Nat := []      -- credits held, by credit class
  replayTimes : List Nat := []
  replayRuns : NMap Nat := []
  rtp : NMap Nat := []          -- next RTP sequence number by steering rule
  since : Nat := 0              -- panel time at which the running training began
  lastTime : Nat := 0           -- end, duration and cause of the last training, and counts since boot (R419, R437)
  lastNs : Nat := 0
  cause : Nat := 0
  bootRetrains : Nat := 0
  bootErr : Nat := 0
  bootReplays : Nat := 0
deriving DecidableEq, Repr

/-- A laser input (R422). -/
structure Laser where
  power : Nat := 0              -- 0.01 dBm, two's complement, 16 bits
  warn : Bool := false
  alarm : Bool := false
  failed : Nat := 0             -- failed samples in a row
  warnMinute : Nat := 0         -- minute of the last scored warning, plus one
deriving DecidableEq, Repr

/-- An entry of the return map (R432). Log entry 43. -/
structure Return where
  peer : Nat := 0
  pwin : Nat := 0
  tag : Nat := 0
  offset : Option Nat := none   -- for a READ_REQ
  eid : Nat := 0
  since : Nat := 0
  partition : Nat := 0
deriving DecidableEq, Repr

/-- An optical engine. -/
structure Engine where
  live : Bool := false
  ports : NMap OptPort := []
  lasers : NMap Laser := []
  back : List Return := []      -- at most 8,192
  expired : Nat := 0            -- RETURN_EXPIRED (R432)
  regs : NMap Nat := []         -- changeable register bits by offset within the engine's 4 KiB
deriving DecidableEq, Repr

/-- A feed (R438, R452). -/
structure Feed where
  volts : Nat := 0
  amps : Nat := 0
  qualified : Bool := false
  overV : Bool := false
  underV : Bool := false
deriving DecidableEq, Repr

/-- An intermediate bus converter (R442, R452). -/
structure Ibc where
  state : Nat := 0              -- 0 off, 1 soft-start, 2 on, 3 latched off
  limit : Bool := false
  temp : Nat := 0
  outAmps : Nat := 0
  outMv : Nat := 0
deriving DecidableEq, Repr

/-- A power domain (R441, R450, R451). -/
structure Domain where
  state : Nat := 0              -- 0 off, 1 powering up, 2 on, 3 LOST
  pauses : Nat := 0
deriving DecidableEq, Repr

/-- A region power-up in progress (R450). -/
structure PowerUp where
  region : Nat := 0
  since : Nat := 0
  elapsed : Nat := 0            -- time in the sequence, pauses left out
  paused : Option Nat := none   -- panel time of the last DROOP notice while paused
deriving DecidableEq, Repr

/-- Feeds, converters, domains, caps and the power manager (chapters "Power delivery", "Power caps, operating points and
cooling"). -/
structure PanelPower where
  standby : Bool := false       -- the standby rail is up
  feeds : NMap Feed := []
  ibc : NMap Ibc := []
  domains : NMap Domain := []
  up : Option PowerUp := none
  upQueue : List Nat := []      -- regions still to power up
  regs : NMap Nat := []         -- RC counters of the PANEL registers by BAR0 offset
  hostCap : Nat := 20000
  rackCap : Nat := 12000
  rackState : Nat := 0          -- 0 NONE, 1 CONTACT, 2 HOLDING, 3 SAFE
  heartbeatS : Nat := 10
  lastContact : Nat := 0
  lostAt : Nat := 0
  vFeed : Nat := 0              -- voltage of the one qualified feed over the last 100 µs, 10 mV per code
  coolCap : Nat := 20000
  coolInlet : Bool := false     -- the inlet term is the lesser
  inForce : Nat := 20000
  limiter : Nat := 0
  p10 : Nat := 0                -- panel power, 10 ms average, W
  p1 : Nat := 0                 -- panel power, 1 s average, W
  overSince : Option Nat := none     -- panel power above the cap in force since (R464)
  oppWait : List (Nat × Nat) := []   -- job slots with an operating-point change pending, and the point
  tileW : NMap Nat := []        -- mW of each tile as last measured (R457)
  ceil : NMap Nat := []         -- ceiling the PMC last set per tile, 64 where none
  alloc : NMap Nat := []        -- ALLOC the PMC last set per tile, 11,000 where none
  rates : NMap Nat := []        -- bubble rate last set per job slot (R461)
  bubbled : NMap Nat := []      -- the slots of each tile kept at ceiling 64 for BUBBLE jobs (R461)
deriving DecidableEq, Repr

/-- Hold (R471, R472). -/
structure Hold where
  since : Nat := 0
  cause : Nat := 0
  goodSince : Option Nat := none     -- flow at 85 % on every sample since
deriving DecidableEq, Repr

/-- Coolant sensing and the cooling states (R466–R472). -/
structure Cooling where
  inlet : Nat := 0
  outlet : Nat := 0
  flow : Nat := 0
  status : Nat := 0
  seq : Option Nat := none      -- SEQ of the last read
  good : Bool := false          -- a good sample has been read
  fails : Nat := 0
  state : Nat := 0              -- 0 NORMAL, 1 SLOW_FALL, 2 SENSOR_LOST, 3 HOLD, 4 POWERED_DOWN
  pump : Bool := false          -- PUMP_FAULT_N or PUMP_FAULT asserted
  pumpLow : Nat := 0            -- low samples of PUMP_FAULT_N in a row
  mismatch : Bool := false
  heat : Nat := 0
  unequal : Nat := 0            -- comparisons in a row beyond 15 % (R468)
  flows : List Nat := []        -- the last three samples
  predict : Option Nat := none  -- ms to 105 °C
  cold : Bool := false          -- the last good sample had INLET below 15 °C
  hold : Option Hold := none
  rising : List (Nat × Nat) := []    -- RISING notices: tile, panel time
  heats : List Int := []        -- heat removed in W at the last 100 samples (R468)
  fedW : List Nat := []         -- feed power in W at the last 100 samples
  coolSince : Option Nat := none     -- flow restored with INLET at or below 40 °C since (R472)
deriving DecidableEq, Repr

/-- A scored unit (R495–R502). Scores count 1/256 points. -/
structure Unit_ where
  base : Nat := 0               -- the score when an event last added to it
  baseAt : Nat := 0             -- panel time of that sample
  score : Nat := 0              -- the score at the last sample
  peak : Nat := 0
  events : Nat := 0
  lastCode : Nat := 0
  lastTime : Nat := 0
  watch : Option Nat := none    -- panel time of entry to watch
  shed : Option Nat := none     -- panel time of shedding
  draining : Option Nat := none -- panel time of the drain's start
  hard : Bool := false
  host : Bool := false
  held : Bool := false
  heldAt : Nat := 0             -- score at which it was last considered
  gains : List (Nat × Nat) := []     -- points gained in the last 60 s: panel time, 1/256 points
deriving DecidableEq, Repr

/-- Health scores and the storm limiter (R495–R501). Units are numbered 2^32 × KIND + 2^16 × WHERE + SUB. -/
structure Health where
  units : NMap Unit_ := []
  counts : NMap Nat := []       -- the health mirror: events since the last sample, by 32 × unit + event
  sampled : Nat := 0            -- panel time of the last sample
  removals : List Nat := []     -- panel times of score-driven removals
  removed : Nat := 0            -- removals in the last 24 h at the last sample
  frozenUntil : Option Nat := none
  ringTime : Nat := 0
deriving DecidableEq, Repr

/-- A tile that takes a logical tile over and still has to be rebuilt (R487). -/
structure Regrown where
  logical : Nat := 0
  old : Nat := 0                -- physical tile that served it
  now_ : Nat := 0               -- physical tile that serves it
  drain : Bool := false         -- rebuilt wholly from the old tile's store (R498)
deriving DecidableEq, Repr

/-- Recoveries in progress (R481, R482, R487, R488, R498). -/
structure Recovery where
  later : List Nat := []        -- job slots whose replay begins once they run again
  regrown : List Regrown := []
  starting : List (Nat × Nat × Nat) := []      -- restarted slots not yet rewound: tile, slot, panel time
  awaited : List (Nat × Nat) := []             -- takeovers not yet ready: tile, slot
  damaged : List (Nat × Nat) := []             -- regions whose authoritative copy counts as damaged: tile, region (R188)
deriving DecidableEq, Repr

/-- A firmware image (R518): header and body, byte 0 lowest. -/
structure Image where
  header : Nat := 0
  body : Nat := 0
  len : Nat := 0                -- total bytes, 0 where the bank is empty
deriving DecidableEq, Repr

/-- A configuration record (R514). -/
structure ConfRec where
  seq : Nat := 0
  len : Nat := 0
  value : Nat := 0
deriving DecidableEq, Repr

/-- A hub's flash (R512–R517). -/
structure Flash where
  active : Nat := 0             -- 0 A, 1 B
  try_ : Option Nat := none
  tries : Nat := 0
  rollbackSeen : Nat := 0
  banks : NMap Image := []
  conf : NMap ConfRec := []     -- live record by TYPE
  rowMap : List (Nat × Nat × Nat × Nat) := []  -- physical tile, bank, bank row, action
  shedMap : List (Nat × Nat × Nat × Nat × Nat × Nat) := []    -- KIND, WHERE, SUB, state, logical tile, time
  ring : NMap Nat := []         -- newest health snapshot: score by unit
  ringTime : Nat := 0
deriving DecidableEq, Repr

/-- What the tests of a boot step find (R507, R508): the hub's reference and flash at step 3; at step 6 tiles that fail,
per tile a mask of cores that fail, and the rows that test fuses map, as tile, bank, bank row, spare row or 0xFE for a
hole (R170, R189); at step 10 the live waveguides of straights, all four where not listed; at step 11 the
live lanes of Ethernet ports, as engine, port, mask. -/
structure BootRes where
  refOk : Bool := true
  flashOk : Bool := true
  tiles : List Nat := []
  cores : List (Nat × Nat) := []
  fuses : List (Nat × Nat × Nat × Nat) := []
  straights : List (Nat × Nat) := []
  ports : List (Nat × Nat × Nat) := []
deriving DecidableEq, Repr

/-- A hub's boot state (R505–R532). -/
structure BootHub where
  step : Nat := 0
  bank : Nat := 0
  trial : Bool := false
  recovery : Bool := false
  recBusy : Bool := false
  recStatus : Nat := 0
  staged : Bool := false        -- the inactive bank holds a staged image (R377)
  unlocked : Bool := false
  refusals : Nat := 0
  challenge : Option Nat := none
  peer : Bool := false
  refOk : Bool := true
  version : Nat := 0
  fuse : Nat := 0               -- ROLLBACK_FUSE
  revoked : Nat := 0            -- revocation bits of the four keys
  armed : Option Nat := none    -- panel time at which the boot watchdog was armed
  claimWait : Option Nat := none     -- the east hub waits for LEAD_CLAIM since
  claim : Bool := false         -- a LEAD_CLAIM is on the sideband toward this hub
  cpHalted : Nat := 0           -- control processors halted by a debugger (bits 0–3)
  excluded : Bool := false
deriving DecidableEq, Repr

/-- Start-up, flash, fuses and clocks. -/
structure Boot where
  panelId : Nat := 0
  since : Nat := 0              -- panel time at which the boot sequence began
  stepAt : Nat := 0             -- panel time at which the last step was completed
  hubs : NMap BootHub := []
  flash : NMap Flash := []
  feature : Nat := 0
  fixed : Bool := false
  caps : NMap Nat := []         -- capability bitmap of each die, 0–255 tiles, 256 and 257 hubs
  leadKnown : Bool := false
  ready : Bool := false         -- step 12 reached with the set of R504
  begun : Nat := 0              -- the step begun and not yet completed, 0 for none
  restartAt : Option Nat := none     -- a FIRMWARE reset is due by this panel time (R377)
  partial_ : Bool := false      -- the steps under way are 6–10 after a cooling power-down (R472)
  macBase : Nat := 0            -- MAC_BASE of the role map in force (R423)
  fuses : List (Nat × Nat × Nat × Nat) := []   -- rows that test fuses map, as step 6 read them (R189)
  ivrCal : Option Nat := none   -- IVR_CAL as it was at the last start-up (R448, R515)
deriving DecidableEq, Repr

end Sys2Proof.Machine
end

