-- ==== Sys2Proof/Machine/RegTable.lean ====
section
/-! DEFINITION. The register tables of the spec as data: for each register its offsets, the masks of its RW, RC, W1C and
W1S bits (R7) and its reset value where the spec gives a nonzero one to a bit that can change by an access. Fields that
only read (RO) are computed from the state when the register is read. -/

namespace Sys2Proof.Machine

/-- One register, repeated `n1` times at stride `s1` and `n2` times at stride `s2`. -/
structure RegRow where
  base : Nat
  n1 : Nat
  s1 : Nat
  n2 : Nat
  s2 : Nat
  rw : Nat
  rc : Nat
  w1c : Nat
  w1s : Nat
  reset : Nat
deriving DecidableEq, Repr

/-- Registers of the core space, part 0. -/
def coreRows0 : List RegRow := [
  -- TILE_CORE_STATE (R60)
  ⟨0x0, 1, 0x0, 1, 0x0, 0x0, 0x0, 0x0, 0x0, 0x0⟩,
  -- TILE_CORE_CTRL (R60)
  ⟨0x4, 1, 0x0, 1, 0x0, 0x0, 0x0, 0x0, 0x3F, 0x0⟩,
  -- TILE_LAP_PROG (R60)
  ⟨0x8, 1, 0x0, 1, 0x0, 0x3FF03FF, 0x0, 0x0, 0x0, 0x0⟩,
  -- TILE_LAP_LENGTH (R60)
  ⟨0xC, 1, 0x0, 1, 0x0, 0xFFFFFF, 0x0, 0x0, 0x0, 0x0⟩,
  -- TILE_LAP_COUNT (R60)
  ⟨0x10, 1, 0x0, 1, 0x0, 0xFFFFFFFF, 0x0, 0x0, 0x0, 0x0⟩,
  -- TILE_LAP_INDEX (R60)
  ⟨0x14, 1, 0x0, 1, 0x0, 0x0, 0x0, 0x0, 0x0, 0x0⟩,
  -- TILE_LAP_SLIPS (R60)
  ⟨0x18, 1, 0x0, 1, 0x0, 0x0, 0xFFFFFFFF, 0x0, 0x0, 0x0⟩,
  -- TILE_LAP_WORST (R60)
  ⟨0x1C, 1, 0x0, 1, 0x0, 0x0, 0xFFFFFF, 0x0, 0x0, 0x0⟩,
  -- TILE_CORE_FAULT (R60)
  ⟨0x20, 1, 0x0, 1, 0x0, 0x0, 0x0, 0x0, 0x0, 0x0⟩,
  -- TILE_CORE_IRQ_PEND (R60)
  ⟨0x24, 1, 0x0, 1, 0x0, 0x0, 0x0, 0xFF, 0x0, 0x0⟩,
  -- TILE_CORE_DOORBELL (R60)
  ⟨0x28, 1, 0x0, 1, 0x0, 0x0, 0x0, 0x0, 0x0, 0x0⟩,
  -- TILE_CORE_DOORBELL_HI (R60)
  ⟨0x2C, 1, 0x0, 1, 0x0, 0x0, 0x0, 0x0, 0x0, 0x0⟩,
  -- TILE_CORE_TIMECMP (R60)
  ⟨0x30, 1, 0x0, 1, 0x0, 0xFFFFFFFF, 0x0, 0x0, 0x0, 0xFFFFFFFF⟩,
  -- TILE_CORE_TIMECMP_HI (R60)
  ⟨0x34, 1, 0x0, 1, 0x0, 0xFFFFFFFF, 0x0, 0x0, 0x0, 0xFFFFFFFF⟩,
  -- TILE_NUMERIC_STATUS (R96)
  ⟨0x38, 1, 0x0, 1, 0x0, 0x0, 0x0, 0x7F, 0x0, 0x0⟩,
  -- TILE_MATRIX_STATUS (R122)
  ⟨0x3C, 1, 0x0, 1, 0x0, 0x0, 0xFFFF0000, 0x0, 0x0, 0x0⟩,
  -- TILE_MACRO_BIND_m (R122)
  ⟨0x40, 16, 0xC, 1, 0x0, 0x0, 0x0, 0x0, 0x0, 0x0⟩,
  -- TILE_MACRO_STAT_m (R122)
  ⟨0x44, 16, 0xC, 1, 0x0, 0x0, 0x0, 0x0, 0x0, 0x0⟩,
  -- TILE_MACRO_CRC_m (R122)
  ⟨0x48, 16, 0xC, 1, 0x0, 0x0, 0x0, 0x0, 0x0, 0x0⟩
]
/-- The core register table. -/
def coreRows : List RegRow := coreRows0
/-- Registers of the tile space, part 0. -/
def tileRows0 : List RegRow := [
  -- TILE_ID (R548)
  ⟨0x0, 1, 0x0, 1, 0x0, 0x0, 0x0, 0x0, 0x0, 0x0⟩,
  -- TILE_SERIAL_LO (R548)
  ⟨0x4, 1, 0x0, 1, 0x0, 0x0, 0x0, 0x0, 0x0, 0x0⟩,
  -- TILE_SERIAL_HI (R548)
  ⟨0x8, 1, 0x0, 1, 0x0, 0x0, 0x0, 0x0, 0x0, 0x0⟩,
  -- TILE_TIMING (R548)
  ⟨0xC, 1, 0x0, 1, 0x0, 0x0, 0x0, 0x0, 0x0, 0x0⟩,
  -- TILE_POSITION (R31)
  ⟨0x10, 1, 0x0, 1, 0x0, 0x0, 0x0, 0x0, 0x0, 0x0⟩,
  -- TILE_SLOT_MAP_k (R40)
  ⟨0x100, 4, 0x4, 1, 0x0, 0x0, 0x0, 0x0, 0x0, 0x0⟩,
  -- TILE_SPARE_CORE (R41)
  ⟨0x110, 1, 0x0, 1, 0x0, 0x0, 0x0, 0x0, 0x0, 0x0⟩,
  -- TILE_LEAPFROG_CTRL (R64)
  ⟨0x114, 1, 0x0, 1, 0x0, 0x1FFFF, 0x0, 0x0, 0x0, 0x107D0⟩,
  -- TILE_LEAPFROG_COUNT (R64)
  ⟨0x118, 1, 0x0, 1, 0x0, 0x0, 0x0, 0x0, 0x0, 0x0⟩,
  -- TILE_SLOT_SOURCE_n (R42)
  ⟨0x120, 16, 0x4, 1, 0x0, 0x0, 0x0, 0x0, 0x0, 0x0⟩,
  -- TILE_AUDIT_CTRL (R123)
  ⟨0x160, 1, 0x0, 1, 0x0, 0x1FFFF, 0x0, 0x0, 0x0, 0x103E8⟩,
  -- TILE_AUDIT_COUNT (R123)
  ⟨0x164, 1, 0x0, 1, 0x0, 0x0, 0x0, 0x0, 0x0, 0x0⟩,
  -- TILE_VECTOR_STATUS (R150)
  ⟨0x180, 16, 0x4, 1, 0x0, 0x0, 0xFFFF0000, 0x3, 0x0, 0x0⟩,
  -- TILE_STORE_STATUS (R172)
  ⟨0x200, 1, 0x0, 1, 0x0, 0x0, 0x0, 0x0, 0x0, 0x0⟩,
  -- TILE_STORE_CAPACITY (R172)
  ⟨0x204, 1, 0x0, 1, 0x0, 0x0, 0x0, 0x0, 0x0, 0x0⟩,
  -- TILE_STORE_ALLOC (R172)
  ⟨0x208, 1, 0x0, 1, 0x0, 0x0, 0x0, 0x0, 0x0, 0x0⟩,
  -- TILE_STORE_WAIT (R172)
  ⟨0x20C, 1, 0x0, 1, 0x0, 0x0, 0xFF, 0x0, 0x0, 0x0⟩,
  -- TILE_STORE_RMW (R172)
  ⟨0x210, 1, 0x0, 1, 0x0, 0x0, 0xFFFFFFFF, 0x0, 0x0, 0x0⟩,
  -- TILE_STORE_WB_SKIPPED (R172)
  ⟨0x214, 1, 0x0, 1, 0x0, 0x0, 0xFFFFFFFF, 0x0, 0x0, 0x0⟩,
  -- TILE_STORE_UNINIT_ERR (R172)
  ⟨0x218, 1, 0x0, 1, 0x0, 0x0, 0xFFFFFFFF, 0x0, 0x0, 0x0⟩,
  -- TILE_PROT_CORR (R194)
  ⟨0x240, 1, 0x0, 1, 0x0, 0x0, 0xFFFFFFFF, 0x0, 0x0, 0x0⟩,
  -- TILE_PROT_UNCORR (R194)
  ⟨0x244, 1, 0x0, 1, 0x0, 0x0, 0xFFFFFFFF, 0x0, 0x0, 0x0⟩,
  -- TILE_PROT_REBUILD (R194)
  ⟨0x248, 1, 0x0, 1, 0x0, 0x0, 0xFFFFFFFF, 0x0, 0x0, 0x0⟩,
  -- TILE_PROT_EVENTS (R194)
  ⟨0x24C, 1, 0x0, 1, 0x0, 0x0, 0xFFFFFFFF, 0x0, 0x0, 0x0⟩,
  -- TILE_PROT_LOG_STATUS (R194)
  ⟨0x250, 1, 0x0, 1, 0x0, 0x0, 0xFFFF0000, 0x0, 0x0, 0x0⟩,
  -- TILE_SCRUB_CTRL (R194)
  ⟨0x254, 1, 0x0, 1, 0x0, 0x1FFFF, 0x0, 0x0, 0x0, 0x103E8⟩,
  -- TILE_SCRUB_STATUS (R194)
  ⟨0x258, 1, 0x0, 1, 0x0, 0x0, 0x0, 0x0, 0x0, 0x0⟩,
  -- TILE_SCRUB_POS (R194)
  ⟨0x25C, 1, 0x0, 1, 0x0, 0x0, 0x0, 0x0, 0x0, 0x0⟩,
  -- TILE_PROT_INJECT (R194)
  ⟨0x260, 1, 0x0, 1, 0x0, 0x3FFF, 0x0, 0x0, 0x10000, 0x0⟩,
  -- TILE_ETT_ENTRY_n (R30)
  ⟨0x400, 240, 0x4, 1, 0x0, 0x0, 0x0, 0x0, 0x0, 0x0⟩,
  -- TILE_REGION_n (R153)
  ⟨0x800, 64, 0x10, 1, 0x0, 0x0, 0x0, 0x0, 0x0, 0x0⟩,
  -- TILE_REGION_n (R153)
  ⟨0x804, 64, 0x10, 1, 0x0, 0x0, 0x0, 0x0, 0x0, 0x0⟩,
  -- TILE_REGION_n (R153)
  ⟨0x808, 64, 0x10, 1, 0x0, 0x0, 0x0, 0x0, 0x0, 0x0⟩,
  -- TILE_REGION_n (R153)
  ⟨0x80C, 64, 0x10, 1, 0x0, 0x0, 0x0, 0x0, 0x0, 0x0⟩,
  -- TILE_HOLE_LIST_n (R171)
  ⟨0xC00, 256, 0x4, 1, 0x0, 0x0, 0x0, 0x0, 0x0, 0x0⟩,
  -- TILE_PROT_LOG_n (R195)
  ⟨0x1000, 16, 0x10, 1, 0x0, 0x0, 0x0, 0x0, 0x0, 0x0⟩,
  -- TILE_PROT_LOG_n (R195)
  ⟨0x1004, 16, 0x10, 1, 0x0, 0x0, 0x0, 0x0, 0x0, 0x0⟩,
  -- TILE_PROT_LOG_n (R195)
  ⟨0x1008, 16, 0x10, 1, 0x0, 0x0, 0x0, 0x0, 0x0, 0x0⟩,
  -- TILE_PROT_LOG_n (R195)
  ⟨0x100C, 16, 0x10, 1, 0x0, 0x0, 0x0, 0x0, 0x0, 0x0⟩,
  -- TILE_BANK_SPARES_n (R196)
  ⟨0x1100, 16, 0x4, 1, 0x0, 0x0, 0x0, 0x0, 0x0, 0x0⟩
]
/-- Registers of the tile space, part 1. -/
def tileRows1 : List RegRow := [
  -- TILE_STREAM_STATE (R207)
  ⟨0x1200, 16, 0x80, 8, 0x10, 0x0, 0x0, 0x0, 0x0, 0x0⟩,
  -- TILE_STREAM_LAP (R207)
  ⟨0x1204, 16, 0x80, 8, 0x10, 0x0, 0x0, 0x0, 0x0, 0x0⟩,
  -- TILE_STREAM_STARVED (R207)
  ⟨0x1208, 16, 0x80, 8, 0x10, 0x0, 0xFFFFFFFF, 0x0, 0x0, 0x0⟩,
  -- TILE_STREAM_REMOTE (R207)
  ⟨0x120C, 16, 0x80, 8, 0x10, 0x0, 0xFFFFFFFF, 0x0, 0x0, 0x0⟩,
  -- TILE_LAP_SLIP_CAUSE (R216)
  ⟨0x1A00, 16, 0x4, 1, 0x0, 0x0, 0x0, 0x0, 0x0, 0x0⟩,
  -- TILE_LAP_FREEZE_AT (R397)
  ⟨0x1A40, 16, 0x8, 1, 0x0, 0xFFFFFFFF, 0x0, 0x0, 0x0, 0x0⟩,
  -- TILE_LAP_FREEZE_ARM (R397)
  ⟨0x1A44, 16, 0x8, 1, 0x0, 0x1, 0x0, 0x0, 0x0, 0x0⟩,
  -- TILE_MIRROR_DIRTY_LO (R492)
  ⟨0x1B00, 2, 0x4, 1, 0x0, 0x0, 0x0, 0xFFFFFFFF, 0x0, 0x0⟩,
  -- TILE_LAP_START (R208)
  ⟨0x1B40, 16, 0x8, 1, 0x0, 0xFFFFFFFF, 0x0, 0x0, 0x0, 0x0⟩,
  -- TILE_LAP_START_HI (R208)
  ⟨0x1B44, 16, 0x8, 1, 0x0, 0xFFFFFFFF, 0x0, 0x0, 0x0, 0x0⟩,
  -- TILE_MESH_PORT_STATE (R245)
  ⟨0x6000, 5, 0x20, 1, 0x0, 0x0, 0x0, 0x0, 0x0, 0x0⟩,
  -- TILE_MESH_PORT_SENT (R245)
  ⟨0x6004, 5, 0x20, 1, 0x0, 0x0, 0xFFFFFFFF, 0x0, 0x0, 0x0⟩,
  -- TILE_MESH_PORT_CRC (R245)
  ⟨0x6008, 5, 0x20, 1, 0x0, 0x0, 0xFFFFFFFF, 0x0, 0x0, 0x0⟩,
  -- TILE_MESH_PORT_OFF (R245)
  ⟨0x600C, 5, 0x20, 1, 0x0, 0x0, 0xFFFFFFFF, 0x0, 0x0, 0x0⟩,
  -- TILE_MESH_PORT_ESC (R245)
  ⟨0x6010, 5, 0x20, 1, 0x0, 0x0, 0xFFFF, 0x0, 0x0, 0x0⟩,
  -- TILE_MESH_EPOCH (R246)
  ⟨0x60C0, 1, 0x0, 1, 0x0, 0x0, 0x0, 0x0, 0x0, 0x0⟩,
  -- TILE_MESH_DISCARD (R246)
  ⟨0x60C4, 1, 0x0, 1, 0x0, 0x0, 0xFFFFFFFF, 0x0, 0x0, 0x0⟩,
  -- TILE_MESH_REFUSED (R246)
  ⟨0x60C8, 1, 0x0, 1, 0x0, 0x0, 0xFFFF, 0x0, 0x0, 0x0⟩,
  -- TILE_MESH_WAIT (R246)
  ⟨0x60CC, 1, 0x0, 1, 0x0, 0x0, 0xFFFFFFFF, 0x0, 0x0, 0x0⟩,
  -- TILE_MESH_BUF_ECC (R246)
  ⟨0x60D0, 1, 0x0, 1, 0x0, 0x0, 0xFFFFFFFF, 0x0, 0x0, 0x0⟩,
  -- TILE_ROUTE_ENTRY_n (R232)
  ⟨0x6400, 266, 0x4, 1, 0x0, 0x0, 0x0, 0x0, 0x0, 0x0⟩,
  -- TILE_STRAIGHT_STATE (R279)
  ⟨0x7000, 2, 0x40, 1, 0x0, 0x0, 0x0, 0x0, 0x0, 0x0⟩,
  -- TILE_STRAIGHT_SENT (R279)
  ⟨0x7004, 2, 0x40, 1, 0x0, 0x0, 0xFFFFFFFF, 0x0, 0x0, 0x0⟩,
  -- TILE_STRAIGHT_RECV (R279)
  ⟨0x7008, 2, 0x40, 1, 0x0, 0x0, 0xFFFFFFFF, 0x0, 0x0, 0x0⟩,
  -- TILE_STRAIGHT_CRC (R279)
  ⟨0x700C, 2, 0x40, 1, 0x0, 0x0, 0xFFFFFFFF, 0x0, 0x0, 0x0⟩,
  -- TILE_STRAIGHT_LOST (R279)
  ⟨0x7010, 2, 0x40, 1, 0x0, 0x0, 0xFFFFFFFF, 0x0, 0x0, 0x0⟩,
  -- TILE_STRAIGHT_OFF (R279)
  ⟨0x7014, 2, 0x40, 1, 0x0, 0x0, 0xFFFFFFFF, 0x0, 0x0, 0x0⟩,
  -- TILE_STRAIGHT_ABSENT (R279)
  ⟨0x7018, 2, 0x40, 1, 0x0, 0x0, 0x0, 0x0, 0x0, 0x0⟩,
  -- TILE_STRAIGHT_STREAM (R279)
  ⟨0x701C, 2, 0x40, 1, 0x0, 0x0, 0xFFFF0000, 0x0, 0x0, 0x0⟩,
  -- TILE_RELAY_ENTRY (R280)
  ⟨0x7100, 144, 0x4, 1, 0x0, 0x0, 0x0, 0x0, 0x0, 0x0⟩,
  -- TILE_MCAST_GROUP_n (R280)
  ⟨0x7400, 64, 0x4, 1, 0x0, 0x0, 0x0, 0x0, 0x0, 0x0⟩,
  -- TILE_RGROUP_n (R281)
  ⟨0x7600, 64, 0x8, 2, 0x200, 0x0, 0x0, 0x0, 0x0, 0x0⟩,
  -- TILE_RGROUP_n (R281)
  ⟨0x7604, 64, 0x8, 2, 0x200, 0x0, 0x0, 0x0, 0x0, 0x0⟩,
  -- TILE_RED_STATUS (R281)
  ⟨0x7A00, 1, 0x0, 1, 0x0, 0x0, 0x0, 0x0, 0x0, 0x0⟩,
  -- TILE_RED_DISCARD (R281)
  ⟨0x7A04, 1, 0x0, 1, 0x0, 0x0, 0xFFFFFFFF, 0x0, 0x0, 0x0⟩,
  -- TILE_RED_STALL (R281)
  ⟨0x7A08, 1, 0x0, 1, 0x0, 0x0, 0xFFFF, 0x0, 0x0, 0x0⟩,
  -- TILE_TADPOLE_PORT_STATE (R297)
  ⟨0x8000, 5, 0x10, 1, 0x0, 0x0, 0x0, 0x0, 0x0, 0x0⟩,
  -- TILE_TADPOLE_PORT_SENT (R297)
  ⟨0x8004, 5, 0x10, 1, 0x0, 0x0, 0xFFFFFFFF, 0x0, 0x0, 0x0⟩,
  -- TILE_TADPOLE_PORT_CRC (R297)
  ⟨0x8008, 5, 0x10, 1, 0x0, 0x0, 0xFFFFFFFF, 0x0, 0x0, 0x0⟩,
  -- TILE_TADPOLE_STATUS (R298)
  ⟨0x8060, 1, 0x0, 1, 0x0, 0x0, 0xFFFF0000, 0x0, 0x0, 0x0⟩
]
/-- Registers of the tile space, part 2. -/
def tileRows2 : List RegRow := [
  -- TILE_TADPOLE_NOTICE (R298)
  ⟨0x8064, 1, 0x0, 1, 0x0, 0x0, 0xFFFFFFFF, 0x0, 0x0, 0x0⟩,
  -- TILE_TADPOLE_TIME (R298)
  ⟨0x8068, 1, 0x0, 1, 0x0, 0x0, 0x0, 0x0, 0x0, 0x0⟩,
  -- TILE_TADPOLE_ROUTE_n (R298)
  ⟨0x8100, 268, 0x4, 1, 0x0, 0x0, 0x0, 0x0, 0x0, 0x0⟩,
  -- TILE_XFER_STATUS (R319)
  ⟨0x9000, 256, 0x20, 1, 0x0, 0x0, 0x0, 0x0, 0x0, 0x0⟩,
  -- TILE_XFER_STATUS (R319)
  ⟨0x9004, 256, 0x20, 1, 0x0, 0x0, 0x0, 0x0, 0x0, 0x0⟩,
  -- TILE_XFER_STATUS (R319)
  ⟨0x9008, 256, 0x20, 1, 0x0, 0x0, 0x0, 0x0, 0x0, 0x0⟩,
  -- TILE_XFER_STATUS (R319)
  ⟨0x900C, 256, 0x20, 1, 0x0, 0x0, 0x0, 0x0, 0x0, 0x0⟩,
  -- TILE_XFER_STATUS (R319)
  ⟨0x9010, 256, 0x20, 1, 0x0, 0x0, 0x0, 0x0, 0x0, 0x0⟩,
  -- TILE_XFER_STATUS (R319)
  ⟨0x9014, 256, 0x20, 1, 0x0, 0x0, 0x0, 0x0, 0x0, 0x0⟩,
  -- TILE_XFER_STATUS (R319)
  ⟨0x9018, 256, 0x20, 1, 0x0, 0x0, 0x0, 0x0, 0x0, 0x0⟩,
  -- TILE_XFER_STATUS (R319)
  ⟨0x901C, 256, 0x20, 1, 0x0, 0x0, 0x0, 0x0, 0x0, 0x0⟩,
  -- TILE_XFER_STATUS (R320)
  ⟨0xB000, 1, 0x0, 1, 0x0, 0x0, 0xFFFF0000, 0x0, 0x0, 0x0⟩,
  -- TILE_XFER_PURGE (R320)
  ⟨0xB004, 1, 0x0, 1, 0x0, 0xFFFF, 0x0, 0x0, 0x10000, 0x0⟩,
  -- TILE_SEND_TIMEOUT (R320)
  ⟨0xB008, 1, 0x0, 1, 0x0, 0xFFFF, 0x0, 0x0, 0x0, 0x3E8⟩,
  -- TILE_SEND_TRACK (R320)
  ⟨0xB040, 16, 0x4, 1, 0x0, 0x0, 0xFFFF0000, 0x0, 0x0, 0x0⟩,
  -- TILE_FAR_CTRL (R320)
  ⟨0xB100, 1, 0x0, 1, 0x0, 0x1, 0x0, 0x0, 0x0, 0x1⟩,
  -- TILE_FAR_HITS (R320)
  ⟨0xB104, 1, 0x0, 1, 0x0, 0x0, 0xFFFFFFFF, 0x0, 0x0, 0x0⟩,
  -- TILE_FAR_MISSES (R320)
  ⟨0xB108, 1, 0x0, 1, 0x0, 0x0, 0xFFFFFFFF, 0x0, 0x0, 0x0⟩,
  -- TILE_FAR_EVENTS (R320)
  ⟨0xB10C, 1, 0x0, 1, 0x0, 0x0, 0xFFFFFFFF, 0x0, 0x0, 0x0⟩,
  -- TILE_FAR_WIN_n (R320)
  ⟨0xB140, 16, 0x8, 1, 0x0, 0x0, 0x0, 0x0, 0x0, 0x0⟩,
  -- TILE_FAR_WIN_n (R320)
  ⟨0xB144, 16, 0x8, 1, 0x0, 0x0, 0x0, 0x0, 0x0, 0x0⟩,
  -- TILE_MCAST_MEMBERS_n (R320)
  ⟨0xB300, 64, 0x4, 1, 0x0, 0x0, 0x0, 0x0, 0x0, 0x0⟩,
  -- TILE_LINK_STATE (R418)
  ⟨0xC000, 4, 0x200, 1, 0x0, 0x0, 0x0, 0x0, 0x0, 0x0⟩,
  -- TILE_LINK_RX_SPARED (R418)
  ⟨0xC004, 4, 0x200, 1, 0x0, 0x0, 0x0, 0x0, 0x0, 0x0⟩,
  -- TILE_LINK_RX_LOST (R418)
  ⟨0xC008, 4, 0x200, 1, 0x0, 0x0, 0x0, 0x0, 0x0, 0x0⟩,
  -- TILE_LINK_TX_SPARED (R418)
  ⟨0xC00C, 4, 0x200, 1, 0x0, 0x0, 0x0, 0x0, 0x0, 0x0⟩,
  -- TILE_LINK_TX_LOST (R418)
  ⟨0xC010, 4, 0x200, 1, 0x0, 0x0, 0x0, 0x0, 0x0, 0x0⟩,
  -- TILE_LINK_TRAINS (R418)
  ⟨0xC014, 4, 0x200, 1, 0x0, 0x0, 0xFFFFFFFF, 0x0, 0x0, 0x0⟩,
  -- TILE_LINK_ERRORS (R418)
  ⟨0xC018, 4, 0x200, 1, 0x0, 0x0, 0xFFFFFFFF, 0x0, 0x0, 0x0⟩,
  -- TILE_LINK_LAST (R418)
  ⟨0xC01C, 4, 0x200, 1, 0x0, 0x0, 0x0, 0x0, 0x0, 0x0⟩,
  -- TILE_LINK_CTRL (R418)
  ⟨0xC020, 4, 0x200, 1, 0x0, 0xFF00, 0x0, 0x0, 0x1, 0x400⟩,
  -- TILE_LINK_GROUP_g (R418)
  ⟨0xC100, 4, 0x200, 18, 0x4, 0x0, 0x0, 0x0, 0x0, 0x0⟩,
  -- TILE_IVR_STATUS (R449)
  ⟨0xD000, 1, 0x0, 1, 0x0, 0x0, 0x0, 0x0, 0x0, 0x0⟩,
  -- TILE_IVR_PHASE_q (R449)
  ⟨0xD004, 4, 0x4, 1, 0x0, 0x0, 0x0, 0x0, 0x0, 0x0⟩,
  -- TILE_CRACK (R449)
  ⟨0xD014, 1, 0x0, 1, 0x0, 0x0, 0xFFFF0000, 0xF, 0x0, 0x0⟩,
  -- TILE_DROOP_m (R447)
  ⟨0xD100, 8, 0x10, 1, 0x0, 0x3FF0000, 0x0, 0x0, 0x400, 0x0⟩,
  -- TILE_DROOP_TIME_m (R447)
  ⟨0xD104, 8, 0x10, 1, 0x0, 0x0, 0x0, 0x0, 0x0, 0x0⟩,
  -- TILE_DROOP_TIME_HI_m (R447)
  ⟨0xD108, 8, 0x10, 1, 0x0, 0x0, 0x0, 0x0, 0x0, 0x0⟩,
  -- TILE_DROOP_ALARMS_m (R447)
  ⟨0xD10C, 8, 0x10, 1, 0x0, 0x0, 0xFFFF, 0x0, 0x0, 0x0⟩,
  -- TILE_PWR_ALLOC (R474)
  ⟨0xD200, 1, 0x0, 1, 0x0, 0x3FFF, 0x0, 0x0, 0x0, 0x2AF8⟩
]
/-- Registers of the tile space, part 3. -/
def tileRows3 : List RegRow := [
  -- TILE_PWR_STATUS (R474)
  ⟨0xD204, 1, 0x0, 1, 0x0, 0x0, 0x0, 0x0, 0x0, 0x0⟩,
  -- TILE_PWR_TRIPS (R474)
  ⟨0xD208, 1, 0x0, 1, 0x0, 0x0, 0xFFFF, 0x0, 0x0, 0x0⟩,
  -- TILE_PWR_CEIL_k (R474)
  ⟨0xD210, 4, 0x4, 1, 0x0, 0x0, 0x0, 0x0, 0x0, 0x0⟩,
  -- TILE_BUBBLE_RATE (R474)
  ⟨0xD240, 16, 0x8, 1, 0x0, 0x3F, 0x0, 0x0, 0x0, 0x0⟩,
  -- TILE_BUBBLE_FROM (R474)
  ⟨0xD244, 16, 0x8, 1, 0x0, 0xFFFFFFFF, 0x0, 0x0, 0x0, 0x0⟩,
  -- TILE_TEMP_s (R474)
  ⟨0xD300, 8, 0x4, 1, 0x0, 0x0, 0x0, 0x0, 0x0, 0x0⟩
]
/-- The tile register table. -/
def tileRows : List RegRow := tileRows0 ++ tileRows1 ++ tileRows2 ++ tileRows3
/-- Registers of the hub space, part 0. -/
def hubRows0 : List RegRow := [
  -- HUB_ID (R538)
  ⟨0x0, 1, 0x0, 1, 0x0, 0x0, 0x0, 0x0, 0x0, 0x0⟩,
  -- PANEL_SERIAL_LO (R538)
  ⟨0x4, 1, 0x0, 1, 0x0, 0x0, 0x0, 0x0, 0x0, 0x0⟩,
  -- PANEL_SERIAL_HI (R538)
  ⟨0x8, 1, 0x0, 1, 0x0, 0x0, 0x0, 0x0, 0x0, 0x0⟩,
  -- PANEL_SILUA_ID (R538)
  ⟨0xC, 1, 0x0, 1, 0x0, 0x0, 0x0, 0x0, 0x0, 0x0⟩,
  -- PANEL_FEATURE (R538)
  ⟨0x10, 1, 0x0, 1, 0x0, 0x0, 0x0, 0x0, 0x0, 0x0⟩,
  -- PANEL_EPOCH (R538)
  ⟨0x14, 1, 0x0, 1, 0x0, 0x0, 0x0, 0x0, 0x0, 0x0⟩,
  -- PANEL_TIME_LO (R538)
  ⟨0x18, 1, 0x0, 1, 0x0, 0x0, 0x0, 0x0, 0x0, 0x0⟩,
  -- PANEL_TIME_HI (R538)
  ⟨0x1C, 1, 0x0, 1, 0x0, 0x0, 0x0, 0x0, 0x0, 0x0⟩,
  -- HUB_READY (R539)
  ⟨0x40, 1, 0x0, 1, 0x0, 0x0, 0x0, 0x0, 0x0, 0x0⟩,
  -- HUB_HOST_BIND_LO (R539)
  ⟨0x48, 1, 0x0, 1, 0x0, 0x0, 0x0, 0x0, 0x0, 0x0⟩,
  -- HUB_HOST_BIND_HI (R539)
  ⟨0x4C, 1, 0x0, 1, 0x0, 0x0, 0x0, 0x0, 0x0, 0x0⟩,
  -- HUB_LOG_NEXT (R543)
  ⟨0x80, 1, 0x0, 1, 0x0, 0x0, 0x0, 0x0, 0x0, 0x0⟩,
  -- HUB_LOG_OLDEST (R543)
  ⟨0x84, 1, 0x0, 1, 0x0, 0x0, 0x0, 0x0, 0x0, 0x0⟩,
  -- HUB_LOG_LAST_w (R543)
  ⟨0xC0, 16, 0x4, 1, 0x0, 0x0, 0x0, 0x0, 0x0, 0x0⟩,
  -- HUB_EVENT_CFG (R545)
  ⟨0x100, 1, 0x0, 1, 0x0, 0xFFF, 0x0, 0x0, 0x0, 0x0⟩,
  -- HUB_EVENT_STATUS (R545)
  ⟨0x104, 1, 0x0, 1, 0x0, 0x0, 0x0, 0x3FF, 0x0, 0x0⟩,
  -- HUB_EVENT_MASK (R545)
  ⟨0x108, 1, 0x0, 1, 0x0, 0x3FF, 0x0, 0x0, 0x0, 0x3FF⟩,
  -- HUB_QP_ERROR_k (R545)
  ⟨0x200, 64, 0x4, 1, 0x0, 0x0, 0x0, 0x0, 0x0, 0x0⟩,
  -- HUB_QP_SQ_BASE_LO (R352)
  ⟨0x10000, 2048, 0x40, 1, 0x0, 0xFFFFFFFF, 0x0, 0x0, 0x0, 0x0⟩,
  -- HUB_QP_SQ_BASE_HI (R352)
  ⟨0x10004, 2048, 0x40, 1, 0x0, 0xFFFFFFFF, 0x0, 0x0, 0x0, 0x0⟩,
  -- HUB_QP_CQ_BASE_LO (R352)
  ⟨0x10008, 2048, 0x40, 1, 0x0, 0xFFFFFFFF, 0x0, 0x0, 0x0, 0x0⟩,
  -- HUB_QP_CQ_BASE_HI (R352)
  ⟨0x1000C, 2048, 0x40, 1, 0x0, 0xFFFFFFFF, 0x0, 0x0, 0x0, 0x0⟩,
  -- HUB_QP_CFG (R352)
  ⟨0x10010, 2048, 0x40, 1, 0x0, 0xFFF1F1F, 0x0, 0x0, 0x0, 0x0⟩,
  -- HUB_QP_OWNER (R352)
  ⟨0x10014, 2048, 0x40, 1, 0x0, 0xFFFF, 0x0, 0x0, 0x0, 0x0⟩,
  -- HUB_QP_AGG (R352)
  ⟨0x10018, 2048, 0x40, 1, 0x0, 0xFFFF00FF, 0x0, 0x0, 0x0, 0x1⟩,
  -- HUB_QP_CTRL (R352)
  ⟨0x1001C, 2048, 0x40, 1, 0x0, 0x0, 0x0, 0x0, 0x3, 0x0⟩,
  -- HUB_QP_STATE (R352)
  ⟨0x10020, 2048, 0x40, 1, 0x0, 0x0, 0x0, 0x0, 0x0, 0x0⟩,
  -- HUB_QP_SQ_HEAD (R352)
  ⟨0x10024, 2048, 0x40, 1, 0x0, 0x0, 0x0, 0x0, 0x0, 0x0⟩,
  -- HUB_QP_CQ_TAIL (R352)
  ⟨0x10028, 2048, 0x40, 1, 0x0, 0x0, 0x0, 0x0, 0x0, 0x0⟩,
  -- HUB_QP_INFLIGHT (R352)
  ⟨0x1002C, 2048, 0x40, 1, 0x0, 0x0, 0x0, 0x0, 0x0, 0x0⟩,
  -- HUB_INGEST_LOAD (R342)
  ⟨0x30000, 1, 0x0, 1, 0x0, 0x0, 0x0, 0x0, 0x0, 0x0⟩,
  -- HUB_INGEST_JPEG_LOAD (R342)
  ⟨0x30004, 1, 0x0, 1, 0x0, 0x0, 0x0, 0x0, 0x0, 0x0⟩,
  -- HUB_INGEST_CTX (R342)
  ⟨0x30008, 1, 0x0, 1, 0x0, 0x0, 0x0, 0x0, 0x0, 0x0⟩,
  -- HUB_INGEST_EVENTS (R342)
  ⟨0x3000C, 1, 0x0, 1, 0x0, 0x0, 0xFFFFFFFF, 0x0, 0x0, 0x0⟩,
  -- HUB_INGEST_LATE (R342)
  ⟨0x30010, 1, 0x0, 1, 0x0, 0x0, 0xFFFFFFFF, 0x0, 0x0, 0x0⟩,
  -- HUB_EGRESS_STATUS (R342)
  ⟨0x30020, 1, 0x0, 1, 0x0, 0x0, 0xFFFF0000, 0x0, 0x0, 0x0⟩,
  -- PANEL_FEED_f (R452)
  ⟨0x50000, 2, 0x10, 1, 0x0, 0x0, 0x0, 0x0, 0x0, 0x0⟩,
  -- PANEL_FEED_AMPS_f (R452)
  ⟨0x50004, 2, 0x10, 1, 0x0, 0x0, 0x0, 0x0, 0x0, 0x0⟩,
  -- PANEL_FEED_DROPS_f (R452)
  ⟨0x50008, 2, 0x10, 1, 0x0, 0x0, 0xFFFF, 0x0, 0x0, 0x0⟩,
  -- PANEL_IBC_n (R452)
  ⟨0x50100, 36, 0x8, 1, 0x0, 0x0, 0x0, 0x0, 0x0, 0x0⟩
]
/-- Registers of the hub space, part 1. -/
def hubRows1 : List RegRow := [
  -- PANEL_IBC_OUT_n (R452)
  ⟨0x50104, 36, 0x8, 1, 0x0, 0x0, 0xFFFF0000, 0x0, 0x0, 0x0⟩,
  -- PANEL_DOMAIN_PWR_d (R452)
  ⟨0x50280, 18, 0x4, 1, 0x0, 0x0, 0x0, 0x0, 0x0, 0x0⟩,
  -- PANEL_COOLANT_TEMP (R475)
  ⟨0x50300, 1, 0x0, 1, 0x0, 0x0, 0x0, 0x0, 0x0, 0x0⟩,
  -- PANEL_COOLANT_FLOW (R475)
  ⟨0x50304, 1, 0x0, 1, 0x0, 0x0, 0x0, 0x0, 0x0, 0x0⟩,
  -- PANEL_COOLANT_HEAT (R475)
  ⟨0x50308, 1, 0x0, 1, 0x0, 0x0, 0x0, 0x0, 0x0, 0x0⟩,
  -- PANEL_CAP (R475)
  ⟨0x5030C, 1, 0x0, 1, 0x0, 0x0, 0x0, 0x0, 0x0, 0x0⟩,
  -- PANEL_POWER (R475)
  ⟨0x50310, 1, 0x0, 1, 0x0, 0x0, 0x0, 0x0, 0x0, 0x0⟩,
  -- PANEL_HEALTH (R501)
  ⟨0x50400, 1, 0x0, 1, 0x0, 0x0, 0x0, 0x0, 0x0, 0x0⟩,
  -- PANEL_HEALTH_FREEZE (R501)
  ⟨0x50404, 1, 0x0, 1, 0x0, 0x0, 0x0, 0x0, 0x0, 0x0⟩,
  -- PANEL_SHED_COUNT (R501)
  ⟨0x50408, 1, 0x0, 1, 0x0, 0x0, 0x0, 0x0, 0x0, 0x0⟩,
  -- HUB_BOOT_STATUS (R532)
  ⟨0x50800, 1, 0x0, 1, 0x0, 0x0, 0x0, 0x80, 0x0, 0x0⟩,
  -- HUB_BOOT_VERSION (R532)
  ⟨0x50804, 1, 0x0, 1, 0x0, 0x0, 0x0, 0x0, 0x0, 0x0⟩,
  -- HUB_BOOT_CTRL (R532)
  ⟨0x50808, 1, 0x0, 1, 0x0, 0x0, 0x0, 0x0, 0x1, 0x0⟩,
  -- HUB_BOOT_RECOVERY_ADDR (R532)
  ⟨0x50810, 1, 0x0, 1, 0x0, 0xFFFFFFFF, 0x0, 0x0, 0x0, 0x0⟩,
  -- HUB_BOOT_RECOVERY_ADDR_HI (R532)
  ⟨0x50814, 1, 0x0, 1, 0x0, 0xFFFFFFFF, 0x0, 0x0, 0x0, 0x0⟩,
  -- HUB_BOOT_RECOVERY_LEN (R532)
  ⟨0x50818, 1, 0x0, 1, 0x0, 0xFFFFFFFF, 0x0, 0x0, 0x0, 0x0⟩,
  -- HUB_BOOT_RECOVERY_CTRL (R532)
  ⟨0x5081C, 1, 0x0, 1, 0x0, 0x0, 0x0, 0x0, 0x1, 0x0⟩,
  -- HUB_OPT_PORT_STATE (R437)
  ⟨0x60000, 8, 0x1000, 8, 0x10, 0x0, 0x0, 0x0, 0x0, 0x0⟩,
  -- HUB_OPT_PORT_CORR (R437)
  ⟨0x60004, 8, 0x1000, 8, 0x10, 0x0, 0xFFFFFFFF, 0x0, 0x0, 0x0⟩,
  -- HUB_OPT_PORT_ERR (R437)
  ⟨0x60008, 8, 0x1000, 8, 0x10, 0x0, 0xFFFFFFFF, 0x0, 0x0, 0x0⟩,
  -- HUB_OPT_PORT_DROP (R437)
  ⟨0x6000C, 8, 0x1000, 8, 0x10, 0x0, 0xFFFFFFFF, 0x0, 0x0, 0x0⟩,
  -- HUB_OPT_LASER_e_i (R422)
  ⟨0x60100, 8, 0x1000, 4, 0x4, 0x0, 0x0, 0x0, 0x0, 0x0⟩,
  -- HUB_PEER_WIN_n (R430)
  ⟨0x70000, 4096, 0x8, 1, 0x0, 0x3FFFFFFF, 0x0, 0x0, 0x0, 0x0⟩,
  -- HUB_PEER_WIN_n (R430)
  ⟨0x70004, 4096, 0x8, 1, 0x0, 0xFFFFFFFF, 0x0, 0x0, 0x0, 0x0⟩,
  -- HUB_STEER_n (R435)
  ⟨0x78000, 1024, 0x10, 1, 0x0, 0x3FFFFF, 0x0, 0x0, 0x0, 0x0⟩,
  -- HUB_STEER_n (R435)
  ⟨0x78004, 1024, 0x10, 1, 0x0, 0xFFFF, 0x0, 0x0, 0x0, 0x0⟩,
  -- HUB_STEER_n (R435)
  ⟨0x78008, 1024, 0x10, 1, 0x0, 0x1FFFF, 0x0, 0x0, 0x0, 0x0⟩,
  -- HUB_STEER_n (R435)
  ⟨0x7800C, 1024, 0x10, 1, 0x0, 0xFFFFFFFF, 0x0, 0x0, 0x0, 0x0⟩,
  -- HUB_RESTORE_n (R485)
  ⟨0x80000, 4096, 0x10, 1, 0x0, 0x7FFF, 0x0, 0x0, 0x0, 0x0⟩,
  -- HUB_RESTORE_ROWS_n (R485)
  ⟨0x80004, 4096, 0x10, 1, 0x0, 0x7FFFF, 0x0, 0x0, 0x0, 0x0⟩,
  -- HUB_RESTORE_ADDR_n (R485)
  ⟨0x80008, 4096, 0x10, 1, 0x0, 0xFFFFFFFF, 0x0, 0x0, 0x0, 0x0⟩,
  -- HUB_RESTORE_ADDR_HI_n (R485)
  ⟨0x8000C, 4096, 0x10, 1, 0x0, 0xFFFFFFFF, 0x0, 0x0, 0x0, 0x0⟩,
  -- HUB_LOG_LAST_0 (R544)
  ⟨0x90000, 266, 0x8, 2, 0x4, 0x0, 0x0, 0x0, 0x0, 0x0⟩,
  -- HUB_MCAST_GROUP_n (R544)
  ⟨0x91000, 64, 0x4, 1, 0x0, 0x0, 0x0, 0x0, 0x0, 0x0⟩,
  -- HUB_MCAST_MEMBERS_n (R544)
  ⟨0x91100, 64, 0x4, 1, 0x0, 0x0, 0x0, 0x0, 0x0, 0x0⟩
]
/-- The hub register table. -/
def hubRows : List RegRow := hubRows0 ++ hubRows1

/-- True when the register has an instance at offset `off`. -/
def RegRow.hits (r : RegRow) (off : Nat) : Bool :=
  if off < r.base then false
  else
    let d := off - r.base
    (List.range r.n2).any (fun j =>
      decide (j * r.s2 ≤ d) &&
        (let e := d - j * r.s2
         if r.n1 = 1 then decide (e = 0) else decide (e % r.s1 = 0) && decide (e / r.s1 < r.n1)))

/-- The register at an offset, where one is listed. -/
def regAt (t : List RegRow) (off : Nat) : Option RegRow := t.find? (fun r => r.hits off)

/-- The reset value of the changeable bits of a register; zero for every other offset. -/
def regReset (t : List RegRow) (off : Nat) : Nat :=
  match regAt t off with
  | some r => r.reset
  | none => 0

end Sys2Proof.Machine
end

