-- ==== Sys2Proof/Machine/StoreTypes.lean ====
section
/-! DEFINITION. State of a tile store and of its protection (chapters "Tile store" and "Protection of stored data"). -/

namespace Sys2Proof.Machine

/-- A region (R153). -/
structure Region where
  base : Nat := 0
  cls : Nat := 0                -- 0 ACTIVATION, 1 WEIGHT, 2 SCRATCH, 3 WINDOW
  valid : Bool := false
  init : Bool := false
  mirror : Bool := false
  shadow : Bool := false
  size : Nat := 0
  owner : Nat := 0
  partition : Nat := 0
  releasing : Bool := false     -- a release accepted and not yet done (R157)
deriving DecidableEq, Repr

/-- A queued write-back of a corrected, rebuilt or poisoned row (R175, R178, R185): the words to rewrite. -/
structure WriteBack where
  row : Nat := 0
  poison : List Nat := []       -- words stored as poisoned
  fix : NMap Nat := []          -- rebuilt data per word (R185)
deriving DecidableEq, Repr

/-- A bank's parity latch (R183): the parity row and the data delta. -/
structure ParityLatch where
  row : Nat := 0
  delta : Nat := 0
  src : Nat := 0                -- the data row written
  entrant : Nat := 0            -- who wrote it
deriving DecidableEq, Repr

/-- An entry of a bank's watch table (R190). -/
structure WatchEntry where
  bankRow : Nat := 0
  count : Nat := 0
  first : Nat := 0              -- panel time of the first count
  last : Nat := 0               -- panel time of the latest count
deriving DecidableEq, Repr

/-- A row due for a live remap, with the failing word that asked for it and its syndrome (R190, R195). -/
structure Remap where
  row : Nat := 0
  word : Nat := 0
  syn : Nat := 0
deriving DecidableEq, Repr

/-- A fill in progress (R160). -/
structure Fill where
  region : Nat := 0
  first : Nat := 0              -- first data row
  count : Nat := 0
  pattern : Nat := 0            -- 64-bit pattern
  setInit : Bool := false
deriving DecidableEq, Repr

/-- A protection log entry (R195). -/
structure ProtLog where
  row : Nat := 0
  word : Nat := 0
  cause : Nat := 0
  syndrome : Nat := 0
  entrant : Nat := 0
  region : Nat := 0
  time : Nat := 0
deriving DecidableEq, Repr

/-- A capacity hole (R170, R171). -/
structure Hole where
  row : Nat := 0
  pending : Bool := false
deriving DecidableEq, Repr

/-- Patrol scrubber (R187, R188, R194). -/
structure Scrub where
  active : Bool := false
  pos : Nat := 0
  passStart : Nat := 0          -- panel time
  spans : List (Nat × Nat) := []     -- store rows counted at the start of the pass: first, count
  last : Nat := 0               -- store row read last
  passes : Nat := 0
  late : Nat := 0
deriving DecidableEq, Repr

/-- The tile store: data bytes, the syndrome each word reads with, and the protection state. -/
structure Store where
  data : Mem := []              -- byte b of store row n at 512 n + b (R163)
  dev : NMap Byte := []         -- word w of row n at 64 n + w: stored check byte XOR the correct one (R173)
  regions : NMap Region := []
  wb : NMap (List WriteBack) := []   -- per bank, at most 4
  latches : NMap ParityLatch := []   -- per bank
  remapQ : List Remap := []     -- rows due for a live remap, oldest first (R190)
  found : List Nat := []        -- words, as 64 × row + word, whose failure has been counted since they were written (R178)
  recon : List Nat := []        -- WEIGHT store rows waiting for their own reconstruction (R185)
  watch : NMap (List WatchEntry) := []
  remapped : NMap Nat := []     -- store row to the spare row index of its bank
  sparesUsed : NMap Nat := []   -- per bank, the spare rows taken by fuses, the field row map and live remaps (R189)
  fieldMapTodo : List Nat := [] -- live remaps and holes not yet in the field row map (R191)
  holes : List Hole := []       -- rising store row
  fills : List Fill := []
  scrub : Scrub := {}
  log : List ProtLog := []      -- ring of 16
  logNext : Nat := 0
deriving DecidableEq, Repr

end Sys2Proof.Machine
end

