-- ==== Sys2Proof/Machine/TileTypes.lean ====
section
/-! DEFINITION. State of a tile: its slots, store, windows, network endpoints and tile control block. -/

namespace Sys2Proof.Machine

/-- Everything that belongs to a core slot and moves with it at a handover (R65, R207, R208). -/
structure Slot where
  state : CoreState := .off
  sc : Scalar := {}
  iram : Mem := []
  fetchView : Mem := []         -- instruction RAM as fetch sees it, brought up to date by fence.i (R46)
  dram : Mem := []
  regs : NMap Nat := []         -- block registers of R60, R96, R122 by block offset
  fault : FaultCause := .none
  faultEngine : Nat := 0
  faultDesc : Nat := 0
  faultField : Nat := 0
  tokens : NMap Nat := []
  heldInc : List (Nat × Nat) := []   -- increments held while the slot has no ready core (R49)
  queues : Queues := {}
  eng : Engines := {}
  lap : LapSeq := {}
  acc : NMap AccEntry := []
  macros : NMap Macro := []
  streams : NMap Stream := []
  narrow : List NarrowEntry := []    -- oldest first, at most 4
  tracker : List Track := []         -- at most 32
  bell : Option Nat := none          -- doorbell held (R293)
  bellUnread : Bool := false         -- a doorbell's PAYLOAD_HI has not been read since it arrived (R61)
  ramCorrected : Nat := 0            -- scalar RAM errors corrected (R47)
deriving DecidableEq, Repr

/-- The resting core's preload for a rotation or a takeover (R65, R68). -/
structure Preload where
  slot : Nat := 0
  takeover : Bool := false
  done : Bool := false
  iram : Mem := []              -- the code image in the resting core
  macros : NMap Macro := []     -- the macros in the resting core's arrays
deriving DecidableEq, Repr

/-- The weight audit of a tile (R119–R123). -/
structure Audit where
  active : Bool := false
  commit : Bool := false             -- the running sweep answers a commit request (R121)
  slot : Nat := 0                    -- next macro to read
  macro_ : Nat := 0
  started : Nat := 0                 -- tile time of the sweep's start
  commitAsked : Bool := false
  commitFailed : Bool := false
  sweeps : Nat := 0
  mismatches : Nat := 0
  reloads : List (Nat × Nat) := []   -- slot and macro still to be reloaded
deriving DecidableEq, Repr

/-- The panel-time mirror (R296). -/
structure Mirror where
  offset : Int := 0                  -- mirror minus panel time, ns
  slew : Int := 0                    -- difference still to be removed
  slewBase : Nat := 0
  missed : Nat := 0
  lastCorr : Int := 0
  syncs : Nat := 0
  lost : Bool := false
deriving DecidableEq, Repr

/-- Windows, transfers and the far cache of a tile. -/
structure Wins where
  table : NMap Window := []
  xfers : List Xfer := []            -- at most 256
  withheld : List Withheld := []
  landed : List Nat := []            -- store rows with their landed bit set (R309)
  ctrlSent : List CtrlSent := []
  ctrlHeld : List (Nat × Nat × Bool) := []   -- control-write rows of WEIGHT groups still held: 64 × row + region (R306)
  farLines : NMap FarLine := []      -- set × 8 + way
  farPlru : NMap Nat := []           -- per set, the 7 tree bits
  farWin : NMap (Nat × Nat × Nat) := []   -- far-window list: EID, window, generation
  farSweeps : List (Nat × Nat × Nat × Nat) := []  -- sweeps running: EID, window, generation, message tag
deriving DecidableEq, Repr

/-- Power, thermal and droop state of a tile (chapters "Power delivery", "Power caps, operating points and cooling"). -/
structure TilePower where
  on : Bool := false                 -- rails up
  retention : Bool := false
  pgood : Bool := false
  limit : Bool := false
  coreMv : Nat := 0
  crackSuspect : Nat := 0
  crackOpen : Nat := 0
  crackHist : NMap (List Bool) := [] -- the last 32 judged steps per quadrant, oldest first (R448)
  imbalance : Nat := 0               -- imbalance_ms of R448
  opp : Nat := 0
  ceil : NMap Nat := []              -- per slot ceiling in force, 64 where none was set
  ceilNext : NMap Nat := []          -- ceilings waiting for the next window
  level : NMap Nat := []             -- issue level of the current window per slot
  used : NMap Nat := []
  tripped : Bool := false
  tripNote : Option Nat := none      -- panel time of the last POWER_TRIP notice
  temps : NMap Nat := []             -- TILE_TEMP codes per sensor
  hotSince : Option Nat := none
  rising : Bool := false
  tempLimit : Bool := false
  droopTime : NMap Nat := []
  droopLow : NMap Nat := []
  droopNote : NMap Nat := []         -- panel time of the last DROOP notice per monitor
deriving DecidableEq, Repr

/-- A tile die. -/
structure Tile where
  slotMap : NMap Nat := []           -- slot to physical core, slot n to core n where not listed (R40)
  rest : Nat := 16                   -- REST_PHYS; 31 when none (R41)
  restState : CoreState := .off
  restValid : Bool := false
  shedMask : Nat := 0
  preload : Option Preload := none
  leapSince : Nat := 0               -- tile time of the last rotation or attempt (R65)
  leapDone : Nat := 0
  leapSkipped : Nat := 0
  leapStopped : Bool := false
  leapDue : Bool := false            -- PERIOD_MS is 0 and a lap boundary has asked for an attempt (R64)
  slots : NMap Slot := []
  store : Store := {}
  audit : Audit := {}
  wins : Wins := {}
  regs : NMap Nat := []              -- changeable bits of the tile register space by offset
  mirror : Mirror := {}
  logical : Option Nat := none
  shed : Bool := false
  rebuild : Bool := false            -- held in rebuild by the lead hub (R306, R487)
  shadowOf : NMap (Nat × Nat) := []  -- SHADOW region to the tile and region it mirrors (R159)
  mirrorAt : NMap (Nat × Nat) := []  -- MIRROR region to the tile and region of its shadow
  replaying : Bool := false          -- the tile's partition has a job in REPLAYING (R306)
  pwr : TilePower := {}
deriving DecidableEq, Repr

end Sys2Proof.Machine
end

