-- ==== Sys2Proof/Machine/TileCtx.lean ====
section
/-! DEFINITION. A tile at work: the tile, what it sends out, and the register, interrupt and notice operations that every
family shares. -/

namespace Sys2Proof.Machine

/-- What a tile puts on its networks during one command. -/
inductive Out where
  | notice (urgent : Bool) (code payload : Nat)        -- to the lead hub (R478)
  | packet (p : Packet)                                -- to its router's local port
  | frame (axis : Nat) (f : Frame)                     -- to its row (0) or column (1) straight port
  | message (m : TMsg)                                 -- to its tadpole router
  | streamGo (axis : Nat)                              -- a STRAIGHT stream starts: the port's latch clears (R266)
  | frameEnd (f : Nat)                                 -- a FRAME message to the lead hub (R218)
  | scored (kind sub event n : Nat)                    -- events of one of its units in the health mirror (R495, R496)
deriving DecidableEq, Repr

/-- A tile at work. -/
structure TX where
  tile : Tile := {}
  rep : Replica := {}        -- its translation and route replica
  peers : NMap Nat := []     -- optical engine chosen per peer panel (R429)
  ownPanel : Nat := 0        -- the panel's own panel ID (R28)
  meshOut : List Packet := []    -- packets its router's local port has not yet accepted
  rowOut : List Packet := []     -- packets of the frames its row and column straight ports have not yet launched
  colOut : List Packet := []
  phys : Nat := 0
  now : Nat := 0             -- its panel-time mirror, ns
  out : List Out := []
  partTiles : Nat → Nat := fun _ => 0        -- logical-tile mask of each partition (R301)
  netReg : Nat → Nat → Nat := fun _ v => v   -- router and port status merged into a register's stored bits

/-- A slot of the tile. -/
def TX.slot (x : TX) (k : Nat) : Slot := NMap.get {} x.tile.slots k
/-- The tile with slot `k` replaced. -/
def TX.setSlot (x : TX) (k : Nat) (s : Slot) : TX :=
  { x with tile := { x.tile with slots := NMap.put x.tile.slots k s } }
/-- The tile with slot `k` changed by `f`. -/
def TX.modSlot (x : TX) (k : Nat) (f : Slot → Slot) : TX := x.setSlot k (f (x.slot k))
/-- The tile with its store replaced. -/
def TX.setStore (x : TX) (s : Store) : TX := { x with tile := { x.tile with store := s } }
/-- The tile with its windows and transfers replaced. -/
def TX.setWins (x : TX) (w : Wins) : TX := { x with tile := { x.tile with wins := w } }
/-- The tile with its power state replaced. -/
def TX.setPwr (x : TX) (p : TilePower) : TX := { x with tile := { x.tile with pwr := p } }
/-- One more thing sent out. -/
def TX.emit (x : TX) (o : Out) : TX := { x with out := x.out ++ [o] }

/-- The changeable bits of tile register `off`, at the reset value of its table row until changed. -/
def TX.reg (x : TX) (off : Nat) : Nat := NMap.get (regReset tileRows off) x.tile.regs off
/-- The tile with register `off` holding `v`. -/
def TX.setReg (x : TX) (off v : Nat) : TX :=
  { x with tile := { x.tile with regs := NMap.put x.tile.regs off v } }
/-- The counter in bits [hi:lo] of tile register `off` raised by `n`, saturating at all ones (R60). -/
def TX.bump (x : TX) (off hi lo n : Nat) : TX :=
  let v := x.reg off
  x.setReg off (putBits v hi lo (satAdd (hi + 1 - lo) (bitsOf v hi lo) n))

/-- The changeable bits of block register `off` of a slot (R60). -/
def Slot.reg (s : Slot) (off : Nat) : Nat := NMap.get (regReset coreRows off) s.regs off
/-- The slot with block register `off` holding `v`. -/
def Slot.setReg (s : Slot) (off v : Nat) : Slot := { s with regs := NMap.put s.regs off v }
/-- A saturating block counter raised by `n`. -/
def Slot.bump (s : Slot) (off hi lo n : Nat) : Slot :=
  let v := s.reg off
  s.setReg off (putBits v hi lo (satAdd (hi + 1 - lo) (bitsOf v hi lo) n))

/-- Pending bit `i` of TILE_CORE_IRQ_PEND set: mip bit 16 + i (R58). -/
def Slot.irq (s : Slot) (i : Nat) : Slot := s.setReg 0x24 (s.reg 0x24 ||| 2 ^ i)
def irqDoorbell : Nat := 0
def irqLapBoundary : Nat := 1
def irqEngineEvent : Nat := 2
def irqSlip : Nat := 3
def irqFreeze : Nat := 4
def irqLapFault : Nat := 5
def irqRamCorrected : Nat := 6
def irqPoisonOut : Nat := 7

/-- The physical core that serves slot `k` (R40). -/
def Tile.physOf (t : Tile) (k : Nat) : Nat := NMap.get k t.slotMap k

/-- The core-slot EID of slot `k`, where the tile holds a logical number (R26). -/
def TX.slotEid (x : TX) (k : Nat) : Nat :=
  match x.tile.logical with
  | some n => 16 * n + k
  | none => 0xFFFF
/-- The tile-store EID. -/
def TX.storeEid (x : TX) : Nat :=
  match x.tile.logical with
  | some n => 0x1000 + n
  | none => 0xFFFF
/-- The control-block EID. -/
def TX.ctrlEid (x : TX) : Nat :=
  match x.tile.logical with
  | some n => 0x1100 + n
  | none => 0xFFFF

/-- Notice codes (R479). -/
def ncCoreFault : Nat := 0x01
def ncProgramFault : Nat := 0x02
def ncPoison : Nat := 0x03
def ncRowRefused : Nat := 0x04
def ncMacroMismatch : Nat := 0x05
def ncParityMismatch : Nat := 0x06
def ncHolesExhausted : Nat := 0x07
def ncPacketDiscard : Nat := 0x08
def ncLinkDown : Nat := 0x09
def ncLinkDegraded : Nat := 0x0A
def ncPortAbsent : Nat := 0x0B
def ncFrameLost : Nat := 0x0C
def ncReduceExcess : Nat := 0x0D
def ncReduceStall : Nat := 0x0E
def ncXferNack : Nat := 0x0F
def ncXferTimeout : Nat := 0x10
def ncStepEnd : Nat := 0x11
def ncTimeFault : Nat := 0x12
def ncLaserWarn : Nat := 0x13
def ncLaserAlarm : Nat := 0x14
def ncIbcFault : Nat := 0x15
def ncTileShort : Nat := 0x16
def ncThermalTrip : Nat := 0x17
def ncDroop : Nat := 0x18
def ncCrackSignature : Nat := 0x19
def ncCrackImbalance : Nat := 0x1A
def ncCrackOpen : Nat := 0x1B
def ncPowerTrip : Nat := 0x1C
def ncRising : Nat := 0x1D
def ncThermalLimit : Nat := 0x1E
def ncSlotReady : Nat := 0x1F
def ncTempLimit : Nat := 0x20

/-- The notice payload of R478. Log entry 23. -/
def noticeWord (kind wher sub detail : Nat) : Nat :=
  kind % 256 + (wher % 2 ^ 16) * 2 ^ 8 + (sub % 2 ^ 16) * 2 ^ 24 + (detail % 2 ^ 23) * 2 ^ 40

/-- Unit kinds (R378). -/
def ukTile : Nat := 1
def ukCore : Nat := 2
def ukBank : Nat := 3
def ukTileLink : Nat := 4
def ukLaneGroup : Nat := 5
def ukStraight : Nat := 6
def ukOpticalLane : Nat := 7
def ukLaser : Nat := 8
def ukHubLink : Nat := 9

/-- A notice from this tile. -/
def TX.note (x : TX) (urgent : Bool) (code kind wher sub detail : Nat) : TX :=
  x.emit (.notice urgent code (noticeWord kind wher sub detail))

/-- Scored events (R496). -/
def evCorrected : Nat := 0
def evUncorrectable : Nat := 1
def evLiveRemap : Nat := 2
def evLost : Nat := 3
def evRamCorrected : Nat := 4
def evMacroMismatch : Nat := 5
def evLinkError : Nat := 6
def evRetrain : Nat := 7
def evSpareLane : Nat := 8
def evGroupLost : Nat := 9
def evFrameCrc : Nat := 10
def evFrameLost : Nat := 11
def evPortAbsent : Nat := 12
def evCodeword : Nat := 13
def evSiluaRetrain : Nat := 14
def evLaserWarn : Nat := 15
def evCrack : Nat := 16
def evDroop : Nat := 17
def evTadpoleCrc : Nat := 18

/-- Status codes (R371). -/
def stSuccess : Nat := 0x00
def stSuccessEmpty : Nat := 0x01
def stAccepted : Nat := 0x02
def stPartial : Nat := 0x03
def stInvalidOpcode : Nat := 0x10
def stInvalidField : Nat := 0x11
def stNotPermitted : Nat := 0x13
def stBusy : Nat := 0x14
def stWindowClosed : Nat := 0x20
def stStaleGeneration : Nat := 0x21
def stOutOfWindow : Nat := 0x22
def stDroppedAtFence : Nat := 0x23
def stPoisoned : Nat := 0x30
def stStepReplayed : Nat := 0x31
def stStateLost : Nat := 0x32
def stDeadlineMissed : Nat := 0x33
def stPowerDenied : Nat := 0x40
def stThermalHold : Nat := 0x41
def stNoSpare : Nat := 0x50
def stScoreStorm : Nat := 0x51
def stFlashError : Nat := 0x60
def stAuthFailed : Nat := 0x61
def stInternalError : Nat := 0x7F

/-- The code of a fault cause in TILE_CORE_FAULT (R63, R115, R149). -/
def FaultCause.code : FaultCause → Nat
  | .none => 0 | .descFormat => 1 | .tokenOverflow => 2 | .tokenImbalance => 3
  | .ramUncorrectable => 4 | .engineHard => 5 | .engineState => 6 | .tokenDeadlock => 7

/-- The code of a core state in TILE_CORE_STATE (R62). -/
def CoreState.code : CoreState → Nat
  | .off => 0 | .retention => 1 | .preload => 2 | .halted => 3 | .scalar => 4 | .lapRunning => 5
  | .lapFrozen => 6 | .lapFault => 7 | .shed => 8

/-- The lap sequencer enters LAP_FAULT on a program fault: nothing more is issued, descriptors that have not started are
discarded with their tokens unconsumed, and a PROGRAM_FAULT notice goes out (R63, R566). A core already in LAP_FAULT keeps
its state and its fault, and a descriptor that fails then stays at its queue's head. Log entry 88. -/
def TX.lapFault (x : TX) (k : Nat) (c : FaultCause) (engine desc field : Nat) : TX :=
  let s := x.slot k
  if s.state = .lapRunning || s.state = .lapFrozen || s.state = .scalar || s.state = .halted then
    let s := { s with
      state := .lapFault, fault := c, faultEngine := engine, faultDesc := desc, faultField := field
      queues := {}, lap := { s.lap with waitStart := false, stopPend := false, freezePend := false } }
    (x.setSlot k (s.irq irqLapFault)).note true ncProgramFault 0 (x.slotEid k) 0 (c.code + 16 * desc)
  else x

/-- Numeric-status events of a slot; poisoned output also raises POISON_OUT and marks the lap (R96, R58, R180). -/
def Slot.numeric (s : Slot) (bits : Nat) : Slot :=
  let s := if bits = 0 then s else s.setReg 0x38 (s.reg 0x38 ||| bits)
  if bits &&& nsPoisonOut = 0 then s
  else { s.irq irqPoisonOut with lap := { s.lap with poisonLap := true } }

/-- A token increment: above 255 the token keeps 255 and a running sequencer stops with TOKEN_OVERFLOW; an increment
aimed at a slot whose core is not ready is held (R49). -/
def TX.tokenInc (x : TX) (k tok n : Nat) : TX :=
  if x.tile.shed then x
  else
    let s := x.slot k
    let moving := match x.tile.preload with
      | some p => p.takeover && p.slot = k
      | none => false
    if moving then x.setSlot k { s with heldInc := s.heldInc ++ [(tok, n)] }
    else
      let v := NMap.get 0 s.tokens tok + n
      let x' := x.setSlot k { s with tokens := NMap.set 0 s.tokens tok (min v 255) }
      if v > 255 then x'.lapFault k .tokenOverflow 0 0 0 else x'

end Sys2Proof.Machine
end

