-- ==== Sys2Proof/Machine/StoreOps.lean ====
section
/-! DEFINITION. The tile store: SECDED reads and writes of rows and words, parity, poison, write-backs and live remaps
(chapters "Tile store" and "Protection of stored data"). -/

namespace Sys2Proof.Machine

/-- The columns of data bits 0–63 of the (72,64) code (R173). -/
def dataColumns : List Nat :=
  (List.range 256).filter (fun v => popCount v 8 = 3) ++ [0x1F, 0x2F, 0x37, 0x3B, 0x3D, 0x3E, 0x4F, 0x57]

/-- The check byte of a 64-bit word (R173). -/
def checkByte (w : Nat) : Nat :=
  (List.range 64).foldl (fun a i => if bitOf w i then a ^^^ dataColumns.getD i 0 else a) 0

/-- Classes of a syndrome (R174). -/
inductive SynClass where
  | clean | checkBit | dataBit (i : Nat) | poison | uncorrectable
deriving DecidableEq, Repr

/-- The class of syndrome `s` (R174). -/
def synClass (s : Nat) : SynClass :=
  if s = 0 then .clean
  else if popCount s 8 = 1 then .checkBit
  else if s = 255 then .poison
  else
    match dataColumns.findIdx? (fun c => c = s) with
    | some i => .dataBit i
    | none => .uncorrectable

/-- Store rows occupied by a region (R155). -/
def Region.span (r : Region) : Nat := if r.cls = 1 then 9 * r.size / 8 else r.size
/-- The store row of data row `o` (R155). -/
def Region.storeRow (r : Region) (o : Nat) : Nat :=
  if r.cls = 1 then r.base + 9 * (o / 8) + o % 8 else r.base + o
/-- The region numbers and entries that are VALID. -/
def Store.valid (s : Store) : NMap Region := s.regions.filter (fun p => p.2.valid)
/-- Spare rows of a bank not yet taken, and the first of them (R189). -/
def Store.spareCount (s : Store) (bank : Nat) : Nat := 32 - popCount (NMap.get 0 s.sparesUsed bank) 32
def Store.nextSpare (s : Store) (bank : Nat) : Option Nat :=
  (List.range 32).find? (fun i => !bitOf (NMap.get 0 s.sparesUsed bank) i)
/-- Row `row` mapped onto spare row `i` of its bank (R189, R191). -/
def Store.useSpare (s : Store) (row i : Nat) : Store :=
  { s with
    remapped := NMap.put s.remapped row i
    sparesUsed := NMap.put s.sparesUsed (row % 64) (NMap.get 0 s.sparesUsed (row % 64) ||| 2 ^ i) }
/-- The VALID region that spans store row `row`. -/
def Store.regionOf (s : Store) (row : Nat) : Option (Nat × Region) :=
  s.valid.find? (fun p => decide (p.2.base ≤ row) && decide (row < p.2.base + p.2.span))
/-- Region `n` where it is VALID. -/
def Store.region (s : Store) (n : Nat) : Option Region :=
  match NMap.find s.regions n with
  | some r => if r.valid then some r else none
  | none => none
/-- The data row of a store row inside its region: none for a parity row (R155). -/
def Region.dataRow (r : Region) (row : Nat) : Option Nat :=
  let d := row - r.base
  if r.cls = 1 then (if d % 9 = 8 then none else some (8 * (d / 9) + d % 9)) else some d
/-- The nine store rows of the parity group that holds store row `row` of WEIGHT region `r`. -/
def Region.groupRows (r : Region) (row : Nat) : List Nat :=
  (List.range 9).map (fun i => r.base + 9 * ((row - r.base) / 9) + i)

/-- The 512 data bytes of a store row as one number. -/
def Store.rowData (s : Store) (row : Nat) : Nat := Mem.readWide s.data (512 * row) 512
/-- The words of a row that do not read clean, with their syndromes. -/
def Store.badWords (s : Store) (row : Nat) : List (Nat × Nat) :=
  (s.dev.filter (fun p => decide (64 * row ≤ p.1) && decide (p.1 < 64 * row + 64))).map
    (fun p => (p.1 - 64 * row, p.2.toNat))
/-- The row's data after single-bit corrections (R174). -/
def correctRow (data : Nat) (bad : List (Nat × Nat)) : Nat :=
  bad.foldl (fun d p =>
    match synClass p.2 with
    | .dataBit i => d ^^^ 2 ^ (64 * p.1 + i)
    | _ => d) data
def wordsCorrected (bad : List (Nat × Nat)) : List (Nat × Nat) :=
  bad.filter (fun p => match synClass p.2 with
    | .checkBit => true
    | .dataBit _ => true
    | _ => false)
def wordsPoisoned (bad : List (Nat × Nat)) : List (Nat × Nat) := bad.filter (fun p => synClass p.2 = .poison)
def wordsUncorrectable (bad : List (Nat × Nat)) : List (Nat × Nat) :=
  bad.filter (fun p => synClass p.2 = .uncorrectable)

/-- The syndromes of a row set: `all` for every word, then the listed words. -/
def Store.setRowDev (s : Store) (row all : Nat) (ws : List (Nat × Nat)) : Store :=
  let base := if all = 0 then [] else (List.range 64).map (fun w => (64 * row + w, BitVec.ofNat 8 all))
  let dev := s.dev.filter (fun p => decide (p.1 < 64 * row)) ++
    (base ++ s.dev.filter (fun p => decide (64 * row + 64 ≤ p.1)))
  { s with dev := ws.foldl (fun d p => NMap.set 0 d (64 * row + p.1) (BitVec.ofNat 8 p.2)) dev }

/-- A log entry of an initialized row (R195). -/
def TX.protLog (x : TX) (row word cause syn entrant : Nat) : TX :=
  let s := x.tile.store
  let e : ProtLog := { row := row, word := word, cause := cause, syndrome := syn, entrant := entrant
                       region := (match s.regionOf row with | some p => p.1 | none => 0), time := x.now }
  let log := if s.log.length < 16 then s.log ++ [e] else listModify s.log s.logNext (fun _ => e)
  (x.setStore { s with log := log, logNext := (s.logNext + 1) % 16 }).bump 0x250 31 16 1

/-- A row asks for a live remap, by the failing word found first (R190, R195). -/
def TX.askRemap (x : TX) (row word syn : Nat) : TX :=
  let s := x.tile.store
  if s.remapQ.any (fun q => q.row = row) then x
  else x.setStore { s with remapQ := s.remapQ ++ [{ row := row, word := word, syn := syn }] }

/-- A correction counted in the bank's watch table (R190): at most once per 1 ms for a row, the entry with the lowest
count replaced when the table is full, a count of 3 asks for a live remap. -/
def TX.watchCorrection (x : TX) (row word syn : Nat) : TX :=
  let s := x.tile.store
  let bank := row % 64
  let br := row / 64
  let t := NMap.get [] s.watch bank
  let put (t : List WatchEntry) : TX := x.setStore { s with watch := NMap.set [] s.watch bank t }
  match t.findIdx? (fun e => e.bankRow = br) with
  | some i =>
    let e := t.getD i {}
    if x.now < e.last + 1000000 then x
    else
      let x' := put (listModify t i (fun e => { e with count := min 3 (e.count + 1), last := x.now }))
      if e.count + 1 ≥ 3 then x'.askRemap row word syn else x'
  | none =>
    let n : WatchEntry := { bankRow := br, count := 1, first := x.now, last := x.now }
    if t.length < 4 then put (t ++ [n])
    else
      let low := t.foldl (fun a e => min a e.count) 3
      let old := (t.filter (fun e => e.count = low)).foldl (fun a e => min a e.first) (x.now)
      match t.findIdx? (fun e => decide (e.count = low) && decide (e.first = old)) with
      | some i => put (listModify t i (fun _ => n))
      | none => put (t.drop 1 ++ [n])

/-- PRIORITY work that waits in a bank's four-entry queue: write-backs, a parity latch, live remaps (R168). -/
def Store.bankWork (s : Store) (bank : Nat) : Nat :=
  (NMap.get [] s.wb bank).length + (if (NMap.find s.latches bank).isSome then 1 else 0) +
    (s.remapQ.filter (fun q => q.row % 64 = bank)).length

/-- Two write-backs of one row as one: rebuilt words win, the others that failed stay poisoned (R178, R185). -/
def WriteBack.join (a b : WriteBack) : WriteBack :=
  let fix := b.fix.foldl (fun m p => NMap.put m p.1 p.2) a.fix
  { row := a.row, fix := fix
    poison := (a.poison ++ b.poison.filter (fun w => !a.poison.contains w)).filter (fun w => (NMap.find b.fix w).isNone) }

/-- A write-back queued in the row's bank, joined with one that waits there for the row, or skipped and counted when the
queue is full (R168, R175). -/
def TX.queueWriteBack (x : TX) (w : WriteBack) : TX :=
  let s := x.tile.store
  let q := NMap.get [] s.wb (w.row % 64)
  if q.any (fun e => e.row = w.row) then
    let q := q.map (fun e => if e.row = w.row then e.join w else e)
    x.setStore { s with wb := NMap.set [] s.wb (w.row % 64) q }
  else if s.bankWork (w.row % 64) < 4 then x.setStore { s with wb := NMap.set [] s.wb (w.row % 64) (q ++ [w]) }
  else x.bump 0x214 31 0 1

/-- The row's queued write-back cancelled (R176). -/
def Store.cancelWriteBack (s : Store) (row : Nat) : Store :=
  { s with wb := NMap.set [] s.wb (row % 64) ((NMap.get [] s.wb (row % 64)).filter (fun e => e.row ≠ row)) }

/-- Corrections of a row read counted, watched and queued for write-back (R161, R175, R190, R194). -/
def TX.noteCorrected (x : TX) (row entrant : Nat) (cor : List (Nat × Nat)) (init : Bool) : TX :=
  match cor with
  | [] => x
  | (w, syn) :: _ =>
    let x := if init then
        ((x.bump 0x240 31 0 cor.length).protLog row w 1 syn entrant).emit (.scored ukBank (row % 64) evCorrected cor.length)
      else x.bump 0x218 31 0 cor.length
    (x.watchCorrection row w syn).queueWriteBack { row := row }

/-- First detections of failing words counted and logged, with a live remap asked for their row (R161, R178, R190,
R194). -/
def TX.noteUncorrectable (x : TX) (row entrant : Nat) (unc : List (Nat × Nat)) (init : Bool) : TX :=
  let s := x.tile.store
  let new := unc.filter (fun p => !s.found.contains (64 * row + p.1))
  match new with
  | [] => x
  | (w, syn) :: _ =>
    let x := x.setStore { s with found := s.found ++ new.map (fun p => 64 * row + p.1) }
    if init then ((((x.bump 0x244 31 0 new.length).protLog row w 2 syn entrant).askRemap row w syn).emit
      (.scored ukBank (row % 64) evUncorrectable new.length))
    else x.bump 0x218 31 0 new.length

/-- Word `w` of a row can be used neither as read nor corrected. -/
def Store.wordFails (s : Store) (row w : Nat) : Bool :=
  (s.badWords row).any (fun p => decide (p.1 = w) && (synClass p.2 = .uncorrectable || synClass p.2 = .poison))
/-- The XOR of word `w` of the rows, and whether one of them fails there. -/
def Store.xorWord (s : Store) (rows : List Nat) (w : Nat) : Nat × Bool :=
  rows.foldl (fun a r =>
    (a.1 ^^^ bitsOf (correctRow (s.rowData r) (s.badWords r)) (64 * w + 63) (64 * w), a.2 || s.wordFails r w)) (0, false)
/-- The parity row has every word poisoned: its group is parity-lost (R181). -/
def Store.parityLost (s : Store) (prow : Nat) : Bool :=
  (List.range 64).all (fun w => NMap.get 0 s.dev (64 * prow + w) = 255)

/-- The reads of a group's other rows by a reconstruction, each handled as a read of its row (R183, R185): corrected words
are written back, failing ones counted, logged and remapped, and a row with an uncorrectable word waits for a
reconstruction of its own. -/
def TX.groupReads (x : TX) (rows : List Nat) (entrant : Nat) (init : Bool) : TX :=
  rows.foldl (fun x o =>
    let b := x.tile.store.badWords o
    let unc := wordsUncorrectable b
    let x := x.noteCorrected o entrant (wordsCorrected b) init
    match unc ++ wordsPoisoned b with
    | [] => x
    | p :: l =>
      let x := x.noteUncorrectable o entrant (p :: l) init
      let x := if init then x.askRemap o p.1 p.2 else x
      let s := x.tile.store
      if unc.isEmpty || s.recon.contains o then x else x.setStore { s with recon := s.recon ++ [o] }) x

/-- The parity latch of a bank committed (R183): the parity row is read and its delta XORed in. An uncorrectable or
poisoned parity word is rebuilt from the group's data rows, or poisoned when one of those words fails. The row of a
parity-lost group stays as it is until a group write (R181). Log entry 32. -/
def TX.commitLatch (x : TX) (bank : Nat) : TX :=
  match NMap.find x.tile.store.latches bank with
  | none => x
  | some l =>
    let x := x.setStore { x.tile.store with latches := NMap.erase x.tile.store.latches bank }
    if x.tile.store.parityLost l.row then x
    else
      let reg := x.tile.store.regionOf l.row
      let init := match reg with
        | some p => p.2.init
        | none => false
      let group := match reg with
        | some p => (p.2.groupRows l.row).filter (fun r => r ≠ l.row)
        | none => []
      let bad := x.tile.store.badWords l.row
      let fails := wordsUncorrectable bad ++ wordsPoisoned bad
      let data := correctRow (x.tile.store.rowData l.row) bad ^^^ l.delta
      let x := x.noteCorrected l.row l.entrant (wordsCorrected bad) init
      let x := x.noteUncorrectable l.row l.entrant (wordsUncorrectable bad) init
      let x := if fails.isEmpty then x else x.groupReads (group.filter (fun r => r ≠ l.src)) l.entrant init
      let s := x.tile.store
      let (data, pois) := fails.foldl (fun (a : Nat × List (Nat × Nat)) p =>
        let (v, b) := s.xorWord group p.1
        (putBits a.1 (64 * p.1 + 63) (64 * p.1) v, if b then (p.1, 255) :: a.2 else a.2)) (data, [])
      let s := s.cancelWriteBack l.row
      x.setStore ({ s with data := Mem.write s.data (512 * l.row) 512 data }.setRowDev l.row 0 pois)

/-- Reconstruction of the failing words of a WEIGHT row from the group's other eight rows (R185, R193): the rebuilt data,
the words that could not be rebuilt, and the handling of the eight reads. A parity-lost group rebuilds nothing (R181). -/
def TX.reconstruct (x : TX) (r : Region) (row entrant : Nat) (init : Bool) (data : Nat) (ws : List (Nat × Nat)) :
    Nat × List Nat × TX :=
  let prow := (r.groupRows row).getD 8 0
  let x := x.commitLatch (prow % 64)
  let s := x.tile.store
  let lost := s.parityLost prow
  let others := (r.groupRows row).filter (fun o => o ≠ row)
  let (data, failed, fix) := ws.foldl (fun (a : Nat × List Nat × NMap Nat) p =>
    let (v, bad) := s.xorWord others p.1
    if bad || lost then (a.1, a.2.1 ++ [p.1], a.2.2)
    else (putBits a.1 (64 * p.1 + 63) (64 * p.1) v, a.2.1, NMap.put a.2.2 p.1 v)) (data, [], [])
  let x := x.groupReads others entrant init
  let first := ws.headD (0, 0)
  let x := if !init then x
    else if failed.isEmpty then (x.bump 0x248 15 0 1).protLog row first.1 3 first.2 entrant
    else ((x.bump 0x248 31 16 1).protLog row first.1 4 first.2 entrant).emit (.scored ukBank (row % 64) evLost 1)
  let x := if init then x.askRemap row first.1 first.2 else x
  (data, failed, x.queueWriteBack { row := row, poison := failed, fix := fix })

/-- A read of a store row (R162, R174, R175, R178, R185, R193): the data returned and the words returned poisoned. -/
def TX.readWords (x : TX) (row entrant : Nat) : Nat × List Nat × TX :=
  let s := x.tile.store
  let bad := s.badWords row
  if bad.isEmpty then (s.rowData row, [], x)
  else
    let data := correctRow (s.rowData row) bad
    let unc := wordsUncorrectable bad
    let poi := wordsPoisoned bad
    let reg := s.regionOf row
    let init := match reg with
      | some p => p.2.init
      | none => false
    let x := x.noteCorrected row entrant (wordsCorrected bad) init
    let x := x.noteUncorrectable row entrant unc init
    let plain : Nat × List Nat × TX :=
      (data, (unc ++ poi).map (fun p => p.1),
       if unc.isEmpty then x else x.queueWriteBack { row := row, poison := unc.map (fun p => p.1) })
    match reg with
    | some (_, r) =>
      if r.cls = 1 && !(unc.isEmpty && poi.isEmpty) then x.reconstruct r row entrant init data (unc ++ poi) else plain
    | none => plain

/-- A wide read of a store row: the data returned and whether the row is marked poisoned (R178). -/
def TX.readRow (x : TX) (row entrant : Nat) : Nat × Bool × TX :=
  let (d, f, x) := x.readWords row entrant
  (d, !f.isEmpty, x)

/-- A physical write of a whole store row (R162, R177, R179): the queued write-back is cancelled, and a row granted to
the control entrant takes an armed injection (R194). -/
def TX.putRow (x : TX) (row data : Nat) (poison : Bool) (entrant : Nat) : TX :=
  let s := x.tile.store.cancelWriteBack row
  let s := { s with data := Mem.write s.data (512 * row) 512 data, recon := s.recon.filter (fun r => r ≠ row)
                    found := s.found.filter (fun w => w / 64 ≠ row) }
  let all := if poison then 255 else 0
  let inj := x.reg 0x260
  if entrant = 19 && bitOf inj 16 then
    let w := bitsOf inj 13 8
    (x.setStore (s.setRowDev row all [(w, all ^^^ bitsOf inj 7 0)])).setReg 0x260 (putBits inj 16 16 0)
  else x.setStore (s.setRowDev row all [])

/-- A MIRROR region's row was written by something other than a control write: its DIRTY bit (R492). -/
def TX.markDirty (x : TX) (n : Nat) : TX :=
  match x.tile.store.region n with
  | some r => if r.mirror then
      let off := 0x1B00 + 4 * (n / 32)
      x.setReg off (x.reg off ||| 2 ^ (n % 32)) else x
  | none => x

/-- A row of a WEIGHT region written alone: the old row is read, and the delta goes into the parity row's latch (R183,
R184). -/
def TX.putWeightRow (x : TX) (r : Region) (row data : Nat) (poison : Bool) (entrant : Nat) : TX :=
  let prow := (r.groupRows row).getD 8 0
  let x := x.commitLatch (prow % 64)
  let s := x.tile.store
  let bad := s.badWords row
  let old := correctRow (s.rowData row) bad
  let unc := wordsUncorrectable bad ++ wordsPoisoned bad
  let x := x.noteCorrected row entrant (wordsCorrected bad) r.init
  let x := x.noteUncorrectable row entrant (wordsUncorrectable bad) r.init
  let (old, failed, x) :=
    if unc.isEmpty then (old, [], x) else x.reconstruct r row entrant r.init old unc
  let x := x.putRow row data poison entrant
  if failed.isEmpty then
    let s := x.tile.store
    x.setStore { s with latches := NMap.put s.latches (prow % 64) { row := prow, delta := old ^^^ data, src := row, entrant := entrant } }
  else
    let x := if r.init then x.protLog prow 0 8 0 entrant else x
    x.setStore ((x.tile.store.cancelWriteBack prow).setRowDev prow 255 [])

/-- The rows of a region written in rising order by one requester: whole WEIGHT groups by a group write with a fresh
parity row, the other rows alone (R182, R183). Each row is (data row, data, poison). -/
def TX.putRegionRows (x : TX) (n : Nat) (entrant : Nat) (rows : List (Nat × Nat × Bool)) : TX :=
  match x.tile.store.region n with
  | none => x
  | some r =>
    if r.cls ≠ 1 then
      rows.foldl (fun x p => x.putRow (r.storeRow p.1) p.2.1 p.2.2 entrant) x
    else
      rows.foldl (fun x p =>
        let g := p.1 / 8
        let whole := rows.filter (fun q => q.1 / 8 = g)
        if whole.length = 8 && (List.range 8).all (fun i => whole.any (fun q => q.1 = 8 * g + i)) then
          let x := x.putRow (r.storeRow p.1) p.2.1 p.2.2 entrant
          if p.1 % 8 = 7 then
            let par := whole.foldl (fun a q => a ^^^ q.2.1) 0
            let prow := r.base + 9 * g + 8
            let x := x.putRow prow par false entrant
            x.setStore { x.tile.store with latches := x.tile.store.latches.filter (fun l => l.2.row ≠ prow) }
          else x
        else x.putWeightRow r (r.storeRow p.1) p.2.1 p.2.2 entrant) x

/-- The rows written through the network or an engine, with the region's DIRTY bit (R492). -/
def TX.writeRows (x : TX) (n entrant : Nat) (rows : List (Nat × Nat × Bool)) : TX :=
  if rows.isEmpty then x else (x.putRegionRows n entrant rows).markDirty n

/-- A row read through a region: data row `o` of region `n`. -/
def TX.readRegionRow (x : TX) (n o entrant : Nat) : Nat × Bool × TX :=
  match x.tile.store.region n with
  | some r => x.readRow (r.storeRow o) entrant
  | none => (0, true, x)

/-- A row of an open or closing cacheable-read-only window (R314). -/
def Tile.croLocked (t : Tile) (n o : Nat) : Bool :=
  t.wins.table.any (fun p => (p.2.isOpen || p.2.closing) && p.2.cro && decide (p.2.region = n) &&
    decide (p.2.first ≤ o) && decide (o < p.2.first + p.2.rows))

/-- The wide write that a region's class allows a descriptor: a WEIGHT region takes only COPY (R154). -/
def Tile.engineMayWrite (t : Tile) (k n o : Nat) (copy : Bool) : Bool :=
  match t.store.region n with
  | some r => decide (o < r.size) && bitOf r.owner k && (r.cls ≠ 1 || copy) && !(t.croLocked n o)
  | none => false
/-- The wide read that a region allows a descriptor of slot `k`. -/
def Tile.engineMayRead (t : Tile) (k n o : Nat) : Bool :=
  match t.store.region n with
  | some r => decide (o < r.size) && bitOf r.owner k
  | none => false

/-- Bytes of one 64-bit word merged under a byte mask. -/
def mergeBytes (old new mask : Nat) : Nat :=
  (List.range 8).foldl (fun a i => if bitOf mask i then putBits a (8 * i + 7) (8 * i) (byteOf new i) else a) old

/-- A masked write of one aligned 64-bit word: a full mask supplies the whole word, anything else is a read-modify-write
that keeps a failing word poisoned (R164, R179); the word it reads is counted as any read is (R161, R194). `poison` stores
the word poisoned (R303). -/
def TX.writeWord (x : TX) (row w data mask : Nat) (poison : Bool) (entrant : Nat) : TX :=
  let bad := (x.tile.store.badWords row).filter (fun p => p.1 = w)
  let init := match x.tile.store.regionOf row with
    | some p => p.2.init
    | none => false
  let x := if mask = 255 then x
    else (x.noteCorrected row entrant (wordsCorrected bad) init).noteUncorrectable row entrant (wordsUncorrectable bad) init
  let s := x.tile.store.cancelWriteBack row
  let cur := bitsOf (correctRow (s.rowData row) bad) (64 * w + 63) (64 * w)
  let keep := mask ≠ 255 && !((wordsPoisoned bad).isEmpty && (wordsUncorrectable bad).isEmpty)
  let v := mergeBytes cur data mask
  let syn : Nat := if poison || keep then 255 else 0
  x.setStore { s with
    data := Mem.write s.data (512 * row + 8 * w) 8 v, dev := NMap.set 0 s.dev (64 * row + w) (BitVec.ofNat 8 syn)
    found := if keep then s.found else s.found.filter (fun f => f ≠ 64 * row + w) }

end Sys2Proof.Machine
end

