-- ==== Sys2Proof/Machine/Operands.lean ====
section
/-! DEFINITION. Engine descriptors: their fields, the format check of R51 and the operand addresses of R106, R124, R125. -/

namespace Sys2Proof.Machine

/-- ENGINE and OP of a descriptor (R105). -/
def descEngine (d : Desc) : Nat := bitsOf (descField d 0 1) 1 0
def descOp (d : Desc) : Nat := bitsOf (descField d 0 1) 7 2
/-- The wait tokens that are enabled (R105). -/
def descWaits (d : Desc) : List Nat :=
  (if bitOf (descField d 1 1) 7 then [bitsOf (descField d 1 1) 3 0] else []) ++
  (if bitOf (descField d 2 1) 7 then [bitsOf (descField d 2 1) 3 0] else [])
/-- The signal token, when enabled, and whether the descriptor interrupts (R105). -/
def descSignal (d : Desc) : Option Nat :=
  if bitOf (descField d 3 1) 7 then some (bitsOf (descField d 3 1) 3 0) else none
def descIrq (d : Desc) : Bool := bitOf (descField d 3 1) 6

/-- A row reference: region and row (R106). -/
def refRegion (v : Nat) : Nat := bitsOf v 23 18
def refRow (v : Nat) : Nat := bitsOf v 17 0
/-- Reserved bits of a row reference, streamed (R124) or not (R106). -/
def refOk (v : Nat) (stream : Bool) : Bool :=
  if stream then bitsOf v 23 18 = 0 && bitsOf v 31 27 = 0 else bitsOf v 31 24 = 0
/-- The stream named by a streamed row reference (R124). -/
def refStream (v : Nat) : Nat := bitsOf v 26 24
/-- The effective offset of R125: (o + k × d) mod Z. -/
def lapOffset (o : Nat) (d : Int) (k z : Nat) : Nat :=
  if z = 0 then o else (((o : Int) + (k : Int) * d) % (z : Int)).toNat
/-- The signed count of a 24-bit lap increment or stride (R106, R145). -/
def inc24 (v : Nat) : Int := signedOf 24 v

/-- A fixed exponent field: −127 to 127, and zero where the format carries its own scale. -/
def expOk (v : Nat) (used : Bool) : Bool := if used then v ≠ 128 else v = 0

/-- The first failing check's offset. -/
def firstFail (l : List (Nat × Bool)) : Option Nat :=
  match l.find? (fun c => !c.2) with
  | some c => some c.1
  | none => none

/-- Format check of MM (R70, R71, R107, R108). Log entry 25. -/
def checkMM (d : Desc) : List (Nat × Bool) :=
  let f := bitsOf (descField d 12 1) 3 0
  let st := bitOf (descField d 12 1) 4
  let act := descField d 8 4
  let sc := descField d 20 4
  let k := descField d 14 1
  let sg := descField d 15 1
  [(8, refOk act st), (12, fmtIsAct f && bitsOf (descField d 12 1) 7 5 = 0),
   (13, expOk (descField d 13 1) (fmtIsInt f)), (14, decide (1 ≤ k) && decide (k ≤ 32)),
   (15, decide (1 ≤ sg) && decide (sg ≤ 16)), (16, !st || descField d 16 2 = 0),
   (18, descField d 18 2 < 4096), (20, if fmtIsMx f && !st then refOk sc false else sc = 0),
   (24, descField d 24 4 < 2 ^ 24 && (!st || descField d 24 4 = 0)),
   (28, descField d 28 4 < 2 ^ 24 && (!st || descField d 28 4 = 0))]

/-- Live columns of a macro by weight format (R97). -/
def macroCols (f : Nat) : Nat := if f = 0 || f = 8 then 256 else if f = 2 then 512 else 128

/-- Format check of MACRO_LOAD (R71, R109). -/
def checkMacroLoad (d : Desc) : List (Nat × Bool) :=
  let f := bitsOf (descField d 5 1) 3 0
  let n := descField d 12 2
  let sc := descField d 16 4
  [(4, descField d 4 1 < 16), (5, fmtIsWeight f && bitsOf (descField d 5 1) 7 5 = 0), (6, descField d 6 1 < 16),
   (7, expOk (descField d 7 1) (!fmtIsMx f)), (8, refOk (descField d 8 4) false),
   (12, decide (1 ≤ n) && decide (n ≤ macroCols f) && decide (bitsOf (descField d 14 2) 11 0 + n ≤ 4096)),
   (14, descField d 14 2 < 4096), (16, if fmtIsMx f then refOk sc false else sc = 0),
   (24, descField d 24 4 < 2 ^ 24), (28, descField d 28 4 = 0)]

/-- Format check of ACC_CLEAR and ACC_OUT (R79, R85, R92, R112). -/
def checkAcc (d : Desc) (isOut : Bool) : List (Nat × Bool) :=
  let f := bitsOf (descField d 10 1) 3 0
  let first := bitsOf (descField d 4 2) 11 0
  let count := descField d 6 2
  let fmtOk := f ≠ fmtTernary && decide (f ≤ 13)
  [(4, descField d 4 2 < 4096 && decide (first + count ≤ 4096)),
   (6, decide (count ≤ 4096) && (!(isOut && fmtIsMx f) || count % 32 = 0)),
   (8, descField d 8 2 < 1024),
   (10, if isOut then fmtOk && bitsOf (descField d 10 1) 7 5 = 0 else descField d 10 1 = 0),
   (11, expOk (descField d 11 1) (isOut && fmtIsInt f)),
   (12, if isOut && f = fmtLongsum then descField d 12 2 < 1024 else descField d 12 2 = 0),
   (14, descField d 14 2 = 0), (16, refOk (descField d 16 4) false), (20, refOk (descField d 20 4) false),
   (24, descField d 24 4 < 2 ^ 24), (28, descField d 28 4 = 0)]

/-- Fields of a vector descriptor (R130). -/
def vA (d : Desc) : Nat := descField d 4 4
def vB (d : Desc) : Nat := descField d 8 4
def vD (d : Desc) : Nat := descField d 12 4
def vS (d : Desc) : Nat := descField d 16 4
def vNb (d : Desc) : Nat := descField d 20 2
def vSegb (d : Desc) : Nat := descField d 22 1
def vFunc (d : Desc) : Nat := descField d 23 1
def vFmtA (d : Desc) : Nat := bitsOf (descField d 24 2) 3 0
def vFmtB (d : Desc) : Nat := bitsOf (descField d 24 2) 7 4
def vFmtD (d : Desc) : Nat := bitsOf (descField d 24 2) 11 8
def vComp (d : Desc) : Nat := bitsOf (descField d 24 2) 13 12
def vBImm (d : Desc) : Bool := bitOf (descField d 24 2) 14
def vE (d : Desc) : Int := signedOf 8 (descField d 26 1)
def vStream (d : Desc) : Bool := bitOf (descField d 27 1) 0
def vRelease (d : Desc) : Bool := bitOf (descField d 27 1) 1
def vBInc (d : Desc) : Bool := bitOf (descField d 27 1) 2
def vKeep (d : Desc) : Bool := bitOf (descField d 27 1) 3
def vIncA (d : Desc) : Int := signedOf 16 (descField d 28 2)
def vIncD (d : Desc) : Int := signedOf 16 (descField d 30 2)

/-- Formats that TRANSPOSE, GATHER and SCATTER move (R140, R141). -/
def fmtMoves (f : Nat) : Bool := f = 1 || fmtIsFloat f

/-- The formats of FMTS that the operation allows (R131, R132). -/
def vectorFmtsOk (d : Desc) : Bool :=
  let op := descOp d
  let a := vFmtA d
  let b := vFmtB d
  let o := vFmtD d
  let imm := vBImm d
  let f := vFunc d
  let long3 := a = 12 && b = 12 && o = 12 && !imm
  decide (vComp d ≤ 2) && !bitOf (descField d 24 2) 15 && decide (a < 13) && decide (b < 13) && decide (o < 13) &&
  (o ≠ 2) && (op = 1 || a ≠ 2) && (b ≠ 2) &&
  (!imm || op = 2 || op = 7) &&
  (if op = 1 then (if o = 12 then fmtIsFloat a else true)
   else if op = 2 && (a = 12 || b = 12 || o = 12) then long3 && vComp d = 0
   else
     a ≠ 12 && b ≠ 12 && o ≠ 12 && !fmtIsMx b && !(fmtIsMx a && fmtIsMx o) &&
     (if op = 2 then f ≠ 5 || fmtIsFloat o
      else if op = 4 || op = 5 || op = 6 || op = 7 || op = 8 then
        fmtIsFloat a && fmtIsFloat o && (op ≠ 8 || f = 0 || fmtIsFloat b) && (op ≠ 7 || imm)
      else if op = 10 || op = 11 || op = 12 then a = o && fmtMoves a
      else true))

/-- FUNC values that the operation allows (R132). -/
def vectorFuncOk (d : Desc) : Bool :=
  let f := vFunc d
  let op := descOp d
  if op = 2 then (if vFmtA d = 12 && vFmtB d = 12 && vFmtD d = 12 then f = 0 || f = 3 || f = 4 else decide (f ≤ 5))
  else if op = 3 then decide (f ≤ 10)
  else if op = 4 then decide (f ≤ 3)
  else if op = 5 || op = 7 || op = 8 || op = 9 then decide (f ≤ 1)
  else f = 0

/-- Format check of a vector descriptor (R124, R130–R132, R139–R141). Log entry 25. -/
def checkVector (d : Desc) : List (Nat × Bool) :=
  let op := descOp d
  let b := vB d
  let seg := op = 4 || op = 5 || op = 6 || op = 7 || op = 8
  let bOk :=
    if op = 9 then decide (b < 2 ^ 24) && decide (1 ≤ bitsOf b 23 16)
    else if op = 1 && (vFmtA d = 12 || vFmtD d = 12) then decide (b < 1024)
    else if vBImm d then true
    else if op = 2 || op = 11 || op = 12 then refOk b false
    else if op = 8 && bitOf (vFunc d) 0 then refOk b false
    else b = 0
  let sUsed := op = 6 || op = 8 || fmtIsMx (vFmtA d) || fmtIsMx (vFmtD d)
  let nbOk :=
    if seg then vSegb d = 0 || vNb d % vSegb d = 0
    else if op = 10 then 32 * vNb d % 256 = 0
    else if op = 11 || op = 12 then 32 * vNb d % fmtPerRow (vFmtA d) = 0
    else true
  [(4, refOk (vA d) (vStream d)), (8, bOk), (12, refOk (vD d) false),
   (16, if sUsed then refOk (vS d) false else vS d = 0), (20, nbOk),
   (22, if seg then decide (1 ≤ vSegb d) else vSegb d = 0), (23, vectorFuncOk d), (24, vectorFmtsOk d),
   (26, descField d 26 1 ≠ 128), (27, descField d 27 1 < 16)]

/-- Fields of a store descriptor (R142). -/
def sSrc (d : Desc) : Nat := descField d 4 4
def sTarget (d : Desc) : Nat := descField d 8 2
def sWrap (d : Desc) : Nat := descField d 10 2
def sDst (d : Desc) : Nat := descField d 12 4
def sRows (d : Desc) : Nat := descField d 16 2
def sTag (d : Desc) : Nat := descField d 18 2
def sTotal (d : Desc) : Nat := descField d 20 4
def sBaton (d : Desc) : Bool := bitOf (descField d 24 1) 0
def sOrdered (d : Desc) : Bool := bitOf (descField d 24 1) 1
def sLatency (d : Desc) : Bool := bitOf (descField d 24 1) 2
def sStream (d : Desc) : Bool := bitOf (descField d 24 1) 3
def sRelease (d : Desc) : Bool := bitOf (descField d 24 1) 4
def sIncSrc (d : Desc) : Bool := bitOf (descField d 24 1) 5
def sIncDst (d : Desc) : Bool := bitOf (descField d 24 1) 6
def sTagLap (d : Desc) : Bool := bitOf (descField d 24 1) 7
def sWindow (d : Desc) : Nat := descField d 25 1
def sGen (d : Desc) : Nat := descField d 26 1
def sInc (d : Desc) : Int := inc24 (descField d 28 4)

/-- Format check of a store descriptor (R142–R144). -/
def checkStore (d : Desc) : List (Nat × Bool) :=
  let op := descOp d
  let win := op = 2 || op = 3
  let t := sTotal d
  [(4, refOk (sSrc d) (sStream d)),
   (8, op ≠ 1 || sTarget d = 0),
   (10, if win && sIncDst d then decide (1 ≤ sWrap d) else sWrap d = 0),
   (12, if op = 1 then refOk (sDst d) false else if win then decide (sDst d < 2 ^ 18) else decide (sDst d < 2 ^ 16)),
   (18, win || sTag d = 0), (20, if win then decide (512 ≤ t) && t % 512 = 0 else t = 0),
   (25, win || sWindow d = 0), (26, win || sGen d = 0), (27, descField d 27 1 = 0),
   (28, descField d 28 4 < 2 ^ 24)]

/-- Fields of the pacer descriptors (R145). -/
def pStream (d : Desc) : Nat := bitsOf (descField d 4 1) 2 0
def pKind (d : Desc) : Nat := bitsOf (descField d 5 1) 1 0
def pSrc (d : Desc) : Nat := descField d 8 4
def pSlotRows (d : Desc) : Nat := descField d 14 2
def pRing (d : Desc) : Nat := descField d 16 4
def pSlots (d : Desc) : Nat := descField d 20 1
def pLook (d : Desc) : Nat := bitsOf (descField d 21 1) 2 0
def pSrcWrap (d : Desc) : Nat := descField d 22 2
def pSrcInc (d : Desc) : Int := inc24 (descField d 24 4)
def pCount (d : Desc) (i : Nat) : Nat := descField d (8 + 2 * i) 2
def pStride (d : Desc) (i : Nat) : Int := inc24 (descField d (16 + 4 * i) 4)
/-- Rows that one lap of a stream delivers (R146). -/
def pLapRows (d : Desc) : Nat := pCount d 0 * pCount d 1 * pCount d 2 * pCount d 3

/-- Format check of a pacer descriptor (R145, R146). -/
def checkPacer (d : Desc) : List (Nat × Bool) :=
  let op := descOp d
  let k := pKind d
  (4, descField d 4 1 < 8) ::
  (if op = 1 then
    [(5, descField d 5 1 < 4), (6, k = 1 || descField d 6 2 = 0),
     (8, if k = 0 then refOk (pSrc d) false else if k = 2 then decide (pSrc d < 2) else decide (pSrc d < 2 ^ 18)),
     (12, k = 1 || descField d 12 1 = 0), (13, k = 1 || descField d 13 1 = 0),
     (14, decide (1 ≤ pSlotRows d) && decide (pSlotRows d ≤ 256)), (16, refOk (pRing d) false),
     (20, decide (1 ≤ pSlots d) && decide (pSlots d ≤ 64)), (21, descField d 21 1 < 8),
     (22, if k = 1 then decide (1 ≤ pSrcWrap d) else pSrcWrap d = 0),
     (24, descField d 24 4 < 2 ^ 24 && (decide (k ≤ 1) || descField d 24 4 = 0)), (28, descField d 28 4 = 0)]
  else if op = 2 then
    (5, descField d 5 3 = 0) ::
    ((List.range 4).map (fun i => (8 + 2 * i, decide (1 ≤ pCount d i))) ++
     (List.range 4).map (fun i => (16 + 4 * i, decide (descField d (16 + 4 * i) 4 < 2 ^ 24))))
  else [(5, descField d 5 27 = 0)])

/-- The operation codes that an engine defines (R105, R132, R143, R145). -/
def opDefined (engine op : Nat) : Bool :=
  decide (1 ≤ op) && decide (op ≤ (if engine = 1 then 12 else 4))

/-- The format check of R51 for a descriptor issued to queue `q`: the offset of the first failing field (R566). Log
entry 25. -/
def descCheck (d : Desc) (q : Nat) : Option Nat :=
  let op := descOp d
  let hdr : List (Nat × Bool) :=
    [(0, descEngine d = q && opDefined q op), (1, bitsOf (descField d 1 1) 6 4 = 0), (2, bitsOf (descField d 2 1) 6 4 = 0),
     (3, bitsOf (descField d 3 1) 5 4 = 0)]
  firstFail (hdr ++
    (if q = 0 then
      (if op = 1 then checkMM d else if op = 4 then checkMacroLoad d else checkAcc d (op = 3))
     else if q = 1 then checkVector d
     else if q = 2 then checkStore d
     else checkPacer d))

/-- The queue of engine `q` (R48). -/
def Queues.get (s : Queues) (q : Nat) : List QEntry :=
  if q = 0 then s.matrix else if q = 1 then s.vector else if q = 2 then s.store else s.pacer
/-- The queues with that of engine `q` replaced. -/
def Queues.put (s : Queues) (q : Nat) (l : List QEntry) : Queues :=
  if q = 0 then { s with matrix := l } else if q = 1 then { s with vector := l }
  else if q = 2 then { s with store := l } else { s with pacer := l }
/-- Queue depth (R48). -/
def queueDepth (q : Nat) : Nat := if q = 3 then 8 else 16
/-- Free entries of queue `q`. -/
def Slot.qfree (s : Slot) (q : Nat) : Nat := queueDepth q - (s.queues.get q).length

/-- The 32 bytes of data RAM at byte offset `a`. -/
def Slot.descAt (s : Slot) (a : Nat) : Desc := BitVec.ofNat 256 (Mem.read s.dram a 32)

/-- The effective row of a reference with a lap increment: region and row, reduced modulo the region's size (R125). -/
def TX.effRow (x : TX) (v : Nat) (d : Int) (lap : Nat) : Nat × Nat :=
  let n := refRegion v
  match x.tile.store.region n with
  | some r => (n, lapOffset (refRow v) d lap r.size)
  | none => (n, refRow v)

/-- Staging slot row `r` of the head slot of a stream, as a store row (R124, R199). -/
def Stream.slotRow (st : Stream) (slot r : Nat) : Nat :=
  match st.setDesc with
  | some d => st.ringRow + slot * pSlotRows d + r
  | none => 0
/-- The head slot is FULL. -/
def Stream.headFull (st : Stream) : Bool := bitOf st.full st.head
/-- Slots of the ring. -/
def Stream.slots (st : Stream) : Nat :=
  match st.setDesc with
  | some d => pSlots d
  | none => 0

end Sys2Proof.Machine
end

