-- ==== Sys2Proof/Machine/EngineOps.lean ====
section
/-! DEFINITION. What every engine family shares: starting and completing descriptors, tokens, staging slots, injecting
packets, and start-time faults. -/

namespace Sys2Proof.Machine

/-- The endpoint of an EID as a route-table index (R26, R232): physical tile, 256 and 257 the hubs, 258–265 the optical
engines. None for a reserved or invalid EID, the panel's own peer proxy (R28), or an entry with ACT_VALID = 0. -/
def routeIndex (ett peers : NMap Nat) (own eid : Nat) : Option Nat :=
  let tile (n : Nat) : Option Nat :=
    if n < 240 then
      let e := NMap.get 0 ett n
      if bitOf e 8 then some (bitsOf e 7 0) else none
    else none
  if eid < 0x0F00 then tile (eid / 16)
  else if 0x1000 ≤ eid && eid ≤ 0x10EF then tile (eid - 0x1000)
  else if 0x1100 ≤ eid && eid ≤ 0x11EF then tile (eid - 0x1100)
  else if eid = 0x1200 then some 256
  else if eid = 0x1201 then some 257
  else if 0x1210 ≤ eid && eid ≤ 0x1217 then some (258 + (eid - 0x1210))
  else if 0x2000 ≤ eid && eid ≤ 0x2FFF && eid ≠ 0x2000 + own then
    (match NMap.find peers (eid - 0x2000) with
     | some e => some (258 + e)
     | none => none)
  else none

/-- MIN of a route entry in the layout of R232. -/
def rtMin (e : Nat) : Nat := bitsOf e 4 0
/-- The safe-route port for DOWN = 0 or 1, when there is one. -/
def rtSafe (e : Nat) (down : Bool) : Option Nat :=
  let p := if down then bitsOf e 14 12 else bitsOf e 10 8
  if p = 7 then none else some p
/-- ACT_UP_IS_DOWN. -/
def rtUpIsDown (e : Nat) : Bool := bitOf e 11
/-- The reset value of a route entry: no ports. -/
def rtNone : Nat := 0x7700

/-- The check of the injecting router (R29, R238, R251). -/
def TX.injectable (x : TX) (p : Packet) : Bool :=
  match routeIndex x.rep.ett x.peers x.ownPanel p.dst with
  | none => false
  | some i =>
    let e := NMap.get rtNone x.rep.mesh i
    (rtMin e ≠ 0 || (rtSafe e false).isSome) && !(p.type = 1 && !p.long && decide (258 ≤ i))

/-- A packet handed to the router's local port with the current epoch, or refused and counted (R238). -/
def TX.inject (x : TX) (p : Packet) : Bool × TX :=
  if x.injectable p then (true, x.emit (.packet { p with epoch := x.rep.cur }))
  else (false, x.bump 0x60C8 15 0 1)

/-- Every wait token is at least its share (R49): a token named twice must be at least 2. -/
def Slot.tokensMet (s : Slot) (d : Desc) : Bool :=
  let w := descWaits d
  w.all (fun t => decide ((w.filter (fun u => u = t)).length ≤ NMap.get 0 s.tokens t))
/-- The wait tokens decremented as the engine starts (R49). -/
def Slot.takeTokens (s : Slot) (d : Desc) : Slot :=
  { s with tokens := (descWaits d).foldl (fun m t => NMap.set 0 m t (NMap.get 0 m t - 1)) s.tokens }

/-- The head of queue `q` when its operation is `op` and its tokens are met. -/
def Slot.readyHead (s : Slot) (q op : Nat) : Option QEntry :=
  match s.queues.get q with
  | e :: _ => if descOp e.desc = op && s.tokensMet e.desc then some e else none
  | [] => none
/-- The head of queue `q` taken off and its tokens consumed. -/
def Slot.popHead (s : Slot) (q : Nat) (e : QEntry) : Slot :=
  ({ s with queues := s.queues.put q ((s.queues.get q).drop 1) }).takeTokens e.desc

/-- LAP_FAULT ENGINE_STATE at the start of a descriptor (R115, R129, R566). -/
def TX.startFault (x : TX) (k engine : Nat) (e : QEntry) (field : Nat) : TX :=
  x.lapFault k .engineState engine e.idx field

/-- Stream `i` of a slot. -/
def Slot.stream (s : Slot) (i : Nat) : Stream := NMap.get {} s.streams i
/-- The slot with stream `i` replaced. -/
def Slot.setStream (s : Slot) (i : Nat) (st : Stream) : Slot := { s with streams := NMap.put s.streams i st }

/-- Offset of the registers of stream `i` of slot `k` (R207). -/
def streamReg (k i : Nat) : Nat := 0x1200 + 0x80 * k + 0x10 * i

/-- cc in which a descriptor waited on the stream's head slot (R207). -/
def TX.starve (x : TX) (k i n : Nat) : TX := if n = 0 then x else x.bump (streamReg k i + 8) 31 0 n

/-- Landed rows freed: their bits cleared, and every reply with no row left to wait for is sent (R309). -/
def TX.freeLanded (x : TX) (rows : List Nat) : TX :=
  let w := x.tile.wins
  let held := w.withheld.map (fun h => { h with rows := h.rows.filter (fun r => !rows.contains r) })
  let go := held.filter (fun h => h.rows.isEmpty)
  let x := x.setWins { w with
    landed := w.landed.filter (fun r => !rows.contains r), withheld := held.filter (fun h => !h.rows.isEmpty) }
  go.foldl (fun x h => (x.inject h.reply).2) x

/-- The head slot of a stream released (R198, R199): it is EMPTY, HEAD advances, and a landing ring answers the
transfers of its rows. -/
def TX.releaseHead (x : TX) (k i : Nat) : TX :=
  let s := x.slot k
  let st := s.stream i
  if st.headFull then
    let rows := match st.setDesc with
      | some d => (List.range (pSlotRows d)).map (fun r => st.slotRow st.head r)
      | none => []
    let st' := { st with full := st.full - 2 ^ st.head, head := (st.head + 1) % st.slots }
    let x := x.setSlot k (s.setStream i st')
    if st.landing then x.freeLanded rows else x
  else x

/-- The stream is one whose slots a descriptor may take: a STOPPING stream counts as running for a descriptor that
starts on a FULL slot. Log entry 88. -/
def Stream.usable (st : Stream) : Bool := st.state = .running || st.state = .stopping

/-- Enabled interrupts pending, as mip/mie bits (R58): bits 16–23 and the machine timer, bit 7. -/
def Slot.pendEnabled (s : Slot) : Nat :=
  let mip := bitsOf (s.reg 0x24) 7 0 * 2 ^ 16 + (if s.sc.timerPend then 128 else 0)
  mip &&& s.sc.mie.toNat

/-- LF_READY (R60); a halted scalar core counts as ready (R65). -/
def Slot.lfReady (s : Slot) : Bool := s.sc.wfi && decide (s.pendEnabled = 0)

/-- No engine runs and no queue holds a descriptor. -/
def Slot.quiet (s : Slot) : Bool :=
  decide (s.queues = {}) && decide (s.eng = {})

/-- The handover pause (R65): at an instant where the slot may move, the preloaded resting core takes it. -/
def TX.tryHandover (x : TX) (k : Nat) : TX :=
  let s := x.slot k
  match x.tile.preload with
  | none => x
  | some p =>
    let may := (s.state = .lapRunning && !s.lap.begun) || s.state = .scalar || s.state = .halted
    if !p.takeover && p.done && p.slot = k && may && s.quiet && (s.state = .halted || s.lfReady) then
      let old := x.tile.physOf k
      let s := { s with iram := p.iram, fetchView := p.iram, macros := p.macros }
      let x := x.setSlot k s
      { x with tile := { x.tile with
          slotMap := NMap.put x.tile.slotMap k x.tile.rest, rest := old, restState := .retention, preload := none
          leapSince := x.now, leapDone := satAdd 16 x.tile.leapDone 1 } }
    else x

/-- A core with no lap run stands at a lap boundary at each instant it is ready (R65): what may have made it ready tries
the handover. -/
def TX.instantHandover (x : TX) (k : Nat) : TX :=
  if (x.slot k).state = .lapRunning then x else x.tryHandover k

/-- A finished descriptor: its streams' slots released, its signal token raised and ENGINE_EVENT set where marked
(R49, R105, R116, R198); the core may now be ready for a handover (R65). -/
def TX.finish (x : TX) (k : Nat) (r : Running) : TX :=
  let x := r.release.foldl (fun x i => x.releaseHead k i) x
  let x := if descIrq r.q.desc then x.modSlot k (fun s => s.irq irqEngineEvent) else x
  let x := match descSignal r.q.desc with
    | some t => x.tokenInc k t 1
    | none => x
  x.instantHandover k

/-- `w`-bit codes packed into rows of `n`, low bits first (R76); a row is poisoned when one of its codes is. Log entry
28. -/
def packRows (w n : Nat) (fuel : Nat) (l : List (Nat × Bool)) : List (Nat × Bool) :=
  match fuel with
  | 0 => []
  | fuel + 1 =>
    if l.isEmpty then []
    else
      let a := l.take n
      (a.foldr (fun c v => c.1 % 2 ^ w + 2 ^ w * v) 0, a.any (fun c => c.2)) :: packRows w n fuel (l.drop n)

/-- Bits of one packed output element: a LONGSUM lane takes 24 bytes, an ACC64 entry 16 (R84, R86). -/
def fmtPackBits (f : Nat) : Nat := if f = 12 then 192 else if f = 13 then 128 else fmtStoreBits f

/-- Output codes of format `f` as rows. -/
def rowsOfCodes (f : Nat) (l : List (Nat × Bool)) : List (Nat × Bool) :=
  packRows (fmtPackBits f) (fmtPerRow f) l.length l

/-- Rows numbered from `o`. -/
def numberRows (o : Nat) (l : List (Nat × Bool)) : List (Nat × Nat × Bool) :=
  match l with
  | [] => []
  | (v, p) :: r => (o, v, p) :: numberRows (o + 1) r

end Sys2Proof.Machine
end

