-- ==== Sys2Proof/Machine/MatrixOps.lean ====
section
/-! DEFINITION. The matrix engine on a tile: MM, ACC_CLEAR, ACC_OUT and MACRO_LOAD (chapters "Number formats and exact
accumulation" and "Compute-in-memory matrix engine"). -/

namespace Sys2Proof.Machine

/-- Fields of MM. -/
def mmMask (d : Desc) : Nat := descField d 4 2
def mmNv (d : Desc) : Nat := descField d 6 2
def mmAct (d : Desc) : Nat := descField d 8 4
def mmFmt (d : Desc) : Nat := bitsOf (descField d 12 1) 3 0
def mmStream (d : Desc) : Bool := bitOf (descField d 12 1) 4
def mmExp (d : Desc) : Int := signedOf 8 (descField d 13 1)
def mmKBlocks (d : Desc) : Nat := bitsOf (descField d 14 1) 5 0
def mmSegs (d : Desc) : Nat := bitsOf (descField d 15 1) 4 0
def mmVstride (d : Desc) : Nat := descField d 16 2
def mmOutStride (d : Desc) : Nat := bitsOf (descField d 18 2) 11 0
def mmScale (d : Desc) : Nat := descField d 20 4

/-- Rows that one segment takes: one for 4-bit activations, two for 8-bit (R107). -/
def segRows (f : Nat) : Nat := if fmtStoreBits f = 4 then 1 else 2

/-- Macro `m` of a slot. -/
def Slot.macroAt (s : Slot) (m : Nat) : Macro := NMap.get {} s.macros m
/-- The slot with macro `m` replaced. -/
def Slot.setMacro (s : Slot) (m : Nat) (v : Macro) : Slot := { s with macros := NMap.put s.macros m v }

/-- The code of element `i` of column `n` of a macro (R98). -/
def Macro.cell (m : Macro) (n i : Nat) : Nat :=
  let w := if m.fmt = 0 || m.fmt = 8 then 4 else if m.fmt = 2 then 2 else 8
  let bit := n * 1024 * w + i * w
  bitsOf (NMap.get 0 m.cells (bit / 4096)) (bit % 4096 + w - 1) (bit % 4096)

/-- The entry range of an MM as first and last entry per macro of its mask (R114). -/
def mmRanges (s : Slot) (d : Desc) : List (Nat × Nat) :=
  (setBits (mmMask d) 16).map (fun m =>
    let b := s.macroAt m
    (b.accBase, b.accBase + (mmNv d - 1) * mmOutStride d + b.ncol - 1))

/-- One term added to an accumulator entry (R80–R83): the entry and the status bits. -/
def AccEntry.addTerm (e : AccEntry) (t0 : Int) (lsb : Int) (invalid poison : Bool) : AccEntry × Nat :=
  let (t, lost) := truncShift t0 (lsb - e.w)
  let big := decide (t.natAbs > 2 ^ 47 - 1)
  let t : Int := if big then (if t < 0 then -((2 ^ 47 - 1 : Nat) : Int) else ((2 ^ 47 - 1 : Nat) : Int)) else t
  let full := e.count = 65535
  let v := e.value + t
  let lim : Int := (2 ^ 63 : Nat)
  let v := if full then max (-lim) (min (lim - 1) v) else v
  ({ e with
      value := v
      invalid := e.invalid || invalid || big || full
      poison := e.poison || poison
      count := if full then 65535 else e.count + 1 },
   (if lost then nsInexact else 0) ||| (if big then nsTermRange else 0) ||| (if full then nsCountLimit else 0))

/-- The 32 activation integers of one block and whether one of them is invalid (R72, R78). -/
def blockInts (f : Nat) (row b : Nat) : List (Option Int) :=
  let w := fmtStoreBits f
  (List.range 32).map (fun i => let j := 32 * b + i; elemInt f (bitsOf row (w * j + w - 1) (w * j)))

/-- The block product of R78 and whether an operand element was invalid: such an element counts as zero (R72). -/
def blockProduct (a b : List (Option Int)) : Int × Bool :=
  (a.zip b).foldl (fun acc p =>
    match p.1, p.2 with
    | some x, some y => (acc.1 + x * y, acc.2)
    | _, _ => (acc.1, true)) (0, false)

/-- One segment's activation data: its rows with poison marks, and its 32 scale bytes with theirs. -/
structure SegData where
  rows : List (Nat × Bool) := []
  scales : Nat := 0
  scalePoison : Bool := false
deriving DecidableEq, Repr

/-- The macro op of macro `m` on one segment of one vector (R102): the accumulator and the status bits. -/
def macroOp (d : Desc) (m : Macro) (seg : SegData) (v : Nat) (acc0 : NMap AccEntry) : NMap AccEntry × Nat :=
  let f := mmFmt d
  let mx := fmtIsMx f
  let per := if segRows f = 1 then 32 else 16
  (List.range (mmKBlocks d)).foldl (fun (a : NMap AccEntry × Nat) b =>
    let rowp := seg.rows.getD (b / per) (0, true)
    let ints := blockInts f rowp.1 (b % per)
    let xa : Option Int := if mx then scaleExp (byteOf seg.scales b) else some (mmExp d)
    (List.range m.ncol).foldl (fun (a : NMap AccEntry × Nat) n =>
      let xw : Option Int :=
        if fmtIsMx m.fmt then scaleExp (byteOf m.scales (b * (macroCols m.fmt / 32) + n / 32)) else some m.fixedExp
      let ws := (List.range 32).map (fun i => elemInt m.fmt (m.cell n (32 * b + i)))
      let (t, bad) := blockProduct ints ws
      let (t, bad, x) : Int × Bool × Int :=
        match xa, xw with
        | some p, some q => (t, bad, p + q)
        | _, _ => (0, true, 0)
      let key := m.accBase + v * mmOutStride d + n
      let e := NMap.get {} a.1 key
      let pois := rowp.2 || seg.scalePoison || m.poisoned
      let (e, st) :=
        if bad && (xa.isNone || xw.isNone) then
          -- every element of a block whose scale is NaN is invalid: the term is zero
          AccEntry.addTerm e 0 e.w true pois
        else AccEntry.addTerm e t (fmtLsb f + fmtLsb m.fmt + x) bad pois
      (NMap.set {} a.1 key e, a.2 ||| st ||| (if bad then nsNanIn else 0))) a) (acc0, 0)

/-- The data of the segments of vector `v` that the macros of the mask read (R107). -/
def TX.mmSegments (x : TX) (k : Nat) (e : QEntry) (v : Nat) : List (Nat × SegData) × TX :=
  let d := e.desc
  let s := x.slot k
  let f := mmFmt d
  let rps := segRows f
  let segs := ((setBits (mmMask d) 16).map (fun m => (s.macroAt m).seg)).eraseDups
  let need := if rps = 1 then 1 else (if mmKBlocks d ≤ 16 then 1 else 2)
  segs.foldl (fun (a : List (Nat × SegData) × TX) sg =>
    let rowOf (x : TX) (j : Nat) : Nat × Bool × TX :=
      if mmStream d then
        let st := (x.slot k).stream (refStream (mmAct d))
        x.readRow (st.slotRow st.head (refRow (mmAct d) + sg * rps + j)) k
      else
        let (n, o) := x.effRow (mmAct d) (inc24 (descField d 24 4)) e.lap
        x.readRegionRow n (o + v * mmVstride d + sg * rps + j) k
    let (rows, x) := (List.range need).foldl (fun (r : List (Nat × Bool) × TX) j =>
      let (v, p, x) := rowOf r.2 j
      (r.1 ++ [(v, p)], x)) ([], a.2)
    if fmtIsMx f then
      let i := v * mmSegs d + sg
      let (sv, sp, x) :=
        if mmStream d then
          let st := (x.slot k).stream (refStream (mmAct d))
          let (v, p, x) := x.readRow (st.slotRow st.head (refRow (mmAct d) + mmSegs d * rps)) k
          (bitsOf v (256 * sg + 255) (256 * sg), p, x)
        else
          let (n, o) := x.effRow (mmScale d) (inc24 (descField d 28 4)) e.lap
          let (v, p, x) := x.readRegionRow n (o + i / 16) k
          (bitsOf v (256 * (i % 16) + 255) (256 * (i % 16)), p, x)
      (a.1 ++ [(sg, { rows := rows, scales := sv, scalePoison := sp })], x)
    else (a.1 ++ [(sg, { rows := rows })], x)) ([], x)

/-- All macro ops of one vector, in ascending macro number (R103). -/
def TX.mmVector (x : TX) (k : Nat) (e : QEntry) (v : Nat) : TX :=
  let (segs, x) := x.mmSegments k e v
  let s := x.slot k
  let (acc, st) := (setBits (mmMask e.desc) 16).foldl (fun (a : NMap AccEntry × Nat) m =>
    let mac := s.macroAt m
    match segs.find? (fun p => p.1 = mac.seg) with
    | some p =>
      let (acc, st) := macroOp e.desc mac p.2 v a.1
      (acc, a.2 ||| st)
    | none => a) (s.acc, 0)
  x.setSlot k (({ s with acc := acc }).numeric st)

/-- Vectors run while the MM has any left and, for a streamed MM, while the head slot is FULL: each vector releases its
slot after its last read (R107). -/
def TX.mmRun (x : TX) (k : Nat) (r : Running) (fuel : Nat) : Running × TX :=
  match fuel with
  | 0 => (r, x)
  | fuel + 1 =>
    if r.done ≥ r.total then (r, x)
    else if mmStream r.q.desc then
      let i := refStream (mmAct r.q.desc)
      if ((x.slot k).stream i).headFull then
        let x := (x.mmVector k r.q r.done).releaseHead k i
        TX.mmRun x k { r with done := r.done + 1 } fuel
      else (r, x)
    else TX.mmRun (x.mmVector k r.q r.done) k { r with done := r.done + 1 } fuel

/-- The start-time checks of an MM on the rows that its macros' segments read (R107, R115, R129): the offset of the
failing field. Log entry 26. -/
def TX.mmCheck (x : TX) (k : Nat) (e : QEntry) : Option Nat :=
  let d := e.desc
  let s := x.slot k
  let ms := (setBits (mmMask d) 16).map (fun m => s.macroAt m)
  let rps := segRows (mmFmt d)
  let st := s.stream (refStream (mmAct d))
  let hi := ms.foldl (fun a m => max a m.seg) 0
  let lo := ms.foldl (fun a m => min a m.seg) hi
  let rows := hi * rps + (if rps = 1 || mmKBlocks d ≤ 16 then 1 else 2)
  let (an, ao) := x.effRow (mmAct d) (inc24 (descField d 24 4)) e.lap
  let (sn, so) := x.effRow (mmScale d) (inc24 (descField d 28 4)) e.lap
  let lastI := (mmNv d - 1) * mmSegs d + hi
  let slotRows := match st.setDesc with
    | some c => pSlotRows c
    | none => 0
  let need := refRow (mmAct d) + (if fmtIsMx (mmFmt d) then mmSegs d * rps + 1 else rows)
  firstFail
    [(4, ms.all (fun m => m.loaded)),
     (8, if mmStream d then st.usable && decide (need ≤ slotRows)
         else x.tile.engineMayRead k an (ao + lo * rps) && x.tile.engineMayRead k an (ao + (mmNv d - 1) * mmVstride d + rows - 1)),
     (15, ms.all (fun m => decide (m.seg < mmSegs d))),
     (18, (mmRanges s d).all (fun p => decide (p.2 ≤ 4095))),
     (20, mmStream d || !fmtIsMx (mmFmt d) ||
       (x.tile.engineMayRead k sn (so + lo / 16) && x.tile.engineMayRead k sn (so + lastI / 16)))]

/-- The MMs that have started and not completed, oldest first. -/
def Engines.mms (e : Engines) : List Running :=
  e.mmTail ++ (match e.mm with
    | some r => [r]
    | none => [])
/-- The last MM has begun its last macro op, or there is none (R114). -/
def Engines.mmFree (e : Engines) : Bool :=
  match e.mm with
  | some r => decide (r.done ≥ r.total)
  | none => true

/-- The conditions of R114 for an MM at the queue head. Log entry 26. -/
def TX.mmMayStart (x : TX) (k : Nat) (d : Desc) : Bool :=
  let s := x.slot k
  let ranges := mmRanges s d
  s.eng.mmFree &&
  (setBits (mmMask d) 16).all (fun m => !(s.macroAt m).loading && !x.tile.audit.reloads.contains (k, m)) &&
  (match s.eng.acc with
   | some r =>
     let first := bitsOf (descField r.q.desc 4 2) 11 0
     let n := descField r.q.desc 6 2
     ranges.all (fun p => decide (p.2 < first) || decide (first + n ≤ p.1))
   | none => true) &&
  (!mmStream d || mmNv d = 0 || mmMask d = 0 || (s.stream (refStream (mmAct d))).headFull ||
    !(s.stream (refStream (mmAct d))).usable)

/-- The MM at the head of the matrix queue starts, where R114 and R115 let it; an MM before it that has begun its last
macro op completes on its own (R114). -/
def TX.mmStart (x : TX) (k starved : Nat) : TX :=
  let s := x.slot k
  match s.readyHead 0 1 with
  | none => x
  | some e =>
    let r : Running := { q := e, ranges := mmRanges s e.desc }
    let eng := { s.eng with mmTail := s.eng.mms, mm := some r }
    if !x.mmMayStart k e.desc then
      (if mmStream e.desc then x.starve k (refStream (mmAct e.desc)) starved else x)
    else if mmNv e.desc = 0 || mmMask e.desc = 0 then x.setSlot k { s.popHead 0 e with eng := eng }
    else
      match x.mmCheck k e with
      | some f => x.startFault k 0 e f
      | none =>
        let x := x.setSlot k { s.popHead 0 e with eng := eng }
        let (r, x) := x.mmRun k { r with total := mmNv e.desc } (mmNv e.desc)
        x.modSlot k (fun s => { s with eng := { s.eng with mm := some r } })

/-- MM: starts the descriptor at the head of the matrix queue, or goes on with a streamed MM that waits on its next slot
(R102–R108, R114, R115). `starved` is the cc waited on the head slot. Log entries 18, 26. -/
def TX.mm (x : TX) (k starved : Nat) : TX :=
  match (x.slot k).eng.mm with
  | some r =>
    if r.done < r.total then
      let x := if mmStream r.q.desc then x.starve k (refStream (mmAct r.q.desc)) starved else x
      let (r, x) := x.mmRun k r (r.total - r.done)
      x.modSlot k (fun s => { s with eng := { s.eng with mm := some r } })
    else x.mmStart k starved
  | none => x.mmStart k starved

/-- Fields of ACC_CLEAR and ACC_OUT. -/
def accFirst (d : Desc) : Nat := bitsOf (descField d 4 2) 11 0
def accCount (d : Desc) : Nat := descField d 6 2
def accW (d : Desc) : Int := signedOf 10 (descField d 8 2)
def accFmt (d : Desc) : Nat := bitsOf (descField d 10 1) 3 0
def accClearAfter (d : Desc) : Bool := bitOf (descField d 10 1) 4
def accE (d : Desc) : Int := signedOf 8 (descField d 11 1)
def accG (d : Desc) : Int := signedOf 10 (descField d 12 2)

/-- Entries FIRST to FIRST + COUNT − 1 cleared with window exponent `w` (R79). -/
def clearEntries (acc : NMap AccEntry) (first count : Nat) (w : Int) : NMap AccEntry :=
  (List.range count).foldl (fun a i => NMap.set {} a (first + i) { w := w }) acc

/-- No ACC operation runs, and every started MM whose entry range overlaps has completed (R114). -/
def Slot.accMayStart (s : Slot) (d : Desc) : Bool :=
  s.eng.acc.isNone &&
  s.eng.mms.all (fun r => r.ranges.all (fun p =>
    decide (p.2 < accFirst d) || decide (accFirst d + accCount d ≤ p.1)))

/-- ACC_CLEAR (R112). -/
def TX.accClear (x : TX) (k : Nat) : TX :=
  let s := x.slot k
  match s.readyHead 0 2 with
  | none => x
  | some e =>
    if !s.accMayStart e.desc then x
    else
      let s' := s.popHead 0 e
      x.setSlot k { s' with
        acc := clearEntries s.acc (accFirst e.desc) (accCount e.desc) (accW e.desc)
        eng := { s.eng with acc := some { q := e } } }

/-- The ACC64 image of an entry (R84). -/
def AccEntry.encode (e : AccEntry) : Nat :=
  natOfInt 64 e.value + 2 ^ 64 * natOfInt 10 e.w + 2 ^ 80 * (bitNat e.invalid + 2 * bitNat e.poison) + 2 ^ 96 * e.count

/-- One entry converted by ACC_OUT to a format other than MX (R87, R89–R92): code and status bits. -/
def AccEntry.convert (e : AccEntry) (f : Nat) (ex g : Int) : Nat × Nat :=
  if f = fmtAcc64 then (e.encode, if e.invalid then nsInvalidOut else 0)
  else if f = fmtLongsum then
    let (l, st) := toTerm e.value e.w g
    let l := { l with invalid := l.invalid || e.invalid, poison := e.poison }
    (l.encode, st ||| (if l.invalid then nsInvalidOut else 0))
  else
    let v := if e.invalid then Val.nan else Val.ofInt e.value e.w
    if fmtIsInt f then toInt f ex v else toFloat f v

/-- Lists cut into blocks of 32. -/
def blocksOf32 {α : Type} (fuel : Nat) (l : List α) : List (List α) :=
  match fuel with
  | 0 => []
  | fuel + 1 => if l.isEmpty then [] else l.take 32 :: blocksOf32 fuel (l.drop 32)

/-- Output rows, scale rows and status bits of an ACC_OUT (R93, R112). -/
def accOutRows (d : Desc) (es : List AccEntry) : List (Nat × Bool) × List (Nat × Bool) × Nat :=
  let f := accFmt d
  if fmtIsMx f then
    let bs := (blocksOf32 es.length es).map (fun b =>
      let (sc, cs, st) := toMxBlock f (b.map (fun e => if e.invalid then Val.nan else Val.ofInt e.value e.w))
      let pois := b.any (fun (e : AccEntry) => e.poison)
      (sc, (cs.zip (b.map (fun (e : AccEntry) => e.poison))), pois, st))
    (rowsOfCodes f (bs.flatMap (fun b => b.2.1)),
     packRows 8 512 es.length (bs.map (fun b => (b.1, b.2.2.1))),
     bs.foldl (fun a b => a ||| b.2.2.2) 0)
  else
    let cs := es.map (fun e => (e.convert f (accE d) (accG d), e.poison))
    (rowsOfCodes f (cs.map (fun c => (c.1.1, c.2))), [], cs.foldl (fun a c => a ||| c.1.2) 0)

/-- ACC_OUT (R112, R113, R115, R128). Log entry 18. -/
def TX.accOut (x : TX) (k : Nat) : TX :=
  let s := x.slot k
  match s.readyHead 0 3 with
  | none => x
  | some e =>
    let d := e.desc
    if !s.accMayStart d then x
    else
      let es := (List.range (accCount d)).map (fun i => NMap.get {} s.acc (accFirst d + i))
      let (rows, scales, st) := accOutRows d es
      let inc := inc24 (descField d 24 4)
      let (dn, dof) := x.effRow (descField d 16 4) inc e.lap
      let (sn, so) := x.effRow (descField d 20 4) inc e.lap
      let fail := firstFail
        [(16, rows.isEmpty || (x.tile.engineMayWrite k dn dof false &&
            x.tile.engineMayWrite k dn (dof + rows.length - 1) false)),
         (20, scales.isEmpty || (x.tile.engineMayWrite k sn so false &&
            x.tile.engineMayWrite k sn (so + scales.length - 1) false))]
      match fail with
      | some f => x.startFault k 0 e f
      | none =>
        let pois := rows.any (fun r => r.2) || scales.any (fun r => r.2)
        let s' := s.popHead 0 e
        let acc := if accClearAfter d then clearEntries s.acc (accFirst d) (accCount d) (accW d) else s.acc
        let s' := { s' with acc := acc, eng := { s.eng with acc := some { q := e } } }
        let x := x.setSlot k (s'.numeric (st ||| (if pois then nsPoisonOut else 0)))
        (x.writeRows dn k (numberRows dof rows)).writeRows sn k (numberRows so scales)

/-- Image rows that hold the columns below `n` of format `f` (R98, R109). -/
def imageRows (f n : Nat) : Nat := if f = 0 || f = 8 then n else if f = 2 then ceilDiv n 2 else 2 * n
/-- Bytes of the scale register (R99). -/
def scaleBytes (f : Nat) : Nat := if f = 8 then 256 else if fmtIsMx f then 128 else 0

/-- The macro CRC over the 256 image rows and, for MX formats, the scale register (R110). -/
def macroCrc (cells : NMap Nat) (f scales : Nat) : Nat :=
  let c := (List.range 256).foldl (fun c i => crc32cOver c (NMap.get 0 cells i) 512) 0xFFFFFFFF
  (crc32cOver c scales (scaleBytes f)) ^^^ 0xFFFFFFFF

/-- An image read from a region into a macro's cells and scale register (R98, R99, R109): cells, scales, whether a row
was poisoned. -/
def TX.readImage (x : TX) (entrant f ncol srcN srcO scN scO : Nat) : NMap Nat × Nat × Bool × TX :=
  let n := imageRows f ncol
  let (cells, pois, x) := (List.range n).foldl (fun (a : NMap Nat × Bool × TX) i =>
    let (v, p, x) := a.2.2.readRegionRow srcN (srcO + i) entrant
    let v := if f = 2 && ncol % 2 = 1 && i = n - 1 then v % 2 ^ 2048 else v
    (NMap.set 0 a.1 i v, a.2.1 || p, x)) ([], false, x)
  if fmtIsMx f then
    let (v, p, x) := x.readRegionRow scN scO entrant
    (cells, v % 2 ^ (8 * scaleBytes f), pois || p, x)
  else (cells, 0, pois, x)

/-- MACRO_LOAD: the load begins; the macro is not loaded until the load completes (R109–R111, R114, R115). -/
def TX.macroLoad (x : TX) (k : Nat) : TX :=
  let s := x.slot k
  match s.readyHead 0 4 with
  | none => x
  | some e =>
    let d := e.desc
    let m := bitsOf (descField d 4 1) 3 0
    let f := bitsOf (descField d 5 1) 3 0
    let busy := match s.eng.mm with
      | some r => bitOf (mmMask r.q.desc) m && decide (r.done < r.total)
      | none => false
    if s.eng.load.isSome || busy || x.tile.audit.reloads.any (fun p => p.1 = k) then x
    else
      let ncol := descField d 12 2
      let inc := inc24 (descField d 24 4)
      let (n, o) := x.effRow (descField d 8 4) inc e.lap
      let (sn, so) := x.effRow (descField d 16 4) inc e.lap
      let fail := firstFail
        [(8, x.tile.engineMayRead k n o && x.tile.engineMayRead k n (o + imageRows f ncol - 1)),
         (16, !fmtIsMx f || x.tile.engineMayRead k sn so)]
      match fail with
      | some fo => x.startFault k 0 e fo
      | none =>
        let (cells, scales, pois, x) := x.readImage k f ncol n o sn so
        let mac : Macro :=
          { cells := cells, scales := scales, fmt := f, seg := bitsOf (descField d 6 1) 3 0
            accBase := bitsOf (descField d 14 2) 11 0, ncol := 0, fixedExp := signedOf 8 (descField d 7 1)
            loading := true, poisoned := pois, streamed := true
            srcRegion := n, srcRow := o, scaleRegion := sn, scaleRow := so }
        let s' := (x.slot k).popHead 0 e
        x.setSlot k (({ s' with eng := { s'.eng with load := some { q := e } } }).setMacro m mac)

/-- A macro whose CRC fails its CHECK is loaded once more from the same rows; a second mismatch leaves it POISONED with a
notice (R110). The CRC of the last load is the reference. -/
def TX.macroChecked (x : TX) (k m entrant ncol : Nat) (mac : Macro) (check : Bool) (expect : Nat) : Macro × TX :=
  let crc := macroCrc mac.cells mac.fmt mac.scales
  let done (mac : Macro) (crc : Nat) : Macro := { mac with ncol := ncol, crc := crc, loaded := true, loading := false }
  if !check || crc = expect then (done mac crc, x)
  else
    let (cells, scales, pois, x) :=
      x.readImage entrant mac.fmt ncol mac.srcRegion mac.srcRow mac.scaleRegion mac.scaleRow
    let crc := macroCrc cells mac.fmt scales
    let bad := decide (crc ≠ expect)
    (done { mac with cells := cells, scales := scales, poisoned := pois || bad } crc,
     if bad then x.note true ncMacroMismatch ukCore x.phys (x.tile.physOf k) m else x)

/-- The end of a MACRO_LOAD, with its CHECK (R110). -/
def TX.macroLoadDone (x : TX) (k : Nat) (r : Running) : TX :=
  let d := r.q.desc
  let m := bitsOf (descField d 4 1) 3 0
  let (mac, x) := x.macroChecked k m k (descField d 12 2) ((x.slot k).macroAt m) (bitOf (descField d 5 1) 4) (descField d 20 4)
  x.modSlot k (fun s => s.setMacro m mac)

/-- A matrix descriptor's completion (R116). -/
def TX.matrixDone (x : TX) (k : Nat) (which : Nat) : TX :=
  let s := x.slot k
  if which = 0 then
    match s.eng.mmTail, s.eng.mm with
    | r :: rest, _ => (x.setSlot k { s with eng := { s.eng with mmTail := rest } }).finish k r
    | [], some r => if r.done ≥ r.total then (x.setSlot k { s with eng := { s.eng with mm := none } }).finish k r else x
    | [], none => x
  else if which = 1 then
    match s.eng.load with
    | some r => ((x.setSlot k { s with eng := { s.eng with load := none } }).macroLoadDone k r).finish k r
    | none => x
  else
    match s.eng.acc with
    | some r => (x.setSlot k { s with eng := { s.eng with acc := none } }).finish k r
    | none => x

end Sys2Proof.Machine
end

