-- ==== Sys2Proof/Machine/VectorOps.lean ====
section
/-! DEFINITION. The vector unit on a tile (R130–R141). An operand is a list of elements with the poison mark of the row
each came from. -/

namespace Sys2Proof.Machine

/-- An element read: its value, and whether its row (or its scale row) was poisoned. -/
abbrev Elem := Val × Bool

/-- Compute format code of FMTS as a storage format (R130). -/
def compFmt (c : Nat) : Nat := if c = 0 then fmtBF16 else if c = 1 then fmtFP16 else fmtFP32

/-- Rows that 32 × nb elements of format `f` take. -/
def operandRows (f nb : Nat) : Nat := ceilDiv (32 * nb) (fmtPerRow f)
/-- Scale rows that nb blocks take (R131). -/
def scaleRows (nb : Nat) : Nat := ceilDiv nb 512

/-- Rows `o` … `o + n − 1` of region `r` read in order. -/
def TX.readRows (x : TX) (k r o n : Nat) : List (Nat × Bool) × TX :=
  (List.range n).foldl (fun (a : List (Nat × Bool) × TX) i =>
    let (v, p, x) := a.2.readRegionRow r (o + i) k
    (a.1 ++ [(v, p)], x)) ([], x)

/-- Rows of the head staging slot of stream `i` from slot row `o` (R124). -/
def TX.readSlotRows (x : TX) (k i o n : Nat) : List (Nat × Bool) × TX :=
  (List.range n).foldl (fun (a : List (Nat × Bool) × TX) j =>
    let st := (a.2.slot k).stream i
    let (v, p, x) := a.2.readRow (st.slotRow st.head (o + j)) k
    (a.1 ++ [(v, p)], x)) ([], x)

/-- The first `n` element codes of a run of rows (R76, R86). -/
def codesOf (f n : Nat) (rows : List (Nat × Bool)) : List (Nat × Bool) :=
  let w := fmtPackBits f
  let per := fmtPerRow f
  (rows.flatMap (fun r => (List.range per).map (fun i => (bitsOf r.1 (w * i + w - 1) (w * i), r.2)))).take n

/-- The scale code of block `b` in a run of scale rows (R131). -/
def scaleAt (rows : List (Nat × Bool)) (b : Nat) : Nat × Bool :=
  let r := rows.getD (b / 512) (0, true)
  (byteOf r.1 (b % 512), r.2)

/-- Codes as elements: block exponents from the scale rows, or the fixed exponent `e`, or the group exponent for
long-sum lanes; with NAN_IN where an invalid element was read (R72, R131). -/
def elemsOf (f : Nat) (e : Int) (scales : List (Nat × Bool)) (codes : List (Nat × Bool)) : List Elem × Nat :=
  let go (i : Nat) (c : Nat × Bool) : Elem × Nat :=
    if f = fmtLongsum then
      let l := Lane.decode c.1
      ((if l.invalid then Val.nan else Val.ofInt l.value e, c.2 || l.poison), 0)
    else if fmtIsMx f then
      let (v, bad) := elemVal f (scaleExp (scaleAt scales (i / 32)).1) c.1
      ((v, c.2 || scales.any (fun r => r.2)), if bad then nsNanIn else 0)
    else
      let (v, bad) := elemVal f (some e) c.1
      ((v, c.2), if bad then nsNanIn else 0)
  let rs := codes.mapIdx go
  (rs.map (fun r => r.1), rs.foldl (fun a r => a ||| r.2) 0)

/-- An element widened into the compute format: rounded, or saturated by R90 (R131). -/
def widen (cf : Nat) (v : Val) : Val × Nat :=
  let (c, st) := toFloat cf v
  (fromFloat cf c, st &&& nsSat)

/-- Elements widened, with the status bits. -/
def widenAll (cf : Nat) (l : List Elem) : List Elem × Nat :=
  let rs := l.map (fun x => let (v, st) := widen cf x.1; ((v, x.2), st))
  (rs.map (fun r => r.1), rs.foldl (fun a r => a ||| r.2) 0)

/-- Elements written in format `f`: element rows, scale rows, status bits (R89–R93, R128, R131). -/
def narrowOut (f : Nat) (e : Int) (g : Int) (l : List Elem) : List (Nat × Bool) × List (Nat × Bool) × Nat :=
  if fmtIsMx f then
    let bs := (blocksOf32 l.length l).map (fun b =>
      let (sc, cs, st) := toMxBlock f (b.map (fun (x : Elem) => x.1))
      (sc, cs.zip (b.map (fun (x : Elem) => x.2)), b.any (fun (x : Elem) => x.2), st))
    (rowsOfCodes f (bs.flatMap (fun b => b.2.1)), packRows 8 512 l.length (bs.map (fun b => (b.1, b.2.2.1))),
     bs.foldl (fun a b => a ||| b.2.2.2) 0)
  else
    let cs := l.map (fun x =>
      let (c, st) : Nat × Nat :=
        if f = fmtLongsum then (let (l, st) := valToLane g x.1; ({ l with poison := x.2 }.encode, st))
        else if fmtIsInt f then toInt f e x.1 else toFloat f x.1
      ((c, x.2), st))
    (rowsOfCodes f (cs.map (fun c => c.1)), [], cs.foldl (fun a c => a ||| c.2) 0)

/-- The binary functions of R132 in compute format `cf`. -/
def binaryVal (cf func : Nat) (a b : Val) : Val :=
  if func = 0 then (Val.add a b).rnd cf
  else if func = 1 then (Val.add a b.negate).rnd cf
  else if func = 2 then (Val.mul a b).rnd cf
  else if func = 3 then Val.max a b
  else Val.min a b

/-- The unary functions of R132 in compute format `cf` (R137, R138). -/
def unaryVal (cf func : Nat) (v : Val) : Val :=
  if func = 0 then
    (match v with
     | .nan => .nan
     | .inf _ => .inf false
     | .fin _ m e => .fin false m e)
  else if func = 1 then v.negate
  else if func = 2 then
    (match v with
     | .nan => .nan
     | .inf n => if n then .fin false 0 0 else .inf false
     | .fin n m e => if n || m = 0 then .fin false 0 0 else .fin false m e)
  else if func = 10 then (Val.sqrt v).rnd cf
  else (fromFloat fmtFP32 (unaryTable func (toArith fmtFP32 v))).rnd cf

/-- Lane partials combined: each lane adds its elements in rising order, then a halving tree over 128 lanes (R134). -/
def laneFold (f : Val → Val → Val) (l : List Val) : List (Option Val) :=
  (List.range 128).map (fun i =>
    (List.range (ceilDiv (l.length - i) 128)).foldl (fun (a : Option Val) q =>
      match l[128 * q + i]? with
      | some v => (match a with
          | some s => some (f s v)
          | none => some v)
      | none => a) none)
/-- One halving step: lane i with lane i + h. -/
def halveLanes (f : Val → Val → Val) (h : Nat) (l : List (Option Val)) : List (Option Val) :=
  (List.range h).map (fun i =>
    match l.getD i none, l.getD (i + h) none with
    | some a, some b => some (f a b)
    | some a, none => some a
    | none, b => b)
/-- The tree of R134 over lane partials. -/
def treeFold (f : Val → Val → Val) (l : List (Option Val)) : Option Val :=
  ([64, 32, 16, 8, 4, 2, 1].foldl (fun l h => halveLanes f h l) l).getD 0 none

/-- FP32 sum in the fixed order. -/
def add32 (a b : Val) : Val := (Val.add a b).rnd fmtFP32
def sumFixed (l : List Val) : Val := (treeFold add32 (laneFold add32 l)).getD (.fin false 0 0)
/-- FP32 sum of squares: each lane uses a fused square-and-add from its first element's rounded square on (R134). -/
def sumSqFixed (l : List Val) : Val :=
  let lanes := (List.range 128).map (fun i =>
    (List.range (ceilDiv (l.length - i) 128)).foldl (fun (a : Option Val) q =>
      match l[128 * q + i]? with
      | some v => (match a with
          | some s => some ((Val.add (Val.mul v v) s).rnd fmtFP32)
          | none => some ((Val.mul v v).rnd fmtFP32))
      | none => a) none)
  (treeFold add32 lanes).getD (.fin false 0 0)
/-- Maximum and minimum of a segment. -/
def maxAll (l : List Val) : Val := match l with
  | [] => .nan
  | a :: r => r.foldl Val.max a
def minAll (l : List Val) : Val := match l with
  | [] => .nan
  | a :: r => r.foldl Val.min a

/-- Lists cut into segments of `n`. -/
def segments {α : Type} (n fuel : Nat) (l : List α) : List (List α) :=
  match fuel with
  | 0 => []
  | fuel + 1 => if l.isEmpty then [] else l.take n :: segments n fuel (l.drop n)

def exp32 (v : Val) : Val := fromFloat fmtFP32 (unaryTable 3 (toArith fmtFP32 v))
def recip32 (v : Val) : Val := fromFloat fmtFP32 (unaryTable 8 (toArith fmtFP32 v))
def rsqrt32 (v : Val) : Val := fromFloat fmtFP32 (unaryTable 9 (toArith fmtFP32 v))
def sub32 (a b : Val) : Val := (Val.add a b.negate).rnd fmtFP32
def mul32 (a b : Val) : Val := (Val.mul a b).rnd fmtFP32
def div32 (a b : Val) : Val := (Val.div a b).rnd fmtFP32
def natVal (n : Nat) : Val := .fin false n 0

/-- SOFTMAX_STATS of one segment: the pair (m, s) (R136). -/
def softmaxStats (merge : Bool) (old : Val × Val) (l : List Val) : Val × Val :=
  let mx := maxAll l
  let m := if merge then Val.max old.1 mx else mx
  let s0 := if merge then mul32 old.2 (exp32 (sub32 old.1 m)) else Val.fin false 0 0
  (m, add32 s0 (sumFixed (l.map (fun x => exp32 (sub32 x m)))))

/-- NORM_STATS of one segment: the pair (mean, rinv) (R136). -/
def normStats (rms : Bool) (eps : Val) (l : List Val) : Val × Val :=
  let n := natVal l.length
  if rms then (.fin false 0 0, rsqrt32 (add32 (div32 (sumSqFixed l) n) eps))
  else
    let mean := div32 (sumFixed l) n
    (mean, rsqrt32 (add32 (div32 (sumSqFixed (l.map (fun x => sub32 x mean))) n) eps))

/-- The pair of segment `q` in a run of stats rows (R135). -/
def statsAt (rows : List (Nat × Bool)) (q : Nat) : (Val × Val) × Bool :=
  let r := rows.getD (q / 64) (0, true)
  let b := 64 * (q % 64)
  ((fromFloat fmtFP32 (bitsOf r.1 (b + 31) b), fromFloat fmtFP32 (bitsOf r.1 (b + 63) (b + 32))), r.2)
/-- Stats pairs as whole rows, unused pairs zero (R135). -/
def statsRows (ps : List ((Val × Val) × Bool)) : List (Nat × Bool) :=
  packRows 64 64 ps.length (ps.map (fun p => (toArith fmtFP32 p.1.1 + 2 ^ 32 * toArith fmtFP32 p.1.2, p.2)))
/-- INVALID_OUT for stats pairs of which one value is a NaN, written as the invalid code of FP32 (R91, R96). -/
def statsStatus (ps : List ((Val × Val) × Bool)) : Nat :=
  if ps.any (fun p => p.1.1 == Val.nan || p.1.2 == Val.nan) then nsInvalidOut else 0

/-- A 16 × 16 transpose of 256 codes (R140). -/
def transposeTile {α : Type} (d : α) (l : List α) : List α :=
  (List.range 256).map (fun i => l.getD (16 * (i % 16) + i / 16) d)

/-- The 16-bit indices of an index stream (R141). -/
def indicesOf (n : Nat) (rows : List (Nat × Bool)) : List (Nat × Bool) := codesOf fmtFP16 n rows

/-- GATHER of one row: element codes by index, zero where the index is out of range (R141). -/
def gatherRow (per : Nat) (row : List Nat) (idx : List Nat) : List Nat :=
  idx.map (fun i => if i < per then row.getD i 0 else 0)
/-- SCATTER of one row into `init`: the highest source index wins (R141). -/
def scatterRow (per : Nat) (init row idx : List Nat) : List Nat :=
  (row.zip idx).foldl (fun a p => if p.2 < per then listModify a p.2 (fun _ => p.1) else a) init
/-- Two in-range indices name one position. -/
def collides (per : Nat) (idx : List Nat) : Bool :=
  let l := idx.filter (fun i => i < per)
  l.eraseDups.length ≠ l.length

/-- What a vector descriptor reads and writes as row ranges, each with the offset of the field that names it. -/
structure VecPlan where
  aRows : Nat := 0
  bRows : Nat := 0
  dRows : Nat := 0
  sRows : Nat := 0          -- scale rows of A, or stats rows
  dsRows : Nat := 0         -- scale rows of D
  inputs : Nat := 1         -- inputs that A names, each of aRows rows (R139)
  stride : Nat := 0         -- rows from one to the next
  readsD : Bool := false
deriving DecidableEq, Repr

/-- The row counts of a vector descriptor. -/
def vecPlan (d : Desc) : VecPlan :=
  let op := descOp d
  let nb := vNb d
  let segs := if vSegb d = 0 then 0 else nb / vSegb d
  let a := operandRows (vFmtA d) nb
  let o := operandRows (vFmtD d) nb
  let sA := if fmtIsMx (vFmtA d) then scaleRows nb else 0
  let sD := if fmtIsMx (vFmtD d) then scaleRows nb else 0
  if op = 1 then { aRows := a, dRows := o, sRows := sA, dsRows := sD }
  else if op = 2 then
    { aRows := a, bRows := if vBImm d then 0 else operandRows (vFmtB d) nb, dRows := o, sRows := sA, dsRows := sD,
      readsD := vFunc d = 5 }
  else if op = 3 then { aRows := a, dRows := o, sRows := sA, dsRows := sD }
  else if op = 4 then { aRows := a, dRows := ceilDiv segs (fmtPerRow (vFmtD d)) }
  else if op = 5 then { aRows := a, dRows := ceilDiv segs 64, readsD := vFunc d = 1 }
  else if op = 7 then { aRows := a, dRows := ceilDiv segs 64 }
  else if op = 6 then { aRows := a, dRows := o, sRows := ceilDiv segs 64 }
  else if op = 8 then
    { aRows := a, dRows := o, sRows := ceilDiv segs 64,
      bRows := if vFunc d = 1 then 2 * ceilDiv (32 * vSegb d) (fmtPerRow (vFmtB d)) else 0 }
  else if op = 9 then
    { aRows := a, dRows := o, sRows := sA, dsRows := sD, inputs := bitsOf (vB d) 23 16, stride := bitsOf (vB d) 15 0 }
  else if op = 10 then { aRows := a, dRows := o }
  else { aRows := a, bRows := operandRows fmtFP16 nb, dRows := o, readsD := op = 12 && vKeep d }

/-- Where each input of A begins, and the rows from the first input's begin to the last one's end (R139). -/
def VecPlan.begins (p : VecPlan) : List Nat := (List.range p.inputs).map (fun i => i * p.stride)
def VecPlan.span (p : VecPlan) : Nat := (p.inputs - 1) * p.stride + p.aRows

/-- The effective places of A, B, D, the scale or stats rows and D's scale rows (R125, R130). -/
structure VecPlace where
  aN : Nat := 0
  aO : Nat := 0
  bN : Nat := 0
  bO : Nat := 0
  dN : Nat := 0
  dO : Nat := 0
  sN : Nat := 0
  sO : Nat := 0
  dsO : Nat := 0
deriving DecidableEq, Repr

def TX.vecPlace (x : TX) (e : QEntry) : VecPlace :=
  let d := e.desc
  let op := descOp d
  let (aN, aO) := x.effRow (vA d) (vIncA d) e.lap
  let (bN, bO) := x.effRow (vB d) (if vBInc d then vIncA d else 0) e.lap
  let (dN, dO) := x.effRow (vD d) (vIncD d) e.lap
  let stats := op = 6 || op = 8
  let sInc := if stats then 0 else if fmtIsMx (vFmtA d) then vIncA d else vIncD d
  let (sN, sO) := x.effRow (vS d) sInc e.lap
  let dsBase := refRow (vS d) + (if fmtIsMx (vFmtA d) then scaleRows (vNb d) else 0)
  let dsO := match x.tile.store.region sN with
    | some r => lapOffset dsBase (vIncD d) e.lap r.size
    | none => dsBase
  { aN := aN, aO := aO, bN := bN, bO := bO, dN := dN, dO := dO, sN := sN, sO := sO, dsO := dsO }

/-- Two runs of rows share a row. -/
def overlap (n o len n' o' len' : Nat) : Bool :=
  decide (n = n') && decide (0 < len) && decide (0 < len') && decide (o < o' + len') && decide (o' < o + len)

/-- A run of rows all readable, or all writable, by slot `k`: the run may be empty. -/
def Tile.runReadable (t : Tile) (k n o len : Nat) : Bool :=
  len = 0 || (t.engineMayRead k n o && t.engineMayRead k n (o + len - 1))
def Tile.runWritable (t : Tile) (k n o len : Nat) (copy : Bool) : Bool :=
  len = 0 || (List.range len).all (fun i => t.engineMayWrite k n (o + i) copy)

/-- A run of store rows, a stream's, meets a run of region rows (R127). -/
def TX.slotMeets (x : TX) (first len dn dof dlen : Nat) : Bool :=
  match x.tile.store.region dn with
  | some r => (List.range dlen).any (fun j =>
      let w := r.storeRow (dof + j)
      decide (first ≤ w) && decide (w < first + len))
  | none => false

/-- Start-time checks of a vector descriptor (R115, R127, R129): the offset of the failing field. D's rows and D's scale
rows are both rows written, and an overlap of either names D (R566). -/
def TX.vecCheck (x : TX) (k : Nat) (e : QEntry) : Option Nat :=
  let d := e.desc
  let op := descOp d
  let p := vecPlan d
  let q := x.vecPlace e
  let st := (x.slot k).stream (refStream (vA d))
  let slotRows := match st.setDesc with
    | some c => pSlotRows c
    | none => 0
  let elementwise := op = 1 || op = 2 || op = 3
  -- an output run against an input run: the one overlap R127 permits is an element-wise output on its input's own rows
  let clash (dn dof dlen n o len : Nat) : Bool :=
    overlap dn dof dlen n o len && !(elementwise && decide (n = dn) && decide (o = dof) && decide (len = dlen))
  let outClash (dn dof dlen : Nat) : Bool :=
    (!vStream d && p.begins.any (fun b => clash dn dof dlen q.aN (q.aO + b) p.aRows)) ||
    clash dn dof dlen q.bN q.bO p.bRows || clash dn dof dlen q.sN q.sO p.sRows ||
    (vStream d && p.begins.any (fun b =>
      let first := st.slotRow st.head (refRow (vA d) + b)
      let at_ := match x.tile.store.region dn with
        | some r => r.storeRow dof
        | none => 0
      x.slotMeets first p.aRows dn dof dlen && !(elementwise && decide (p.aRows = dlen) && decide (at_ = first))))
  firstFail
    [(4, if vStream d then st.usable && decide (refRow (vA d) + p.span ≤ slotRows)
         else x.tile.runReadable k q.aN q.aO p.span),
     (8, x.tile.runReadable k q.bN q.bO p.bRows),
     (12, x.tile.runWritable k q.dN q.dO p.dRows false &&
       !outClash q.dN q.dO p.dRows && !outClash q.sN q.dsO p.dsRows),
     (16, x.tile.runReadable k q.sN q.sO p.sRows && x.tile.runWritable k q.sN q.dsO p.dsRows false)]

/-- What the vector unit computed: element or stats rows for D, scale rows for D, numeric-status bits, and the GATHER
and SCATTER events of R150. -/
structure VecResult where
  rows : List (Nat × Bool) := []
  scales : List (Nat × Bool) := []
  status : Nat := 0
  events : Nat := 0
deriving DecidableEq, Repr

/-- The inputs of a vector descriptor as read. -/
structure VecIn where
  a : List (Nat × Bool) := []
  b : List (Nat × Bool) := []
  dOld : List (Nat × Bool) := []
  s : List (Nat × Bool) := []
deriving DecidableEq, Repr

/-- Any row of a run is poisoned. -/
def anyPoison (l : List (Nat × Bool)) : Bool := l.any (fun r => r.2)

/-- CONVERT (R131): each value rounds once from A straight into D's format. -/
def vecConvert (d : Desc) (i : VecIn) : VecResult :=
  let n := 32 * vNb d
  let g := signedOf 10 (vB d)
  let (es, st) := elemsOf (vFmtA d) (if vFmtA d = fmtLongsum then g else vE d) i.s (codesOf (vFmtA d) n i.a)
  let (rows, sc, st') := narrowOut (vFmtD d) (vE d) g es
  { rows := rows, scales := sc, status := st ||| st' }

/-- BINARY on long-sum lanes (R88, R132). -/
def vecLanes (d : Desc) (i : VecIn) : VecResult :=
  let n := 32 * vNb d
  let op := if vFunc d = 0 then 0 else if vFunc d = 3 then 1 else 2
  let lim : Int := (2 ^ 159 : Nat)
  let cs := ((codesOf fmtLongsum n i.a).zip (codesOf fmtLongsum n i.b)).map (fun p =>
    let l := Lane.combine op (Lane.decode p.1.1) (Lane.decode p.2.1)
    let big := decide (l.value ≥ lim) || decide (l.value < -lim)
    let l : Lane := if big then { l with value := if l.value < 0 then -lim else lim - 1, invalid := true } else l
    let pois := l.poison || p.1.2 || p.2.2
    (({ l with poison := pois }.encode, pois), (if big then nsTermRange else 0) ||| (if l.invalid then nsInvalidOut else 0)))
  { rows := rowsOfCodes fmtLongsum (cs.map (fun c => c.1)), status := cs.foldl (fun a c => a ||| c.2) 0 }

/-- BINARY (R131, R132). -/
def vecBinary (d : Desc) (i : VecIn) : VecResult :=
  let n := 32 * vNb d
  let cf := compFmt (vComp d)
  if vFmtA d = fmtLongsum then vecLanes d i
  else
    let (as, s1) := elemsOf (vFmtA d) (vE d) i.s (codesOf (vFmtA d) n i.a)
    let (as, s2) := widenAll cf as
    let (bs, s3) : List Elem × Nat :=
      if vBImm d then (List.replicate n (fromFloat fmtFP32 (vB d), false), 0)
      else elemsOf (vFmtB d) (vE d) [] (codesOf (vFmtB d) n i.b)
    let (bs, s4) := widenAll cf bs
    let (ds, s5) : List Elem × Nat :=
      if vFunc d = 5 then widenAll cf (elemsOf (vFmtD d) (vE d) [] (codesOf (vFmtD d) n i.dOld)).1 else ([], 0)
    let rs := if vFunc d = 5 then
        ((as.zip bs).zip ds).map (fun p =>
          ((Val.add (Val.mul p.1.1.1 p.1.2.1) p.2.1).rnd cf, p.1.1.2 || p.1.2.2 || p.2.2))
      else (as.zip bs).map (fun p => (binaryVal cf (vFunc d) p.1.1 p.2.1, p.1.2 || p.2.2))
    let (rows, sc, s6) := narrowOut (vFmtD d) (vE d) 0 rs
    { rows := rows, scales := sc, status := s1 ||| s2 ||| s3 ||| s4 ||| s5 ||| s6 }

/-- UNARY (R131, R132, R137). -/
def vecUnary (d : Desc) (i : VecIn) : VecResult :=
  let cf := compFmt (vComp d)
  let (as, s1) := elemsOf (vFmtA d) (vE d) i.s (codesOf (vFmtA d) (32 * vNb d) i.a)
  let (as, s2) := widenAll cf as
  let (rows, sc, s3) := narrowOut (vFmtD d) (vE d) 0 (as.map (fun x => (unaryVal cf (vFunc d) x.1, x.2)))
  { rows := rows, scales := sc, status := s1 ||| s2 ||| s3 }

/-- The FP32 segments of A and the poison of each segment's rows (R128, R132). -/
def vecSegments (d : Desc) (i : VecIn) : List (List Val × Bool) × Nat :=
  let (as, s1) := elemsOf (vFmtA d) (vE d) [] (codesOf (vFmtA d) (32 * vNb d) i.a)
  let (as, s2) := widenAll fmtFP32 as
  ((segments (32 * vSegb d) as.length as).map (fun l =>
    (l.map (fun (x : Elem) => x.1), l.any (fun (x : Elem) => x.2))), s1 ||| s2)

/-- REDUCE (R132, R134). -/
def vecReduce (d : Desc) (i : VecIn) : VecResult :=
  let (segs, s1) := vecSegments d i
  let f := vFunc d
  let rs := segs.map (fun p =>
    (if f = 0 then sumFixed p.1 else if f = 1 then maxAll p.1 else if f = 2 then minAll p.1 else sumSqFixed p.1, p.2))
  let (rows, _, s2) := narrowOut (vFmtD d) (vE d) 0 rs
  { rows := rows, status := s1 ||| s2 }

/-- SOFTMAX_STATS (R135, R136); with MERGE every output row depends on every stats row read (R128). -/
def vecSoftmaxStats (d : Desc) (i : VecIn) : VecResult :=
  let (segs, s1) := vecSegments d i
  let merge := vFunc d = 1
  let sp := merge && anyPoison i.dOld
  let ps := segs.mapIdx (fun q p => (softmaxStats merge (statsAt i.dOld q).1 p.1, p.2 || sp))
  { rows := statsRows ps, status := s1 ||| statsStatus ps }

/-- SOFTMAX_APPLY (R136). -/
def vecSoftmaxApply (d : Desc) (i : VecIn) : VecResult :=
  let (segs, s1) := vecSegments d i
  let sp := anyPoison i.s
  let rs := (segs.mapIdx (fun q p =>
    let (m, s) := (statsAt i.s q).1
    p.1.map (fun x => (mul32 (exp32 (sub32 x m)) (recip32 s), p.2 || sp)))).flatten
  let (rows, _, s2) := narrowOut (vFmtD d) (vE d) 0 rs
  { rows := rows, status := s1 ||| s2 }

/-- NORM_STATS (R136). -/
def vecNormStats (d : Desc) (i : VecIn) : VecResult :=
  let (segs, s1) := vecSegments d i
  let eps := fromFloat fmtFP32 (vB d)
  let ps := segs.map (fun p => (normStats (vFunc d = 1) eps p.1, p.2))
  { rows := statsRows ps, status := s1 ||| statsStatus ps }

/-- NORM_APPLY (R136). -/
def vecNormApply (d : Desc) (i : VecIn) : VecResult :=
  let (segs, s1) := vecSegments d i
  let n := 32 * vSegb d
  let half := i.b.length / 2
  let conv (r : List (Nat × Bool)) : List Val :=
    (elemsOf (vFmtB d) (vE d) [] (codesOf (vFmtB d) n r)).1.map (fun x => (widen fmtFP32 x.1).1)
  let gamma := conv (i.b.take half)
  let beta := conv (i.b.drop half)
  let sp := anyPoison i.s || anyPoison i.b
  let rs := (segs.mapIdx (fun q p =>
    let (mean, rinv) := (statsAt i.s q).1
    p.1.mapIdx (fun j x =>
      let y := mul32 (sub32 x mean) rinv
      let y := if vFunc d = 1 then
        (Val.add (Val.mul y (gamma.getD j .nan)) (beta.getD j .nan)).rnd fmtFP32 else y
      (y, p.2 || sp)))).flatten
  let (rows, _, s2) := narrowOut (vFmtD d) (vE d) 0 rs
  { rows := rows, status := s1 ||| s2 }

/-- POOL: P inputs combined element by element in rising input order (R134, R139). The spec does not say which scale bytes
serve the inputs of an MX A: the same scale rows serve every input. Log entry 87. -/
def vecPool (d : Desc) (i : VecIn) : VecResult :=
  let n := 32 * vNb d
  let cf := compFmt (vComp d)
  let p := bitsOf (vB d) 23 16
  let len := operandRows (vFmtA d) (vNb d)
  let ins := (List.range p).map (fun t =>
    let (es, s) := elemsOf (vFmtA d) (vE d) i.s (codesOf (vFmtA d) n ((i.a.drop (t * len)).take len))
    let (es, s') := widenAll cf es
    (es, s ||| s'))
  let st := ins.foldl (fun a x => a ||| x.2) 0
  let comb (a b : Elem) : Elem :=
    (if vFunc d = 0 then Val.max a.1 b.1 else (Val.add a.1 b.1).rnd cf, a.2 || b.2)
  let total := match ins with
    | [] => []
    | f :: r => r.foldl (fun a x => (a.zip x.1).map (fun q => comb q.1 q.2)) f.1
  let rs := if vFunc d = 0 then total else total.map (fun x => ((Val.div x.1 (natVal p)).rnd cf, x.2))
  let (rows, sc, s2) := narrowOut (vFmtD d) (vE d) 0 rs
  { rows := rows, scales := sc, status := st ||| s2 }

/-- TRANSPOSE (R140). Log entry 28. -/
def vecTranspose (d : Desc) (i : VecIn) : VecResult :=
  let cs := codesOf (vFmtA d) (32 * vNb d) i.a
  let ts := (segments 256 cs.length cs).map (fun t =>
    let p := t.any (fun (c : Nat × Bool) => c.2)
    (transposeTile 0 (t.map (fun (c : Nat × Bool) => c.1))).map (fun v => (v, p)))
  { rows := rowsOfCodes (vFmtD d) ts.flatten }

/-- GATHER (R141). -/
def vecGather (d : Desc) (i : VecIn) : VecResult :=
  let per := fmtPerRow (vFmtA d)
  let n := 32 * vNb d
  let rows := segments per n (codesOf (vFmtA d) n i.a)
  let idx := segments per n (indicesOf n i.b)
  let out := (rows.zip idx).flatMap (fun p =>
    let pois := anyPoison p.1 || anyPoison i.b
    (gatherRow per (p.1.map (fun (c : Nat × Bool) => c.1)) (p.2.map (fun (c : Nat × Bool) => c.1))).map
      (fun v => (v, pois)))
  { rows := rowsOfCodes (vFmtD d) out
    events := if (indicesOf n i.b).any (fun c => decide (c.1 ≥ per)) then 1 else 0 }

/-- SCATTER (R141). -/
def vecScatter (d : Desc) (i : VecIn) : VecResult :=
  let per := fmtPerRow (vFmtA d)
  let n := 32 * vNb d
  let rows := segments per n (codesOf (vFmtA d) n i.a)
  let idx := segments per n (indicesOf n i.b)
  let old := if vKeep d then segments per n (codesOf (vFmtA d) n i.dOld)
    else rows.map (fun r => r.map (fun _ => (0, false)))
  let nat (l : List (Nat × Bool)) : List Nat := l.map (fun c => c.1)
  let out := ((rows.zip idx).zip old).flatMap (fun p =>
    let pois := anyPoison p.1.1 || anyPoison i.b || anyPoison p.2
    (scatterRow per (nat p.2) (nat p.1.1) (nat p.1.2)).map (fun v => (v, pois)))
  { rows := rowsOfCodes (vFmtD d) out
    events := (if (indicesOf n i.b).any (fun c => decide (c.1 ≥ per)) then 1 else 0) +
      (if idx.any (fun l => collides per (nat l)) then 2 else 0) }

/-- The operation of a vector descriptor. Log entry 29. -/
def vecCompute (d : Desc) (i : VecIn) : VecResult :=
  let op := descOp d
  if op = 1 then vecConvert d i else if op = 2 then vecBinary d i else if op = 3 then vecUnary d i
  else if op = 4 then vecReduce d i else if op = 5 then vecSoftmaxStats d i else if op = 6 then vecSoftmaxApply d i
  else if op = 7 then vecNormStats d i else if op = 8 then vecNormApply d i else if op = 9 then vecPool d i
  else if op = 10 then vecTranspose d i else if op = 11 then vecGather d i else vecScatter d i

/-- A vector descriptor with operation `op` at the head of its queue starts: checks, reads, the operation, writes
(R124–R131). `starved` is the cc waited on the head slot. One with NB = 0 is not checked. Log entries 18, 88. -/
def TX.vector (x : TX) (k op starved : Nat) : TX :=
  let s := x.slot k
  match s.readyHead 1 op with
  | none => x
  | some e =>
    let d := e.desc
    if s.eng.vector.isSome then x
    else if vNb d = 0 then
      x.setSlot k { s.popHead 1 e with eng := { s.eng with vector := some { q := e } } }
    else
      let si := refStream (vA d)
      if vStream d && (s.stream si).usable && !(s.stream si).headFull then x.starve k si starved
      else
        match x.vecCheck k e with
        | some f => x.startFault k 1 e f
        | none =>
          let p := vecPlan d
          let q := x.vecPlace e
          let (a, x) := p.begins.foldl (fun (a : List (Nat × Bool) × TX) b =>
            let (l, x) := if vStream d then a.2.readSlotRows k si (refRow (vA d) + b) p.aRows
              else a.2.readRows k q.aN (q.aO + b) p.aRows
            (a.1 ++ l, x)) ([], x)
          let (b, x) := x.readRows k q.bN q.bO p.bRows
          let (old, x) := if p.readsD then x.readRows k q.dN q.dO p.dRows else ([], x)
          let (sc, x) := x.readRows k q.sN q.sO p.sRows
          let r := vecCompute d { a := a, b := b, dOld := old, s := sc }
          let pois := anyPoison r.rows || anyPoison r.scales
          let s' := (x.slot k).popHead 1 e
          let run : Running := { q := e, release := if vStream d && vRelease d then [si] else [] }
          let s' := ({ s' with eng := { s'.eng with vector := some run } }).numeric
            (r.status ||| (if pois then nsPoisonOut else 0))
          let x := x.setSlot k s'
          let x := if r.events = 0 then x else x.setReg (0x180 + 4 * k) (x.reg (0x180 + 4 * k) ||| r.events)
          (x.writeRows q.dN k (numberRows q.dO r.rows)).writeRows q.sN k (numberRows q.dsO r.scales)

/-- A vector descriptor's completion. -/
def TX.vectorDone (x : TX) (k : Nat) : TX :=
  let s := x.slot k
  match s.eng.vector with
  | some r => (x.setSlot k { s with eng := { s.eng with vector := none } }).finish k r
  | none => x

end Sys2Proof.Machine
end

