-- ==== Sys2Proof/Machine/StoreEngineOps.lean ====
section
/-! DEFINITION. The store engine and the pacer on a tile (R142–R146, R197–R207, R274, R311, R568). -/

namespace Sys2Proof.Machine

/-- Row of a tile (R20). -/
def physRow (p : Nat) : Nat := p / 16
/-- Column of a tile. -/
def physCol (p : Nat) : Nat := p % 16

/-- The effective window row, sequence or tag of a store descriptor (R125, R142). -/
def sDstEff (e : QEntry) : Nat :=
  let d := e.desc
  if descOp d = 4 then
    (if sIncDst d then lapOffset (bitsOf (sDst d) 15 0) (sInc d) e.lap 65536 else bitsOf (sDst d) 15 0)
  else if sIncDst d then lapOffset (bitsOf (sDst d) 17 0) (sInc d) e.lap (sWrap d) else bitsOf (sDst d) 17 0
def sTagEff (e : QEntry) : Nat := if sTagLap e.desc then (sTag e.desc + e.lap) % 65536 else sTag e.desc

/-- The source rows of a store descriptor, read in order (R124, R142). -/
def TX.storeSource (x : TX) (k : Nat) (e : QEntry) : List (Nat × Bool) × TX :=
  let d := e.desc
  if sStream d then x.readSlotRows k (refStream (sSrc d)) (refRow (sSrc d)) (sRows d)
  else
    let (n, o) := x.effRow (sSrc d) (if sIncSrc d then sInc d else 0) e.lap
    x.readRows k n o (sRows d)

/-- The check of a store descriptor's source (R129): field SRC. -/
def TX.storeSourceOk (x : TX) (k : Nat) (e : QEntry) : Bool :=
  let d := e.desc
  if sStream d then
    let st := (x.slot k).stream (refStream (sSrc d))
    st.usable && (match st.setDesc with
      | some c => decide (refRow (sSrc d) + sRows d ≤ pSlotRows c)
      | none => false)
  else
    let (n, o) := x.effRow (sSrc d) (if sIncSrc d then sInc d else 0) e.lap
    x.tile.runReadable k n o (sRows d)

/-- The streams whose head slot a store descriptor releases. -/
def storeRelease (d : Desc) : List Nat := if sStream d && sRelease d then [refStream (sSrc d)] else []

/-- The store descriptor at the head of its queue waits on its streamed source's head slot (R124, R207). -/
def TX.storeStarved (x : TX) (k op : Nat) : Option Nat :=
  let s := x.slot k
  match s.readyHead 2 op with
  | none => none
  | some e =>
    let i := refStream (sSrc e.desc)
    let st := s.stream i
    if s.eng.store.isNone && sStream e.desc && decide (sRows e.desc ≠ 0) && st.usable && !st.headFull then some i else none

/-- The cc that the descriptor waited on its head slot counted (R207). -/
def TX.storeStarve (x : TX) (k op starved : Nat) : TX :=
  match x.storeStarved k op with
  | some i => x.starve k i starved
  | none => x

/-- A store descriptor at the head of its queue may be looked at: the engine is free and a streamed source has its slot.
One with NROWS = 0 is not checked. Log entry 88. -/
def TX.storeHead (x : TX) (k op : Nat) : Option QEntry :=
  let s := x.slot k
  match s.readyHead 2 op with
  | none => none
  | some e =>
    if s.eng.store.isSome || (x.storeStarved k op).isSome then none else some e

/-- The descriptor taken off its queue and marked running. -/
def TX.storeBegin (x : TX) (k : Nat) (e : QEntry) : TX :=
  let s := x.slot k
  let rel := if sRows e.desc = 0 then [] else storeRelease e.desc
  x.setSlot k { s.popHead 2 e with eng := { s.eng with store := some { q := e, release := rel } } }

/-- COPY (R127, R143, R144, R154, R182). `starved` is the cc waited on a streamed source, here and in the sends (R207). -/
def TX.copy (x : TX) (k starved : Nat) : TX :=
  match x.storeHead k 1 with
  | none => x.storeStarve k 1 starved
  | some e =>
    let d := e.desc
    if sRows d = 0 then x.storeBegin k e
    else
      let (n, o) := x.effRow (sDst d) (if sIncDst d then sInc d else 0) e.lap
      let (sn, so) := x.effRow (sSrc d) (if sIncSrc d then sInc d else 0) e.lap
      let st := (x.slot k).stream (refStream (sSrc d))
      let clash := if sStream d then x.slotMeets (st.slotRow st.head (refRow (sSrc d))) (sRows d) n o (sRows d)
        else overlap n o (sRows d) sn so (sRows d)
      let fail := firstFail [(4, x.storeSourceOk k e),
        (12, x.tile.runWritable k n o (sRows d) true && !clash)]
      match fail with
      | some f => x.startFault k 2 e f
      | none =>
        let x := x.storeBegin k e
        let (rows, x) := x.storeSource k e
        let x := if anyPoison rows then x.modSlot k (fun s => s.numeric nsPoisonOut) else x
        x.writeRows n k (numberRows o rows)

/-- The row ranges of two sends meet (R311). -/
def Track.meets (t : Track) (mcast : Bool) (target window lo hi : Nat) : Bool :=
  decide (t.window = window) && decide (t.lo ≤ hi) && decide (lo ≤ t.hi) &&
  (t.mcast != mcast || decide (t.target = target))

/-- The tracker with the send entered, or its transfer's entry extended; none while the send is held (R311). Log entry
31. -/
def trackSend (l : List Track) (mcast : Bool) (target window tag lo hi left now : Nat) : Option (List Track) :=
  let same (t : Track) : Bool := t.mcast == mcast && decide (t.target = target) && decide (t.window = window) &&
    decide (t.tag = tag)
  if l.any (fun t => !same t && t.meets mcast target window lo hi) then none
  else if l.any same then
    (if l.any (fun t => same t && t.meets mcast target window lo hi) then none
     else some (l.map (fun t => if same t then { t with lo := min t.lo lo, hi := max t.hi hi } else t)))
  else if l.length ≥ 32 then none
  else some (l ++ [{ mcast := mcast, target := target, window := window, tag := tag, lo := lo, hi := hi, left := left,
                     since := now }])

/-- The long packets of a send, row i at window row `o` + i, the last one the baton when asked (R143). -/
def sendPackets (d : Desc) (src type tag o : Nat) (rows : List (Nat × Bool)) : List Packet :=
  rows.mapIdx (fun i r =>
    { dst := sTarget d, src := src, type := type, vc := if sLatency d then 1 else 2, long := true
      baton := sBaton d && decide (i + 1 = rows.length), poison := r.2, ordered := sOrdered d
      tag := tag, window := sWindow d, gen := sGen d, offset := 512 * (o + i), total := sTotal d, payload := r.1 })

/-- SEND (R143, R144, R204, R311): held while the tracker is full or a row range overlaps, then its packets go to the
router; refused ones are counted. Log entry 31. -/
def TX.send (x : TX) (k starved : Nat) : TX :=
  match x.storeHead k 2 with
  | none => x.storeStarve k 2 starved
  | some e =>
    let d := e.desc
    if sRows d = 0 then x.storeBegin k e
    else if !x.storeSourceOk k e then x.startFault k 2 e 4
    else
      let o := sDstEff e
      let tag := sTagEff e
      match trackSend (x.slot k).tracker false (sTarget d) (sWindow d) tag o (o + sRows d - 1) 1 x.now with
      | none => x
      | some l =>
        let x := x.storeBegin k e
        let (rows, x) := x.storeSource k e
        let ps := sendPackets d (x.slotEid k) 1 tag o rows
        let ok := ps.any (fun p => x.injectable p)
        let x := if ok then x.modSlot k (fun s => { s with tracker := l }) else x
        ps.foldl (fun x p =>
          let (sent, x) := x.inject p
          if sent then x else x.bump (0x180 + 4 * k) 31 16 1) x

/-- A group entry's fields (R280). -/
def mgMask (v : Nat) : Nat := bitsOf v 17 0
def mgAxis (v : Nat) : Nat := bitsOf v 18 18
def mgStream (v : Nat) : Bool := bitOf v 19
def mgRelay (v : Nat) : Bool := bitOf v 20
def mgRset (v : Nat) : Nat := bitsOf v 22 21
def mgValid (v : Nat) : Bool := bitOf v 23

/-- MCAST (R143, R262–R265, R311): frames on the straight the group names. Log entry 31. -/
def TX.mcast (x : TX) (k starved : Nat) : TX :=
  match x.storeHead k 3 with
  | none => x.storeStarve k 3 starved
  | some e =>
    let d := e.desc
    if sRows d = 0 then x.storeBegin k e
    else
      let g := NMap.get 0 x.rep.mcast (sTarget d)
      let fail := firstFail [(4, x.storeSourceOk k e), (8, mgValid g)]
      match fail with
      | some f => x.startFault k 2 e f
      | none =>
        let o := if mgStream g then 0 else sDstEff e
        let tag := sTagEff e
        let n := NMap.get 0 x.rep.members (sTarget d)
        let track := if mgStream g then some (x.slot k).tracker
          else trackSend (x.slot k).tracker true (sTarget d) (sWindow d) tag o (o + sRows d - 1) n x.now
        match track with
        | none => x
        | some l =>
          let x := x.storeBegin k e
          let x := x.modSlot k (fun s => { s with tracker := l })
          let (rows, x) := x.storeSource k e
          let axis := mgAxis g
          let pos := if axis = 0 then physCol x.phys else physRow x.phys
          let num := if axis = 0 then physRow x.phys else physCol x.phys
          let ps := sendPackets d (x.slotEid k) 5 tag o rows
          ps.foldl (fun x p =>
            let p := { p with
              dst := 0, relay := mgRelay g, epoch := x.rep.cur, group := mgMask g + axis * 2 ^ 18 + num * 2 ^ 19 }
            let p := if mgStream g then { p with window := 0, gen := 0, offset := 0 } else p
            x.emit (.frame axis { pkt := p, sender := pos, origin := pos, rset := mgRset g, stream := mgStream g })) x

/-- The reduction descriptor of a tile that names group `g` with slot `k` a contributor (R274). -/
def rgroupFor (rep : Replica) (k g : Nat) : Option Nat :=
  (List.range 64).find? (fun n =>
    let w0 := NMap.get 0 rep.rgW0 n
    bitOf w0 18 && decide (bitsOf w0 15 0 = g) && bitOf (NMap.get 0 rep.rgW1 n) k)

/-- REDUCE_SEND (R143, R274). -/
def TX.reduceSend (x : TX) (k starved : Nat) : TX :=
  match x.storeHead k 4 with
  | none => x.storeStarve k 4 starved
  | some e =>
    let d := e.desc
    if sRows d = 0 then x.storeBegin k e
    else
      let rg := rgroupFor x.rep k (sTarget d)
      let fail := firstFail [(4, x.storeSourceOk k e), (8, rg.isSome)]
      match fail, rg with
      | none, some n =>
        let x := x.storeBegin k e
        let (rows, x) := x.storeSource k e
        let (dst, win, gen) := NMap.get (0xFFFF, 0, 0) x.rep.rgRoot n
        let o := sDstEff e
        (rows.mapIdx (fun i r => (i, r))).foldl (fun x p =>
          let seq := (o + p.1) % 65536
          let pkt : Packet :=
            { dst := dst, src := x.slotEid k, type := 4, vc := 3, long := true, baton := true, poison := p.2.2
              tag := seq, window := win, gen := gen, offset := 0, total := 512
              group := sTarget d + 2 ^ 16 * seq, payload := p.2.1 }
          let (sent, x) := x.inject pkt
          if sent then x else x.bump (0x180 + 4 * k) 31 16 1) x
      | some f, _ => x.startFault k 2 e f
      | none, none => x.startFault k 2 e 8

/-- Packets of slot `k` of the types given that a port has still to accept; the slot's one store engine sends them all. -/
def TX.unsent (x : TX) (k : Nat) (types : List Nat) (l : List Packet) : Nat :=
  (l.filter (fun p => decide (p.src = x.slotEid k) && types.contains p.type)).length

/-- A store descriptor's completion: a send completes when its last packet has been accepted (R49, R144). -/
def TX.storeDone (x : TX) (k : Nat) : TX :=
  let s := x.slot k
  match s.eng.store with
  | some r =>
    let op := descOp r.q.desc
    let wait := if op = 2 || op = 4 then x.unsent k [1, 4] x.meshOut else if op = 3 then
        x.unsent k [5] (if mgAxis (NMap.get 0 x.rep.mcast (sTarget r.q.desc)) = 0 then x.rowOut else x.colOut) else 0
    if wait > 0 then x else (x.setSlot k { s with eng := { s.eng with store := none } }).finish k r
  | none => x

/-! The pacer. -/

/-- The head of the pacer queue with operation `op`, when no pacer descriptor is running (R146). -/
def TX.pacerHead (x : TX) (k op : Nat) : Option QEntry :=
  let s := x.slot k
  if s.eng.pacer.isSome then none else s.readyHead 3 op
/-- The descriptor taken off the pacer queue. -/
def TX.pacerBegin (x : TX) (k : Nat) (e : QEntry) : TX :=
  let s := x.slot k
  x.setSlot k { s.popHead 3 e with eng := { s.eng with pacer := some { q := e } } }
/-- RUNNING or HALTED: the stream takes no STREAM_SET, STREAM_LOOP or STREAM_GO (R146, R565). -/
def Stream.busy (st : Stream) : Bool := st.state = .running || st.state = .halted || st.state = .stopping

/-- STREAM_SET (R145, R146). -/
def TX.streamSet (x : TX) (k : Nat) : TX :=
  match x.pacerHead k 1 with
  | none => x
  | some e =>
    let i := pStream e.desc
    if ((x.slot k).stream i).busy then x.startFault k 3 e 4
    else
      let x := x.pacerBegin k e
      x.modSlot k (fun s => s.setStream i { s.stream i with setDesc := some e.desc })

/-- STREAM_LOOP (R145, R146). -/
def TX.streamLoop (x : TX) (k : Nat) : TX :=
  match x.pacerHead k 2 with
  | none => x
  | some e =>
    let i := pStream e.desc
    if ((x.slot k).stream i).busy then x.startFault k 3 e 4
    else
      let x := x.pacerBegin k e
      x.modSlot k (fun s => s.setStream i { s.stream i with loopDesc := some e.desc })

/-- The ring of a stream as region and first row (R145, R125). -/
def TX.ringOf (x : TX) (c : Desc) : Nat × Nat := x.effRow (pRing c) 0 0

/-- A stream whose ring lands its rows: a LOCAL stream whose source is its own ring inside one open window (R203), and
every HOST stream (R331). -/
def TX.isLanding (x : TX) (c : Desc) : Bool :=
  let (n, o) := x.ringOf c
  let len := pSlots c * pSlotRows c
  decide (pKind c = 3) ||
  (decide (pKind c = 0) && decide (pSrc c = pRing c) &&
    (match x.tile.store.region n with
     | some r => decide (r.cls = 3)
     | none => false) &&
    x.tile.wins.table.any (fun p => p.2.isOpen && decide (p.2.region = n) && decide (p.2.first ≤ o) &&
      decide (o + len ≤ p.2.first + p.2.rows)))

/-- A STRAIGHT stream of the tile is bound to axis `a` (R265). -/
def TX.straightBound (x : TX) (a : Nat) : Option (Nat × Nat) :=
  (x.tile.slots.flatMap (fun s => s.2.streams.map (fun st => (s.1, st)))).findSome? (fun p =>
    match p.2.2.setDesc with
    | some c => if p.2.2.busy && decide (pKind c = 2) && decide (bitsOf (pSrc c) 0 0 = a) then some (p.1, p.2.1) else none
    | none => none)

/-- The checks of STREAM_GO (R146, R265). -/
def TX.streamGoOk (x : TX) (k i : Nat) : Bool :=
  let st := (x.slot k).stream i
  match st.setDesc, st.loopDesc with
  | some c, some l =>
    let (n, o) := x.ringOf c
    let len := pSlots c * pSlotRows c
    !st.busy && pLapRows l % pSlotRows c = 0 &&
    x.tile.runWritable k n o len false &&
    (pKind c ≠ 2 || (x.straightBound (bitsOf (pSrc c) 0 0)).isNone)
  | _, _ => false

/-- The window lies over the ring of a running HOST stream (R331). -/
def TX.hostRing (x : TX) (w : Window) : Bool :=
  x.tile.slots.any (fun s => s.2.streams.any (fun st =>
    match st.2.setDesc with
    | some c =>
      let (n, o) := x.ringOf c
      st.2.state = .running && decide (pKind c = 3) && decide (w.region = n) && decide (w.first ≤ o) &&
        decide (o + pSlots c * pSlotRows c ≤ w.first + w.rows)
    | none => false))

/-- The LANDING bit of the windows over a ring. -/
def TX.setLanding (x : TX) (n o len : Nat) (on : Bool) : TX :=
  let w := x.tile.wins
  x.setWins { w with
    table := w.table.map (fun p =>
      if p.2.isOpen && decide (p.2.region = n) && decide (p.2.first ≤ o) && decide (o + len ≤ p.2.first + p.2.rows)
      then (p.1, { p.2 with landing := on }) else p) }

/-- STREAM_GO (R146, R197, R201, R203, R265, R266). -/
def TX.streamGo (x : TX) (k : Nat) : TX :=
  match x.pacerHead k 3 with
  | none => x
  | some e =>
    let i := pStream e.desc
    if !x.streamGoOk k i then x.startFault k 3 e 4
    else
      let x := x.pacerBegin k e
      let st := (x.slot k).stream i
      match st.setDesc with
      | none => x
      | some c =>
        let (n, o) := x.ringOf c
        let landing := x.isLanding c
        let base := match x.tile.store.region n with
          | some r => r.storeRow o
          | none => 0
        let st' : Stream := { st with
          state := .running, landing := landing, ringRow := base, head := 0, fill := 0, full := 0, landed := []
          fetchLap := 0, nextRow := 0, flight := [] }
        let x := x.modSlot k (fun s => s.setStream i st')
        let x := if landing then x.setLanding n o (pSlots c * pSlotRows c) true else x
        if pKind c = 2 then x.emit (.streamGo (bitsOf (pSrc c) 0 0)) else x

/-- STREAM_STOP begins: a running or halted stream stops fetching (R146, R200). -/
def TX.streamStop (x : TX) (k : Nat) : TX :=
  match x.pacerHead k 4 with
  | none => x
  | some e =>
    let i := pStream e.desc
    let x := x.pacerBegin k e
    x.modSlot k (fun s =>
      let st := s.stream i
      if st.busy then s.setStream i { st with state := .stopping } else s)

/-- The stream a queue head's descriptor waits on (R200); one whose streamed operand covers no element waits on none
(R124). -/
def waitsOnStream (q : Nat) (d : Desc) : Option Nat :=
  if q = 0 && descOp d = 1 && mmStream d && mmNv d ≠ 0 && mmMask d ≠ 0 then some (refStream (mmAct d))
  else if q = 1 && vStream d && vNb d ≠ 0 then some (refStream (vA d))
  else if q = 2 && sStream d && sRows d ≠ 0 then some (refStream (sSrc d))
  else none

/-- An MM that waits on its next slot of stream `i` faults and ends as the stream becomes IDLE: that slot will not come
(R107, R200). Log entry 88. -/
def TX.faultMM (x : TX) (k i : Nat) : TX :=
  let s := x.slot k
  match s.eng.mm with
  | some r =>
    if waitsOnStream 0 r.q.desc = some i && decide (r.done < r.total) then
      (x.setSlot k { s with eng := { s.eng with mm := none } }).startFault k 0 r.q 8
    else x
  | none => x

/-- A queue head waiting on a slot of stream `i` faults as the stream becomes IDLE (R200). -/
def TX.faultWaiters (x : TX) (k i : Nat) : TX :=
  [0, 1, 2].foldl (fun x q =>
    let s := x.slot k
    match s.queues.get q with
    | e :: _ =>
      if s.state ≠ .lapFault && waitsOnStream q e.desc = some i && s.tokensMet e.desc then
        x.startFault k q e (if q = 0 then 8 else 4)
      else x
    | [] => x) x

/-- The stream becomes IDLE: every slot EMPTY, counters zero, a landing ring answers and clears its landed bits (R200,
R309). -/
def TX.streamIdle (x : TX) (k i : Nat) : TX :=
  let st := (x.slot k).stream i
  let x := match st.setDesc with
    | some c =>
      if st.landing then
        let (n, o) := x.ringOf c
        let len := pSlots c * pSlotRows c
        (x.freeLanded ((List.range len).map (fun r => st.ringRow + r))).setLanding n o len false
      else x
    | none => x
  let x := x.modSlot k (fun s => s.setStream i {})
  (x.faultMM k i).faultWaiters k i

/-- A pacer descriptor's completion: STREAM_STOP waits for the stream's fetches in flight (R146, R200). -/
def TX.pacerDone (x : TX) (k : Nat) : TX :=
  let s := x.slot k
  match s.eng.pacer with
  | none => x
  | some r =>
    let i := pStream r.q.desc
    if descOp r.q.desc = 4 then
      if (s.stream i).flight.isEmpty then
        ((x.setSlot k { s with eng := { s.eng with pacer := none } }).streamIdle k i).finish k r
      else x
    else (x.setSlot k { s with eng := { s.eng with pacer := none } }).finish k r

/-- A row written into a staging slot: the slot becomes FULL with its last row, unless the stream is HALTED (R197, R198,
R205, R565); a poisoned row raises POISON_OUT (R96, R180). Log entry 30. -/
def TX.landRow (x : TX) (k i slot row data : Nat) (poison : Bool) : TX :=
  let st := (x.slot k).stream i
  match st.setDesc with
  | none => x
  | some c =>
    let x := x.putRow (st.slotRow slot row) data poison k
    let x := x.markDirty (x.ringOf c).1
    let x := if poison then (x.bump (streamReg k i + 12) 31 16 1).modSlot k (fun s => s.numeric nsPoisonOut) else x
    let n := NMap.get 0 st.landed slot + 1
    let full := decide (n ≥ pSlotRows c) && st.state ≠ .halted
    let st' := if full then { st with landed := NMap.erase st.landed slot, full := st.full ||| 2 ^ slot }
      else { st with landed := NMap.put st.landed slot n }
    x.modSlot k (fun s => s.setStream i st')

/-- A refused row: zero data, every word poisoned, counted, with a ROW_REFUSED notice (R205, R568). -/
def TX.refusedRow (x : TX) (k i slot row status tag : Nat) (remote : Bool) : TX :=
  let x := x.landRow k i slot row 0 true
  let x := if remote then x.bump (streamReg k i + 12) 15 0 1 else x
  x.note false ncRowRefused 0 (x.slotEid k) tag (status + 256 * i)

/-- A STRAIGHT or HOST stream can take a row: it runs and its fill slot is EMPTY (R203, R254). -/
def Stream.takes (st : Stream) : Bool := st.state = .running && !bitOf st.full st.fill

/-- A row that arrives for a STRAIGHT stream is written into the fill slot in arrival order (R203); a refused one as a
poisoned row of zeros with a notice (R205). -/
def TX.arrivedRow (x : TX) (k i data : Nat) (poison : Bool) (refused : Option (Nat × Nat)) : TX :=
  let st := (x.slot k).stream i
  match st.setDesc, st.loopDesc with
  | some c, some l =>
    if !st.takes then x
    else
      let row := NMap.get 0 st.landed st.fill
      let last := decide (st.nextRow + 1 = pLapRows l)
      let slotEnd := decide (row + 1 = pSlotRows c)
      let slot := st.fill
      let x := match refused with
        | some (status, tag) => x.refusedRow k i slot row status tag true
        | none => x.landRow k i slot row data poison
      x.modSlot k (fun s =>
        let st := s.stream i
        s.setStream i { st with
          nextRow := if last then 0 else st.nextRow + 1
          fetchLap := if last then (st.fetchLap + 1) % 2 ^ 32 else st.fetchLap
          fill := if slotEnd then (st.fill + 1) % pSlots c else st.fill })
  | _, _ => x

/-- The loop indices of row `n` of a lap and its signed row offset (R202). -/
def loopOffset (l : Desc) (n : Nat) : Int :=
  let i0 := n % pCount l 0
  let n1 := n / pCount l 0
  let i1 := n1 % pCount l 1
  let n2 := n1 / pCount l 1
  let i2 := n2 % pCount l 2
  let i3 := n2 / pCount l 2
  (i0 : Int) * pStride l 0 + (i1 : Int) * pStride l 1 + (i2 : Int) * pStride l 2 + (i3 : Int) * pStride l 3

/-- A far-cache hit: the line's data (R315). -/
def farSet (eid row : Nat) : Nat := (row + 61 * (eid - 0x1000)) % 1024
def Wins.farListed (w : Wins) (eid win gen : Nat) : Bool := w.farWin.any (fun p => p.2 = (eid, win, gen))
def Wins.farFind (w : Wins) (eid win gen row : Nat) : Option Nat :=
  (List.range 8).find? (fun way =>
    match NMap.find w.farLines (8 * farSet eid row + way) with
    | some l => decide (l.eid = eid) && decide (l.window = win) && decide (l.gen = gen) && decide (l.row = row)
    | none => false)

/-- Tree pseudo-LRU of one set: the bits after way `way` is used (R315). -/
def plruTouch (bits way : Nat) : Nat :=
  let b2 := way / 4
  let b1 := way / 2 % 2
  let b0 := way % 2
  let v := putBits bits 0 0 (1 - b2)
  let v := putBits v (1 + b2) (1 + b2) (1 - b1)
  putBits v (3 + 2 * b2 + b1) (3 + 2 * b2 + b1) (1 - b0)
/-- The way the tree points at. -/
def plruVictim (bits : Nat) : Nat :=
  let b2 := bitsOf bits 0 0
  let b1 := bitsOf bits (1 + b2) (1 + b2)
  let b0 := bitsOf bits (3 + 2 * b2 + b1) (3 + 2 * b2 + b1)
  4 * b2 + 2 * b1 + b0

/-- Rows a stream may still have in flight (R203). -/
def Slot.fetchRoom (s : Slot) (kind i : Nat) : Bool :=
  let ofKind (kd : Nat) : Nat := s.streams.foldl (fun a p =>
    match p.2.setDesc with
    | some c => if pKind c = kd then a + p.2.flight.length else a
    | none => a) 0
  if kind = 0 then decide (ofKind 0 < 16)
  else decide ((s.stream i).flight.length < 16) && decide (ofKind 1 < 64)

/-- The far cache looked up: the way of a hit. A line found uncorrectable is invalidated, and the lookup misses (R315,
R320). -/
def TX.farLook (x : TX) (eid win gen row : Nat) (drops : List Nat) : Option Nat × TX :=
  match x.tile.wins.farFind eid win gen row with
  | none => (none, x)
  | some way =>
    let key := 8 * farSet eid row + way
    if drops.contains key then
      (none, (x.setWins { x.tile.wins with farLines := NMap.erase x.tile.wins.farLines key }).bump 0xB10C 31 16 1)
    else (some way, x)

/-- One more row of lap FETCH_LAP requested, where R201 and R203 allow it: the slot named FILL must be EMPTY. Log entry
30. -/
def TX.fetchRow (x : TX) (k i : Nat) (drops : List Nat) : Option TX :=
  let s := x.slot k
  let st := s.stream i
  match st.setDesc, st.loopDesc with
  | some c, some l =>
    let kind := pKind c
    let runs := s.reg 0x10
    let row := st.nextRow % pSlotRows c
    let fresh := row ≠ 0 || (NMap.get 0 st.landed st.fill = 0 && !(st.flight.any (fun f => f.slot = st.fill)))
    if st.state ≠ .running || st.landing || kind > 1 || bitOf st.full st.fill || !fresh || !s.fetchRoom kind i ||
        decide (st.fetchLap > s.lap.index + pLook c) || (decide (runs ≠ 0xFFFFFFFF) && decide (st.fetchLap ≥ runs)) then none
    else
      let last := decide (st.nextRow + 1 = pLapRows l)
      let slotEnd := decide (row + 1 = pSlotRows c)
      let st' := { st with
        nextRow := if last then 0 else st.nextRow + 1
        fetchLap := if last then (st.fetchLap + 1) % 2 ^ 32 else st.fetchLap
        fill := if slotEnd then (st.fill + 1) % pSlots c else st.fill }
      let off := loopOffset l st.nextRow
      if kind = 0 then
        let (n, o) := x.effRow (pSrc c) (pSrcInc c) st.fetchLap
        let r := (o : Int) + off
        let x := x.setSlot k (s.setStream i st')
        let valid := (x.tile.store.region n).isSome
        let inside := match x.tile.store.region n with
          | some g => decide (0 ≤ r) && decide (r < g.size)
          | none => false
        if valid && !inside then some (x.refusedRow k i st.fill row stOutOfWindow 0 false)
        else if !x.tile.engineMayRead k n r.toNat then some (x.refusedRow k i st.fill row stNotPermitted 0 false)
        else
          let src := match x.tile.store.region n with
            | some g => g.storeRow r.toNat
            | none => 0
          some (x.modSlot k (fun s => s.setStream i { st' with
            flight := st.flight ++ [{ slot := st.fill, row := row, lap := st.fetchLap, tag := src }] }))
      else
        let o := lapOffset (bitsOf (pSrc c) 17 0) (pSrcInc c) st.fetchLap (pSrcWrap c)
        let r := (o : Int) + off
        let eid := descField c 6 2
        let win := descField c 12 1
        let gen := descField c 13 1
        let x := x.setSlot k (s.setStream i st')
        let cached := bitOf (x.reg 0xB100) 0 && x.tile.wins.farListed eid win gen
        let (found, x) := if cached then x.farLook eid win gen r.toNat drops else (none, x)
        match found with
        | some way =>
          let key := 8 * farSet eid r.toNat + way
          let w := x.tile.wins
          let line := NMap.get {} w.farLines key
          let set := key / 8
          let x := x.setWins { w with farPlru := NMap.set 0 w.farPlru set (plruTouch (NMap.get 0 w.farPlru set) way) }
          some ((x.bump 0xB104 31 0 1).landRow k i st.fill row line.data false)
        | none =>
          let x := if cached then x.bump 0xB108 31 0 1 else x
          let tag := (i * 8192 + (st.fetchLap * pLapRows l + st.nextRow) % 8192) % 65536
          let p : Packet :=
            { dst := eid, src := x.slotEid k, type := 2, vc := 1, tag := tag, window := win, gen := gen
              offset := natOfInt 32 (512 * r), misc := bitNat cached }
          let (sent, x) := x.inject p
          if sent then
            some (x.modSlot k (fun s => s.setStream i { st' with
              flight := st.flight ++ [{ slot := st.fill, row := row, lap := st.fetchLap, tag := tag }] }))
          else some (x.refusedRow k i st.fill row stInvalidField tag true)
  | _, _ => none

/-- Rows requested while the rules allow, at most `n`. -/
def TX.fetchRows (x : TX) (k i n : Nat) (drops : List Nat) : TX :=
  match n with
  | 0 => x
  | n + 1 =>
    match x.fetchRow k i drops with
    | some x => TX.fetchRows x k i n drops
    | none => x

/-- A LOCAL row in flight is read and written into its slot (R203). Log entry 30. -/
def TX.localLand (x : TX) (k i j : Nat) : TX :=
  let s := x.slot k
  let st := s.stream i
  match st.flight[j]?, st.setDesc with
  | some f, some c =>
    if pKind c ≠ 0 then x
    else
      let x := x.setSlot k (s.setStream i { st with flight := listDrop st.flight j })
      let (v, p, x) := x.readRow f.tag k
      x.landRow k i f.slot f.row v p
  | _, _ => x

end Sys2Proof.Machine
end

