-- ==== Sys2Proof/Machine/LapOps.lean ====
section
/-! DEFINITION. Scalar run control, the lap sequencer, lap boundaries, leapfrog handover and spare-core takeover (R40–R68,
R149, R208, R216, R397, R461, R565, R567). -/

namespace Sys2Proof.Machine

/-- TILE_SLOT_SOURCE_n (R42). -/
def TX.source (x : TX) (k : Nat) : Nat := x.reg (0x120 + 4 * k)
/-- The slot streams its weights: its lap program reloads macros during laps. -/
def TX.streaming (x : TX) (k : Nat) : Bool := bitOf (x.source k) 15

/-- The lap program's base, length and the lap length of a slot (R60). -/
def Slot.lapBase (s : Slot) : Nat := bitsOf (s.reg 0x08) 9 0
def Slot.lapLen (s : Slot) : Nat := bitsOf (s.reg 0x08) 25 16
def Slot.lapL (s : Slot) : Nat := bitsOf (s.reg 0x0C) 23 0

/-- LEN and L are in range (R52). -/
def Slot.lapOk (s : Slot) : Bool :=
  decide (1 ≤ s.lapLen) && decide (s.lapLen ≤ 512) && decide (s.lapBase + s.lapLen ≤ 1024) &&
    decide (64 ≤ s.lapL)

/-- RUN starts a halted scalar core at address 0 (R60). Log entry 19. -/
def TX.runCore (x : TX) (k : Nat) : TX :=
  let s := x.slot k
  let live := s.state = .halted || s.state = .scalar || s.state = .lapRunning || s.state = .lapFrozen || s.state = .lapFault
  if s.sc.halted && live then
    x.setSlot k { s with
      sc := { s.sc with halted := false, pc := 0, wfi := false }
      state := if s.state = .halted then .scalar else s.state }
  else x

/-- HALT halts the scalar core; with no lap run the core is HALTED (R60, R62). Log entry 19. -/
def TX.haltCore (x : TX) (k : Nat) : TX :=
  let s := x.slot k
  let live := s.state = .scalar || s.state = .lapRunning || s.state = .lapFrozen || s.state = .lapFault
  if live then
    (x.setSlot k { s with
      sc := { s.sc with halted := true, wfi := false }
      state := if s.state = .scalar || s.state = .lapFault then .halted else s.state }).tryHandover k
  else x

/-- The first descriptor of the lap program that fails R51: its index, engine and field. -/
def Slot.firstInvalid (s : Slot) (n i : Nat) : Option (Nat × Nat × Nat) :=
  match n with
  | 0 => none
  | n + 1 =>
    let d := s.descAt (32 * (s.lapBase + i))
    match descCheck d (descEngine d) with
    | some o => some (i, descEngine d, o)
    | none => s.firstInvalid n (i + 1)

/-- Some descriptor of the lap program is a MACRO_LOAD (R111). -/
def Slot.programLoads (s : Slot) : Bool :=
  (List.range s.lapLen).any (fun i =>
    let d := s.descAt (32 * (s.lapBase + i))
    decide (descEngine d = 0) && decide (descOp d = 4))

/-- TILE_LAP_START of a slot (R208). -/
def TX.lapStartTime (x : TX) (k : Nat) : Nat := x.reg (0x1B40 + 8 * k) + 2 ^ 32 * x.reg (0x1B44 + 8 * k)

/-- LAP_START (R52): accepted or refused, and what acceptance does. -/
def TX.lapStart (x : TX) (k : Nat) : Bool × TX :=
  let s := x.slot k
  if (s.state = .scalar || s.state = .halted) && bitOf (x.source k) 6 && s.lapOk then
    let s := { s with fault := .none, faultEngine := 0, faultDesc := 0, faultField := 0 }
    let runs := s.reg 0x10
    if runs = 0 then (true, x.setSlot k (s.irq irqLapBoundary))
    else
      match s.firstInvalid s.lapLen 0 with
      | some (i, e, o) => (true, (x.setSlot k s).lapFault k .descFormat e i o)
      | none =>
        let x := if s.programLoads then x.setReg (0x120 + 4 * k) (putBits (x.source k) 15 15 1) else x
        let lap : LapSeq :=
          { index := 0, next := 0, runsLeft := if runs = 0xFFFFFFFF then none else some runs
            baseline := (List.range 16).map (fun t => NMap.get 0 s.tokens t)
            begun := false, waitStart := true, startAt := x.lapStartTime k
            bubbleRate := s.lap.bubbleRate, frameLaps := s.lap.frameLaps, stepLaps := s.lap.stepLaps
            boundaries := s.lap.boundaries }
        (true, x.setSlot k { s with state := .lapRunning, lap := lap })
  else (false, x)

/-- LAP_STOP (R56). -/
def TX.lapStop (x : TX) (k : Nat) : TX :=
  let s := x.slot k
  if s.state = .lapRunning then x.setSlot k { s with lap := { s.lap with stopPend := true } }
  else if s.state = .lapFrozen then
    (x.setSlot k { s with state := .scalar, lap := { s.lap with waitStart := false, begun := false } }).instantHandover k
  else x

/-- FREEZE (R56). -/
def TX.freeze (x : TX) (k : Nat) : TX :=
  let s := x.slot k
  if s.state = .lapRunning then x.setSlot k { s with lap := { s.lap with freezePend := true } } else x

/-- The bubble laps to run before lap `n` at rate `b` (R461). -/
def bubblesBefore (b n : Nat) : Nat := (n + 1) * b / 64 - n * b / 64

/-- The bubble rate for lap `n`: the written rate from its FROM lap onward (R462). Log entry 59. -/
def TX.bubbleRateAt (x : TX) (k n : Nat) : Nat :=
  if n ≥ x.reg (0xD244 + 8 * k) then bitsOf (x.reg (0xD240 + 8 * k)) 5 0 else (x.slot k).lap.bubbleRate

/-- The bubble laps due before the slot's current lap are taken up. -/
def TX.enterBubbles (x : TX) (k : Nat) : TX :=
  let s := x.slot k
  let b := x.bubbleRateAt k s.lap.index
  x.setSlot k { s with lap := { s.lap with bubbleRate := b, bubbles := bubblesBefore b s.lap.index } }

/-- THAW (R56, R208). -/
def TX.thaw (x : TX) (k : Nat) : TX :=
  let s := x.slot k
  if s.state = .lapFrozen then
    x.setSlot k { s with
      state := .lapRunning
      lap := { s.lap with begun := false, waitStart := true, startAt := x.lapStartTime k, next := 0, cutAt := none
                          freezePend := false, stopPend := false } }
  else x

/-- The lap a start or a thaw waits for begins once the mirror has reached START (R208). -/
def TX.lapZeroBegin (x : TX) (k : Nat) : TX :=
  let s := x.slot k
  if s.state = .lapRunning && s.lap.waitStart && decide (s.lap.startAt ≤ x.now) then
    let x := (x.setSlot k { s with lap := { s.lap with waitStart := false, next := 0 } }).enterBubbles k
    let x := x.tryHandover k
    x.modSlot k (fun s => { s with lap := { s.lap with begun := decide (s.lap.bubbles = 0) } })
  else x

/-- What a lap spent its cc on, measured (R216): elapsed since it began, and the waits. -/
structure LapTiming where
  elapsed : Nat := 0
  input : Nat := 0
  source : Nat := 0
  output : Nat := 0
  handover : Nat := 0
  stream : Nat := 0
deriving DecidableEq, Repr

/-- The cause of a slip (R216). -/
def slipCause (t : LapTiming) (beyond : Nat) : Nat :=
  let m := max (max t.input t.source) (max t.output t.handover)
  if m < beyond then 1
  else if t.input = m then 2
  else if t.source = m then 3
  else if t.output = m then 4
  else 5

/-- The slip count, the worst overrun and the cause of the last slip (R53, R216). -/
def TX.noteSlip (x : TX) (k : Nat) (t : LapTiming) : TX :=
  let s := x.slot k
  let beyond := t.elapsed - s.lapL
  let s := s.bump 0x18 31 0 1
  let s := (s.setReg 0x1C (max (s.reg 0x1C) (min beyond (2 ^ 24 - 1)))).irq irqSlip
  let c := slipCause t beyond
  let st := if c = 2 || c = 3 then t.stream % 8 else 0
  (x.setSlot k s).setReg (0x1A00 + 4 * k) (c + 8 * st + 256 * min beyond (2 ^ 24 - 1))

/-- What the tile reports at the boundary that closes lap `n`: poison, a frame's end, a step's end (R180, R218, R396).
Log entry 23. -/
def TX.boundaryReports (x : TX) (k n : Nat) (last : Bool) : TX :=
  let s := x.slot k
  let x := if s.lap.poisonLap then
      (x.setSlot k { s with lap := { s.lap with poisonLap := false } }).note false ncPoison 0 (x.slotEid k)
        (n % 2 ^ 16) (n / 2 ^ 16 % 2 ^ 16)
    else x
  let f := s.lap.frameLaps
  let x := if f ≠ 0 && (n + 1) % f = 0 then x.emit (.frameEnd (n / f)) else x
  let st := s.lap.stepLaps
  if st ≠ 0 && ((n + 1) % st = 0 || last) then
    x.note false ncStepEnd 0 (x.slotEid k) (n / st % 2 ^ 16) (n / st / 2 ^ 16)
  else x

/-- TILE_LEAPFROG_CTRL fields (R64). -/
def TX.leapPeriod (x : TX) : Nat := bitsOf (x.reg 0x114) 15 0
def TX.leapEnabled (x : TX) : Bool := bitOf (x.reg 0x114) 16

/-- A lap boundary asks for an attempt where PERIOD_MS is 0 (R64); the attempt itself takes the thermal estimates that
TX.leapfrogPeriod is given. Log entry 33. -/
def TX.leapBoundary (x : TX) : TX :=
  if x.leapPeriod = 0 then { x with tile := { x.tile with leapDue := true } } else x

/-- An attempt is due: at a lap boundary where PERIOD_MS is 0, else PERIOD_MS after the last one (R64, R65). -/
def TX.leapTime (x : TX) : Bool :=
  if x.leapPeriod = 0 then x.tile.leapDue else decide (x.now ≥ x.tile.leapSince + 1000000 * x.leapPeriod)

/-- A lap boundary (R53, R54, R56, R397, R461): a bubble lap ends, or the lap ends once L cc have elapsed and every
descriptor issued during it has completed. Log entries 19, 22, 50. -/
def TX.lapBoundary (x : TX) (k : Nat) (t : LapTiming) : TX :=
  let s := x.slot k
  if s.state ≠ .lapRunning || s.lap.waitStart || decide (t.elapsed < s.lapL) then x
  else if !s.lap.begun then
    let b := s.lap.bubbles - 1
    x.setSlot k { s with lap := { s.lap with bubbles := b, begun := decide (b = 0), next := 0 } }
  else if s.lap.next < s.lapLen || !s.quiet then x
  else
    let n := s.lap.index
    let x := if t.elapsed > s.lapL then x.noteSlip k t else x
    let x := (x.modSlot k (fun s => s.irq irqLapBoundary)).leapBoundary
    let left := s.lap.runsLeft.map (fun r => r - 1)
    let last := decide (left = some 0)
    let bal := decide ((List.range 16).map (fun i => NMap.get 0 s.tokens i) = s.lap.baseline)
    let x := x.boundaryReports k n last
    if !bal then x.lapFault k .tokenImbalance 0 0 0
    else
      let x := x.modSlot k (fun s => { s with lap := { s.lap with
        index := (n + 1) % 2 ^ 32, next := 0, begun := false, runsLeft := left, boundaries := s.lap.boundaries + 1 } })
      let s := x.slot k
      let armed := bitOf (x.reg (0x1A44 + 8 * k)) 0 && decide (x.reg (0x1A40 + 8 * k) = n)
      let x := if armed then x.setReg (0x1A44 + 8 * k) 0 else x
      if last || s.lap.stopPend then
        (x.setSlot k { s with state := .scalar, lap := { s.lap with stopPend := false, freezePend := false } }).instantHandover k
      else if armed || s.lap.freezePend then
        x.setSlot k (({ s with state := .lapFrozen, lap := { s.lap with freezePend := false } }).irq irqFreeze)
      else
        let x := (x.enterBubbles k).tryHandover k
        x.modSlot k (fun s => { s with lap := { s.lap with begun := decide (s.lap.bubbles = 0) } })

/-- The sequencer issues the next descriptor of its program once its queue has room (R50, R52). -/
def TX.sequencerIssue (x : TX) (k : Nat) : TX :=
  let s := x.slot k
  if s.state = .lapRunning && s.lap.begun && decide (s.lap.next < s.lapLen) then
    let d := s.descAt (32 * (s.lapBase + s.lap.next))
    let q := descEngine d
    if s.qfree q = 0 then x
    else
      let e : QEntry := { desc := d, lap := s.lap.index, seq := true, idx := s.lap.next }
      x.setSlot k { s with
        queues := s.queues.put q (s.queues.get q ++ [e]), lap := { s.lap with next := s.lap.next + 1 } }
  else x

/-- The head of queue `q` waits on something besides its tokens: a staging slot that is not FULL, a macro under reload, or
a send held by the tracker (R107, R120, R124, R149, R311). -/
def TX.otherWait (x : TX) (k q : Nat) (e : QEntry) : Bool :=
  let s := x.slot k
  let d := e.desc
  (match waitsOnStream q d with
   | some i => (s.stream i).usable && !(s.stream i).headFull
   | none => false) ||
  (q = 0 && descOp d = 1 && (setBits (mmMask d) 16).any (fun m => x.tile.audit.reloads.contains (k, m))) ||
  (q = 0 && descOp d = 4 && x.tile.audit.reloads.any (fun p => p.1 = k)) ||
  (q = 2 && descOp d = 2 && sRows d ≠ 0 &&
    (trackSend s.tracker false (sTarget d) (sWindow d) (sTagEff e) (sDstEff e) (sDstEff e + sRows d - 1) 1 x.now).isNone)

/-- Every non-empty queue's head waits only on tokens, and one is not empty (R149). -/
def TX.onlyTokens (x : TX) (k : Nat) : Bool :=
  let s := x.slot k
  decide (s.queues ≠ {}) &&
    [0, 1, 2, 3].all (fun q => match s.queues.get q with
      | e :: _ => !s.tokensMet e.desc && !x.otherWait k q e
      | [] => true)

/-- 1,024 cc of token deadlock (R149). -/
def TX.tokenDeadlock (x : TX) (k : Nat) : TX :=
  let s := x.slot k
  let d := if s.lap.next < s.lapLen then s.descAt (32 * (s.lapBase + s.lap.next)) else 0
  if x.onlyTokens k && decide (s.eng = {}) && (s.sc.halted || s.sc.wfi) &&
      (decide (s.lap.next ≥ s.lapLen) || decide (s.qfree (descEngine d) = 0)) then
    x.lapFault k .tokenDeadlock 0 0 0
  else x

/-- A macro whose load was stopped part-way is not loaded (R565). -/
def Macro.stopLoad (m : Macro) : Macro :=
  if m.loading then { m with loading := false, loaded := false, ncol := 0, crc := 0 } else m

/-- CUT (R565): engines stop, queues empty, running streams halt, and the core stands frozen with its lap index; it has
entered LAP_FROZEN (R58). -/
def TX.cut (x : TX) (k : Nat) : TX :=
  let s := x.slot k
  if s.state = .lapRunning then
    let streams := s.streams.map (fun p =>
      if p.2.state = .running then (p.1, { p.2 with state := .halted, savedLap := p.2.fetchLap }) else p)
    let s : Slot := { s with
      state := .lapFrozen, queues := {}, eng := {}, streams := streams
      macros := s.macros.map (fun p => (p.1, p.2.stopLoad))
      lap := { s.lap with begun := false, waitStart := false, freezePend := false, stopPend := false
                          bubbles := 0, cutAt := some s.lap.index } }
    x.setSlot k (s.irq irqFreeze)
  else x

/-- A doorbell for slot `k`: delivered, or held one deep while the core is not ready (R293). -/
def TX.doorbell (x : TX) (k payload : Nat) : TX :=
  let s := x.slot k
  if s.state = .preload || s.state = .shed then
    let x := if s.bell.isSome then x.bump 0x8064 31 16 1 else x
    x.modSlot k (fun s => { s with bell := some payload })
  else
    let x := if s.bellUnread then x.bump 0x8064 31 16 1 else x
    x.modSlot k (fun s =>
      { ((s.setReg 0x28 (payload % 2 ^ 32)).setReg 0x2C (payload / 2 ^ 32)).irq irqDoorbell with bellUnread := true })

/-- CRC check of a macro as the resting core's arrays received it. -/
structure MacroRead where
  mac : Macro := {}
  mismatch : Bool := false
  poison : Bool := false
deriving DecidableEq, Repr

/-- A loaded macro loaded again from its source rows with its binding and reference CRC (R65, R120, R567) by entrant
`entrant` of R167; `flip` is what the arrays turned over (image row, bits). -/
def TX.reloadMacro (x : TX) (k entrant : Nat) (mac : Macro) (flip : List (Nat × Nat)) : MacroRead × TX :=
  let (cells, scales, pois, x) :=
    x.readImage entrant mac.fmt mac.ncol mac.srcRegion mac.srcRow mac.scaleRegion mac.scaleRow
  let cells := flip.foldl (fun c f => NMap.set 0 c f.1 (NMap.get 0 c f.1 ^^^ f.2)) cells
  let crc := macroCrc cells mac.fmt scales
  let bad := decide (crc ≠ mac.crc)
  ({ mac := { mac with cells := cells, scales := scales, poisoned := pois || bad }, mismatch := bad, poison := pois }, x)

/-- The slot's code image (R65, R68): 128 rows of instruction RAM, then 64 rows of data RAM. -/
def TX.codeImage (x : TX) (k : Nat) : Mem × Mem × TX :=
  let n := bitsOf (x.source k) 5 0
  let (rows, x) := (List.range 192).foldl (fun (a : List Nat × TX) i =>
    let (v, _, x) := a.2.readRegionRow n i 16
    (a.1 ++ [v], x)) ([], x)
  let img (l : List Nat) : Mem :=
    ((List.range l.length).zip l).foldl (fun m p => Mem.write m (512 * p.1) 512 p.2) []
  (img (rows.take 128), img (rows.drop 128), x)

/-- The hottest eligible slot for a rotation, by the thermal estimates given (R65). -/
def TX.leapChoice (x : TX) (est : NMap Nat) : Option Nat :=
  let ok := (List.range 16).filter (fun k =>
    let s := x.slot k
    !x.streaming k && (s.state = .lapRunning || s.state = .scalar || s.state = .halted))
  ok.foldl (fun b k => match b with
    | none => some k
    | some j => if NMap.get 0 est k > NMap.get 0 est j then some k else b) none

/-- PERIOD_MS has elapsed: the tile chooses a slot and the resting core goes to PRELOAD (R64, R65). -/
def TX.leapfrogPeriod (x : TX) (est : NMap Nat) : TX :=
  if x.leapEnabled && x.tile.restValid && x.tile.preload.isNone && !x.tile.leapStopped && x.leapTime then
    let x := { x with tile := { x.tile with leapSince := x.now, leapDue := false } }
    match x.leapChoice est with
    | none => x
    | some k => { x with tile := { x.tile with restState := .preload, preload := some { slot := k } } }
  else x

/-- A resting core that fails is shed, and leapfrog stops (R66). -/
def TX.shedRest (x : TX) (c : FaultCause) : TX :=
  let r := x.tile.rest
  let x := { x with tile := { x.tile with
    shedMask := x.tile.shedMask ||| 2 ^ r, rest := 31, restState := .shed, restValid := false, leapStopped := true
    preload := none } }
  x.note true ncCoreFault ukCore x.phys r c.code

/-- The macros of slot `k` loaded into the resting core: each once, once more on a mismatch (R65, R567). `flips` gives
what the arrays turned over per macro and try; `core` is the resting or receiving core. The result is none on a second
mismatch of the arrays' own. -/
def TX.preloadMacros (x : TX) (k core : Nat) (flips : NMap (List (List (Nat × Nat)))) : Option (NMap Macro) × TX :=
  (x.slot k).macros.foldl (fun (a : Option (NMap Macro) × TX) p =>
    let (acc, x) := a
    match acc with
    | none => (none, x)
    | some ms =>
      if !p.2.loaded then (some (ms ++ [p]), x)
      else
        let f := NMap.get [] flips p.1
        let (r, x) := x.reloadMacro k 16 p.2 (f.getD 0 [])
        let (r, x) := if r.mismatch then x.reloadMacro k 16 p.2 (f.getD 1 []) else (r, x)
        if r.mismatch && !r.poison then (none, x)
        else
          let x := if r.mismatch then x.note true ncMacroMismatch ukCore x.phys core p.1 else x
          (some (ms ++ [(p.1, r.mac)]), x)) (some [], x)

/-- The leapfrog preload finishes (R65–R67, R567). Log entry 33. -/
def TX.preloadComplete (x : TX) (flips : NMap (List (List (Nat × Nat)))) : TX :=
  match x.tile.preload with
  | some p =>
    if p.takeover || p.done then x
    else
      let (img, _, x) := x.codeImage p.slot
      let (ms, x) := x.preloadMacros p.slot x.tile.rest flips
      match ms with
      | none => x.shedRest .engineHard
      | some ms =>
        let x := x.modSlot p.slot (fun s => { s with lap := { s.lap with boundaries := 0 } })
        let pre : Preload := { p with done := true, iram := img, macros := ms }
        ({ x with tile := { x.tile with preload := some pre } }).tryHandover p.slot
  | none => x

/-- 64 lap boundaries without a handover abandon the rotation (R67). -/
def TX.leapfrogAbandon (x : TX) : TX :=
  match x.tile.preload with
  | some p =>
    if !p.takeover && p.done && decide ((x.slot p.slot).lap.boundaries ≥ 64) then
      { x with tile := { x.tile with
          preload := none, restState := .retention, leapSkipped := satAdd 16 x.tile.leapSkipped 1, leapSince := x.now } }
    else x
  | none => x

/-- A takeover load is running (R68). -/
def TX.takingOver (x : TX) : Bool :=
  match x.tile.preload with
  | some p => p.takeover
  | none => false

/-- The streams of a core whose engines have stopped for good: all IDLE (R68, R567). -/
def Slot.endStreams (s : Slot) : NMap Stream :=
  s.streams.map (fun (p : Nat × Stream) => (p.1, { savedLap := p.2.savedLap }))

/-- A unit fault of physical core `c` (R66, R68): the core is shed and the resting core begins a takeover. Where
REST_VALID is 0, or the resting core is already taking a slot over, no core is left for the slot (R68, R567): it is
shed, and a takeover load of its own ends. Log entry 55. -/
def TX.coreUnitFault (x : TX) (c : Nat) (cause : FaultCause) : TX :=
  if bitOf x.tile.shedMask c then x
  else
    match (List.range 16).find? (fun k => x.tile.physOf k = c) with
    | none => if c = x.tile.rest then x.shedRest cause else x
    | some k =>
      let s := x.slot k
      if s.state = .off || s.state = .retention then x
      else
        let free := x.tile.restValid && !x.takingOver
        let s := { s with
          fault := cause, faultEngine := 0, faultDesc := 0, faultField := 0, queues := {}, eng := {}
          streams := s.endStreams, macros := s.macros.map (fun p => (p.1, p.2.stopLoad))
          state := if free then .preload else .shed }
        let x := x.setSlot k s
        let x := { x with tile := { x.tile with shedMask := x.tile.shedMask ||| 2 ^ c } }
        let x := x.note true ncCoreFault ukCore x.phys c cause.code
        if free then
          { x with tile := { x.tile with
              slotMap := NMap.put x.tile.slotMap k x.tile.rest, rest := 31, restState := .off
              preload := some { slot := k, takeover := true } } }
        else
          match x.tile.preload with
          | some p =>
            if p.takeover && p.slot = k then
              { x with tile := { x.tile with restValid := false, leapStopped := true, preload := none } }
            else x
          | none => x

/-- Held increments and a held doorbell applied once the slot is ready (R49, R293). -/
def TX.applyHeld (x : TX) (k : Nat) : TX :=
  let s := x.slot k
  let held := s.heldInc
  let x := x.setSlot k { s with heldInc := [], bell := none }
  let x := held.foldl (fun x h => x.tokenInc k h.1 h.2) x
  match s.bell with
  | some p => x.doorbell k p
  | none => x

/-- The takeover load finishes: the slot enters HALTED with the state of R567. Of the state that R567 does not list, the
scalar core's registers, CSRs and counters are zero and its narrow stores are dropped; the pending bits, the doorbell
payload, the timer compare value and the send tracker keep their values. Log entry 55. -/
def TX.takeoverReady (x : TX) (flips : NMap (List (List (Nat × Nat)))) : TX :=
  match x.tile.preload with
  | some p =>
    if !p.takeover then x
    else
      let k := p.slot
      let (im, dm, x) := x.codeImage k
      let (ms, x) := x.preloadMacros k (x.tile.physOf k) flips
      match ms with
      | none =>
        let c := x.tile.physOf k
        let x := { x with tile := { x.tile with
          shedMask := x.tile.shedMask ||| 2 ^ c, restValid := false, leapStopped := true, preload := none } }
        let x := x.modSlot k (fun s => { s with state := .shed })
        x.note true ncCoreFault ukCore x.phys c FaultCause.engineHard.code
      | some ms =>
        let s := x.slot k
        let s : Slot := { s with
          state := .halted, sc := {}, iram := im, fetchView := im, dram := dm, macros := ms
          acc := [], tokens := [], queues := {}, eng := {}, narrow := []
          streams := s.endStreams
          lap := { s.lap with next := 0, begun := false, waitStart := false, stopPend := false, freezePend := false
                              poisonLap := false, bubbles := 0 } }
        let x := x.setSlot k (s.setReg 0x38 0)
        let x := { x with tile := { x.tile with restValid := false, leapStopped := true, preload := none } }
        (x.applyHeld k).note false ncSlotReady ukCore x.phys (x.tile.physOf k) 0
  | none => x

end Sys2Proof.Machine
end

