-- ==== Sys2Proof/Machine/TileRegs.lean ====
section
/-! DEFINITION. Reading and writing tile register space by offset (R7, R8, R40–R42, R60, R61, R122, R123, R153, R171,
R172, R194–R196, R207, R232, R245, R246, R279–R281, R294, R297, R298, R319, R320, R418, R447, R449, R474, R547, R548). -/

namespace Sys2Proof.Machine

/-- Bit `i` of a word. -/
def bitAt (b : Bool) (i : Nat) : Nat := if b then 2 ^ i else 0

/-- The audit's reload of slot `k` that is running: its macro (R120). -/
def TX.reloading (x : TX) (k : Nat) : Option Nat :=
  match x.tile.audit.reloads with
  | p :: _ => if p.1 = k then some p.2 else none
  | [] => none

/-- The macro registers of a slot: TILE_MACRO_BIND, STAT and CRC (R122); `reload` marks a reload of the macro. -/
def Macro.reg (m : Macro) (reload : Bool) (j : Nat) : Nat :=
  if j = 0 then m.fmt + 16 * m.seg + 2 ^ 8 * m.accBase + (if m.loaded then 2 ^ 20 * m.ncol else 0)
  else if j = 1 then
    bitAt m.loaded 0 + bitAt (m.loading || reload) 1 + bitAt m.poisoned 2 + bitAt m.streamed 3 + 2 ^ 8 * natOfInt 8 m.fixedExp
  else m.crc

/-- A block register of slot `k` as it reads (R60, R96, R122). -/
def TX.coreReg (x : TX) (k off : Nat) : Nat :=
  let s := x.slot k
  if off = 0x00 then
    s.state.code + bitAt s.sc.wfi 4 + bitAt s.lfReady 5 + 2 ^ 6 * x.tile.physOf k
  else if off = 0x04 then 0
  else if off = 0x14 then s.lap.index
  else if off = 0x20 then s.fault.code + 16 * s.faultEngine + 64 * s.faultDesc + 2 ^ 16 * s.faultField
  else if off = 0x3C then
    let ld : Option Nat := match s.eng.load with
      | some r => some (bitsOf (descField r.q.desc 4 1) 3 0)
      | none => x.reloading k
    putBits (s.reg 0x3C) 15 0 (bitAt (!s.eng.mms.isEmpty) 0 + bitAt ld.isSome 1 + 4 * ld.getD 0)
  else if 0x40 ≤ off then
    let m := (off - 0x40) / 12
    (s.macroAt m).reg (decide (x.reloading k = some m)) ((off - 0x40) % 12 / 4)
  else s.reg off

/-- The slot whose block an offset of tile register space names, with the block offset: by slot at 0x2000, by physical
core at 0x4000 (R60). -/
def Tile.blockAt (t : Tile) (off : Nat) : Option (Nat × Nat) :=
  if 0x2000 ≤ off && off < 0x3000 then some ((off - 0x2000) / 0x100, off % 0x100)
  else if 0x4000 ≤ off && off < 0x5100 then
    ((List.range 16).find? (fun k => t.physOf k = (off - 0x4000) / 0x100)).map (fun k => (k, off % 0x100))
  else none

/-- Stream registers (R207). -/
def Stream.reg (st : Stream) (j stored : Nat) : Nat :=
  if j = 0 then
    let kind := match st.setDesc with
      | some d => pKind d
      | none => 0
    let code := match st.state with
      | .idle => 0 | .running => 1 | .stopping => 2 | .halted => 3
    code + bitAt (st.landing && kind = 0) 2 + 8 * kind + 2 ^ 8 * st.head + 2 ^ 16 * st.fill + 2 ^ 24 * popCount st.full 64
  else if j = 1 then st.fetchLap
  else stored

/-- A window entry's words (R319). -/
def Window.reg (w : Window) (j : Nat) : Nat :=
  if j = 0 then
    w.region + bitAt w.isOpen 6 + bitAt w.closing 7 + 2 ^ 8 * w.gen + bitAt w.write 16 + bitAt w.read 17 +
      bitAt w.reduce 18 + bitAt w.cro 19 + bitAt w.landing 20 + 2 ^ 21 * w.notifySlot + 2 ^ 25 * w.notifyToken +
      bitAt w.notify 29
  else if j = 1 then w.first
  else if j = 2 then w.rows
  else if j = 3 then w.srcKind + 2 ^ 16 * w.partition
  else if j = 4 then w.lo0 + 2 ^ 16 * w.hi0
  else if j = 5 then w.lo1 + 2 ^ 16 * w.hi1
  else if j = 6 then w.done + 2 ^ 16 * w.failed
  else w.lastTag + 2 ^ 16 * w.lastStatus

/-- A region entry's words (R153). -/
def Region.reg (r : Region) (j : Nat) : Nat :=
  if j = 0 then
    r.base + 2 ^ 18 * r.cls + bitAt r.valid 20 + bitAt r.init 21 + bitAt r.mirror 22 +
      bitAt (r.cls = 1) 23 + bitAt r.shadow 24
  else if j = 1 then r.size
  else if j = 2 then r.owner + 2 ^ 16 * r.partition
  else if r.valid then r.span else 0

/-- Store and protection registers that read from the store's own state (R171, R172, R194–R196). -/
def Store.regAt (s : Store) (off stored : Nat) : Nat :=
  if off = 0x200 then
    let f := s.fills.head?
    bitAt f.isSome 0 + 2 * (f.map (fun f => f.region)).getD 0 + 2 ^ 8 * s.holes.length
  else if off = 0x204 then 262144 - s.holes.length
  else if off = 0x208 then
    (s.valid.map (fun p => p.2.span)).foldl (· + ·) 0 + 2 ^ 19 * s.valid.length
  else if off = 0x250 then putBits stored 3 0 s.logNext
  else if off = 0x258 then s.scrub.passes + 2 ^ 16 * s.scrub.late + bitAt s.scrub.active 31
  else if off = 0x25C then s.scrub.last
  else if 0xC00 ≤ off && off < 0x1000 then
    match s.holes[(off - 0xC00) / 4]? with
    | some h => h.row + bitAt true 18 + bitAt h.pending 19
    | none => 0
  else if 0x1000 ≤ off && off < 0x1100 then
    let e := s.log.getD ((off - 0x1000) / 16) {}
    let j := off % 16 / 4
    if j = 0 then e.row + 2 ^ 18 * e.word + 2 ^ 24 * e.cause
    else if j = 1 then e.syndrome + 2 ^ 8 * e.entrant + 2 ^ 16 * e.region
    else if j = 2 then e.time % 2 ^ 32
    else e.time / 2 ^ 32
  else if 0x1100 ≤ off && off < 0x1140 then
    let b := off - 0x1100
    (List.range 4).foldl (fun a j => a + s.spareCount (b + j) * 2 ^ (8 * j)) 0
  else stored

/-- The two banks of a replica entry in the register layout (R30, R232, R280, R298). -/
def bankPair (d : Nat) (act shd : NMap Nat) (n sh : Nat) : Nat :=
  NMap.get d act n + (if shd.isEmpty then 0 else NMap.get d shd n) * 2 ^ sh

/-- TILE_CORE_STATE of a physical core that serves no slot, by its own address (R60, R62). -/
def Tile.idleCore (t : Tile) (c : Nat) : Nat :=
  (if bitOf t.shedMask c then CoreState.shed.code else if c = t.rest then t.restState.code else 0) + 2 ^ 6 * c

/-- A register of tile register space as it reads. DESIGN CHOICE: SHD_PHYS reads 0 for a logical tile that the prepared
epoch leaves with no tile (log entry 42). Before any read effect. -/
def TX.readReg (x : TX) (off : Nat) : Nat :=
  let t := x.tile
  let st := x.reg off
  match t.blockAt off with
  | some (k, b) => x.coreReg k b
  | none =>
    if off = 0x0 then Config.dieStepping x.phys % 256 + 2 ^ 8 + 2 ^ 16 * (Config.dieCaps x.phys % 2 ^ 16)
    else if off = 0x4 then Config.dieSerial x.phys % 2 ^ 32
    else if off = 0x8 then Config.dieSerial x.phys / 2 ^ 32 % 2 ^ 32
    else if off = 0xC then (NMap.find t.regs 0xC).getD (Config.dieTiming x.phys % 2 ^ 24)
    else if 0x4000 ≤ off && off < 0x5100 then
      (if off % 0x100 = 0 then t.idleCore ((off - 0x4000) / 0x100) else 0)
    else if off = 0x10 then
      x.phys + bitAt (decide (x.phys % 16 = (4 * (x.phys / 16 % 4) + x.phys / 64) % 16)) 8 +
        bitAt (t.logical.isSome && !t.shed) 9 + bitAt t.shed 10 + 2 ^ 16 * (if t.shed then 255 else t.logical.getD 255) + 2 ^ 24 * x.rep.cur
    else if 0x100 ≤ off && off < 0x110 then
      (List.range 4).foldl (fun a j => a + t.physOf (off - 0x100 + j) * 2 ^ (8 * j)) 0
    else if off = 0x110 then t.rest + bitAt t.restValid 5 + 2 ^ 8 * t.shedMask
    else if off = 0x114 then st + bitAt t.leapStopped 17
    else if off = 0x118 then t.leapDone + 2 ^ 16 * t.leapSkipped
    else if off = 0x160 then st + bitAt t.audit.active 17
    else if off = 0x164 then t.audit.sweeps + 2 ^ 16 * t.audit.mismatches
    else if 0x400 ≤ off && off < 0x7C0 then
      let n := (off - 0x400) / 4
      NMap.get 0 x.rep.ett n + (if x.rep.shdValid then NMap.get 0 x.rep.ettShd n % 256 * 2 ^ 16 + 2 ^ 24 else 0)
    else if 0x800 ≤ off && off < 0xC00 then (NMap.get {} t.store.regions ((off - 0x800) / 16)).reg (off % 16 / 4)
    else if 0x1200 ≤ off && off < 0x1A00 then
      ((x.slot ((off - 0x1200) / 0x80)).stream (off % 0x80 / 16)).reg (off % 16 / 4) st
    else if off = 0x60C0 then
      putBits (x.netReg off st) 16 0 (x.rep.cur + 2 ^ 8 * x.rep.old + bitAt x.rep.draining 16)
    else if 0x6400 ≤ off && off < 0x6828 then bankPair rtNone x.rep.mesh x.rep.meshShd ((off - 0x6400) / 4) 16
    else if 0x7100 ≤ off && off < 0x7340 then
      NMap.get 0 x.rep.relay ((off - 0x7100) / 4)
    else if 0x7400 ≤ off && off < 0x7500 then NMap.get 0 x.rep.mcast ((off - 0x7400) / 4)
    else if 0x7600 ≤ off && off < 0x7A00 then
      let n := (off - 0x7600) % 0x200 / 8
      let shd := decide (0x7800 ≤ off)
      if off % 8 = 0 then NMap.get rgEmpty (if shd then x.rep.rgW0Shd else x.rep.rgW0) n
      else x.netReg off (NMap.get 0 (if shd then x.rep.rgW1Shd else x.rep.rgW1) n)
    else if 0x8100 ≤ off && off < 0x8530 then bankPair 0 x.rep.tad x.rep.tadShd ((off - 0x8100) / 4) 8
    else if off = 0x8068 then natOfInt 16 t.mirror.lastCorr + 2 ^ 16 * (t.mirror.syncs % 2 ^ 16)
    else if 0x9000 ≤ off && off < 0xB000 then (NMap.get {} t.wins.table ((off - 0x9000) / 32)).reg (off % 32 / 4)
    else if off = 0xB000 then putBits st 8 0 t.wins.xfers.length
    else if 0xB040 ≤ off && off < 0xB080 then putBits st 5 0 (x.slot ((off - 0xB040) / 4)).tracker.length
    else if off = 0xB100 then st + bitAt (!t.wins.farSweeps.isEmpty) 1
    else if 0xB140 ≤ off && off < 0xB1C0 then
      match NMap.find t.wins.farWin ((off - 0xB140) / 8) with
      | some (e, w, g) => if off % 8 = 0 then e + 2 ^ 16 * w + 2 ^ 24 * g else 1
      | none => 0
    else if 0xB300 ≤ off && off < 0xB400 then NMap.get 0 x.rep.members ((off - 0xB300) / 4)
    else if off = 0xD000 then
      bitAt t.pwr.pgood 0 + bitAt t.pwr.retention 1 + bitAt t.pwr.limit 2 + 2 ^ 8 * t.pwr.coreMv
    else if off = 0xD014 then putBits st 7 0 (t.pwr.crackSuspect + 16 * t.pwr.crackOpen)
    else if 0xD100 ≤ off && off < 0xD180 && off % 16 = 0 then
      putBits st 9 0 (NMap.get 0x3FF t.pwr.droopLow ((off - 0xD100) / 16))
    else if 0xD100 ≤ off && off < 0xD180 && off % 16 ≠ 12 then
      let v := NMap.get 0 t.pwr.droopTime ((off - 0xD100) / 16)
      if off % 16 = 4 then v % 2 ^ 32 else v / 2 ^ 32
    else if off = 0xD204 then
      let top := (List.range 16).foldl (fun a k => max a (NMap.get 0 t.pwr.used k)) 0
      let hot := (List.range 8).foldl (fun a i => max a (signedOf 12 (NMap.get 0 t.pwr.temps i))) (-2048)
      top + bitAt t.pwr.tripped 8 + bitAt (decide (hot ≥ 760)) 9 + bitAt (decide (hot ≥ 840)) 10 + bitAt t.pwr.rising 11
    else if 0xD210 ≤ off && off < 0xD220 then
      (List.range 4).foldl (fun a j => a + NMap.get 64 t.pwr.ceil (off - 0xD210 + j) * 2 ^ (8 * j)) 0
    else if 0xD300 ≤ off && off < 0xD320 then NMap.get 0 t.pwr.temps ((off - 0xD300) / 4)
    else t.store.regAt off (x.netReg off st)

/-- What a read does beyond returning the value: RC fields clear (R7), and a read of the doorbell's high word clears
DOORBELL (R60, R293). -/
def TX.readEffect (x : TX) (off : Nat) : TX :=
  match x.tile.blockAt off with
  | some (k, b) =>
    let s := x.slot k
    if b = 0x2C then
      (x.setSlot k { s.setReg 0x24 (s.reg 0x24 - s.reg 0x24 % 2) with bellUnread := false }).instantHandover k
    else
      match regAt coreRows b with
      | some r => if r.rc = 0 then x else x.setSlot k (s.setReg b (s.reg b - (s.reg b &&& r.rc)))
      | none => x
  | none =>
    match regAt tileRows off with
    | some r => if r.rc = 0 then x else x.setReg off (x.reg off - (x.reg off &&& r.rc))
    | none => x

/-- The stored bits after a write by the access codes (R7): RW bits take the value, W1C bits written 1 clear. -/
def regWritten (r : RegRow) (old v : Nat) : Nat :=
  let keep := old - (old &&& r.rw)
  let keep := keep - (keep &&& (v &&& r.w1c))
  keep + (v &&& r.rw)

/-- A write to a block register that its limits refuse (R61); `scalar` marks a scalar store. -/
def TX.coreRefuses (x : TX) (k b v : Nat) (scalar : Bool) : Bool :=
  let s := x.slot k
  let run := !scalar && (s.state = .lapRunning || s.state = .lapFrozen)
  if b = 0x08 then
    let base := bitsOf v 9 0
    let len := bitsOf v 25 16
    run || decide (len = 0) || decide (len > 512) || decide (base + len > 1024)
  else if b = 0x0C then run || decide (bitsOf v 23 0 < 64)
  else if b = 0x10 then run
  else false

/-- A write to a block register: false where it is refused. LAP_START answers R52's own refusal. A write that sets
several bits of TILE_CORE_CTRL acts in the order of the bits, and a refused LAP_START keeps no other bit from acting.
Log entry 19. -/
def TX.coreWrite (x : TX) (k b v : Nat) (scalar : Bool) : Bool × TX :=
  if b = 0x04 then
    let x := if bitOf v 0 then x.runCore k else x
    let x := if bitOf v 1 then x.haltCore k else x
    let (ok, x) := if bitOf v 2 then x.lapStart k else (true, x)
    let x := if bitOf v 3 then x.lapStop k else x
    let x := if bitOf v 4 then x.freeze k else x
    (ok, if bitOf v 5 then x.thaw k else x)
  else if x.coreRefuses k b v scalar then (false, x)
  else
    match regAt coreRows b with
    | some r =>
      let s := x.slot k
      let s' := s.setReg b (regWritten r (s.reg b) v)
      let cmp := s'.reg 0x30 + 2 ^ 32 * s'.reg 0x34
      let s' := if (b = 0x30 || b = 0x34) && x.now < cmp then { s' with sc := { s'.sc with timerPend := false } } else s'
      (true, (x.setSlot k s').instantHandover k)
    | none => (true, x)

/-- Limits of tile registers that a write must meet (R12, R64, R194, R418, R474). -/
def tileLimitOk (off v : Nat) : Bool :=
  if off = 0x114 || off = 0x254 then decide (v % 2 ^ 16 ≤ 60000)
  else if off = 0xD200 then decide (v % 2 ^ 14 ≤ 11000)
  else if 0xD240 ≤ off && off < 0xD2C0 && off % 8 = 0 then decide (v % 64 ≤ 32)
  else if 0xC000 ≤ off && off < 0xC800 && off % 0x200 = 0x20 then decide (bitsOf v 15 8 ≠ 0)
  else true

/-- A purge (R318): the transfer records of the partition's windows are freed with no reply, the landed bits of those
windows' rows clear, and the send trackers of the partition's slots empty. -/
def TX.purge (x : TX) (partition : Nat) : TX :=
  let w := x.tile.wins
  let mine (f : Xfer) : Bool :=
    if f.ctrl then decide ((NMap.get {} x.tile.store.regions f.window).partition = partition)
    else decide ((NMap.get {} w.table f.window).partition = partition)
  let rowMine (row : Nat) : Bool := match x.tile.store.regionOf row with
    | some p => decide (p.2.partition = partition)
    | none => false
  let x := x.setWins { w with
    xfers := w.xfers.filter (fun f => !mine f), landed := w.landed.filter (fun r => !rowMine r)
    withheld := w.withheld.filter (fun h => !(h.rows.any rowMine)) }
  let member := match x.tile.logical with
    | some l => bitOf (x.partTiles partition) l
    | none => false
  if member then
    { x with tile := { x.tile with slots := x.tile.slots.map (fun p => (p.1, { p.2 with tracker := [] })) } }
  else x

/-- A write to tile register space: false where it is refused (R61, R294). -/
def TX.writeReg (x : TX) (off v : Nat) (scalar : Bool) : Bool × TX :=
  match x.tile.blockAt off with
  | some (k, b) => x.coreWrite k b v scalar
  | none =>
    if !tileLimitOk off v then (false, x)
    else
      match regAt tileRows off with
      | none => (true, x)
      | some r =>
        let x := x.setReg off (regWritten r (x.reg off) v)
        let w1s := v &&& r.w1s
        if w1s = 0 then
          if off = 0xD014 then (true, x.setPwr { x.tile.pwr with crackSuspect := x.tile.pwr.crackSuspect - (x.tile.pwr.crackSuspect &&& v % 16) })
          else (true, x)
        else if off = 0x260 then (true, x.setReg off (x.reg off ||| w1s))
        else if off = 0xB004 then (true, x.purge (bitsOf v 15 0))
        else if 0xD100 ≤ off && off < 0xD180 then
          (true, x.setPwr { x.tile.pwr with droopLow := NMap.erase x.tile.pwr.droopLow ((off - 0xD100) / 16) })
        else (true, x.setReg off (x.reg off ||| w1s))

end Sys2Proof.Machine
end

