-- ==== Sys2Proof/Machine/ScalarOps.lean ====
section
/-! DEFINITION. The scalar control core: RV32IMC with Zicsr, Zifencei, Zba and Zbb, the engine-issue instructions, traps
and interrupts, and the narrow view of the store (R43–R47, R51, R55, R58, R59, R147, R163–R165). -/

namespace Sys2Proof.Machine

/-- What an instruction comes to: it retires, raises an exception, or stalls. -/
inductive ScalarRes where
  | ok (x : TX) (rd val pc : Nat)
  | trap (x : TX) (cause tval : Nat)
  | stall (x : TX)

/-- Register `r`; x0 reads zero. -/
def Scalar.get (s : Scalar) (r : Nat) : Nat := if r = 0 then 0 else (NMap.get 0 s.x r).toNat
/-- Register `r` written; a write to x0 is discarded. -/
def Scalar.put (s : Scalar) (r v : Nat) : Scalar :=
  if r = 0 then s else { s with x := NMap.set 0 s.x r (BitVec.ofNat 32 v) }

/-- The low 32 bits. -/
def w32 (v : Nat) : Nat := v % 2 ^ 32
/-- 32-bit two's complement of an integer. -/
def i32 (i : Int) : Nat := natOfInt 32 i
/-- `w`-bit value sign-extended to 32 bits. -/
def sext (w v : Nat) : Nat := i32 (signedOf w v)

/-- Instruction formats. -/
def encR (f7 rs2 rs1 f3 rd op : Nat) : Nat :=
  op + 2 ^ 7 * rd + 2 ^ 12 * f3 + 2 ^ 15 * rs1 + 2 ^ 20 * rs2 + 2 ^ 25 * f7
def encI (imm rs1 f3 rd op : Nat) : Nat := op + 2 ^ 7 * rd + 2 ^ 12 * f3 + 2 ^ 15 * rs1 + 2 ^ 20 * (imm % 4096)
def encS (imm rs2 rs1 f3 op : Nat) : Nat := encR (bitsOf imm 11 5) rs2 rs1 f3 (bitsOf imm 4 0) op
def encB (imm rs2 rs1 f3 : Nat) : Nat :=
  encR (64 * bitsOf imm 12 12 + bitsOf imm 10 5) rs2 rs1 f3 (2 * bitsOf imm 4 1 + bitsOf imm 11 11) 0x63
def encJ (imm rd : Nat) : Nat :=
  0x6F + 2 ^ 7 * rd + 2 ^ 12 * bitsOf imm 19 12 + 2 ^ 20 * bitsOf imm 11 11 + 2 ^ 21 * bitsOf imm 10 1 +
    2 ^ 31 * bitsOf imm 20 20

/-- Immediates. -/
def immI (w : Nat) : Nat := sext 12 (bitsOf w 31 20)
def immS (w : Nat) : Nat := sext 12 (32 * bitsOf w 31 25 + bitsOf w 11 7)
def immB (w : Nat) : Nat :=
  sext 13 (4096 * bitsOf w 31 31 + 2048 * bitsOf w 7 7 + 32 * bitsOf w 30 25 + 2 * bitsOf w 11 8)
def immJ (w : Nat) : Nat :=
  sext 21 (2 ^ 20 * bitsOf w 31 31 + 2 ^ 12 * bitsOf w 19 12 + 2 ^ 11 * bitsOf w 20 20 + 2 * bitsOf w 30 21)

/-- The 32-bit instruction that a compressed one stands for (RV32C without F and D); none where it is illegal. Log entry
84. -/
def expand16 (c : Nat) : Option Nat :=
  let f3 := bitsOf c 15 13
  let rdp := 8 + bitsOf c 4 2
  let rsp := 8 + bitsOf c 9 7
  let rd := bitsOf c 11 7
  let rs2 := bitsOf c 6 2
  let imm6 := sext 6 (32 * bitsOf c 12 12 + bitsOf c 6 2)
  let sh := 32 * bitsOf c 12 12 + bitsOf c 6 2
  let immj := sext 12 (2048 * bitsOf c 12 12 + 1024 * bitsOf c 8 8 + 256 * bitsOf c 10 9 + 128 * bitsOf c 6 6 +
    64 * bitsOf c 7 7 + 32 * bitsOf c 2 2 + 16 * bitsOf c 11 11 + 2 * bitsOf c 5 3)
  let immb := sext 9 (256 * bitsOf c 12 12 + 64 * bitsOf c 6 5 + 32 * bitsOf c 2 2 + 8 * bitsOf c 11 10 + 2 * bitsOf c 4 3)
  let lwi := 64 * bitsOf c 5 5 + 8 * bitsOf c 12 10 + 4 * bitsOf c 6 6
  if c % 4 = 0 then
    let i4 := 64 * bitsOf c 10 7 + 16 * bitsOf c 12 11 + 8 * bitsOf c 5 5 + 4 * bitsOf c 6 6
    if f3 = 0 then (if i4 = 0 then none else some (encI i4 2 0 rdp 0x13))
    else if f3 = 2 then some (encI lwi rsp 2 rdp 0x03)
    else if f3 = 6 then some (encS lwi rdp rsp 2 0x23)
    else none
  else if c % 4 = 1 then
    if f3 = 0 then some (encI imm6 rd 0 rd 0x13)
    else if f3 = 1 then some (encJ immj 1)
    else if f3 = 2 then some (encI imm6 0 0 rd 0x13)
    else if f3 = 3 then
      if rd = 2 then
        let i := sext 10 (512 * bitsOf c 12 12 + 128 * bitsOf c 4 3 + 64 * bitsOf c 5 5 + 32 * bitsOf c 2 2 + 16 * bitsOf c 6 6)
        if i = 0 then none else some (encI i 2 0 2 0x13)
      else if sh = 0 then none
      else some (0x37 + 2 ^ 7 * rd + 2 ^ 12 * (imm6 % 2 ^ 20))
    else if f3 = 4 then
      let k := bitsOf c 11 10
      if k = 0 then (if sh < 32 then some (encI sh rsp 5 rsp 0x13) else none)
      else if k = 1 then (if sh < 32 then some (encI (sh + 0x400) rsp 5 rsp 0x13) else none)
      else if k = 2 then some (encI imm6 rsp 7 rsp 0x13)
      else if bitOf c 12 then none
      else
        let op := bitsOf c 6 5
        if op = 0 then some (encR 0x20 rdp rsp 0 rsp 0x33)
        else if op = 1 then some (encR 0 rdp rsp 4 rsp 0x33)
        else if op = 2 then some (encR 0 rdp rsp 6 rsp 0x33)
        else some (encR 0 rdp rsp 7 rsp 0x33)
    else if f3 = 5 then some (encJ immj 0)
    else some (encB immb 0 rsp (if f3 = 6 then 0 else 1))
  else
    if f3 = 0 then (if sh < 32 then some (encI sh rd 1 rd 0x13) else none)
    else if f3 = 2 then
      if rd = 0 then none
      else some (encI (64 * bitsOf c 3 2 + 32 * bitsOf c 12 12 + 4 * bitsOf c 6 4) 2 2 rd 0x03)
    else if f3 = 4 then
      if !bitOf c 12 then
        if rs2 = 0 then (if rd = 0 then none else some (encI 0 rd 0 0 0x67))
        else some (encR 0 rs2 0 0 rd 0x33)
      else if rs2 = 0 then (if rd = 0 then some 0x00100073 else some (encI 0 rd 0 1 0x67))
      else some (encR 0 rs2 rd 0 rd 0x33)
    else if f3 = 6 then some (encS (64 * bitsOf c 8 7 + 4 * bitsOf c 12 9) rs2 2 2 0x23)
    else none

/-- The base and Zba/Zbb register-register operations and M; none where the encoding is undefined. Log entry 84. -/
def aluR (f7 f3 rs2 a b : Nat) : Option Nat :=
  let sa := signedOf 32 a
  let sb := signedOf 32 b
  let sh := b % 32
  if f7 = 0 then
    some (if f3 = 0 then w32 (a + b) else if f3 = 1 then w32 (a * 2 ^ sh) else if f3 = 2 then bitNat (decide (sa < sb))
      else if f3 = 3 then bitNat (decide (a < b)) else if f3 = 4 then a ^^^ b else if f3 = 5 then a / 2 ^ sh
      else if f3 = 6 then a ||| b else a &&& b)
  else if f7 = 0x20 then
    if f3 = 0 then some (i32 ((a : Int) - b)) else if f3 = 4 then some (w32 (2 ^ 32 - 1 - (a ^^^ b)))
    else if f3 = 5 then some (i32 (sa / (2 ^ sh : Nat))) else if f3 = 6 then some (a ||| (2 ^ 32 - 1 - b))
    else if f3 = 7 then some (a &&& (2 ^ 32 - 1 - b)) else none
  else if f7 = 1 then
    some (if f3 = 0 then w32 (a * b)
      else if f3 = 1 then i32 (sa * sb / (2 ^ 32 : Nat))
      else if f3 = 2 then i32 (sa * (b : Int) / (2 ^ 32 : Nat))
      else if f3 = 3 then a * b / 2 ^ 32
      else if f3 = 4 then (if b = 0 then 2 ^ 32 - 1 else i32 (Int.tdiv sa sb))
      else if f3 = 5 then (if b = 0 then 2 ^ 32 - 1 else a / b)
      else if f3 = 6 then (if b = 0 then a else i32 (Int.tmod sa sb))
      else (if b = 0 then a else a % b))
  else if f7 = 0x10 then
    if f3 = 2 then some (w32 (2 * a + b)) else if f3 = 4 then some (w32 (4 * a + b))
    else if f3 = 6 then some (w32 (8 * a + b)) else none
  else if f7 = 5 then
    if f3 = 4 then some (if sa < sb then a else b) else if f3 = 5 then some (min a b)
    else if f3 = 6 then some (if sa < sb then b else a) else if f3 = 7 then some (max a b) else none
  else if f7 = 0x30 then
    if f3 = 1 then some (w32 (a * 2 ^ sh) + a / 2 ^ (32 - sh)) else if f3 = 5 then some (a / 2 ^ sh + w32 (a * 2 ^ (32 - sh)))
    else none
  else if f7 = 4 then (if f3 = 4 && rs2 = 0 then some (a % 2 ^ 16) else none)
  else none

/-- Leading zeros of a `n`-bit value. -/
def clz (v n : Nat) : Nat :=
  match n with
  | 0 => 0
  | n + 1 => if bitOf v n then 0 else 1 + clz v n
/-- Trailing zeros, at most `n`. -/
def ctz (v n : Nat) : Nat :=
  match n with
  | 0 => 0
  | n + 1 => if v % 2 = 1 then 0 else 1 + ctz (v / 2) n

/-- The immediate operations with Zbb. -/
def aluI (w a : Nat) : Option Nat :=
  let f3 := bitsOf w 14 12
  let imm := immI w
  let f7 := bitsOf w 31 25
  let sh := bitsOf w 24 20
  if f3 = 1 then
    if f7 = 0 then some (w32 (a * 2 ^ sh))
    else if f7 = 0x30 then
      if sh = 0 then some (clz a 32) else if sh = 1 then some (ctz a 32) else if sh = 2 then some (popCount a 32)
      else if sh = 4 then some (sext 8 a) else if sh = 5 then some (sext 16 a) else none
    else none
  else if f3 = 5 then
    if f7 = 0 then some (a / 2 ^ sh)
    else if f7 = 0x20 then some (i32 (signedOf 32 a / (2 ^ sh : Nat)))
    else if f7 = 0x30 then some (a / 2 ^ sh + w32 (a * 2 ^ (32 - sh)))
    else if bitsOf w 31 20 = 0x287 then
      some ((List.range 4).foldl (fun r i => r + (if byteOf a i = 0 then 0 else 255 * 2 ^ (8 * i))) 0)
    else if bitsOf w 31 20 = 0x698 then
      some ((List.range 4).foldl (fun r i => r + byteOf a i * 2 ^ (8 * (3 - i))) 0)
    else none
  else aluR 0 f3 0 a imm

/-- The store row, word and permission of a narrow access (R163): region, data row. -/
def TX.narrowRow (x : TX) (k row : Nat) (isStore : Bool) : Bool :=
  match x.tile.store.regionOf row with
  | some (_, r) =>
    (r.dataRow row).isSome && bitOf r.owner k && (!isStore || r.cls = 0 || r.cls = 2)
  | none => false

/-- The oldest narrow store written to its bank (R164). -/
def TX.narrowSend (x : TX) (k : Nat) : TX :=
  let s := x.slot k
  match s.narrow with
  | [] => x
  | e :: rest =>
    let x := x.setSlot k { s with narrow := rest }
    let x := if e.mask = 255 then x else x.bump 0x210 31 0 1
    let x := x.writeWord (e.word / 64) (e.word % 64) e.data e.mask false k
    match x.tile.store.regionOf (e.word / 64) with
    | some (n, _) => x.markDirty n
    | none => x
/-- The whole narrow store queue written (R165). -/
def TX.narrowDrain (x : TX) (k : Nat) : TX := (x.slot k).narrow.foldl (fun x _ => x.narrowSend k) x

/-- The oldest entry sent while its mask is full (R164). -/
def TX.narrowFull (x : TX) (k n : Nat) : TX :=
  match n with
  | 0 => x
  | n + 1 =>
    match (x.slot k).narrow with
    | e :: _ => if e.mask = 255 then (x.narrowSend k).narrowFull k n else x
    | [] => x
/-- Entries sent, oldest first, until none of word `wd` is left (R164, R165). -/
def TX.narrowThrough (x : TX) (k wd n : Nat) : TX :=
  match n with
  | 0 => x
  | n + 1 => if (x.slot k).narrow.any (fun e => e.word = wd) then (x.narrowSend k).narrowThrough k wd n else x

/-- A narrow store of `n` bytes: merged into the entry of its word, or a new entry, the oldest sent first where the queue
is full; then the oldest entry is sent if its mask is full (R164). -/
def TX.narrowStore (x : TX) (k off n v : Nat) : TX :=
  let wd := off / 8
  let sh := off % 8
  let mask := (2 ^ n - 1) * 2 ^ sh
  let data := (v % 2 ^ (8 * n)) * 2 ^ (8 * sh)
  let s := x.slot k
  if s.narrow.any (fun e => e.word = wd) then
    (x.setSlot k { s with narrow := s.narrow.map (fun e =>
      if e.word = wd then { e with mask := e.mask ||| mask, data := mergeBytes e.data data mask } else e) }).narrowFull k 4
  else
    let x := if s.narrow.length ≥ 4 then x.narrowSend k else x
    x.modSlot k (fun s => { s with narrow := s.narrow ++ [{ word := wd, mask := mask, data := data }] })

/-- A narrow load's read of `n` bytes at byte `sh` of word `wd`: none for a word returned poisoned (R163). -/
def TX.narrowRead (x : TX) (k wd sh n : Nat) : Option Nat × TX :=
  let (v, f, x) := x.readWords (wd / 64) k
  (if f.contains (wd % 64) then none else some (bitsOf v (64 * (wd % 64) + 8 * (sh + n) - 1) (64 * (wd % 64) + 8 * sh)), x)

/-- A narrow load of `n` bytes: the data, or none for a poisoned word (R163). A load that touches the oldest entry's word
sends that entry; one whose bytes are only partly queued waits until its entry has been written (R164, R165). -/
def TX.narrowLoad (x : TX) (k off n : Nat) : Option Nat × TX :=
  let wd := off / 8
  let sh := off % 8
  let mask := (2 ^ n - 1) * 2 ^ sh
  let q := (x.slot k).narrow
  match q.find? (fun e => e.word = wd) with
  | some e =>
    if e.mask &&& mask = mask then
      (some (bitsOf e.data (8 * (sh + n) - 1) (8 * sh)),
       if (q.headD {}).word = wd then (x.narrowSend k).narrowFull k 4 else x)
    else ((x.narrowThrough k wd 4).narrowFull k 4).narrowRead k wd sh n
  | none => x.narrowRead k wd sh n

/-- A load of `n` bytes at `a` by slot `k`'s scalar core (R44, R46): the value or the exception. Log entry 21. -/
def TX.scalarLoad (x : TX) (k a n : Nat) : Except Nat Nat × TX :=
  let s := x.slot k
  if a % n ≠ 0 then (.error 4, x)
  else if a < 0x10000 then (.ok (Mem.read s.iram a n), x)
  else if 0x10000000 ≤ a && a < 0x10008000 then (.ok (Mem.read s.dram (a - 0x10000000) n), x)
  else if 0x20000000 ≤ a && a < 0x28000000 then
    if x.narrowRow k ((a - 0x20000000) / 512) false then
      match x.narrowLoad k (a - 0x20000000) n with
      | (some v, x) => (.ok v, x)
      | (none, x) => (.error 5, x)
    else (.error 5, x)
  else if 0x30000000 ≤ a && a < 0x30000100 then
    let off := 0x2000 + 0x100 * k + (a - 0x30000000) / 4 * 4
    (.ok (bitsOf (x.readReg off) (8 * (a % 4 + n) - 1) (8 * (a % 4))), x.readEffect off)
  else if 0x40000000 ≤ a && a < 0x40010000 then
    let off := (a - 0x40000000) / 4 * 4
    (.ok (bitsOf (x.readReg off) (8 * (a % 4 + n) - 1) (8 * (a % 4))), x.readEffect off)
  else (.error 5, x)

/-- A store of `n` bytes (R44, R46, R55, R61): none where it is performed, else the exception. Log entry 21. -/
def TX.scalarStore (x : TX) (k a n v : Nat) : Option Nat × TX :=
  let s := x.slot k
  if a % n ≠ 0 then (some 6, x)
  else if a < 0x10000 then (none, x.setSlot k { s with iram := Mem.write s.iram a n v })
  else if 0x10000000 ≤ a && a < 0x10008000 then
    let o := a - 0x10000000
    let lo := 32 * s.lapBase
    let hi := lo + 32 * s.lapLen
    if (s.state = .lapRunning || s.state = .lapFrozen) && decide (lo < o + n) && decide (o < hi) then (some 7, x)
    else (none, x.setSlot k { s with dram := Mem.write s.dram o n v })
  else if 0x20000000 ≤ a && a < 0x28000000 then
    if x.narrowRow k ((a - 0x20000000) / 512) true then (none, x.narrowStore k (a - 0x20000000) n v)
    else (some 7, x)
  else if 0x30000000 ≤ a && a < 0x30000100 && n = 4 then
    let (ok, x') := x.writeReg (0x2000 + 0x100 * k + (a - 0x30000000)) v true
    if ok then (none, x') else (some 7, x)
  else (some 7, x)

/-- A machine CSR's value; none where the core has no such CSR (R43, R45, R58). Log entry 20. -/
def TX.csrRead (x : TX) (k n : Nat) : Option Nat :=
  let s := x.slot k
  let c := s.sc
  if n = 0x300 then some c.mstatus.toNat
  else if n = 0x301 || (0xF11 ≤ n && n ≤ 0xF13) || n = 0xF15 then some (w32 (Config.csrIdentity n))
  else if n = 0x304 then some c.mie.toNat
  else if n = 0x305 then some c.mtvec.toNat
  else if n = 0x310 || n = 0x320 then some 0
  else if n = 0x340 then some c.mscratch.toNat
  else if n = 0x341 then some c.mepc.toNat
  else if n = 0x342 then some c.mcause.toNat
  else if n = 0x343 then some c.mtval.toNat
  else if n = 0x344 then some (bitsOf (s.reg 0x24) 7 0 * 2 ^ 16 + (if c.timerPend then 128 else 0))
  else if n = 0xB00 || n = 0xC00 then some (c.mcycle.toNat % 2 ^ 32)
  else if n = 0xB80 || n = 0xC80 then some (c.mcycle.toNat / 2 ^ 32)
  else if n = 0xB02 || n = 0xC02 then some (c.minstret.toNat % 2 ^ 32)
  else if n = 0xB82 || n = 0xC82 then some (c.minstret.toNat / 2 ^ 32)
  else if n = 0xC01 then some (x.now % 2 ^ 32)
  else if n = 0xC81 then some (x.now / 2 ^ 32 % 2 ^ 32)
  else if n = 0xF14 then some (x.slotEid k)
  else if (0x323 ≤ n && n ≤ 0x33F) || (0xB03 ≤ n && n ≤ 0xB1F) || (0xB83 ≤ n && n ≤ 0xB9F) || (0xC03 ≤ n && n ≤ 0xC1F) ||
      (0xC83 ≤ n && n ≤ 0xC9F) then some 0
  else none

/-- A CSR write: only the fields the core implements change. Log entry 20. -/
def Scalar.csrWrite (c : Scalar) (n v : Nat) : Scalar :=
  if n = 0x300 then { c with mstatus := BitVec.ofNat 32 (0x1800 + (v &&& 0x88)) }
  else if n = 0x304 then { c with mie := BitVec.ofNat 32 (v &&& 0xFF0080) }
  else if n = 0x305 then { c with mtvec := BitVec.ofNat 32 (v - v % 4 + v % 2) }
  else if n = 0x340 then { c with mscratch := BitVec.ofNat 32 v }
  else if n = 0x341 then { c with mepc := BitVec.ofNat 32 (v - v % 2) }
  else if n = 0x342 then { c with mcause := BitVec.ofNat 32 v }
  else if n = 0x343 then { c with mtval := BitVec.ofNat 32 v }
  else if n = 0xB00 then { c with mcycle := BitVec.ofNat 64 (putBits c.mcycle.toNat 31 0 v) }
  else if n = 0xB80 then { c with mcycle := BitVec.ofNat 64 (putBits c.mcycle.toNat 63 32 v) }
  else if n = 0xB02 then { c with minstret := BitVec.ofNat 64 (putBits c.minstret.toNat 31 0 v) }
  else if n = 0xB82 then { c with minstret := BitVec.ofNat 64 (putBits c.minstret.toNat 63 32 v) }
  else c

/-- Taking a trap: mepc, mcause and mtval are written, MPIE takes MIE, MIE clears, and the pc goes to mtvec's base, or in
vectored mode for an interrupt to base + 4 × cause (R45, R58, R59). Log entry 21. -/
def Scalar.trap (c : Scalar) (pc : Nat) (irq : Bool) (cause tval : Nat) : Scalar :=
  let base := c.mtvec.toNat - c.mtvec.toNat % 4
  let mie := bitsOf c.mstatus.toNat 3 3
  { c with
    mepc := BitVec.ofNat 32 pc, mcause := BitVec.ofNat 32 (cause + (if irq then 2 ^ 31 else 0))
    mtval := BitVec.ofNat 32 tval, mstatus := BitVec.ofNat 32 (0x1800 + 128 * mie), wfi := false
    pc := BitVec.ofNat 32 (if irq && c.mtvec.toNat % 2 = 1 then base + 4 * cause else base) }

/-- The return from a trap (mret): MIE takes MPIE, MPIE becomes 1, the pc goes to mepc. -/
def Scalar.mret (c : Scalar) : Scalar :=
  { c with mstatus := BitVec.ofNat 32 (0x1800 + 0x80 + 8 * bitsOf c.mstatus.toNat 7 7), pc := c.mepc }

/-- ENQ and ENQL (R50, R51, R147, R165). -/
def TX.enq (x : TX) (k q rd addr lap pc : Nat) : ScalarRes :=
  if addr % 32 ≠ 0 then .trap x 4 addr
  else if addr < 0x10000000 || addr ≥ 0x10008000 then .trap x 5 addr
  else
    let d := (x.slot k).descAt (addr - 0x10000000)
    match descCheck d q with
    | some _ => .trap x 24 addr
    | none =>
      let x := x.narrowDrain k
      let s := x.slot k
      if s.qfree q = 0 then .stall x
      else
        let s := { s with queues := s.queues.put q (s.queues.get q ++ [{ desc := d, lap := lap }]) }
        .ok (x.setSlot k s) rd (s.qfree q) (pc + 4)

/-- A SYSTEM instruction. mtval is the pc after ebreak and 0 after ecall, where the spec is silent. Log entries 12, 21. -/
def TX.execSystem (x : TX) (k w pc : Nat) : ScalarRes :=
  let s := x.slot k
  let f3 := bitsOf w 14 12
  let rd := bitsOf w 11 7
  let rs1 := bitsOf w 19 15
  let n := bitsOf w 31 20
  let ill := ScalarRes.trap x 2 (w32 (Config.mtvalIllegal w))
  if f3 = 0 then
    if rd ≠ 0 || rs1 ≠ 0 then ill
    else if n = 0 then .trap x 11 0
    else if n = 1 then .trap x 3 pc
    else if n = 0x302 then .ok (x.setSlot k { s with sc := s.sc.mret }) 0 0 s.sc.mepc.toNat
    else if n = 0x105 then .ok (x.setSlot k { s with sc := { s.sc with wfi := decide (s.pendEnabled = 0) } }) 0 0 (pc + 4)
    else ill
  else if f3 = 4 then ill
  else
    let src := if f3 < 4 then s.sc.get rs1 else rs1
    let writes := f3 % 4 = 1 || rs1 ≠ 0
    match x.csrRead k n with
    | none => ill
    | some old =>
      if writes && 0xC00 ≤ n then ill
      else
        let new := if f3 % 4 = 1 then src else if f3 % 4 = 2 then old ||| src else old - (old &&& src)
        let x := if writes then x.setSlot k { s with sc := s.sc.csrWrite n new } else x
        .ok x rd old (pc + 4)

/-- The engine-issue instructions (R147). -/
def TX.execCustom (x : TX) (k w pc : Nat) : ScalarRes :=
  let s := x.slot k
  let f3 := bitsOf w 14 12
  let f7 := bitsOf w 31 25
  let rd := bitsOf w 11 7
  let a := s.sc.get (bitsOf w 19 15)
  let b := s.sc.get (bitsOf w 24 20)
  let t := a % 16
  let v := NMap.get 0 s.tokens t
  let ill := ScalarRes.trap x 2 (w32 (Config.mtvalIllegal w))
  if w % 128 = 0x0B then
    if f7 ≥ 4 then ill
    else if f3 = 0 then x.enq k f7 rd a s.lap.index pc
    else if f3 = 1 then x.enq k f7 rd a b pc
    else if f3 = 2 then .ok x rd (s.qfree f7) (pc + 4)
    else ill
  else if f7 ≠ 0 then ill
  else if f3 = 0 then .ok x rd v (pc + 4)
  else if f3 = 1 then .ok (if b % 256 = 0 then x else x.tokenInc k t (b % 256)) 0 0 (pc + 4)
  else if f3 = 2 then
    if v ≥ b % 256 then .ok (x.setSlot k { s with tokens := NMap.set 0 s.tokens t (v - b % 256) }) rd 1 (pc + 4)
    else .ok x rd 0 (pc + 4)
  else if f3 = 3 then .ok x rd s.lap.index (pc + 4)
  else ill

/-- One 32-bit instruction `w` at `pc`, `len` bytes long in memory. Log entry 84. -/
def TX.exec32 (x : TX) (k w pc len : Nat) : ScalarRes :=
  let s := x.slot k
  let op := w % 128
  let rd := bitsOf w 11 7
  let f3 := bitsOf w 14 12
  let a := s.sc.get (bitsOf w 19 15)
  let b := s.sc.get (bitsOf w 24 20)
  let next := w32 (pc + len)
  let ill := ScalarRes.trap x 2 (w32 (Config.mtvalIllegal w))
  let val (o : Option Nat) : ScalarRes := match o with
    | some v => .ok x rd v next
    | none => ill
  if op = 0x37 then val (some (w - w % 4096))
  else if op = 0x17 then val (some (w32 (pc + (w - w % 4096))))
  else if op = 0x6F then .ok x rd next (w32 (pc + immJ w))
  else if op = 0x67 then
    if f3 = 0 then
      let t := w32 (a + immI w)
      .ok x rd next (t - t % 2)
    else ill
  else if op = 0x63 then
    let take : Option Bool :=
      if f3 = 0 then some (decide (a = b)) else if f3 = 1 then some (decide (a ≠ b))
      else if f3 = 4 then some (decide (signedOf 32 a < signedOf 32 b))
      else if f3 = 5 then some (decide (signedOf 32 b ≤ signedOf 32 a))
      else if f3 = 6 then some (decide (a < b)) else if f3 = 7 then some (decide (b ≤ a)) else none
    match take with
    | some t => .ok x 0 0 (if t then w32 (pc + immB w) else next)
    | none => ill
  else if op = 0x03 then
    if f3 = 3 || f3 > 5 then ill
    else
      let n := 2 ^ (f3 % 4)
      let addr := w32 (a + immI w)
      match x.scalarLoad k addr n with
      | (.ok v, x) => .ok x rd (if f3 < 3 then sext (8 * n) v else v) next
      | (.error c, x) => .trap x c addr
  else if op = 0x23 then
    if f3 > 2 then ill
    else
      let addr := w32 (a + immS w)
      match x.scalarStore k addr (2 ^ f3) b with
      | (none, x) => .ok x 0 0 next
      | (some c, x) => .trap x c addr
  else if op = 0x13 then val (aluI w a)
  else if op = 0x33 then val (aluR (bitsOf w 31 25) f3 (bitsOf w 24 20) a b)
  else if op = 0x0F then
    if f3 = 0 then .ok (x.narrowDrain k) 0 0 next
    else if f3 = 1 then .ok ((x.narrowDrain k).modSlot k (fun s => { s with fetchView := s.iram })) 0 0 next
    else ill
  else if op = 0x73 then x.execSystem k w pc
  else if op = 0x0B || op = 0x2B then x.execCustom k w pc
  else ill

/-- The scalar core may execute an instruction. -/
def Slot.scalarLive (s : Slot) : Bool :=
  (s.state = .scalar || s.state = .lapRunning || s.state = .lapFrozen || s.state = .lapFault) && !s.sc.halted &&
    (!s.sc.wfi || decide (s.pendEnabled ≠ 0))

/-- What an instruction's outcome does to the core: the destination and the pc, or the trap; minstret counts retired
instructions (R45). -/
def ScalarRes.retire (r : ScalarRes) (k : Nat) (old : W64) (pc : Nat) : TX :=
  match r with
  | .ok x rd v npc =>
    let s := x.slot k
    let halted := s.sc
    let c := { halted.put rd v with pc := BitVec.ofNat 32 npc }
    let c := if c.minstret = old then { c with minstret := old + 1 } else c
    (x.setSlot k { s with sc := c }).instantHandover k
  | .trap x cause tval => x.modSlot k (fun s => { s with sc := s.sc.trap pc false cause tval })
  | .stall x => x

/-- The core cycles that have passed counted, and WFI left (R45). Log entry 20. -/
def TX.clock (x : TX) (k cc : Nat) : TX :=
  x.modSlot k (fun s => { s with sc := { s.sc with mcycle := s.sc.mcycle + BitVec.ofNat 64 cc, wfi := false } })

/-- A given 32-bit instruction executed at the pc after `cc` core cycles. -/
def TX.scalarWord (x : TX) (k cc w : Nat) : TX :=
  if (x.slot k).scalarLive then
    let x := x.clock k cc
    let c := (x.slot k).sc
    (x.exec32 k w c.pc.toNat 4).retire k c.minstret c.pc.toNat
  else x

/-- RAM check outcomes of an instruction's accesses, measured (R47). -/
inductive RamCheck where
  | clean | corrected | double
deriving DecidableEq, Repr

/-- The instruction at the pc: fetched from the fetch view, expanded where compressed, executed; a double-bit RAM error is
a unit fault and the access does not retire (R43, R46, R47). -/
def TX.scalarInstruction (x : TX) (k cc : Nat) (ram : RamCheck) : TX :=
  if (x.slot k).scalarLive then
    if ram = .double then x.coreUnitFault (x.tile.physOf k) .ramUncorrectable
    else
      let x := x.clock k cc
      let x := if ram = .corrected then
          (x.modSlot k (fun s => { (s.irq irqRamCorrected) with ramCorrected := s.ramCorrected + 1 })).emit
            (.scored ukCore (x.tile.physOf k) evRamCorrected 1)
        else x
      let s := x.slot k
      let pc := s.sc.pc.toNat
      let lo := Mem.read s.fetchView pc 2
      let r : ScalarRes :=
        if pc ≥ 0x10000 then .trap x 1 pc
        else if lo % 4 ≠ 3 then
          match expand16 lo with
          | some w => x.exec32 k w pc 2
          | none => .trap x 2 (w32 (Config.mtvalIllegal lo))
        else if pc + 2 ≥ 0x10000 then .trap x 1 (pc + 2)
        else x.exec32 k (lo + 2 ^ 16 * Mem.read s.fetchView (pc + 2) 2) pc 4
      r.retire k s.sc.minstret pc
  else x

/-- The interrupt with the highest priority among enabled pending ones (R58). -/
def topInterrupt (m : Nat) : Option Nat := [21, 20, 19, 17, 18, 16, 23, 22, 7].find? (fun i => bitOf m i)

/-- An enabled pending interrupt is taken (R58). -/
def TX.interruptTaken (x : TX) (k : Nat) : TX :=
  let s := x.slot k
  if s.scalarLive && bitOf s.sc.mstatus.toNat 3 then
    match topInterrupt s.pendEnabled with
    | some i => x.setSlot k { s with sc := s.sc.trap s.sc.pc.toNat true i 0 }
    | none => x
  else x

/-- The machine timer becomes pending once panel time reaches TILE_CORE_TIMECMP (R58). -/
def TX.machineTimer (x : TX) (k : Nat) : TX :=
  let s := x.slot k
  if x.now ≥ s.reg 0x30 + 2 ^ 32 * s.reg 0x34 then x.setSlot k { s with sc := { s.sc with timerPend := true } } else x

end Sys2Proof.Machine
end

