-- ==== Sys2Proof/Machine/StoreEvents.lean ====
section
/-! DEFINITION. What the tile store does by itself, and the weight audit: write-backs, reconstructions, parity latches,
fills, releases, the scrubber, live remaps, the watch tables, audit sweeps and reloads (R119–R121, R157, R160, R161,
R168, R170, R171, R175–R178, R183–R192, R194). -/

namespace Sys2Proof.Machine

/-- The row as its queued write-back leaves it: corrected words, rebuilt words, poisoned words (R175, R178, R185). -/
def TX.applyWriteBack (x : TX) (w : WriteBack) : TX :=
  let s := x.tile.store
  let bad := s.badWords w.row
  let data := w.fix.foldl (fun d p => putBits d (64 * p.1 + 63) (64 * p.1) p.2) (correctRow (s.rowData w.row) bad)
  let left := bad.filter (fun p => (synClass p.2 = .poison || synClass p.2 = .uncorrectable) &&
    (NMap.find w.fix p.1).isNone && !w.poison.contains p.1)
  let s := { s with
    data := Mem.write s.data (512 * w.row) 512 data
    found := s.found.filter (fun f => !(f / 64 = w.row && (NMap.find w.fix (f % 64)).isSome)) }
  x.setStore (s.setRowDev w.row 0 (left ++ w.poison.map (fun i => (i, 255))))

/-- PRIORITY work of a bank that is served before its write-backs: an occupied parity latch, or a live remap that waits
for no reconstruction (R168, R191). -/
def Store.latchOrRemap (s : Store) (bank : Nat) : Bool :=
  (NMap.find s.latches bank).isSome ||
    s.remapQ.any (fun q => decide (q.row % 64 = bank) && !s.recon.contains q.row)

/-- The oldest write-back of a bank runs, after its latch commits and live remaps (R168, R175). -/
def TX.correctionWriteBack (x : TX) (bank : Nat) : TX :=
  match NMap.get [] x.tile.store.wb bank with
  | [] => x
  | w :: rest =>
    if x.tile.store.latchOrRemap bank then x
    else (x.setStore { x.tile.store with wb := NMap.set [] x.tile.store.wb bank rest }).applyWriteBack w

/-- A row waiting for its own reconstruction gets it (R185). -/
def TX.reconstruction (x : TX) : TX :=
  match x.tile.store.recon with
  | [] => x
  | row :: rest =>
    let s := x.tile.store
    let x := x.setStore { s with recon := rest }
    match s.regionOf row with
    | some (_, r) =>
      let bad := s.badWords row
      let unc := wordsUncorrectable bad
      if r.cls ≠ 1 || unc.isEmpty then x
      else (x.reconstruct r row 19 r.init (correctRow (s.rowData row) bad) unc).2.2
    | none => x

/-- The entrant number of a store fill: no NORMAL entrant of R167, so no injection and no log entry names it. -/
def fillEntrant : Nat := 22

/-- A store fill finishes (R160, R161): the pattern in every data word of its rows, and INIT where it covers the region.
A fill of region 64 zeroes every store row that no SHADOW region spans (R158). -/
def TX.storeFillDone (x : TX) : TX :=
  match x.tile.store.fills with
  | [] => x
  | f :: rest =>
    let s := x.tile.store
    let x := x.setStore { s with fills := rest }
    if f.region ≥ 64 then
      let keep (row : Nat) : Bool := match s.regionOf row with
        | some p => p.2.shadow
        | none => false
      x.setStore { x.tile.store with
        data := s.data.filter (fun c => keep (c.1 / 512)), dev := s.dev.filter (fun c => keep (c.1 / 64)) }
    else
      match s.region f.region with
      | none => x
      | some r =>
        let row := (List.range 64).foldl (fun a i => a + f.pattern * 2 ^ (64 * i)) 0
        let x := x.putRegionRows f.region fillEntrant ((List.range f.count).map (fun i => (f.first + i, row, false)))
        let x := x.markDirty f.region
        if f.setInit || (f.first = 0 && f.count = r.size) then
          let s := x.tile.store
          x.setStore { s with regions := NMap.modify {} s.regions f.region (fun r => { r with init := true }) }
        else x

/-- A released region's granted accesses have finished, its fills among them: VALID clears, and its pending holes leave
service (R157, R170). -/
def TX.regionReleaseDone (x : TX) (n : Nat) : TX :=
  let s := x.tile.store
  let r := NMap.get {} s.regions n
  if r.valid && r.releasing && !(s.fills.any (fun f => f.region = n)) then
    let inside (row : Nat) : Bool := decide (r.base ≤ row) && decide (row < r.base + r.span)
    x.setStore { s with
      regions := NMap.put s.regions n { r with valid := false, init := false, mirror := false, releasing := false }
      holes := s.holes.map (fun h => if inside h.row then { h with pending := false } else h) }
  else x

/-- The store rows of regions with INIT = 1, as first row and count, shadows included (R187). -/
def Store.initSpans (s : Store) : List (Nat × Nat) := (s.valid.filter (fun p => p.2.init)).map (fun p => (p.2.base, p.2.span))
/-- The next store row at or after `row` that was counted at the start of the pass and still lies in a region with
INIT = 1 (R187). -/
def Store.nextInit (s : Store) (row : Nat) : Option Nat :=
  (s.scrub.spans.flatMap (fun a => s.initSpans.map (fun b => (a, b)))).foldl
    (fun (m : Option Nat) p =>
      let v := max row (max p.1.1 p.2.1)
      if v < p.1.1 + p.1.2 && v < p.2.1 + p.2.2 then
        (match m with
         | some b => some (min b v)
         | none => some v)
      else m) none

/-- TILE_SCRUB_CTRL (R194). Log entry 32. -/
def TX.scrubPeriod (x : TX) : Nat := 1000000 * bitsOf (x.reg 0x254) 15 0
def TX.scrubEnabled (x : TX) : Bool := bitOf (x.reg 0x254) 16

/-- A scrub pass begins now. -/
def TX.scrubBegin (x : TX) : TX :=
  let s := x.tile.store
  x.setStore { s with scrub := { s.scrub with active := true, pos := 0, passStart := x.now, spans := s.initSpans } }

/-- The scrubber begins a pass every PERIOD_MS (R187). Log entry 32. -/
def TX.scrubPassStart (x : TX) : TX :=
  let c := x.tile.store.scrub
  if x.scrubEnabled && !c.active && decide (x.now ≥ c.passStart + x.scrubPeriod) then x.scrubBegin else x

/-- One bit of a store row turned over: bits 0–63 of a word are data, 64–71 its check byte. -/
def Store.upset (s : Store) (row w b : Nat) : Store :=
  let key := 64 * row + w
  let old := (NMap.get 0 s.dev key).toNat
  if b < 64 then
    let a := 512 * row + 8 * w + b / 8
    let v := (Mem.byte s.data a).toNat ^^^ 2 ^ (b % 8)
    { s with data := Mem.setByte s.data a (BitVec.ofNat 8 v)
             dev := NMap.set 0 s.dev key (BitVec.ofNat 8 (old ^^^ dataColumns.getD b 0)) }
  else { s with dev := NMap.set 0 s.dev key (BitVec.ofNat 8 (old ^^^ 2 ^ (b - 64))) }

/-- The row lies in a VALID region with INIT = 1. -/
def Store.rowInit (s : Store) (row : Nat) : Bool :=
  match s.regionOf row with
  | some (_, r) => r.init
  | none => false
/-- A log entry for a row with its failing word, where the row is initialized (R195). -/
def TX.logRow (x : TX) (row word syn cause entrant : Nat) : TX :=
  if x.tile.store.rowInit row then x.protLog row word cause syn entrant else x

/-- The group of a scrubbed WEIGHT row is made parity-lost where its rows do not XOR to zero and none holds an
uncorrectable word (R188); a group already parity-lost has no parity to check. Log entry 32. -/
def TX.scrubGroup (x : TX) (r : Region) (row : Nat) : TX :=
  let rows := r.groupRows row
  let prow := rows.getD 8 0
  let x := x.commitLatch (prow % 64)
  let lost := x.tile.store.parityLost prow
  let (sum, bad, x) := rows.foldl (fun (a : Nat × Bool × TX) o =>
    let unc := !(wordsUncorrectable (a.2.2.tile.store.badWords o)).isEmpty
    let (v, _, x) := a.2.2.readRow o 20
    (a.1 ^^^ v, a.2.1 || unc, x)) (0, lost, x)
  if sum ≠ 0 && !bad then
    let x := x.setStore ((x.tile.store.cancelWriteBack prow).setRowDev prow 255 [])
    let x := ((x.bump 0x24C 31 16 1).logRow prow 0 0 7 20).emit (.scored ukBank (prow % 64) evLost 1)
    x.note true ncParityMismatch ukBank x.phys (prow % 64) 0
  else x

/-- The scrubber, where it is enabled, reads its next row or parity group (R187, R188, R194); `ups` are the upsets
since, as (row, word, bit). -/
def TX.scrubRead (x : TX) (ups : List (Nat × Nat × Nat)) : TX :=
  let x := x.setStore (ups.foldl (fun s u => s.upset u.1 u.2.1 u.2.2) x.tile.store)
  let c := x.tile.store.scrub
  if !c.active || !x.scrubEnabled then x
  else
    let endPass (x : TX) : TX :=
      let s := x.tile.store
      let late := decide (x.now ≥ c.passStart + x.scrubPeriod) && decide (x.scrubPeriod ≠ 0)
      let x := x.setStore { s with scrub := { s.scrub with
        active := false, passes := satAdd 16 s.scrub.passes 1, late := satAdd 15 s.scrub.late (bitNat late) } }
      if late && x.scrubEnabled then x.scrubBegin else x
    match x.tile.store.nextInit c.pos with
    | none => endPass x
    | some row =>
      let (x, last) := match x.tile.store.regionOf row with
        | some (_, r) =>
          if r.cls = 1 then (x.scrubGroup r row, (r.groupRows row).getD 8 row)
          else ((x.readRow row 20).2.2, row)
        | none => (x, row)
      let s := x.tile.store
      let x := x.setStore { s with scrub := { s.scrub with pos := last + 1, last := last } }
      match x.tile.store.nextInit (last + 1) with
      | none => endPass x
      | some _ => x

/-- A row entered in the hole list, rising by row; a 257th is a fault of the whole tile (R170, R171, R192). `word` and
`syn` are the failing word's. -/
def TX.addHole (x : TX) (row word syn : Nat) : TX :=
  let s := x.tile.store
  if s.holes.any (fun h => h.row = row) then x
  else
    let h : Hole := { row := row, pending := (s.regionOf row).isSome }
    if s.holes.length ≥ 256 then x.note true ncHolesExhausted ukTile x.phys 0 0
    else
      let x := x.logRow row word syn 6 21
      let s := x.tile.store
      x.setStore { s with
        holes := s.holes.filter (fun a => decide (a.row < row)) ++ (h :: s.holes.filter (fun a => decide (row < a.row))) }

/-- The data a live remap writes to the spare row (R191): the corrected or rebuilt row, with the words that could not be
recovered poisoned. A WEIGHT row whose rebuilt write-back could not be queued is rebuilt here. -/
def TX.remapData (x : TX) (row : Nat) : TX :=
  match (NMap.get [] x.tile.store.wb (row % 64)).find? (fun w => w.row = row) with
  | some w => x.applyWriteBack w
  | none =>
    let s := x.tile.store
    let bad := s.badWords row
    let ws := wordsUncorrectable bad ++ wordsPoisoned bad
    match s.regionOf row with
    | some (_, r) =>
      if r.cls = 1 && !ws.isEmpty then
        let (data, failed, x) := x.reconstruct r row 21 r.init (correctRow (s.rowData row) bad) ws
        let s := x.tile.store
        x.setStore ({ s with data := Mem.write s.data (512 * row) 512 data }.setRowDev row 0 (failed.map (fun w => (w, 255))))
      else x.applyWriteBack { row := row }
    | none => x.applyWriteBack { row := row }

/-- The oldest row due for a live remap moves to a free spare row of its bank, or becomes a capacity hole (R190–R192);
a row with a reconstruction running waits for it, and its bank's latch commit comes first (R168). -/
def TX.liveRemap (x : TX) : TX :=
  match x.tile.store.remapQ with
  | [] => x
  | q :: rest =>
    let bank := q.row % 64
    if x.tile.store.recon.contains q.row || (NMap.find x.tile.store.latches bank).isSome then x
    else
      let s := { x.tile.store with remapQ := rest, fieldMapTodo := x.tile.store.fieldMapTodo ++ [q.row] }
      let x := x.setStore s
      match s.nextSpare bank with
      | none => x.addHole q.row q.word q.syn
      | some i =>
        let x := x.remapData q.row
        let s := x.tile.store.cancelWriteBack q.row
        let dead := (wordsUncorrectable (s.badWords q.row)).map (fun p => (p.1, 255))
        let keep := (s.badWords q.row).filter (fun p => synClass p.2 ≠ .uncorrectable)
        let s := { s.useSpare q.row i with remapQ := s.remapQ.filter (fun r => r.row ≠ q.row) }
        let x := x.setStore (s.setRowDev q.row 0 (keep ++ dead))
        if s.rowInit q.row then
          ((x.bump 0x24C 15 0 1).protLog q.row q.word 5 q.syn 21).emit (.scored ukBank bank evLiveRemap 1)
        else x

/-- Watch entries of a bank that are 24 h old expire (R190). -/
def TX.watchExpiry (x : TX) (bank : Nat) : TX :=
  let s := x.tile.store
  let t := (NMap.get [] s.watch bank).filter (fun e => decide (x.now < e.first + 86400000000000))
  x.setStore { s with watch := NMap.set [] s.watch bank t }

/-- An audit sweep starts: a commit request's own sweep, or a background sweep when it is due (R119, R121, R123). -/
def TX.auditSweep (x : TX) : TX :=
  let a := x.tile.audit
  let per := 1000 * bitsOf (x.reg 0x160) 15 0
  if a.active then x
  else if a.commitAsked then
    { x with tile := { x.tile with audit := { a with
        active := true, commit := true, commitAsked := false, commitFailed := false, slot := 0, macro_ := 0
        started := x.now } } }
  else if bitOf (x.reg 0x160) 16 && decide (x.now ≥ a.started + per) then
    { x with tile := { x.tile with audit := { a with
        active := true, commit := false, slot := 0, macro_ := 0, started := x.now } } }
  else x

/-- The next macro a sweep reads, at or after its place: loaded and not loading. -/
def TX.auditNext (x : TX) : Option Nat :=
  let at_ := 16 * x.tile.audit.slot + x.tile.audit.macro_
  (List.range 256).find? (fun i =>
    let m := (x.slot (i / 16)).macroAt (i % 16)
    decide (at_ ≤ i) && m.loaded && !m.loading)

/-- The audit finishes reading one macro, in which `flips` have turned over since it was written (image row, bits); a
mismatch poisons it and queues a reload (R119, R120). Log entry 33. -/
def TX.macroAudit (x : TX) (flips : List (Nat × Nat)) : TX :=
  let a := x.tile.audit
  if !a.active then x
  else
    let finish (x : TX) : TX :=
      let a := x.tile.audit
      { x with tile := { x.tile with audit := { a with active := false, sweeps := satAdd 16 a.sweeps 1 } } }
    match x.auditNext with
    | none => finish x
    | some i =>
      let k := i / 16
      let mac := (x.slot k).macroAt (i % 16)
      let cells := flips.foldl (fun (c : NMap Nat) (f : Nat × Nat) => NMap.set 0 c f.1 (NMap.get 0 c f.1 ^^^ f.2)) mac.cells
      let mac := { mac with cells := cells }
      let bad := decide (macroCrc mac.cells mac.fmt mac.scales ≠ mac.crc)
      let mac := { mac with poisoned := mac.poisoned || bad }
      let x := x.modSlot k (fun s => s.setMacro (i % 16) mac)
      let a := { a with slot := (i + 1) / 16, macro_ := (i + 1) % 16 }
      let a := if bad then { a with
          mismatches := satAdd 16 a.mismatches 1, commitFailed := a.commitFailed || a.commit
          reloads := if a.reloads.contains (k, i % 16) then a.reloads else a.reloads ++ [(k, i % 16)] } else a
      let x := { x with tile := { x.tile with audit := a } }
      let x := if bad then
          ((x.modSlot k (fun s => s.bump 0x3C 31 16 1)).note true ncMacroMismatch ukCore x.phys (x.tile.physOf k)
            (i % 16)).emit (.scored ukCore (x.tile.physOf k) evMacroMismatch 1)
        else x
      if (x.auditNext).isNone then finish x else x

/-- The oldest mismatching macro is reloaded and checked again, once a load that runs has ended; a matching CRC clears
POISONED, and a second mismatch is a unit fault of the core (R114, R120). Log entry 33. -/
def TX.auditReload (x : TX) (flips : List (Nat × Nat)) : TX :=
  match x.tile.audit.reloads with
  | [] => x
  | (k, m) :: rest =>
    if (x.slot k).eng.load.isSome then x
    else
    let x := { x with tile := { x.tile with audit := { x.tile.audit with reloads := rest } } }
    let mac := (x.slot k).macroAt m
    if !mac.loaded then x
    else
      let (r, x) := x.reloadMacro k k mac flips
      let x := x.modSlot k (fun s => s.setMacro m { r.mac with poisoned := r.mismatch })
      if !r.mismatch then x
      else
        let x := (x.modSlot k (fun s => s.bump 0x3C 31 16 1)).emit (.scored ukCore (x.tile.physOf k) evMacroMismatch 1)
        let a := x.tile.audit
        let x := { x with tile := { x.tile with audit := { a with mismatches := satAdd 16 a.mismatches 1 } } }
        x.coreUnitFault (x.tile.physOf k) .engineHard

end Sys2Proof.Machine
end

