-- ==== Sys2Proof/Machine/WindowOps.lean ====
section
/-! DEFINITION. Packets at a tile's endpoint: window checks, transfer records, replies, control writes, the send tracker,
read responses and the far cache (R268, R270, R299–R318, R224, R225). -/

namespace Sys2Proof.Machine

/-- The EID is in the partition's source set: a core slot, tile store or control block of its tiles, or a hub (R301). -/
def inPartition (mask eid : Nat) : Bool :=
  if eid < 0x0F00 then bitOf mask (eid / 16)
  else if 0x1000 ≤ eid && eid ≤ 0x10EF then bitOf mask (eid - 0x1000)
  else if 0x1100 ≤ eid && eid ≤ 0x11EF then bitOf mask (eid - 0x1100)
  else eid = 0x1200 || eid = 0x1201

/-- The accepted-source set of a window (R301). -/
def TX.sourceOk (x : TX) (w : Window) (src : Nat) : Bool :=
  let peer := decide (0x2000 ≤ src) && decide (src ≤ 0x2FFF)
  if w.srcKind = 0 then inPartition (x.partTiles w.partition) src
  else if w.srcKind = 1 then
    let inR (lo hi : Nat) : Bool := !(lo = 0xFFFF && hi = 0xFFFF) && decide (lo ≤ src) && decide (src ≤ hi)
    inR w.lo0 w.hi0 || inR w.lo1 w.hi1
  else !peer && src = x.storeEid

/-- The window's checks in order, but for the transfer record: the refusal status, 0 where all pass (R302). A row that an
open cacheable-read-only window covers is written by no packet (R314). -/
def TX.windowStatus (x : TX) (p : Packet) : Nat :=
  let w := NMap.get {} x.tile.wins.table p.window
  if !w.isOpen || w.closing then stWindowClosed
  else if p.gen ≠ w.gen then stStaleGeneration
  else
    let mode :=
      if p.type = 2 then w.read && (!(bitOf p.misc 0) || w.cro)
      else if p.type = 4 then w.reduce
      else w.write && !w.cro
    if !(x.sourceOk w p.src && mode) then stNotPermitted
    else if p.offset / 512 ≥ w.rows then stOutOfWindow
    else if p.type ≠ 2 && x.tile.croLocked w.region (w.first + p.offset / 512) then stNotPermitted
    else stSuccess

/-- The store row of a window's byte offset. -/
def TX.windowRow (x : TX) (w : Window) (offset : Nat) : Nat × Nat :=
  let o := w.first + offset / 512
  match x.tile.store.region w.region with
  | some r => (o, r.storeRow o)
  | none => (o, 0)

/-- Rows a transfer wrote become landed: the streams whose ring holds them mark full slots FULL (R309), and their loop
nest counts the rows of those slots (R203). -/
def TX.markLanded (x : TX) (rows : List Nat) : TX :=
  let w := x.tile.wins
  let landed := w.landed ++ rows.filter (fun r => !w.landed.contains r)
  let x := x.setWins { w with landed := landed }
  let slots := x.tile.slots.map (fun p =>
    (p.1, { p.2 with streams := p.2.streams.map (fun q =>
      let st := q.2
      if !st.landing || st.state ≠ .running then q
      else
        match st.setDesc with
        | none => q
        | some c =>
          let ready (i : Nat) : Bool :=
            (List.range (pSlotRows c)).all (fun r => landed.contains (st.slotRow i r))
          let full := (List.range (pSlots c)).foldl (fun a i => if ready i then a ||| 2 ^ i else a) st.full
          let added := popCount full 64 - popCount st.full 64
          let rows := st.nextRow + added * pSlotRows c
          let lap := match st.loopDesc with
            | some l => max 1 (pLapRows l)
            | none => 1
          (q.1, { st with
            full := full, fill := (st.fill + added) % (max 1 (pSlots c)), nextRow := rows % lap
            fetchLap := (st.fetchLap + rows / lap) % 2 ^ 32 })) }))
  { x with tile := { x.tile with slots := slots } }

/-- A transfer's end: its window's counters, NOTIFY, and the reply, withheld for a landing window until the slots of its
rows are released (R305, R308–R310). `note` marks a transfer that raises NOTIFY and answers. -/
def TX.endTransfer (x : TX) (p : Packet) (ctrl : Bool) (rows : List Nat) (bytes status offset answers : Nat) : TX :=
  let src := if ctrl then x.ctrlEid else x.storeEid
  let reply := replyPacket src p bytes status offset answers
  if ctrl then (x.inject reply).2
  else
    let w := NMap.get {} x.tile.wins.table p.window
    let w' := { w with
      done := if status = 0 then satAdd 16 w.done 1 else w.done
      failed := if status = 0 then w.failed else satAdd 16 w.failed 1, lastTag := p.tag, lastStatus := status }
    let x := x.setWins { x.tile.wins with table := NMap.put x.tile.wins.table p.window w' }
    let x := if status = 0 && w.notify then x.tokenInc w.notifySlot w.notifyToken 1 else x
    if w.landing && !rows.isEmpty then
      let held := if p.type = 4 then [] else [{ reply := reply, rows := rows }]
      (x.setWins { x.tile.wins with withheld := x.tile.wins.withheld ++ held }).markLanded rows
    else if p.type = 4 then x
    else (x.inject reply).2

/-- A packet NACKed at once, counted in no record (R307, R308). -/
def TX.nackNow (x : TX) (p : Packet) (ctrl : Bool) (bytes status : Nat) : TX :=
  let src := if ctrl then x.ctrlEid else x.storeEid
  let x := if status = stBusy then x.bump 0xB000 23 16 1 else x
  (x.inject (replyPacket src p bytes status p.offset p.type)).2

/-- The record that counts a packet (R270). -/
def Xfer.counts (f : Xfer) (p : Packet) (ctrl : Bool) : Bool :=
  f.ctrl = ctrl && f.src = p.src && f.window = p.window && f.gen = p.gen && f.tag = p.tag

/-- Counts a packet of `b` bytes in its transfer (R270). `status` is what the checks gave; `put` writes an accepted
packet and answers the store rows written; `refuse` is what a packet refused with a status still writes (R309).
Log entry 90. -/
def TX.countPacket (x : TX) (p : Packet) (ctrl : Bool) (b status : Nat) (put : TX → List Nat × TX)
    (refuse : TX → Nat → List Nat × TX) : TX :=
  let xs := x.tile.wins.xfers
  let found := xs.find? (fun f => f.counts p ctrl)
  if found.isNone && xs.length ≥ 256 then
    let st := if status = 0 then stBusy else status
    (refuse x st).2.nackNow p ctrl b st
  else
    let f := found.getD
      { ctrl := ctrl, src := p.src, window := p.window, gen := p.gen, tag := p.tag, total := p.total
        firstOff := p.offset, firstType := p.type }
    let others := xs.filter (fun g => !g.counts p ctrl)
    let close (x : TX) : TX := x.setWins { x.tile.wins with xfers := others }
    if p.total ≠ f.total || f.acc + f.ref + b > f.total || (p.baton && f.baton) then
      (close x).endTransfer p ctrl f.rows (f.acc + f.ref) stInvalidField p.offset p.type
    else
      let (rows, x) := if status = 0 then put x else refuse x status
      let f := { f with
        rows := f.rows ++ rows.filter (fun r => !f.rows.contains r)
        acc := if status = 0 then f.acc + b else f.acc, ref := if status = 0 then f.ref else f.ref + b
        firstStatus := if status ≠ 0 && f.ref = 0 then status else f.firstStatus
        baton := f.baton || p.baton, batonOff := if p.baton then p.offset else f.batonOff
        batonType := if p.baton then p.type else f.batonType }
      if f.baton && f.acc + f.ref = f.total then
        let st := if f.ref = 0 then stSuccess else f.firstStatus
        (close x).endTransfer p ctrl f.rows (if f.ref = 0 then f.total else f.ref) st f.batonOff f.batonType
      else
        x.setWins { x.tile.wins with xfers := others ++ [f] }

/-- The running stream whose ring lands store row `row`: slot and stream (R309, R331). -/
def TX.ringStream (x : TX) (row : Nat) : Option (Nat × Nat) :=
  x.tile.slots.findSome? (fun p => p.2.streams.findSome? (fun q =>
    match q.2.setDesc with
    | some c =>
      if q.2.landing && decide (q.2.ringRow ≤ row) && decide (row < q.2.ringRow + pSlots c * pSlotRows c) then
        some (p.1, q.1)
      else none
    | none => none))

/-- A poisoned row written into a landing window: the ring's stream counts it, a refused one as refused too with its
notice, and the slot reports poison (R180, R205, R309). -/
def TX.landedPoison (x : TX) (row : Nat) (refused : Option (Nat × Nat)) : TX :=
  match x.ringStream row with
  | none => x
  | some (k, i) =>
    let x := (x.bump (streamReg k i + 12) 31 16 1).modSlot k (fun s => s.numeric nsPoisonOut)
    match refused with
    | some (status, tag) =>
      (x.bump (streamReg k i + 12) 15 0 1).note false ncRowRefused 0 (x.slotEid k) tag (status + 256 * i)
    | none => x

/-- What a refused packet still writes: in a landing window its row, zero and poisoned (R205, R309). -/
def TX.refusedWrite (x : TX) (w : Window) (p : Packet) (entrant status : Nat) : List Nat × TX :=
  if w.landing && decide (p.offset / 512 < w.rows) then
    let (o, row) := x.windowRow w p.offset
    ([row], (x.writeRows w.region entrant [(o, 0, true)]).landedPoison row (some (status, p.tag)))
  else ([], x)

/-- A long WRITE, or an MCAST delivery, at a window (R302, R303, R309). -/
def TX.windowWrite (x : TX) (p : Packet) (entrant : Nat) : TX :=
  let w := NMap.get {} x.tile.wins.table p.window
  let st := x.windowStatus p
  x.countPacket p false 512 st
    (fun x =>
      let (o, row) := x.windowRow w p.offset
      let x := x.writeRows w.region entrant [(o, p.payload, p.poison)]
      ([row], if p.poison && w.landing then x.landedPoison row none else x))
    (fun x st => x.refusedWrite w p entrant st)

/-- A short WRITE: a transfer of its own (R224, R302, R303). -/
def TX.shortWrite (x : TX) (p : Packet) : TX :=
  let w := NMap.get {} x.tile.wins.table p.window
  let b := 8 * popCount p.misc 4
  let st := x.windowStatus p
  let st := if st = 0 && x.tile.wins.xfers.length ≥ 256 then stBusy else st
  if st ≠ 0 && x.tile.wins.xfers.length ≥ 256 then (x.refusedWrite w p 17 st).2.nackNow p false b st
  else if st ≠ 0 then
    let (rows, x) := x.refusedWrite w p 17 st
    x.endTransfer p false rows b st p.offset 1
  else
    let (_, row) := x.windowRow w p.offset
    let x := (setBits p.misc 4).foldl (fun x i =>
      x.writeWord row (p.offset % 512 / 8 + i) (bitsOf p.payload (64 * i + 63) (64 * i)) 255 p.poison 17) x
    let x := if p.misc % 16 = 0 then x else x.markDirty w.region
    let x := if p.poison && w.landing && p.misc % 16 ≠ 0 then x.landedPoison row none else x
    x.endTransfer p false (if p.misc % 16 = 0 then [] else [row]) b stSuccess p.offset 1

/-- A READ_REQ at a window (R302, R304). -/
def TX.readReq (x : TX) (p : Packet) : TX :=
  let w := NMap.get {} x.tile.wins.table p.window
  let st := x.windowStatus p
  if st ≠ 0 then (x.inject (replyPacket x.storeEid p 512 st p.offset 2)).2
  else
    let (_, row) := x.windowRow w p.offset
    let (v, pois, x) := x.readRow row 17
    (x.inject
      { dst := p.src, src := x.storeEid, type := 3, vc := 0, long := true, poison := pois, tag := p.tag
        window := p.window, gen := p.gen, offset := p.offset, total := 512, payload := v, misc := p.misc }).2

/-- A line filled in the far cache: an empty way, else the tree's victim (R315). -/
def TX.farFill (x : TX) (eid win gen row data : Nat) : TX :=
  let w := x.tile.wins
  let set := farSet eid row
  let free := (List.range 8).find? (fun i => (NMap.find w.farLines (8 * set + i)).isNone)
  let bits := NMap.get 0 w.farPlru set
  let way := free.getD (plruVictim bits)
  x.setWins { w with
    farLines := NMap.put w.farLines (8 * set + way) { eid := eid, window := win, gen := gen, row := row, data := data }
    farPlru := NMap.set 0 w.farPlru set (plruTouch bits way) }

/-- The stream and fetch of slot `k` that a response with `tag` answers. -/
def Slot.fetchOf (s : Slot) (tag : Nat) : Option (Nat × Fetch) :=
  s.streams.findSome? (fun q =>
    match q.2.setDesc with
    | some c => if pKind c = 1 then (q.2.flight.find? (fun f => f.tag = tag)).map (fun f => (q.1, f)) else none
    | none => none)

/-- The fetch leaves the stream's list of fetches in flight. -/
def TX.dropFetch (x : TX) (k i : Nat) (f : Fetch) : TX :=
  x.modSlot k (fun s =>
    let st := s.stream i
    s.setStream i { st with flight := st.flight.filter (fun g => g ≠ f) })

/-- A READ_RESP: the staging slot's row, and with FILL a far-cache line unless the row is poisoned or its window has left
the list (R315, R225). -/
def TX.readResp (x : TX) (p : Packet) : TX :=
  let k := p.dst % 16
  match (x.slot k).fetchOf p.tag with
  | none => x.bump 0xB000 31 24 1
  | some (i, f) =>
    let x := x.dropFetch k i f
    let x := if bitOf p.misc 0 && !p.poison && x.tile.wins.farListed p.src p.window p.gen then
        x.farFill p.src p.window p.gen (p.offset / 512) p.payload
      else x
    x.landRow k i f.slot f.row p.payload p.poison

/-- One member's reply taken by the first MCAST entry it matches: the last member frees the entry (R311).
Log entry 90. -/
def mcastAnswered (mine : Track → Bool) : List Track → List Track
  | [] => []
  | t :: l =>
    if mine t then if t.left ≤ 1 then l else { t with left := t.left - 1 } :: l
    else t :: mcastAnswered mine l

/-- An ACK or NACK for a READ_REQ or for a transfer this tile sent (R205, R306, R311, R318). -/
def TX.replyIn (x : TX) (p : Packet) : TX :=
  let ok := decide (p.type = 6)
  if 0x1100 ≤ p.dst && p.dst ≤ 0x11EF then
    let hit (c : CtrlSent) : Bool := c.dst = p.src && c.region = p.window && c.tag = p.tag && c.waiting
    match x.tile.wins.ctrlSent.find? hit with
    | none => x.bump 0xB000 31 24 1
    | some c =>
      let rest := x.tile.wins.ctrlSent.filter (fun d => !hit d)
      if ok then
        let off := 0x1B00 + 4 * (c.src / 32)
        (x.setWins { x.tile.wins with ctrlSent := rest }).setReg off
          (x.reg off - (x.reg off &&& 2 ^ (c.src % 32)))
      else
        let x := x.setWins { x.tile.wins with ctrlSent := rest ++ [{ c with waiting := false, fails := c.fails + 1 }] }
        x.note true ncXferNack 0 x.ctrlEid p.tag (p.status + 256 * p.window)
  else
    let k := p.dst % 16
    let s := x.slot k
    if p.answers = 2 then
      match s.fetchOf p.tag with
      | none => x.bump 0xB000 31 24 1
      | some (i, f) => (x.dropFetch k i f).refusedRow k i f.slot f.row p.status p.tag true
    else
      let isSend (t : Track) : Bool := !t.mcast && t.target = p.src && t.window = p.window && t.tag = p.tag
      let isMc (t : Track) : Bool := t.mcast && t.window = p.window && t.tag = p.tag
      let (hit, l) :=
        if s.tracker.any isSend then (true, s.tracker.filter (fun t => !isSend t))
        else if s.tracker.any isMc then
          (true, mcastAnswered isMc s.tracker)
        else (false, s.tracker)
      if !hit then x.bump 0xB000 31 24 1
      else
        let x := x.setSlot k { s with tracker := l }
        if ok then x
        else (x.bump (0xB040 + 4 * k) 31 16 1).note true ncXferNack 0 (x.slotEid k) p.tag (p.status + 256 * p.window)

/-- The region a control write may reach (R306). -/
def TX.controlStatus (x : TX) (p : Packet) : Nat :=
  let fromCtrl := decide (0x1100 ≤ p.src) && decide (p.src ≤ 0x11EF)
  let r := NMap.get {} x.tile.store.regions p.window
  let pair (m : NMap (Nat × Nat)) : Bool := match NMap.find m p.window with
    | some q => fromCtrl && decide (q.1 = p.src - 0x1100)
    | none => false
  if !(fromCtrl || p.src = 0x1200 || p.src = 0x1201) then stNotPermitted
  else if p.gen ≠ 0 || p.window ≥ 64 || !r.valid then stInvalidField
  else if !((r.shadow && pair x.tile.shadowOf) || (r.mirror && pair x.tile.mirrorAt && x.tile.replaying) || x.tile.rebuild)
  then stNotPermitted
  else if p.offset / 512 ≥ r.size then stOutOfWindow
  else if x.tile.croLocked p.window (p.offset / 512) then stNotPermitted
  else stSuccess

/-- A control write: rows of a WEIGHT region are held until their group is whole (R306, R182). -/
def TX.controlWrite (x : TX) (p : Packet) : TX :=
  let r := NMap.get {} x.tile.store.regions p.window
  let o := p.offset / 512
  let st := x.controlStatus p
  let x := x.countPacket p true 512 st
    (fun x =>
      if r.cls ≠ 1 then ([r.storeRow o], x.putRegionRows p.window 19 [(o, p.payload, p.poison)]) else ([], x))
    (fun x _ => ([], x))
  if st ≠ 0 || r.cls ≠ 1 then x
  else
    let key := 64 * o + p.window
    let held := x.tile.wins.ctrlHeld.filter (fun h => h.1 ≠ key) ++ [(key, p.payload, p.poison)]
    let grp := held.filter (fun h => h.1 % 64 = p.window && h.1 / 64 / 8 = o / 8)
    if grp.length = 8 then
      let rows := (List.range 8).filterMap (fun i =>
        (grp.find? (fun h => h.1 / 64 = 8 * (o / 8) + i)).map (fun h => (8 * (o / 8) + i, h.2.1, h.2.2)))
      (x.setWins { x.tile.wins with ctrlHeld := held.filter (fun h => !grp.contains h) }).putRegionRows p.window 19 rows
    else x.setWins { x.tile.wins with ctrlHeld := held }

/-- The combined packet of a reduction group delivered to the root window (R305). -/
def TX.rootDeliver (x : TX) (p : Packet) : TX :=
  let w := NMap.get {} x.tile.wins.table p.window
  let p := { p with src := x.storeEid, offset := if w.rows = 0 then 0 else 512 * (p.tag % w.rows), total := 512, baton := true }
  let st := x.windowStatus p
  x.countPacket p false 512 st
    (fun x =>
      let (o, row) := x.windowRow w p.offset
      let x := x.writeRows w.region 17 [(o, p.payload, p.poison)]
      ([row], if p.poison && w.landing then x.landedPoison row none else x))
    (fun x st => x.refusedWrite w p 17 st)

/-- Steps 1–3 of a window's close: packets are refused from now on, and open records end WINDOW_CLOSED (R313). -/
def TX.closeBegin (x : TX) (n : Nat) : TX :=
  let w := NMap.get {} x.tile.wins.table n
  let x := x.setWins { x.tile.wins with table := NMap.put x.tile.wins.table n { w with closing := true } }
  let mine := x.tile.wins.xfers.filter (fun f => !f.ctrl && f.window = n)
  let x := x.setWins { x.tile.wins with xfers := x.tile.wins.xfers.filter (fun f => f.ctrl || f.window ≠ n) }
  mine.foldl (fun x f =>
    let p : Packet := { src := f.src, window := n, gen := f.gen, tag := f.tag, type := f.firstType }
    x.endTransfer p false f.rows (f.total - f.acc) stWindowClosed
      (if f.baton then f.batonOff else f.firstOff) (if f.baton then f.batonType else f.firstType)) x
/-- Step 4 of a window's close (R313). -/
def TX.closeEnd (x : TX) (n : Nat) : TX :=
  let w := NMap.get {} x.tile.wins.table n
  x.setWins { x.tile.wins with table := NMap.put x.tile.wins.table n { w with isOpen := false, closing := false } }

/-- An INVALIDATE: the far-window list drops the window and the sweep of its lines begins (R317). -/
def TX.invalidate (x : TX) (eid win gen tag : Nat) : TX :=
  let w := x.tile.wins
  x.setWins { w with
    farWin := w.farWin.filter (fun p => p.2 ≠ (eid, win, gen)), farSweeps := w.farSweeps ++ [(eid, win, gen, tag)] }

/-- The oldest far-cache sweep ends: the window's lines are gone (R317). The result is the sweep answered. -/
def TX.sweepDone (x : TX) : Option (Nat × Nat × Nat × Nat) × TX :=
  let w := x.tile.wins
  match w.farSweeps with
  | [] => (none, x)
  | (e, n, g, tag) :: rest =>
    let keep (p : Nat × FarLine) : Bool :=
      !(decide (p.2.eid = e) && decide (p.2.window = n) && decide (p.2.gen = g))
    (some (e, n, g, tag),
      (x.setWins { w with farSweeps := rest, farLines := w.farLines.filter keep }).bump 0xB10C 15 0 1)

/-- Tracker entries held longer than ACK_US raise one notice each (R312). -/
def TX.trackerTimeout (x : TX) (k : Nat) : TX :=
  let s := x.slot k
  let late (t : Track) : Bool := !t.reported && decide (x.now ≥ t.since + 1000 * bitsOf (x.reg 0xB008) 15 0)
  let due := s.tracker.filter late
  let x := x.setSlot k { s with tracker := s.tracker.map (fun t => if late t then { t with reported := true } else t) }
  due.foldl (fun x t =>
    x.note true ncXferTimeout 0 (x.slotEid k) t.tag (t.window + bitAt t.mcast 8 + 2 ^ 9 * (t.target % 2 ^ 14))) x
where
  bitAt (b : Bool) (i : Nat) : Nat := if b then 2 ^ i else 0

/-- The first control-write record past its timeout is reported to the lead hub (R306). -/
def TX.controlTimeout (x : TX) : TX :=
  let late (c : CtrlSent) : Bool := c.waiting && decide (x.now ≥ c.since + 1000 * bitsOf (x.reg 0xB008) 15 0)
  match x.tile.wins.ctrlSent.find? late with
  | none => x
  | some c =>
    let l := x.tile.wins.ctrlSent.map (fun d => if d = c then { d with waiting := false, fails := d.fails + 1 } else d)
    (x.setWins { x.tile.wins with ctrlSent := l }).note true ncXferTimeout 0 x.ctrlEid c.tag (c.region + 2 ^ 9 * (c.dst % 2 ^ 14))

/-- The rows of a record's region go out as one transfer of control writes (R306, R490). -/
def TX.controlRows (x : TX) (c : CtrlSent) : TX :=
  (List.range c.rows).foldl (fun x o =>
    let (v, bad, x) := x.readRegionRow c.src o 19
    x.emit (.packet
      { dst := c.dst, src := x.ctrlEid, type := 1, vc := 2, long := true, baton := decide (o + 1 = c.rows), poison := bad
        tag := c.tag, window := c.region, offset := 512 * o, total := 512 * c.rows, payload := v })) x

/-- The copy of region `src` to a region of another tile begins. -/
def TX.controlSend (x : TX) (dst region src : Nat) : TX :=
  let rows := match x.tile.store.region src with
    | some r => r.size
    | none => 0
  let c : CtrlSent := { dst := dst, region := region, src := src, tag := src, rows := rows, since := x.now }
  let keep := x.tile.wins.ctrlSent.filter (fun d => d.src ≠ src)
  (x.setWins { x.tile.wins with ctrlSent := keep ++ [c] }).controlRows c

/-- A failed transfer is sent once more (R306). -/
def TX.controlResend (x : TX) (tag : Nat) : TX :=
  match x.tile.wins.ctrlSent.find? (fun d => d.tag = tag && !d.waiting && d.fails = 1) with
  | none => x
  | some c =>
    let l := x.tile.wins.ctrlSent.map (fun d => if d = c then { d with waiting := true, since := x.now } else d)
    (x.setWins { x.tile.wins with ctrlSent := l }).controlRows c

end Sys2Proof.Machine
end

