-- ==== Sys2Proof/Machine/Sys.lean ====
section
/-! DEFINITION. The whole panel but for the queue of commands, and the operations that every chapter shares: a tile at
work, sending, the global log, events and interrupts. -/

namespace Sys2Proof.Machine

/-- What the lead hub's firmware keeps (chapters "Grid, identity and spare placement", "Command set"). -/
structure Lead where
  hub : Nat := 0                -- 0 west, 1 east
  epoch : Nat := 0
  switches : Nat := 0
  sw : Option Switch := none
  swQueue : List (List (Nat × Nat)) := []   -- changes waiting for a switch
  place : NMap Nat := []        -- physical tile of each logical tile
  partitions : NMap Partition := []
  mcs : List McGroup := []
  rgs : List RGroup := []
  invalid : List (Nat × Nat × Nat) := []    -- groups left invalid: group, kind, holder (R374)
  straightsOut : List (Nat × Nat) := []     -- straight ports (straight, position) the epoch's distance table finds unusable (R38)
  jobs : NMap Job := []
  serial : Nat := 0
  waits : List Wait := []
  invals : List (Nat × Nat × Nat × List Nat × Nat) := []   -- CRO closes: EID, window, GEN, tiles still to answer, since
  profiles : NMap Nat := []     -- ingest profiles, 64 bytes each
  log : List LogEntry := []     -- newest 4,096, oldest first
  logNext : Nat := 0
  peers : NMap Nat := []        -- optical engine chosen per peer panel (R429)
  recov : Recovery := {}
  weights : NMap (Nat × Nat × Bool) := []   -- WEIGHT_LOAD as accepted, by slot EID: mask, binding buffer, CHECK (R487)
deriving DecidableEq, Repr

/-- The panel. -/
structure Sys where
  now : Nat := 0                -- panel time, ns (R45, R296)
  fresh : Nat := 0              -- free values drawn (log entry 2)
  tiles : NMap Tile := []
  replicas : NMap Replica := [] -- by tadpole address 0–265
  mesh : NMap Router := []      -- 0–255 tiles, 256 and 257 hubs
  straights : NMap Straight := []    -- 0–15 rows, 16–31 columns
  tads : NMap TRouter := []     -- by tadpole address 0–265
  links : NMap TileLink := []   -- 4 × tile + port, as that tile sees it
  hubs : NMap Hub := []         -- 0 west, 1 east
  engines : NMap Engine := []
  lead : Lead := {}
  power : PanelPower := {}
  cool : Cooling := {}
  health : Health := {}
  boot : Boot := {}
  host : Mem := []              -- host memory (log entry 3)
  hostBad : List (Nat × Nat) := []   -- host ranges whose reads fail: first, length
  answer : Nat := 0             -- the value last answered to a host read or on the debug port
  irqs : List (Nat × Nat) := [] -- MSI-X messages sent: hub, vector
deriving DecidableEq, Repr

/-- A tile, router, straight, tadpole router, replica, hub, engine. -/
def Sys.tile (s : Sys) (t : Nat) : Tile := NMap.get {} s.tiles t
def Sys.router (s : Sys) (n : Nat) : Router := NMap.get {} s.mesh n
def Sys.straight (s : Sys) (n : Nat) : Straight := NMap.get {} s.straights n
def Sys.tad (s : Sys) (n : Nat) : TRouter := NMap.get {} s.tads n
def Sys.replica (s : Sys) (n : Nat) : Replica := NMap.get {} s.replicas n
def Sys.hub (s : Sys) (h : Nat) : Hub := NMap.get {} s.hubs h
def Sys.engine (s : Sys) (e : Nat) : Engine := NMap.get {} s.engines e
def Sys.link (s : Sys) (t p : Nat) : TileLink := NMap.get {} s.links (4 * t + p)
def Sys.setTile (s : Sys) (t : Nat) (v : Tile) : Sys := { s with tiles := NMap.put s.tiles t v }
def Sys.setRouter (s : Sys) (n : Nat) (v : Router) : Sys := { s with mesh := NMap.put s.mesh n v }
def Sys.setStraight (s : Sys) (n : Nat) (v : Straight) : Sys := { s with straights := NMap.put s.straights n v }
def Sys.setTad (s : Sys) (n : Nat) (v : TRouter) : Sys := { s with tads := NMap.put s.tads n v }
def Sys.setReplica (s : Sys) (n : Nat) (v : Replica) : Sys := { s with replicas := NMap.put s.replicas n v }
def Sys.setHub (s : Sys) (h : Nat) (v : Hub) : Sys := { s with hubs := NMap.put s.hubs h v }
def Sys.setEngine (s : Sys) (e : Nat) (v : Engine) : Sys := { s with engines := NMap.put s.engines e v }
def Sys.setLink (s : Sys) (t p : Nat) (v : TileLink) : Sys := { s with links := NMap.put s.links (4 * t + p) v }
def Sys.setLead (s : Sys) (l : Lead) : Sys := { s with lead := l }
def Sys.modHub (s : Sys) (h : Nat) (f : Hub → Hub) : Sys := s.setHub h (f (s.hub h))
def Sys.modTile (s : Sys) (t : Nat) (f : Tile → Tile) : Sys := s.setTile t (f (s.tile t))
def Sys.modLead (s : Sys) (f : Lead → Lead) : Sys := { s with lead := f s.lead }

/-- A port of a router, of a straight, of a tadpole router. -/
def Router.port (r : Router) (p : Nat) : MeshPort := NMap.get {} r.ports p
def Router.setPort (r : Router) (p : Nat) (v : MeshPort) : Router := { r with ports := NMap.put r.ports p v }
def Straight.port (s : Straight) (k : Nat) : StraightPort := NMap.get {} s.ports k
def Straight.setPort (s : Straight) (k : Nat) (v : StraightPort) : Straight := { s with ports := NMap.put s.ports k v }
def TRouter.port (r : TRouter) (p : Nat) : TPort := NMap.get {} r.ports p
def TRouter.setPort (r : TRouter) (p : Nat) (v : TPort) : TRouter := { r with ports := NMap.put r.ports p v }

/-- The local port of a router: 4 on a tile, 16 on a hub (R221). -/
def localPort (n : Nat) : Nat := if n < 256 then 4 else 16

/-- The straight and the port position of a tile on axis `a` (R37, R247). -/
def straightOf (t a : Nat) : Nat := if a = 0 then t / 16 else 16 + t % 16
def positionOf (t a : Nat) : Nat := if a = 0 then t % 16 else t / 16

/-- The local port always reads LINK 3; its downstream, the endpoint buffer, is always ON (R231, R245; log entry 27).
Status bits of routers and ports merged into a register's stored bits (R245, R246, R279, R281, R297, R298, R418). -/
def Sys.netReg (s : Sys) (t off v : Nat) : Nat :=
  if 0x6000 ≤ off && off < 0x60A0 && off % 32 = 0 then
    let p := (s.router t).port ((off - 0x6000) / 32)
    let hubPort := decide ((t % 16 = 0 ∧ (off - 0x6000) / 32 = 3) ∨ (t % 16 = 15 ∧ (off - 0x6000) / 32 = 1))
    if off = 0x6080 then 3 + 2 ^ 16 * 31
    else p.link + bitAt p.dead 2 + bitAt hubPort 3 + 2 ^ 8 * p.replay.length + 2 ^ 16 * p.onBits
  else if off = 0x60C0 then
    let r := s.router t
    let old := (s.replica t).old
    let n := (r.ports.map (fun p =>
      ((p.2.chans.map (fun c => (c.2.filter (fun h => h.pkt.epoch = old)).length)).foldl (· + ·) 0) +
        (p.2.replay.filter (fun l => l.pkt.epoch = old)).length)).foldl (· + ·) 0
    v + (if (s.replica t).draining then 2 ^ 20 * n else 0)
  else if 0x7000 ≤ off && off < 0x7080 then
    let a := (off - 0x7000) / 0x40
    let st := s.straight (straightOf t a)
    let k := positionOf t a
    let p := st.port k
    let j := off % 0x40
    if j = 0 then
      st.state + 4 * st.wg + bitAt p.fenced 6 + 2 ^ 8 * k + 2 ^ 16 * (96 - p.first.length) +
        2 ^ 23 * (96 - p.relayed.length)
    else if j = 0x18 then maskOf ((List.range 18).filter (fun i => (st.port i).absent))
    else if j = 0x1C then
      match p.latched with
      | some l => v + l + 32
      | none => v
    else v
  else if off = 0x7A00 then
    let r := s.router t
    let res := ((s.replica t).rgW1.map (fun w => bitsOf w.2 19 16)).foldl (· + ·) 0
    r.red.length + 2 ^ 6 * res
  else if 0x7600 ≤ off && off < 0x7A00 && off % 8 = 4 then
    let rep := s.replica t
    let w := NMap.get rgEmpty (if off < 0x7800 then rep.rgW0 else rep.rgW0Shd) ((off - 0x7600) % 0x200 / 8)
    putBits v 23 20 (if bitOf w 18 then ((s.router t).red.filter (fun r => r.group = bitsOf w 15 0)).length else 0)
  else if 0x8000 ≤ off && off < 0x8050 && off % 16 = 0 then
    let n := (off - 0x8000) / 16
    let p := (s.tad t).port n
    (if n = 4 then 3 else p.link) + bitAt p.dead 2 + bitAt (decide ((t % 16 = 0 ∧ n = 3) ∨ (t % 16 = 15 ∧ n = 1))) 3
  else if off = 0x8060 then v + bitAt (s.tad t).rgen 0 + bitAt (s.tad t).draining 1
  else if 0xC000 ≤ off && off < 0xC800 then (s.link t ((off - 0xC000) / 0x200)).reg t ((off - 0xC000) / 0x200) (off % 0x200) v
  else v

/-- Panel time as tile `t`'s mirror holds it (R296). -/
def Sys.mirror (s : Sys) (t : Nat) : Nat := (((s.now : Nat) : Int) + (s.tile t).mirror.offset).toNat

/-- Tile `t` at work. -/
def Sys.tx (s : Sys) (t : Nat) : TX :=
  { tile := s.tile t, rep := s.replica t, peers := s.lead.peers, ownPanel := s.boot.panelId
    meshOut := ((s.router t).port 4).wire.map (fun l => l.pkt)
    rowOut := ((s.straight (straightOf t 0)).port (positionOf t 0)).ownQ.map (fun f => f.pkt)
    colOut := ((s.straight (straightOf t 1)).port (positionOf t 1)).ownQ.map (fun f => f.pkt)
    phys := t, now := s.mirror t
    partTiles := fun p => (NMap.get {} s.lead.partitions p).tiles
    netReg := s.netReg t }

/-- A notice into a tile's or engine's notice queue: the newest is dropped where it is full (R289). -/
def Sys.queueNotice (s : Sys) (n : Nat) (urgent : Bool) (code payload : Nat) : Sys :=
  let r := s.tad n
  if r.notices.length ≥ 32 then
    let s := s.setTad n { r with lostFlag := true }
    if n < 256 then
      s.modTile n (fun t =>
        let v := NMap.get 0 t.regs 0x8064
        { t with regs := NMap.put t.regs 0x8064 (putBits v 15 0 (satAdd 16 (bitsOf v 15 0) 1)) })
    else s
  else
    let m : TMsg := { dst := 256 + s.lead.hub, src := n, type := 0x10, urgent := urgent, sub := code, payload := payload }
    s.setTad n { r with notices := r.notices ++ [m] }

/-- A message handed to an endpoint's own tadpole router. -/
def Sys.sendMsg (s : Sys) (n : Nat) (m : TMsg) : Sys :=
  let r := s.tad n
  let m := { m with src := n, rgen := r.rgen }
  s.setTad n (if m.urgent then { r with outUrgent := r.outUrgent ++ [m] } else { r with outNormal := r.outNormal ++ [m] })

/-- A packet handed to the local port of router `n`. -/
def Sys.toLocal (s : Sys) (n : Nat) (p : Packet) : Sys :=
  let r := s.router n
  let q := r.port (localPort n)
  s.setRouter n (r.setPort (localPort n) { q with wire := q.wire ++ [{ chan := p.vc, pkt := p }] })

/-- Events of a unit counted in the health mirror (R495). -/
def Sys.scored (s : Sys) (kind wher sub ev n : Nat) : Sys :=
  let k := 32 * (2 ^ 32 * kind + 2 ^ 16 * wher + sub) + ev
  let h := s.health
  { s with health := { h with counts := NMap.put h.counts k (NMap.get 0 h.counts k + n) } }

/-- One thing a tile puts on its networks. -/
def Sys.deliverOut (s : Sys) (t : Nat) (o : Out) : Sys :=
  match o with
  | .notice u c p => s.queueNotice t u c p
  | .packet p => s.toLocal t p
  | .message m => s.sendMsg t m
  | .frame a f =>
    let n := straightOf t a
    let st := s.straight n
    let p := st.port (positionOf t a)
    s.setStraight n (st.setPort (positionOf t a) { p with ownQ := p.ownQ ++ [f] })
  | .streamGo a =>
    let n := straightOf t a
    let st := s.straight n
    s.setStraight n (st.setPort (positionOf t a) { st.port (positionOf t a) with latched := none })
  | .scored kind sub ev n => s.scored kind t sub ev n
  | .frameEnd f =>
    s.sendMsg t { dst := 256 + s.lead.hub, type := 0x11, payload := s.mirror t % 2 ^ 48 + 2 ^ 48 * (f % 65536) }

/-- What tile `t` did, put back into the panel. -/
def Sys.putTX (s : Sys) (t : Nat) (x : TX) : Sys :=
  x.out.foldl (fun s o => s.deliverOut t o) (s.setTile t x.tile)

/-- Tile `t` does `f`; a number that names no tile does nothing. -/
def Sys.onTile (s : Sys) (t : Nat) (f : TX → TX) : Sys :=
  if t < 256 then s.putTX t (f (s.tx t)) else s

/-- Tile `t` does `f` and answers. -/
def Sys.askTile {α : Type} (s : Sys) (t : Nat) (f : TX → α × TX) : α × Sys :=
  let r := f (s.tx t)
  (r.1, s.putTX t r.2)

/-- A scored unit's number: KIND, WHERE, SUB (R378). -/
def unitKey (kind wher sub : Nat) : Nat := 2 ^ 32 * kind + 2 ^ 16 * wher + sub
/-- A unit's health entry. -/
def Sys.unit (s : Sys) (key : Nat) : Unit_ := NMap.get {} s.health.units key
def Sys.modUnit (s : Sys) (key : Nat) (f : Unit_ → Unit_) : Sys :=
  { s with health := { s.health with units := NMap.put s.health.units key (f (s.unit key)) } }
/-- The unit is shed, or being drained. -/
def Sys.unitOut (s : Sys) (key : Nat) : Bool := (s.unit key).shed.isSome || (s.unit key).draining.isSome

/-- A hub register's changeable bits. -/
def Hub.reg (h : Hub) (off : Nat) : Nat := NMap.get (regReset hubRows off) h.regs off
def Hub.setReg (h : Hub) (off v : Nat) : Hub := { h with regs := NMap.put h.regs off v }
/-- A saturating counter field of a hub register raised by `n`. -/
def Hub.bump (h : Hub) (off hi lo n : Nat) : Hub :=
  let v := h.reg off
  h.setReg off (putBits v hi lo (satAdd (hi + 1 - lo) (bitsOf v hi lo) n))

/-- An MSI-X message on a vector of hub `h`: sent, or pending while the vector is masked (R360). -/
def Sys.msix (s : Sys) (h v : Nat) : Sys :=
  let hub := s.hub h
  let e := NMap.get {} hub.msix v
  if hub.maskAll || e.masked then s.setHub h { hub with msix := NMap.put hub.msix v { e with pending := true } }
  else if hub.busMaster then { s with irqs := s.irqs ++ [(h, v)] }
  else s

/-- The unmasked bits of HUB_EVENT_STATUS. -/
def Hub.openEvents (h : Hub) : Nat :=
  let v := h.reg 0x104
  v - (v &&& h.reg 0x108)

/-- The event vector's message, where messages are enabled (R546). -/
def Sys.eventMsg (s : Sys) (h : Nat) : Sys :=
  let c := (s.hub h).reg 0x100
  if bitOf c 11 then s.msix h (bitsOf c 10 0) else s

/-- An event bit of hub `h` set; a message where it changes from 0 to 1 unmasked (R545, R546). -/
def Sys.event (s : Sys) (h bit : Nat) : Sys :=
  let hub := s.hub h
  let old := hub.reg 0x104
  let s' := s.setHub h (hub.setReg 0x104 (old ||| 2 ^ bit))
  if bitOf old bit || bitOf (hub.reg 0x108) bit then s' else s'.eventMsg h
/-- A panel-wide event bit set on both hubs. -/
def Sys.eventBoth (s : Sys) (bit : Nat) : Sys := (s.event 0 bit).event 1 bit

/-- A global log entry (R541, R542); ERROR and FAULT entries raise LOG_ERROR. -/
def Sys.logPart (s : Sys) (code sev kind wher sub part detail : Nat) : Sys :=
  let e : LogEntry :=
    { seq := s.lead.logNext, code := code, severity := sev, origin := s.lead.hub, time := s.now
      unit_ := kind + 2 ^ 16 * (wher % 2 ^ 16) + 2 ^ 32 * (sub % 2 ^ 16) + 2 ^ 48 * part, detail := detail % 2 ^ 64 }
  let s := s.modLead (fun l => { l with log := ringPush 4096 l.log e, logNext := (l.logNext + 1) % 2 ^ 32 })
  if sev ≥ 2 then s.eventBoth 2 else s
def Sys.log (s : Sys) (code sev kind wher sub detail : Nat) : Sys := s.logPart code sev kind wher sub 0 detail

/-- The physical tile of a logical tile, where the current epoch maps it. -/
def Sys.physOf (s : Sys) (n : Nat) : Option Nat := NMap.find s.lead.place n
/-- The physical tile of a tile-store, control-block or core-slot EID. -/
def Sys.tileOfEid (s : Sys) (e : Nat) : Option Nat :=
  if e < 0x0F00 then s.physOf (e / 16)
  else if 0x1000 ≤ e && e ≤ 0x10EF then s.physOf (e - 0x1000)
  else if 0x1100 ≤ e && e ≤ 0x11EF then s.physOf (e - 0x1100)
  else none
/-- The logical tile of such an EID. -/
def logicalOf (e : Nat) : Option Nat :=
  if e < 0x0F00 then some (e / 16)
  else if 0x1000 ≤ e && e ≤ 0x10EF then some (e - 0x1000)
  else if 0x1100 ≤ e && e ≤ 0x11EF then some (e - 0x1100)
  else none
/-- The physical tiles of a partition. -/
def Sys.partPhys (s : Sys) (p : Nat) : List Nat :=
  (setBits (NMap.get {} s.lead.partitions p).tiles 240).filterMap (fun n => s.physOf n)

/-- The panel offers a feature: its bit is in the feature level, once that is fixed (R1, R523). -/
def Sys.offers (s : Sys) (bit : Nat) : Bool := !s.boot.fixed || bitOf s.boot.feature bit

/-- A Silua peer proxy that may be named: the panel's own is invalid (R28). -/
def Sys.peerEid (s : Sys) (e : Nat) : Bool := decide (0x2000 ≤ e) && decide (e < 0x3000) && decide (e ≠ 0x2000 + s.boot.panelId)

/-- Host memory reads: none where a range fails (R365). -/
def Sys.hostRead (s : Sys) (a n : Nat) : Option Nat :=
  if s.hostBad.any (fun r => decide (r.1 < a + n) && decide (a < r.1 + r.2)) then none
  else some (Mem.readWide s.host a n)
/-- A hub's write to host memory. -/
def Sys.hostWrite (s : Sys) (a n v : Nat) : Sys := { s with host := Mem.write s.host a n v }

end Sys2Proof.Machine
end

