-- ==== Sys2Proof/Machine/MeshOps.lean ====
section
/-! DEFINITION. The mesh: receiving, routing, arbitration, the escape channel, link control words, link failure (chapter
"Mesh network"). -/

namespace Sys2Proof.Machine

/-- The router and port at the far end of port `p` of router `n` (R221): tiles by physical number, 256 the west hub, 257
the east hub. -/
def neighbour (n p : Nat) : Option (Nat × Nat) :=
  if n < 256 then
    if p = 0 then (if n / 16 = 0 then none else some (n - 16, 2))
    else if p = 1 then (if n % 16 = 15 then some (257, n / 16) else some (n + 1, 3))
    else if p = 2 then (if n / 16 = 15 then none else some (n + 16, 0))
    else if p = 3 then (if n % 16 = 0 then some (256, n / 16) else some (n - 1, 1))
    else none
  else if n = 256 then (if p < 16 then some (16 * p, 3) else none)
  else if n = 257 then (if p < 16 then some (16 * p + 15, 1) else none)
  else none

/-- The number of ports of a router. -/
def portCount (n : Nat) : Nat := localPort n + 1

/-- A tile register counter raised from outside the tile; hubs hold none of these registers. -/
def Sys.bumpTile (s : Sys) (t off hi lo n : Nat) : Sys :=
  if t < 256 then
    s.modTile t (fun x =>
      let v := NMap.get (regReset tileRows off) x.regs off
      { x with regs := NMap.put x.regs off (putBits v hi lo (satAdd (hi + 1 - lo) (bitsOf v hi lo) n)) })
  else s
/-- The changeable bits of a tile register, and the register set from outside the tile. -/
def Sys.tileReg (s : Sys) (t off : Nat) : Nat := NMap.get (regReset tileRows off) (s.tile t).regs off
def Sys.setTileReg (s : Sys) (t off v : Nat) : Sys := s.modTile t (fun x => { x with regs := NMap.put x.regs off v })

/-- A notice from router or engine `n`. -/
def Sys.noteAt (s : Sys) (n : Nat) (urgent : Bool) (code kind wher sub detail : Nat) : Sys :=
  s.queueNotice n urgent code (noticeWord kind wher sub detail)

/-- A discarded packet: counted, with a normal notice (R35, R225, R238, R240, R241). Causes 1 MALFORMED, 2 UNROUTABLE,
3 LINK_DOWN, 4 STALE_EPOCH. -/
def Sys.discard (s : Sys) (n : Nat) (p : Packet) (cause : Nat) : Sys :=
  let s := if cause = 1 then s.bumpTile n 0x60C4 23 16 1
    else if cause = 2 then s.bumpTile n 0x60C4 15 8 1
    else if cause = 3 then s.bumpTile n 0x60C4 31 24 1
    else s.bumpTile n 0x60C4 7 0 1
  s.noteAt n false ncPacketDiscard 0 p.src p.tag cause

/-- The combinations of R225. -/
def Packet.legal (p : Packet) : Bool :=
  let combo := match p.type with
    | 1 => p.vc = 1 || (p.vc = 2 && p.long)
    | 2 => p.vc = 1 && !p.long
    | 3 => p.vc = 0 && p.long
    | 4 => p.vc = 3 && p.long
    | 6 => p.vc = 0 && !p.long
    | 7 => p.vc = 0 && !p.long
    | _ => false
  combo && !p.reserved && (!p.ordered || p.vc = 1 || p.vc = 2)

/-- A packet's bytes, 64 or 576, byte 0 lowest, with the CRC field zero (R222–R224). -/
def Packet.image (p : Packet) : Nat :=
  let kind := p.type % 16 + 2 ^ 4 * (p.vc % 4) + 2 ^ 6 * bitNat p.long + 2 ^ 7 * bitNat p.reserved
  let flags := bitNat p.baton + 2 * bitNat p.poison + 2 ^ 2 * bitNat p.ordered + 2 ^ 3 * bitNat p.escape +
    2 ^ 4 * bitNat p.relay + 2 ^ 5 * bitNat p.down + 2 ^ 6 * bitNat p.ext
  let at_ (o v n : Nat) : Nat := v % 2 ^ (8 * n) * 2 ^ (8 * o)
  let head := at_ 0 p.dst 2 + at_ 2 p.src 2 + at_ 4 kind 1 + at_ 5 flags 1 + at_ 6 p.epoch 1 + at_ 7 p.hops 1 +
    at_ 8 p.tag 2 + at_ 10 p.window 1 + at_ 11 p.gen 1 + at_ 16 p.offset 4
  head +
    (if p.long then at_ 20 p.total 4 + at_ 24 p.group 4 + at_ 28 p.peer 2 + at_ 32 p.extHdr 24 + at_ 64 p.payload 512
     else if p.type = 6 || p.type = 7 then at_ 20 p.bytes 4 + at_ 24 p.status 1 + at_ 25 p.answers 1
     else at_ 20 p.misc 1 + at_ 32 p.payload 32)
/-- The packet with the CRC that its sender computes for the hop (R239). -/
def Packet.sealed (p : Packet) : Packet := { p with crc := crc32c p.image (if p.long then 576 else 64) }

/-- The translation and route banks that hold epoch `e` (R32, R242). -/
def Replica.bank (r : Replica) (e : Nat) : Option (NMap Nat × NMap Nat) :=
  if e = r.cur then some (r.ett, r.mesh)
  else if r.draining && e = r.old then some (r.ettShd, r.meshShd)
  else if !r.draining && r.shdValid && e = (r.cur + 1) % 256 then some (r.ettShd, r.meshShd)
  else none

/-- MIN of a route entry as port numbers, in the tie order of R233; the local port alone where it delivers. -/
def minPorts (n e : Nat) : List Nat :=
  if n < 256 then (if bitOf e 4 then [4] else setBits e 4)
  else if bitOf e 26 then [16] else setBits e 16
/-- The safe-route port of a route entry (R235, R544). -/
def safePort (n e : Nat) (down : Bool) : Option Nat :=
  if n < 256 then (if bitOf e 4 then some 4 else rtSafe e down)
  else if bitOf e 26 then some 16
  else if bitOf e 25 then some (if down then bitsOf e 24 21 else bitsOf e 19 16)
  else none
def upIsDown (n e : Nat) : Bool := if n < 256 then rtUpIsDown e else bitOf e 20
def routeReset (n : Nat) : Nat := if n < 256 then rtNone else 0

/-- The route entry of a packet at router `n`. -/
def Sys.routeOf (s : Sys) (n : Nat) (p : Packet) : Option Nat :=
  match (s.replica n).bank p.epoch with
  | none => none
  | some (ett, mesh) =>
    match routeIndex ett s.lead.peers s.boot.panelId p.dst with
    | none => none
    | some i => some (NMap.get (routeReset n) mesh i)

/-- A packet chooses among MIN (R226). -/
def Packet.adaptive (p : Packet) : Bool := (p.vc = 1 || p.vc = 2) && !p.ordered && !p.escape

/-- A port can carry packets: local, or up and not dead. -/
def Router.open (r : Router) (n p : Nat) : Bool :=
  p = localPort n || (!(r.port p).dead && (r.port p).link = 3)

/-- A channel's packets at a port. -/
def MeshPort.chan (p : MeshPort) (c : Nat) : List Held := NMap.get [] p.chans c
def MeshPort.setChan (p : MeshPort) (c : Nat) (l : List Held) : MeshPort := { p with chans := NMap.put p.chans c l }

/-- A packet accepted at input `p` of router `n`: checked, its epoch and route found, put in its channel (R225, R232,
R238, R242). -/
def Sys.arrive (s : Sys) (n p : Nat) (pkt : Packet) : Sys :=
  if !pkt.legal || pkt.hops = 255 then s.discard n pkt 1
  else if ((s.replica n).bank pkt.epoch).isNone then s.discard n pkt 4
  else
    let pkt := { pkt with hops := min 255 (pkt.hops + 1) }
    let put (out : Option Nat) : Sys :=
      let r := s.router n
      let q := r.port p
      let c := if pkt.escape then 4 else pkt.vc
      s.setRouter n (r.setPort p (q.setChan c (q.chan c ++ [{ pkt := pkt, out := out }])))
    if pkt.type = 4 then put none
    else
      match s.routeOf n pkt with
      | none => s.discard n pkt 2
      | some e =>
        if pkt.adaptive then
          if minPorts n e = [] && (safePort n e pkt.down).isNone then s.discard n pkt 2 else put none
        else
          match safePort n e pkt.down with
          | none => s.discard n pkt 2
          | some o => if o ≠ localPort n && ((s.router n).port o).dead then s.discard n pkt 2 else put (some o)

/-- New VC0, ordered and VC3 packets wait at the local port from COMMIT until RETIRE (R242). -/
def heldAtLocal (draining : Bool) (p : Packet) : Bool := draining && (p.vc = 0 || p.ordered || p.vc = 3)

/-- An error on a link, in the health mirror: a hub link counts for its tile, whichever end found it (R239, R378). -/
def Sys.scoreLink (s : Sys) (n p : Nat) : Sys :=
  if n < 256 then (if hubPort n p then s.scored ukHubLink n 0 evLinkError 1 else s.scored ukTileLink n p evLinkError 1)
  else
    match neighbour n p with
    | some (t, _) => s.scored ukHubLink t 0 evLinkError 1
    | none => s

/-- A CRC error at a neighbour port: the packet is discarded and replay asked for (R239, R245, R407). Log entry 37. -/
def Sys.crcError (s : Sys) (n p : Nat) : Sys :=
  let r := s.router n
  let q := r.port p
  let s := s.setRouter n (r.setPort p { q with wire := q.wire.drop 1, failing := true })
  let s := if n < 256 then
      let s := s.bumpTile n (0x6008 + 0x20 * p) 15 0 1
      let l := s.link n p
      s.setLink n p { l with bootCrc := l.bootCrc + 1 }
    else s
  s.scoreLink n p

/-- The local port of router `n` may inject the packet: its destination is valid and mapped, and a route leaves for it
(R238). A REDUCE packet follows its group's tree; one that the router discards is not refused. -/
def Sys.routable (s : Sys) (n : Nat) (p : Packet) : Bool :=
  p.type = 4 || !p.legal || ((s.replica n).bank p.epoch).isNone ||
  (match s.routeOf n p with
   | some e => !(minPorts n e).isEmpty || (safePort n e p.down).isSome
   | none => false)

/-- A packet refused at injection (R29, R238): counted, and a WRITE or READ_REQ answered with a NACK, in the requester's
own endpoint buffer, or over the mesh to the sender of a packet that a straight carried here. -/
def Sys.refuseAtLocal (s : Sys) (n : Nat) (p : Packet) (carried : Bool) : Sys :=
  let s := s.bumpTile n 0x60C8 15 0 1
  let nack := replyPacket p.dst p (if p.long || p.type = 2 then 512 else 8 * popCount p.misc 4) stInvalidField p.offset p.type
  if p.type = 1 || p.type = 2 then
    if carried then s.toLocal n nack else s.setRouter n { s.router n with eject := (s.router n).eject ++ [(0, nack)] }
  else s

/-- The router takes the next packet in flight toward port `p`, where its channel has a slot (R229, R230, R232, R239);
`bad` says that its CRC fails. On the local port, sequence number 1 marks a packet that a straight carried here, which
keeps its epoch (R251). Log entries 27, 37. -/
def Sys.routerReceive (s : Sys) (n p : Nat) (bad : Bool) : Sys :=
  let r := s.router n
  let q := r.port p
  if !r.alive then s
  else if p = localPort n then
    let rep := s.replica n
    let ready (l : LinkPkt) : Bool :=
      !(heldAtLocal rep.draining l.pkt && (l.seq ≠ 1 || l.pkt.epoch = rep.cur)) && decide ((q.chan l.pkt.vc).length < 14)
    match q.wire.findIdx? ready with
    | none => s
    | some i =>
      match q.wire[i]? with
      | none => s
      | some l =>
        let s := s.setRouter n (r.setPort p { q with wire := listDrop q.wire i })
        let pkt := { l.pkt with
          epoch := if l.seq = 1 then l.pkt.epoch else rep.cur, escape := false, down := false
          hops := if l.seq = 1 then l.pkt.hops else 0 }
        if s.routable n pkt then s.arrive n p pkt else s.refuseAtLocal n pkt (decide (l.seq = 1))
  else
    match q.wire with
    | [] => s
    | l :: rest =>
      if q.link ≠ 3 then s
      else if l.seq ≠ q.recvSeq then s.setRouter n (r.setPort p { q with wire := rest })
      else if bad then s.crcError n p
      else if (q.chan l.chan).length ≥ 16 then s
      else
        let q := { q with wire := rest, recvSeq := (q.recvSeq + 1) % 256, failing := false }
        (s.setRouter n (r.setPort p q)).arrive n p l.pkt

/-- The number of packets assigned to output `o` (R233). -/
def Router.load (r : Router) (o : Nat) : Nat :=
  (r.ports.map (fun p => (p.2.chans.map (fun c => (c.2.filter (fun h => h.out = some o)).length)).foldl (· + ·) 0)).foldl
    (· + ·) 0

/-- The downstream channel is ON and its link not dead (R233). -/
def Router.shownOn (r : Router) (n o c : Nat) : Bool := r.open n o && (o = localPort n || bitOf (r.port o).onBits c)
/-- The downstream channel can take a packet now: with its replay buffer full the port sends nothing (R239). -/
def Router.on (r : Router) (n o c : Nat) : Bool :=
  r.shownOn n o c && (o = localPort n || decide ((r.port o).replay.length < 32))

/-- The port that an adaptive packet chooses: among the eligible ports of MIN, the one of lowest load (R233). -/
def Router.choose (r : Router) (n e c : Nat) : Option Nat :=
  let ports := (minPorts n e).filter (fun o => r.shownOn n o c)
  ports.foldl (fun (a : Option Nat) o =>
    match a with
    | none => some o
    | some b => if r.load o < r.load b then some o else some b) none

/-- The heads of the adaptive channels make their choices; with no eligible port a head stays assigned to its latest one
(R233). -/
def Sys.refreshChoices (s : Sys) (n : Nat) : Sys :=
  (List.range (portCount n)).foldl (fun s p =>
    [1, 2].foldl (fun s c =>
      let r := s.router n
      let q := r.port p
      match q.chan c with
      | h :: rest =>
        if h.pkt.adaptive then
          match s.routeOf n h.pkt with
          | some e =>
            match r.choose n e c with
            | some o => s.setRouter n (r.setPort p (q.setChan c ({ h with out := some o } :: rest)))
            | none => s
          | none => s
        else s
      | [] => s) s) s

/-- The input heads that want output `o` on downstream channel `c`: input port, input channel and packet. -/
def Sys.heads (s : Sys) (n o c : Nat) : List (Nat × Nat × Held) :=
  let r := s.router n
  let rep := s.replica n
  (List.range (portCount n)).filterMap (fun p =>
    let q := r.port p
    let direct (k : Nat) : Option (Nat × Nat × Held) :=
      match q.chan k with
      | h :: _ => if h.out = some o then some (p, k, h) else none
      | [] => none
    if c = 4 then
      match direct 4 with
      | some x => some x
      | none =>
        [1, 2].findSome? (fun k =>
          match q.chan k with
          | h :: _ =>
            if h.pkt.adaptive && decide (h.wait ≥ 32) && !(rep.draining && h.pkt.epoch = rep.cur) then
              match s.routeOf n h.pkt with
              | some e => if safePort n e h.pkt.down = some o && o ≠ localPort n then some (p, k, h) else none
              | none => none
            else none
          | [] => none)
    else if c = 3 then
      match direct 5 with
      | some x => some x
      | none => direct 3
    else direct c)

/-- The first of the heads after the input last served (R227). -/
def afterLast (last : Nat) (l : List (Nat × Nat × Held)) : Option (Nat × Nat × Held) :=
  match l.find? (fun h => decide (last < h.1)) with
  | some h => some h
  | none => l.head?

/-- The channel granted at an output, with the arbiter's next state: the procedure of R227. `e c` says that channel `c` is
eligible; `vc0` counts the VC0 packets of the last 7 cycles. -/
def grantChannel (e : Nat → Bool) (vc0 : Nat) (escDue turnVc2 : Bool) : Option Nat × Bool × Bool :=
  if e 0 && decide (vc0 < 2) then (some 0, escDue, turnVc2)
  else if escDue && e 4 then (some 4, false, turnVc2)
  else
    let order := if turnVc2 then [2, 1, 3, 4] else [1, 3, 2, 4]
    (order.find? e, escDue, !turnVc2)

/-- A packet leaves a router at its local port: into the endpoint buffer, or, where it goes to an optical engine from a
tile, onto the column straight as a carried frame (R231, R251, R421); the local port counts it as sent (R245). Log entry
38. -/
def Sys.ejectAt (s : Sys) (n c : Nat) (p : Packet) : Sys :=
  let s := s.bumpTile n 0x6084 31 0 1
  let toEngine : Option Nat :=
    match (s.replica n).bank p.epoch with
    | some (ett, _) =>
      match routeIndex ett s.lead.peers s.boot.panelId p.dst with
      | some i => if 258 ≤ i && n < 256 then some (i - 258) else none
      | none => none
    | none => none
  match toEngine with
  | some e =>
    let k := straightOf n 1
    let st := s.straight k
    let q := st.port (positionOf n 1)
    let f : Frame := { pkt := p, carried := true, ctarget := if e < 4 then 16 else 17, origin := positionOf n 1 }
    s.setStraight k (st.setPort (positionOf n 1) { q with ownQ := q.ownQ ++ [f] })
  | none =>
    let r := s.router n
    s.setRouter n { r with eject := r.eject ++ [(c, p)] }

/-- The worst blocking field of a channel in TILE_MESH_WAIT (R246). Log entry 36. -/
def waitField (c : Nat) : Nat := if c = 0 then 0 else if c = 1 then 8 else if c = 3 then 16 else 24

/-- The packet sent over output `o` to the neighbour, on channel `c` (R227, R239). -/
def Sys.linkSend (s : Sys) (n o c : Nat) (pkt : Packet) (entering : Bool) : Sys :=
  match neighbour n o with
  | none => s
  | some (m, mp) =>
    let r := s.router n
    let qo := r.port o
    let l : LinkPkt := { seq := qo.sendSeq, chan := c, pkt := pkt.sealed }
    let s := s.setRouter n (r.setPort o
      { qo with sendSeq := (qo.sendSeq + 1) % 256, replay := qo.replay ++ [l] })
    let rm := s.router m
    let qm := rm.port mp
    let s := s.setRouter m (rm.setPort mp { qm with wire := qm.wire ++ [l] })
    let s := s.bumpTile n (0x6004 + 0x20 * o) 31 0 1
    if entering then s.bumpTile n (0x6010 + 0x20 * o) 15 0 1 else s

/-- The packet cannot be trusted: a word of bytes 0–63 is uncorrectable (R241). A short packet has no others. -/
def SlotEcc.lost (e : SlotEcc) (long : Bool) : Bool := decide (0 < e.header) || (!long && decide (0 < e.payload))
/-- The slot words that a check corrected or could not correct, counted (R241, R246). -/
def Sys.countEcc (s : Sys) (n : Nat) (e : SlotEcc) : Sys :=
  if e = {} then s else (s.bumpTile n 0x60D0 15 0 e.corrected).bumpTile n 0x60D0 31 16 (e.payload + e.header)

/-- The packet of a granted head leaves through output `o` on channel `c`, or is dropped where its header is lost
(R233, R241). -/
def Sys.passOn (s : Sys) (n o c : Nat) (ecc : SlotEcc) (h : Packet) : Sys :=
  if ecc.lost h.long then s.discard n h 1
  else
    let pkt := if 0 < ecc.payload then { h with poison := true } else h
    let entering := decide (c = 4) && !pkt.escape
    let safe := decide (c = 4) || !pkt.adaptive
    let pkt := if safe && pkt.type ≠ 4 then
        match s.routeOf n pkt with
        | some e => { pkt with escape := decide (c = 4), down := pkt.down || upIsDown n e }
        | none => pkt
      else pkt
    if o = localPort n then s.ejectAt n c pkt else s.linkSend n o c pkt entering

/-- Heads held back by a grant to another channel count one more blocked cycle (R246). -/
def Sys.heldBack (s : Sys) (n : Nat) (l : List (Nat × Nat × Held)) : Sys :=
  l.foldl (fun s (x : Nat × Nat × Held) =>
    let r := s.router n
    let qi := r.port x.1
    s.setRouter n (r.setPort x.1 (qi.setChan x.2.1
      (listModify (qi.chan x.2.1) 0 (fun h => { h with blocked := h.blocked + 1 }))))) s

/-- Heads that wait for output `o` while its channel shows OFF: assigned to it, or adaptive, not yet assigned and free to
take it (R233, R245). -/
def Sys.waitsOff (s : Sys) (n o : Nat) : Bool :=
  let r := s.router n
  let q := r.port o
  decide (o ≠ localPort n) && (List.range (portCount n)).any (fun p => [0, 1, 2, 3, 4, 5].any (fun k =>
    match (r.port p).chan k with
    | h :: _ => !bitOf q.onBits (if k = 5 then 3 else k) && (h.out = some o ||
        (h.out.isNone && h.pkt.adaptive && k ≠ 4 && (s.routeOf n h.pkt).any (fun e => (minPorts n e).contains o)))
    | [] => false))

/-- The worst blocking of a channel recorded as its packet is granted (R246); channel 5 is VC3's. -/
def Sys.recordWait (s : Sys) (n k : Nat) (h : Held) : Sys :=
  if n < 256 && k ≠ 4 then
    let v := s.tileReg n 0x60CC
    let f := waitField (if k = 5 then 3 else k)
    s.setTileReg n 0x60CC (putBits v (f + 7) f (max (bitsOf v (f + 7) f) (min 255 h.blocked)))
  else s

/-- One network cycle of output `o` of router `n` (R227, R233–R235, R239); `ecc` is what the check bits of the packet's
slot words find (R241). A channel's next packet counts a cycle granted to another channel, but for VC0's own limit
(R228). Log entry 36. -/
def Sys.routerForward (s : Sys) (n o : Nat) (ecc : SlotEcc) : Sys :=
  if !(s.router n).alive || !(s.router n).open n o then s
  else
    let s := s.refreshChoices n
    let r := s.router n
    let q := r.port o
    let nc := q.ncCount + 1
    let escDue := if q.ncCount % 8 = 0 then true else q.escDue
    let recent := q.vc0Recent.filter (fun x => decide (q.ncCount < x + 7))
    let heads (c : Nat) := s.heads n o c
    let elig (c : Nat) : Bool := !(heads c).isEmpty && r.on n o c
    let (g, escDue, turn) := grantChannel elig recent.length escDue q.turnVc2
    let off := s.waitsOff n o
    let q := { q with ncCount := nc, escDue := escDue, turnVc2 := turn
                      vc0Recent := if g = some 0 then recent ++ [nc] else recent }
    let s := s.setRouter n (r.setPort o q)
    let s := if off then s.bumpTile n (0x600C + 0x20 * o) 31 0 1 else s
    match g with
    | none => s
    | some c =>
      match afterLast (NMap.get 0 q.rr c) (heads c) with
      | none => s
      | some (p, k, h) =>
        -- the next packets of other channels, held back by this grant
        let others := [0, 1, 2, 3].filter (fun d => d ≠ c && elig d && !(d = 0 && decide (2 ≤ recent.length)))
        let s := s.heldBack n (others.filterMap (fun d => afterLast (NMap.get 0 q.rr d) (heads d)))
        let r := s.router n
        let qi := r.port p
        let r := r.setPort p (qi.setChan k ((qi.chan k).drop 1))
        let s := s.setRouter n (r.setPort o { r.port o with rr := NMap.put (r.port o).rr c p })
        ((s.recordWait n k h).countEcc n ecc).passOn n o c ecc h.pkt

/-- An adaptive head packet has waited `nc` more cycles (R234). -/
def Sys.escapeEntry (s : Sys) (n p c nc : Nat) : Sys :=
  let r := s.router n
  let q := r.port p
  match q.chan c with
  | h :: rest =>
    if (c = 1 || c = 2) && h.pkt.adaptive then s.setRouter n (r.setPort p (q.setChan c ({ h with wait := h.wait + nc } :: rest)))
    else s
  | [] => s

/-- The ON bits that a port reports for its own channels (R229). -/
def MeshPort.onWord (q : MeshPort) : Nat :=
  maskOf ((List.range 5).filter (fun c => decide ((q.chan c).length < 4)))

/-- Times within the last `w` nanoseconds. -/
def within (now w : Nat) (l : List Nat) : List Nat := l.filter (fun x => decide (now < x + w))

/-- A link control word arrives at port `p` of router `n` (R229, R239, R406, R407); `good` says that its WCRC checks,
`begins` that a packet begins in that cycle. The word carries what its sender holds. -/
def Sys.controlWord (s : Sys) (n p : Nat) (good begins : Bool) : Sys :=
  match neighbour n p with
  | none => s
  | some (m, mp) =>
    let r := s.router n
    let q := r.port p
    if q.link ≠ 3 || !r.alive then s
    else if !good then
      let s := s.setRouter n (r.setPort p { q with onBits := 0 })
      let s := if n < 256 then
          let l := s.link n p
          (s.setLink n p { l with bootCtrl := l.bootCtrl + 1, ctrlTimes := within s.now 1000000 l.ctrlTimes ++ [s.now] }).bumpTile
            n (0xC018 + 0x200 * p) 15 0 1
        else s
      if begins && !q.wire.isEmpty then s.crcError n p else s
    else
      let qm := (s.router m).port mp
      let q := { q with onBits := qm.onWord, replay := q.replay.dropWhile (fun l => l.seq ≠ qm.recvSeq)
                        replayRuns := q.replayRuns.filter (fun x => x.1 = qm.recvSeq) }
      let s := s.setRouter n (r.setPort p q)
      if qm.failing && !q.replay.isEmpty && !(qm.wire.any (fun l => l.seq = qm.recvSeq)) then
        let q := { q with replayRuns := NMap.put [] qm.recvSeq (NMap.get 0 q.replayRuns qm.recvSeq + 1) }
        let s := s.setRouter n ((s.router n).setPort p q)
        let rm := s.router m
        let s := s.setRouter m (rm.setPort mp { rm.port mp with wire := (rm.port mp).wire ++ q.replay })
        if n < 256 then
          let l := s.link n p
          let s := s.setLink n p
            { l with bootReplays := l.bootReplays + 1, replayTimes := within s.now 1000000 l.replayTimes ++ [s.now] }
          (s.bumpTile n (0x6008 + 0x20 * p) 31 16 1).scoreLink n p
        else s.scoreLink n p
      else s

/-- One end of a failed link: the port is DEAD, what it sent and was not acknowledged is discarded, deterministic packets
that wait for it are discarded, adaptive ones may escape at once (R240). -/
def Sys.linkEndFails (s : Sys) (n p : Nat) : Sys :=
  let r := s.router n
  let q := r.port p
  if q.dead then s
  else
    let lost := q.replay
    let open_ (h : Held) : Bool := h.pkt.adaptive && (h.out = some p ||
      (h.out.isNone && (s.routeOf n h.pkt).any (fun e => (minPorts n e).contains p)))
    let s := s.setRouter n (r.setPort p { q with dead := true, link := 1, replay := [], wire := [], onBits := 0 })
    let s := lost.foldl (fun s l => s.discard n l.pkt 3) s
    let s := (List.range (portCount n)).foldl (fun s i =>
      (List.range 6).foldl (fun s c =>
        let r := s.router n
        let qi := r.port i
        let gone := (qi.chan c).filter (fun h => h.out = some p && !h.pkt.adaptive)
        let kept := ((qi.chan c).filter (fun h => !(h.out = some p && !h.pkt.adaptive))).map (fun h =>
          if open_ h then { h with out := none, wait := max 32 h.wait } else h)
        if (qi.chan c).isEmpty then s
        else
          let s := s.setRouter n (r.setPort i (qi.setChan c kept))
          gone.foldl (fun s h => s.discard n h.pkt 2) s) s) s
    if n < 256 then
      let l := s.link n p
      let s := s.setLink n p { l with phase := 0, rxWidth := 0, txWidth := 0 }
      if hubPort n p then s.noteAt n true ncLinkDown ukHubLink n 0 0 else s.noteAt n true ncLinkDown ukTileLink n p 0
    else s

/-- A link fails or is taken down: both ends at once (R240, R416). -/
def Sys.linkFail (s : Sys) (n p : Nat) : Sys :=
  match neighbour n p with
  | none => s
  | some (m, mp) => (s.linkEndFails n p).linkEndFails m mp

/-- A router dies: to its neighbours it is failed links (R240). -/
def Sys.killRouter (s : Sys) (n : Nat) : Sys :=
  (List.range (localPort n)).foldl (fun (s : Sys) p =>
    match neighbour n p with
    | some (m, mp) => if (s.router m).alive && ((s.router m).port mp).link = 3 then s.linkEndFails m mp else s
    | none => s) (s.setRouter n { s.router n with alive := false })

/-- Old-epoch packets held by a router: channel slots and replay buffers (R242). -/
def Sys.oldCount (s : Sys) (n : Nat) : Nat :=
  let old := (s.replica n).old
  ((s.router n).ports.map (fun p =>
    ((p.2.chans.map (fun c => (c.2.filter (fun h => h.pkt.epoch = old)).length)).foldl (· + ·) 0) +
      (p.2.replay.filter (fun l => l.pkt.epoch = old)).length)).foldl (· + ·) 0

end Sys2Proof.Machine
end

