-- ==== Sys2Proof/Machine/ReduceOps.lean ====
section
/-! DEFINITION. Reductions inside routers (R272–R278). -/

namespace Sys2Proof.Machine

/-- The descriptor words of a reduction group in the bank of epoch `e` (R242, R277). Log entry 41. -/
def Replica.rgroup (r : Replica) (e g : Nat) : Option (Nat × Nat × Nat) :=
  let (w0, w1) := if r.draining && e = r.old then (r.rgW0Shd, r.rgW1Shd)
    else if !r.draining && r.shdValid && e ≠ r.cur then (r.rgW0Shd, r.rgW1Shd)
    else (r.rgW0, r.rgW1)
  (List.range 64).findSome? (fun n =>
    let a := NMap.get 0 w0 n
    if bitOf a 18 && decide (bitsOf a 15 0 = g) then some (n, a, NMap.get 0 w1 n) else none)

def rgOp (w0 : Nat) : Nat := bitsOf w0 17 16
def rgRootBit (w0 : Nat) : Bool := bitOf w0 19
def rgOut (w0 : Nat) : Nat := bitsOf w0 22 20
def rgInMask (w0 : Nat) : Nat := bitsOf w0 26 23
def rgLocal (w0 : Nat) : Nat := bitsOf w0 31 27
def rgReserve (w1 : Nat) : Nat := bitsOf w1 19 16

/-- The group and sequence of a REDUCE packet (R223). -/
def Packet.rgroup (p : Packet) : Nat := bitsOf p.group 15 0
def Packet.rseq (p : Packet) : Nat := bitsOf p.group 31 16

/-- A contribution can be taken: its sequence has an open slot, or its group a free reserved one, or it is for no group
here (R275). -/
def Sys.canTake (s : Sys) (n : Nat) (p : Packet) : Bool :=
  let r := s.router n
  match (s.replica n).rgroup p.epoch p.rgroup with
  | none => true
  | some (_, _, w1) =>
    r.red.any (fun d => d.group = p.rgroup && d.seq = p.rseq) ||
      decide ((r.red.filter (fun d => d.group = p.rgroup)).length < rgReserve w1)

/-- The index of the oldest packet of a VC3 input that can be taken, packets of one group in arrival order (R275). -/
def Sys.takeIndex (s : Sys) (n : Nat) (l : List Held) : Option Nat :=
  (List.range l.length).find? (fun i =>
    match l[i]? with
    | some h => s.canTake n h.pkt && !((l.take i).any (fun o => o.pkt.rgroup = h.pkt.rgroup))
    | none => false)

/-- A contribution taken from VC3 input `p` of router `n`: combined, and the full sequence sent on or delivered (R275);
`ecc` is what the check bits of its slot words find (R241). Log entry 41. -/
def Sys.reducePacket (s : Sys) (n p : Nat) (ecc : SlotEcc) : Sys :=
  let r := s.router n
  let q := r.port p
  match s.takeIndex n (q.chan 3) with
  | none => s
  | some i =>
    match (q.chan 3)[i]? with
    | none => s
    | some h =>
      let pkt := if 0 < ecc.payload then { h.pkt with poison := true } else h.pkt
      let r := r.setPort p (q.setChan 3 (listDrop (q.chan 3) i))
      let s := (s.setRouter n r).countEcc n ecc
      if ecc.lost pkt.long then s.discard n pkt 1
      else
      match (s.replica n).rgroup pkt.epoch pkt.rgroup with
      | none => s.discard n pkt 2
      | some (_, w0, _) =>
        let same (d : RedSlot) : Bool := d.group = pkt.rgroup && d.seq = pkt.rseq
        let local_ := decide (p = localPort n)
        let old := r.red.find? same
        let d := old.getD { group := pkt.rgroup, seq := pkt.rseq, pkt := pkt }
        let excess := if local_ then decide (d.local_ ≥ rgLocal w0) else bitOf d.ports p || !bitOf (rgInMask w0) p
        if excess then
          (s.bumpTile n 0x7A04 31 16 1).noteAt n false ncReduceExcess 0 pkt.src pkt.tag 0
        else
          let lanes := lanesOfRow pkt.payload
          let d := { d with
            lanes := if old.isNone then lanes else (d.lanes.zip lanes).map (fun x => Lane.combine (rgOp w0) x.1 x.2)
            poison := d.poison || pkt.poison
            ports := if local_ then d.ports else d.ports ||| 2 ^ p
            local_ := if local_ then d.local_ + 1 else d.local_ }
          let full := decide (d.ports = rgInMask w0) && decide (d.local_ = rgLocal w0)
          let rest := r.red.filter (fun x => !same x)
          if !full then s.setRouter n { r with red := rest ++ [d] }
          else
            let s := s.setRouter n { r with red := rest }
            let out : Packet := { d.pkt with
              src := (s.tx n).storeEid, poison := d.poison, payload := rowOfLanes d.lanes, escape := false, down := false
              epoch := pkt.epoch, hops := 0 }
            if rgRootBit w0 then
              if out.dst ≥ 0x2000 then s.ejectAt n 3 out
              else (s.bumpTile n 0x6084 31 0 1).onTile n (fun x => x.rootDeliver out)
            else
              let r := s.router n
              let l := r.port (localPort n)
              let o := rgOut w0
              if (r.port o).dead then s.discard n out 2
              else s.setRouter n (r.setPort (localPort n) (l.setChan 5 (l.chan 5 ++ [{ pkt := out, out := some o }])))

/-- A VC3 input head has waited `nc` more cycles for a slot; at 4,096 it is reported (R276). -/
def Sys.reduceStall (s : Sys) (n p nc : Nat) : Sys :=
  let r := s.router n
  let q := r.port p
  match q.chan 3 with
  | h :: rest =>
    if s.canTake n h.pkt then s
    else
      let s := s.setRouter n (r.setPort p (q.setChan 3 ({ h with wait := h.wait + nc } :: rest)))
      if h.wait < 4096 && h.wait + nc ≥ 4096 then
        (s.bumpTile n 0x7A08 15 0 1).noteAt n true ncReduceStall 0 h.pkt.src h.pkt.tag 0
      else s
  | [] => s

/-- The open slots of the named groups discarded (R277). -/
def Sys.purgeGroups (s : Sys) (n : Nat) (groups : List Nat) : Sys :=
  let r := s.router n
  let gone := (r.red.filter (fun d => groups.contains d.group)).length
  (s.setRouter n { r with red := r.red.filter (fun d => !groups.contains d.group) }).bumpTile n 0x7A04 15 0 gone

end Sys2Proof.Machine
end

