-- ==== Sys2Proof/Machine/StraightOps.lean ====
section
/-! DEFINITION. The straights: launching, landing, status slots, retransmission, relays, carried frames, STREAM delivery
(R247–R268). -/

namespace Sys2Proof.Machine

/-- The tile at port position `k` of straight `n`, and its axis there (R37): none for a hub or an engine. -/
def portTile (n k : Nat) : Option Nat := if k < 16 then some (if n < 16 then 16 * n + k else 16 * k + (n - 16)) else none
def axisOf (n : Nat) : Nat := if n < 16 then 0 else 1
/-- The tadpole address of the tile, hub or engine at a port (R37, R282). -/
def portNode (n k : Nat) : Nat :=
  match portTile n k with
  | some t => t
  | none => if n < 16 then 240 + k else 258 + (if k = 16 then 0 else 4) + (n - 16) / 4

/-- A counter of the tile's straight port registers (R279). -/
def Sys.bumpStraight (s : Sys) (n k off hi lo m : Nat) : Sys :=
  match portTile n k with
  | some t => s.bumpTile t (0x7000 + 0x40 * axisOf n + off) hi lo m
  | none => s

/-- An event of a straight in the health mirror: WHERE its number 0–15, SUB its axis (R378). -/
def Sys.scoreStraight (s : Sys) (n ev : Nat) : Sys := s.scored ukStraight (n % 16) (axisOf n) ev 1

/-- The ports a frame is addressed to (R250, R255, R259). -/
def Frame.targets (f : Frame) : List Nat :=
  if f.retry then [f.retryTo] else if f.carried then [f.ctarget] else setBits (bitsOf f.pkt.group 17 0) 18
/-- Port `k` takes the frame (R250). -/
def Frame.forPort (f : Frame) (k : Nat) : Bool :=
  if f.carried then decide (f.ctarget = k) else bitOf (bitsOf f.pkt.group 17 0) k

/-- Every target showed ON for the pool the frame enters; absent ports are ignored (R255). -/
def Straight.targetsOn (st : Straight) (f : Frame) : Bool :=
  f.targets.all (fun k =>
    let p := st.port k
    p.absent || (p.heard && (if f.forwarded then p.shownRelayed else p.shownFirst)))

/-- A frame put on the straight by port `k`; it flies to every other port that is not absent (R248, R257, R258). -/
def Sys.fly (s : Sys) (n k : Nat) (f : Frame) : Sys :=
  let st := s.straight n
  let f := { f with
    sender := k, pending := (List.range 18).filter (fun i => i ≠ k && !(st.port i).absent), deliver := false, forward := false
    old := false }
  s.setStraight n { st with air := st.air ++ [f] }

/-- A first launch: the next SSEQ, a place in the replay buffer, the count of frames sent (R249, R258, R279). -/
def Sys.launch (s : Sys) (n k : Nat) (f : Frame) : Sys :=
  let st := s.straight n
  let p := st.port k
  let f := { f with sseq := p.sseq, tries := [], retry := false, retryTo := 0, sender := k }
  let p := { p with sseq := (p.sseq + 1) % 256, replay := ringPush 8 p.replay f }
  ((s.setStraight n (st.setPort k p)).fly n k f).bumpStraight n k 0x04 31 0 1

/-- The straight's ports may launch (R257, R261). -/
def Straight.up (st : Straight) : Bool := st.state = 3

/-- The oldest retransmission asked of port `k` can go (R255). -/
def Straight.resendReady (st : Straight) (k : Nat) : Bool :=
  match (st.port k).resend with
  | f :: _ => st.targetsOn f
  | [] => false

/-- The oldest retransmission asked of port `k` (R259); a fenced port launches nothing (R268). -/
def Sys.retransmission (s : Sys) (n k : Nat) : Sys :=
  let st := s.straight n
  let p := st.port k
  match p.resend with
  | f :: rest =>
    if st.up && !p.fenced && st.targetsOn f then
      ((s.setStraight n (st.setPort k { p with resend := rest })).fly n k f).bumpStraight n k 0x0C 31 16 1
    else s
  | [] => s

/-- The frame a relay sends on its tile's other straight (R249, R264). -/
def relayFrame (rep : Replica) (n : Nat) (f : Frame) (t : Nat) : Frame :=
  let a := axisOf n
  let e := NMap.get 0 rep.relay (72 * a + 4 * f.origin + f.rset)
  let other := 1 - a
  let num := if other = 0 then t / 16 else t % 16
  { f with
    forwarded := true, retry := false, retryTo := 0, forward := false, deliver := false
    pkt := { f.pkt with group := bitsOf e 17 0 + other * 2 ^ 18 + num * 2 ^ 19 } }

/-- A pool without the frames that nothing keeps any more (R252). -/
def keepPool (l : List Frame) : List Frame := l.filter (fun f => f.deliver || f.forward)

/-- The tile at port `k` of straight `n` forwards the oldest frame of its FIRST pool that is still to forward (R264). -/
def Sys.relayForward (s : Sys) (n k : Nat) : Sys :=
  match portTile n k with
  | none => s
  | some t =>
    let st := s.straight n
    let p := st.port k
    match p.first.findIdx? (fun f => f.forward) with
    | none => s
    | some i =>
      match p.first[i]? with
      | none => s
      | some f =>
        let g := relayFrame (s.replica t) n f t
        let m := straightOf t (1 - axisOf n)
        let j := positionOf t (1 - axisOf n)
        let sm := s.straight m
        let ok := sm.up && !p.fenced && !sm.resendReady j && sm.targetsOn g
        if !ok then s
        else
          let p := { p with first := keepPool (listModify p.first i (fun f => { f with forward := false })) }
          (s.setStraight n (st.setPort k p)).launch m j g

/-- Who asks for a frame's launch: the store engine of its sender's slot, or the carried frames together (R255). -/
def Frame.requester (f : Frame) : Nat := if f.carried then 16 else f.pkt.src % 16
/-- The own frame granted next: round-robin over the requesters, among those whose oldest frame can go (R255). -/
def Straight.ownPick (st : Straight) (k : Nat) : Option (Nat × Frame) :=
  let p := st.port k
  ((List.range 17).map (fun i => (p.ownRR + 1 + i) % 17)).findSome? (fun r =>
    match p.ownQ.findIdx? (fun f => f.requester = r) with
    | none => none
    | some i =>
      match p.ownQ[i]? with
      | none => none
      | some f => if st.targetsOn f then some (i, f) else none)

/-- The time that a port's ready frame has waited on OFF pools, counted up to now; it waits on where `more` (R279). -/
def Sys.offTime (s : Sys) (n k : Nat) (more : Bool) : Sys :=
  let st := s.straight n
  let p := st.port k
  let s := s.setStraight n (st.setPort k { p with offSince := if more then some s.now else none })
  match p.offSince with
  | some t => s.bumpStraight n k 0x14 31 0 (s.now - t)
  | none => s

/-- A port grants and launches a frame: retransmissions first, then forwarded frames, then its own (R255); a fenced port
launches nothing (R268). Log entry 36. -/
def Sys.frameLaunch (s : Sys) (n k : Nat) : Sys :=
  let st := s.straight n
  let p := st.port k
  let from_ := match portTile n k with
    | some t =>
      let m := straightOf t (1 - axisOf n)
      let j := positionOf t (1 - axisOf n)
      if ((s.straight m).port j).first.any (fun f => f.forward) then some (m, j) else none
    | none => none
  if !st.up || p.fenced then s
  else if st.resendReady k then (s.retransmission n k).offTime n k false
  else
    let relayed := match from_ with
      | some (m, j) =>
        let s' := s.relayForward m j
        if (s'.straight n).air.length > st.air.length then some s' else none
      | none => none
    match relayed with
    | some s' => s'.offTime n k false
    | none =>
      match st.ownPick k with
      | some (i, f) =>
        ((s.setStraight n (st.setPort k { p with ownQ := listDrop p.ownQ i, ownRR := f.requester })).launch n k f).offTime n k false
      | none => if p.resend.isEmpty && from_.isNone && p.ownQ.isEmpty then s else s.offTime n k true

/-- Removes port `k` from the ports a frame in flight has still to reach. -/
def Straight.landed (st : Straight) (i k : Nat) : Straight :=
  let air := listModify st.air i (fun f => { f with pending := f.pending.filter (fun j => j ≠ k) })
  { st with air := air.filter (fun f => !f.pending.isEmpty) }

/-- The port's pools hold frames of `x`, a sender whose latch has been cleared (R266). -/
def StraightPort.draining (p : StraightPort) (x : Nat) : Bool := (p.first ++ p.relayed).any (fun f => f.old && f.sender = x)

/-- A frame lost at a port: counted, with an urgent notice (R259, R260); for the latched sender of a STREAM, one poisoned
row takes its place (R265). Log entry 35. -/
def Sys.frameLost (s : Sys) (n k : Nat) (f : Frame) : Sys :=
  let st := s.straight n
  let p := st.port k
  let p := { p with gaps := p.gaps.filter (fun g => g ≠ (f.sender, f.sseq)) }
  let drain := p.draining f.sender
  let row : Frame := { f with
    stream := true, deliver := true, forward := false, pending := [], old := drain
    pkt := { f.pkt with poison := true, payload := 0 } }
  let p := if drain || p.latched = some f.sender then
      (if f.forwarded then { p with relayed := p.relayed ++ [row] } else { p with first := p.first ++ [row] })
    else p
  (((s.setStraight n (st.setPort k p)).bumpStraight n k 0x10 15 0 1).scoreStraight n evFrameLost).noteAt (portNode n k) true
    ncFrameLost ukStraight (n % 16) (axisOf n) 0

/-- A frame that fails its CRC at a port: a retransmission is asked for, or the frame is lost after four transmissions to
this port (R258, R259). -/
def Sys.frameBad (s : Sys) (n k : Nat) (f : Frame) : Sys :=
  let s := (s.bumpStraight n k 0x0C 15 0 1).scoreStraight n evFrameCrc
  if f.retry && f.retryTo ≠ k then s
  else if NMap.get 0 f.tries k ≥ 3 then s.frameLost n k f
  else
    let st := s.straight n
    let p := st.port k
    let key := (f.sender, f.sseq)
    s.setStraight n (st.setPort k { p with
      retries := p.retries ++ [key], gaps := if p.gaps.contains key then p.gaps else p.gaps ++ [key] })

/-- The frame in flight from `sender` that lands next at port `k`. -/
def Straight.nextFor (st : Straight) (sender k : Nat) : Option (Nat × Frame) :=
  match st.air.findIdx? (fun f => f.sender = sender && f.pending.contains k) with
  | some i => (st.air[i]?).map (fun f => (i, f))
  | none => none

/-- Frame `i` in flight reaches port `k`: dropped at a fence, checked, its gap closed, discarded where it is malformed;
what the port takes is answered (R250, R258, R259, R266, R268). -/
def Sys.frameLands (s : Sys) (n k i : Nat) (f : Frame) (bad : Bool) : Option Frame × Sys :=
  let s := s.setStraight n ((s.straight n).landed i k)
  let st := s.straight n
  let p := st.port k
  let key := (f.sender, f.sseq)
  if p.fenced then (none, s.bumpStraight n k 0x10 31 16 1)
  else if bad then (none, s.frameBad n k f)
  else if f.retry && f.retryTo ≠ k then (none, s)
  else
    let late := p.gaps.contains key && p.draining f.sender
    let s := s.setStraight n (st.setPort k { p with gaps := p.gaps.filter (fun g => g ≠ key) })
    if f.pkt.reserved || (!f.carried && (bitsOf f.pkt.group 18 18 ≠ axisOf n || bitsOf f.pkt.group 22 19 ≠ n % 16)) then
      (none, s.discard (portNode n k) f.pkt 1)
    else if f.forPort k then (some { f with old := late }, s)
    else (none, s)

/-- A STRAIGHT stream is bound to the port (R265). -/
def Sys.streamPort (s : Sys) (n k : Nat) : Option (Nat × Nat) :=
  match portTile n k with
  | some t => (s.tx t).straightBound (axisOf n)
  | none => none

/-- A multicast frame lands at port `k` of straight `n` (R250, R252, R258, R259, R264, R265, R268). -/
def Sys.mcastFrame (s : Sys) (n k sender : Nat) (bad : Bool) : Sys :=
  let st := s.straight n
  match st.nextFor sender k with
  | none => s
  | some (i, f) =>
    if f.carried then s
    else
      match s.frameLands n k i f bad with
      | (none, s) => s
      | (some f, s) =>
        let s := s.bumpStraight n k 0x08 31 0 1
        let e := match portTile n k with
          | some t => NMap.get 0 (s.replica t).relay (72 * axisOf n + 4 * f.origin + f.rset)
          | none => 0
        let fwd := f.pkt.relay && !f.forwarded && bitOf e 19
        let f := { f with pending := [], forward := fwd, deliver := !fwd || bitOf e 18 }
        let st := s.straight n
        let p := st.port k
        let latch := if f.stream && f.deliver && !f.old && p.latched.isNone && (s.streamPort n k).isSome then some f.sender else p.latched
        let p := { p with latched := latch }
        let p := if f.forwarded then { p with relayed := keepPool (p.relayed ++ [f]) } else { p with first := keepPool (p.first ++ [f]) }
        s.setStraight n (st.setPort k p)

/-- The next row of a port's pools that `mine` names, taken out (R252, R265). -/
def StraightPort.takeRow (p : StraightPort) (mine : Frame → Bool) : Option (Packet × StraightPort) :=
  let done (l : List Frame) (i : Nat) : List Frame := keepPool (listModify l i (fun f => { f with deliver := false }))
  match p.first.findIdx? (fun f => f.deliver && mine f) with
  | some i => (p.first[i]?).map (fun f => (f.pkt, { p with first := done p.first i }))
  | none =>
    match p.relayed.findIdx? (fun f => f.deliver && mine f) with
    | some i => (p.relayed[i]?).map (fun f => (f.pkt, { p with relayed := done p.relayed i }))
    | none => none
/-- The next WINDOW-mode frame, a carried packet, and any multicast frame, which is what a hub takes. -/
def StraightPort.takeWindow (p : StraightPort) : Option (Packet × StraightPort) := p.takeRow (fun f => !f.stream && !f.carried)
def StraightPort.takeCarried (p : StraightPort) : Option (Packet × StraightPort) := p.takeRow (fun f => f.carried)
def StraightPort.takeMcast (p : StraightPort) : Option (Packet × StraightPort) := p.takeRow (fun f => !f.carried)

/-- `a` comes before `b` in SSEQ order. -/
def seqBefore (a b : Nat) : Bool := decide ((b + 256 - a) % 256 < 128) && decide (a ≠ b)

/-- The STREAM frame due next at a port: the oldest of an old sender, or of the latched one, with no older frame of that
sender still to be sent again; else the oldest of another sender, to be refused (R265, R266). Log entry 34. -/
def StraightPort.nextStream (p : StraightPort) : Option (Frame × Bool) :=
  let all : List Frame := (p.first ++ p.relayed).filter (fun f => f.deliver && f.stream)
  let old : List Frame := all.filter (fun f => f.old)
  let due (l : List Frame) (c : Nat) : Option (Frame × Bool) :=
    let oldest := (l.filter (fun f => f.sender = c)).foldl (fun (a : Option Frame) f =>
      match a with
      | none => some f
      | some b => if seqBefore f.sseq b.sseq then some f else some b) none
    match oldest with
    | none => none
    | some f => if p.gaps.any (fun g => g.1 = c && seqBefore g.2 f.sseq) then none else some (f, false)
  match old.head? with
  | some f => due old f.sender
  | none =>
    let cur := match p.latched with
      | some l => some l
      | none => (all.head?).map (fun (f : Frame) => f.sender)
    match cur with
    | none => none
    | some c =>
      match all.find? (fun (f : Frame) => f.sender ≠ c) with
      | some f => some (f, true)
      | none => due all c

/-- A row of the port's pools handed to the STRAIGHT stream of its tile (R203, R205, R265). Log entry 34. -/
def Sys.streamDeliver (s : Sys) (t a : Nat) : Sys :=
  match (s.tx t).straightBound a with
  | none => s
  | some (k, i) =>
    if !(((s.tile t).slots.find? (fun x => x.1 = k)).map (fun x => (x.2.stream i).takes)).getD false then s
    else
      let n := straightOf t a
      let st := s.straight n
      let pos := positionOf t a
      let p := st.port pos
      match p.nextStream with
      | none => s
      | some (f, refuse) =>
        let drop (l : List Frame) : List Frame :=
          match l.findIdx? (fun g => g = f) with
          | some j => keepPool (listModify l j (fun g => { g with deliver := false }))
          | none => l
        let p := if p.first.contains f then { p with first := drop p.first } else { p with relayed := drop p.relayed }
        let p := if f.old || p.latched.isSome then p else { p with latched := some f.sender }
        let s := s.setStraight n (st.setPort pos p)
        if refuse then
          (s.bumpTile t (0x701C + 0x40 * a) 31 16 1).onTile t (fun x => x.arrivedRow k i 0 true (some (stNotPermitted, f.pkt.tag)))
        else s.onTile t (fun x => x.arrivedRow k i f.pkt.payload f.pkt.poison none)

/-- A port's latched sender cleared; where `keepOld`, its frames already in the pools go first (R266). -/
def StraightPort.unlatch (p : StraightPort) (keepOld : Bool) : StraightPort :=
  let mark (f : Frame) : Frame := { f with old := keepOld && (f.old || (f.stream && decide (p.latched = some f.sender))) }
  { p with latched := none, first := p.first.map mark, relayed := p.relayed.map mark }

/-- A carried packet for tile `t` itself, or one that its router injects as new, with ESCAPE and DOWN cleared (R251); none
while the local port still holds an earlier one of its class. -/
def Sys.carryIn (s : Sys) (t : Nat) (p : Packet) : Option Sys :=
  let p := { p with escape := false, down := false }
  let here := match (s.replica t).bank p.epoch with
    | some (ett, _) => routeIndex ett s.lead.peers s.boot.panelId p.dst = some t
    | none => false
  let r := s.router t
  if here && p.type ≠ 4 then some (s.setRouter t { r with eject := r.eject ++ [(p.vc, p)] })
  else
    let q := r.port 4
    if q.wire.any (fun l => l.seq = 1 && l.chan = p.vc) then none
    else some (s.setRouter t (r.setPort 4 { q with wire := q.wire ++ [{ seq := 1, chan := p.vc, pkt := p }] }))

/-- The carried packets in the pool of tile `t`'s column port handed on in launch order, as far as they can go (R251,
R252). -/
def Sys.carryPool (s : Sys) (t fuel : Nat) : Sys :=
  match fuel with
  | 0 => s
  | fuel + 1 =>
    let n := straightOf t 1
    let st := s.straight n
    match (st.port (positionOf t 1)).takeCarried with
    | none => s
    | some (p, q) =>
      match (s.setStraight n (st.setPort (positionOf t 1) q)).carryIn t p with
      | some s => s.carryPool t fuel
      | none => s

/-- A packet taken at a router's port; one taken at a tile's local port may make room for a carried packet (R251, R252). -/
def Sys.receiveRow (s : Sys) (n p : Nat) (bad : Bool) : Sys :=
  let s := s.routerReceive n p bad
  if p = 4 && n < 256 then s.carryPool n 96 else s

/-- The stream has an EMPTY slot (R203, R254). -/
def Stream.hasEmpty (st : Stream) : Bool := (List.range st.slots).any (fun i => !bitOf st.full i)

/-- A pool's ON state as a port shows it (R254); a fenced port keeps both ON (R268). -/
def Sys.poolOn (s : Sys) (n k : Nat) (relayed : Bool) : Bool :=
  let p := (s.straight n).port k
  if relayed then p.fenced || decide (96 - p.relayed.length > 85)
  else
    let starved := match portTile n k, s.streamPort n k with
      | some t, some (slot, i) => !((NMap.get {} (s.tile t).slots slot).stream i).hasEmpty
      | _, _ => false
    p.fenced || (decide (96 - p.first.length > 85) && !starved)

/-- The timekeeper: the straight's live port of lowest position (R253). -/
def Straight.timekeeper (st : Straight) : Option Nat := (List.range 18).find? (fun k => !(st.port k).absent)

/-- The 16 bytes of a status slot, SCRC included (R253). -/
def slotBytes (k cycle : Nat) (fenced first relayed : Bool) (asked : List (Nat × Nat)) : Nat :=
  let retry := ((List.range asked.length).zip asked).foldl (fun a q =>
    a + (q.2.2 + 2 ^ 8 * q.2.1 + 2 ^ 13) * 2 ^ (32 + 16 * q.1)) 0
  let v := k + 2 ^ 5 * bitNat fenced + 2 ^ 8 * bitNat first + 2 ^ 9 * bitNat relayed + 2 ^ 16 * (cycle % 65536) + retry
  v + 2 ^ 112 * crc16 v 14

/-- A port's status slot (R253, R254, R258–R260): `good` says that one of its two copies checks. Log entry 34. -/
def Sys.statusSlot (s : Sys) (n k : Nat) (good : Bool) : Sys :=
  let st := s.straight n
  let p := st.port k
  if st.state ≠ 3 || p.absent then s
  else
    let onF := s.poolOn n k false
    let onR := s.poolOn n k true
    let asked := p.retries.take 4
    let excess := p.retries.drop 4
    let cycle := if st.timekeeper = some k then (st.cycle + 1) % 65536 else st.cycle
    let p := { p with
      shownFirst := onF, shownRelayed := onR, heard := good, missed := if good then 0 else p.missed + 1
      retries := if good then [] else p.retries, slot := slotBytes k cycle p.fenced onF onR asked }
    let s := s.setStraight n { st.setPort k p with cycle := cycle }
    if !good then s
    else
      let s := asked.foldl (fun s (q : Nat × Nat) =>
        let st := s.straight n
        let ps := st.port q.1
        match ps.replay.find? (fun f => f.sseq = q.2) with
        | some f =>
          let tries := NMap.put f.tries k (NMap.get 0 f.tries k + 1)
          let g := { f with retry := true, retryTo := k, tries := tries }
          let keep := ps.replay.map (fun h => if h.sseq = q.2 then { h with tries := tries } else h)
          s.setStraight n (st.setPort q.1 { ps with resend := ps.resend ++ [g], replay := keep })
        | none => s.frameLost n k { sender := q.1, sseq := q.2 }) s
      excess.foldl (fun s (q : Nat × Nat) => s.frameLost n k { sender := q.1, sseq := q.2 }) s

/-- A port with no good slot for 8 status cycles is declared absent (R257). Log entry 35. -/
def Sys.portAbsent (s : Sys) (n k : Nat) : Sys :=
  let st := s.straight n
  let p := st.port k
  if st.state = 3 && !p.absent && p.missed ≥ 8 then
    let s := s.setStraight n (st.setPort k { p with absent := true })
    match portTile n k with
    | some t => (s.scored ukTile t 0 evPortAbsent 1).noteAt t true ncPortAbsent ukTile t 0 0
    | none => s
  else s

/-- Calibration of a straight begins: its ports hold their frames (R257, R279). -/
def Sys.calibrating (s : Sys) (n : Nat) : Sys := s.setStraight n { s.straight n with state := 2 }
/-- Calibration of a straight (R253, R257, R261): the live waveguides `wg` fixed, absent ports cleared, launches allowed;
down when neither W0 nor W2 is live. -/
def Sys.calibrate (s : Sys) (n wg : Nat) : Sys :=
  let st := s.straight n
  let live := bitOf wg 0 || bitOf wg 2
  s.setStraight n { st with
    state := if live then 3 else 1, wg := wg % 16
    ports := st.ports.map (fun p => (p.1, { p.2 with absent := false, missed := 0 })) }
/-- STRAIGHT_RECALIBRATION: `ends` is false where the calibration has only begun. Log entry 35. -/
def Sys.recalibration (s : Sys) (n wg : Nat) (ends : Bool) : Sys := if ends then s.calibrate n wg else s.calibrating n

end Sys2Proof.Machine
end

