-- ==== Sys2Proof/Machine/TadOps.lean ====
section
/-! DEFINITION. The tadpole control network: forwarding, ordering, notices, dead links, panel time (R282–R298). -/

namespace Sys2Proof.Machine

/-- The local port of a tadpole router: 4 on a tile, 16 on a hub, 1 on an optical engine. -/
def tadLocal (n : Nat) : Nat := if n < 256 then 4 else if n < 258 then 16 else 1

/-- The router and port at the far end of tadpole port `p` of router `n` (R282): tiles, hubs 256 and 257, engines
258–265. -/
def tadNeighbour (n p : Nat) : Option (Nat × Nat) :=
  if n < 256 then
    if p = 0 then
      (if n / 16 ≠ 0 then some (n - 16, 2) else if n % 4 = 0 then some (258 + n / 4, 0) else none)
    else if p = 2 then
      (if n / 16 ≠ 15 then some (n + 16, 0) else if n % 4 = 0 then some (262 + n % 16 / 4, 0) else none)
    else neighbour n p
  else if n < 258 then neighbour n p
  else if n < 266 && p = 0 then
    (if n < 262 then some (4 * (n - 258), 0) else some (240 + 4 * (n - 262), 2))
  else none

/-- The EPOCH payload of each SUB, with its reserved bits and values (R286). -/
def TMsg.epochOk (m : TMsg) : Bool :=
  let p := m.payload
  let index := bitsOf p 15 0
  let table := bitsOf p 23 16
  match m.sub with
  | 1 => (List.range 4).all (fun i => decide (byteOf p (2 * i) < 240) || (byteOf p (2 * i) = 0xFF && byteOf p (2 * i + 1) = 0xFF))
  | 2 => decide (p < 2 ^ 16)
  | 7 => bitsOf p 62 56 = 0 &&
      (match table with
       | 0 => decide (index < 266)
       | 1 => decide (index < 268)
       | 2 => decide (index < 144)
       | 7 => index = 0 && bitsOf p 55 24 = 0
       | _ => decide (table < 7) && decide (index < 64))
  | 8 => m.tag = 0 && decide (1 ≤ bitsOf p 49 48) && decide (p < 2 ^ 50)
  | _ => p = 0

/-- The reserved bits and values of a payload, and of SUB, by type (R285, R286). A bit that a type's layout does not name
is reserved. Log entry 83. -/
def TMsg.bodyOk (m : TMsg) : Bool :=
  let p := m.payload
  match m.type with
  | 0x01 => decide (p < 2 ^ 24) && p % 4 = 0
  | 0x02 => bitsOf p 31 24 = 0 && p % 4 = 0
  | 0x03 => decide (p < 2 ^ 40)
  | 0x08 => decide (m.sub < 16)
  | 0x09 => decide (1 ≤ bitsOf p 18 16) && decide (bitsOf p 18 16 ≤ 5) && decide (p < 2 ^ 19)
  | 0x0A => decide (bitsOf p 22 16 ≤ 64) && decide (p < 2 ^ 23)
  | 0x18 => m.epochOk
  | 0x1C => decide (p < 2 ^ 32)
  | 0x1D => decide (p < 2 ^ 32)
  | _ => true

/-- Who may send and receive each type, its priority, and its reserved bits and values (R285). Log entry 83. -/
def TMsg.legal (m : TMsg) : Bool :=
  let hub (a : Nat) : Bool := decide (256 ≤ a) && decide (a < 258)
  let fromHub := hub m.src
  let toHub := hub m.dst
  let unit (a : Nat) : Bool := decide (a < 256) || (decide (258 ≤ a) && decide (a < 266))
  let all := decide (m.dst = 0x3FF)
  !m.reserved && m.bodyOk &&
  (match m.type with
   | 0x01 => fromHub && unit m.dst && !m.urgent
   | 0x02 => fromHub && unit m.dst && !m.urgent
   | 0x03 => unit m.src && toHub && !m.urgent
   | 0x08 => fromHub && decide (m.dst < 256) && !m.urgent
   | 0x09 => fromHub && (decide (m.dst < 256) || all) && m.urgent
   | 0x0A => fromHub && (decide (m.dst < 256) || all) && m.urgent
   | 0x10 => unit m.src && toHub
   | 0x11 => decide (m.src < 256) && toHub && !m.urgent
   | 0x18 => m.urgent &&
      (if m.sub = 1 || m.sub = 3 || m.sub = 6 || m.sub = 7 then fromHub && decide (m.dst < 266)
       else if m.sub = 2 || m.sub = 4 || m.sub = 5 then decide (m.src < 266) && toHub
       else m.sub = 8 && fromHub && all)
   | 0x1C => fromHub && all && m.urgent
   | 0x1D => decide (m.src < 256) && toHub && m.urgent
   | 0x20 => m.urgent &&
      (if m.sub = 1 then fromHub && all else (m.sub = 2 || m.sub = 3) && decide (m.src < 266) && decide (m.dst < 266))
   | _ => false)

/-- The table fixed in silicon that routes until boot step 9: row first, then column, to and from each hub (R507). Log
entry 40. -/
def defaultTad (n dst : Nat) : Nat :=
  if n = dst then 2 ^ tadLocal n
  else if n < 256 then
    if dst = 256 then 8
    else if dst = 257 then 2
    else if dst ≥ 256 then 0
    else if n % 16 < dst % 16 then 2
    else if dst % 16 < n % 16 then 8
    else if n / 16 < dst / 16 then 4
    else 1
  else if n < 258 && dst < 256 then 2 ^ (dst / 16)
  else 0

/-- The output mask of a message at router `n` that came in at port `p`, by the bank its RGEN names (R291). Log entry
40. -/
def Sys.tadMask (s : Sys) (n p : Nat) (m : TMsg) : Nat :=
  let rep := s.replica n
  let bank := if m.rgen = (s.tad n).rgen then rep.tad else rep.tadShd
  let i := if m.dst = 0x3FF then (if m.src = 257 then 267 else 266) else m.dst
  let v := if rep.tad.isEmpty then defaultTad n m.dst else NMap.get 0 bank i
  if m.dst = 0x3FF && bitOf v p && p ≠ tadLocal n then v - 2 ^ p else v

/-- A discarded message (R285, R291). Log entry 83. -/
def Sys.tadDrop (s : Sys) (n : Nat) (malformed : Bool) : Sys :=
  if malformed then s.bumpTile n 0x8060 31 24 1 else s.bumpTile n 0x8060 23 16 1

/-- A message enters router `n` at port `p` (its local port: from the endpoint). Log entry 83. -/
def Sys.tadEnter (s : Sys) (n p : Nat) (m : TMsg) : Sys :=
  if !m.legal then s.tadDrop n true
  else
    let r := s.tad n
    let live := (List.range (tadLocal n)).foldl (fun a i => if (r.port i).dead && bitOf a i then a - 2 ^ i else a) (s.tadMask n p m)
    if live = 0 then s.tadDrop n false
    else
      let m := { m with outs := live }
      if p = tadLocal n then
        s.setTad n (if m.urgent then { r with outUrgent := r.outUrgent ++ [m] } else { r with outNormal := r.outNormal ++ [m] })
      else
        let q := r.port p
        s.setTad n (r.setPort p (if m.urgent then { q with urgentQ := q.urgentQ ++ [m] } else { q with normalQ := q.normalQ ++ [m] }))

/-- The input queue of a router at a priority; the endpoint's own queue at the local port. -/
def TRouter.queue (r : TRouter) (n p : Nat) (urgent : Bool) : List TMsg :=
  if p = tadLocal n then (if urgent then r.outUrgent else r.outNormal)
  else if urgent then (r.port p).urgentQ else (r.port p).normalQ
def TRouter.setQueue (r : TRouter) (n p : Nat) (urgent : Bool) (l : List TMsg) : TRouter :=
  if p = tadLocal n then (if urgent then { r with outUrgent := l } else { r with outNormal := l })
  else
    let q := r.port p
    r.setPort p (if urgent then { q with urgentQ := l } else { q with normalQ := l })

/-- Injections of a tile or engine in the last 256 tadpole cycles (R289). -/
def Sys.injected (s : Sys) (n : Nat) (urgent : Bool) : List Nat :=
  within s.now 256 (if urgent then (s.tad n).injU else (s.tad n).injN)
def Sys.mayInject (s : Sys) (n : Nat) (urgent : Bool) : Bool :=
  (decide (256 ≤ n) && decide (n < 258)) || decide ((s.injected n urgent).length < 2)

/-- Messages of the endpoint that have not yet found their route find it now. -/
def Sys.tadRoute (s : Sys) (n : Nat) : Sys :=
  [true, false].foldl (fun s u =>
    let q := (s.tad n).queue n (tadLocal n) u
    let s := s.setTad n ((s.tad n).setQueue n (tadLocal n) u [])
    q.foldl (fun s m => if m.outs = 0 then s.tadEnter n (tadLocal n) { m with rgen := (s.tad n).rgen }
      else s.setTad n ((s.tad n).setQueue n (tadLocal n) u ((s.tad n).queue n (tadLocal n) u ++ [m]))) s) s

/-- The inputs whose head wants output `o` at a priority. SYNC messages go by SYNC alone. -/
def Sys.tadHeads (s : Sys) (n o : Nat) (urgent : Bool) : List (Nat × TMsg) :=
  (List.range (tadLocal n + 1)).filterMap (fun p =>
    match (s.tad n).queue n p urgent with
    | m :: _ =>
      if bitOf m.outs o && m.type ≠ 0x20 && (p ≠ tadLocal n || s.mayInject n urgent) then some (p, m) else none
    | [] => none)

/-- The message at the head of an input has taken output `o`. -/
def Sys.tadTaken (s : Sys) (n p o : Nat) (urgent : Bool) : Sys :=
  let r := s.tad n
  match r.queue n p urgent with
  | m :: rest =>
    let m := { m with outs := m.outs - (if bitOf m.outs o then 2 ^ o else 0) }
    let r := r.setQueue n p urgent (if m.outs = 0 then rest else m :: rest)
    let r := if p = tadLocal n then
        (if urgent then { r with injU := s.injected n true ++ [s.now] } else { r with injN := s.injected n false ++ [s.now] })
      else r
    s.setTad n r
  | [] => s

/-- One end of a dead tadpole link: marked, with what waits to leave by it discarded and an urgent notice; what has
arrived by it goes on (R291, R292). -/
def Sys.tadEndDead (s : Sys) (n p : Nat) : Sys :=
  let r := s.tad n
  let q := r.port p
  if q.dead then s
  else
    let s := s.setTad n (r.setPort p { q with dead := true, link := 1, replay := [] })
    let s := if q.replay.isEmpty then s else s.bumpTile n 0x8060 23 16 q.replay.length
    let s := (List.range (tadLocal n + 1)).foldl (fun s i =>
      [true, false].foldl (fun s u =>
        let l := (s.tad n).queue n i u
        let l' : List TMsg := l.map (fun m => if bitOf m.outs p then { m with outs := m.outs - 2 ^ p } else m)
        let gone : Nat := ((l.zip l').filter (fun x => x.1.outs ≠ 0 && x.2.outs = 0)).length
        let s := s.setTad n ((s.tad n).setQueue n i u (((l.zip l').filter (fun x => !(x.1.outs ≠ 0 && x.2.outs = 0))).map (fun x => x.2)))
        if gone = 0 then s else s.bumpTile n 0x8060 23 16 gone) s) s
    if n < 256 then s.noteAt n true ncLinkDown ukTile n 0 (p + 8) else s

/-- A tadpole link is dead (R283, R292). -/
def Sys.neighbourSilent (s : Sys) (n p : Nat) : Sys :=
  match tadNeighbour n p with
  | none => s
  | some (m, mp) => (s.tadEndDead n p).tadEndDead m mp

/-- Output `o` of router `n` may send its link's next message of a priority: the far end has a place for it and no failed
message waits to be replayed (R283). -/
def Sys.tadRoom (s : Sys) (n o : Nat) (urgent : Bool) : Bool :=
  match tadNeighbour n o with
  | some (f, fp) =>
    (s.tad f).alive && ((s.tad n).port o).replay.isEmpty && decide (((s.tad f).queue f fp urgent).length < 2)
  | none => false

/-- A message's first transmission: counted and numbered (R283, R297). -/
def Sys.tadNumber (s : Sys) (n o : Nat) : Sys :=
  let r := s.tad n
  let q := r.port o
  (s.setTad n (r.setPort o { q with sendSeq := (q.sendSeq + 1) % 256 })).bumpTile n (0x8004 + 0x10 * o) 31 0 1

/-- A message with the expected number arrives and is acknowledged (R283). -/
def Sys.tadArrived (s : Sys) (f fp : Nat) : Sys :=
  let r := s.tad f
  let q := r.port fp
  s.setTad f (r.setPort fp { q with recvSeq := (q.recvSeq + 1) % 256 })

/-- Message `m` fails its CRC at the far end of link `o` and stays in the replay buffer; the 16th replay in 1 ms makes the
link DEAD (R283, R496). -/
def Sys.tadSlotBad (s : Sys) (n o : Nat) (m : TMsg) : Sys :=
  let r := s.tad n
  let q := r.port o
  let times := within s.now 1000000 q.replayTimes ++ [s.now]
  let s := (s.setTad n (r.setPort o { q with replayTimes := times, replay := [m] })).bumpTile n (0x8008 + 0x10 * o) 31 16 1
  let s := match tadNeighbour n o with
    | some (f, fp) =>
      let s := s.bumpTile f (0x8008 + 0x10 * fp) 15 0 1
      if f < 256 then s.scored ukTile f 0 evTadpoleCrc 1 else s
    | none => s
  if times.length ≥ 16 then s.neighbourSilent n o else s

/-- One transmission of `m` over link `o` (R283). -/
def Sys.tadTransmit (s : Sys) (n o : Nat) (m : TMsg) (bad : Bool) : Sys :=
  if bad then s.tadSlotBad n o m
  else
    match tadNeighbour n o with
    | some (f, fp) => (s.tadArrived f fp).tadEnter f fp m
    | none => s

/-- One link slot of output `o` of router `n` (R283, R287, R288): the replay of a failed message, else the next message
that the arbiter grants. `bad` says that the slot fails its CRC at the far end. Log entry 37. -/
def Sys.tadpoleForward (s : Sys) (n o : Nat) (bad : Bool) : Sys :=
  let s := s.tadRoute n
  let r := s.tad n
  let local_ := decide (o = tadLocal n)
  let q := r.port o
  if !r.alive || (!local_ && (q.dead || q.link ≠ 3)) then s
  else
    match q.replay with
    | m :: _ => (s.setTad n (r.setPort o { q with replay := [] })).tadTransmit n o m bad
    | [] =>
      let hu := if local_ || s.tadRoom n o true then s.tadHeads n o true else []
      let hn := if local_ || s.tadRoom n o false then s.tadHeads n o false else []
      let normalTurn := q.lastUrgent && !hn.isEmpty
      let useU := !normalTurn && !hu.isEmpty
      let l := if useU then hu else hn
      let last := if useU then q.rrUrgent else q.rrNormal
      let pick := match l.find? (fun h => decide (last < h.1)) with
        | some h => some h
        | none => l.head?
      match pick with
      | none => s.setTad n (r.setPort o { q with lastUrgent := false })
      | some (p, m) =>
        let q := { q with lastUrgent := useU, rrUrgent := if useU then p else q.rrUrgent, rrNormal := if useU then q.rrNormal else p }
        let s := ((s.setTad n (r.setPort o q)).tadTaken n p o useU).tadNumber n o
        if local_ then
          let r := s.tad n
          s.setTad n { r with inbox := r.inbox ++ [{ m with outs := 0 }] }
        else s.tadTransmit n o m bad

/-- The head of the notice queue injected, where the rate limit allows (R289). A hub's own notice goes straight to the
lead hub's inbox: no message type carries it (R285). Log entry 83. -/
def Sys.noticeQueueSend (s : Sys) (n : Nat) : Sys :=
  let r := s.tad n
  match r.notices with
  | [] => s
  | m :: rest =>
    let waiting := (if m.urgent then r.outUrgent else r.outNormal).length
    let m := { m with payload := if r.lostFlag then m.payload ||| 2 ^ 63 else m.payload, dst := 256 + s.lead.hub }
    let t := s.setTad n { r with notices := rest, lostFlag := false }
    if 256 ≤ n && n < 258 then
      let h := t.tad m.dst
      t.setTad m.dst { h with inbox := h.inbox ++ [m] }
    else if (s.injected n m.urgent).length + waiting < 2 then t.sendMsg n m
    else s

/-- The first message of an endpoint's inbox that `f` accepts, taken out. -/
def Sys.takeMsg (s : Sys) (n : Nat) (f : TMsg → Bool) : Option (TMsg × Sys) :=
  let r := s.tad n
  match r.inbox.findIdx? f with
  | none => none
  | some i =>
    match r.inbox[i]? with
    | none => none
    | some m => some (m, s.setTad n { r with inbox := listDrop r.inbox i })

/-- The lead hub broadcasts its panel time (R296). -/
def Sys.syncBroadcast (s : Sys) : Sys :=
  s.sendMsg (256 + s.lead.hub) { dst := 0x3FF, type := 0x20, urgent := true, sub := 1, payload := s.now % 2 ^ 64 }

/-- A tile or hub takes an arrived panel time: a difference of at most 64 ns is slewed away, a larger one is a
TIME_FAULT (R296). -/
def Sys.takeTime (s : Sys) (n time : Nat) : Sys :=
  if n < 256 then
    let t := s.tile n
    let d : Int := (time : Int) - (s.mirror n : Int)
    let big := decide (d.natAbs > 64)
    let m := { t.mirror with
      slew := if big then t.mirror.slew else d, lastCorr := d, syncs := (t.mirror.syncs + 1) % 65536, missed := 0, lost := false }
    let s := s.setTile n { t with mirror := m }
    if big then s.noteAt n false ncTimeFault ukTile n 0 0 else s
  else if n < 258 then
    let h := s.hub (n - 256)
    let d : Int := (time : Int) - ((s.now : Int) + h.mirrorOff)
    if d.natAbs > 64 then s else s.setHub (n - 256) { h with mirrorSlew := d }
  else s

/-- A SYNC at the head of an input of router `n`, with `res` ns of residence: forwarded along the tree with the delays
added, by each output that has room, and taken by the endpoint (R296). Log entry 81. -/
def Sys.sync (s : Sys) (n res : Nat) : Sys :=
  let s := s.tadRoute n
  let r := s.tad n
  let mine (p : Nat) : Option (Nat × TMsg × List TMsg) :=
    match r.queue n p true with
    | m :: rest => if m.type = 0x20 && m.sub = 1 && m.outs ≠ 0 then some (p, m, rest) else none
    | [] => none
  match (List.range (tadLocal n + 1)).findSome? mine with
  | none => s
  | some (p, m, rest) =>
    let go := (List.range (tadLocal n)).filter (fun o => bitOf m.outs o && (r.port o).link = 3 && s.tadRoom n o true)
    let left := go.foldl (fun a o => a - 2 ^ o) (if bitOf m.outs (tadLocal n) then m.outs - 2 ^ tadLocal n else m.outs)
    let s := s.setTad n (r.setQueue n p true (if left = 0 then rest else { m with outs := left } :: rest))
    let here := m.payload + res + (if p = tadLocal n then 0 else (r.port p).delay / 4)
    let s := go.foldl (fun s o => (s.tadNumber n o).tadTransmit n o { m with payload := here, outs := 0 } false) s
    if bitOf m.outs (tadLocal n) then s.takeTime n here else s

/-- A SYNC was missed; three in a row raise TIME_FAULT (R296). -/
def Sys.syncMissed (s : Sys) (t : Nat) : Sys :=
  if t < 256 then
    let x := s.tile t
    let m := x.mirror.missed + 1
    let s := s.setTile t { x with mirror := { x.mirror with missed := m, lost := decide (m ≥ 3) } }
    if m = 3 then s.noteAt t false ncTimeFault ukTile t 0 0 else s
  else s

/-- One nanosecond of a mirror's difference removed (R296). -/
def slewStep (i : Int) : Int := if i > 0 then 1 else if i < 0 then -1 else 0
def Sys.mirrorSlew (s : Sys) (n : Nat) : Sys :=
  if n < 256 then
    let t := s.tile n
    let d := slewStep t.mirror.slew
    s.setTile n { t with mirror := { t.mirror with offset := t.mirror.offset + d, slew := t.mirror.slew - d } }
  else
    let h := s.hub (n - 256)
    let d := slewStep h.mirrorSlew
    s.setHub (n - 256) { h with mirrorOff := h.mirrorOff + d, mirrorSlew := h.mirrorSlew - d }

/-- A message between neighbouring routers over link `o`, which the far router consumes (R285). -/
def Sys.tadDirect (s : Sys) (n o : Nat) (m : TMsg) : Sys :=
  match tadNeighbour n o with
  | some (f, fp) =>
    let s := (s.tadNumber n o).tadArrived f fp
    let r := s.tad f
    let q := r.port fp
    s.setTad f (r.setPort fp { q with urgentQ := q.urgentQ ++ [{ m with dst := f, src := n, type := 0x20, urgent := true }] })
  | none => s

/-- A neighbour's link-delay request at the head of port `p` answered, where the link has room (R283, R296). -/
def Sys.delayReq (s : Sys) (n p : Nat) : Sys :=
  let r := s.tad n
  let q := r.port p
  match q.urgentQ with
  | m :: rest =>
    if m.type = 0x20 && m.sub = 2 && s.tadRoom n p true then
      (s.setTad n (r.setPort p { q with urgentQ := rest })).tadDirect n p { sub := 3, payload := m.payload }
    else s
  | [] => s

/-- The answer to a link-delay request: half the measured round trip is kept, in quarter ns (R296). -/
def Sys.delayResp (s : Sys) (n p trip : Nat) : Sys :=
  let r := s.tad n
  let q := r.port p
  match q.urgentQ with
  | m :: rest =>
    if m.type = 0x20 && m.sub = 3 then s.setTad n (r.setPort p { q with urgentQ := rest, delay := trip / 2 }) else s
  | [] => s

/-- Every live link of the tadpole network is asked for its delay at bring-up (R296, R507). -/
def Sys.askDelays (s : Sys) : Sys :=
  (List.range 266).foldl (fun s n =>
    (List.range (tadLocal n)).foldl (fun s p =>
      let r := s.tad n
      if r.alive && !(r.port p).dead && (r.port p).link = 3 && s.tadRoom n p true then
        s.tadDirect n p { sub := 2, payload := s.now % 2 ^ 64 }
      else s) s) s

/-- A DOORBELL message delivered to its slot (R293). -/
def Sys.doorbellMsg (s : Sys) (t : Nat) : Sys :=
  match s.takeMsg t (fun m => m.type = 0x08) with
  | some (m, s) => s.onTile t (fun x => x.doorbell (m.sub % 16) m.payload)
  | none => s

end Sys2Proof.Machine
end

