-- ==== Sys2Proof/Machine/RouteOps.lean ====
section
/-! DEFINITION. What Gorad firmware computes for an epoch: safe and shortest mesh routes, tadpole routes and broadcast
trees, multicast group and relay entries, reduction trees, the distance table, spares and buddies (R22–R25, R38, R232–R236,
R262–R267, R273, R291, R489). -/

namespace Sys2Proof.Machine

/-- The spare column of a row (R22). -/
def spareCol (row : Nat) : Nat := (4 * (row % 4) + row / 4) % 16
def isSparePos (p : Nat) : Bool := decide (p % 16 = spareCol (p / 16))
/-- The power region of a physical tile (R21). -/
def regionOfTile (p : Nat) : Nat := p / 64 * 4 + p % 16 / 4
/-- The physical tile of a logical tile at manufacture (R23). -/
def factoryPhys (n : Nat) : Nat :=
  let row := n / 15
  let k := n % 15
  16 * row + (if k < spareCol row then k else k + 1)

/-- A link end whose link traffic has been moved off (R498). -/
def Sys.linkOut (s : Sys) (n p : Nat) : Bool :=
  decide (n < 256) && (s.unitOut (unitKey ukTileLink n p) || (hubPort n p && s.unitOut (unitKey ukHubLink n 0)))

/-- A mesh link between two live routers (R236, R240). -/
def Sys.meshLive (s : Sys) (n p : Nat) : Option Nat :=
  match neighbour n p with
  | none => none
  | some (m, mp) =>
    let a := (s.router n).port p
    let b := (s.router m).port mp
    if (s.router n).alive && (s.router m).alive && !a.dead && !b.dead && a.link = 3 && b.link = 3 && !s.linkOut n p && !s.linkOut m mp
    then some m else none
/-- A tadpole link between two live routers. -/
def Sys.tadLive (s : Sys) (n p : Nat) : Option Nat :=
  match tadNeighbour n p with
  | none => none
  | some (m, mp) =>
    let a := (s.tad n).port p
    let b := (s.tad m).port mp
    if (s.tad n).alive && (s.tad m).alive && !a.dead && !b.dead && a.link = 3 && b.link = 3 then some m else none

/-- A breadth-first search: the distance of every node that `next` reaches. Log entry 39. -/
def bfs (next : Nat → List Nat) (fuel : Nat) (frontier : List Nat) (d : Nat) (seen : NMap Nat) : NMap Nat :=
  match fuel with
  | 0 => seen
  | fuel + 1 =>
    if frontier.isEmpty then seen
    else
      let (new, seen) := frontier.foldl (fun (a : List Nat × NMap Nat) v =>
        (next v).foldl (fun (a : List Nat × NMap Nat) w =>
          match NMap.find a.2 w with
          | some _ => a
          | none => (a.1 ++ [w], NMap.put a.2 w (d + 1))) a) ([], seen)
      bfs next fuel new (d + 1) seen

/-- A network with live links: `link n p` is the router at the far end. -/
structure Net where
  size : Nat
  ports : Nat → Nat
  link : Nat → Nat → Option Nat

def Net.nbrs (g : Net) (n : Nat) : List (Nat × Nat) :=
  (List.range (g.ports n)).filterMap (fun p => (g.link n p).map (fun m => (p, m)))

/-- The breadth-first level of every router from the lead hub (R236). -/
def Net.levels (g : Net) (root : Nat) : NMap Nat := bfs (fun n => (g.nbrs n).map (fun x => x.2)) 600 [root] 0 [(root, 0)]

/-- Order of ends of equal level: hubs below tiles, then the lower physical number (R236). -/
def nodeKey (n : Nat) : Nat := if n = 256 then 0 else if n = 257 then 1 else n + 2
/-- The link from `a` to `b` is an up link. -/
def isUp (lv : NMap Nat) (a b : Nat) : Bool :=
  let la := NMap.get 1000 lv a
  let lb := NMap.get 1000 lv b
  decide (lb < la) || (decide (lb = la) && decide (nodeKey b < nodeKey a))

/-- Lengths of the shortest safe routes to `d`: key 2n from router n with DOWN = 0, key 2n + 1 with DOWN = 1 (R236). -/
def Net.safeDist (g : Net) (lv : NMap Nat) (d : Nat) : NMap Nat :=
  let pred (k : Nat) : List Nat :=
    let v := k / 2
    let from_ := (g.nbrs v).map (fun x => x.2)
    if k % 2 = 1 then (from_.filter (fun n => !isUp lv n v)).flatMap (fun n => [2 * n, 2 * n + 1])
    else (from_.filter (fun n => isUp lv n v)).map (fun n => 2 * n)
  bfs pred 1200 [2 * d, 2 * d + 1] 0 (NMap.put [(2 * d, 0)] (2 * d + 1) 0)

/-- Hop counts to `d` over live links, hubs never crossed (R232, R236). -/
def Net.hopDist (g : Net) (d : Nat) : NMap Nat :=
  bfs (fun v => if v ≥ 256 && v ≠ d then [] else (g.nbrs v).map (fun x => x.2)) 600 [d] 0 [(d, 0)]

/-- The first port with the least value. Log entry 39. -/
def leastPort (l : List (Nat × Nat)) : Option Nat :=
  (l.foldl (fun (a : Option (Nat × Nat)) x =>
    match a with
    | none => some x
    | some b => if x.2 < b.2 then some x else some b) none).map (fun x => x.1)

/-- Ports of the shortest safe routes: for DOWN = 0 with the link's direction, and for DOWN = 1. -/
def Net.safePorts (g : Net) (lv sd : NMap Nat) (n : Nat) : Option (Nat × Bool) × Option Nat :=
  let c := g.nbrs n
  let up := c.filterMap (fun x =>
    (NMap.find sd (2 * x.2 + (if isUp lv n x.2 then 0 else 1))).map (fun d => (x.1, d)))
  let down := (c.filter (fun x => !isUp lv n x.2)).filterMap (fun x => (NMap.find sd (2 * x.2 + 1)).map (fun d => (x.1, d)))
  let u := (leastPort up).map (fun p => (p, (c.find? (fun x => x.1 = p)).any (fun x => !isUp lv n x.2)))
  (u, leastPort down)

/-- A route entry of router `n` toward router `d`, in the layout of R232 or R544. Log entry 39. -/
def Net.entry (g : Net) (lv sd hd : NMap Nat) (n d : Nat) : Nat :=
  if n = d then (if n < 256 then 0x7710 else 2 ^ 26)
  else
    let (u, dn) := g.safePorts lv sd n
    let here := NMap.get 100000 hd n
    let min := (g.nbrs n).filterMap (fun x =>
      match NMap.find hd x.2 with
      | some h => if h + 1 = here && (x.2 < 256 || x.2 = d) then some x.1 else none
      | none => none)
    if n < 256 then
      maskOf min + 2 ^ 8 * ((u.map (fun x => x.1)).getD 7) + 2 ^ 11 * bitNat ((u.map (fun x => x.2)).getD false) +
        2 ^ 12 * (dn.getD 7)
    else
      match u with
      | some (p, isDown) => maskOf min + 2 ^ 16 * p + 2 ^ 20 * bitNat isDown + 2 ^ 21 * (dn.getD p) + 2 ^ 25
      | none => maskOf min

/-- The exit tile toward engine `e` from row `row` (R421): the nearest of the engine's four columns, the lower on a tie. -/
def exitTile (row col e : Nat) : Nat :=
  let c0 := 4 * (e % 4)
  16 * row + (if col < c0 then c0 else if col > c0 + 3 then c0 + 3 else col)

/-- The mesh as Gorad firmware sees it, and the tadpole network. -/
def Sys.meshNet (s : Sys) : Net := { size := 258, ports := localPort, link := s.meshLive }
def Sys.tadNet (s : Sys) : Net := { size := 266, ports := tadLocal, link := s.tadLive }

/-- Mesh route tables of every router for the next epoch: entries 0–265 (R232, R236, R421). A hub's packets for an engine
leave by the exit tile of row 0 or 15. -/
def Sys.meshTables (s : Sys) : NMap (NMap Nat) :=
  let g := s.meshNet
  let lv := g.levels (256 + s.lead.hub)
  let col (d : Nat) : NMap Nat :=
    let sd := g.safeDist lv d
    let hd := g.hopDist d
    ((List.range 258).map (fun n => (n, g.entry lv sd hd n d))).filter (fun x => x.2 ≠ routeReset x.1)
  let cols : NMap (NMap Nat) := (List.range 258).map (fun d => (d, col d))
  (List.range 258).map (fun n =>
    let at_ (d : Nat) : Nat := NMap.get (routeReset n) (NMap.get [] cols d) n
    let direct := (List.range 258).map (fun d => (d, at_ d))
    let eng := (List.range 8).map (fun e =>
      let row := if n < 256 then n / 16 else if e < 4 then 0 else 15
      let c := if n < 256 then n % 16 else if n = 256 then 0 else 15
      (258 + e, at_ (exitTile row c e)))
    (n, (direct ++ eng).filter (fun x => x.2 ≠ routeReset n)))

/-- Tadpole route tables (R291): a message goes down as soon as a way down leads to its destination, else up; entries 266
and 267 are breadth-first trees from the west and the east hub. Log entry 40. -/
def Sys.tadTables (s : Sys) : NMap (NMap Nat) :=
  let g := s.tadNet
  let lv := g.levels (256 + s.lead.hub)
  let col (d : Nat) : NMap Nat :=
    let sd := g.safeDist lv d
    ((List.range 266).map (fun n =>
      if n = d then (n, 2 ^ tadLocal n)
      else
        let (u, dn) := g.safePorts lv sd n
        match dn, u with
        | some p, _ => (n, 2 ^ p)
        | none, some (p, _) => (n, 2 ^ p)
        | none, none => (n, 0))).filter (fun x => x.2 ≠ 0)
  let tree (h : Nat) : NMap Nat :=
    let dl := g.levels h
    let parent (m : Nat) : Option Nat :=
      ((g.nbrs m).find? (fun x => NMap.get 1000 dl x.2 + 1 = NMap.get 0 dl m)).map (fun x => x.2)
    (List.range 266).filterMap (fun n =>
      match NMap.find dl n with
      | none => none
      | some _ =>
        let kids := (g.nbrs n).filter (fun x => x.2 ≠ h && parent x.2 = some n)
        some (n, maskOf (kids.map (fun x => x.1)) + 2 ^ tadLocal n))
  let cols : NMap (NMap Nat) := (List.range 266).map (fun d => (d, col d)) ++ [(266, tree 256), (267, tree 257)]
  (List.range 266).map (fun n =>
    (n, ((List.range 268).map (fun d => (d, NMap.get 0 (NMap.get [] cols d) n))).filter (fun x => x.2 ≠ 0)))

/-- A port of a straight that multicast can use. -/
def Sys.portUsable (s : Sys) (n k : Nat) : Bool :=
  let st := s.straight n
  st.up && !(st.port k).absent && !(st.port k).fenced && !s.unitOut (unitKey ukStraight (n % 16) (axisOf n))

/-- A member as a physical tile, or 256 or 257 for a hub. -/
def memberNode (place : NMap Nat) (eid : Nat) : Option Nat :=
  if 0x1000 ≤ eid && eid ≤ 0x10EF then NMap.find place (eid - 0x1000)
  else if eid = 0x1200 then some 256
  else if eid = 0x1201 then some 257
  else none

/-- A multicast group's entry, member count and relay entries (tile, index, value) for a placement (R262–R267, R280): none
where a member cannot be reached, or only over a relay that the panel does not offer (R1, R523). -/
def Sys.mcBuild (s : Sys) (place : NMap Nat) (g : McGroup) : Option (Nat × Nat × List (Nat × Nat × Nat)) :=
  match memberNode place g.holder, g.members.mapM (memberNode place) with
  | some me, some nodes =>
    if nodes = [] then none
    else
      let a := if me ≥ 256 then 0 else g.axis
      let line := if me ≥ 256 then (nodes.head?.map (fun m => if m < 256 then m / 16 else 0)).getD 0
        else if a = 0 then me / 16 else me % 16
      let pos := if me = 256 then 16 else if me = 257 then 17 else positionOf me a
      let num := if a = 0 then line else 16 + line
      -- position on the sender's straight, else the crossing tile's position and the member's position beyond it
      let place1 (m : Nat) : Option (Nat × Option (Nat × Nat)) :=
        if m ≥ 256 then
          (if a = 0 then some (m - 240, none)
           else
             match ((List.range 16).filter (fun k => k ≠ pos && s.portUsable num k)).head? with
             | some k => some (k, some (16 * k + line, m - 240))
             | none => none)
        else if (if a = 0 then m / 16 else m % 16) = line then some (positionOf m a, none)
        else
          let cross := if a = 0 then 16 * line + m % 16 else 16 * (m / 16) + line
          let k := positionOf cross a
          if k ≠ pos && s.portUsable num k && s.portUsable (straightOf cross (1 - a)) (positionOf m (1 - a)) then
            some (k, some (cross, positionOf m (1 - a)))
          else none
      match nodes.mapM place1 with
      | none => none
      | some pl =>
        let mask := maskOf (pl.map (fun x => x.1))
        let relays := (pl.filterMap (fun x => x.2.map (fun r => r.1))).eraseDups
        let rel := relays.map (fun t =>
          let fwd := maskOf (pl.filterMap (fun x =>
            match x.2 with
            | some r => if r.1 = t then some r.2 else none
            | none => none))
          let loc := nodes.contains t
          (t, 72 * a + 4 * pos + g.rset, fwd + 2 ^ 18 * bitNat loc + 2 ^ 19))
        if bitOf mask pos || (!relays.isEmpty && !s.offers 4) then none
        else
          let e := mask + 2 ^ 18 * a + 2 ^ 19 * g.mode + 2 ^ 20 * bitNat (!relays.isEmpty) + 2 ^ 21 * g.rset + 2 ^ 23 +
            (if me ≥ 256 then 2 ^ 24 * line else 0)
          some (e, nodes.length, rel)
  | _, _ => none

/-- A reduction tree (R273): for every router on it, its output port, input mask and local contributing slots; none where
a route is missing or a hub would be crossed. -/
def treeGrow (out : Nat → Bool → Option Nat) (link : Nat → Nat → Option (Nat × Nat × Bool)) (root fuel : Nat)
    (work : List (Nat × Bool)) (nodes : NMap Bool) : Option (NMap Bool) :=
  match fuel with
  | 0 => none
  | fuel + 1 =>
    match work with
    | [] => some nodes
    | (n, down) :: rest =>
      let known := NMap.find nodes n
      let now := down || known.getD false
      if known = some now then treeGrow out link root fuel rest nodes
      else if n = root then treeGrow out link root fuel rest (NMap.put nodes n now)
      else
        match out n now with
        | none => none
        | some p =>
          match link n p with
          | none => none
          | some (m, _, isDown) =>
            if m ≥ 256 then none else treeGrow out link root fuel ((m, isDown) :: rest) (NMap.put nodes n now)

/-- The routers that a source's contribution passes, the root last. -/
def treeWalk (next : Nat → Option Nat) (fuel n : Nat) (seen : List Nat) : List Nat :=
  match fuel with
  | 0 => seen
  | fuel + 1 =>
    if seen.contains n then seen
    else
      match next n with
      | some m => treeWalk next fuel m (seen ++ [n])
      | none => seen ++ [n]

/-- The contributors' tiles with their slot masks and counts; a peer proxy contributes at the exit tile of the root's
row. -/
def Sys.rgSources (s : Sys) (place : NMap Nat) (root : Nat) (g : RGroup) : Option (List (Nat × Option Nat)) :=
  g.contributors.mapM (fun e =>
    if e < 0x0F00 then (NMap.find place (e / 16)).map (fun t => (t, some (e % 16)))
    else if 0x2000 ≤ e then
      (NMap.find s.lead.peers (e - 0x2000)).map (fun en => (exitTile (root / 16) (root % 16) en, none))
    else none)

/-- The router a group's tree is rooted at: the root window's tile, or the exit tile toward a peer's engine in the row of
the first contributor (R273, R433). -/
def Sys.rgRootTile (s : Sys) (place : NMap Nat) (g : RGroup) : Option Nat :=
  if 0x1000 ≤ g.root && g.root ≤ 0x10EF then NMap.find place (g.root - 0x1000)
  else if 0x2000 ≤ g.root then
    match NMap.find s.lead.peers (g.root - 0x2000), g.contributors.head? with
    | some en, some c => (NMap.find place (c / 16)).map (fun t => exitTile (t / 16) (t % 16) en)
    | _, _ => none
  else none

/-- A reduction group's descriptors (router, word 0, word 1) for a placement and route tables (R273, R281). -/
def Sys.rgBuild (s : Sys) (place : NMap Nat) (tables : NMap (NMap Nat)) (g : RGroup) : Option (List (Nat × Nat × Nat)) :=
  match s.rgRootTile place g with
  | none => none
  | some root =>
    match s.rgSources place root g with
    | none => none
    | some src =>
      let lv := s.meshNet.levels (256 + s.lead.hub)
      let out (n : Nat) (down : Bool) : Option Nat := rtSafe (NMap.get rtNone (NMap.get [] tables n) root) down
      let link (n p : Nat) : Option (Nat × Nat × Bool) :=
        match s.meshLive n p, neighbour n p with
        | some m, some (_, mp) => some (m, mp, !isUp lv n m)
        | _, _ => none
      match treeGrow out link root 4000 (src.map (fun x => (x.1, false))) [] with
      | none => none
      | some nodes =>
        let outOf (n : Nat) : Option Nat := if n = root then none else out n (NMap.get false nodes n)
        let next (n : Nat) : Option Nat := (outOf n).bind (fun p => (link n p).map (fun l => l.1))
        -- a router whose output turned from up to down leaves its old path, which no contribution takes
        let used := src.foldl (fun (seen : List Nat) x => treeWalk next 600 x.1 seen) []
        let nodes := nodes.filter (fun x => used.contains x.1)
        let ins (n : Nat) : Nat := maskOf (nodes.filterMap (fun x =>
          match outOf x.1 with
          | some p =>
            (match link x.1 p with
             | some (m, mp, _) => if m = n then some mp else none
             | none => none)
          | none => none))
        some (nodes.map (fun x =>
          let mine := src.filter (fun y => y.1 = x.1)
          let mask := maskOf (mine.filterMap (fun y => y.2))
          let w0 := g.group + 2 ^ 16 * g.op + 2 ^ 18 + 2 ^ 19 * bitNat (decide (x.1 = root)) + 2 ^ 20 * ((outOf x.1).getD 7) +
            2 ^ 23 * ins x.1 + 2 ^ 27 * mine.length
          (x.1, w0, mask + 2 ^ 16 * g.reserve)))

/-- The straight ports that an epoch's distance table finds unusable, noted as the epoch begins (R38). -/
def Sys.noteStraights (s : Sys) : Sys :=
  s.modLead (fun l => { l with straightsOut := (List.range 32).flatMap (fun n => (List.range (if n < 16 then 18 else 16)).filterMap
    (fun k => if s.portUsable n k then none else some (n, k))) })

/-- Hops from router `n` to router `d` by the route tables of the current epoch, at most 63: the first port of MIN, or the
safe route where MIN is empty (R38, R232, R235). Log entry 39. -/
def Sys.routeHops (s : Sys) (d fuel n : Nat) (down : Bool) : Nat :=
  if n = d then 0
  else
    match fuel with
    | 0 => 0
    | fuel + 1 =>
      let e := NMap.get (routeReset n) (s.replica n).mesh d
      let port := match (minPorts n e).head? with
        | some p => some (p, down)
        | none => (safePort n e down).map (fun p => (p, down || upIsDown n e))
      match port with
      | none => fuel + 1
      | some (p, down) =>
        match neighbour n p with
        | none => fuel + 1
        | some (m, _) => 1 + s.routeHops d fuel m down

/-- The straights an endpoint is on, with its position on each (R37, R38): a hub is on every row. -/
def straightsAt (n : Nat) : List (Nat × Nat) :=
  if n < 256 then [(n / 16, n % 16), (16 + n % 16, n / 16)] else (List.range 16).map (fun r => (r, n - 240))
/-- Two endpoints on one straight whose ports there the epoch found usable. -/
def sharesStraight (out : List (Nat × Nat)) (x y : Nat) : Bool :=
  (straightsAt x).any (fun a => !out.contains a && (straightsAt y).any (fun b => a.1 = b.1 && !out.contains b))

/-- The mesh hops between two endpoints of the distance table, the straights between them, and whether the route is a
detour (R38). Endpoints: logical tiles 0–239, 240 and 241 the hubs. -/
def Sys.distance (s : Sys) (a b : Nat) : Nat :=
  let node (i : Nat) : Option Nat := if i < 240 then s.physOf i else some (i + 16)
  if a = b then 0
  else
  match node a, node b with
  | some x, some y =>
    if x = y then 0
    else
      let hops := s.routeHops y 63 x false
      let row (n : Nat) : Option Nat := if n < 256 then some (n / 16) else none
      let col (n : Nat) : Int := if n < 256 then (n % 16 : Nat) else if n = 256 then -1 else 16
      let dr : Nat := match row x, row y with
        | some p, some q => if p < q then q - p else p - q
        | _, _ => 0
      let man := dr + (col x - col y).natAbs
      let out := s.lead.straightsOut
      let st := if sharesStraight out x y then 1
        else if (List.range 256).any (fun t => sharesStraight out x t && sharesStraight out t y) then 2
        else 3
      min 63 hops + 2 ^ 6 * st + 2 ^ 8 * bitNat (decide (hops > man))
  | _, _ => 63 + 2 ^ 6 * 3

/-- The Manhattan distance of two physical tiles. -/
def manhattan (a b : Nat) : Nat :=
  ((a / 16 : Nat) - (b / 16 : Nat) : Int).natAbs + ((a % 16 : Nat) - (b % 16 : Nat) : Int).natAbs

/-- The buddy of the in-service tile at `p` (R489). -/
def Sys.buddy (s : Sys) (p : Nat) : Option Nat :=
  let want := 255 - p
  let inService := s.lead.place.filter (fun x => !(s.tile x.2).shed)
  if inService.any (fun x => x.2 = want) then some want
  else
    let far := inService.filter (fun x => regionOfTile x.2 ≠ regionOfTile p)
    (far.foldl (fun (a : Option Nat) x =>
      match a with
      | none => some x.2
      | some b => if manhattan x.2 want < manhattan b want then some x.2 else some b) none)

/-- The dies that go with a tile, or with a hub, in the numbering of Config (R15). -/
def tileDies (n : Nat) : List Nat := if n < 256 then [n, 266 + n, 522 + n] else [n]
/-- A tile or hub that joins after the feature level is fixed: its dies' bitmaps include every bit of the level (R524). -/
def Sys.mayJoin (s : Sys) (n : Nat) : Bool :=
  !s.boot.fixed || (tileDies n).all (fun d => decide (Config.dieCaps d &&& s.boot.feature = s.boot.feature))

/-- The spare tiles that are powered, unshed and unused, and may be taken into service (R25, R524). -/
def Sys.freeSpares (s : Sys) : List Nat :=
  (List.range 256).filter (fun p =>
    !(s.tile p).shed && !(s.lead.place.any (fun x => x.2 = p)) && (s.router p).alive && (s.tile p).pwr.pgood && s.mayJoin p)

/-- Physical tiles that a switch still to come will place (R25). -/
def Sys.promised (s : Sys) : List Nat :=
  s.lead.recov.regrown.map (fun g => g.now_) ++ s.lead.swQueue.flatMap (fun l => l.map (fun c => c.2))

/-- The spare that takes over from a shed tile (R25). DESIGN CHOICE: from a failed position that no live tile link leaves,
every spare counts as equally far (log entry 39). -/
def Sys.spareFor (s : Sys) (p : Nat) (used : List Nat) : Option Nat :=
  let free := s.freeSpares.filter (fun q => !used.contains q)
  match free.find? (fun q => isSparePos q && regionOfTile q = regionOfTile p) with
  | some q => some q
  | none =>
    let hd := s.meshNet.hopDist p
    (free.foldl (fun (a : Option Nat) q =>
      match a with
      | none => some q
      | some b => if NMap.get 100000 hd q < NMap.get 100000 hd b then some q else some b) none)

end Sys2Proof.Machine
end

