-- ==== Sys2Proof/Machine/EpochOps.lean ====
section
/-! DEFINITION. The epoch switch at the lead hub and at the replicas, and the far-cache invalidation of a window close
(R30–R36, R242, R266, R277, R286, R317). -/

namespace Sys2Proof.Machine

/-- The tables one replica is to hold in an epoch. -/
structure Tables where
  mesh : NMap Nat := []
  tad : NMap Nat := []
  relay : NMap Nat := []
  mcast : NMap Nat := []
  members : NMap Nat := []
  rgW0 : NMap Nat := []
  rgW1 : NMap Nat := []
deriving DecidableEq, Repr

/-- A group's descriptor index at a router: the one it has, else the lowest free one (R273). -/
def rgIndex (w0 : NMap Nat) (g : Nat) : Option Nat :=
  match (List.range 64).find? (fun n => bitOf (NMap.get 0 w0 n) 18 && decide (bitsOf (NMap.get 0 w0 n) 15 0 = g)) with
  | some n => some n
  | none => (List.range 64).find? (fun n => !bitOf (NMap.get 0 w0 n) 18)

/-- The node that holds a group's sender entry: a tile, a hub's router, by tadpole address. -/
def Sys.holderNode (place : NMap Nat) (eid : Nat) : Option Nat := memberNode place eid

/-- What an epoch is to hold: the tables, the multicast groups with the relay sets they use, and the groups that cannot
be rebuilt: group, kind, holder (R263, R267, R374). -/
structure Target where
  tables : NMap Tables := []
  mcs : List McGroup := []
  invalid : List (Nat × Nat × Nat) := []
deriving DecidableEq, Repr

/-- A multicast group's entries added, with its own relay set where that is free, else the first that is; a group that
none serves is left invalid (R263, R267). -/
def Sys.targetMc (s : Sys) (place : NMap Nat) (b : Target) (g : McGroup) : Target :=
  let fits (r : Nat) : Option (McGroup × Nat × Nat × List (Nat × Nat × Nat)) :=
    let g := { g with rset := r }
    match s.mcBuild place g with
    | some (e, count, rel) =>
      if rel.all (fun x => !bitOf (NMap.get 0 (NMap.get {} b.tables x.1).relay x.2.1) 19) then some (g, e, count, rel) else none
    | none => none
  match Sys.holderNode place g.holder, (g.rset :: [0, 1, 2, 3]).findSome? fits with
  | some h, some (g, e, count, rel) =>
    let t := NMap.modify {} b.tables h (fun t =>
      { t with mcast := NMap.put t.mcast g.group e, members := NMap.put t.members g.group count })
    let t := rel.foldl (fun t r => NMap.modify {} t r.1 (fun x => { x with relay := NMap.put x.relay r.2.1 r.2.2 })) t
    { b with tables := t, mcs := b.mcs ++ [g] }
  | _, _ => { b with mcs := b.mcs ++ [g], invalid := b.invalid ++ [(g.group, 0, g.holder)] }

/-- A descriptor's index at a router: the one the router has for the group, else one free in both epochs (R277). -/
def rgSlot (held new : NMap Nat) (g : Nat) : Option Nat :=
  match (List.range 64).find? (fun n => bitOf (NMap.get 0 held n) 18 && decide (bitsOf (NMap.get 0 held n) 15 0 = g)) with
  | some n => some n
  | none => (List.range 64).find? (fun n => !bitOf (NMap.get 0 held n) 18 && !bitOf (NMap.get 0 new n) 18)

/-- A reduction group's descriptors added where every router of its tree has a free one and the slots; else the group is
left invalid (R267, R273). -/
def Sys.targetRg (s : Sys) (place : NMap Nat) (mesh : NMap (NMap Nat)) (b : Target) (g : RGroup) : Target :=
  let at_ (n : Nat) : Tables := NMap.get {} b.tables n
  let room (n : Nat) : Bool :=
    (rgSlot (s.replica n).rgW0 (at_ n).rgW0 g.group).isSome &&
      decide (((at_ n).rgW1.map (fun w => bitsOf w.2 19 16)).foldl (· + ·) 0 + g.reserve ≤ 32)
  match s.rgBuild place mesh g with
  | some l =>
    if l.all (fun x => room x.1) then
      { b with tables := l.foldl (fun t x => NMap.modify {} t x.1 (fun y =>
          match rgSlot (s.replica x.1).rgW0 y.rgW0 g.group with
          | some n => { y with rgW0 := NMap.put y.rgW0 n x.2.1, rgW1 := NMap.put y.rgW1 n x.2.2 }
          | none => y)) b.tables }
    else { b with invalid := b.invalid ++ [(g.group, 1, 0)] }
  | none => { b with invalid := b.invalid ++ [(g.group, 1, 0)] }

/-- Every replica's tables for a placement (R232, R264, R267, R273, R291). Groups that name no moved tile go first, so
that they keep their relay sets. -/
def Sys.targetTables (s : Sys) (place : NMap Nat) : Target :=
  let mesh := s.meshTables
  let tad := s.tadTables
  let base : Target :=
    { tables := (List.range 266).map (fun n => (n, { mesh := NMap.get [] mesh n, tad := NMap.get [] tad n })) }
  let moved (g : McGroup) : Bool := (g.holder :: g.members).any (fun e => memberNode place e ≠ memberNode s.lead.place e)
  let b := (s.lead.mcs.filter (fun g => !moved g)).foldl (fun b g => s.targetMc place b g) base
  let b := (s.lead.mcs.filter moved).foldl (fun b g => s.targetMc place b g) b
  s.lead.rgs.foldl (fun b g => s.targetRg place mesh b g) b

/-- Entries of two tables that differ: TABLE, INDEX, VALUE. -/
def tableDiff (table size dflt : Nat) (old new : NMap Nat) : List (Nat × Nat × Nat) :=
  (List.range size).filterMap (fun i =>
    if NMap.get dflt old i = NMap.get dflt new i then none else some (table, i, NMap.get dflt new i))

/-- The ROUTE entries a replica needs to come from what it holds to `t` (R286). -/
def Replica.diff (r : Replica) (n : Nat) (useShadow : Bool) (t : Tables) : List (Nat × Nat × Nat) :=
  let pick (a b : NMap Nat) : NMap Nat := if useShadow then b else a
  let m := tableDiff 1 268 0 (pick r.tad r.tadShd) t.tad
  if n ≥ 258 then
    m ++ tableDiff 3 64 0 (pick r.mcast r.mcastShd) t.mcast ++ tableDiff 4 64 0 (pick r.members r.membersShd) t.members
  else
    tableDiff 0 266 (routeReset n) (pick r.mesh r.meshShd) t.mesh ++ m ++ tableDiff 2 144 0 (pick r.relay r.relayShd) t.relay ++
      tableDiff 3 64 0 (pick r.mcast r.mcastShd) t.mcast ++ tableDiff 4 64 0 (pick r.members r.membersShd) t.members ++
      tableDiff 5 64 rgEmpty (pick r.rgW0 r.rgW0Shd) t.rgW0 ++ tableDiff 6 64 0 (pick r.rgW1 r.rgW1Shd) t.rgW1

/-- The PREPARE payloads of a list of changes: four pairs each (R286). Log entry 42. -/
def preparePayloads (fuel : Nat) (l : List (Nat × Nat)) : List Nat :=
  match fuel with
  | 0 => []
  | fuel + 1 =>
    if l.isEmpty then []
    else
      let four := l.take 4
      let v := (List.range 4).foldl (fun a i =>
        let (x, y) := four.getD i (0xFF, 0xFF)
        a + (x % 256 + 256 * (y % 256)) * 2 ^ (16 * i)) 0
      v :: preparePayloads fuel (l.drop 4)

/-- Changes as the pairs of a PREPARE carry them: a pair that repeats the tile an entry already names takes the entry out
of use, since a logical tile may be left with no live tile (R286, R493). Log entry 42. -/
def wireChanges (place : NMap Nat) (ch : List (Nat × Nat)) : List (Nat × Nat) :=
  ch.filterMap (fun c => if c.2 < 256 then some c else (NMap.find place c.1).map (fun p => (c.1, p)))

/-- The placement after changes; physical tile 255 with logical 255 is an unused pair, 256 means no tile. -/
def applyChanges (place : NMap Nat) (ch : List (Nat × Nat)) : NMap Nat :=
  ch.foldl (fun m c => if c.2 < 256 then NMap.put m c.1 c.2 else NMap.erase m c.1) place

/-- Entries of a translation table that differ from a placement, as PREPARE pairs: for a replica that may have missed a
switch (R30, R286). Log entry 42. -/
def ettDiff (ett place : NMap Nat) : List (Nat × Nat) :=
  (List.range 240).filterMap (fun l =>
    let have_ := NMap.get 0 ett l
    match NMap.find place l with
    | some p => if have_ = p + 256 then none else some (l, p)
    | none => if have_ = 0 then none else some (l, have_ % 256))

/-- The pairs that bring replica `n` to a placement: the switch's changes, or all that differs where it is stale. -/
def Sys.pairsFor (s : Sys) (n : Nat) (ch : List (Nat × Nat)) : List (Nat × Nat) :=
  if (s.replica n).stale then ettDiff (s.replica n).ett (applyChanges s.lead.place ch) else wireChanges s.lead.place ch

/-- The EPOCH messages that prepare one replica (R286). -/
def prepareMsgs (n e : Nat) (changes : List (Nat × Nat)) (routes : List (Nat × Nat × Nat)) : List TMsg :=
  let base : TMsg := { dst := n, type := 0x18, urgent := true, tag := e }
  let p := (preparePayloads 64 changes).map (fun v => { base with sub := 1, payload := v })
  let k := routes.length
  let r := routes.mapIdx (fun i x =>
    { base with sub := 7, payload := x.2.1 + 2 ^ 16 * x.1 + 2 ^ 24 * (x.2.2 % 2 ^ 32) + 2 ^ 63 * bitNat (decide (i + 1 = k)) })
  p ++ (if k = 0 then [{ base with sub := 7, payload := 7 * 2 ^ 16 + 2 ^ 63 }] else r)

/-- The live translation replicas: tile routers, hubs and engines (R30, R33). -/
def Sys.liveReplicas (s : Sys) : List Nat :=
  (List.range 266).filter (fun n =>
    (s.tad n).alive && (if n < 258 then (s.router n).alive else (s.engine (n - 258)).live) &&
      (256 > n || 257 < n || (s.hub (n - 256)).live))

/-- The lead hub's tadpole address. -/
def Sys.leadAddr (s : Sys) : Nat := 256 + s.lead.hub
/-- Messages sent by the lead hub. -/
def Sys.sendAll (s : Sys) (l : List TMsg) : Sys := l.foldl (fun s m => s.sendMsg s.leadAddr m) s

/-- No slot of the partition runs laps (R33). -/
def Sys.partFrozen (s : Sys) (p : Nat) : Bool :=
  (s.partPhys p).all (fun t => (s.tile t).slots.all (fun k => k.2.state ≠ .lapRunning || (s.tile t).shed))

/-- The partitions that own one of the logical tiles. -/
def Sys.partsOf (s : Sys) (l : List Nat) : List Nat :=
  (s.lead.partitions.filter (fun p => l.any (fun n => bitOf p.2.tiles n))).map (fun p => p.1)

/-- The lead hub starts the next epoch switch: PREPARE to every live replica (R33, R286). -/
def Sys.epochSwitchStart (s : Sys) : Sys :=
  match s.lead.swQueue with
  | [] => s
  | ch :: rest =>
    if s.lead.sw.isSome || !((s.partsOf (ch.map (fun c => c.1))).all (fun p => s.partFrozen p)) then s
    else
      let e := (s.lead.epoch + 1) % 256
      let live := s.liveReplicas
      let place := applyChanges s.lead.place ch
      let target := s.targetTables place
      let routes : NMap (List (Nat × Nat × Nat)) := live.map (fun n => (n, (s.replica n).diff n false (NMap.get {} target.tables n)))
      let msgs := live.map (fun n => (n, prepareMsgs n e (s.pairsFor n ch) (NMap.get [] routes n)))
      let sw : Switch :=
        { epoch := e, phase := 1, changes := ch, routes := routes, wait := live, since := s.now
          sent := msgs.map (fun m => (m.1, m.2.length)), mcs := target.mcs, invalid := target.invalid }
      let s := s.modLead (fun l => { l with sw := some sw, swQueue := rest })
      msgs.foldl (fun s m => s.sendAll m.2) s

/-- The first PREPARE or ROUTE of a switch copies the active bank into the shadow bank (R286). -/
def Replica.beginShadow (r : Replica) : Replica :=
  if r.shdValid then { r with got := r.got + 1 }
  else
    { r with
      ettShd := r.ett, meshShd := r.mesh, tadShd := r.tad, relayShd := r.relay, mcastShd := r.mcast
      membersShd := r.members, rgW0Shd := r.rgW0, rgW1Shd := r.rgW1, rgRootShd := r.rgRoot, shdValid := true, got := 1 }

/-- The first EPOCH message to a replica that has not been taken, where it is a `sub`: they are taken in the order in
which they came (R286, R288). -/
def Sys.takeEpoch (s : Sys) (n sub : Nat) : Option (TMsg × Sys) :=
  match s.takeMsg n (fun m => m.type = 0x18 && [1, 3, 6, 7, 8].contains m.sub) with
  | some (m, t) => if m.sub = sub then some (m, t) else none
  | none => none

/-- A PREPARE at replica `n`: the pairs of its payload written into the shadow translation table (R286). -/
def Sys.prepare (s : Sys) (n : Nat) : Sys :=
  match s.takeEpoch n 1 with
  | none => s
  | some (m, s) =>
    let r := (s.replica n).beginShadow
    let ett := (List.range 4).foldl (fun t i =>
      let a := byteOf m.payload (2 * i)
      let b := byteOf m.payload (2 * i + 1)
      if a = 0xFF then t else NMap.put t a (if NMap.get 0 r.ett a = b + 256 then 0 else b + 256)) r.ettShd
    s.setReplica n { r with ettShd := ett }

/-- One ROUTE entry written into a shadow bank (R286). -/
def Replica.writeShadow (r : Replica) (groups : List RGroup) (table i v : Nat) : Replica :=
  match table with
  | 0 => { r with meshShd := NMap.put r.meshShd i v }
  | 1 => { r with tadShd := NMap.put r.tadShd i v }
  | 2 => { r with relayShd := NMap.put r.relayShd i v }
  | 3 => { r with mcastShd := NMap.put r.mcastShd i v }
  | 4 => { r with membersShd := NMap.put r.membersShd i v }
  | 5 =>
    let root := match groups.find? (fun g => g.group = bitsOf v 15 0) with
      | some g => NMap.put r.rgRootShd i (g.root, g.window, g.gen)
      | none => r.rgRootShd
    { r with rgW0Shd := NMap.put r.rgW0Shd i v, rgRootShd := root }
  | 6 => { r with rgW1Shd := NMap.put r.rgW1Shd i v }
  | _ => r

/-- A ROUTE at replica `n`; the last one is answered with PREPARE_ACK (R286). -/
def Sys.routeMsg (s : Sys) (n : Nat) : Sys :=
  match s.takeEpoch n 7 with
  | none => s
  | some (m, s) =>
    let r := ((s.replica n).beginShadow).writeShadow s.lead.rgs (bitsOf m.payload 23 16) (bitsOf m.payload 15 0) (bitsOf m.payload 55 24)
    let s := s.setReplica n r
    if bitOf m.payload 63 then
      s.sendMsg n { dst := m.src, type := 0x18, urgent := true, sub := 2, tag := m.tag, payload := r.got % 2 ^ 16 }
    else s

/-- The live replicas that a switch has prepared; one that came back during it takes part in the next. -/
def Sys.swReplicas (s : Sys) (sw : Switch) : List Nat := s.liveReplicas.filter (fun n => (NMap.find sw.routes n).isSome)

/-- COMMIT to every replica that remains (R33). -/
def Sys.sendCommit (s : Sys) (sw : Switch) : Sys :=
  let live := s.swReplicas sw
  let s := s.modLead (fun l => { l with sw := some { sw with phase := 2, wait := live, drained := [], since := s.now } })
  s.sendAll (live.map (fun n => { dst := n, type := 0x18, urgent := true, sub := 3, tag := sw.epoch }))

/-- A PREPARE_ACK at the lead hub (R33, R286). Log entry 42. -/
def Sys.prepareAck (s : Sys) : Sys :=
  match s.takeMsg s.leadAddr (fun m => m.type = 0x18 && m.sub = 2) with
  | none => s
  | some (m, s) =>
    match s.lead.sw with
    | none => s
    | some sw =>
      if sw.phase ≠ 1 || sw.epoch ≠ m.tag then s
      else if bitsOf m.payload 15 0 ≠ NMap.get 0 sw.sent m.src % 65536 then
        let msgs := prepareMsgs m.src sw.epoch (s.pairsFor m.src sw.changes) (NMap.get [] sw.routes m.src)
        let sw := { sw with sent := NMap.put sw.sent m.src (bitsOf m.payload 15 0 + msgs.length), since := s.now }
        (s.modLead (fun l => { l with sw := some sw })).sendAll msgs
      else
        let sw := { sw with wait := sw.wait.filter (fun n => n ≠ m.src) }
        if sw.wait.isEmpty then s.sendCommit sw else s.modLead (fun l => { l with sw := some sw })

/-- A tile taken out: its router counts as failed for routes, its ports are fenced, it holds no logical number any more
(R268, R484). -/
def Sys.fenceTile (s : Sys) (t : Nat) : Sys :=
  let s := s.modTile t (fun x => { x with shed := true })
  [0, 1].foldl (fun s a =>
    let n := straightOf t a
    let st := s.straight n
    s.setStraight n (st.setPort (positionOf t a) { st.port (positionOf t a) with fenced := true })) s

/-- The replica has been silent for 50 µs (R34). -/
def Sys.ackLate (s : Sys) (n : Nat) : Bool :=
  match s.lead.sw with
  | some sw => decide (sw.phase = 1) && sw.wait.contains n && decide (s.now ≥ sw.since + 50000)
  | none => false

/-- A silent replica is treated as failed: its tile is shed within the same switch and the others are prepared again
(R34). -/
def Sys.prepareAckTimeout (s : Sys) (n : Nat) : Sys :=
  match s.lead.sw with
  | none => s
  | some sw =>
    if !s.ackLate n then s
    else
      let s := if n < 256 then (s.fenceTile n).killRouter n else if n < 258 then s.killRouter n else s
      let s := s.setTad n { s.tad n with alive := false }
      let planned := applyChanges s.lead.place sw.changes
      let extra := (planned.filter (fun x => x.2 = n && n < 256)).map (fun x =>
        (x.1, (s.spareFor n (planned.map (fun y => y.2) ++ s.promised)).getD 256))
      let changes := sw.changes ++ extra
      let target := s.targetTables (applyChanges s.lead.place changes)
      let live := s.swReplicas sw
      let routes : NMap (List (Nat × Nat × Nat)) :=
        live.map (fun m => (m, (s.replica m).diff m (s.replica m).shdValid (NMap.get {} target.tables m)))
      let msgs := live.map (fun m => (m, prepareMsgs m sw.epoch
        (if (s.replica m).stale then s.pairsFor m changes else wireChanges s.lead.place extra) (NMap.get [] routes m)))
      let sent := msgs.foldl (fun a m => NMap.put a m.1 (NMap.get 0 sw.sent m.1 + m.2.length)) sw.sent
      let sw := { sw with
        changes := changes, routes := routes, wait := live, since := s.now, sent := sent, mcs := target.mcs
        invalid := target.invalid }
      let s := s.modLead (fun l => { l with sw := some sw })
      msgs.foldl (fun s m => s.sendAll m.2) s

/-- The ports in the mask of a STREAM-mode group entry or a relay entry that changes at replica `n`, in the old entry's
and the new one's straight (R266): straight, mask. A hub's and an engine's entries name the straight (R280). -/
def streamChanges (n : Nat) (r : Replica) : List (Nat × Nat) :=
  let on (e : Nat) : List (Nat × Nat) :=
    if bitOf e 19 && bitOf e 23 then
      [(if n < 256 then straightOf n (bitsOf e 18 18) else if n < 258 then bitsOf e 27 24 else 16 + bitsOf e 27 24, bitsOf e 17 0)]
    else []
  let groups := (List.range 64).flatMap (fun i =>
    let a := NMap.get 0 r.mcast i
    let b := NMap.get 0 r.mcastShd i
    if a = b then [] else on a ++ on b)
  let relays := (List.range 144).filterMap (fun i =>
    let a := NMap.get 0 r.relay i
    let b := NMap.get 0 r.relayShd i
    if a ≠ b && n < 256 then some (straightOf n (1 - i / 72), bitsOf (a ||| b) 17 0) else none)
  groups ++ relays

/-- A replica makes its shadow bank active (R33, R242, R266, R286). -/
def Sys.commitReplica (s : Sys) (n e : Nat) : Sys :=
  let r := s.replica n
  let clear := streamChanges n r
  let s := clear.foldl (fun s c =>
    (setBits c.2 16).foldl (fun s k =>
      let st := s.straight c.1
      s.setStraight c.1 (st.setPort k ((st.port k).unlatch true))) s) s
  let r' := { r with
    cur := e, old := (e + 255) % 256, stale := false, draining := true, drainSent := false, shdValid := true
    ett := r.ettShd, ettShd := r.ett, mesh := r.meshShd, meshShd := r.mesh, tad := r.tadShd, tadShd := r.tad
    relay := r.relayShd, relayShd := r.relay, mcast := r.mcastShd, mcastShd := r.mcast
    members := r.membersShd, membersShd := r.members, rgW0 := r.rgW0Shd, rgW0Shd := r.rgW0
    rgW1 := r.rgW1Shd, rgW1Shd := r.rgW1, rgRoot := r.rgRootShd, rgRootShd := r.rgRoot }
  let s := s.setReplica n r'
  let s := s.setTad n { s.tad n with rgen := decide (e % 2 = 1), draining := true }
  if n < 256 then
    let me := (List.range 240).find? (fun l => NMap.get 0 r'.ett l = 256 + n)
    s.modTile n (fun t => { t with logical := me })
  else s

/-- COMMIT at replica `n`, answered with COMMIT_ACK (R33). One that the replica has already followed comes from a new lead
hub, which is then told again when the router has drained (R36; log entry 42). -/
def Sys.commitMsg (s : Sys) (n : Nat) : Sys :=
  match s.takeEpoch n 3 with
  | none => s
  | some (m, s) =>
    let r := s.replica n
    let s := if r.cur = m.tag && !r.stale then s.setReplica n { r with drainSent := false } else s.commitReplica n m.tag
    s.sendMsg n { dst := m.src, type := 0x18, urgent := true, sub := 4, tag := m.tag }

/-- RETIRE to every live replica, where every router has drained; the switch is over (R33). -/
def Sys.tryRetire (s : Sys) : Sys :=
  match s.lead.sw with
  | none => s
  | some sw =>
    if sw.phase = 3 && ((s.swReplicas sw).filter (fun n => n < 258)).all (fun n => sw.drained.contains n) then
      let s := s.modLead (fun l => { l with sw := none })
      s.sendAll ((s.swReplicas sw).map (fun n => { dst := n, type := 0x18, urgent := true, sub := 6, tag := (sw.epoch + 255) % 256 }))
    else s

/-- A position that an epoch takes its logical number from holds none, though its router may be dead (R24). -/
def Sys.dropNumbers (s : Sys) : Sys :=
  { s with tiles := s.tiles.map (fun t =>
      match t.2.logical with
      | some l => if NMap.find s.lead.place l = some t.1 then t else (t.1, { t.2 with logical := none })
      | none => t) }

/-- The multicast groups as a switch leaves them, with the relay sets it gave them (R267). -/
def Switch.groups (sw : Switch) (l : List McGroup) : List McGroup :=
  l.map (fun g => (sw.mcs.find? (fun h => h.holder = g.holder && h.group = g.group && h.members = g.members)).getD g)

/-- The wait for COMMIT_ACKs less replica `n` and those no longer live; after the last, the panel's epoch changes and the
groups it leaves invalid are known (R33, R263, R374, R538, R542, R545). -/
def Sys.acked (s : Sys) (sw : Switch) (n : Nat) : Sys :=
  let live := s.swReplicas sw
  let sw := { sw with wait := sw.wait.filter (fun k => k ≠ n && live.contains k) }
  if !sw.wait.isEmpty then s.modLead (fun l => { l with sw := some sw })
  else
    let s := s.modLead (fun l => { l with
      sw := some { sw with phase := 3 }, epoch := sw.epoch, switches := satAdd 16 l.switches 1
      place := applyChanges l.place sw.changes, mcs := sw.groups l.mcs, invalid := sw.invalid })
    let s := ((s.dropNumbers.noteStraights).eventBoth 1).log 0x0010 0 0 0 0 sw.epoch
    s.tryRetire

/-- A COMMIT_ACK at the lead hub (R33). -/
def Sys.commitAck (s : Sys) : Sys :=
  match s.takeMsg s.leadAddr (fun m => m.type = 0x18 && m.sub = 4) with
  | none => s
  | some (m, s) =>
    match s.lead.sw with
    | none => s
    | some sw => if sw.phase ≠ 2 || sw.epoch ≠ m.tag then s else s.acked sw m.src

/-- A router with no old-epoch packet left sends EPOCH_DRAINED (R242). -/
def Sys.drainCountZero (s : Sys) (n : Nat) : Sys :=
  let r := s.replica n
  if r.draining && !r.drainSent && s.oldCount n = 0 then
    (s.setReplica n { r with drainSent := true }).sendMsg n
      { dst := s.leadAddr, type := 0x18, urgent := true, sub := 5, tag := r.old }
  else s

/-- An EPOCH_DRAINED at the lead hub (R33). -/
def Sys.epochDrained (s : Sys) : Sys :=
  match s.takeMsg s.leadAddr (fun m => m.type = 0x18 && m.sub = 5) with
  | none => s
  | some (m, s) =>
    match s.lead.sw with
    | none => s
    | some sw =>
      if (sw.epoch + 255) % 256 ≠ m.tag then s
      else (s.modLead (fun l => { l with sw := some { sw with drained := sw.drained ++ [m.src] } })).tryRetire

/-- 50 µs after COMMIT a router has not drained, or a replica has not answered (R34). -/
def Sys.drainLate (s : Sys) (n : Nat) : Bool :=
  match s.lead.sw with
  | some sw => decide (s.now ≥ sw.since + 50000) &&
      ((decide (2 ≤ sw.phase) && !sw.drained.contains n && decide (n < 258)) || (decide (sw.phase = 2) && sw.wait.contains n))
  | none => false
/-- RETIRE at replica `n`: the old bank is discarded, changed reduction groups lose their open slots (R33, R277). -/
def Sys.retireMsg (s : Sys) (n : Nat) : Sys :=
  match s.takeEpoch n 6 with
  | none => s
  | some (_, s) =>
    let r := s.replica n
    let changed := (List.range 64).filterMap (fun i =>
      if NMap.get 0 r.rgW0 i = NMap.get 0 r.rgW0Shd i && NMap.get 0 r.rgW1 i = NMap.get 0 r.rgW1Shd i then none else some i)
    let changed := changed.flatMap (fun i =>
      [NMap.get 0 r.rgW0Shd i, NMap.get 0 r.rgW0 i].filterMap (fun w => if bitOf w 18 then some (bitsOf w 15 0) else none))
    let s := if changed.isEmpty then s else s.purgeGroups n changed
    let s := s.setReplica n { r.noShadow with draining := false, drainSent := false, old := r.cur }
    s.setTad n { s.tad n with draining := false }

/-- GROUP_PURGE at router `n` (R277, R286). -/
def Sys.groupPurge (s : Sys) (n : Nat) : Sys :=
  match s.takeEpoch n 8 with
  | none => s
  | some (m, s) =>
    s.purgeGroups n ((List.range (bitsOf m.payload 49 48)).map (fun i => bitsOf m.payload (16 * i + 15) (16 * i)))

/-- GROUP_PURGE broadcast for a list of groups, three to a message (R277, R286). -/
def groupPurgeMsgs (fuel : Nat) (l : List Nat) : List TMsg :=
  match fuel with
  | 0 => []
  | fuel + 1 =>
    if l.isEmpty then []
    else
      let g := l.take 3
      { dst := 0x3FF, type := 0x18, urgent := true, sub := 8
        payload := g.getD 0 0 + 2 ^ 16 * g.getD 1 0 + 2 ^ 32 * g.getD 2 0 + 2 ^ 48 * g.length } ::
        groupPurgeMsgs fuel (l.drop 3)

/-- The far-cache invalidation of a closing CRO window: broadcast to the tiles (R317). -/
def Sys.sendInvalidate (s : Sys) (eid win gen : Nat) : Sys :=
  let tiles := s.liveReplicas.filter (fun n => n < 256)
  let s := s.modLead (fun l => { l with invals := l.invals ++ [(eid, win, gen, tiles, s.now)] })
  s.sendMsg s.leadAddr { dst := 0x3FF, type := 0x1C, urgent := true, payload := eid + 2 ^ 16 * win + 2 ^ 24 * gen }

/-- INVALIDATE at a tile (R317). -/
def Sys.invalidateMsg (s : Sys) (t : Nat) : Sys :=
  match s.takeMsg t (fun m => m.type = 0x1C) with
  | none => s
  | some (m, s) => s.onTile t (fun x => x.invalidate (bitsOf m.payload 15 0) (bitsOf m.payload 23 16) (bitsOf m.payload 31 24) m.tag)

/-- A tile's sweep of its far-cache lines ends and is answered (R317). -/
def Sys.invalidateSweepDone (s : Sys) (t : Nat) : Sys :=
  if t < 256 then
    let (r, s) := s.askTile t (fun x => x.sweepDone)
    match r with
    | some (eid, win, gen, tag) =>
      s.sendMsg t { dst := s.leadAddr, type := 0x1D, urgent := true, tag := tag, payload := eid + 2 ^ 16 * win + 2 ^ 24 * gen }
    | none => s
  else s

/-- A tile's answer, or its silence, taken off the list of a close: the closes that are now complete, and the state. -/
def Sys.invalDone (s : Sys) (key : Nat × Nat × Nat) (t : Nat) : Bool × Sys :=
  let upd := s.lead.invals.map (fun i =>
    if (i.1, i.2.1, i.2.2.1) = key then (i.1, i.2.1, i.2.2.1, i.2.2.2.1.filter (fun x => x ≠ t), i.2.2.2.2) else i)
  let done := upd.any (fun i => (i.1, i.2.1, i.2.2.1) = key && i.2.2.2.1.isEmpty)
  let keep := upd.filter (fun i => !((i.1, i.2.1, i.2.2.1) = key && i.2.2.2.1.isEmpty))
  (done, s.modLead (fun l => { l with invals := keep }))

end Sys2Proof.Machine
end

