-- ==== Sys2Proof/Machine/TileCmdOps.lean ====
section
/-! DEFINITION. What the tile control block does for commands: regions, fills, store reads and writes, code and weight
loads, windows (R100, R110, R111, R153–R161, R299–R301, R313, R314, R316, R382–R386). -/

namespace Sys2Proof.Machine

/-- What a command comes to at its target: status, offending field index, result (R367, R368). -/
structure Ans where
  status : Nat := 0
  field : Nat := 0
  result : Nat := 0
deriving DecidableEq, Repr

/-- INVALID_FIELD naming a field. -/
def Ans.bad (i : Nat) : Ans := { status := stInvalidField, field := i }

/-- Two runs of rows overlap. -/
def runsMeet (a n b m : Nat) : Bool := decide (a < b + m) && decide (b < a + n) && decide (0 < n) && decide (0 < m)

/-- The refusals of REGION_DEFINE but for the mirror's buddy (R156, R382), lowest index first. -/
def TX.regionRefused (x : TX) (n : Nat) (r : Region) : Option Nat :=
  let s := x.tile.store
  firstFail
    [(8, decide (n < 64) && (s.region n).isNone),
     (10, !(r.mirror && (r.cls = 1 || r.cls = 3))),
     (12, decide (r.base + r.span ≤ 262144) && !(s.valid.any (fun p => runsMeet p.2.base p.2.span r.base r.span)) &&
       !(s.holes.any (fun h => decide (r.base ≤ h.row) && decide (h.row < r.base + r.span)))),
     (16, r.size ≠ 0 && (r.cls ≠ 1 || r.size % 8 = 0))]

/-- A region entered in the table, with its zero fill where INIT is asked for (R156, R161). -/
def TX.regionPut (x : TX) (n : Nat) (r : Region) (fill : Bool) : TX :=
  let s := x.tile.store
  let s := { s with regions := NMap.put s.regions n { r with valid := true, init := false } }
  x.setStore (if fill then { s with fills := s.fills ++ [{ region := n, first := 0, count := r.size, setInit := true }] } else s)

/-- The lowest free region number of a tile, and the lowest store row at which a span fits (R159). -/
def Store.freeNumber (s : Store) : Option Nat := (List.range 64).find? (fun n => (s.region n).isNone)
def Store.freeBase (s : Store) (span : Nat) : Option Nat :=
  let ends := 0 :: (s.valid.map (fun p => p.2.base + p.2.span) ++ s.holes.map (fun h => h.row + 1))
  let fits (b : Nat) : Bool :=
    decide (b + span ≤ 262144) && !(s.valid.any (fun p => runsMeet p.2.base p.2.span b span)) &&
      !(s.holes.any (fun h => decide (b ≤ h.row) && decide (h.row < b + span)))
  ((ends.filter fits).foldl (fun (a : Option Nat) b => match a with
    | none => some b
    | some c => some (min b c)) none)

/-- A pacer stream of the tile uses region `n` as its source or ring (R157). -/
def Stream.uses (st : Stream) (n : Nat) : Bool :=
  match st.setDesc with
  | some c => st.state ≠ .idle && (refRegion (pRing c) = n || (pKind c = 0 && refRegion (pSrc c) = n))
  | none => false

/-- Region `n` is referenced (R157). -/
def TX.regionBusy (x : TX) (n : Nat) (r : Region) : Bool :=
  x.tile.wins.table.any (fun p => (p.2.isOpen || p.2.closing) && p.2.region = n) ||
  x.tile.slots.any (fun s => s.2.streams.any (fun st => st.2.uses n)) ||
  (List.range 16).any (fun k =>
    let v := x.source k
    (bitOf v 6 && bitsOf v 5 0 = n) || (bitOf v 14 && bitsOf v 13 8 = n)) ||
  (setBits r.owner 16).any (fun k => (x.slot k).state = .lapRunning || (x.slot k).state = .lapFrozen)

/-- REGION_RELEASE (R157, R382): accepted, or refused. A SHADOW region is the firmware's own. Log entry 53. -/
def TX.regionRelease (x : TX) (n part : Nat) : Ans × TX :=
  match x.tile.store.region n with
  | none => (Ans.bad 8, x)
  | some r =>
    if r.shadow || r.partition ≠ part then ({ status := stNotPermitted, field := 8 }, x)
    else if x.regionBusy n r then ({ status := stBusy }, x)
    else
      let s := x.tile.store
      ({}, x.setStore { s with regions := NMap.put s.regions n { r with releasing := true } })

/-- Checks shared by the store commands (R383, R314): the region, the run of rows, the write lock. -/
def TX.storeCheck (x : TX) (n first rows : Nat) (write fill : Bool) : Option Ans :=
  match x.tile.store.region n with
  | none => some (Ans.bad 8)
  | some r =>
    if first + rows > r.size || (fill && r.cls = 1 && (first % 8 ≠ 0 || rows % 8 ≠ 0)) then some (Ans.bad 12)
    else if write && (List.range rows).any (fun i => x.tile.croLocked n (first + i)) then some { status := stNotPermitted }
    else none

/-- STORE_FILL is queued (R160, R161, R383). -/
def TX.storeFill (x : TX) (n first rows pattern : Nat) : TX :=
  let s := x.tile.store
  x.setStore { s with fills := s.fills ++ [{ region := n, first := first, count := rows, pattern := pattern }] }

/-- STORE_READ (R383): the rows read from the first onward, and how many of them are poisoned. -/
def TX.storeRead (x : TX) (n first rows : Nat) : (List Nat × Nat) × TX :=
  let r := (List.range rows).foldl (fun (a : List Nat × Nat × TX) i =>
    let (v, p, x) := a.2.2.readRegionRow n (first + i) 19
    (v :: a.1, a.2.1 + bitNat p, x)) ([], 0, x)
  ((r.1.reverse, r.2.1), r.2.2)

/-- STORE_WRITE of the rows given, from `first` onward (R383, R182, R183). -/
def TX.storeWrite (x : TX) (n first : Nat) (rows : List Nat) : TX :=
  x.writeRows n 19 ((List.range rows.length).zip rows |>.map (fun p => (first + p.1, p.2, false)))

/-- The region of a CODE_LOAD (R384). -/
def TX.codeRegionOk (x : TX) (n : Nat) : Bool :=
  match x.tile.store.region n with
  | some r => r.cls = 2 && decide (r.size ≥ 192)
  | none => false

/-- The slot's code image is loaded into its RAMs (R42, R384). Log entry 24. -/
def TX.codeLoad (x : TX) (k n : Nat) : TX :=
  let off := 0x120 + 4 * k
  let x := x.setReg off (putBits (putBits (x.reg off) 5 0 n) 6 6 1)
  let (iram, dram, x) := x.codeImage k
  x.modSlot k (fun s => { s with iram := iram, fetchView := iram, dram := dram })

/-- CODE_LOAD (R384). -/
def TX.codeLoadCmd (x : TX) (k n : Nat) (go : Bool) : Ans × TX :=
  if !x.codeRegionOk n then (Ans.bad 8, x)
  else if (x.slot k).state ≠ .halted then ({ status := stBusy }, x)
  else
    let x := x.codeLoad k n
    ({}, if go then x.runCore k else x)

/-- Fields of binding entry `m` in a 256-byte buffer (R385). -/
def bindF (b m o n : Nat) : Nat := bitsOf b (8 * (16 * m + o + n) - 1) (8 * (16 * m + o))
/-- A binding entry meets the checks of R109 and its reserved bits are zero (R4). -/
def bindOk (b m : Nat) : Bool :=
  let f := bindF b m 0 1
  let n := bindF b m 4 2
  let a := bindF b m 6 2
  decide (f < 16) && fmtIsWeight f && decide (bindF b m 1 1 < 16) && expOk (bindF b m 2 1) (!fmtIsMx f) && bindF b m 3 1 = 0 &&
    decide (1 ≤ n) && decide (n ≤ macroCols f) && decide (a < 4096) && decide (a + n ≤ 4096) && bindF b m 12 4 = 0

/-- Rows that WEIGHT_REGION needs for the macros named (R100). -/
def weightRows (b mask : Nat) : Nat :=
  let l := setBits mask 16
  if l.isEmpty then 0
  else if l.any (fun m => fmtIsMx (bindF b m 0 1)) then 4112 else 256 * (l.foldl max 0 + 1)

/-- What fails of a WEIGHT_LOAD's region and binding entries (R109, R385): a region too short at 8, an entry at 16 with
its macro. -/
def TX.bindBad (x : TX) (n b mask : Nat) : List (Nat × Nat) :=
  let rows := match x.tile.store.region n with
    | some r => if r.cls = 1 then r.size else 0
    | none => 0
  (if rows < weightRows b mask then [(8, 0)] else []) ++
  match (setBits mask 16).find? (fun m => !bindOk b m) with
  | some m => [(16, m)]
  | none => []

/-- One macro loaded from WEIGHT_REGION by its binding entry (R100, R110, R111). -/
def TX.bindMacro (x : TX) (k n b m : Nat) (check : Bool) : TX :=
  let f := bindF b m 0 1
  let ncol := bindF b m 4 2
  let (cells, scales, pois, x) := x.readImage 19 f ncol n (256 * m) n (4096 + m)
  let mac : Macro :=
    { cells := cells, scales := scales, fmt := f, seg := bindF b m 1 1, accBase := bindF b m 6 2
      fixedExp := signedOf 8 (bindF b m 2 1), poisoned := pois
      srcRegion := n, srcRow := 256 * m, scaleRegion := n, scaleRow := 4096 + m }
  let (mac, x) := x.macroChecked k m 19 ncol mac check (bindF b m 8 4)
  x.modSlot k (fun s => s.setMacro m mac)

/-- The slot's macros loaded as a binding buffer says; the others become not loaded (R111, R385). -/
def TX.weightLoad (x : TX) (k n b mask : Nat) (check : Bool) : TX :=
  let off := 0x120 + 4 * k
  let x := x.setReg off (putBits (putBits (x.reg off) 13 8 n) 15 14 1)
  let x := x.modSlot k (fun s => { s with macros := s.macros.map (fun p => (p.1, { p.2 with loaded := false })) })
  (setBits mask 16).foldl (fun x m => x.bindMacro k n b m check) x

/-- WEIGHT_LOAD of the macros in `mask` from region `n`, with the binding buffer `b` (R385). -/
def TX.weightLoadCmd (x : TX) (k n b mask : Nat) (check : Bool) : Ans × TX :=
  let s := x.slot k
  match x.bindBad n b mask with
  | (i, m) :: _ => ({ status := stInvalidField, field := i, result := m }, x)
  | [] =>
    if s.state ≠ .halted && s.state ≠ .scalar then ({ status := stBusy }, x)
    else
      let x := x.weightLoad k n b mask check
      let left := maskOf ((setBits mask 16).filter (fun m => ((x.slot k).macroAt m).poisoned))
      ({ status := if left = 0 then stSuccess else stPoisoned, result := left }, x)

/-- The refusals of WINDOW_OPEN at a tile store (R300, R314, R386); `mode` is the MODE byte. -/
def TX.windowRefused (x : TX) (n mode : Nat) (w : Window) : Option Nat :=
  let old := NMap.get {} x.tile.wins.table n
  let r := x.tile.store.region w.region
  let size := match r with
    | some r => r.size
    | none => 0
  let regionOk := match r with
    | some r => r.cls = 3 && r.partition = w.partition
    | none => false
  let lock := (w.write || w.reduce) && x.tile.wins.table.any (fun p =>
    (p.2.isOpen || p.2.closing) && p.2.cro && p.2.region = w.region && runsMeet p.2.first p.2.rows w.first w.rows)
  firstFail
    [(8, !(old.isOpen || old.closing)),
     (9, decide (mode < 32) && (w.write || w.read || w.reduce || w.cro) && !(w.cro && (w.write || w.reduce))),
     (10, decide (w.srcKind ≤ 2)),
     (11, w.notify || (w.notifySlot = 0 && w.notifyToken = 0)),
     (12, decide (w.region < 64) && regionOk && !lock),
     (16, !regionOk || decide (w.first + w.rows ≤ size)),
     (20, w.rows ≠ 0),
     (24, decide (w.lo0 ≤ w.hi0) && decide (w.lo1 ≤ w.hi1) &&
       (w.srcKind = 1 || (w.lo0 = 0xFFFF && w.hi0 = 0xFFFF && w.lo1 = 0xFFFF && w.hi1 = 0xFFFF)))]

/-- A window opened with the next generation (R300); one over the ring of a running HOST stream is a landing window
(R331). Log entry 57. -/
def TX.windowOpen (x : TX) (n : Nat) (w : Window) : Nat × TX :=
  let g := ((NMap.get {} x.tile.wins.table n).gen + 1) % 256
  (g, x.setWins { x.tile.wins with
    table := NMap.put x.tile.wins.table n { w with isOpen := true, closing := false, gen := g, landing := x.hostRing w } })

/-- The lowest free entry of the far-window list, and the list with a window entered (R316). -/
def TX.farFree (x : TX) : Option Nat := (List.range 16).find? (fun i => (NMap.find x.tile.wins.farWin i).isNone)
def TX.farEnter (x : TX) (eid win gen : Nat) : TX :=
  match x.farFree with
  | some i => x.setWins { x.tile.wins with farWin := NMap.put x.tile.wins.farWin i (eid, win, gen) }
  | none => x

/-- Streams, windows, regions and fills of a tile that leaves its partition are gone: every region but SHADOWs is
released and every store row that no SHADOW region spans is zero (R158, R381). -/
def TX.tearDown (x : TX) : TX :=
  let slots := x.tile.slots.map (fun p =>
    (p.1, { p.2 with
      streams := p.2.streams.map (fun st => (st.1, { st.2 with state := StreamState.idle, landing := false, flight := [] }))
      tracker := [] }))
  let x := { x with tile := { x.tile with slots := slots } }
  let x := x.freeLanded x.tile.wins.landed
  let w := x.tile.wins
  let open_ := (w.table.filter (fun p => p.2.isOpen || p.2.closing)).map (fun p => p.1)
  let x := open_.foldl (fun x n => (x.closeBegin n).closeEnd n) x
  let x := x.setWins { x.tile.wins with
    table := x.tile.wins.table.map (fun p => (p.1, { p.2 with landing := false })), landed := [] }
  let s := x.tile.store
  let gone (r : Region) : Bool := r.valid && !r.shadow
  let held := s.holes.map (fun h =>
    if s.regions.any (fun p => gone p.2 && decide (p.2.base ≤ h.row) && decide (h.row < p.2.base + p.2.span)) then
      { h with pending := false } else h)
  let regs := s.regions.map (fun p =>
    (p.1, if gone p.2 then { p.2 with valid := false, init := false, mirror := false, releasing := false } else p.2))
  let s := { s with regions := regs, holes := held, fills := [] }
  let keep (row : Nat) : Bool := match s.regionOf row with
    | some p => p.2.shadow
    | none => false
  let x := x.setStore { s with
    data := s.data.filter (fun c => keep (c.1 / 512)), dev := s.dev.filter (fun c => keep (c.1 / 64))
    wb := [], latches := [], recon := s.recon.filter keep, found := s.found.filter (fun w => keep (w / 64)) }
  let x := { x with tile := { x.tile with mirrorAt := [] } }
  (List.range 16).foldl (fun (x : TX) k => x.setReg (0x120 + 4 * k) 0) x

end Sys2Proof.Machine
end

