-- ==== Sys2Proof/Machine/MirrorOps.lean ====
section
/-! DEFINITION. MIRROR regions and their shadows on the buddy tiles (R159, R486, R489–R492). -/

namespace Sys2Proof.Machine

/-- The tile's control block answers and its store reads (R486). -/
def Sys.storeAnswers (s : Sys) (t : Nat) : Bool := (s.tile t).pwr.on && (s.tad t).alive

/-- The DIRTY bit of region `k` on tile `t` (R492). -/
def Sys.dirty (s : Sys) (t k : Nat) : Bool := bitOf (s.tileReg t (0x1B00 + 4 * (k / 32))) (k % 32)

/-- The data rows of a region, and whether one of them reads poisoned. -/
def TX.regionRows (x : TX) (n : Nat) : (List (Nat × Bool) × Bool) × TX :=
  match x.tile.store.region n with
  | none => (([], true), x)
  | some r =>
    let a := (List.range r.size).foldl (fun (a : List (Nat × Bool) × TX) o =>
      let (v, p, x) := a.2.readRegionRow n o 19
      ((v, p) :: a.1, x)) ([], x)
    ((a.1.reverse, a.1.any (fun q => q.2)), a.2)

/-- Rows put into a region by the tile control block, DIRTY left as it is (R492). -/
def TX.restoreRows (x : TX) (n : Nat) (rows : List (Nat × Bool)) : TX :=
  x.putRegionRows n 19 (((List.range rows.length).zip rows).map (fun p => (p.1, p.2.1, p.2.2)))

/-- Region `a` of tile `t` copied into region `b` of tile `u`. -/
def Sys.copyRegion (s : Sys) (t a u b : Nat) : Sys :=
  let (r, s) := s.askTile t (fun x => x.regionRows a)
  s.onTile u (fun x => x.restoreRows b r.1)

/-- The physical tile whose store holds what logical tile `l` holds: the old one until a regrown tile is rebuilt. -/
def Sys.holder (s : Sys) (l : Nat) : Option Nat :=
  match s.lead.recov.regrown.find? (fun g => g.logical = l) with
  | some g => if s.storeAnswers g.old then some g.old else none
  | none => s.physOf l

/-- The buddy of the tile at `o` has a free region number and a free span for a shadow of `span` store rows (R159). -/
def Sys.shadowRoom (s : Sys) (o span : Nat) : Bool :=
  match s.buddy o with
  | some b => (s.tile b).store.freeNumber.isSome && ((s.tile b).store.freeBase span).isSome && (s.tile b).logical.isSome
  | none => false

/-- A shadow of region `k` of the tile at `o` placed on its buddy (R159, R489): the owner's entry names it. Log entry
53. -/
def Sys.placeShadow (s : Sys) (o k : Nat) : Option Sys :=
  match (s.tile o).store.region k, s.buddy o, (s.tile o).logical with
  | some r, some b, some lo =>
    match (s.tile b).store.freeNumber, (s.tile b).store.freeBase r.span, (s.tile b).logical with
    | some m, some base, some lb =>
      let sh : Region :=
        { base := base, cls := r.cls, valid := true, shadow := true, size := r.size, owner := 0, partition := r.partition }
      let s := s.modTile b (fun t => { t with
        store := { t.store with regions := NMap.put t.store.regions m sh }, shadowOf := NMap.put t.shadowOf m (lo, k) })
      some (s.modTile o (fun t => { t with mirrorAt := NMap.put t.mirrorAt k (lb, m) }))
    | _, _, _ => none
  | _, _, _ => none

/-- A shadow's region taken out of a store: the holes under it serve no region any more (R159, R170, R171). -/
def Store.dropRegion (st : Store) (m : Nat) : Store :=
  let r := NMap.get {} st.regions m
  { st with
    regions := NMap.erase st.regions m
    holes := st.holes.map (fun h => if decide (r.base ≤ h.row) && decide (h.row < r.base + r.span) then { h with pending := false } else h) }

/-- A shadow released: region `m` on the tile that holds logical tile `l`. -/
def Sys.dropShadow (s : Sys) (l m : Nat) : Sys :=
  match s.holder l with
  | none => s
  | some b => s.modTile b (fun t => { t with store := t.store.dropRegion m, shadowOf := NMap.erase t.shadowOf m })

/-- A shadow's rows, where its tile still reads. -/
def Sys.shadowRows (s : Sys) (o k : Nat) : Option (List (Nat × Bool)) × Sys :=
  match NMap.find (s.tile o).mirrorAt k with
  | none => (none, s)
  | some (l, m) =>
    match s.holder l with
    | none => (none, s)
    | some b =>
      if (s.tile b).store.valid.any (fun r => r.1 = m) then
        let (r, s) := s.askTile b (fun x => x.regionRows m)
        (if r.2 then none else some r.1, s)
      else (none, s)

/-- The MIRROR regions of a tile. -/
def Tile.mirrorRegions (t : Tile) : List Nat := (t.store.valid.filter (fun r => r.2.mirror)).map (fun r => r.1)

/-- Region `k` of the tile at `o` gets a shadow on its present buddy where it has none there: filled from the region
where that is clean, else from the old shadow, which is then released (R489, R491). Without either the shadow is lost.
Log entry 53. -/
def Sys.moveShadow (s : Sys) (o k : Nat) : Sys :=
  let old := NMap.find (s.tile o).mirrorAt k
  let want := s.buddy o
  let here := match old with
    | some (l, _) => want.isSome && s.physOf l = want && (s.holder l).isSome
    | none => false
  if here then s
  else
    let clean := !s.dirty o k
    let (rows, s) := if clean then
        let (r, s) := s.askTile o (fun x => x.regionRows k)
        (some r.1, s)
      else s.shadowRows o k
    let s := match old with
      | some (l, m) => s.dropShadow l m
      | none => s
    let s := s.modTile o (fun t => { t with mirrorAt := NMap.erase t.mirrorAt k })
    match rows with
    | none => s
    | some l =>
      match s.placeShadow o k with
      | none => s
      | some s =>
        match NMap.find (s.tile o).mirrorAt k with
        | some (lb, m) =>
          (match s.physOf lb with
           | some b => s.onTile b (fun x => x.restoreRows m l)
           | none => s)
        | none => s

/-- Shadows follow the buddies after an epoch switch (R489): every in-service tile but those still to be rebuilt. -/
def Sys.refreshShadows (s : Sys) : Sys :=
  s.lead.place.foldl (fun (s : Sys) p =>
    if (s.tile p.2).shed || s.lead.recov.regrown.any (fun g => g.logical = p.1) then s
    else (s.tile p.2).mirrorRegions.foldl (fun (s : Sys) k => s.moveShadow p.2 k) s) s

/-- MIRROR regions of a partition that have lost their shadow get a new one, its contents still to be copied (R490). -/
def Sys.ensureShadows (s : Sys) (part : Nat) : Sys :=
  (s.partPhys part).foldl (fun (s : Sys) t =>
    (s.tile t).mirrorRegions.foldl (fun (s : Sys) k =>
      let have_ := match NMap.find (s.tile t).mirrorAt k with
        | some (l, _) => (s.holder l).isSome
        | none => false
      if have_ then s else (s.placeShadow t k).getD s) s) s

end Sys2Proof.Machine
end

