-- ==== Sys2Proof/Machine/OpticOps.lean ====
section
/-! DEFINITION. Optical engines: Silua links and cells, peers and remote windows, lasers, carried frames, and the register
space of an engine (R251, R420–R437). -/

namespace Sys2Proof.Machine

/-- A flash record of the lead hub: its bytes, none where no valid record exists (R515). -/
def Sys.confRec (s : Sys) (ty : Nat) : Option ConfRec :=
  NMap.find (NMap.get {} s.boot.flash s.lead.hub).conf ty

/-- A field of the LIMITS record, or its default (R516). -/
def Sys.limit (s : Sys) (off n dflt : Nat) : Nat :=
  match s.confRec 2 with
  | some r => bitsOf r.value (8 * (off + n) - 1) (8 * off)
  | none => dflt

/-- A peer route entry (R429): engine, port mask, VALID. -/
def Sys.peerEntry (s : Sys) (peer : Nat) : Nat × Nat × Bool :=
  match s.confRec 5 with
  | some r =>
    let v := bitsOf r.value (16 * peer + 15) (16 * peer)
    (bitsOf v 2 0, bitsOf v 10 3, bitOf v 15)
  | none => (0, 0, false)

/-- A port of an engine. -/
def Engine.port (e : Engine) (p : Nat) : OptPort := NMap.get {} e.ports p
def Engine.setPort (e : Engine) (p : Nat) (v : OptPort) : Engine := { e with ports := NMap.put e.ports p v }
/-- A saturating counter of an engine register raised. -/
def Engine.bump (e : Engine) (off hi lo n : Nat) : Engine :=
  let v := NMap.get 0 e.regs off
  { e with regs := NMap.put e.regs off (putBits v hi lo (satAdd (hi + 1 - lo) (bitsOf v hi lo) n)) }
def Sys.modEngine (s : Sys) (e : Nat) (f : Engine → Engine) : Sys := s.setEngine e (f (s.engine e))
def Sys.modPort (s : Sys) (e p : Nat) (f : OptPort → OptPort) : Sys :=
  s.modEngine e (fun x => x.setPort p (f (x.port p)))

/-- The ports of a peer's entry that are up (R429). -/
def Sys.peerPorts (s : Sys) (e mask : Nat) : List Nat :=
  (List.range 8).filter (fun p => bitOf mask p && ((s.engine e).port p).role = 1 && ((s.engine e).port p).link = 2)

/-- The engine that carries each peer's traffic: entries that are VALID with a port up (R429, R238). -/
def Sys.peerMap (s : Sys) : NMap Nat :=
  match s.confRec 5 with
  | none => []
  | some _ => (List.range 4096).filterMap (fun q =>
      let (e, mask, v) := s.peerEntry q
      if v && !(s.peerPorts e mask).isEmpty then some (q, e) else none)
/-- Routing sees the peers that can be reached now. -/
def Sys.refreshPeers (s : Sys) : Sys := s.modLead (fun l => { l with peers := s.peerMap })

/-- A credit class's buffers at a receiving port (R428). -/
def classCells (c : Nat) : Nat := if c = 0 then 128 else if c = 1 then 256 else if c = 2 then 512 else 128

/-- Cells go out while credits and the replay buffer allow (R426, R428). -/
def OptPort.pump (p : OptPort) (fuel : Nat) : OptPort :=
  match fuel with
  | 0 => p
  | fuel + 1 =>
    match p.waiting.findIdx? (fun c => decide (NMap.get 0 p.credits c.pkt.vc > 0)) with
    | none => p
    | some i =>
      match p.waiting[i]? with
      | none => p
      | some c =>
        if p.replay.length ≥ 512 || p.link ≠ 2 then p
        else
          let c := { c with seq := p.sendSeq, ack := (p.recvSeq + 65535) % 65536, ackValid := true, cls := c.pkt.vc }
          OptPort.pump { p with
            sendSeq := (p.sendSeq + 1) % 65536, replay := p.replay ++ [c], sent := p.sent ++ [c]
            waiting := listDrop p.waiting i
            credits := NMap.put p.credits c.pkt.vc (NMap.get 0 p.credits c.pkt.vc - 1) } fuel

/-- A packet handed to a port of engine `e` for the fibre. -/
def Sys.cellOut (s : Sys) (e p hop : Nat) (pkt : Packet) : Sys :=
  s.modPort e p (fun q => OptPort.pump { q with waiting := q.waiting ++ [{ long := pkt.long, hop := hop, pkt := pkt }] } 600)

/-- The column straight and target by which engine `e` reaches tile `t`: the column of its group nearest the tile's, the
lower on a tie; the nearest other when that port is absent (R251). -/
def Sys.engineColumn (s : Sys) (e row col : Nat) : Nat :=
  let c0 := 4 * (e % 4)
  let cand := [c0, c0 + 1, c0 + 2, c0 + 3].filter (fun c => !((s.straight (16 + c)).port row).absent)
  let dist (c : Nat) : Nat := ((c : Int) - (col : Int)).natAbs
  ((cand.foldl (fun (a : Option Nat) c =>
    match a with
    | none => some c
    | some b => if dist c < dist b then some c else some b) none)).getD c0

/-- A packet that engine `e` delivers into the grid, toward tile `row`, `col` (R251, R421). -/
def Sys.engineInject (s : Sys) (e row col : Nat) (p : Packet) : Sys :=
  let c := s.engineColumn e row col
  let k := if e < 4 then 16 else 17
  let st := s.straight (16 + c)
  let q := st.port k
  let f : Frame := { pkt := { p with epoch := (s.replica (258 + e)).cur }, carried := true, ctarget := row, origin := k }
  s.setStraight (16 + c) (st.setPort k { q with ownQ := q.ownQ ++ [f] })

/-- Where an EID lies for an engine: its tile's row and column; a hub's packets enter beside it. -/
def Sys.gridPlace (s : Sys) (e eid : Nat) : Nat × Nat :=
  let row := if e < 4 then 0 else 15
  match routeIndex (s.replica (258 + e)).ett s.lead.peers s.boot.panelId eid with
  | some t => if t < 256 then (t / 16, t % 16) else if t = 256 then (row, 0) else (row, 15)
  | none => (row, 4 * (e % 4))

/-- An engine's answer to a packet that it refuses: a NACK into the grid (R430). -/
def Sys.engineNack (s : Sys) (e : Nat) (p : Packet) (status : Nat) : Sys :=
  let r : Packet :=
    { dst := p.src, src := p.dst, type := 7, vc := 0, tag := p.tag, window := p.window, gen := p.gen, offset := p.offset
      bytes := if p.long then 512 else 0, status := status, answers := p.type, poison := false }
  let (row, col) := s.gridPlace e p.src
  s.engineInject e row col r

/-- A peer window entry (R430): the words that name (peer, window), when VALID. -/
def Sys.peerWindow (s : Sys) (peer win : Nat) : Option (Nat × Nat) :=
  let h := s.hub s.lead.hub
  (List.range 4096).findSome? (fun n =>
    let a := h.reg (0x70000 + 8 * n)
    if bitOf a 20 && decide (bitsOf a 11 0 = peer) && decide (bitsOf a 19 12 = win) then some (a, h.reg (0x70004 + 8 * n)) else none)

/-- The partition an EID belongs to. -/
def Sys.partOfEid (s : Sys) (eid : Nat) : Nat :=
  match logicalOf eid with
  | some n => ((s.lead.partitions.find? (fun p => bitOf p.2.tiles n)).map (fun p => p.1)).getD 0
  | none => 0

/-- The partition a packet is sent from: its sender's or, for a hub's, that of the egress context that sends to this proxy
and window (R338, R430). Log entry 90. -/
def Sys.partOfPacket (s : Sys) (p : Packet) : Nat :=
  if p.src = 0x1200 || p.src = 0x1201 then
    (((s.hub (p.src - 0x1200)).ctxs.find? (fun c =>
      c.2.isOpen && decide (bitsOf c.2.record 5 0 = 0x15) && decide (bitsOf c.2.record 207 192 = p.dst) &&
        decide (bitsOf c.2.record 215 208 = p.window))).map (fun c => bitsOf c.2.record 31 16)).getD 0
  else s.partOfEid p.src

/-- The packet is an answer (R432). -/
def Packet.isReply (p : Packet) : Bool := p.type = 3 || p.type = 6 || p.type = 7

/-- The fields of the extension header (R431). -/
def extWord (srcPanel remote rwin kind : Nat) : Nat := srcPanel + 2 ^ 16 * remote + 2 ^ 32 * rwin + 2 ^ 40 * kind
def extSrc (e : Nat) : Nat := bitsOf e 11 0
def extDst (e : Nat) : Nat := bitsOf e 31 16
def extWin (e : Nat) : Nat := bitsOf e 39 32
def extKind (e : Nat) : Nat := bitsOf e 40 40

/-- A packet at an engine's input for a peer panel (R429–R433): true when it has been dealt with, false when it waits.
Log entry 43. -/
def Sys.siluaOut (s : Sys) (e : Nat) (p : Packet) : Bool × Sys :=
  let peer := p.dst - 0x2000
  let (en, mask, v) := s.peerEntry peer
  let ports := s.peerPorts e mask
  if p.dst < 0x2000 || !v || en ≠ e || ports = [] then (true, s.modEngine e (fun x => x.bump 0xC 31 16 1))
  else
    let port := ports.getD (Config.siluaHash p.src p.tag % ports.length) 0
    let own := s.boot.panelId
    if p.isReply then
      (true, s.cellOut e port 0 { p with ext := true, extHdr := extWord own p.dst p.window 0 })
    else
      match s.peerWindow peer p.window with
      | none => (true, s.engineNack e p stNotPermitted)
      | some (a, b) =>
        if bitsOf b 31 16 ≠ s.partOfPacket p then (true, s.engineNack e p stNotPermitted)
        else
          let off := if p.type = 2 then some p.offset else none
          let mine (r : Return) : Bool :=
            decide (r.peer = peer) && decide (r.pwin = p.window) && decide (r.tag = p.tag) && decide (r.offset = off) &&
              decide (r.eid = p.src)
          let known := (s.engine e).back.any mine
          if !known && p.type ≠ 4 && (s.engine e).back.length ≥ 8192 then (false, s)
          else
            let s := if known || p.type = 4 then s else
              s.modEngine e (fun x => { x with back := x.back ++
                [{ peer := peer, pwin := p.window, tag := p.tag, offset := off, eid := p.src, since := s.now
                   partition := s.partOfPacket p }] })
            (true, s.cellOut e port 0
              { p with ext := true, extHdr := extWord own (bitsOf b 15 0) (bitsOf a 29 22) (bitNat (bitOf a 21)) })

/-- Carried packets that wait in the pool of engine `e`'s port on straight `n`, tried in their order: one that has to wait
stays there, and those behind it (R251, R252, R432). -/
def Sys.enginePool (s : Sys) (e n k fuel : Nat) : Sys :=
  match fuel with
  | 0 => s
  | fuel + 1 =>
    let st := s.straight n
    match (st.port k).takeCarried with
    | none => s
    | some (p, q) =>
      let (ok, s') := (s.setStraight n (st.setPort k q)).siluaOut e p
      if ok then s'.enginePool e n k fuel else s

/-- Packets that waited at an engine's input are tried again, column by column. -/
def Sys.engineRetry (s : Sys) (e : Nat) : Sys :=
  [0, 1, 2, 3].foldl (fun (s : Sys) c => s.enginePool e (16 + 4 * (e % 4) + c) (if e < 4 then 16 else 17) 96) s

/-- A carried frame lands at port `k` of straight `n` (R251, R252, R258, R259, R268): it takes a place in the FIRST pool
until its packet has been handed on. -/
def Sys.carriedFrame (s : Sys) (n k sender : Nat) (bad : Bool) : Sys :=
  let st := s.straight n
  match st.nextFor sender k with
  | none => s
  | some (i, f) =>
    if !f.carried then s
    else
      match s.frameLands n k i f bad with
      | (none, s) => s
      | (some f, s) =>
        let s := s.bumpStraight n k 0x08 31 0 1
        let st := s.straight n
        let p := st.port k
        let s := s.setStraight n (st.setPort k { p with first := p.first ++ [{ f with pending := [], deliver := true, forward := false }] })
        match portTile n k with
        | some t => s.carryPool t 96
        | none => s.engineRetry ((if k = 16 then 0 else 4) + (n - 16) / 4)

/-- A delivered cell's packet goes into the grid: answers by the return map, others to the far window or group named by
the extension header (R431–R433). Log entry 43. -/
def Sys.siluaIn (s : Sys) (e : Nat) (p : Packet) : Sys :=
  let src := extSrc p.extHdr
  let base := { p with ext := false, extHdr := 0, src := 0x2000 + src, peer := src, escape := false, down := false, hops := 0 }
  if p.isReply then
    let mine (r : Return) : Bool :=
      decide (r.peer = src) && decide (r.tag = p.tag) &&
        (match s.peerWindow src r.pwin with
         | some (a, _) => decide (bitsOf a 29 22 = p.window)
         | none => false) &&
        (match r.offset with
         | some o => decide (o = p.offset) && (decide (p.type = 3) || decide (p.answers = 2))
         | none => decide (p.answers ≠ 2) && decide (p.type ≠ 3))
    match (s.engine e).back.find? mine with
    | none => s.modEngine e (fun x => x.bump 0xC 31 16 1)
    | some r =>
      let s := s.modEngine e (fun x => { x with back := x.back.filter (fun y => y ≠ r) })
      let (row, col) := s.gridPlace e r.eid
      (s.engineInject e row col { base with dst := r.eid, window := r.pwin }).engineRetry e
  else if extKind p.extHdr = 1 then
    let g := extDst p.extHdr
    match s.lead.rgs.find? (fun x => x.group = g) with
    | none => s.modEngine e (fun x => x.bump 0xC 31 16 1)
    | some rg =>
      match s.rgRootTile s.lead.place rg with
      | none => s.modEngine e (fun x => x.bump 0xC 31 16 1)
      | some root =>
        let t := exitTile (root / 16) (root % 16) e
        s.engineInject e (t / 16) (t % 16)
          { base with dst := rg.root, window := rg.window, gen := rg.gen, group := g + 2 ^ 16 * p.rseq }
  else
    let dst := extDst p.extHdr
    let (row, col) := s.gridPlace e dst
    s.engineInject e row col { base with dst := dst, window := extWin p.extHdr }

/-- A port has been up since it last went down: what is known of the partner's credits stands through a retrain (R426). -/
def OptPort.wasUp (q : OptPort) : Bool := q.link = 2 || (q.link = 1 && !q.credits.isEmpty)

/-- A Silua port goes down, from up or because its retrain failed: its replay buffer is discarded and counted, with an
urgent notice (R427). -/
def Sys.siluaDown (s : Sys) (e p : Nat) (notice : Bool) : Sys :=
  let q := (s.engine e).port p
  let s := s.modEngine e (fun x => (x.setPort p { q with
    link := 0, replay := [], waiting := [], credits := [] }).bump (0x10 * p + 0xC) 31 16 (q.replay.length + q.waiting.length))
  let s := s.refreshPeers
  if notice && q.wasUp then s.noteAt (258 + e) true ncLinkDown ukOpticalLane e (4 * p) 0 else s

/-- An Ethernet port after its live lanes have changed (R420, R434): FULL needs all four, BREAKOUT any, where the panel
offers it (R1, R523). -/
def Sys.ethernetLanes (s : Sys) (q : OptPort) (lanes : Nat) : OptPort :=
  let up := if q.breakout then decide (lanes ≠ 0) && s.offers 11 else decide (lanes = 15)
  { q with lanes := lanes, link := if up then 2 else 0 }

/-- A retrain of a Silua port: at most 50 µs, buffers kept (R426). -/
def Sys.siluaRetrain (s : Sys) (e p : Nat) : Sys :=
  let q := (s.engine e).port p
  let s := s.modEngine e (fun x =>
    (x.setPort p { q with
      link := 1, replayTimes := [], replayRuns := [], since := s.now, cause := 2, bootRetrains := q.bootRetrains + 1 }).bump (0x10 * p + 0xC) 15 0 1)
  (List.range 4).foldl (fun s l => if bitOf q.lanes l then s.scored ukOpticalLane e (4 * p + l) evSiluaRetrain 1 else s) s

/-- A cell arrives at port `p` of engine `e`; `sym` is the number of symbol errors of its codewords (R425–R428). -/
def Sys.cellIn (s : Sys) (e p : Nat) (c : Cell) (sym : Nat) : Sys :=
  let q := (s.engine e).port p
  if q.role ≠ 1 || q.link ≠ 2 then s
  else if sym > 15 then
    let reply : Cell := { idle := true, replay := true, ackValid := true, ack := (q.recvSeq + 65535) % 65536 }
    let s := s.modEngine e (fun x =>
      (x.setPort p { q with failing := true, sent := q.sent ++ [reply], bootErr := q.bootErr + 1 }).bump (0x10 * p + 0x8) 15 0 1)
    (List.range 4).foldl (fun s l => if bitOf q.lanes l then s.scored ukOpticalLane e (4 * p + l) evCodeword 1 else s) s
  else
    let s := if sym = 0 then s else s.modEngine e (fun x => x.bump (0x10 * p + 0x4) 31 0 1)
    let q := (s.engine e).port p
    let q := if c.ackValid then { q with replay := (q.replay.dropWhile (fun r => r.seq ≠ (c.ack + 1) % 65536)) } else q
    let q := if c.credits = 0 then q else { q with credits := NMap.put q.credits c.cls (NMap.get 0 q.credits c.cls + c.credits) }
    let again := c.replay && !q.replay.isEmpty
    let first := (c.ack + 1) % 65536
    let q := if again then { q with
        sent := q.sent ++ q.replay, bootReplays := q.bootReplays + 1, replayTimes := within s.now 1000000 q.replayTimes ++ [s.now]
        replayRuns := NMap.put [] first (NMap.get 0 q.replayRuns first + 1) } else q
    let s := s.modEngine e (fun x => x.setPort p (q.pump 600))
    let s := if again then s.modEngine e (fun x => x.bump (0x10 * p + 0x8) 31 16 1) else s
    if again && (NMap.get 0 q.replayRuns first ≥ 8 || q.replayTimes.length ≥ 64) then s.siluaRetrain e p
    else if c.idle then s
    else
      let q := (s.engine e).port p
      if c.seq ≠ q.recvSeq then s
      else
        let ack : Cell := { idle := true, ackValid := true, ack := c.seq, cls := c.pkt.vc, credits := 1 }
        let s := s.modPort e p (fun q => { q with recvSeq := (q.recvSeq + 1) % 65536, failing := false, sent := q.sent ++ [ack] })
        let peer := c.pkt.dst - 0x2000
        if c.pkt.dst < 0x2000 then s.modEngine e (fun x => x.bump (0x10 * p + 0xC) 31 16 1)
        else if peer = s.boot.panelId then s.siluaIn e c.pkt
        else
          let (en, mask, v) := s.peerEntry peer
          let ports := s.peerPorts e mask
          if !v || en ≠ e || ports = [] || c.hop ≥ 2 || !s.offers 10 then s.modEngine e (fun x => x.bump (0x10 * p + 0xC) 31 16 1)
          else s.cellOut e (ports.getD (Config.siluaHash c.pkt.src c.pkt.tag % ports.length) 0) (c.hop + 1) c.pkt

/-- The lanes of port `p` of engine `e` among `lanes` that are not shed or draining (R484, R509). -/
def Sys.servingLanes (s : Sys) (e p lanes : Nat) : Nat :=
  maskOf ((setBits lanes 4).filter (fun i => !s.unitOut (unitKey ukOpticalLane e (4 * p + i))))

/-- Training of a Silua port ends (R424, R426): the lanes that passed, less those that are shed, the partner's ID and
version; the lower version is run. A retrain keeps the buffers and sequence numbers. -/
def Sys.siluaTraining (s : Sys) (e p lanes partner version : Nat) : Sys :=
  let q := (s.engine e).port p
  let laser := NMap.get {} (s.engine e).lasers (p / 2)
  let lanes := if laser.alarm then 0 else s.servingLanes e p lanes
  let (en, mask, v) := s.peerEntry partner
  let expected := v && decide (en = e) && bitOf mask p
  let s := if q.role = 1 then s.modPort e p (fun q => { q with lastTime := s.now, lastNs := s.now - q.since }) else s
  let q := (s.engine e).port p
  if q.role ≠ 1 then s
  else if lanes = 0 then (s.modPort e p (fun q => { q with lanes := 0 })).siluaDown e p true
  else if partner = s.boot.panelId || !expected then
    (s.modPort e p (fun q =>
      { q with lanes := lanes, link := 3, peer := partner, replay := [], waiting := [], credits := [] })).refreshPeers
  else
    let version := min Config.siluaVersion version
    let again := decide (q.link = 1) && !(q.credits.isEmpty)
    let q' := if again then { q with link := 2, lanes := lanes, peer := partner, version := version, sent := q.sent ++ q.replay }
      else { q with
        link := 2, lanes := lanes, peer := partner, version := version, sendSeq := 0, recvSeq := 0, failing := false
        replay := [], sent := [], waiting := [], credits := [(0, 128), (1, 256), (2, 512), (3, 128)] }
    (s.modPort e p (fun _ => q'.pump 600)).refreshPeers

/-- Return-map entries older than 10 ms are freed and counted (R432). -/
def Sys.returnExpiry (s : Sys) (e : Nat) : Sys :=
  let old (r : Return) : Bool := decide (s.now > r.since + 10000000)
  let s := s.modEngine e (fun x =>
    { x with back := x.back.filter (fun r => !old r), expired := x.expired + (x.back.filter old).length })
  s.engineRetry e

/-- A laser tap sampled against its thresholds; `ok` is false for a failed sample (R422). -/
def Sys.laserSample (s : Sys) (e i power : Nat) (ok : Bool) : Sys :=
  let l := NMap.get {} (s.engine e).lasers i
  let v : Int := signedOf 16 power
  let th (off d : Nat) : Int := signedOf 16 (s.limit off 2 d)
  let failed := if ok then 0 else l.failed + 1
  let warn := if ok then decide (v < th 12 1800) else l.warn
  let bad := (ok && (decide (v < th 14 1650) || decide (v > th 16 2500))) || decide (failed ≥ 3)
  let minute := s.now / 60000000000 + 1
  let l' : Laser := { l with
    power := if ok then power % 65536 else l.power, warn := warn, alarm := l.alarm || bad, failed := failed
    warnMinute := if ok && warn then minute else l.warnMinute }
  let s := s.modEngine e (fun x => { x with lasers := NMap.put x.lasers i l' })
  let s := if ok && warn && l.warnMinute ≠ minute then s.scored ukLaser e i evLaserWarn 1 else s
  let s := if ok && warn && !l.warn then s.noteAt (258 + e) false ncLaserWarn ukLaser e i 0 else s
  if bad && !l.alarm then
    let s := s.noteAt (258 + e) true ncLaserAlarm ukLaser e i 0
    [2 * i, 2 * i + 1].foldl (fun s p => (s.modPort e p (fun q => { q with lanes := 0 })).siluaDown e p true) s
  else s

/-- An engine register at offset `off` of its 4 KiB (R422, R437, R544). -/
def Engine.reg (e : Engine) (off : Nat) : Nat :=
  if off < 0x80 then
    let p := e.port (off / 16)
    if off % 16 = 0 then
      p.role + 2 ^ 2 * bitNat p.breakout + 2 ^ 3 * popCount p.lanes 4 + 2 ^ 6 * p.link + 2 ^ 8 * p.peer
    else NMap.get 0 e.regs off
  else if 0x100 ≤ off && off < 0x110 && off % 4 = 0 then
    let l := NMap.get {} e.lasers ((off - 0x100) / 4)
    l.power + 2 ^ 16 * bitNat l.warn + 2 ^ 17 * bitNat l.alarm
  else 0
/-- A read clears the counters of a port (R7, R437). -/
def Engine.readEffect (e : Engine) (off : Nat) : Engine :=
  if off < 0x80 && off % 16 ≠ 0 then { e with regs := NMap.put e.regs off 0 } else e

/-- Engine register `off` as a hub reads it: the engine's own and its multicast group entries. -/
def Sys.engineReg (s : Sys) (e off : Nat) : Nat :=
  if 0x400 ≤ off && off < 0x500 && off % 4 = 0 then NMap.get 0 (s.replica (258 + e)).mcast ((off - 0x400) / 4)
  else if 0x500 ≤ off && off < 0x600 && off % 4 = 0 then NMap.get 0 (s.replica (258 + e)).members ((off - 0x500) / 4)
  else (s.engine e).reg off

end Sys2Proof.Machine
end

