-- ==== Sys2Proof/Machine/HubRegs.lean ====
section
/-! DEFINITION. Hub register space, the job status page and the global log as they read (R325, R342, R346, R352, R394,
R395, R430, R435, R437, R452, R475, R485, R501, R532–R546, R550). -/

namespace Sys2Proof.Machine

/-- The value of a job state (R392). -/
def JobState.code (j : JobState) : Nat :=
  match j with
  | .idle => 0 | .loading => 1 | .running => 2 | .hold => 3 | .replaying => 4 | .done => 5 | .failed => 6
/-- A job that has not ended. -/
def JobState.live (j : JobState) : Bool :=
  match j with
  | .idle => false | .done => false | .failed => false
  | .loading => true | .running => true | .hold => true | .replaying => true

/-- The handle of the job in a slot (R391). -/
def Job.handle (j : Job) (slot : Nat) : Nat := slot + 2 ^ 16 * j.spec.partition + 2 ^ 32 * j.serial

/-- The job status word, 64 bytes (R394, R550). Log entry 46. -/
def Job.word (j : Job) (slot : Nat) : Nat :=
  if j.state = .idle then 0
  else
    j.state.code + 2 ^ 8 * j.holdCause + 2 ^ 16 * j.lastEvent + 2 ^ 24 * j.failStatus + 2 ^ 32 * j.seq +
      2 ^ 64 * j.handle slot + 2 ^ 128 * (j.lapsDone % 2 ^ 64) + 2 ^ 192 * (j.lapsCommitted % 2 ^ 64) +
      2 ^ 256 * j.replays + 2 ^ 288 * j.misses + 2 ^ 320 * j.missFrame + 2 ^ 352 * j.missNs +
      2 ^ 384 * (j.poisonSteps % 2 ^ 16) + 2 ^ 400 * j.opp + 2 ^ 408 * bitNat j.stopped +
      2 ^ 409 * bitNat j.spec.hostCommit + 2 ^ 416 * j.faultEid + 2 ^ 448 * (j.time % 2 ^ 64)

/-- The job in a slot. -/
def Sys.job (s : Sys) (n : Nat) : Job := NMap.get {} s.lead.jobs n
def Sys.setJob (s : Sys) (n : Nat) (j : Job) : Sys := s.modLead (fun l => { l with jobs := NMap.put l.jobs n j })

/-- A global log entry's 32 bytes (R541). -/
def LogEntry.bytes (e : LogEntry) : Nat :=
  e.seq + 2 ^ 32 * e.code + 2 ^ 48 * e.severity + 2 ^ 56 * e.origin + 2 ^ 64 * e.unit_ + 2 ^ 128 * e.detail +
    2 ^ 192 * (e.time % 2 ^ 64)

/-- Unused spares; score-driven removals of the last 24 h; units in watch (R499, R501). -/
def Health.removed24 (h : Health) (now : Nat) : Nat := (h.removals.filter (fun t => decide (now < t + 86400000000000))).length
def Health.watching (h : Health) : Nat := (h.units.filter (fun u => u.2.watch.isSome)).length
def Health.anyHeld (h : Health) : Bool := h.units.any (fun u => u.2.held)
def Health.frozen (h : Health) (now : Nat) : Bool :=
  match h.frozenUntil with
  | some t => decide (now < t)
  | none => false

/-- Tiles and cores counted shed (R501). -/
def Sys.shedTiles (s : Sys) : Nat := ((List.range 256).filter (fun t => (s.tile t).shed)).length
def Sys.shedCores (s : Sys) : Nat := (s.tiles.map (fun t => popCount t.2.shedMask 17)).foldl (· + ·) 0

/-- Panel time as hub `h` reads it: the lead hub's count, the other hub's mirror (R538). Log entry 44. -/
def Sys.hubTime (s : Sys) (h : Nat) : Nat :=
  if h = s.lead.hub then s.now else (((s.now : Nat) : Int) + (s.hub h).mirrorOff).toNat

/-- Below 16 GT/s or ×16 while up (R344, R539). -/
def Hub.degraded (h : Hub) : Bool := h.linkRate ≠ 0 && (decide (h.linkRate < 4) || decide (h.linkWidth < 16))

/-- The boot state of a hub. -/
def Sys.bootHub (s : Sys) (h : Nat) : BootHub := NMap.get {} s.boot.hubs h
def Sys.setBootHub (s : Sys) (h : Nat) (b : BootHub) : Sys := { s with boot := { s.boot with hubs := NMap.put s.boot.hubs h b } }
def Sys.modBootHub (s : Sys) (h : Nat) (f : BootHub → BootHub) : Sys := s.setBootHub h (f (s.bootHub h))
/-- A debug policy record with DISABLE set (R531). -/
def Sys.debugDisabled (s : Sys) (h : Nat) : Bool :=
  match NMap.find (NMap.get {} s.boot.flash h).conf 6 with
  | some r => bitOf r.value 0
  | none => false

/-- A hub's ROLLBACK_FUSE: as manufactured, or as raised since (R519, R521). -/
def Sys.fuse (s : Sys) (h : Nat) : Nat := max (Config.rollbackFuse h % 2 ^ 16) (s.bootHub h).fuse

/-- The queue pair of a hub. -/
def Hub.qp (h : Hub) (q : Nat) : QP := NMap.get { cause := h.pairCause } h.qps q
def Hub.setQP (h : Hub) (q : Nat) (p : QP) : Hub := { h with qps := NMap.put h.qps q p }
def Hub.ctx (h : Hub) (n : Nat) : Context := NMap.get {} h.ctxs n
def Hub.setCtx (h : Hub) (n : Nat) (c : Context) : Hub := { h with ctxs := NMap.put h.ctxs n c }

/-- Fields of a stream context record (R325, R338). -/
def Context.f (c : Context) (o n : Nat) : Nat := bitsOf c.record (8 * (o + n) - 1) (8 * o)
def Context.kind (c : Context) : Nat := c.f 0 1 % 16
def Context.target (c : Context) : Nat := c.f 0 1 / 16 % 4
def Context.egress (c : Context) : Bool := c.kind = 5
/-- The 64 bytes as mapped: the record with its count of items. -/
def Context.bytes (c : Context) : Nat :=
  if c.egress then putBits c.record 383 320 (c.items % 2 ^ 64) else putBits c.record 511 448 (c.items % 2 ^ 64)

/-- The declared load of an open context on its hub's budgets (R323): video samples/s, JPEG samples/s, post-processing
pixels/s in and out, entropy input in Mbit/s; `prof` is its ingest profile. Log entry 47. -/
structure Load where
  video : Nat := 0
  jpeg : Nat := 0
  pixIn : Nat := 0
  pixOut : Nat := 0
  mbits : Nat := 0
  videoCtx : Nat := 0
  jpegCtx : Nat := 0
deriving DecidableEq, Repr

def Load.add (a b : Load) : Load :=
  { video := a.video + b.video, jpeg := a.jpeg + b.jpeg, pixIn := a.pixIn + b.pixIn, pixOut := a.pixOut + b.pixOut
    mbits := a.mbits + b.mbits, videoCtx := a.videoCtx + b.videoCtx, jpegCtx := a.jpegCtx + b.jpegCtx }

/-- Fields of an ingest profile (R327). -/
def profF (p o n : Nat) : Nat := bitsOf p (8 * (o + n) - 1) (8 * o)

/-- The declared load of an ingest record under its profile. A JPEG context with reference storage is a progressive one
(R324). Log entry 47. -/
def Context.load (c : Context) (prof : Nat) : Load :=
  let w := c.f 28 2
  let h := c.f 30 2
  let fps := c.f 26 2
  let k := c.kind
  let prog := k = 2 && c.f 32 8 ≠ 0
  { video := if k = 3 || k = 4 then w * h * fps / 100 else 0
    jpeg := if k = 2 then (if prog then 3 else 1) * w * h * fps / 100 else 0
    pixIn := profF prof 8 2 * profF prof 10 2 * fps / 100
    pixOut := profF prof 12 2 * profF prof 14 2 * fps / (100 * max 1 (c.f 15 1))
    mbits := if k = 1 then 0 else c.f 53 1
    videoCtx := bitNat (k = 3 || k = 4), jpegCtx := bitNat (k = 2) }

/-- The load a hub has admitted. -/
def Sys.hubLoad (s : Sys) (h : Nat) : Load :=
  ((s.hub h).ctxs.filter (fun c => c.2.isOpen && !c.2.egress)).foldl
    (fun (a : Load) c => a.add (c.2.load (NMap.get 0 s.lead.profiles (c.2.f 1 1)))) {}

/-- Queue pair registers (R352). -/
def Hub.qpReg (h : Hub) (off : Nat) : Nat :=
  let q := h.qp ((off - 0x10000) / 0x40)
  let j := off % 0x40
  if j = 0x20 then q.state + 2 ^ 8 * q.cause
  else if j = 0x24 then q.sqHead
  else if j = 0x28 then q.cqTail
  else if j = 0x2C then (q.cmds.length + (q.replies.filter (fun r => !r.more)).length) % 2 ^ 16
  else h.reg off

/-- Feeds, converters, domains (R452). -/
def Sys.powerReg (s : Sys) (off : Nat) : Nat :=
  let p := s.power
  if off < 0x50020 then
    let f := NMap.get {} p.feeds ((off - 0x50000) / 16)
    if off % 16 = 0 then f.volts + 2 ^ 16 * bitNat f.qualified + 2 ^ 17 * bitNat f.overV + 2 ^ 18 * bitNat f.underV
    else if off % 16 = 4 then f.amps
    else NMap.get 0 p.regs off
  else if 0x50100 ≤ off && off < 0x50220 then
    let c := NMap.get {} p.ibc ((off - 0x50100) / 8)
    if off % 8 = 0 then c.state + 2 ^ 2 * bitNat c.limit + 2 ^ 8 * (c.temp % 2 ^ 8) + 2 ^ 16 * c.outAmps
    else putBits (NMap.get 0 p.regs off) 15 0 c.outMv
  else if 0x50280 ≤ off && off < 0x502C8 then
    let d := NMap.get {} p.domains ((off - 0x50280) / 4)
    d.state + 2 ^ 8 * min d.pauses 15
  else 0

/-- Cooling, caps and health (R475, R501). Log entry 62. -/
def Sys.coolReg (s : Sys) (off : Nat) : Nat :=
  let c := s.cool
  if off = 0x50300 then c.inlet + 2 ^ 16 * c.outlet
  else if off = 0x50304 then c.flow + 2 ^ 16 * c.state + 2 ^ 19 * bitNat c.pump + 2 ^ 20 * bitNat c.mismatch
  else if off = 0x50308 then c.heat % 2 ^ 32
  else if off = 0x5030C then s.power.inForce % 2 ^ 16 + 2 ^ 16 * s.power.limiter
  else if off = 0x50310 then min s.power.p10 65535 + 2 ^ 16 * min s.power.p1 65535
  else if off = 0x50400 then
    let h := s.health
    s.freeSpares.length + 2 ^ 8 * min (h.removed24 s.now) 3 + 2 ^ 10 * bitNat (h.frozen s.now) +
      2 ^ 11 * bitNat h.anyHeld + 2 ^ 16 * min h.watching 65535
  else if off = 0x50404 then
    match s.health.frozenUntil with
    | some t => ceilDiv (t - s.now) 1000000000
    | none => 0
  else if off = 0x50408 then s.shedTiles + 2 ^ 16 * s.shedCores
  else 0

/-- Boot and recovery registers (R532). -/
def Sys.bootReg (s : Sys) (h off : Nat) : Nat :=
  let b := s.bootHub h
  let v := (s.hub h).reg off
  if off = 0x50800 then
    putBits (b.step + 2 ^ 4 * bitNat (s.boot.leadKnown && s.lead.hub = h) + 2 ^ 5 * b.bank + 2 ^ 6 * bitNat b.trial +
      2 ^ 8 * bitNat b.recovery + 2 ^ 9 * bitNat b.unlocked + 2 ^ 10 * bitNat (s.debugDisabled h) +
      2 ^ 11 * bitNat b.peer + 2 ^ 16 * s.fuse h) 7 7 (bitsOf v 7 7)
  else if off = 0x50804 then b.version
  else if off = 0x5081C then 2 * bitNat b.recBusy + 2 ^ 8 * b.recStatus
  else v

/-- Identity, readiness, log and event registers (R538, R539, R543, R545). Log entry 44. -/
def Sys.headReg (s : Sys) (h off : Nat) : Nat :=
  let hub := s.hub h
  if off = 0x00 then
    Config.dieStepping (256 + h) % 256 + 2 ^ 9 + 2 ^ 12 * h + 2 ^ 16 * (Config.dieCaps (256 + h) % 2 ^ 16)
  else if off = 0x04 then Config.panelSerial % 2 ^ 32
  else if off = 0x08 then Config.panelSerial / 2 ^ 32 % 2 ^ 32
  else if off = 0x0C then s.boot.panelId
  else if off = 0x10 then (if s.boot.fixed then s.boot.feature else 0) + 2 ^ 16 * bitNat s.boot.fixed
  else if off = 0x14 then s.lead.epoch + 2 ^ 8 * bitNat s.lead.sw.isSome + 2 ^ 16 * min s.lead.switches 65535
  else if off = 0x18 then s.hubTime h % 2 ^ 32
  else if off = 0x1C then NMap.get 0 hub.latched 0x1C
  else if off = 0x40 then
    bitNat hub.ready + 2 * bitNat hub.bound + 2 ^ 2 * bitNat hub.degraded + 2 ^ 3 * bitNat (s.bootHub h).recovery +
      2 ^ 4 * bitNat (s.boot.leadKnown && s.lead.hub = h) + 2 ^ 5 * bitNat (s.hub (1 - h)).ready +
      2 ^ 8 * hub.missing + 2 ^ 16 * hub.linkRate + 2 ^ 19 * hub.linkWidth
  else if off = 0x80 then s.lead.logNext
  else if off = 0x84 then (s.lead.logNext + 2 ^ 32 - s.lead.log.length) % 2 ^ 32
  else if 0xC0 ≤ off && off < 0xE0 then
    match s.lead.log.getLast? with
    | some e => bitsOf e.bytes (8 * (off - 0xC0) + 31) (8 * (off - 0xC0))
    | none => 0
  else if 0x200 ≤ off && off < 0x300 then
    maskOf ((List.range 32).filter (fun b => (hub.qp (8 * (off - 0x200) + b)).state = 3))
  else if off = 0x48 || off = 0x4C then 0
  else hub.reg off

/-- A register of hub `h` as it reads. Log entry 44. -/
def Sys.hubReg (s : Sys) (h off : Nat) : Nat :=
  let hub := s.hub h
  let rep := s.replica (256 + h)
  if off < 0x300 then s.headReg h off
  else if 0x10000 ≤ off && off < 0x30000 then hub.qpReg off
  else if off = 0x30000 then (s.hubLoad h).video / 1000 % 2 ^ 24
  else if off = 0x30004 then (s.hubLoad h).jpeg / 1000 % 2 ^ 24
  else if off = 0x30008 then (s.hubLoad h).videoCtx + 2 ^ 16 * (s.hubLoad h).jpegCtx
  else if off = 0x30020 then putBits (hub.reg off) 8 0 (hub.egress.filter (fun w => w.2.isOpen)).length
  else if 0x40000 ≤ off && off < 0x48000 then
    let e := NMap.get {} hub.msix ((off - 0x40000) / 16)
    let j := off % 16
    if j = 0 then e.addr % 2 ^ 32 else if j = 4 then e.addr / 2 ^ 32 else if j = 8 then e.data else bitNat e.masked
  else if 0x48000 ≤ off && off < 0x48100 then
    maskOf ((List.range 32).filter (fun b => (NMap.get {} hub.msix (8 * (off - 0x48000) + b)).pending))
  else if 0x50000 ≤ off && off < 0x50300 then s.powerReg off
  else if 0x50300 ≤ off && off < 0x50500 then s.coolReg off
  else if 0x50800 ≤ off && off < 0x50820 then s.bootReg h off
  else if 0x60000 ≤ off && off < 0x68000 then s.engineReg ((off - 0x60000) / 0x1000) (off % 0x1000)
  else if 0x90000 ≤ off && off < 0x90850 then
    NMap.get 0 (if off % 8 = 0 then rep.mesh else rep.meshShd) ((off - 0x90000) / 8)
  else if 0x91000 ≤ off && off < 0x91100 then NMap.get 0 rep.mcast ((off - 0x91000) / 4)
  else if 0x91100 ≤ off && off < 0x91200 then NMap.get 0 rep.members ((off - 0x91100) / 4)
  else if 0x800000 ≤ off && off < 0x1000000 then
    bitsOf (hub.ctx ((off - 0x800000) / 64)).bytes (8 * (off % 64) + 31) (8 * (off % 64))
  else hub.reg off

/-- What a read of a hub register does beyond its value: RC fields clear, a latched pair captures its high word
(R7, R534). -/
def Sys.hubReadEffect (s : Sys) (h off : Nat) : Sys :=
  if off = 0x18 then s.modHub h (fun u => { u with latched := NMap.put u.latched 0x1C (s.hubTime h / 2 ^ 32 % 2 ^ 32) })
  else if 0x50000 ≤ off && off < 0x50300 then
    match regAt hubRows off with
    | some r =>
      if r.rc = 0 then s
      else
        let v := NMap.get 0 s.power.regs off
        { s with power := { s.power with regs := NMap.put s.power.regs off (v - (v &&& r.rc)) } }
    | none => s
  else if 0x60000 ≤ off && off < 0x68000 then
    s.modEngine ((off - 0x60000) / 0x1000) (fun e => e.readEffect (off % 0x1000))
  else
    match regAt hubRows off with
    | some r => if r.rc = 0 then s else s.modHub h (fun u => u.setReg off (u.reg off - (u.reg off &&& r.rc)))
    | none => s

end Sys2Proof.Machine
end

