-- ==== Sys2Proof/Machine/QueueOps.lean ====
section
/-! DEFINITION. Queue pairs: doorbells, enabling, fetch, start, replies, interrupts, binding and link resets
(R343–R365, R367, R368). -/

namespace Sys2Proof.Machine

/-- Fields of a command packet (R366). -/
def cmdF (raw o n : Nat) : Nat := bitsOf raw (8 * (o + n) - 1) (8 * o)
def Cmd.op (c : Cmd) : Nat := cmdF c.raw 0 1
def Cmd.id (c : Cmd) : Nat := cmdF c.raw 2 2
def Cmd.partition (c : Cmd) : Nat := cmdF c.raw 4 2
def Cmd.target (c : Cmd) : Nat := cmdF c.raw 6 2
def Cmd.fence (c : Cmd) : Bool := bitOf c.raw 8
def Cmd.irqOnDone (c : Cmd) : Bool := bitOf c.raw 9
def Cmd.pollWord (c : Cmd) : Bool := bitOf c.raw 10

/-- The defined opcodes (R372). -/
def opcodeDefined (op : Nat) : Bool :=
  [0x00, 0x01, 0x02, 0x03, 0x04, 0x05, 0x08, 0x09, 0x0A, 0x10, 0x11, 0x12, 0x13, 0x14, 0x15, 0x18, 0x20, 0x21, 0x22, 0x23,
   0x28, 0x29, 0x30, 0x31, 0x32, 0x33, 0x34, 0x35, 0x38, 0x39, 0x40, 0x41, 0x42, 0x43, 0x48, 0x49, 0x50, 0x51, 0x52, 0x53,
   0x58].contains op

/-- Difference of free-running counts (R350). -/
def countDiff (a b : Nat) : Nat := (a + 2 ^ 32 - b % 2 ^ 32) % 2 ^ 32

/-- Configuration of a pair (R352). -/
def Hub.qpBase (q : Nat) : Nat := 0x10000 + 0x40 * q
def Hub.sqBase (h : Hub) (q : Nat) : Nat := h.reg (Hub.qpBase q) + 2 ^ 32 * h.reg (Hub.qpBase q + 4)
def Hub.cqBase (h : Hub) (q : Nat) : Nat := h.reg (Hub.qpBase q + 8) + 2 ^ 32 * h.reg (Hub.qpBase q + 12)
def Hub.qpCfg (h : Hub) (q : Nat) : Nat := h.reg (Hub.qpBase q + 16)
def Hub.sqDepth (h : Hub) (q : Nat) : Nat := 2 ^ bitsOf (h.qpCfg q) 4 0
def Hub.cqDepth (h : Hub) (q : Nat) : Nat := 2 ^ bitsOf (h.qpCfg q) 12 8
def Hub.qpVector (h : Hub) (q : Nat) : Nat := bitsOf (h.qpCfg q) 26 16
def Hub.qpIrq (h : Hub) (q : Nat) : Bool := bitOf (h.qpCfg q) 27
def Hub.qpOwner (h : Hub) (q : Nat) : Nat := h.reg (Hub.qpBase q + 20)
def Hub.aggCount (h : Hub) (q : Nat) : Nat := bitsOf (h.reg (Hub.qpBase q + 24)) 7 0
def Hub.aggUs (h : Hub) (q : Nat) : Nat := bitsOf (h.reg (Hub.qpBase q + 24)) 31 16
/-- The hub may use its link: trained and Bus Master Enable set. -/
def Hub.dma (h : Hub) : Bool := h.live && h.linkRate ≠ 0 && h.busMaster

def Sys.qp (s : Sys) (h q : Nat) : QP := (s.hub h).qp q
def Sys.setQP (s : Sys) (h q : Nat) (p : QP) : Sys := s.modHub h (fun u => u.setQP q p)

/-- A pair enters ERROR (R353, R356): its replies are discarded and the hub's event is raised. -/
def Sys.qpError (s : Sys) (h q cause : Nat) : Sys :=
  let p := s.qp h q
  (s.setQP h q { p with state := 3, cause := cause, replies := [] }).event h 3

/-- A draining pair with nothing left to write enters DISABLED (R354). -/
def QP.settle (p : QP) : QP :=
  if p.state = 2 && p.replies.isEmpty && p.cmds.all (fun c => c.accepted) then
    { p with state := 0, cause := p.drainCause, cmds := [] }
  else p

/-- A pair enters DISABLED at once and its commands' replies are lost (R349, R356, R365). -/
def QP.drop (p : QP) (cause : Nat) : QP := { p with state := 0, cause := cause, cmds := [], replies := [], unsignalled := 0 }

/-- DISABLE (R354), with the cause the pair will be disabled with. -/
def QP.disable (p : QP) (cause : Nat) : QP :=
  if p.state = 1 || p.state = 3 then ({ p with state := 2, drainCause := cause }).settle else p

/-- Every pair of the panel, or those whose PARTITION names `part`, is disabled as DISABLE does; `except_` is the pair
whose command asks for it (R348, R355). -/
def Sys.disablePairs (s : Sys) (part : Option Nat) (cause : Nat) (except_ : Option (Nat × Nat)) : Sys :=
  [0, 1].foldl (fun s h =>
    (s.hub h).qps.foldl (fun (s : Sys) e =>
      let mine := match part with
        | none => true
        | some p => decide ((s.hub h).qpOwner e.1 = p)
      if mine && except_ ≠ some (h, e.1) then s.setQP h e.1 ((s.qp h e.1).disable cause) else s) s) s

/-- A submission doorbell (R353), after the host writes that preceded it. -/
def Sys.sqTail (s : Sys) (h q tail : Nat) : Sys :=
  let u := s.hub h
  let p := u.qp q
  if p.state ≠ 1 || !u.ready then s.log 0x0003 1 0 (2048 * h + q) 0 0
  else if countDiff tail p.sqHead > u.sqDepth q then s.qpError h q 3
  else s.setQP h q { p with sqTail := tail }

/-- A completion doorbell (R353); a draining pair still accepts it (R354). -/
def Sys.cqHead (s : Sys) (h q head : Nat) : Sys :=
  let u := s.hub h
  let p := u.qp q
  if (p.state ≠ 1 && p.state ≠ 2) || !u.ready then s.log 0x0003 1 0 (2048 * h + q) 0 0
  else if countDiff p.cqTail head > u.cqDepth q then s.qpError h q 4
  else s.setQP h q { p with cqHead := head }

/-- ENABLE (R354). -/
def Sys.qpEnable (s : Sys) (h q : Nat) : Sys :=
  let u := s.hub h
  let p := u.qp q
  let sl := bitsOf (u.qpCfg q) 4 0
  let cl := bitsOf (u.qpCfg q) 12 8
  let own := u.qpOwner q
  if !u.ready || p.state ≠ 0 then s
  else if decide (4 ≤ sl) && decide (sl ≤ 16) && decide (4 ≤ cl) && decide (cl ≤ 16) && decide (u.sqBase q % 4096 = 0) &&
      decide (u.cqBase q % 4096 = 0) && u.bound && (own = 0 || (NMap.find s.lead.partitions own).isSome) then
    s.setQP h q { nextNum := p.nextNum, state := 1, cause := p.cause }
  else s.setQP h q { p with cause := 2 }

/-- DISABLE written by the host (R354). -/
def Sys.qpDisable (s : Sys) (h q : Nat) : Sys :=
  if (s.hub h).ready then s.setQP h q ((s.qp h q).disable 1) else s

/-- Commands of a pair whose first reply is still to come. -/
def QP.openCmds (p : QP) : Nat := (p.cmds.filter (fun c => !c.accepted)).length
/-- CQ slots reserved for the first reply of a command (R357). -/
def QP.reserved (p : QP) : Nat := p.openCmds + (p.replies.filter (fun r => !r.later)).length

/-- A pair that may fetch (R357, R358): enabled, work placed, a CQ slot to reserve, no later reply waiting for one. -/
def Hub.mayFetch (u : Hub) (q : Nat) : Bool :=
  let p := u.qp q
  decide (p.state = 1) && decide (p.sqHead ≠ p.sqTail) && decide (p.openCmds < 64) && p.replies.all (fun r => !r.later) &&
    decide (countDiff p.cqTail p.cqHead + p.reserved < u.cqDepth q)

/-- A reply queued for a command (R357, R367): the command leaves the pair unless more replies follow. Where the pair no
longer holds the command, or is in ERROR, the reply is lost. -/
def Sys.pushReply (s : Sys) (h q num : Nat) (r : Reply) : Sys :=
  let p := s.qp h q
  match p.cmds.find? (fun c => c.num = num) with
  | none => s
  | some c =>
    let r := { r with num := num, cmdId := c.id, irq := c.irqOnDone && !r.more, later := c.accepted }
    let cmds := if r.more then p.cmds.map (fun d => if d.num = num then { d with accepted := true } else d)
      else p.cmds.filter (fun d => d.num ≠ num)
    if p.state = 1 || p.state = 2 then s.setQP h q { p with cmds := cmds, replies := p.replies ++ [r] }
    else s.setQP h q { p with cmds := cmds }

/-- The next pair a hub fetches for: round-robin over the pairs with work (R357). -/
def Hub.fetchPair (u : Hub) : Option Nat :=
  let l := (NMap.keys u.qps).filter (fun q => u.mayFetch q)
  match l.find? (fun q => decide (q > u.fetchRR)) with
  | some q => some q
  | none => l.head?

/-- The hub fetches a command (R357, R365); one whose opcode is not defined is answered at once (R368). -/
def Sys.commandFetch (s : Sys) (h : Nat) : Sys :=
  let u := s.hub h
  if !u.dma || !u.ready then s
  else
    match u.fetchPair with
    | none => s
    | some q =>
      let p := u.qp q
      match s.hostRead (u.sqBase q + 64 * (p.sqHead % u.sqDepth q)) 64 with
      | none => (s.modHub h (fun x => { x with fetchRR := q })).qpError h q 5
      | some raw =>
        let c : Cmd := { raw := raw, num := p.nextNum, fetched := s.now }
        let s := s.setHub h { u.setQP q { p with
          sqHead := (p.sqHead + 1) % 2 ^ 32, nextNum := p.nextNum + 1, cmds := p.cmds ++ [c] } with fetchRR := q }
        if opcodeDefined c.op then s else s.pushReply h q c.num { status := stInvalidOpcode }

/-- The first command of a pair not yet started, where it has opcode `op` and its fence allows it to start (R358). -/
def Sys.nextCmd (s : Sys) (h q op : Nat) : Option Cmd :=
  let p := s.qp h q
  match p.cmds.find? (fun c => !c.started) with
  | none => none
  | some c =>
    let clear := (p.cmds.head?.map (fun d => d.num) = some c.num) && p.replies.all (fun r => r.more)
    if c.op = op && (!c.fence || clear) then some c else none

/-- The command is marked started. -/
def Sys.markStarted (s : Sys) (h q num : Nat) : Sys :=
  let p := s.qp h q
  s.setQP h q { p with cmds := p.cmds.map (fun c => if c.num = num then { c with started := true } else c) }

/-- The bytes of a reply (R351, R367). -/
def Reply.bytes (r : Reply) (phase : Bool) (queue time : Nat) : Nat :=
  r.cmdId + 2 ^ 16 * r.status + 2 ^ 24 * bitNat phase + 2 ^ 25 * bitNat r.more + 2 ^ 32 * queue + 2 ^ 48 * r.field +
    2 ^ 64 * (r.result % 2 ^ 64) + 2 ^ 128 * r.handle + 2 ^ 192 * (time % 2 ^ 64)

/-- The phase of reply number `i` on a ring of depth `d` (R351). -/
def phaseOf (i d : Nat) : Bool := i / d % 2 = 0

/-- The CQ's interrupt is sent and its counts restart (R360). -/
def Sys.raiseCQ (s : Sys) (h q : Nat) : Sys :=
  let p := s.qp h q
  (s.setQP h q { p with unsignalled := 0 }).msix h ((s.hub h).qpVector q)

/-- The oldest reply of a pair that has a CQ slot: its own, or for a later reply one that no command has reserved (R357,
R358). -/
def Hub.nextReply (u : Hub) (q : Nat) : Option Reply :=
  let p := u.qp q
  let used := countDiff p.cqTail p.cqHead
  p.replies.find? (fun r => if r.later then decide (used + p.reserved < u.cqDepth q) else decide (used < u.cqDepth q))

/-- The hub writes a reply (R351, R358, R360, R367). -/
def Sys.replyWrite (s : Sys) (h q : Nat) : Sys :=
  let u := s.hub h
  let p := u.qp q
  match u.nextReply q with
  | none => s
  | some r =>
    if (p.state ≠ 1 && p.state ≠ 2) || !u.dma then s
    else
      let i := p.cqTail
      let b := r.bytes (phaseOf i (u.cqDepth q)) (2048 * h + q) (s.hubTime h)
      let s := s.hostWrite (u.cqBase q + 32 * (i % u.cqDepth q)) 32 b
      let p' : QP := { p with
        replies := p.replies.erase r, cqTail := (i + 1) % 2 ^ 32
        unsignalled := if u.qpIrq q then p.unsignalled + 1 else 0
        firstAt := if p.unsignalled = 0 then s.now else p.firstAt }
      let s := s.setQP h q p'
      let s := if u.qpIrq q && (r.irq || decide (u.aggUs q = 0) || decide (p'.unsignalled ≥ u.aggCount q)) then s.raiseCQ h q
        else s
      s.setQP h q (s.qp h q).settle

/-- TIME_US since the first reply not yet signalled (R360). -/
def Sys.coalesceTimeout (s : Sys) (h q : Nat) : Sys :=
  let u := s.hub h
  let p := u.qp q
  if u.qpIrq q && decide (p.unsignalled > 0) && decide (s.now ≥ p.firstAt + 1000 * u.aggUs q) then s.raiseCQ h q else s

/-- Every pair of a hub enters DISABLED with a cause (R349, R365). Log entry 48. -/
def Hub.dropPairs (u : Hub) (cause : Nat) : Hub :=
  { u with qps := u.qps.map (fun e => (e.1, e.2.drop cause)), pairCause := cause }

/-- FLR, hot reset or link down (R365, R505, R546): DMA stops, the pairs are disabled, MSI-X and the event vector are
reset with the function. `down` marks a lost link. Log entries 48, 85. -/
def Sys.hubLinkReset (s : Sys) (h : Nat) (down : Bool) : Sys :=
  let u := s.hub h
  let u' := { u.dropPairs 7 with busMaster := false, memSpace := false, maskAll := false, msix := [] }
  let u' := { u' with regs := u'.regs.filter (fun r => decide (r.1 < 0x10000) || decide (r.1 ≥ 0x30000)) }
  let u' := (u'.setReg 0x100 (bitsOf (u.reg 0x100) 10 0)).setReg 0x108 0x3FF
  if down then (s.setHub h { u' with linkRate := 0, linkWidth := 0 }).event h 8 else s.setHub h u'

/-- Bus Master Enable cleared (R356). -/
def Sys.busMasterClear (s : Sys) (h : Nat) : Sys :=
  s.modHub h (fun u => { u with
    busMaster := false, qps := u.qps.map (fun e => (e.1, if e.2.state = 1 then e.2.drop 8 else e.2)) })

/-- BOUND set on a hub. -/
def Sys.setBound (s : Sys) (h : Nat) (b : Bool) : Sys :=
  if (s.hub h).bound = b then s else (s.modHub h (fun u => { u with bound := b })).event h 0

/-- The high word of the binding value (R347, R348, R539). Log entry 48. -/
def Sys.bindHi (s : Sys) (h hi : Nat) : Sys :=
  let u := s.hub h
  let v := u.bindLo + 2 ^ 32 * hi
  let s := s.setHub h { u with bindLo := 0, bind := some v }
  if h = s.lead.hub then
    match u.bind with
    | some old =>
      if u.bound && old ≠ v then ((s.setBound 0 false).setBound 1 false).disablePairs none 1 none else s.setBound h true
    | none => s.setBound h true
  else if (s.hub s.lead.hub).bound && (s.hub s.lead.hub).bind = some v then s.setBound h true
  else
    let s := s.modHub h (fun u => { u with qps := u.qps.map (fun e => (e.1, e.2.disable 1)) })
    (s.setBound h false).log 0x0004 2 0 0 0 0

/-- Training of the PCIe link (R343, R344, R539): rate 1–6 and width 1–16, 0 for a link that did not train. DESIGN CHOICE:
the host sets Memory Space Enable and Bus Master Enable as soon as the link is up (log entry 17). -/
def Sys.pcieTraining (s : Sys) (h rate width : Nat) : Sys :=
  let u := s.hub h
  let same := rate = u.linkRate && width = u.linkWidth
  if rate = 0 then (if same then s else s.hubLinkReset h true)
  else
    let s := s.setHub h { u with linkRate := rate, linkWidth := width, memSpace := true, busMaster := true }
    if same then s else s.event h 8

/-- An MSI-X vector unmasked: a pending message is sent (R360). -/
def Sys.msixUnmask (s : Sys) (h v : Nat) : Sys :=
  let u := s.hub h
  let e := NMap.get {} u.msix v
  let s := s.setHub h { u with msix := NMap.put u.msix v { e with masked := false, pending := e.pending && u.maskAll } }
  if e.pending && !u.maskAll then s.msix h v else s

end Sys2Proof.Machine
end

