-- ==== Sys2Proof/Machine/JobOps.lean ====
section
/-! DEFINITION. Jobs: the status word, freezes and thaws, steps, commits, replays and ends (R209, R217–R220, R391–R403,
R490, R491). -/

namespace Sys2Proof.Machine

/-- The core clock of an operating point, MHz (R463). -/
def oppMhz (n : Nat) : Nat := [600, 800, 1000, 1200, 1400, 1600, 1700, 1800].getD n 600
/-- A phase offset in cc as ns at an operating point, rounded up (R209). -/
def phaseNs (cc opp : Nat) : Nat := ceilDiv (cc * 1000) (oppMhz opp)
/-- The lead of T0 over panel time (R209, R465). Log entry 51. -/
def t0Lead : Nat := 20000

/-- The job's slots: physical tile, slot, table entry; entries whose tile has no live physical tile are left out. -/
def Sys.jobSlots (s : Sys) (j : Job) : List (Nat × Nat × JobEntry) :=
  j.spec.table.filterMap (fun e => (s.tileOfEid e.slot).map (fun t => (t, e.slot % 16, e)))
/-- The physical tiles of a job, each once. -/
def Sys.jobTiles (s : Sys) (j : Job) : List Nat := (s.jobSlots j).foldl (fun l e => if l.contains e.1 then l else l ++ [e.1]) []

/-- One CORE_CTRL message to each tile for the named slots (R285). -/
def Sys.coreCtrl (s : Sys) (slots : List (Nat × Nat)) (code : Nat) : Sys :=
  let tiles := slots.foldl (fun l e => if l.contains e.1 then l else l ++ [e.1]) ([] : List Nat)
  s.sendAll (tiles.map (fun t =>
    { dst := t, type := 0x09, urgent := true
      payload := maskOf ((slots.filter (fun e => e.1 = t)).map (fun e => e.2)) + 2 ^ 16 * code }))
def Sys.jobCtrl (s : Sys) (n code : Nat) : Sys := s.coreCtrl ((s.jobSlots (s.job n)).map (fun e => (e.1, e.2.1))) code

/-- The status word is updated (R395): JOB_EVENT where LAST_EVENT changed, HOLD was entered or the job ended, and the
word in host memory while the lead hub's link is up. Log entry 46. -/
def Sys.upJob (s : Sys) (n : Nat) (f : Job → Job) : Sys :=
  let j := s.job n
  let k := f j
  let k := { k with seq := (j.seq + 2) % 2 ^ 32, time := s.now }
  let ev := decide (k.lastEvent ≠ j.lastEvent) || (k.state = .hold && decide (j.state ≠ .hold)) || (j.state.live && !k.state.live)
  let s := s.setJob n k
  let s := if ev then s.eventBoth 4 else s
  match k.spec.statusAddr with
  | some a => if (s.hub s.lead.hub).dma then s.hostWrite a 64 (k.word n) else s
  | none => s
/-- The job changes without an update of its word. -/
def Sys.modJob (s : Sys) (n : Nat) (f : Job → Job) : Sys := s.setJob n (f (s.job n))

/-- The state of a slot's core. -/
def Sys.coreState (s : Sys) (t k : Nat) : CoreState := (NMap.get {} (s.tile t).slots k).state
/-- Every slot of the job is frozen, or its tile is lost (R401, R481). -/
def Sys.jobFrozen (s : Sys) (j : Job) : Bool :=
  (s.jobSlots j).all (fun e => (s.tile e.1).shed || s.coreState e.1 e.2.1 ≠ .lapRunning)
/-- No slot of the job runs or is frozen any more (R402). -/
def Sys.jobStopped (s : Sys) (j : Job) : Bool :=
  (s.jobSlots j).all (fun e =>
    (s.tile e.1).shed || (s.coreState e.1 e.2.1 ≠ .lapRunning && s.coreState e.1 e.2.1 ≠ .lapFrozen))

/-- FREEZE to every slot of a job; its watchdog loses its anchor (R56, R219). -/
def Sys.freezeJob (s : Sys) (n : Nat) : Sys :=
  (s.modJob n (fun j => { j with frozeAt := s.now, cutAt := none, purgedAt := none, wd := { j.wd with anchored := false } })).jobCtrl n 1

/-- The oldest uncommitted step; laps in a job; the laps of its steps up to `k` (R396, R397). Log entry 50. -/
def Job.oldest (j : Job) : Nat := j.lapsCommitted / max 1 j.spec.stepLaps
def Job.endless (j : Job) : Bool := j.spec.runs = 0xFFFFFFFF
def Job.lapsTo (j : Job) (k : Nat) : Nat :=
  if j.endless then k * j.spec.stepLaps else min (k * j.spec.stepLaps) j.spec.runs
def Job.lastStep (j : Job) (k : Nat) : Bool := !j.endless && decide ((k + 1) * j.spec.stepLaps ≥ j.spec.runs)

/-- The partition holds a MIRROR region. -/
def Sys.hasMirror (s : Sys) (p : Nat) : Bool :=
  (s.partPhys p).any (fun t => (s.tile t).store.valid.any (fun r => r.2.mirror && decide (r.2.partition = p)))

/-- The largest lap index the job's slots have reached. -/
def Sys.reached (s : Sys) (j : Job) : Nat :=
  (s.jobSlots j).foldl (fun a e => max a (NMap.get {} (s.tile e.1).slots e.2.1).lap.index) 0

/-- The freeze registers stop the job at every step (R397). -/
def Sys.everyStep (s : Sys) (j : Job) : Bool := j.spec.hostCommit || s.hasMirror j.spec.partition

/-- The step the job's cores run: its oldest uncommitted one or, where the freeze registers let them run on, the next
(R397, R402). Log entry 50. -/
def Sys.currentStep (s : Sys) (j : Job) : Nat :=
  if s.everyStep j || j.state = .loading || j.state = .replaying then j.oldest
  else min (j.oldest + 1) (max j.oldest (s.reached j / max 1 j.spec.stepLaps))

/-- The lap whose closing boundary freezes the job's cores (R397, R402); a drain waits for the step that they run (R498). -/
def Sys.freezeLap (s : Sys) (j : Job) : Nat :=
  let o := j.oldest
  let n := max 1 j.spec.stepLaps
  (if s.everyStep j then (o + 1) * n
    else match j.stopAtStep with
      | some k => (k + 1) * n
      | none => if j.holdFor = 3 then (max o (s.reached j / n) + 1) * n else (o + 2) * n) - 1
/-- The freeze registers of every core of the job are armed (R397). -/
def Sys.armJob (s : Sys) (n : Nat) : Sys :=
  let j := s.job n
  let lap := s.freezeLap j
  (s.jobSlots j).foldl (fun (s : Sys) e =>
    (s.setTileReg e.1 (0x1A40 + 8 * e.2.1) (lap % 2 ^ 32)).setTileReg e.1 (0x1A44 + 8 * e.2.1) 1) s

/-- The start times of a job's slots from a new T0 (R208, R209). -/
def Sys.writeStarts (s : Sys) (n : Nat) : Sys :=
  let j := s.job n
  let t0 := s.now + t0Lead
  let s := s.modJob n (fun j => { j with t0 := t0 })
  (s.jobSlots j).foldl (fun (s : Sys) e =>
    let t := t0 + phaseNs e.2.2.phase j.opp
    (s.setTileReg e.1 (0x1B40 + 8 * e.2.1) (t % 2 ^ 32)).setTileReg e.1 (0x1B44 + 8 * e.2.1) (t / 2 ^ 32)) s
/-- The waits that `sel` names are answered with `f` of their replies. -/
def Sys.answerWaits (s : Sys) (sel : WaitFor → Bool) (f : Reply → Reply) : Sys :=
  let due := s.lead.waits.filter (fun w => sel w.for_)
  let s := s.modLead (fun l => { l with waits := l.waits.filter (fun w => !sel w.for_) })
  due.foldl (fun s w => s.pushReply w.hub w.qp w.num (f w.reply)) s
/-- Jobs that share a tile with one of `g` (R464). -/
def Sys.sharers (s : Sys) (g : List Nat) : List Nat :=
  let tiles := g.flatMap (fun n => s.jobTiles (s.job n))
  (NMap.keys s.lead.jobs).filter (fun n => (s.job n).state.live && (g.contains n || (s.jobTiles (s.job n)).any (fun t => tiles.contains t)))
/-- The job group of job `n` (R464). -/
def Sys.jobGroup (s : Sys) (n : Nat) : List Nat :=
  (List.range s.lead.jobs.length).foldl (fun g _ => s.sharers g) [n]

/-- Core voltage in mV of each operating point (R463). -/
def oppMv (n : Nat) : Nat := [580, 610, 640, 670, 710, 750, 800, 850].getD n 580
/-- A tile moves to an operating point: its rail, and ALARM at the set point less 50 mV (R447, R463, R465). -/
def Tile.toOpp (t : Tile) (n : Nat) : Tile :=
  let alarm := (oppMv n - 50) * 2 / 5
  let regs := (List.range 8).foldl (fun r m => NMap.put r (0xD100 + 16 * m) (putBits (NMap.get 0 r (0xD100 + 16 * m)) 25 16 alarm)) t.regs
  { t with regs := regs, pwr := { t.pwr with opp := n, coreMv := oppMv n, retention := false } }
/-- The operating point of a job group changes (R465 steps 2–4). -/
def Sys.applyOpp (s : Sys) (g : List Nat) (op : Nat) : Sys :=
  let s := (g.flatMap (fun n => s.jobTiles (s.job n))).foldl (fun (s : Sys) t => s.modTile t (fun x => x.toOpp op)) s
  let s := g.foldl (fun (s : Sys) n => s.modJob n (fun j => { j with opp := op })) s
  { s with power := { s.power with oppWait := s.power.oppWait.filter (fun w => !g.contains w.1) } }

/-- One job thaws from a new T0: start times, THAW, the word back to RUNNING, and PHASE_SET answered (R209, R403). -/
def Sys.thawOne (s : Sys) (n : Nat) : Sys :=
  let s := (s.writeStarts n).upJob n (fun j => { j with state := .running, holdCause := 0, holdFor := 0, before := 0 })
  let s := s.jobCtrl n 2
  if s.power.oppWait.any (fun w => w.1 = n) then s
  else s.answerWaits (fun w => match w with | .phase k => k = n | _ => false) (fun r => { r with result := (s.job n).opp })

/-- A job thaws. A change of operating point that waits for its group is made now where every job of the group runs and
every core of the group is frozen; where only freezes are missing, they are asked for and the group thaws once they have
come (R210, R465). -/
def Sys.thawJob (s : Sys) (n : Nat) : Sys :=
  match s.power.oppWait.find? (fun w => w.1 = n) with
  | none => s.thawOne n
  | some w =>
    let g := s.jobGroup n
    let late := g.filter (fun k => !s.jobFrozen (s.job k))
    if g.any (fun k => k ≠ n && (s.job k).state ≠ .running) then s.thawOne n
    else if late.isEmpty then g.foldl (fun s k => s.thawOne k) (s.applyOpp g w.2)
    else
      late.foldl (fun s k => s.freezeJob k) (s.upJob n (fun j => { j with
        state := .running, holdCause := 0, holdFor := 0, before := 0 }))

/-- A command waits. -/
def Sys.addWait (s : Sys) (h q num : Nat) (w : WaitFor) (r : Reply) : Sys :=
  s.modLead (fun l => { l with waits := l.waits ++ [{ hub := h, qp := q, num := num, for_ := w, reply := r }] })

/-- The job ends: DONE, or FAILED with a status (R393, R483). Its second reply, and those that wait on it, are given. -/
def Sys.endJob (s : Sys) (n fail : Nat) : Sys :=
  let s := s.upJob n (fun j => { j with
    state := if fail = 0 then .done else .failed, holdCause := 0, failStatus := fail, endedAt := s.now, commit := none
    stopped := j.stopped || (j.stopping || j.stopAtStep.isSome) && fail = 0, stopping := false, holdFor := 0, asked := [] })
  let j := s.job n
  let s := (s.jobTiles j).foldl (fun (s : Sys) t => s.modTile t (fun x => { x with replaying := false })) s
  let s := s.pushReply j.spec.hub j.spec.qp j.spec.num
    { status := fail, result := j.lapsCommitted, handle := j.handle n }
  let s := s.answerWaits (fun w => match w with | .jobStop k => k = n | _ => false)
    (fun r => { r with result := j.lapsCommitted })
  let s := s.answerWaits (fun w => match w with | .stepCommit k _ => k = n | _ => false)
    (fun r => { r with status := if fail = stStateLost then stStateLost else if fail = 0 then stSuccess else stNotPermitted
                       field := if fail = stStateLost || fail = 0 then 0 else 8, result := j.lapsCommitted })
  let s := s.answerWaits (fun w => match w with | .replay k => k = n | _ => false)
    (fun r => { r with status := if fail = 0 then stNotPermitted else fail })
  s.answerWaits (fun w => match w with | .phase k => k = n | _ => false)
    (fun r => { r with status := stNotPermitted, field := 8 })

/-- The job's cores are stopped at their next lap boundary; frozen ones at once (R56, R402). Log entry 51. -/
def Sys.stopJob (s : Sys) (n fail : Nat) : Sys :=
  (s.modJob n (fun j => { j with stopping := true, stopFail := fail, commit := none, holdFor := 0 })).jobCtrl n 3

/-- A job fails at once (R393, R483): its remaining cores are stopped. Log entry 51. -/
def Sys.failJob (s : Sys) (n fail fault : Nat) : Sys :=
  if (s.job n).state.live then
    ((s.jobCtrl n 3).modJob n (fun j => { j with faultEid := fault })).endJob n fail
  else s

/-- A job slot whose replay begins later (R481, R482). Log entry 54. -/
def Sys.laterJob (s : Sys) (n : Nat) : Sys :=
  s.modLead (fun l => { l with recov := { l.recov with later := if l.recov.later.contains n then l.recov.later else l.recov.later ++ [n] } })

/-- A replay begins (R401 step 1): the word, FREEZE to every slot. The ninth in a row of one step fails the job. Log
entry 54. -/
def Sys.beginReplay (s : Sys) (n : Nat) : Sys :=
  let j := s.job n
  if j.state = .replaying || !j.state.live then s
  else if j.rewinds ≥ 8 then s.failJob n stStepReplayed 0
  else
    let s := s.upJob n (fun j => { j with
      state := .replaying, holdCause := 0, lastEvent := stStepReplayed, commit := none, holdFor := 0, asked := []
      rewinds := j.rewinds + 1 })
    let s := s.answerWaits (fun w => match w with | .stepCommit k _ => k = n | _ => false)
      (fun r => { r with status := stStepReplayed })
    let s := (s.jobTiles j).foldl (fun (s : Sys) t => s.modTile t (fun x => { x with replaying := true })) s
    s.freezeJob n

/-- The items of each ingest context of a partition that ended steps need no more: those below the first unanswered. Log
entry 49. -/
def Sys.itemMarks (s : Sys) (p : Nat) : List (Nat × Nat × Nat) :=
  [0, 1].flatMap (fun h =>
    ((s.hub h).ctxs.filter (fun c => c.2.isOpen && !c.2.egress && decide (c.2.f 2 2 = p))).map (fun c =>
      (h, c.1, c.2.unanswered.foldl min c.2.items)))

/-- The MIRROR regions of a partition with the shadows the lead hub placed (R159): owner tile, region, shadow's logical
tile, region there. -/
def Sys.mirrors (s : Sys) (p : Nat) : List (Nat × Nat × Nat × Nat) :=
  (s.partPhys p).flatMap (fun t =>
    ((s.tile t).store.valid.filter (fun r => r.2.mirror && decide (r.2.partition = p))).filterMap (fun r =>
      (NMap.find (s.tile t).mirrorAt r.1).map (fun q => (t, r.1, q.1, q.2))))

/-- A commit finishes (R398): the committed laps, the ingest items, and what comes next for the job. Log entry 49. -/
def Sys.finishCommit (s : Sys) (n : Nat) : Sys :=
  let j := s.job n
  let k := j.oldest
  let poison := j.poison.contains k
  let marks := NMap.get [] j.marks k
  let s := s.upJob n (fun j => { j with
    lapsCommitted := j.lapsTo (k + 1), commit := none, poison := j.poison.filter (fun x => x ≠ k), rewinds := 0
    poisonSteps := if poison then j.poisonSteps + 1 else j.poisonSteps, asked := j.asked.filter (fun a => a.1 ≠ k)
    ends := NMap.erase j.ends k, marks := NMap.erase j.marks k })
  let s := marks.foldl (fun (s : Sys) m =>
    s.modHub m.1 (fun u => u.setCtx m.2.1 { u.ctx m.2.1 with committed := max (u.ctx m.2.1).committed m.2.2 })) s
  let j := s.job n
  let s := s.answerWaits (fun w => match w with | .stepCommit a b => a = n && b = k | _ => false)
    (fun r => { r with status := stSuccess, result := j.lapsCommitted })
  if j.lastStep k then s.endJob n 0
  else if j.stopAtStep.any (fun e => decide (e ≤ k)) then s.stopJob n 0
  else if j.holdFor = 3 && s.jobFrozen j then
    if s.reached j ≤ j.lapsCommitted % 2 ^ 32 then s.upJob n (fun j => { j with state := .hold, holdCause := 3 }) else s
  else
    let s := s.armJob n
    let j := s.job n
    if (s.jobSlots j).any (fun e => s.coreState e.1 e.2.1 = .lapFrozen) && (j.state = .running || (j.state = .hold && j.holdCause = 2))
    then s.thawJob n
    else s.modJob n (fun j => { j with holdFor := if j.holdFor = 2 then 0 else j.holdFor })

/-- The oldest uncommitted step has ended on every slot: its commit begins with the audit sweep (R398, R121). -/
def Sys.beginCommit (s : Sys) (n : Nat) : Sys :=
  let j := s.job n
  let k := j.oldest
  let ended := NMap.get [] j.ends k
  if j.commit.isSome || !(j.state = .running || j.state = .hold) || j.spec.table.any (fun e => !ended.contains e.slot) ||
      j.spec.table.isEmpty || j.stopping then s
  else
    let tiles := s.partPhys j.spec.partition
    let s := s.modJob n (fun j => { j with commit := some { step := k, waitTiles := tiles } })
    tiles.foldl (fun (s : Sys) t => s.modTile t (fun x => { x with audit := { x.audit with commitAsked := true } })) s

/-- The commit audit sweep of a tile has ended. -/
def Tile.sweepEnded (t : Tile) : Bool := t.shed || (!t.audit.commitAsked && !(t.audit.active && t.audit.commit))

/-- No copy of the partition's MIRROR regions is still under way (R490). -/
def Sys.copiesEnded (s : Sys) (p : Nat) : Bool :=
  (s.mirrors p).all (fun m => (s.tile m.1).wins.ctrlSent.all (fun c => c.src ≠ m.2.1))

/-- What becomes of a swept step (R398, R400, R490). -/
def Sys.decideCommit (s : Sys) (n : Nat) : Sys :=
  let j := s.job n
  match j.commit with
  | none => s
  | some c =>
    let asked := j.asked.find? (fun a => a.1 = c.step)
    let accepted := match asked with
      | some a => a.2
      | none => false
    if c.copying then s
    else if c.waitTiles.any (fun t => (s.tile t).audit.commitFailed) then
      if s.cool.hold.isSome then s.laterJob n else s.beginReplay n
    else if j.poison.contains c.step && !accepted then
      let s := s.upJob n (fun j => { j with lastEvent := stPoisoned, holdFor := if j.holdFor = 0 then 2 else j.holdFor })
      let s := s.modJob n (fun j => { j with asked := j.asked.filter (fun a => a.1 ≠ c.step) })
      s.answerWaits (fun w => match w with | .stepCommit a b => a = n && b = c.step | _ => false)
        (fun r => { r with status := stPoisoned })
    else if j.spec.hostCommit && asked.isNone then s.modJob n (fun j => { j with holdFor := if j.holdFor = 0 then 2 else j.holdFor })
    else
      let s := s.ensureShadows j.spec.partition
      let ms := s.mirrors j.spec.partition
      if ms.isEmpty then s.finishCommit n
      else
        let s := s.modJob n (fun j => { j with commit := some { c with copying := true } })
        let s := ms.foldl (fun (s : Sys) m =>
          match s.physOf m.2.2.1 with
          | some _ => s.onTile m.1 (fun x => x.controlSend (0x1100 + m.2.2.1) m.2.2.2 m.2.1)
          | none => s) s
        if s.copiesEnded j.spec.partition then s.finishCommit n else s

/-- The commit audit sweep of a step ends (R398). -/
def Sys.commitSweepDone (s : Sys) (n : Nat) : Sys :=
  match (s.job n).commit with
  | none => s
  | some c => if c.waitTiles.all (fun t => (s.tile t).sweepEnded) then (s.decideCommit n).beginCommit n else s

/-- Commits whose copies have ended (R490). -/
def Sys.copiesDone (s : Sys) : Sys :=
  (NMap.keys s.lead.jobs).foldl (fun (s : Sys) n =>
    match (s.job n).commit with
    | some c => if c.copying && s.copiesEnded (s.job n).spec.partition then (s.finishCommit n).beginCommit n else s
    | none => s) s

/-- While a core of a job is frozen, its watchdog has no anchor (R219). -/
def Sys.dropAnchor (s : Sys) (n : Nat) : Sys :=
  let j := s.job n
  if j.wd.anchored && (s.jobSlots j).any (fun e => s.coreState e.1 e.2.1 = .lapFrozen) then
    s.modJob n (fun j => { j with wd := { j.wd with anchored := false } })
  else s

/-- A job follows its cores and panel time: LOADING ends at T0, a stopped job ends, a job to be held is held once its
cores have frozen (R219, R393, R398, R402). -/
def Sys.settleJob (s : Sys) (n : Nat) : Sys :=
  let s := s.dropAnchor n
  let j := s.job n
  if !j.state.live then s
  else if j.stopping && s.jobStopped j then s.endJob n j.stopFail
  else if j.state = .loading && decide (j.t0 ≤ s.now) then s.upJob n (fun j => { j with state := .running })
  else if j.holdFor = 2 && j.state = .running && s.jobFrozen j && j.commit.isSome then
    s.upJob n (fun j => { j with state := .hold, holdCause := 2 })
  else s
def Sys.settleJobs (s : Sys) : Sys := (NMap.keys s.lead.jobs).foldl (fun s n => s.settleJob n) s

/-- The live job that holds a core slot. -/
def Sys.jobOfSlot (s : Sys) (eid : Nat) : Option Nat :=
  (s.lead.jobs.find? (fun p => p.2.state.live && p.2.spec.table.any (fun e => e.slot = eid))).map (fun p => p.1)

/-- A step-end notice at the lead hub (R396, R398). Log entry 23. -/
def Sys.stepEnd (s : Sys) : Sys :=
  match s.takeMsg s.leadAddr (fun m => m.type = 0x10 && m.sub = ncStepEnd) with
  | none => s
  | some (m, s) =>
    let eid := bitsOf m.payload 23 8
    let k := bitsOf m.payload 39 24 + 2 ^ 16 * bitsOf m.payload 62 40
    match s.jobOfSlot eid with
    | none => s
    | some n =>
      let j := s.job n
      if k < j.oldest then s
      else
        let ended := NMap.get [] j.ends k
        let ended := if ended.contains eid then ended else ended ++ [eid]
        let s := s.modJob n (fun j => { j with ends := NMap.put j.ends k ended })
        if j.spec.table.all (fun e => ended.contains e.slot) then
          let s := s.modJob n (fun j => { j with marks := NMap.put j.marks k (s.itemMarks j.spec.partition) })
          (s.upJob n (fun j => { j with lapsDone := max j.lapsDone (j.lapsTo (k + 1)) })).beginCommit n
        else s

/-- A reported miss (R220). -/
def Sys.reportMiss (s : Sys) (n f late : Nat) : Sys :=
  let s := s.upJob n (fun j => { j with
    lastEvent := stDeadlineMissed, misses := satAdd 32 j.misses 1, missFrame := f % 2 ^ 32, missNs := min late (2 ^ 32 - 1)
    wd := { j.wd with reported := j.wd.reported ++ [f] } })
  if (s.job n).spec.stopOnMiss then s.stopJob n stDeadlineMissed else s

/-- A value restored from its low bits, nearest to `near`. Log entry 82. -/
def nearest (low width near : Nat) : Nat :=
  let m := 2 ^ width
  let d := (low + m - near % m) % m
  if 2 * d < m then near + d else if near + d ≥ m then near + d - m else near + d

/-- A frame notice: frame and time restored from their low bits, then judged (R218, R219, R285). Log entry 82. -/
def Sys.frame (s : Sys) : Sys :=
  match s.takeMsg s.leadAddr (fun m => m.type = 0x11) with
  | none => s
  | some (m, s) =>
    let t := nearest (bitsOf m.payload 47 0) 48 s.now
    let job := s.lead.jobs.find? (fun p =>
      p.2.state.live && p.2.spec.watch && decide ((s.tileOfEid p.2.spec.outputEid) = some m.src))
    match job with
    | none => s
    | some (n, j) =>
      let w := j.wd
      let f := nearest (bitsOf m.payload 63 48) 16 (if w.anchored then w.f0 + 1 else w.highest)
      let s := s.modJob n (fun j => { j with wd := { j.wd with highest := max j.wd.highest f } })
      if !w.anchored then s.modJob n (fun j => { j with wd := { j.wd with anchored := true, f0 := f, t0 := t } })
      else if !w.reported.contains f then
        let due := w.t0 + (f - w.f0) * j.spec.cadence
        let t' := t + (w.f0 - f) * j.spec.cadence      -- a frame before the anchor is due before it
        if t' > due + j.spec.tolerance then
          (s.reportMiss n f (t' - due)).modJob n (fun j => { j with wd := { j.wd with f0 := f, t0 := t } })
        else s
      else s.modJob n (fun j => { j with wd := { j.wd with f0 := f, t0 := t } })

/-- Panel time passes an expected frame with no notice (R219). -/
def Sys.frameOverdue (s : Sys) (n : Nat) : Sys :=
  let j := s.job n
  let w := j.wd
  let held := match s.cool.hold with
    | some _ => true
    | none => false
  if !j.state.live || !j.spec.watch || !w.anchored || held then s
  else
    let g := (List.range (w.reported.length + (w.highest - w.f0) + 2)).find? (fun i =>
      decide (w.f0 + i + 1 > w.highest) && !w.reported.contains (w.f0 + i + 1))
    match g with
    | none => s
    | some i =>
      let due := w.t0 + (i + 1) * j.spec.cadence
      if s.now > due + j.spec.tolerance + 2000 then s.reportMiss n (w.f0 + i + 1) (s.now - due) else s

end Sys2Proof.Machine
end

