-- ==== Sys2Proof/Machine/RecoveryOps.lean ====
section
/-! DEFINITION. Recovery: shedding and regrowing tiles, rebuilding a regrown tile, rewinding and replaying a job
(R25, R68, R401, R480–R494, R565). -/

namespace Sys2Proof.Machine

/-- A shed and spare map entry written to both hubs' flash (R513, R517). Log entry 56. -/
def Sys.mapShed (s : Sys) (kind wher sub state logical : Nat) : Sys :=
  let add (f : Flash) : Flash := { f with shedMap := f.shedMap ++ [(kind, wher, sub, state, logical, s.now)] }
  let fl := [0, 1].foldl (fun m h => if (s.hub h).live then NMap.modify {} m h add else m) s.boot.flash
  { s with boot := { s.boot with flash := fl } }

/-- A unit is shed: its health entry, the maps, the log and the event (R379, R502, R517, R542, R545). -/
def Sys.markShed (s : Sys) (kind wher sub : Nat) (hard host : Bool) : Sys :=
  let key := unitKey kind wher sub
  if (s.unit key).shed.isSome then s
  else
    let s := s.modUnit key (fun u => { u with
      shed := some s.now, draining := none, watch := none, held := false, hard := hard, host := host })
    ((s.mapShed kind wher sub 3 0xFF).log 0x0020 1 kind wher sub 0).eventBoth 7

/-- A hard event of a unit in its health record (R502). -/
def Sys.hardEvent (s : Sys) (key code : Nat) : Sys := s.modUnit key (fun u => { u with lastCode := code, lastTime := s.now })

/-- MIRROR regions of the job's step are being copied (R490). -/
def Job.copying (j : Job) : Bool :=
  match j.commit with
  | some c => c.copying
  | none => false

/-- A fault reaches a partition: each of its jobs begins a replay, or freezes anew where it already replays (R481,
R482). A job in LOADING or held by Hold does so later; one whose step is being copied commits it first (R490); one in HOLD
with cause EPOCH has no uncommitted step and replays nothing (R481, R498). -/
def Sys.recoverPart (s : Sys) (p : Nat) : Sys :=
  (NMap.keys s.lead.jobs).foldl (fun (s : Sys) n =>
    let j := s.job n
    if j.spec.partition ≠ p || !j.state.live then s
    else if j.state = .replaying then s.freezeJob n
    else if j.state = .hold && j.holdCause = 3 then s
    else if j.state = .loading || (j.state = .hold && j.holdCause = 1) || s.cool.hold.isSome || j.copying then s.laterJob n
    else s.beginReplay n) s

/-- The jobs of a partition fail (R483). -/
def Sys.failPart (s : Sys) (p fail : Nat) : Sys :=
  (NMap.keys s.lead.jobs).foldl (fun (s : Sys) n => if (s.job n).spec.partition = p then s.failJob n fail 0 else s) s

/-- Replays that had to wait begin (R481, R482). -/
def Sys.settleLater (s : Sys) : Sys :=
  s.lead.recov.later.foldl (fun (s : Sys) n =>
    let j := s.job n
    let drop (s : Sys) : Sys := s.modLead (fun l => { l with recov := { l.recov with later := l.recov.later.filter (fun x => x ≠ n) } })
    if !j.state.live || j.state = .replaying || (j.state = .hold && j.holdCause = 3) then drop s
    else if (j.state = .running || (j.state = .hold && j.holdCause ≠ 1)) && !j.copying && s.cool.hold.isNone then
      (drop s).beginReplay n
    else s) s

/-- The logical tile that a physical tile serves, or is about to serve. -/
def Sys.servedBy (s : Sys) (t : Nat) : Option Nat :=
  match s.lead.recov.regrown.find? (fun g => g.now_ = t) with
  | some g => some g.logical
  | none => (s.lead.place.find? (fun p => p.2 = t)).map (fun p => p.1)

/-- Copies of a commit whose buddy is lost: a new shadow is placed and the copy made again (R490). -/
def Sys.recopy (s : Sys) (lost : Nat) : Sys :=
  s.lead.place.foldl (fun (s : Sys) p =>
    let again := (s.tile p.2).wins.ctrlSent.filter (fun c => c.dst = 0x1100 + lost)
    again.foldl (fun (s : Sys) c =>
      let s := s.modTile p.2 (fun t => { t with
        mirrorAt := NMap.erase t.mirrorAt c.src, wins := { t.wins with ctrlSent := t.wins.ctrlSent.filter (fun d => d ≠ c) } })
      match s.placeShadow p.2 c.src with
      | none => s
      | some s =>
        match NMap.find (s.tile p.2).mirrorAt c.src with
        | some (lb, m) => s.onTile p.2 (fun x => x.controlSend (0x1100 + lb) m c.src)
        | none => s) s) s

/-- One tile is fenced and shed, and its logical tile goes to a spare (R25, R268, R481, R484): the change to switch, if
any. `drain` marks a tile whose store is to be copied as it stands (R498). -/
def Sys.shedTile (s : Sys) (t : Nat) (hard host drain : Bool) : List (Nat × Nat) × Sys :=
  if t ≥ 256 || (s.tile t).shed then ([], s)
  else
    let served := s.servedBy t
    let s := (s.fenceTile t).markShed ukTile t 0 hard host
    match served with
    | none => ([], s)
    | some l =>
      let new := s.spareFor t s.promised
      let old := match s.lead.recov.regrown.find? (fun g => g.logical = l) with
        | some g => g.old
        | none => t
      let keep := s.lead.recov.regrown.filter (fun g => g.logical ≠ l)
      let grown := match new with
        | some n => keep ++ [{ logical := l, old := old, now_ := n, drain := drain }]
        | none => keep
      let s := s.modLead (fun x => { x with recov := { x.recov with
        regrown := grown, starting := x.recov.starting.filter (fun e => e.1 ≠ t), awaited := x.recov.awaited.filter (fun e => e.1 ≠ t) } })
      let s := s.log 0x0021 0 ukTile t 0 (new.getD 0xFF)
      let s := match new with
        | some n => s.mapShed ukTile n 0 0 l
        | none => s
      ([(l, new.getD 256)], s)

/-- Tiles are lost or leave: shed, regrown in ascending logical number in one epoch switch, and every partition reached
recovers (R480, R481, R493). A partition left without a live tile fails NO_SPARE. -/
def Sys.loseTiles (s : Sys) (ts : List Nat) (hard host : Bool) : Sys :=
  let order := (ts.filterMap (fun t => (s.servedBy t).map (fun l => (l, t)))).mergeSort (fun a b => decide (a.1 ≤ b.1))
  let rest := ts.filter (fun t => (s.servedBy t).isNone)
  let parts := s.partsOf (order.map (fun a => a.1))
  let mirrored := parts.filter (fun p =>
    order.any (fun a => !(s.tile a.2).mirrorRegions.isEmpty && bitOf (NMap.get {} s.lead.partitions p).tiles a.1))
  let (ch, s) := (order.map (fun a => a.2) ++ rest).foldl (fun (a : List (Nat × Nat) × Sys) t =>
    let (c, s) := a.2.shedTile t hard host false
    (a.1 ++ c, s)) ([], s)
  let s := if ch.isEmpty then s else s.modLead (fun l => { l with swQueue := l.swQueue ++ [ch] })
  let s := mirrored.foldl (fun (s : Sys) p =>
    (NMap.keys s.lead.jobs).foldl (fun (s : Sys) n =>
      if (s.job n).spec.partition = p && (s.job n).copying then s.failJob n stStateLost 0 else s) s) s
  let s := order.foldl (fun (s : Sys) a => s.recopy a.1) s
  let s := parts.foldl (fun (s : Sys) p => s.recoverPart p) s
  ch.foldl (fun (s : Sys) c => if c.2 < 256 then s else (s.partsOf [c.1]).foldl (fun (s : Sys) p => s.failPart p stNoSpare) s) s

/-- A whole-tile fault (R68, R292, R480). -/
def Sys.loseTile (s : Sys) (t : Nat) : Sys := if (s.tile t).shed then s else s.loseTiles [t] true false

/-- Routes change and no placement does: an epoch switch is asked for, once (R240, R292). -/
def Sys.askSwitch (s : Sys) : Sys :=
  if s.lead.swQueue.contains [] then s else s.modLead (fun l => { l with swQueue := l.swQueue ++ [[]] })

/-- The restore table's entry for a region (R485): host address of data row 0. -/
def Sys.restoreAddr (s : Sys) (l k size : Nat) : Option Nat :=
  let u := s.hub s.lead.hub
  let hit := u.regs.find? (fun r => decide (0x80000 ≤ r.1) && decide (r.1 < 0x90000) && r.1 % 16 = 0 && bitOf r.2 14 &&
    bitsOf r.2 7 0 = l && bitsOf r.2 13 8 = k && u.reg (r.1 + 4) = size)
  hit.map (fun r => u.reg (r.1 + 8) + 2 ^ 32 * u.reg (r.1 + 12))

/-- Rows of an image in host memory, none where a read fails. -/
def Sys.hostRows (s : Sys) (a n : Nat) : Option (List (Nat × Bool)) :=
  (List.range n).mapM (fun i => (s.hostRead (a + 512 * i) 512).map (fun v => (v, false)))

/-- The rows of region `k` on the tile that is left, where it reads clean (R486). -/
def Sys.oldRows (s : Sys) (old k : Nat) : Option (List (Nat × Bool)) × Sys :=
  if s.storeAnswers old then
    let (r, s) := s.askTile old (fun x => x.regionRows k)
    (if r.2 then none else some r.1, s)
  else (none, s)

/-- What the tile at `o` that holds logical tile `l` cannot itself give of region `k` (R486): the owner's region for a
shadow, the shadow for a MIRROR region, the restore table for WEIGHT and code; an empty list leaves another region zero. -/
def Sys.otherRows (s : Sys) (l o k : Nat) (r : Region) (code : Bool) : Option (List (Nat × Bool)) × Sys :=
  if r.shadow then
    match NMap.find (s.tile o).shadowOf k with
    | none => (none, s)
    | some (lo, m) =>
      match s.physOf lo with
      | some p => if s.dirty p m then (none, s) else
          let (q, s) := s.askTile p (fun x => x.regionRows m)
          (if q.2 then none else some q.1, s)
      | none => (none, s)
  else if r.mirror then s.shadowRows o k
  else if r.cls = 1 || code then
    match s.restoreAddr l k r.size with
    | some a => (s.hostRows a r.size, s)
    | none => (none, s)
  else (some [], s)

/-- The rows that fill region `k` of a regrown tile (R486): none where nothing can provide them. A drained tile gives every
region that it can still read (R498). Log entry 80. -/
def Sys.rebuildRows (s : Sys) (g : Regrown) (k : Nat) (r : Region) (code : Bool) : Option (List (Nat × Bool)) × Sys :=
  let (old, s) := s.oldRows g.old k
  if old.isSome && (g.drain || r.shadow || (!r.mirror && (r.cls = 1 || code))) then (old, s)
  else s.otherRows g.logical g.old k r code

/-- A shadow that nothing can fill is lost to its owner (R486, R489). -/
def Sys.loseShadow (s : Sys) (shadows : NMap (Nat × Nat)) (t k : Nat) : Sys :=
  let s := match NMap.find shadows k with
    | some (lo, m) =>
      (match s.physOf lo with
       | some o => s.modTile o (fun x => { x with mirrorAt := NMap.erase x.mirrorAt m })
       | none => s)
    | none => s
  s.modTile t (fun x => { x with
    store := { x.store with regions := NMap.erase x.store.regions k }, shadowOf := NMap.erase x.shadowOf k })

/-- The regions of tile `t` with a parity-lost group whose parity row lies in bank `b`: what a PARITY_MISMATCH notice of
that bank concerns (R188). -/
def Sys.damagedRegions (s : Sys) (t b : Nat) : List (Nat × Nat) :=
  let st := (s.tile t).store
  (st.valid.filter (fun r => decide (r.2.cls = 1) && (List.range (r.2.size / 8)).any (fun g =>
    let prow := r.2.base + 9 * g + 8
    decide (prow % 64 = b) && st.parityLost prow))).map (fun r => (t, r.1))

/-- Damaged regions of a partition reloaded (R188, R486): false where nothing can provide one. -/
def Sys.reloadDamaged (s : Sys) (p : Nat) : Bool × Sys :=
  let mine := s.lead.recov.damaged.filter (fun d => (s.partPhys p).contains d.1)
  let s := s.modLead (fun x => { x with recov := { x.recov with damaged := x.recov.damaged.filter (fun d => !mine.contains d) } })
  mine.foldl (fun (a : Bool × Sys) d =>
    match (a.2.tile d.1).store.region d.2, (a.2.tile d.1).logical with
    | some r, some l =>
      let (rows, s) := a.2.otherRows l d.1 d.2 r false
      (match rows with
       | some l => (a.1, s.onTile d.1 (fun x => x.restoreRows d.2 l))
       | none => if r.shadow then (a.1, s.loseShadow (s.tile d.1).shadowOf d.1 d.2) else (false, s))
    | _, _ => a) (true, s)

/-- A recorded window as it is reopened (R487). Log entry 57. -/
def Window.reopened (w : Window) : Window :=
  { w with landing := false, done := 0, failed := 0, lastTag := 0, lastStatus := 0 }

/-- The tables of a regrown tile from the configuration record (R487): the regions over a store of zeros, the open
windows with their generations, the far-window list, and its slots ready to start. Log entry 55. -/
def Tile.rebuilt (t old : Tile) : Tile :=
  let live (k : Nat) : Bool := !bitOf t.shedMask (t.physOf k)
  { t with
    store := { t.store with
      data := [], dev := [], wb := [], latches := [], recon := [], fills := []
      regions := old.store.valid.map (fun r => (r.1, { r.2 with releasing := false })) }
    wins := { t.wins with
      table := old.wins.table.map (fun w => (w.1, w.2.reopened)), xfers := [], withheld := [], landed := []
      farWin := old.wins.farWin, farLines := [], farPlru := [], ctrlSent := [], ctrlHeld := [] }
    slots := ((List.range 16).filter live).map (fun k => (k, ({ state := .halted } : Slot)))
    shadowOf := old.shadowOf, mirrorAt := old.mirrorAt, restValid := t.rest < 17, leapStopped := decide (t.rest ≥ 17) }

/-- The code and weights of a slot loaded again from the record, and the slot started (R487, R488). -/
def Sys.reloadSlot (s : Sys) (t l src k : Nat) : Sys :=
  let s := if bitOf src 6 then s.onTile t (fun x => x.codeLoad k (bitsOf src 5 0)) else s
  let s := if bitOf src 14 then
      match NMap.find s.lead.weights (16 * l + k) with
      | some (mask, b, check) => s.onTile t (fun x => x.weightLoad k (bitsOf src 13 8) b mask check)
      | none => s
    else s
  if bitOf src 6 then
    let s := s.onTile t (fun x => x.runCore k)
    s.modLead (fun x => { x with recov := { x.recov with starting := x.recov.starting ++ [(t, k, s.now)] } })
  else s

/-- No epoch switch runs or waits. -/
def Sys.noSwitch (s : Sys) : Bool := s.lead.sw.isNone && s.lead.swQueue.isEmpty

/-- Every job of a partition that has not ended stands still (R481, R498). -/
def Sys.partStill (s : Sys) (p : Nat) : Bool :=
  s.lead.jobs.all (fun j => j.2.spec.partition ≠ p || !j.2.state.live || s.jobFrozen j.2)

/-- A regrown tile takes its job's operating point (R444, R484); in Hold its rail stays as it is until Hold ends (R471). -/
def Tile.grownOpp (t : Tile) (opp : Nat) (hold : Bool) : Tile :=
  let y := t.toOpp opp
  if hold then { y with pwr := { y.pwr with retention := t.pwr.retention, coreMv := t.pwr.coreMv } } else y

/-- A regrown tile is rebuilt from the configuration record (R486, R487); a region that cannot be restored fails the
partition's jobs STATE_LOST (R483). -/
def Sys.tileRebuild (s : Sys) (t : Nat) : Sys :=
  match s.lead.recov.regrown.find? (fun g => g.now_ = t) with
  | none => s
  | some g =>
    let parts := s.partsOf [g.logical]
    if s.physOf g.logical ≠ some t || !s.noSwitch || !(parts.all (fun p => s.partStill p)) || !(s.tile t).pwr.pgood then s
    else
      let old := s.tile g.old
      let srcs := (List.range 16).map (fun k => s.tileReg g.old (0x120 + 4 * k))
      let codes := srcs.filterMap (fun v => if bitOf v 6 then some (bitsOf v 5 0) else none)
      let s := s.modTile t (fun x => x.rebuilt old)
      let s := (List.range 16).foldl (fun (s : Sys) k => s.setTileReg t (0x120 + 4 * k) 0) s
      let (lost, s) := old.store.valid.foldl (fun (a : Bool × Sys) r =>
        let (rows, s) := a.2.rebuildRows g r.1 r.2 (codes.contains r.1)
        match rows with
        | some l => (a.1, s.onTile t (fun x => x.restoreRows r.1 l))
        | none =>
          if r.2.shadow then (a.1, s.loseShadow old.shadowOf t r.1) else (true, s)) (false, s)
      let s := ((List.range 16).zip srcs).foldl (fun (s : Sys) e => s.reloadSlot t g.logical e.2 e.1) s
      let opp := s.lead.jobs.foldl (fun a j => if parts.contains j.2.spec.partition && j.2.state.live then max a j.2.opp else a) 0
      let s := s.modTile t (fun x => x.grownOpp opp s.cool.hold.isSome)
      let s := s.modTile g.old (fun x => { x with mirrorAt := [], shadowOf := [] })
      let s := s.modLead (fun x => { x with recov := { x.recov with regrown := x.recov.regrown.filter (fun h => h.logical ≠ g.logical) } })
      let s := (s.tile t).mirrorRegions.foldl (fun (s : Sys) k => s.moveShadow t k) s
      if lost then parts.foldl (fun (s : Sys) p => s.failPart p stStateLost) s else s

/-- A slot of the recovery's list is ready: its core is HALTED, or LF_READY is 1 (R488). -/
def Sys.slotReady (s : Sys) (t k : Nat) : Bool :=
  let x := NMap.get {} (s.tile t).slots k
  x.state = .halted || (x.state = .scalar && x.lfReady)

/-- A restarted slot is not ready within 1 ms: its job fails (R483, R488). -/
def Sys.slotReadyTimeout (s : Sys) (t k : Nat) : Sys :=
  match s.lead.recov.starting.find? (fun e => e.1 = t && e.2.1 = k) with
  | none => s
  | some e =>
    if s.slotReady t k || s.now < e.2.2 + 1000000 then s
    else
      let s := s.modLead (fun x => { x with recov := { x.recov with starting := x.recov.starting.filter (fun d => d ≠ e) } })
      match (s.tile t).logical with
      | none => s
      | some l =>
        match s.jobOfSlot (16 * l + k) with
        | some n => s.failJob n stInternalError (16 * l + k)
        | none => s

/-- A slot not frozen within 2 × L cc plus 4 µs of its FREEZE is cut (R565). -/
def Sys.freezeTimeout (s : Sys) (t k : Nat) : Sys :=
  match (s.tile t).logical with
  | none => s
  | some l =>
    match s.jobOfSlot (16 * l + k) with
    | none => s
    | some n =>
      let j := s.job n
      if j.state = .replaying && s.coreState t k = .lapRunning && !(s.tile t).shed &&
          decide (s.now ≥ j.frozeAt + ceilDiv (2 * j.spec.lapCc * 1000) (oppMhz j.opp) + 4000) then
        (s.modJob n (fun j => { j with cutAt := some s.now })).coreCtrl [(t, k)] 5
      else s

/-- The registers of a job's slot: program, length, count, and what the tile reports for it (R393, R396, R218). -/
def Sys.writeSlot (s : Sys) (j : Job) (t k : Nat) (e : JobEntry) : Sys :=
  s.modTile t (fun x =>
    let sl := NMap.get {} x.slots k
    let sl := ((sl.setReg 0x08 (e.base + 2 ^ 16 * e.len)).setReg 0x0C j.spec.lapCc).setReg 0x10 j.spec.runs
    { x with slots := NMap.put x.slots k { sl with lap := { sl.lap with
        stepLaps := j.spec.stepLaps, frameLaps := if j.spec.watch && e.slot = j.spec.outputEid then j.spec.frameLaps else 0 } } })

/-- A stream as a rewind leaves it (R401 step 4): RUNNING from lap `k0` with every slot EMPTY. -/
def Stream.rewound (st : Stream) (k0 : Nat) : Stream :=
  if st.state = .running || st.state = .halted then
    let q := match st.setDesc, st.loopDesc with
      | some c, some l => pLapRows l / max 1 (pSlotRows c)
      | _, _ => 0
    let h := k0 * q % st.slots
    { st with state := .running, full := 0, landed := [], fetchLap := k0 % 2 ^ 32, nextRow := 0, flight := [], head := h, fill := h }
  else st

/-- The store rows of a landing stream's ring. -/
def Stream.ringRows (st : Stream) : List Nat :=
  match st.setDesc with
  | some c => if st.landing then (List.range (pSlots c * pSlotRows c)).map (fun i => st.ringRow + i) else []
  | none => []

/-- One slot of a job rewound to lap `k0` (R401 step 4). A restarted slot is put back into its run first, and so enters
LAP_FROZEN (R58). -/
def TX.rewindSlot (x : TX) (k k0 : Nat) (left : Option Nat) : TX :=
  let s := x.slot k
  let again := s.state = .halted || s.state = .scalar
  if !again && s.state ≠ .lapFrozen then x
  else
    let rows := s.streams.flatMap (fun p => p.2.ringRows)
    let base := if again then (List.range 16).map (fun i => NMap.get 0 s.tokens i) else s.lap.baseline
    let toks := ((List.range 16).zip base).foldl (fun m p => NMap.set 0 m p.1 p.2) ([] : NMap Nat)
    let x := x.setWins { x.tile.wins with landed := x.tile.wins.landed.filter (fun r => !rows.contains r) }
    let r := { s with
      state := .lapFrozen, queues := {}, eng := {}, tokens := toks, streams := s.streams.map (fun p => (p.1, p.2.rewound k0))
      lap := { s.lap with
        index := k0 % 2 ^ 32, next := 0, runsLeft := left, baseline := base, begun := false, waitStart := false
        stopPend := false, freezePend := false, poisonLap := false, bubbles := 0, cutAt := none } }
    x.setSlot k (if again then r.irq irqFreeze else r)

/-- Every fetch of the job's streams has landed; one still out 50 µs after the freeze is taken as lost. Log entry 54. -/
def Sys.fetchesLanded (s : Sys) (j : Job) : Bool :=
  decide (s.now ≥ j.frozeAt + 50000) ||
  (s.jobSlots j).all (fun e => (NMap.get {} (s.tile e.1).slots e.2.1).streams.all (fun p => p.2.flight.isEmpty))

/-- The job may be rewound (R401, R481, R482, R565). -/
def Sys.rewindReady (s : Sys) (n : Nat) : Bool :=
  let j := s.job n
  let p := j.spec.partition
  let mine (t : Nat) : Bool := (s.jobTiles j).contains t
  j.state = .replaying && !j.stopping && s.cool.hold.isNone && s.noSwitch &&
  s.lead.jobs.all (fun q => q.2.spec.partition ≠ p || q.2.state ≠ .replaying || s.jobFrozen q.2) &&
  (match j.cutAt with
   | some c => decide (s.now ≥ c + 50000)
   | none => true) &&
  s.fetchesLanded j &&
  !(s.lead.recov.regrown.any (fun g => bitOf (NMap.get {} s.lead.partitions p).tiles g.logical)) &&
  !(s.lead.recov.awaited.any (fun e => mine e.1)) &&
  s.lead.recov.starting.all (fun e => !mine e.1 || s.slotReady e.1 e.2.1)

/-- MIRROR regions of a partition restored from the last commit (R491): false where one is lost. -/
def Sys.restoreMirrors (s : Sys) (p : Nat) : Bool × Sys :=
  (s.partPhys p).foldl (fun (a : Bool × Sys) t =>
    let ks := ((a.2.tile t).store.valid.filter (fun r => r.2.mirror && r.2.partition = p)).map (fun r => r.1)
    ks.foldl (fun (a : Bool × Sys) k =>
      let (rows, s) := a.2.shadowRows t k
      if s.dirty t k then
        (match rows with
         | some l => (a.1, s.onTile t (fun x => x.restoreRows k l))
         | none => (false, s))
      else (a.1, s.moveShadow t k)) a) (true, s)

/-- The groups of a partition whose open slots a replay purges (R277). -/
def Sys.partGroups (s : Sys) (p : Nat) : List Nat := (s.lead.rgs.filter (fun g => g.partition = p)).map (fun g => g.group)

/-- Transfers of a partition purged on every tile and hub, with its reduction groups' open slots (R277, R318). -/
def Sys.purgePart (s : Sys) (p : Nat) : Sys :=
  let s := (List.range 256).foldl (fun (s : Sys) t =>
    if (NMap.find s.tiles t).isSome then s.onTile t (fun x => x.purge p) else s) s
  let s := [0, 1].foldl (fun (s : Sys) h => s.modHub h (fun u => { u with
    exfers := u.exfers.filter (fun f => (NMap.get {} u.egress f.window).partition ≠ p) })) s
  let s : Sys := { s with engines := s.engines.map (fun e => (e.1, { e.2 with back := e.2.back.filter (fun r => r.partition ≠ p) })) }
  s.sendAll (groupPurgeMsgs 1400 (s.partGroups p))

/-- Ingest contexts of a partition send their uncommitted items again (R333, R401 step 5). Log entry 49. -/
def Sys.resendItems (s : Sys) (p : Nat) : Sys :=
  [0, 1].foldl (fun (s : Sys) h => s.modHub h (fun u => { u with
    ctxs := u.ctxs.map (fun c =>
      if c.2.isOpen && !c.2.egress && c.2.f 2 2 = p && c.2.committed < c.2.items then
        (c.1, { c.2 with replayFrom := some c.2.committed, unanswered := [] }) else c) })) s

/-- The STRAIGHT streams' senders are latched anew by the replay's first frames (R266). -/
def Sys.unlatchPart (s : Sys) (p : Nat) : Sys :=
  (s.partPhys p).foldl (fun (s : Sys) t =>
    [0, 1].foldl (fun (s : Sys) a =>
      let n := straightOf t a
      let st := s.straight n
      s.setStraight n (st.setPort (positionOf t a) ((st.port (positionOf t a)).unlatch false))) s) s

/-- R401 steps 2–6 for one job: the purge, and 2 µs after its last GROUP_PURGE the rest (R286). -/
def Sys.replayRewind (s : Sys) (n : Nat) : Sys :=
  let j := s.job n
  let p := j.spec.partition
  if !s.rewindReady n then s
  else if j.purgedAt.isNone && !(s.partGroups p).isEmpty then
    (s.purgePart p).modJob n (fun j => { j with purgedAt := some s.now })
  else if j.purgedAt.any (fun t => decide (s.now < t + 2000)) then s
  else
    let k0 := j.lapsCommitted
    let steps := ceilDiv (s.reached j - k0 % 2 ^ 32) (max 1 j.spec.stepLaps)
    let s := if j.purgedAt.isNone then s.purgePart p else s
    let (whole, s) := s.reloadDamaged p
    let (ok, s) := s.restoreMirrors p
    if !ok || !whole then s.failJob n stStateLost 0
    else
      let left := if j.endless then none else some (j.spec.runs - k0)
      let tiles := s.jobTiles j
      let s := (s.jobSlots j).foldl (fun (s : Sys) e =>
        let st := s.coreState e.1 e.2.1
        let s := if st = .halted || st = .scalar then s.writeSlot j e.1 e.2.1 e.2.2 else s
        s.onTile e.1 (fun x => x.rewindSlot e.2.1 k0 left)) s
      let s := s.modLead (fun x => { x with recov := { x.recov with
        starting := x.recov.starting.filter (fun e => !tiles.contains e.1) } })
      let s := (s.unlatchPart p).resendItems p
      let s := s.modJob n (fun j => { j with
        ends := [], poison := [], marks := [], asked := [], commit := none, purgedAt := none, replays := satAdd 32 j.replays steps })
      let s := tiles.foldl (fun (s : Sys) t => s.modTile t (fun x => { x with replaying := false })) s
      let s := (s.armJob n).thawJob n
      s.answerWaits (fun w => match w with | .replay k => k = n | _ => false)
        (fun r => { r with status := stSuccess, result := k0 })

/-- An empty takeover's slot is ready: its code is started (R68, R488). -/
def Sys.slotReadyNotice (s : Sys) (t c : Nat) : Sys :=
  match s.lead.recov.awaited.find? (fun e => e.1 = t && (s.tile t).physOf e.2 = c) with
  | none => s
  | some e =>
    let s := s.modLead (fun x => { x with recov := { x.recov with awaited := x.recov.awaited.filter (fun d => d ≠ e) } })
    if bitOf (s.tileReg t (0x120 + 4 * e.2)) 6 then
      let s := s.onTile t (fun x => x.runCore e.2)
      s.modLead (fun x => { x with recov := { x.recov with starting := x.recov.starting ++ [(t, e.2, s.now)] } })
    else s

/-- A core is lost (R68, R480, R484): its resting core takes over where there is one, else the whole tile is lost. Log
entry 55. -/
def Sys.coreLost (s : Sys) (t c : Nat) : Sys :=
  let s := s.markShed ukCore t c true false
  let s := s.hardEvent (unitKey ukCore t c) ncCoreFault
  let x := s.tile t
  if (List.range 16).any (fun k => x.physOf k = c && (NMap.get {} x.slots k).state = .shed) then s.loseTile t
  else
    let s := match x.preload with
      | some p => if p.takeover && !(s.lead.recov.awaited.contains (t, p.slot)) then
          (s.modLead (fun l => { l with recov := { l.recov with awaited := l.recov.awaited ++ [(t, p.slot)] } })).log 0x0021 0 ukCore t c 0xFF
        else s
      | none => s
    match x.logical with
    | some l => (s.partsOf [l]).foldl (fun (s : Sys) p => s.recoverPart p) s
    | none => s

end Sys2Proof.Machine
end

