-- ==== Sys2Proof/Machine/RegOps.lean ====
section
/-! DEFINITION. Register access over the tadpole network: a hub's requests, the target's answers, replies and their
timeout (R285, R292, R294, R375), and the tile control messages CORE_CTRL and CEILING (R285, R295). -/

namespace Sys2Proof.Machine

/-- A tag that no request of the hub to `dst` carries. -/
def Hub.freeTag (u : Hub) (dst : Nat) : Option Nat :=
  (List.range 256).find? (fun g => !(u.reqs.any (fun r => decide (r.dst = dst) && decide (r.tag = g))))

/-- The message of a request (R285). -/
def RegReq.msg (r : RegReq) : TMsg :=
  { dst := r.dst, type := if r.write then 2 else 1, tag := r.tag, payload := r.off + (if r.write then 2 ^ 32 * r.data else 0) }

/-- A register request sent by hub `h`; its tag, none where all 256 are out. -/
def Sys.regRequest (s : Sys) (h dst : Nat) (write : Bool) (off data : Nat) : Option Nat × Sys :=
  match (s.hub h).freeTag dst with
  | none => (none, s)
  | some g =>
    let r : RegReq := { dst := dst, tag := g, write := write, off := off, data := data % 2 ^ 32, since := s.now }
    (some g, (s.modHub h (fun u => { u with reqs := u.reqs ++ [r] })).sendMsg (256 + h) r.msg)

/-- A register write by the lead hub's firmware over the tadpole network. -/
def Sys.leadWrite (s : Sys) (t off data : Nat) : Sys := (s.regRequest s.lead.hub t true off data).2

/-- The reply of endpoint `n` to request `m`. -/
def Sys.regAnswer (s : Sys) (n : Nat) (m : TMsg) (data status : Nat) : Sys :=
  s.sendMsg n { dst := m.src, type := 3, tag := m.tag, payload := data % 2 ^ 32 + 2 ^ 32 * status }

/-- A write to an engine register: role and breakout are fixed by the role map, so nothing changes but what R437 lets a
write change (every field there is RO or RC). -/
def Sys.engineWrite (s : Sys) (_e _off _v : Nat) : Sys := s

/-- A register read performed by a tile or an engine (R294). -/
def Sys.tadRegRead (s : Sys) (n : Nat) : Sys :=
  match s.takeMsg n (fun m => m.type = 1) with
  | none => s
  | some (m, s) =>
    let off := bitsOf m.payload 23 0
    if n < 256 then
      if off ≥ 0x10000 then s.regAnswer n m 0 stInvalidField
      else
        let v := (s.tx n).readReg off
        (s.onTile n (fun x => x.readEffect off)).regAnswer n m v stSuccess
    else if n < 258 then s
    else if off ≥ 0x1000 then s.regAnswer n m 0 stInvalidField
    else
      let v := s.engineReg (n - 258) off
      (s.modEngine (n - 258) (fun e => e.readEffect off)).regAnswer n m v stSuccess

/-- A register write performed by a tile or an engine (R294). -/
def Sys.tadRegWrite (s : Sys) (n : Nat) : Sys :=
  match s.takeMsg n (fun m => m.type = 2) with
  | none => s
  | some (m, s) =>
    let off := bitsOf m.payload 23 0
    let v := bitsOf m.payload 63 32
    if n < 256 then
      if off ≥ 0x10000 then s.regAnswer n m 0 stInvalidField
      else
        let (ok, s) := s.askTile n (fun x => x.writeReg off v false)
        s.regAnswer n m 0 (if ok then stSuccess else stInvalidField)
    else if n < 258 then s
    else if off ≥ 0x1000 then s.regAnswer n m 0 stInvalidField
    else (s.engineWrite (n - 258) off v).regAnswer n m 0 stSuccess

/-- The command that a wait belongs to. -/
def Sys.waitRaw (s : Sys) (w : Wait) : Nat :=
  match (s.qp w.hub w.qp).cmds.find? (fun c => c.num = w.num) with
  | some c => c.raw
  | none => 0

/-- The wait for the answer to a request. -/
def Sys.regWait (s : Sys) (h dst tag : Nat) : Option Wait :=
  s.lead.waits.find? (fun w => decide (w.hub = h) && (match w.for_ with | .regs d g => d = dst && g = tag | _ => false))
/-- That wait ended with a reply. -/
def Sys.regEnd (s : Sys) (w : Wait) (status field result : Nat) : Sys :=
  let s := s.modLead (fun l => { l with waits := l.waits.filter (fun v => v.for_ ≠ w.for_ || v.hub ≠ w.hub) })
  s.pushReply w.hub w.qp w.num { w.reply with status := status, field := field, result := result }

/-- The next word of a REG_READ or REG_WRITE requested, `done` words being over (R375). A failed read of the host buffer
ends the command with INTERNAL_ERROR (R365). -/
def Sys.regNext (s : Sys) (h q num raw dst done : Nat) : Sys :=
  let off := bitsOf raw 87 64 + 4 * done
  let count := bitsOf raw 111 96
  let addr := bitsOf raw 191 128
  let write := decide (bitsOf raw 7 0 = 0x05)
  let data : Option Nat := if !write then some 0 else if count = 1 then some (bitsOf raw 223 192) else s.hostRead (addr + 4 * done) 4
  match data with
  | none => s.pushReply h q num { status := stInternalError, field := 16, result := done }
  | some v =>
    if off ≥ 0x10000 then s.pushReply h q num { status := stInvalidField, field := 8, result := done }
    else
      match s.regRequest h dst write off v with
      | (some g, s) => s.addWait h q num (.regs dst g) { result := done }
      | (none, s) => s.pushReply h q num { status := stPartial, field := 6, result := done }

/-- A REG_REPLY at hub `h` (R292, R375). -/
def Sys.regReply (s : Sys) (h : Nat) : Sys :=
  match s.takeMsg (256 + h) (fun m => m.type = 3) with
  | none => s
  | some (m, s) =>
    let u := s.hub h
    if !(u.reqs.any (fun r => decide (r.dst = m.src) && decide (r.tag = m.tag))) then s
    else
      let s := s.setHub h { u with reqs := u.reqs.filter (fun r => r.dst ≠ m.src || r.tag ≠ m.tag) }
      match s.regWait h m.src m.tag with
      | none => s
      | some w =>
        let raw := s.waitRaw w
        let done := w.reply.result
        let count := bitsOf raw 111 96
        let v := bitsOf m.payload 31 0
        if bitsOf m.payload 39 32 ≠ stSuccess then s.regEnd w stInvalidField 8 done
        else
          let read := decide (bitsOf raw 7 0 = 0x04)
          let s := if read && count ≠ 1 then s.hostWrite (bitsOf raw 191 128 + 4 * done) 4 v else s
          if done + 1 ≥ count then s.regEnd w stSuccess 0 (if read && count = 1 then v else 0)
          else
            let s := s.modLead (fun l => { l with waits := l.waits.filter (fun x => x.for_ ≠ w.for_ || x.hub ≠ w.hub) })
            s.regNext w.hub w.qp w.num raw m.src (done + 1)

/-- A request without a reply for 20 µs: sent once more, then given up and its target handled as unreachable (R292). Log
entry 83. -/
def Sys.regReplyTimeout (s : Sys) (h : Nat) : Sys :=
  let u := s.hub h
  match u.reqs.find? (fun r => decide (s.now ≥ r.since + 20000)) with
  | none => s
  | some r =>
    let others := u.reqs.filter (fun x => x.dst ≠ r.dst || x.tag ≠ r.tag)
    if !r.resent then
      (s.setHub h { u with reqs := others ++ [{ r with resent := true, since := s.now }] }).sendMsg (256 + h) r.msg
    else
      let s := s.setHub h { u with reqs := others }
      let s := match s.regWait h r.dst r.tag with
        | some w => s.regEnd w stPartial 6 w.reply.result
        | none => s
      if r.dst < 256 then s.loseTile r.dst else s

/-- A CORE_CTRL message with code `code` taken by tile `t` and applied to each slot it names (R285). -/
def Sys.ctrlMsg (s : Sys) (t code : Nat) (f : TX → Nat → TX) : Sys :=
  match s.takeMsg t (fun m => m.type = 9 && bitsOf m.payload 18 16 = code) with
  | none => s
  | some (m, s) => (setBits (bitsOf m.payload 15 0) 16).foldl (fun s k => s.onTile t (fun x => f x k)) s

/-- A CEILING message taken by tile `t`: its ceiling takes effect at the next window (R295). -/
def Sys.ceilingMsg (s : Sys) (t : Nat) : Sys :=
  match s.takeMsg t (fun m => m.type = 0x0A) with
  | none => s
  | some (m, s) =>
    s.modTile t (fun x =>
      let c := bitsOf m.payload 22 16
      { x with pwr := { x.pwr with
          ceilNext := (setBits (bitsOf m.payload 15 0) 16).foldl (fun a k => NMap.put a k c) x.pwr.ceilNext } })

end Sys2Proof.Machine
end

