-- ==== Sys2Proof/Machine/PowerOps.lean ====
section
/-! DEFINITION. Power: the cap in force, the power manager's allocation, issue ceilings and windows, current trips,
operating points, droop and cracked-connection monitors, tile rails, region power-up, the rack budget manager
(R438–R465). -/

namespace Sys2Proof.Machine

/-- Panel power in mW: voltage × current summed over the feeds (R456). -/
def Sys.panelMw (s : Sys) : Nat := (s.power.feeds.map (fun f => f.2.volts * f.2.amps)).foldl (· + ·) 0

/-- The feeds that are qualified. -/
def PanelPower.qualified (p : PanelPower) : List Nat := (p.feeds.filter (fun f => f.2.qualified)).map (fun f => f.1)

/-- The caps of R453 with their LIMITER codes, in code order (R455). -/
def Sys.caps (s : Sys) : List (Nat × Nat) :=
  let p := s.power
  [(p.hostCap, 0), (p.rackCap, if p.rackState = 1 || p.rackState = 2 then 1 else 2)] ++
    (if p.qualified.length = 1 then [(435 * p.vFeed / 100, 3)] else []) ++
    [(p.coolCap, if p.coolInlet then 5 else 4)]
/-- The least cap; of equal ones the one with the lower code. -/
def leastCap (l : List (Nat × Nat)) (best : Nat × Nat) : Nat × Nat :=
  match l with
  | [] => best
  | c :: r => leastCap r (if c.1 < best.1 then c else best)

/-- The cap in force follows its terms; a change is an event and logged (R453, R542, R545). -/
def Sys.updateCap (s : Sys) : Sys :=
  let c := leastCap s.caps (20000000, 0)
  if c.1 = s.power.inForce && c.2 = s.power.limiter then s
  else
    let s : Sys := { s with power := { s.power with inForce := c.1, limiter := c.2 } }
    (s.eventBoth 5).log 0x001F 0 0 0 0 (c.1 + 2 ^ 32 * c.2)

/-- What the PMC reads of a tile (R457): its power over the last ten readings, the part of its store and IO rails, and
whether its ceiling or a trip held it in the last 100 µs. -/
structure TileReading where
  tile : Nat := 0
  mw : Nat := 0
  storeIo : Nat := 0
  held : Bool := false
deriving DecidableEq, Repr
/-- What the PMC reads of an IBC (R452). -/
structure IbcReading where
  ibc : Nat := 0
  amps : Nat := 0
  mv : Nat := 0
  temp : Nat := 0
  limit : Bool := false
deriving DecidableEq, Repr
/-- What the PMC reads every 100 µs (R452, R456, R457): feed voltages (10 mV) and currents (0.1 A), the averages of panel
power, the voltage of the one qualified feed over the last 100 µs. -/
structure PmcReading where
  feeds : List (Nat × Nat) := []
  ibcs : List IbcReading := []
  tiles : List TileReading := []
  p10 : Nat := 0
  p1 : Nat := 0
  vFeed : Nat := 0
deriving DecidableEq, Repr

/-- Core voltage in mV and typical power in W of an operating point (R463). -/
def oppWatts (n : Nat) : Nat := [26, 32, 39, 47, 57, 68, 79, 92].getD n 26

/-- The tile's temperature: the maximum of its sensors, 0.125 °C per code (R469). -/
def Tile.temp (t : Tile) : Int := (List.range 8).foldl (fun a i => max a (signedOf 12 (NMap.get 0 t.pwr.temps i))) (-2048)
/-- thermal(t) of R469 in eightieths. -/
def Tile.thermal (t : Tile) : Nat :=
  let c := t.temp
  if c < 760 then 80 else max 10 (840 - c).toNat

/-- Ceiling and allocation as the PMC last set them. -/
def PanelPower.ceilOf (p : PanelPower) (t : Nat) : Nat := NMap.get 64 p.ceil t
def PanelPower.allocOf (p : PanelPower) (t : Nat) : Nat := NMap.get 11000 p.alloc t

/-- d(t) of R457 in units of 1/6,720,000 mW, in which it is whole for every ceiling that the PMC sets. Log entry 58. -/
def demandUnit : Nat := 100 * 80 * 840
def Sys.demand (s : Sys) (r : TileReading) : Nat :=
  r.mw * 105 * (s.tile r.tile).thermal * (if r.held then 8 * (840 / max 1 (s.power.ceilOf r.tile / 8)) else 840)

/-- The slots of a tile that belong to jobs started with BUBBLE (R461). -/
def Sys.bubbleSlots (s : Sys) (t : Nat) : List Nat :=
  s.lead.jobs.flatMap (fun j =>
    if j.2.state.live && j.2.spec.bubble then ((s.jobSlots j.2).filter (fun e => e.1 = t)).map (fun e => e.2.1) else [])

/-- A CEILING message of the lead hub for some slots of a tile (R285, R295). -/
def Sys.sendCeiling (s : Sys) (t mask c : Nat) : Sys :=
  if mask = 0 then s
  else s.sendMsg s.leadAddr { dst := t, type := 0x0A, urgent := true, payload := mask + 2 ^ 16 * c }

/-- Edge-adjacent power regions on the 4 × 4 grid of regions (R21, R450). -/
def regionsAdjacent (a b : Nat) : Bool :=
  decide (a < 16) && decide (b < 16) &&
    (decide (a / 4 = b / 4 ∧ (a % 4 = b % 4 + 1 ∨ b % 4 = a % 4 + 1)) ||
      decide (a % 4 = b % 4 ∧ (a / 4 = b / 4 + 1 ∨ b / 4 = a / 4 + 1)))
/-- The ceilings of a tile may not rise: its region is edge-adjacent to one that powers up (R450). -/
def Sys.ceilingHeld (s : Sys) (t : Nat) : Bool :=
  match s.power.up with
  | some u => regionsAdjacent (regionOfTile t) u.region
  | none => false

/-- The ceilings of a tile's slots follow its ceiling, which goes from `old` to `ceil`; slots of BUBBLE jobs are kept at 64
(R457, R461). -/
def Sys.slotCeilings (s : Sys) (t old ceil : Nat) : Sys :=
  let mine := maskOf (s.bubbleSlots t)
  let was := NMap.get 0 s.power.bubbled t
  let s : Sys := { s with power := { s.power with bubbled := NMap.set 0 s.power.bubbled t mine } }
  (s.sendCeiling t (if ceil ≠ old then 65535 - mine else was &&& (65535 - mine)) ceil).sendCeiling t
    (mine &&& (65535 - was)) 64

/-- The new ceiling and allocation of one tile, whose share of the power is `num / den` mW (R457). Log entry 58. -/
def Sys.allocate (s : Sys) (r : TileReading) (num den : Nat) : Sys :=
  let t := r.tile
  let old := s.power.ceilOf t
  let ceil :=
    if num < r.mw * den then max 8 (8 * (old * num / (8 * r.mw * den)))
    else if 100 * num ≥ 105 * r.mw * den && !s.ceilingHeld t then min 64 (old + 8)
    else old
  let mv := max 1 (s.tile t).pwr.coreMv
  let alloc := min 11000 ((num - r.storeIo * den) * 100 / (den * mv))
  let hold := s.cool.hold.isSome
  let ceil := if hold then old else ceil
  let prev := s.power.allocOf t
  let s : Sys := { s with power := { s.power with
    ceil := NMap.put s.power.ceil t ceil, alloc := NMap.put s.power.alloc t alloc, tileW := NMap.put s.power.tileW t r.mw } }
  let s := if hold then s else s.slotCeilings t old ceil
  if alloc ≠ prev then s.leadWrite t 0xD200 alloc else s

/-- The bubble rate of a job whose demand is `d` and share `num / den` of it is granted (R461), written with FROM at
least 64 laps beyond the highest lap index of its cores (R462). Log entry 59. -/
def Sys.setBubble (s : Sys) (n b : Nat) : Sys :=
  if NMap.get 0 s.power.rates n = b then s
  else
    let j := s.job n
    let top := (s.jobSlots j).foldl (fun a e => max a (NMap.get {} (s.tile e.1).slots e.2.1).lap.index) 0
    let s : Sys := { s with power := { s.power with rates := NMap.put s.power.rates n b } }
    (s.jobSlots j).foldl (fun (s : Sys) e =>
      (s.leadWrite e.1 (0xD244 + 8 * e.2.1) (top + 64)).leadWrite e.1 (0xD240 + 8 * e.2.1) b) s

/-- The readings of R452 put into the feed and IBC registers. -/
def PanelPower.take (p : PanelPower) (r : PmcReading) : PanelPower :=
  let feeds := (r.feeds.zipIdx).foldl (fun m f => NMap.modify {} m f.2 (fun (x : Feed) => { x with volts := f.1.1, amps := f.1.2 })) p.feeds
  let ibc := r.ibcs.foldl (fun m c => NMap.modify {} m c.ibc (fun (x : Ibc) =>
    { x with outAmps := c.amps, outMv := c.mv, temp := c.temp, limit := c.limit })) p.ibc
  { p with feeds := feeds, ibc := ibc, p10 := r.p10, p1 := r.p1, vFeed := r.vFeed }

/-- Power at the 6 V buses in mW: IBC output current × voltage of the regions (0–15) or the edge domains (16, 17). -/
def PanelPower.busMw (p : PanelPower) (edge : Bool) : Nat :=
  ((p.ibc.filter (fun c => decide (c.1 ≥ 32) = edge)).map (fun c => c.2.outAmps * c.2.outMv / 10)).foldl (· + ·) 0

/-- The PMC's work every 100 µs (R440, R453, R457, R461). -/
def Sys.pmcAllocate (s : Sys) (r : PmcReading) : Sys :=
  let s : Sys := { s with power := s.power.take r }
  let s := s.updateCap
  let cap := s.power.inForce * 1000
  let since := s.power.overSince
  let s : Sys := { s with power := { s.power with overSince := if s.panelMw > cap then some (since.getD s.now) else none } }
  let live := r.tiles.filter (fun x => !(s.tile x.tile).shed && (s.tile x.tile).pwr.pgood && decide (x.tile < 256))
  let spent := s.power.busMw true + s.power.busMw false * 4 / 100 + (if s.power.up.isSome then 200000 else 0) +
    (if r.p1 * 1000 > cap then 4 * (r.p1 * 1000 - cap) else 0)
  let avail := (cap - spent) * demandUnit
  let total := (live.map (fun x => s.demand x)).foldl (· + ·) 0
  let ratio : Nat × Nat := if avail < total then (avail, total) else (1, 1)
  let share (x : TileReading) : Nat × Nat :=
    let region := (live.filter (fun y => regionOfTile y.tile = regionOfTile x.tile)).map (fun y => s.demand y)
    let sum := region.foldl (· + ·) 0
    if sum * ratio.1 > 1480000 * demandUnit * ratio.2 then (s.demand x * 1480000, sum)
    else (s.demand x * ratio.1, demandUnit * ratio.2)
  let plan := live.map (fun x => (x, share x, s.demand x))
  let s := plan.foldl (fun (s : Sys) p => s.allocate p.1 p.2.1.1 p.2.1.2) s
  (NMap.keys s.lead.jobs).foldl (fun (s : Sys) n =>
    let j := s.job n
    if !j.state.live || !j.spec.bubble then s
    else
      let tiles := s.jobTiles j
      let mine := plan.filter (fun p => tiles.contains p.1.tile)
      let d := (mine.map (fun p => p.2.2)).foldl (· + ·) 0
      -- granted power as one fraction: num / den in mW
      let g := mine.foldl (fun (a : Nat × Nat) p => (a.1 * p.2.1.2 + p.2.1.1 * a.2, a.2 * p.2.1.2)) (0, 1)
      let lack := d * g.2 - g.1 * demandUnit
      s.setBubble n (min 32 (ceilDiv (64 * lack) (max 1 (d * g.2))))) s

/-- A CEILING or a new window (R57, R295, R458): `wants` gives the issue slots that each slot's work could use. -/
def TX.issueWindow (x : TX) (wants : List Nat) : TX :=
  let p := x.tile.pwr
  let ceil := p.ceilNext.foldl (fun m c => NMap.put m c.1 c.2) p.ceil
  let lvl := (List.range 16).map (fun k =>
    let old := NMap.get 0 p.level k
    let c := if p.tripped then min 32 (NMap.get 64 ceil k) else NMap.get 64 ceil k
    (k, max (old - 8) (min (wants.getD k 0) (min c (old + 8)))))
  x.setPwr { p with ceil := ceil, ceilNext := [], level := lvl, used := lvl }

/-- Core-rail current above 110 % of ALLOC; 10 mA per code (R460). Log entry 78. -/
def TX.currentTrip (x : TX) (amps : Nat) : TX :=
  let p := x.tile.pwr
  if p.tripped || 10 * amps ≤ 11 * bitsOf (x.reg 0xD200) 13 0 then x
  else
    let due := match p.tripNote with
      | some t => decide (x.now ≥ t + 1000000)
      | none => true
    let x := (x.setPwr { p with tripped := true, tripNote := if due then some x.now else p.tripNote }).bump 0xD208 15 0 1
    if due then x.note false ncPowerTrip ukTile x.phys 0 0 else x
/-- The current has stayed at or below ALLOC for `ns` (R460). -/
def TX.tripClear (x : TX) (ns : Nat) : TX :=
  if x.tile.pwr.tripped && decide (ns ≥ 10000) then x.setPwr { x.tile.pwr with tripped := false } else x

/-- A sample of droop monitor `m`, 2.5 mV per code (R447). Log entry 78. -/
def TX.droopSample (x : TX) (m sample : Nat) : TX :=
  let p := x.tile.pwr
  let x :=
    if sample < NMap.get 0x3FF p.droopLow m then
      x.setPwr { p with droopLow := NMap.put p.droopLow m sample, droopTime := NMap.put p.droopTime m x.now }
    else x
  if sample < bitsOf (x.reg (0xD100 + 16 * m)) 25 16 then
    let x := x.bump (0xD10C + 16 * m) 15 0 1
    let p := x.tile.pwr
    let due := match NMap.find p.droopNote m with
      | some t => decide (x.now ≥ t + 1000000)
      | none => true
    if due then
      ((x.setPwr { p with droopNote := NMap.put p.droopNote m x.now }).note false ncDroop ukTile x.phys 0 0).emit
        (.scored ukTile 0 evDroop 1)
    else x
  else x

/-- REARM; `sample` is the monitor's sample of the same cycle, 0x3FF where none coincides (R447). -/
def TX.droopRearm (x : TX) (m sample : Nat) : TX :=
  let p := x.tile.pwr
  if sample < 0x3FF then
    x.setPwr { p with droopLow := NMap.put p.droopLow m sample, droopTime := NMap.put p.droopTime m x.now }
  else x.setPwr { p with droopLow := NMap.erase p.droopLow m }

/-- SUSPECT set for a quadrant with its notice (R448). -/
def TX.suspect (x : TX) (q code : Nat) : TX :=
  let p := x.tile.pwr
  if bitOf p.crackSuspect q then x
  else ((x.setPwr { p with crackSuspect := p.crackSuspect ||| 2 ^ q }).note false code ukTile x.phys 0 q).emit (.scored ukTile 0 evCrack 1)

/-- A current step of `di` (10 mA per code) of quadrant `q` that drooped `dv` (2.5 mV per code), judged against the
baseline `b` in 0.01 mV/A (R448). -/
def TX.crackStep (x : TX) (q di dv b : Nat) : TX :=
  if di < 200 then x
  else
    let p := x.tile.pwr
    let hist := ringPush 32 (NMap.get [] p.crackHist q) (decide (50000 * dv > 3 * b * di))
    let x := (x.setPwr { p with crackHist := NMap.put p.crackHist q hist }).bump 0xD014 31 16 1
    if (hist.filter (fun h => h)).length ≥ 16 then x.suspect q ncCrackSignature else x

/-- The phase currents over the last 1 ms, 10 mA per code (R448, R449). -/
def TX.crackPhases (x : TX) (l : List Nat) : TX :=
  let a (q : Nat) : Nat := l.getD q 0
  let x := (List.range 4).foldl (fun (x : TX) q => x.setReg (0xD004 + 4 * q) (a q % 65536)) x
  let x := x.setPwr { x.tile.pwr with limit := [0, 1, 2, 3].any (fun q => decide (a q ≥ 4000)) }
  let sum := a 0 + a 1 + a 2 + a 3
  let hi := max (max (a 0) (a 1)) (max (a 2) (a 3))
  let lo := min (min (a 0) (a 1)) (min (a 2) (a 3))
  let q := ([0, 1, 2, 3].find? (fun i => a i = lo)).getD 0
  let p := x.tile.pwr
  if sum < 2000 then x
  else if 80 * lo < sum then
    if bitOf p.crackOpen q then x
    else (x.setPwr { p with crackOpen := p.crackOpen ||| 2 ^ q }).note true ncCrackOpen ukTile x.phys 0 q
  else if 16 * (hi - lo) > sum then
    let x := x.setPwr { p with imbalance := p.imbalance + 1 }
    if p.imbalance + 1 ≥ 100 then x.suspect q ncCrackImbalance else x
  else x.setPwr { p with imbalance := 0 }

/-- The baseline of a tile's quadrant from the IVR calibration in force since boot; none disables the signature (R515).
Log entry 64. -/
def Sys.crackBase (s : Sys) (t q : Nat) : Option Nat := s.boot.ivrCal.map (fun v => bitsOf v (16 * (4 * t + q) + 15) (16 * (4 * t + q)))
def Sys.crackStepJudge (s : Sys) (t q di dv : Nat) : Sys :=
  match s.crackBase t q with
  | some b => if (s.tile t).pwr.on && s.offers 13 then s.onTile t (fun x => x.crackStep q di dv b) else s
  | none => s

/-- The tile's rails go down: it falls silent, its registers and tables stand as the configuration record (R445, R470). -/
def Sys.railsOff (s : Sys) (t : Nat) : Sys :=
  let s := s.modTile t (fun x => { x with pwr := { x.pwr with
    on := false, pgood := false, retention := false, limit := false, coreMv := 0, level := [], used := [], tripped := false } })
  let s := s.killRouter t
  s.setTad t { s.tad t with alive := false }

/-- A notice about tile `t` sent through its first live tile neighbour (R445). -/
def Sys.noteVia (s : Sys) (t code : Nat) : Sys :=
  match (List.range 4).findSome? (fun p =>
      match tadNeighbour t p with
      | some (m, _) => if m < 256 && (s.tad m).alive then some m else none
      | none => none) with
  | some m => s.noteAt m true code ukTile t 0 0
  | none => s
/-- An IVR shuts its tile down and reports it: TILE_SHORT or THERMAL_TRIP (R445, R470). -/
def Sys.tileDown (s : Sys) (t code : Nat) : Sys :=
  if t < 256 && (s.tile t).pwr.on then (s.railsOff t).noteVia t code else s

/-- A feed within 46–58 V for `ns` (R438): it qualifies after 100 ms, and its IBCs share again (R439). -/
def Sys.feedQualify (s : Sys) (f volts ns : Nat) : Sys :=
  let x := NMap.get {} s.power.feeds f
  if x.qualified || volts < 4600 || volts > 5800 || ns < 100000000 then s
  else
    let p := s.power
    let x := { x with volts := volts, qualified := true, overV := false, underV := false }
    let ibc := (List.range 18).foldl (fun (m : NMap Ibc) d =>
      let c := NMap.get {} m (2 * d + f)
      let st := (NMap.get {} p.domains d).state
      if c.state = 0 && (st = 1 || st = 2) then NMap.put m (2 * d + f) { c with state := st } else m) p.ibc
    let s : Sys := { s with power := { p with feeds := NMap.put p.feeds f x, ibc := ibc, vFeed := volts } }
    s.updateCap

/-- The start of the next power-up (R450), in ascending order: inrush reservation, soft-start of the domain's IBCs. -/
def Sys.regionPowerUp (s : Sys) (d : Nat) : Sys :=
  let p := s.power
  let dom := NMap.get {} p.domains d
  if p.upQueue.head? ≠ some d || p.up.isSome || dom.state ≠ 0 || p.qualified.isEmpty then s
  else
    let start (m : NMap Ibc) (n : Nat) : NMap Ibc :=
      let c := NMap.get {} m n
      let feed := NMap.get {} p.feeds (n % 2)
      if c.state = 0 && feed.qualified then NMap.put m n { c with state := 1 } else m
    { s with power := { p with
        up := some { region := d, since := s.now }, upQueue := p.upQueue.filter (fun x => x ≠ d)
        domains := NMap.put p.domains d { state := 1 }, ibc := start (start p.ibc (2 * d)) (2 * d + 1) } }

/-- The time a power-up has run, pauses left out. -/
def PowerUp.run (u : PowerUp) (now : Nat) : Nat := match u.paused with
  | some _ => u.elapsed
  | none => u.elapsed + (now - u.since)

/-- A tadpole router comes up: its links to live neighbours are up (R283, R450). -/
def Sys.tadUp (s : Sys) (n : Nat) : Sys :=
  (List.range (tadLocal n)).foldl (fun (s : Sys) p =>
    match tadNeighbour n p with
    | some (m, mp) =>
      if (s.tad m).alive then
        let up (s : Sys) (a ap : Nat) : Sys :=
          s.setTad a ((s.tad a).setPort ap { (s.tad a).port ap with link := 3, dead := false })
        up (up s n p) m mp
      else s
    | none => s) (s.setTad n { alive := true })

/-- A tile leaves reset with its three rails up: a spare in retention, any other at OPP0 (R444, R450, R457). Its state is
that of a die just reset. -/
def Sys.tileUp (s : Sys) (t : Nat) : Sys :=
  let old := s.tile t
  let spare := isSparePos t
  let x : Tile := { shed := old.shed, shedMask := old.shedMask, logical := old.logical }
  let x := x.toOpp 0
  let x := { x with pwr := { x.pwr with on := true, pgood := true, retention := spare, coreMv := if spare then 500 else 580 } }
  (((s.setTile t x).setRouter t { alive := true }).setReplica t { s.replica t with stale := true }).tadUp t

/-- A power-up follows panel time (R450): the 6 V bus at 5 ms, the tiles of the region by 9.6 ms. -/
def Sys.settlePower (s : Sys) : Sys :=
  match s.power.up with
  | none => s
  | some u =>
    let run := u.run s.now
    let p := s.power
    let on (m : NMap Ibc) (n : Nat) : NMap Ibc :=
      let c := NMap.get {} m n
      if c.state = 1 then NMap.put m n { c with state := 2 } else m
    let s : Sys := if run ≥ 5000000 then { s with power := { p with ibc := on (on p.ibc (2 * u.region)) (2 * u.region + 1) } } else s
    if run ≥ 9600000 && u.region < 16 then
      ((List.range 256).filter (fun t => regionOfTile t = u.region)).foldl (fun (s : Sys) t =>
        if (s.tile t).pwr.pgood then s else s.tileUp t) s
    else s

/-- At 20 ms the reservation and the ceiling hold are released (R450). -/
def Sys.powerupRelease (s : Sys) : Sys :=
  let s := s.settlePower
  match s.power.up with
  | none => s
  | some u =>
    if u.run s.now < 20000000 then s
    else
      let p := s.power
      { s with power := { p with up := none, domains := NMap.modify {} p.domains u.region (fun d => { d with state := 2 }) } }

/-- The base response of the MCTP endpoint, held until it is read (R454, R554): completion code and data bytes. Log
entry 52. -/
def Sys.mctpAnswer (s : Sys) (v : Nat) : Sys := s.modHub s.lead.hub (fun u => { u with mctp := some v })
/-- A valid type-0x3F command keeps the budget manager in contact (R455). -/
def Sys.contact (s : Sys) : Sys := { s with power := { s.power with rackState := 1, lastContact := s.now } }

/-- The power report (R476). -/
def Sys.powerReport (s : Sys) : Nat :=
  let p := s.power
  let c := s.cool
  let hot := s.tiles.foldl (fun (a : Int) t => if t.2.pwr.pgood then max a t.2.temp else a) (-2048)
  let flags := bitNat c.predict.isSome + 2 * bitNat c.mismatch + 4 * bitNat (decide (p.qualified.length = 1))
  p.inForce + 2 ^ 32 * p.hostCap + 2 ^ 64 * p.rackCap + 2 ^ 96 * s.limit 0 4 12000 + 2 ^ 128 * p.limiter +
    2 ^ 136 * p.rackState + 2 ^ 144 * c.state + 2 ^ 152 * flags + 2 ^ 160 * p.p10 + 2 ^ 192 * p.p1 +
    2 ^ 224 * (c.heat % 2 ^ 32) + 2 ^ 256 * c.inlet + 2 ^ 272 * c.outlet + 2 ^ 288 * c.flow +
    2 ^ 304 * natOfInt 16 (if s.tiles.isEmpty then 0 else hot) + 2 ^ 320 * (c.predict.getD 0 % 2 ^ 32) + 2 ^ 384 * (s.now % 2 ^ 64)

/-- SetPowerCap (R454): out of range, ERROR_INVALID_DATA and no change. -/
def Sys.setPowerCap (s : Sys) (cap hb : Nat) : Sys :=
  if cap < 6000 || cap > 20000 || hb < 1 || hb > 60 then s.mctpAnswer (Config.pldmCode 0 % 256)
  else
    let s := s.contact
    let s : Sys := { s with power := { s.power with rackCap := cap, heartbeatS := hb } }
    let s := s.updateCap
    s.mctpAnswer (2 ^ 8 * s.power.inForce)
/-- GetPowerReading: bytes 0–31 of the report (R454). -/
def Sys.getPowerReading (s : Sys) : Sys := let s := s.contact.updateCap; s.mctpAnswer (2 ^ 8 * (s.powerReport % 2 ^ 256))
/-- Heartbeat (R454). -/
def Sys.heartbeat (s : Sys) : Sys := (s.contact.updateCap).mctpAnswer 0
/-- A PLDM base command, by its command code: answered as DSP0240 has it (R454, log entry 16). -/
def Sys.pldmBase (s : Sys) (code : Nat) : Sys := s.mctpAnswer (Config.pldmAnswer code)
/-- Any other command (R454). -/
def Sys.pldmUnsupported (s : Sys) : Sys := s.mctpAnswer (Config.pldmCode 1 % 256)

/-- No valid command for HEARTBEAT_S (R455). -/
def Sys.contactLost (s : Sys) : Sys :=
  let p := s.power
  if p.rackState = 1 && decide (s.now ≥ p.lastContact + 1000000000 * p.heartbeatS) then
    { s with power := { p with rackState := 2, lostAt := s.now } }
  else s
/-- 30 s after the loss of contact (R455). -/
def Sys.safeCapEntry (s : Sys) : Sys :=
  let p := s.power
  if p.rackState = 2 && decide (s.now ≥ p.lostAt + 30000000000) then
    let s : Sys := { s with power := { p with rackState := 3, rackCap := s.limit 0 4 12000 } }
    s.updateCap
  else s

/-- A group moves to an operating point once it is frozen (R465): asked for, and its cores frozen, where no job of it is
in HOLD, REPLAYING or LOADING. Log entry 60. -/
def Sys.askOpp (s : Sys) (g : List Nat) (op : Nat) : Sys :=
  let p := s.power
  let s : Sys := { s with power := { p with
    oppWait := p.oppWait.filter (fun w => !g.contains w.1) ++ g.map (fun n => (n, op)) } }
  if g.all (fun n => (s.job n).state = .running) then g.foldl (fun s n => s.freezeJob n) s else s

/-- Whether a group whose tiles draw `w` mW fits at point `n`, now at `g` (R464); the feed-side demand is w / 0.93 as
R464's example has it. All sides are scaled by 93 × T(g). -/
def Sys.fits (s : Sys) (w n g : Nat) : Bool :=
  decide (((93 * (s.panelMw : Int) - 100 * w) * oppWatts g + 100 * w * oppWatts n) ≤ 995 * (s.power.inForce : Int) * 93 * oppWatts g)

/-- The tiles' power of a group, its point, and the lowest preference of its jobs. -/
def Sys.groupW (s : Sys) (g : List Nat) : Nat :=
  let tiles := (g.flatMap (fun n => s.jobTiles (s.job n))).foldl (fun (l : List Nat) t => if l.contains t then l else l ++ [t]) []
  (tiles.map (fun t => NMap.get 0 s.power.tileW t)).foldl (· + ·) 0
def Sys.groupPref (s : Sys) (g : List Nat) : Nat := g.foldl (fun a n => min a (s.job n).spec.prefOpp) 7

/-- The live jobs in ascending start serial. -/
def insertSerial (a : Nat × Nat) (l : List (Nat × Nat)) : List (Nat × Nat) :=
  match l with
  | [] => [a]
  | b :: r => if a.1 < b.1 then a :: b :: r else b :: insertSerial a r
def Sys.jobsBySerial (s : Sys) : List Nat :=
  ((s.lead.jobs.filter (fun j => j.2.state.live)).foldr (fun j l => insertSerial (j.2.serial, j.1) l) []).map (fun p => p.2)

/-- A tile with no slot in a live job, its cores at rest, returns to OPP0 (R457). Log entry 60. -/
def Sys.settleOpps (s : Sys) : Sys :=
  let used := (s.jobsBySerial).flatMap (fun n => s.jobTiles (s.job n))
  let idle (x : Tile) : Bool :=
    decide (x.pwr.opp ≠ 0) && x.pwr.on && !x.pwr.retention &&
      x.slots.all (fun k => k.2.state ≠ .lapRunning && k.2.state ≠ .lapFrozen)
  { s with tiles := s.tiles.map (fun t => (t.1, if idle t.2 && !used.contains t.1 then t.2.toOpp 0 else t.2)) }

/-- The grant of one group at its 10 ms check (R464). Log entry 60. -/
def Sys.grantGroup (s : Sys) (n : Nat) : Sys :=
  let g := s.jobGroup n
  let now_ := (s.job n).opp
  let pref := s.groupPref g
  let w := s.groupW g
  if g.any (fun k => (s.job k).state = .loading) then s
  else
    let late := match s.power.overSince with
      | some t => decide (s.now ≥ t + 10000000)
      | none => false
    if late && decide (now_ > 0) then s.askOpp g (now_ - 1)
    else if now_ < pref && s.fits w (now_ + 1) now_ then s.askOpp g (now_ + 1)
    else
      match s.power.oppWait.find? (fun x => x.1 = n) with
      | some x => if g.all (fun k => (s.job k).opp = x.2) then s else s.askOpp g x.2
      | none => s

/-- The PMC's grants every 10 ms, group by group (R464). -/
def Sys.oppGrant (s : Sys) : Sys :=
  let order := s.jobsBySerial
  (order.foldl (fun (a : List Nat × Sys) n =>
    if a.1.contains n then a else (a.1 ++ a.2.jobGroup n, a.2.grantGroup n)) ([], s)).2

/-- The highest point at or below `pref` at which a group drawing `w` mW at point `g` fits, 0 where none does. -/
def Sys.bestOpp (s : Sys) (w pref g : Nat) : Nat :=
  ((List.range (pref + 1)).reverse.find? (fun n => s.fits w n g)).getD 0

/-- Grants recomputed at the end of Hold (R464, R472): each group goes to the highest point that fits, at once where every
core of it is frozen, else at its thaw (R210, R465). -/
def Sys.regrant (s : Sys) (g : List Nat) : Sys :=
  match g.head? with
  | none => s
  | some n =>
    let now_ := (s.job n).opp
    let op := min now_ (s.bestOpp (s.groupW g) (s.groupPref g) now_)
    if g.all (fun k => s.jobFrozen (s.job k)) then s.applyOpp g op
    else if op = now_ then s
    else s.askOpp g op

/-- The change of a job group that has frozen (R465). Log entry 60. -/
def Sys.oppChange (s : Sys) (n : Nat) : Sys :=
  match s.power.oppWait.find? (fun w => w.1 = n) with
  | none => s
  | some w =>
    let g := s.jobGroup n
    if (s.job n).state.live && g.all (fun k => (s.job k).state = .running && s.jobFrozen (s.job k)) then
      g.foldl (fun s k => s.thawOne k) (s.applyOpp g w.2)
    else s

end Sys2Proof.Machine
end

