-- ==== Sys2Proof/Machine/CoolOps.lean ====
section
/-! DEFINITION. Cooling: coolant samples and the cooling cap, the heat balance, tile temperatures, Hold and cooling
power-down (R466–R473). -/

namespace Sys2Proof.Machine

/-- The cooling state changes with its event (R475, R545). -/
def Sys.coolState (s : Sys) (n : Nat) : Sys :=
  if s.cool.state = n then s
  else
    let s : Sys := { s with cool := { s.cool with state := n, predict := if n = 1 then s.cool.predict else none } }
    s.eventBoth 6

/-- A job is put into HOLD with cause THERMAL and its cores are frozen (R469, R471). A replay it was in begins anew
later. -/
def Sys.holdThermal (s : Sys) (n : Nat) : Sys :=
  let j := s.job n
  if !j.state.live || (j.state = .hold && j.holdCause = 1) then s
  else
    let s := if j.state = .replaying then s.laterJob n else s
    (s.upJob n (fun j => { j with
      state := .hold, holdCause := 1, before := if j.state = .hold then j.holdCause else 0, lastEvent := stThermalHold })).freezeJob n
/-- A THERMAL hold ends: the job thaws, or returns to the hold it was in (R469, R472). -/
def Sys.thawThermal (s : Sys) (n : Nat) : Sys :=
  let j := s.job n
  if j.state = .hold && j.holdCause = 1 then
    if j.before = 0 then s.thawJob n
    else s.upJob n (fun j => { j with holdCause := j.before, before := 0 })
  else s

/-- A tile whose slots are all frozen or idle in Hold: its ceiling is 0, its clocks stop, its core rail goes to 0.50 V
(R471). -/
def Sys.settleHold (s : Sys) (t : Nat) : Sys :=
  let x := s.tile t
  if s.cool.hold.isSome && x.pwr.pgood && !x.pwr.retention &&
      (List.range 16).all (fun k => (NMap.get {} x.slots k).state ≠ .lapRunning) then
    s.setTile t { x with pwr := { x.pwr with
      retention := true, coreMv := 500, ceilNext := [], ceil := (List.range 16).map (fun k => (k, 0)), level := [], used := [] } }
  else s

/-- The live tiles that are powered. -/
def Sys.liveTiles (s : Sys) : List Nat := (List.range 256).filter (fun t => !(s.tile t).shed && (s.tile t).pwr.pgood)

/-- A sudden stop: the panel enters Hold (R471); `cause` numbers R471's list. -/
def Sys.enterHold (s : Sys) (cause : Nat) : Sys :=
  if s.cool.hold.isSome || s.cool.state = 4 then s
  else
    let s : Sys := { s with cool := { s.cool with hold := some { since := s.now, cause := cause } } }
    let s := (s.coolState 3).log 0x0016 3 0 0 0 cause
    let live := s.liveTiles
    let s := live.foldl (fun (s : Sys) t => s.sendCeiling t 0xFFFF 8) s
    let s : Sys := { s with power := { s.power with ceil := live.map (fun t => (t, 8)), bubbled := [] } }
    let s := (NMap.keys s.lead.jobs).foldl (fun s n => s.holdThermal n) s
    live.foldl (fun s t => s.settleHold t) s

/-- Nominal flow in 0.01 L/min (R467). -/
def Sys.nominalFlow (s : Sys) : Nat := s.limit 6 2 2400
/-- Flow at 85 % of nominal or more. -/
def Sys.flowGood (s : Sys) (flow : Nat) : Bool := decide (100 * flow ≥ 85 * s.nominalFlow)

/-- The cooling cap from a flow and an inlet temperature (R467). -/
def Sys.coolingCap (s : Sys) (flow inlet : Nat) : Sys :=
  let nom := s.nominalFlow
  let byFlow := if 100 * flow ≥ 85 * nom then 20000 else 20000 * flow * 100 / (85 * nom)
  let t := signedOf 16 inlet
  let byInlet := if t > 4000 then (20000 - 10 * (t - 4000)).toNat else 20000
  let s : Sys := { s with power := { s.power with coolCap := min byFlow byInlet, coolInlet := decide (byInlet < byFlow) } }
  s.updateCap

/-- A read of the sensor module that failed (R466, R467): the third in a row sets SENSOR_LOST, and
the flow counts as half the nominal one. -/
def Sys.coolantFailed (s : Sys) : Sys :=
  let fails := s.cool.fails + 1
  let s : Sys := { s with cool := { s.cool with fails := fails } }
  if fails < 3 then s
  else
    let s : Sys := { s with cool := { s.cool with
      coolSince := none, hold := s.cool.hold.map (fun h => { h with goodSince := none }) } }
    let s := if s.cool.state < 3 then s.coolState 2 else s
    s.coolingCap (s.nominalFlow / 2) s.cool.inlet

/-- The sensor module read (R466–R468, R471, R472): `good` says that it answered with a good CRC. Log entry 62. -/
def Sys.coolantSample (s : Sys) (good : Bool) (inlet outlet flow status seq : Nat) : Sys :=
  let c := s.cool
  if !good || bitOf status 1 || c.seq = some seq then
    let s : Sys := if good then { s with cool := { c with seq := some seq } } else s
    s.coolantFailed
  else
    let flows := ringPush 3 c.flows flow
    let cold := decide (signedOf 16 inlet < 1500)
    let ok := s.flowGood flow
    let since (o : Option Nat) (b : Bool) : Option Nat := if b then some (o.getD s.now) else none
    let dt : Int := signedOf 16 outlet - signedOf 16 inlet
    let heats := ringPush 100 c.heats ((flow : Int) * dt)
    let fed := ringPush 100 c.fedW (s.panelMw / 1000)
    let s : Sys := { s with cool := { c with
      inlet := inlet, outlet := outlet, flow := flow, status := status, seq := some seq, good := true, fails := 0
      flows := flows, cold := cold, pump := bitOf status 0 || decide (c.pumpLow ≥ 3), heats := heats, fedW := fed
      coolSince := since c.coolSince (ok && decide (signedOf 16 inlet ≤ 4000))
      hold := c.hold.map (fun h => { h with goodSince := since h.goodSince ok }) } }
    let s := if cold && !c.cold then s.log 0x0014 0 0 0 0 0 else s
    let s := if s.cool.state < 3 then s.coolState (if ok then 0 else 1) else s
    let s := s.coolingCap flow inlet
    let fell := match flows with
      | [a, _, b] => decide (100 * (a - b) > 9 * s.nominalFlow)
      | _ => false
    if 5 * flow < s.nominalFlow then s.enterHold 0
    else if fell then s.enterHold 1
    else if bitOf status 0 then s.enterHold 2
    else s

/-- A sample of the PUMP_FAULT_N pin (R466). -/
def Sys.pumpFaultN (s : Sys) (level : Bool) : Sys :=
  let c := s.cool
  let low := if level then 0 else c.pumpLow + 1
  let s : Sys := { s with cool := { c with pumpLow := low, pump := bitOf c.status 0 || decide (low ≥ 3) } }
  if low ≥ 3 then s.enterHold 2 else s

/-- The hottest powered tile. -/
def Sys.hottest (s : Sys) : Int := s.tiles.foldl (fun a t => if t.2.pwr.pgood then max a t.2.temp else a) (-2048)

/-- The alert of SLOW_FALL (R467): `rise` is the hottest tile's rise in mK/s over the last second. -/
def Sys.slowFallAlert (s : Sys) (rise : Int) : Sys :=
  if s.cool.state ≠ 1 then s
  else
    let p : Option Nat := if rise > 0 then some ((840 - s.hottest).toNat * 125 * 1000 / rise.toNat) else none
    let s : Sys := { s with cool := { s.cool with predict := p } }
    s.log 0x0013 1 0 0 0 (p.getD (2 ^ 64 - 1))

/-- Heat removed compared with feed power (R468). Log entry 62. -/
def Sys.heatBalance (s : Sys) : Sys :=
  let c := s.cool
  let n := c.heats.length
  if n = 0 then s
  else
    let q := c.heats.foldl (· + ·) 0 * (s.limit 8 2 1020 : Nat) * (s.limit 10 2 3900 : Nat) / (600000000 * (n : Int))
    let p : Int := (c.fedW.foldl (· + ·) 0 / n : Nat)
    let off := decide (p ≥ 2000) && decide (100 * (q - p).natAbs > 15 * p.toNat)
    let run := if off then c.unequal + 1 else 0
    let s : Sys := { s with cool := { c with heat := q.toNat, unequal := run, mismatch := c.mismatch || decide (run ≥ 3) } }
    if run ≥ 3 && !c.mismatch then s.log 0x0015 1 0 0 0 0 else s

/-- A tile's sensors sampled; `rise` is the rise of their maximum over the last 200 ms, 0.125 °C per code (R469). Log
entry 78. -/
def TX.tempSample (x : TX) (temps : List Nat) (rise : Int) : TX :=
  let p := x.tile.pwr
  let p := { p with temps := (List.range 8).map (fun i => (i, temps.getD i 0 % 4096)) }
  let t := ({ x.tile with pwr := p } : Tile).temp
  let hot : Option Nat := if t ≥ 840 then some (p.hotSince.getD x.now) else none
  let rising := decide (rise > 8)
  let x' := x.setPwr { p with hotSince := hot, rising := rising }
  let x' := if rising && !p.rising then x'.note false ncRising ukTile x.phys 0 0 else x'
  let long := match hot with
    | some h => decide (x.now ≥ h + 100000000)
    | none => false
  if long && !p.tempLimit then (x'.setPwr { x'.tile.pwr with tempLimit := true }).note true ncTempLimit ukTile x.phys 0 1
  else if p.tempLimit && decide (t ≤ 760) then
    (x'.setPwr { x'.tile.pwr with tempLimit := false }).note true ncTempLimit ukTile x.phys 0 0
  else x'
/-- A tile still at 105 °C or above after 5 s (R469). -/
def TX.thermalLimit (x : TX) : TX :=
  match x.tile.pwr.hotSince with
  | some h =>
    if x.now ≥ h + 5000000000 && !x.tile.shed then
      (x.setPwr { x.tile.pwr with hotSince := none }).note true ncThermalLimit ukTile x.phys 0 0
    else x
  | none => x

/-- PERIOD_MS has elapsed on a tile (R65): a rotation is attempted, outside Hold (R472); `est` are the thermal estimates
by slot. -/
def Sys.leapfrogPeriod (s : Sys) (t : Nat) (est : List Nat) : Sys :=
  if s.cool.hold.isSome then s
  else s.onTile t (fun x => x.leapfrogPeriod ((List.range 16).map (fun i => (i, est.getD i 0))))

/-- Hold ends restored (R472): rails back, groups at recomputed grants, jobs thawed. -/
def Sys.holdRestore (s : Sys) : Sys :=
  match s.cool.hold with
  | none => s
  | some h =>
    let long := match h.goodSince with
      | some g => decide (s.now ≥ g + 2000000000)
      | none => false
    if !long || s.hottest > 760 then s
    else
      let s : Sys := { s with cool := { s.cool with hold := none } }
      let s := s.coolState (if s.flowGood s.cool.flow then 0 else 1)
      let s := (s.liveTiles.filter (fun t => (s.tile t).pwr.retention && (s.lead.place.any (fun p => p.2 = t)))).foldl
        (fun (s : Sys) t =>
          s.modTile t (fun x => { x with leapSince := s.mirror t, pwr := { x.pwr with
            retention := false, coreMv := oppMv x.pwr.opp, ceil := (List.range 16).map (fun k => (k, 8)) } })) s
      let order := s.jobsBySerial
      let s := (order.foldl (fun (a : List Nat × Sys) n =>
        if a.1.contains n then a else (a.1 ++ a.2.jobGroup n, a.2.regrant (a.2.jobGroup n))) ([], s)).2
      order.foldl (fun s n => s.thawThermal n) s

/-- A tile whose rails a cooling power-down takes away: nothing of it but its number and what is shed stays. -/
def Sys.coldTile (s : Sys) (t : Nat) : Sys :=
  let x := s.tile t
  (s.setTile t { logical := x.logical, shed := x.shed, shedMask := x.shedMask }).railsOff t

/-- Flow not restored within 5 s, or a tile above 105 °C (R472): domains 0–15 go down and what their tiles held is lost. -/
def Sys.coolingPowerDown (s : Sys) : Sys :=
  match s.cool.hold with
  | none => s
  | some h =>
    if (decide (s.now ≥ h.since + 5000000000) && h.goodSince.isNone) || decide (s.hottest > 840) then
      let s := s.log 0x0017 3 0 0 0 0
      let s := (NMap.keys s.lead.jobs).foldl (fun s n => s.failJob n stThermalHold 0) s
      let s : Sys := { s with cool := { s.cool with hold := none, coolSince := none } }
      let s := s.coolState 4
      let p := s.power
      let s : Sys := { s with power := { p with
        up := none, upQueue := [], oppWait := [], ceil := [], bubbled := [], alloc := [], tileW := [], rates := []
        domains := p.domains.map (fun d => if d.1 < 16 && d.2.state ≠ 3 then (d.1, { d.2 with state := 0 }) else d)
        ibc := p.ibc.map (fun c => if c.1 < 32 && c.2.state ≠ 3 then (c.1, { c.2 with state := 0 }) else c) } }
      let s := (List.range 256).foldl (fun s t => s.coldTile t) s
      let s := s.modLead (fun l => { l with mcs := [], rgs := [], invalid := [], weights := [], recov := {}, sw := none, swQueue := [] })
      [0, 1].foldl (fun (s : Sys) k => s.modHub k (fun u => { u with
        ctxs := u.ctxs.map (fun c => (c.1, { c.2 with isOpen := false }))
        egress := u.egress.map (fun w => (w.1, { w.2 with isOpen := false })), exfers := [] })) s
    else s

/-- Flow restored for 10 s with a cool inlet (R472): the regions power up in ascending order, then start-up steps 6–10
run. -/
def Sys.coolingPowerRestore (s : Sys) : Sys :=
  match s.cool.coolSince with
  | some c =>
    if s.cool.state = 4 && decide (s.now ≥ c + 10000000000) then
      let s := s.coolState 0
      let todo := (List.range 16).filter (fun d => (NMap.get {} s.power.domains d).state = 0)
      let s : Sys := { s with power := { s.power with upQueue := todo } }
      { s.modBootHub s.lead.hub (fun b => { b with step := 5 }) with boot :=
        { (s.modBootHub s.lead.hub (fun b => { b with step := 5 })).boot with partial_ := true } }
    else s
  | none => s

end Sys2Proof.Machine
end

