-- ==== Sys2Proof/Machine/LinkOps.lean ====
section
/-! DEFINITION. Tile and hub links: training, retraining, link up, lane loss, the link record (R404–R419). -/

namespace Sys2Proof.Machine

/-- The lane group that a test leaves (R409): `n` active lanes and a spare at bit 16. -/
def laneGroup (n bad : Nat) (late : Bool) : LaneGroup :=
  let act := setBits bad n
  let fails := act.length + bitNat (bitOf bad 16)
  match act with
  | [] => { bad := bad, live := !late }
  | i :: _ =>
    if fails ≥ 2 then { bad := bad } else { bad := bad, replaced := i, spareUsed := true, live := !late }

/-- The control lanes are lost (R409). -/
def LaneTest.ctrlLost (l : LaneTest) : Bool := decide (popCount l.ctrlBad 3 ≥ 2)
/-- The groups after a test; groups that are drained or shed are not used (R498). -/
def LaneTest.groups (l : LaneTest) (lanes : Nat) (out : Nat → Bool) : NMap LaneGroup :=
  (List.range 18).map (fun g => (g, laneGroup lanes (l.bad.getD g 0) (bitOf l.late g || out g)))

/-- The largest allowed width for a number of live groups, 0 where there is none (R412). -/
def linkWidth (version live : Nat) : Nat :=
  ((if version ≥ 3 then [18, 9, 6, 3] else [18, 9]).find? (fun w => decide (w ≤ live))).getD 0
def liveGroups (g : NMap LaneGroup) : Nat := (g.filter (fun x => x.2.live)).length

/-- The unit key of a tile's link (R378). -/
def linkKey (t p : Nat) : Nat := if hubPort t p then unitKey ukHubLink t 0 else unitKey ukTileLink t p
def linkKind (t p : Nat) : Nat := if hubPort t p then ukHubLink else ukTileLink
def linkSub (t p : Nat) : Nat := if hubPort t p then 0 else p

/-- LINK of both ends of a link set; the ends' ports are changed by `f`. -/
def Sys.bothEnds (s : Sys) (t p : Nat) (f : MeshPort → MeshPort) : Sys :=
  match neighbour t p with
  | none => s
  | some (m, mp) =>
    let s := s.setRouter t ((s.router t).setPort p (f ((s.router t).port p)))
    s.setRouter m ((s.router m).setPort mp (f ((s.router m).port mp)))

/-- The tile ends of a link: the tile and port, and the far end where it is a tile. -/
def tileEnds (t p : Nat) : List (Nat × Nat) :=
  match neighbour t p with
  | some (m, mp) => if m < 256 then [(t, p), (m, mp)] else [(t, p)]
  | none => []

/-- A training begins at every tile end; the cause counts at the end that starts it (R408, R414, R418). -/
def Sys.beginTraining (s : Sys) (t p cause : Nat) (full : Bool) : Sys :=
  (tileEnds t p).foldl (fun (s : Sys) e =>
    let l := s.link e.1 e.2
    let l := { l with
      phase := 1, since := s.now, full := full, lockLost := false, ctrlTimes := []
      cause := if full then 1 else if e = (t, p) then cause else 6
      retrainTimes := if full then l.retrainTimes else within s.now 1000000000 l.retrainTimes ++ [s.now]
      bootRetrains := if full then l.bootRetrains else l.bootRetrains + 1 }
    let s := s.setLink e.1 e.2 l
    let s := s.bumpTile e.1 (0xC014 + 0x200 * e.2) (if full then 31 else 15) (if full then 16 else 0) 1
    let s := s.setTileReg e.1 (0xC020 + 0x200 * e.2) (putBits (s.tileReg e.1 (0xC020 + 0x200 * e.2)) 0 0 0)
    if full then s else s.scored (linkKind e.1 e.2) e.1 (linkSub e.1 e.2) evRetrain 1) s

/-- The lanes of one tile end as its training found them: counters, scores of spares taken and groups lost (R409, R418,
R496). Log entry 45. -/
def Sys.takeTest (s : Sys) (t p : Nat) (test : LaneTest) (far : Option LaneTest) (version : Nat) : Sys :=
  let l := s.link t p
  let lanes := if hubPort t p then 4 else 16
  let out (t p i : Nat) : Bool := s.unitOut (unitKey ukLaneGroup t (i + 2 ^ 8 * p))
  let farOut : Nat → Bool := match neighbour t p with
    | some (m, mp) => fun i => decide (m < 256) && out m mp i
    | none => fun _ => false
  let g := test.groups lanes (out t p)
  let fails := (test.bad.map (fun b => popCount b 17)).foldl (· + ·) 0 + popCount test.ctrlBad 3
  let l' := { l with
    phase := 5, groups := g, ctrlBad := test.ctrlBad, ctrlLost := test.ctrlLost || (far.map (fun f => f.ctrlLost)).getD false
    roundTrip := max test.trip ((far.map (fun f => f.trip)).getD 0), version := version
    caps := match neighbour t p with
      | some (m, _) => Config.dieCaps m % 2 ^ 16
      | none => 0 }
  let l' := match far with
    | some f =>
      let k : TileLink := { groups := f.groups lanes farOut, ctrlBad := f.ctrlBad, ctrlLost := f.ctrlLost }
      { l' with txSpared := k.rxSpared, txLost := k.lost }
    | none => l'
  let s := (s.setLink t p l').bumpTile t (0xC018 + 0x200 * p) 31 16 fails
  let was (i : Nat) : LaneGroup := NMap.get {} l.groups i
  g.foldl (fun (s : Sys) x =>
    let s := if x.2.spareUsed && !(was x.1).spareUsed then s.scored ukLaneGroup t (x.1 + 2 ^ 8 * p) evSpareLane 1 else s
    if !x.2.live && ((was x.1).live || l.groups = []) then s.scored (linkKind t p) t (linkSub t p) evGroupLost 1 else s) s

/-- Full training of a link, or the lane test of the retrain under way (R408–R411, R414): `here` is what tile `t`
receives, `there` what its partner receives. Log entry 45. -/
def Sys.linkTraining (s : Sys) (t p : Nat) (here there : LaneTest) : Sys :=
  match neighbour t p with
  | none => s
  | some (m, _) =>
    let q := (s.router t).port p
    if t ≥ 256 || !(s.router t).alive || !(s.router m).alive || q.link = 3 || ((s.unit (linkKey t p)).shed.isSome && q.dead && q.link ≠ 2)
    then s
    else
      let full := q.link ≠ 2
      let s := if full then
          (s.beginTraining t p 1 true).bothEnds t p (fun q => { q with
            link := 2, dead := false, wire := [], replay := [], sendSeq := 0, recvSeq := 0, failing := false, onBits := 0, replayRuns := [] })
        else s
      let v := if full then (if m < 256 then min here.version there.version else min (min here.version there.version) 2)
        else (s.link t p).version
      let s := s.takeTest t p here (some there) v
      match (tileEnds t p)[1]? with
      | some (u, up) => s.takeTest u up there (some here) v
      | none => s

/-- What starts a retrain at the tile end `(t, p)`: its cause; a hub at the far end starts one as the partner (R414). -/
def Sys.retrainCause (s : Sys) (t p : Nat) : Option Nat :=
  let l := s.link t p
  let hubAsks := match neighbour t p with
    | some (m, mp) => decide (256 ≤ m) && ((s.router m).port mp).replayRuns.any (fun x => decide (x.2 ≥ 8))
    | none => false
  if hubAsks then some 6
  else if ((s.router t).port p).replayRuns.any (fun x => decide (x.2 ≥ 8)) then some 2
  else if l.ctrlTimes.length ≥ 64 then some 3
  else if l.lockLost then some 4
  else if bitOf (s.tileReg t (0xC020 + 0x200 * p)) 0 then some 5
  else none

/-- A lane of the direction that tile `t` receives on port `p` loses lock (R414). -/
def Sys.laneLockLost (s : Sys) (t p : Nat) : Sys :=
  if ((s.router t).port p).link = 3 then s.setLink t p { s.link t p with lockLost := true } else s

/-- A retrain (R414–R416): both ends stop sending and keep what they hold; packets in flight are lost and sent again from
the replay buffers. More than FLAP_LIMIT retrains in 1 s take the link down. -/
def Sys.retrain (s : Sys) (t p : Nat) : Sys :=
  if t ≥ 256 || ((s.router t).port p).link ≠ 3 then s
  else
    match s.retrainCause t p with
    | none => s
    | some c =>
      let s := s.beginTraining t p c false
      let flaps (e : Nat × Nat) : Bool :=
        decide ((s.link e.1 e.2).retrainTimes.length > bitsOf (s.tileReg e.1 (0xC020 + 0x200 * e.2)) 15 8)
      if (tileEnds t p).any flaps then s.linkFail t p
      else s.bothEnds t p (fun q => { q with
        link := 2, onBits := 0, failing := q.failing || !q.wire.isEmpty, wire := [], replayRuns := [] })

/-- One end's width after a training, and the notice of a degraded one; a hub link's tile reports both directions (R412,
R418). -/
def Sys.endUp (s : Sys) (t p rx tx ns : Nat) : Sys :=
  let l := s.link t p
  let s := s.setLink t p { l with phase := 6, rxWidth := rx, txWidth := tx, lastNs := ns, lastTime := s.now, full := false }
  if rx < 18 || (hubPort t p && decide (tx < 18)) then s.noteAt t false ncLinkDegraded (linkKind t p) t (linkSub t p) 0 else s

/-- A training of `ns` ends (R408, R411, R412, R415, R416): the link comes up at the widths of its live groups, or is
down. -/
def Sys.linkUp (s : Sys) (t p ns : Nat) : Sys :=
  match neighbour t p with
  | none => s
  | some (m, mp) =>
    let l := s.link t p
    if t ≥ 256 || ((s.router t).port p).link ≠ 2 || l.phase ≠ 5 then s
    else
      let rx := linkWidth l.version (liveGroups l.groups)
      let far := s.link m mp
      let farLost := 18 - popCount l.txLost 18
      let tx := if m < 256 then linkWidth far.version (liveGroups far.groups) else linkWidth l.version farLost
      let farCtrl := m < 256 && far.ctrlLost
      let late := decide (ns > (if l.full then 33000 else 10000))
      if l.ctrlLost || farCtrl || rx = 0 || tx = 0 || late || l.roundTrip > 12 || (m < 256 && decide (far.roundTrip > 12)) then
        let s := (tileEnds t p).foldl (fun (s : Sys) e => s.setLink e.1 e.2 { s.link e.1 e.2 with lastNs := ns, lastTime := s.now }) s
        s.linkFail t p
      else
        let full := l.full
        let s := s.endUp t p rx tx ns
        let s := if m < 256 then s.endUp m mp tx rx ns else s
        s.bothEnds t p (fun q => { q with link := 3, dead := false, onBits := if full then 31 else 0 })

/-- The record of LINK_QUERY for a link seen from a tile (R419). -/
def Sys.linkRecord (s : Sys) (kind wher sub t p : Nat) : Nat :=
  let l := s.link t p
  let st := ((s.router t).port p).link
  kind + 2 ^ 8 * st + 2 ^ 16 * l.rxWidth + 2 ^ 24 * l.txWidth + 2 ^ 32 * wher + 2 ^ 48 * sub + 2 ^ 64 * l.rxSpared +
    2 ^ 96 * l.lost + 2 ^ 128 * l.txSpared + 2 ^ 160 * l.txLost + 2 ^ 192 * (l.bootRetrains % 2 ^ 32) +
    2 ^ 224 * (l.bootCrc % 2 ^ 32) + 2 ^ 256 * (l.bootReplays % 2 ^ 32) + 2 ^ 288 * (l.bootCtrl % 2 ^ 32) +
    2 ^ 320 * ((s.unit (linkKey t p)).score / 256 % 2 ^ 32) + 2 ^ 352 * l.version + 2 ^ 360 * l.cause +
    2 ^ 384 * (l.lastTime % 2 ^ 64) + 2 ^ 448 * (l.lastNs % 2 ^ 32)

end Sys2Proof.Machine
end

