-- ==== Sys2Proof/Machine/HealthOps.lean ====
section
/-! DEFINITION. Health scores, the storm limiter, drains and sheds by score or by request (R484, R495–R502). -/

namespace Sys2Proof.Machine

/-- 2^64 × 2^(−2^−k) for k = 1 to 48, rounded down. Log entry 63. -/
def halvings : List Nat :=
  [13043817825332782212, 15511800964685064948, 16915738899553466670, 17664662643191237676,
   18051468387014017850, 18248035989933441396, 18347121020861646923, 18396865112328554661,
   18421787711448657617, 18434261669329232139, 18440501815349552981, 18443622680442407997,
   18445183311048607332, 18445963675871538003, 18446353870663572145, 18446548971154807802,
   18446646522174239825, 18446695297877410579, 18446719685777359790, 18446731879739425374,
   18446737976723480912, 18446741025216264368, 18446742549462845018, 18446743311586182573,
   18446743692647863158, 18446743883178706403, 18446743978444128763, 18446744026076840128,
   18446744049893195856, 18446744061801373732, 18446744067755462673, 18446744070732507144,
   18446744072221029380, 18446744072965290498, 18446744073337421057, 18446744073523486336,
   18446744073616518976, 18446744073663035296, 18446744073686293456, 18446744073697922536,
   18446744073703737076, 18446744073706644346, 18446744073708097981, 18446744073708824798,
   18446744073709188207, 18446744073709369911, 18446744073709460763, 18446744073709506189]
/-- 2^64 × 2^(−f / t) for a fraction f / t below 1. Log entry 63. -/
def decayFactor (l : List Nat) (f t acc : Nat) : Nat :=
  match l with
  | [] => acc
  | c :: r => if 2 * f ≥ t then decayFactor r (2 * f - t) t (acc * c / 2 ^ 64) else decayFactor r (2 * f) t acc
/-- Twelve hours in ns (R495). -/
def halfLife : Nat := 43200000000000
/-- A score in 1/256 points after `dt` ns: score × 2^(−dt / 12 h), rounded down (R495). Log entry 63. -/
def decayed (score dt : Nat) : Nat :=
  score * decayFactor halvings (dt % halfLife) halfLife (2 ^ 64) / 2 ^ 64 / 2 ^ (dt / halfLife)

/-- Points of each scored event (R496). -/
def eventPoints (ev : Nat) : Nat := [1, 100, 50, 400, 20, 400, 2, 100, 500, 1000, 1, 50, 4000, 2, 100, 100, 2000, 5, 1].getD ev 0
/-- The notice code that goes with a scored event, 0 where none does (R479, R502). -/
def eventCode (ev : Nat) : Nat :=
  if ev = evLost then ncParityMismatch else if ev = evMacroMismatch then ncMacroMismatch
  else if ev = evSpareLane || ev = evGroupLost then ncLinkDegraded else if ev = evFrameLost then ncFrameLost
  else if ev = evPortAbsent then ncPortAbsent else if ev = evLaserWarn then ncLaserWarn
  else if ev = evCrack then ncCrackSignature else if ev = evDroop then ncDroop else 0

/-- Parts of a unit key (R378). -/
def keyKind (k : Nat) : Nat := k / 2 ^ 32
def keyWhere (k : Nat) : Nat := k / 2 ^ 16 % 2 ^ 16
def keySub (k : Nat) : Nat := k % 2 ^ 16
/-- The power region in which a unit lies; units of straights and engines lie in none. -/
def unitRegion (k : Nat) : Option Nat :=
  if keyKind k = ukStraight || keyKind k = ukOpticalLane || keyKind k = ukLaser then none else some (regionOfTile (keyWhere k))

/-- The resting core leaves service without a fault (R498). -/
def TX.retireRest (x : TX) : TX :=
  { x with tile := { x.tile with
      shedMask := x.tile.shedMask ||| 2 ^ x.tile.rest, rest := 31, restState := .shed, restValid := false
      leapStopped := true, preload := none } }

/-- The unit is taken down where it stands: links, lanes, straights, lasers (R484, R498). -/
def Sys.takeDown (s : Sys) (kind wher sub : Nat) : Sys :=
  if kind = ukTileLink then s.linkFail wher sub
  else if kind = ukHubLink then s.linkFail wher (if wher % 16 = 0 then 3 else 1)
  else if kind = ukLaneGroup then
    let p := bitsOf sub 9 8
    let off := 0xC020 + 0x200 * p
    s.setTileReg wher off (s.tileReg wher off ||| 1)
  else if kind = ukStraight then s.calibrate (if sub = 0 then wher else 16 + wher) 0
  else if kind = ukOpticalLane then
    let p := sub / 4
    let q := (s.engine wher).port p
    let left := q.lanes - (q.lanes &&& 2 ^ (sub % 4))
    if q.role = 2 then s.modPort wher p (fun q => s.ethernetLanes q left)
    else
      let s := s.modPort wher p (fun q => { q with lanes := left })
      if left = 0 then s.siluaDown wher p false else s.siluaRetrain wher p
  else if kind = ukLaser then
    [2 * sub, 2 * sub + 1].foldl (fun (s : Sys) p => (s.modPort wher p (fun q => { q with lanes := 0 })).siluaDown wher p false) s
  else s

/-- A unit is shed at once (R379, R481, R484). -/
def Sys.shedNow (s : Sys) (kind wher sub : Nat) (hard host : Bool) : Sys :=
  if kind = ukTile then s.loseTiles [wher] hard host
  else if kind = ukBank then (s.markShed kind wher sub hard host).loseTiles [wher] hard host
  else if kind = ukCore then
    let s := s.markShed kind wher sub hard host
    s.onTile wher (fun x => x.coreUnitFault sub .none)
  else ((s.markShed kind wher sub hard host).takeDown kind wher sub).askSwitch

/-- The jobs that use a tile are armed for the end of their step and held then (R498). -/
def Sys.armDrain (s : Sys) (t : Nat) : Sys :=
  (NMap.keys s.lead.jobs).foldl (fun (s : Sys) n =>
    let j := s.job n
    if j.state.live && (s.jobTiles j).contains t && j.holdFor ≠ 3 && !(j.state = .hold && j.holdCause = 3) then
      (s.modJob n (fun j => { j with holdFor := 3 })).armJob n
    else s) s

/-- A drain begins (R498). -/
def Sys.startDrain (s : Sys) (kind wher sub : Nat) (host : Bool) : Sys :=
  let key := unitKey kind wher sub
  if (s.unit key).draining.isSome || (s.unit key).shed.isSome then s
  else
    let s := s.modUnit key (fun u => { u with draining := some s.now, host := host, held := false })
    let s := s.eventBoth 7
    if kind = ukTile || kind = ukBank then s.armDrain wher
    else if kind = ukCore then
      let x := s.tile wher
      if !x.restValid then s.armDrain wher
      else
        match (List.range 16).find? (fun k => x.physOf k = sub) with
        | some k =>
          if x.preload.isNone && x.rest ≠ sub then
            s.modTile wher (fun x => { x with restState := .preload, preload := some { slot := k } })
          else s
        | none => s
    else s.askSwitch

/-- A job held for a drain thaws from LAPS_COMMITTED once every regrown tile of its partition is rebuilt and its slots are
ready (R498). -/
def Sys.thawHeld (s : Sys) (n : Nat) : Sys :=
  let j := s.job n
  let p := j.spec.partition
  let tiles := s.jobTiles j
  let busy := s.health.units.any (fun u => u.2.draining.isSome && (keyKind u.1 = ukTile || keyKind u.1 = ukBank ||
    (keyKind u.1 = ukCore && !(s.tile (keyWhere u.1)).restValid)) && tiles.contains (keyWhere u.1))
  if j.state = .hold && j.holdCause = 3 && s.noSwitch && !busy &&
      !(s.lead.recov.regrown.any (fun g => bitOf (NMap.get {} s.lead.partitions p).tiles g.logical)) &&
      s.lead.recov.starting.all (fun e => !tiles.contains e.1 || s.slotReady e.1 e.2.1) then
    let k0 := j.lapsCommitted
    let left := if j.endless then none else some (j.spec.runs - k0)
    let s := (s.jobSlots j).foldl (fun (s : Sys) e =>
      let st := s.coreState e.1 e.2.1
      if st = .halted || st = .scalar then (s.writeSlot j e.1 e.2.1 e.2.2).onTile e.1 (fun x => x.rewindSlot e.2.1 k0 left) else s) s
    let s := s.modLead (fun x => { x with recov := { x.recov with
      starting := x.recov.starting.filter (fun e => !tiles.contains e.1) } })
    ((s.modJob n (fun j => { j with holdFor := 0 })).armJob n).thawJob n
  else s

/-- The tile of a draining tile, bank or core is given up once its jobs stand still after a commit (R498). -/
def Sys.drainTile (s : Sys) (key t : Nat) : Sys :=
  let s := s.armDrain t
  let ready := s.lead.jobs.all (fun j => !j.2.state.live || !(s.jobTiles j.2).contains t || (j.2.state = .hold && j.2.holdCause = 3))
  if !ready then s
  else
    let host := (s.unit key).host
    let s := if keyKind key = ukTile then s else s.markShed (keyKind key) t (keySub key) false host
    let (ch, s) := s.shedTile t false host true
    let s := if ch.isEmpty then s else s.modLead (fun l => { l with swQueue := l.swQueue ++ [ch] })
    ch.foldl (fun (s : Sys) c =>
      if c.2 < 256 then s else (s.partsOf [c.1]).foldl (fun (s : Sys) p => s.failPart p stNoSpare) s) s

/-- A drain goes on as far as it can (R498); jobs held for a drain that is over thaw. Log entry 80. -/
def Sys.drain (s : Sys) (kind wher sub : Nat) : Sys :=
  let key := unitKey kind wher sub
  let s :=
    if (s.unit key).draining.isNone then s
    else if kind = ukTile || kind = ukBank then s.drainTile key wher
    else if kind = ukCore then
      let x := s.tile wher
      if x.rest = sub && x.restValid then
        (s.onTile wher (fun x => x.retireRest)).markShed kind wher sub false (s.unit key).host
      else if !x.restValid then s.drainTile key wher
      else if x.preload.isNone then
        match (List.range 16).find? (fun k => x.physOf k = sub) with
        | some k => s.modTile wher (fun x => { x with restState := .preload, preload := some { slot := k } })
        | none => s
      else s
    else if s.noSwitch then (s.markShed kind wher sub false (s.unit key).host).takeDown kind wher sub
    else s
  (NMap.keys s.lead.jobs).foldl (fun s n => s.thawHeld n) s

/-- A drain not finished after 60 s becomes a shed (R498). -/
def Sys.drainLimit (s : Sys) (kind wher sub : Nat) : Sys :=
  let key := unitKey kind wher sub
  match (s.unit key).draining with
  | some t =>
    if s.now < t + 60000000000 then s
    else
      let s := s.modUnit key (fun u => { u with draining := none })
      let s := s.shedNow kind wher sub false (s.unit key).host
      (NMap.keys s.lead.jobs).foldl (fun s n => s.modJob n (fun j => { j with holdFor := if j.holdFor = 3 then 0 else j.holdFor })) s
  | none => s

/-- The storm limiter holds a removal back (R499). -/
def Sys.stormHolds (s : Sys) (key : Nat) : Bool :=
  let kind := keyKind key
  let spare := kind = ukTile || kind = ukBank || (kind = ukCore && !(s.tile (keyWhere key)).restValid)
  s.health.frozen s.now || decide (s.health.removed24 s.now ≥ 2) || (spare && decide (s.freeSpares.length ≤ 4))

/-- A unit's score judged after a sample (R497, R499): one that drains already is shed at 8,000. `fell` says that the count
of removals has fallen. -/
def Sys.judgeUnit (s : Sys) (key : Nat) (fell : Bool) : Sys :=
  let u := s.unit key
  let kind := keyKind key
  let wher := keyWhere key
  let sub := keySub key
  let drains := u.draining.isSome
  if u.shed.isSome || s.health.frozen s.now then s
  else
    let s :=
      if drains then s
      else if u.watch.isNone && u.score ≥ 1000 * 256 then
        ((s.modUnit key (fun u => { u with watch := some s.now })).log 0x0022 0 kind wher sub 0).eventBoth 7
      else if u.watch.isSome && u.score < 500 * 256 then
        let s := if u.held then s.eventBoth 7 else s
        s.modUnit key (fun u => { u with watch := none, held := false })
      else s
    let due := !u.held || decide (u.score ≥ u.heldAt + 1000 * 256) || fell ||
      (decide (u.heldAt < 8000 * 256) && decide (u.score ≥ 8000 * 256))
    if u.score < (if drains then 8000 else 4000) * 256 || !due then s
    else if s.stormHolds key then
      let s := if u.held then s else s.eventBoth 7
      (s.modUnit key (fun u => { u with held := true, heldAt := u.score })).log 0x0018 1 kind wher sub 0
    else
      let h := s.health
      let s : Sys := { s with health := { h with removals := h.removals ++ [s.now] } }
      if u.score ≥ 8000 * 256 then s.shedNow kind wher sub false (drains && u.host) else s.startDrain kind wher sub false

/-- A unit with its events since the last sample (R495, R496): decayed, then raised. -/
def Unit_.sampled (u : Unit_) (now : Nat) (ev : List (Nat × Nat)) : Unit_ :=
  let gain := (ev.map (fun e => 256 * eventPoints e.1 * e.2)).foldl (· + ·) 0
  let cur := decayed u.base (now - u.baseAt)
  let gains := u.gains.filter (fun g => decide (now < g.1 + 60000000000))
  if gain = 0 then { u with score := cur, gains := gains }
  else
    { u with
      base := cur + gain, baseAt := now, score := cur + gain, peak := max u.peak (cur + gain)
      gains := gains ++ [(now, gain)] }
/-- Events counted, also while scores are frozen (R500, R502). -/
def Unit_.counted (u : Unit_) (now : Nat) (ev : List (Nat × Nat)) : Unit_ :=
  match ev.getLast? with
  | none => u
  | some e => { u with
      events := satAdd 32 u.events ((ev.map (fun x => x.2)).foldl (· + ·) 0), lastCode := eventCode e.1, lastTime := now }

/-- The units that rise (R500). -/
def Sys.rising (s : Sys) : List Nat :=
  (s.health.units.filter (fun u => decide ((u.2.gains.map (fun g => g.2)).foldl (· + ·) 0 ≥ 100 * 256))).map (fun u => u.1)
/-- Eight units rise within 60 s, over three power regions (R500). -/
def Sys.commonCause (s : Sys) : Bool :=
  let l := s.rising
  let regions := (l.filterMap unitRegion).foldl (fun (a : List Nat) r => if a.contains r then a else a ++ [r]) []
  decide (l.length ≥ 8) && decide (regions.length ≥ 3)

/-- The 100 ms sample (R495–R500). -/
def Sys.healthSample (s : Sys) : Sys :=
  let h := s.health
  let now := s.now
  let was := h.frozen now
  let ofKey (k : Nat) : List (Nat × Nat) := (h.counts.filter (fun c => c.1 / 32 = k)).map (fun c => (c.1 % 32, c.2))
  let new := (h.counts.map (fun c => c.1 / 32)).foldl (fun (m : NMap Unit_) k => if (NMap.find m k).isSome then m else NMap.put m k {}) h.units
  let step (k : Nat) (u : Unit_) : Unit_ :=
    let u := u.counted now (ofKey k)
    -- while scores are frozen they neither gain nor decay
    if was then { u with
      baseAt := u.baseAt + (now - h.sampled), gains := u.gains.filter (fun g => decide (now < g.1 + 60000000000)) } else u.sampled now (ofKey k)
  let units := new.map (fun e => (e.1, step e.1 e.2))
  let s : Sys := { s with health := { h with units := units, counts := [], sampled := now } }
  let s :=
    if s.commonCause then
      let s : Sys := { s with health := { s.health with frozenUntil := some (now + 3600000000000) } }
      if was then s
      else
        let feeds := maskOf s.power.qualified
        (s.log 0x0019 1 0 0 0 (s.cool.state + 2 ^ 8 * feeds)).eventBoth 7
    else s
  let removed := s.health.removed24 now
  let fell := decide (removed < h.removed)
  let s : Sys := { s with health := { s.health with removed := removed } }
  (NMap.keys s.health.units).foldl (fun s k => s.judgeUnit k fell) s

/-- The health-history ring in both hubs' flash, every 10 min (R495). -/
def Sys.healthRing (s : Sys) : Sys :=
  let ring := s.health.units.map (fun u => (u.1, u.2.score))
  let put (f : Flash) : Flash := { f with ring := ring, ringTime := s.now }
  let fl := [0, 1].foldl (fun m h => if (s.hub h).live then NMap.modify {} m h put else m) s.boot.flash
  { s with boot := { s.boot with flash := fl }, health := { s.health with ringTime := s.now } }

/-- The freeze ends an hour after the last span (R500). -/
def Sys.scoreFreezeEnd (s : Sys) : Sys :=
  match s.health.frozenUntil with
  | some t =>
    if s.now < t then s
    else
      let s : Sys := { s with health := { s.health with frozenUntil := none } }
      s.eventBoth 7
  | none => s

/-- The unit is a spare: a spare tile position unused and live, or a resting core (R379). -/
def Sys.isSpare (s : Sys) (kind wher sub : Nat) : Bool :=
  (kind = ukTile && s.freeSpares.contains wher) || (kind = ukCore && (s.tile wher).restValid && (s.tile wher).rest = sub)
/-- The state code of a unit (R379). -/
def Sys.unitState (s : Sys) (kind wher sub : Nat) : Nat :=
  let u := s.unit (unitKey kind wher sub)
  if u.shed.isSome then 3 else if u.draining.isSome then 2 else if u.watch.isSome then 1
  else if s.isSpare kind wher sub then 4 else 0
/-- The health record of a unit (R502). -/
def Sys.healthRecord (s : Sys) (kind wher sub : Nat) : Nat :=
  let u := s.unit (unitKey kind wher sub)
  let flags := bitNat (s.health.frozen s.now) + 2 * bitNat u.held + 4 * bitNat (u.shed.isSome && u.hard) + 8 * bitNat (u.shed.isSome && u.host)
  kind + 2 ^ 8 * s.unitState kind wher sub + 2 ^ 16 * wher + 2 ^ 32 * sub + 2 ^ 48 * flags + 2 ^ 64 * (u.score / 256 % 2 ^ 32) +
    2 ^ 96 * (u.peak / 256 % 2 ^ 32) + 2 ^ 128 * u.events + 2 ^ 160 * u.lastCode + 2 ^ 192 * (u.lastTime % 2 ^ 64) +
    2 ^ 256 * (u.watch.getD 0 % 2 ^ 64) + 2 ^ 320 * (u.shed.getD 0 % 2 ^ 64)

end Sys2Proof.Machine
end

