-- ==== Sys2Proof/Machine/NoticeOps.lean ====
section
/-! DEFINITION. Fault notices at the lead hub, the loss of a power region, and the ends of an epoch switch that recovery
hangs on (R450, R451, R469, R477–R483, R493). -/

namespace Sys2Proof.Machine

/-- The class of a notice code (R477, R479): 0 COUNTED, 1 DATA, 2 STEP, 3 UNIT, 4 PROGRAM, 7 no fault. -/
def noticeClass (c : Nat) : Nat :=
  if [0x0A, 0x12, 0x13, 0x18, 0x19, 0x1A, 0x1C, 0x1D].contains c then 0
  else if c = ncPoison then 1
  else if c = ncProgramFault then 4
  else if [0x01, 0x07, 0x09, 0x14, 0x15, 0x16, 0x17, 0x1B, 0x1E].contains c then 3
  else if [0x04, 0x05, 0x06, 0x08, 0x0B, 0x0C, 0x0D, 0x0E, 0x0F, 0x10].contains c then 2
  else 7
/-- The severity its log entry has (R542): DATA warning, STEP and PROGRAM error, UNIT fault. -/
def classSeverity (k : Nat) : Nat := if k = 1 then 1 else if k = 3 then 3 else 2

/-- The partitions of a hub EID's contexts or egress windows that a transfer tag concerns (R480). -/
def Sys.hubParts (s : Sys) (h tag : Nat) : List Nat :=
  let u := s.hub h
  (u.ctxs.filter (fun c => c.2.isOpen && !c.2.egress && c.2.unanswered.any (fun i => (c.2.f 54 2 + i) % 2 ^ 16 = tag))).map (fun c => c.2.f 2 2)

/-- The partitions that a STEP notice reaches (R480). -/
def Sys.stepParts (s : Sys) (src kind wher sub : Nat) : List Nat :=
  let a := if src < 256 then (match s.servedBy src with
      | some l => s.partsOf [l]
      | none => []) else []
  let b := if kind ≠ 0 then [] else if wher = 0x1200 || wher = 0x1201 then s.hubParts (wher - 0x1200) sub
    else match logicalOf wher with
      | some l => s.partsOf [l]
      | none => []
  (a ++ b).foldl (fun (l : List Nat) p => if l.contains p then l else l ++ [p]) []

/-- A region's domain is lost (R451, R480, R493): marked, recorded in the map, its tiles dead and regrown. Log entry 56. -/
def Sys.loseRegion (s : Sys) (d : Nat) : Sys :=
  let p := s.power
  if d ≥ 16 || (NMap.get {} p.domains d).state = 3 then s
  else
    let off (m : NMap Ibc) (n : Nat) : NMap Ibc := NMap.modify {} m n (fun c => { c with state := 3 })
    let up := match p.up with
      | some u => if u.region = d then none else some u
      | none => none
    let s : Sys := { s with power := { p with
      domains := NMap.modify {} p.domains d (fun x => { x with state := 3 }), ibc := off (off p.ibc (2 * d)) (2 * d + 1)
      up := up, upQueue := p.upQueue.filter (fun x => x ≠ d) } }
    let tiles := (List.range 256).filter (fun t => regionOfTile t = d)
    let s := tiles.foldl (fun s t => s.railsOff t) s
    (s.mapShed 0 d 0 3 0xFF).loseTiles tiles true false

/-- A DROOP notice while a region powers up (R450): the sequence pauses; the fourth powers the region down for good. Log
entry 61. -/
def Sys.droopPause (s : Sys) (t : Nat) : Sys :=
  match s.power.up with
  | none => s
  | some u =>
    if !regionsAdjacent (regionOfTile t) u.region then s
    else
      let p := s.power
      let n := (NMap.get {} p.domains u.region).pauses + 1
      let s : Sys := { s with power := { p with
        domains := NMap.modify {} p.domains u.region (fun d => { d with pauses := n })
        up := some { u with elapsed := u.run s.now, paused := some s.now } } }
      if n > 3 then (s.log 0x0012 3 0 u.region 0 0).loseRegion u.region else s

/-- The pause ends after 1 ms without a further DROOP notice (R450). Log entry 61. -/
def Sys.powerupResume (s : Sys) : Sys :=
  match s.power.up with
  | none => s
  | some u =>
    match u.paused with
    | some t =>
      if s.now < t + 1000000 then s
      else { s with power := { s.power with up := some { u with since := s.now, paused := none } } }
    | none => s

/-- A RISING notice (R471): from a quarter of the live service tiles within 200 ms it is a sudden stop. -/
def Sys.risingNotice (s : Sys) (t : Nat) : Sys :=
  let l := (s.cool.rising.filter (fun r => decide (s.now < r.2 + 200000000) && r.1 ≠ t)) ++ [(t, s.now)]
  let s : Sys := { s with cool := { s.cool with rising := l } }
  let service := (s.lead.place.map (fun p => p.2)).filter (fun t => !(s.tile t).shed && (s.tile t).pwr.pgood)
  let n := (l.filter (fun r => service.contains r.1)).length
  if 4 * n ≥ service.length && decide (0 < service.length) then s.enterHold 3 else s

/-- A TEMP_LIMIT notice (R469): the tile's jobs are held, or thaw once no tile of theirs is at its limit and no Hold is
on. -/
def Sys.tempLimit (s : Sys) (t : Nat) (on : Bool) : Sys :=
  (NMap.keys s.lead.jobs).foldl (fun (s : Sys) n =>
    let j := s.job n
    let tiles := s.jobTiles j
    if !tiles.contains t then s
    else if on then s.holdThermal n
    else if s.cool.hold.isSome || tiles.any (fun u => u ≠ t && (s.tile u).pwr.tempLimit) then s
    else s.thawThermal n) s

/-- POISON (R180, R398): the step that holds the lap is recorded for its commit. -/
def Sys.poisonNotice (s : Sys) (eid lap : Nat) : Sys :=
  match s.jobOfSlot eid with
  | none => s
  | some n =>
    let j := s.job n
    let k := lap / max 1 j.spec.stepLaps
    if k < j.oldest || j.poison.contains k then s else s.modJob n (fun j => { j with poison := j.poison ++ [k] })

/-- A refused or unanswered transfer of a tile control block (R306): sent once more, then its buddy counts as lost. -/
def Sys.controlFailed (s : Sys) (eid tag : Nat) : Sys :=
  match s.tileOfEid eid with
  | none => s
  | some t =>
    match (s.tile t).wins.ctrlSent.find? (fun c => c.tag = tag && !c.waiting) with
    | none => s
    | some c => if c.fails ≤ 1 then s.onTile t (fun x => x.controlResend tag) else s.recopy (c.dst - 0x1100)

/-- What a notice makes the lead hub do (R477–R483). -/
def Sys.actOn (s : Sys) (src code kind wher sub detail : Nat) : Sys :=
  if code = ncCoreFault then if wher < 256 then s.coreLost wher sub else s
  else if code = ncProgramFault then
    match s.jobOfSlot wher with
    | some n => s.failJob n stInvalidField wher
    | none => s
  else if code = ncPoison then s.poisonNotice wher (sub + 2 ^ 16 * bitsOf detail 15 0)
  else if (code = ncXferNack || code = ncXferTimeout) && decide (0x1100 ≤ wher) && decide (wher ≤ 0x11EF) then s.controlFailed wher sub
  else if noticeClass code = 2 then
    let s := if code = ncParityMismatch then
        s.modLead (fun l => { l with recov := { l.recov with
          damaged := l.recov.damaged ++ (s.damagedRegions wher sub).filter (fun d => !l.recov.damaged.contains d) } })
      else s
    (s.stepParts src kind wher sub).foldl (fun s p => s.recoverPart p) s
  else if code = ncLinkDown then
    if kind = ukTile then s.askSwitch
    else (((s.markShed kind wher sub true false).hardEvent (unitKey kind wher sub) code).refreshPeers).askSwitch
  else if code = ncLaserAlarm then (s.markShed ukLaser wher sub true false).hardEvent (unitKey kind wher sub) code
  else if code = ncHolesExhausted || code = ncTileShort || code = ncThermalTrip || code = ncCrackOpen || code = ncThermalLimit then
    if wher < 256 then (s.hardEvent (unitKey ukTile wher 0) code).loseTile wher else s
  else if code = ncDroop then s.droopPause wher
  else if code = ncRising then s.risingNotice wher
  else if code = ncSlotReady then s.slotReadyNotice wher sub
  else if code = ncTempLimit then s.tempLimit wher (bitOf detail 0)
  else s

/-- A fault notice at the lead hub: classed, logged, acted on (R477–R483, R542). -/
def Sys.notice (s : Sys) : Sys :=
  match s.takeMsg s.leadAddr (fun m => m.type = 0x10 && m.sub ≠ ncStepEnd) with
  | none => s
  | some (m, s) =>
    let p := m.payload
    let k := noticeClass m.sub
    let kind := bitsOf p 7 0
    let wher := bitsOf p 23 8
    let sub := bitsOf p 39 24
    let s := if k = 0 || k = 7 then s else s.log (0x0100 + m.sub) (classSeverity k) kind wher sub p
    s.actOn m.src m.sub kind wher sub (bitsOf p 62 40)

/-- A job frozen for a switch whose partition changed placement while it ran (R34): its tiles are recorded as regrown and
its partition recovers. -/
def Sys.regrownIn (s : Sys) (changes : List (Nat × Nat)) (t : Nat) : Sys :=
  let parts := s.partsOf (changes.map (fun c => c.1))
  let s := (s.markShed ukTile t 0 true false).modLead (fun x => { x with recov := { x.recov with
    regrown := x.recov.regrown.filter (fun g => !(changes.any (fun c => c.1 = g.logical))) ++
      (changes.filter (fun c => c.2 < 256)).map (fun c =>
        let old := match x.recov.regrown.find? (fun g => g.logical = c.1) with
          | some g => g.old
          | none => t
        { logical := c.1, old := old, now_ := c.2 }) } })
  let s := changes.foldl (fun (s : Sys) c => if c.2 < 256 then (s.mapShed ukTile c.2 0 0 c.1).log 0x0021 0 ukTile t 0 c.2
    else s.log 0x0021 0 ukTile t 0 0xFF) s
  let s := parts.foldl (fun s p => s.recoverPart p) s
  changes.foldl (fun (s : Sys) c =>
    if c.2 < 256 then s else (s.partsOf [c.1]).foldl (fun s p => s.failPart p stNoSpare) s) s

/-- PREPARE unanswered for 50 µs (R34), with the recovery of what the silent tile served. -/
def Sys.prepareLost (s : Sys) (n : Nat) : Sys :=
  if !s.ackLate n then s
  else
    let before := match s.lead.sw with
      | some sw => sw.changes.length
      | none => 0
    let s := s.prepareAckTimeout n
    let extra := match s.lead.sw with
      | some sw => sw.changes.drop before
      | none => []
    if n < 256 then s.regrownIn extra n else s

/-- A router that has not drained, or a replica that has not answered, 50 µs after COMMIT is failed; the switch goes on
with those that remain (R34). -/
def Sys.drainLost (s : Sys) (n : Nat) : Sys :=
  if !s.drainLate n then s
  else
    let was := s.lead.epoch
    let s := if n < 258 then s.killRouter n else s.setTad n { s.tad n with alive := false }
    let s := match s.lead.sw with
      | some sw => if sw.phase = 2 then s.acked sw n else s.tryRetire
      | none => s
    let s := if s.lead.epoch = was then s else s.refreshShadows
    if n < 256 then s.loseTile n else s

/-- A COMMIT_ACK; after the last, shadows follow the new placement and UNIT_SHED commands whose tile is replaced are
answered (R33, R379, R489). -/
def Sys.commitAcked (s : Sys) : Sys :=
  let was := s.lead.epoch
  let s := s.commitAck
  if s.lead.epoch = was then s
  else s.refreshShadows

end Sys2Proof.Machine
end

