-- ==== Sys2Proof/Machine/IngestOps.lean ====
section
/-! DEFINITION. The ingest stage: units, decoding, post-processing, items and their delivery; Ethernet steering (R321–R336,
R435–R437). -/

namespace Sys2Proof.Machine

/-! A unit being post-processed. -/

/-- A unit with the context that it belongs to: stream kind, decoder state before it, bytes, length. -/
structure Unit1 where
  kind : Nat := 1
  width : Nat := 0
  height : Nat := 0
  ctx : Nat := 0                -- the context's number, by which a raw layout is known
  state : Nat := 0
  bytes : Nat := 0
  len : Nat := 0
deriving DecidableEq, Repr

/-- The layout of a raw context (log entry 15): 0 NV12, 1 I420, 2 RGB8, 3 BGR8. -/
def rawLayout (ctx : Nat) : Nat := Config.rawFormat ctx % 4
/-- Bytes of a raw picture (R321). -/
def rawBytes (layout w h : Nat) : Nat := if layout < 2 then w * h + 2 * (ceilDiv w 2 * ceilDiv h 2) else 3 * w * h
/-- The samples are already R, G, B. -/
def Unit1.isRgb (u : Unit1) : Bool := u.kind = 1 && decide (rawLayout u.ctx ≥ 2)
/-- The source bit depth b (R328). -/
def Unit1.depth (u : Unit1) : Nat := if 3 ≤ u.kind && Config.unitIs10 u.kind u.state u.bytes u.len then 10 else 8

/-- Sample `c` of the decoded picture at a luma position: Y, Cb, Cr after chroma upsampling, or R, G, B (R328 step 2). -/
def Unit1.sample (u : Unit1) (c x y : Nat) : Nat :=
  if u.kind = 1 then
    let l := rawLayout u.ctx
    if l = 2 then byteOf u.bytes (3 * (y * u.width + x) + c)
    else if l = 3 then byteOf u.bytes (3 * (y * u.width + x) + 2 - c)
    else if c = 0 then byteOf u.bytes (y * u.width + x)
    else Config.rawChroma l u.width u.height u.bytes c x y % 256
  else Config.unitSample u.kind u.state u.bytes u.len c x y % 2 ^ u.depth

/-! Resizing (R328 step 3). -/

/-- A quotient that the spec's precision leaves open unless it is exact: the floor, or one more (log entry 15). -/
def openQuot (a : Int) (b : Nat) (bit : Int) : Int := if a % (b : Int) = 0 then a / (b : Int) else a / (b : Int) + bit % 2

/-- The source position of output sample `j` in 1/64 pixel: (j + 0.5) × CROP / OUT − 0.5. -/
def sourcePos (j crop out : Nat) : Int :=
  openQuot (64 * (2 * (j : Int) + 1) * crop) (2 * out) (Config.resizePos j crop out) - 32

/-- A bicubic coefficient in 1/16,384 with a = −0.5, at distance n/64 inside (`near`) or beyond one pixel. -/
def bicubicAt (near : Bool) (n : Int) : Int :=
  let v := if near then 3 * n * n * n - 320 * n * n + 524288 else -(n * n * n) + 320 * n * n - 32768 * n + 1048576
  openQuot v 32 (Config.bicubicTap n.toNat (bitNat near))

/-- The taps of output sample `j`: source index and coefficient in 1/16,384. Kernels: 0 BILINEAR, 1 BICUBIC, 2 AREA. -/
def resizeTaps (kernel crop out j : Nat) : List (Int × Int) :=
  let p := sourcePos j crop out
  let i := p / 64
  let f := p % 64
  if kernel = 0 then [(i, (64 - f) * 256), (i + 1, f * 256)]
  else if kernel = 1 then
    [(i - 1, bicubicAt false (64 + f)), (i, bicubicAt true f), (i + 1, bicubicAt true (64 - f)), (i + 2, bicubicAt false (128 - f))]
  else
    let a := j * crop / out
    let b := ceilDiv ((j + 1) * crop) out
    (List.range (b - a)).map (fun n =>
      let k := a + n
      let ov := min ((j + 1) * crop) ((k + 1) * out) - max (j * crop) (k * out)
      ((k : Int), openQuot (16384 * ov) crop (Config.areaTap crop out j k)))

/-- A source index within the crop; beyond an edge the sample taken is open (log entry 15). -/
def edgeIndex (crop : Nat) (i : Int) : Nat :=
  if 0 ≤ i && i < (crop : Int) then i.toNat else Config.edgeSample crop i % max 1 crop

/-- One pass of a separable filter with its rounding and clamp. -/
def filterPass (b : Nat) (taps : List (Int × Int)) (sample : Int → Nat) : Nat :=
  let s := (taps.map (fun t => t.2 * (sample t.1 : Int))).foldl (· + ·) 8192
  (min (max (s / 16384) 0) (2 ^ b - 1)).toNat

/-! Ingest profiles (R327). -/

def profFmt (p : Nat) : Nat := profF p 0 1 % 16
def profPlanar (p : Nat) : Bool := bitOf (profF p 0 1) 4
def profChannels (p : Nat) : Nat := profF p 0 1 / 32 % 4
/-- Channels of an output pixel. -/
def profC (p : Nat) : Nat := if profChannels p = 0 then 1 else 3
def profE (p : Nat) : Int := signedOf 8 (profF p 1 1)
def profKernel (p : Nat) : Nat := profF p 2 1
def profMatrix (p : Nat) : Nat := profF p 3 1 % 4
def profRange (p : Nat) : Nat := profF p 3 1 / 4 % 4
def profCropX (p : Nat) : Nat := profF p 4 2
def profCropY (p : Nat) : Nat := profF p 6 2
def profCropW (p : Nat) : Nat := profF p 8 2
def profCropH (p : Nat) : Nat := profF p 10 2
def profOutW (p : Nat) : Nat := profF p 12 2
def profOutH (p : Nat) : Nat := profF p 14 2
def profBand (p : Nat) : Nat := profF p 16 2
def profMean (p c : Nat) : Nat := profF p (20 + 4 * c) 4
def profRstd (p c : Nat) : Nat := profF p (32 + 4 * c) 4
/-- Items of a picture, and rows of an item (R330). -/
def profItems (p : Nat) : Nat := ceilDiv (profOutH p) (max 1 (profBand p))
def profLineRows (p : Nat) : Nat :=
  let per := fmtPerRow (profFmt p)
  if profPlanar p then profC p * ceilDiv (profOutW p) per else ceilDiv (profOutW p * profC p) per
def profDataRows (p : Nat) : Nat := profBand p * profLineRows p
def profItemRows (p : Nat) : Nat :=
  profDataRows p + (if fmtIsMx (profFmt p) then ceilDiv (profDataRows p * (fmtPerRow (profFmt p) / 32)) 512 else 0)

/-- The resized sample of plane `c` at output position (x, y) (R328 steps 1–3): horizontally first. -/
def Unit1.resized (u : Unit1) (p c x y : Nat) : Nat :=
  let line (sy : Int) : Nat :=
    filterPass u.depth (resizeTaps (profKernel p) (profCropW p) (profOutW p) x) (fun sx =>
      u.sample c (profCropX p + edgeIndex (profCropW p) sx) (profCropY p + edgeIndex (profCropH p) sy))
  filterPass u.depth (resizeTaps (profKernel p) (profCropH p) (profOutH p) y) line

/-- The colour description in force: matrix 1 BT.601, 2 BT.709, 3 BT.2020, and full range (R321, R327). -/
def Unit1.colour (u : Unit1) (p : Nat) : Nat × Bool :=
  let own := if u.kind = 2 then 4 else Config.unitColour u.kind u.state u.bytes u.len
  (if profMatrix p = 0 then own % 4 % 3 + 1 else profMatrix p, if profRange p = 0 then bitOf own 2 else profRange p = 2)

/-- Output channel `c` at (x, y) before normalisation (R328 steps 4 and 5). -/
def Unit1.channel (u : Unit1) (p c x y : Nat) : Nat :=
  if profChannels p = 0 then u.resized p 0 x y
  else
    let c := if profChannels p = 2 then 2 - c else c
    if u.isRgb then u.resized p c x y
    else
      let (m, full) := u.colour p
      let b := u.depth
      let s := ([0, 1, 2].map (fun k => Config.colourTap m (bitNat full) b c k * (u.resized p k x y : Int))).foldl (· + ·)
        (Config.colourOffset m (bitNat full) b c + 8192)
      (min (max (s / 16384) 0) (2 ^ b - 1)).toNat

/-- v = (x − MEAN) × RSTD in two FP32 operations (R329). -/
def normalised (p c x : Nat) : Val :=
  let d := binaryVal fmtFP32 1 (Val.ofInt x 0) (fromFloat fmtFP32 (profMean p c))
  binaryVal fmtFP32 2 d (fromFloat fmtFP32 (profRstd p c))

/-- An exact zero. -/
def zeroVal : Val := .fin false 0 0

/-- A run of elements padded with zeros to whole rows. -/
def padRow (per : Nat) (l : List Val) : List Val := l ++ List.replicate (ceilDiv l.length per * per - l.length) zeroVal

/-- The elements of one output line in the profile's layout, each line on rows of its own (R330). -/
def lineElems (p : Nat) (value : Nat → Nat → Val) : List Val :=
  let per := fmtPerRow (profFmt p)
  let row (c : Nat) : List Val := (List.range (profOutW p)).map (fun x => value c x)
  if profPlanar p then (List.range (profC p)).flatMap (fun c => padRow per (row c))
  else padRow per ((List.range (profOutW p)).flatMap (fun x => (List.range (profC p)).map (fun c => value c x)))

/-- Rows as one number, the first row lowest. -/
def rowsNumber (l : List Nat) : Nat := l.foldr (fun r v => r % 2 ^ 4096 + 2 ^ 4096 * v) 0
/-- Row `i` of such a number. -/
def rowOf (v i : Nat) : Nat := bitsOf v (4096 * i + 4095) (4096 * i)

/-- One item: band `b` of a picture whose normalised channel values are given (R329, R330). -/
def itemOf (p b : Nat) (value : Nat → Nat → Nat → Val) : Nat :=
  let lines := (List.range (profBand p)).flatMap (fun i =>
    let y := b * profBand p + i
    lineElems p (fun c x => if y < profOutH p then value c x y else zeroVal))
  let (rows, scales, _) := narrowOut (profFmt p) (profE p) 0 (lines.map (fun v => (v, false)))
  rowsNumber ((rows ++ scales).map (fun r => r.1))

/-- The items of a decoded picture, and those of a picture of zero samples (R330, R332). -/
def Unit1.items (u : Unit1) (p : Nat) : List Nat :=
  (List.range (profItems p)).map (fun b => itemOf p b (fun c x y => normalised p c (u.channel p c x y)))
def zeroItems (p : Nat) : List Nat :=
  (List.range (profItems p)).map (fun b => itemOf p b (fun c _ _ => normalised p c 0))

/-! Units and pictures. -/

/-- An input ring entry (R326): address, length, END_UNIT, DISCONT. -/
def ringEntry (v : Nat) : Nat × Nat × Bool × Bool := (bitsOf v 63 0, bitsOf v 95 64, bitOf v 96, bitOf v 97)

/-- A context's POLICY, slot rows, slots. -/
def Context.policy (c : Context) : Nat := c.f 52 1 % 4
def Context.slotRows (c : Context) : Nat := c.f 12 2
def Context.slotCount (c : Context) : Nat := c.f 14 1 % 128
def Context.ethernet (c : Context) : Bool := c.target = 1
def Context.inDepth (c : Context) : Nat := 2 ^ (c.f 24 1 % 32)

/-- A complete unit leaves a decoded picture, an error picture or nothing (R328, R332, R334). `lost` says that its bytes
are not whole; `t` is when its last byte arrived. The result holds the context, with one more decode error or not. Log
entry 65. -/
def Context.decode (c : Context) (n prof bytes len : Nat) (lost discont : Bool) (t : Nat) : Bool × Context :=
  let c := if discont then { c with decoder := 0, needKey := true, broken := false } else c
  let k := c.kind
  let u : Unit1 := { kind := k, width := c.f 28 2, height := c.f 30 2, ctx := n, state := c.decoder, bytes := bytes, len := len }
  let key := k ≤ 2 || Config.unitIsKey k c.decoder bytes len
  if c.needKey && !key then (false, c)
  else
    let whole := !lost && (if k = 1 then decide (len = rawBytes (rawLayout n) (c.f 28 2) (c.f 30 2)) else
      Config.unitDecodes k c.decoder bytes len && (k = 2 || decide (Config.unitDepth k c.decoder bytes len ≤ c.f 25 1)))
    let ok := whole && (key || !(c.broken && Config.unitRefers k c.decoder bytes len))
    let c := { c with
      needKey := false, broken := if key then !ok else c.broken || !ok
      decoder := if k = 1 then 0 else Config.unitState k c.decoder bytes len, pictures := c.pictures + 1 }
    if c.pictures % max 1 (c.f 15 1) ≠ 0 then (!ok, c)
    else
      let reorder := if k = 3 then Config.unitReorder k u.state bytes len else 0
      let due := t + (2 + reorder) * 100000000000 / max 1 (c.f 26 2) + 50000
      let pic : Option Picture :=
        if ok then some { items := u.items prof, due := due }
        else if c.policy = 0 then some { again := true, due := due }
        else if c.policy = 1 then some { items := zeroItems prof, poison := true, due := due }
        else none
      match pic with
      | none => (!ok, c)
      | some x => (!ok, { c with waiting := c.waiting ++ [x] })

/-- The panel time at which the host fed the entry below `head`. -/
def Context.fedAt (c : Context) (head : Nat) : Nat :=
  match c.fed.find? (fun f => decide (countDiff f.1 head < 2 ^ 31)) with
  | some f => f.2
  | none => 0

/-- Entries of a host ring gathered up to the end of a unit (R326): true when a unit is whole. -/
def Sys.gather (s : Sys) (h : Nat) (c : Context) (fuel : Nat) : Bool × Context :=
  match fuel with
  | 0 => (false, c)
  | fuel + 1 =>
    if c.head = c.tail then (false, c)
    else
      match s.hostRead (c.f 16 8 + 16 * (c.head % c.inDepth)) 16 with
      | none => (true, { c with head := (c.head + 1) % 2 ^ 32, unitBad := true })
      | some e =>
        let (addr, len, last, disc) := ringEntry e
        let (v, bad) := match (if len = 0 then some 0 else s.hostRead addr len) with
          | some v => (v, false)
          | none => (0, true)
        let c := { c with
          head := (c.head + 1) % 2 ^ 32, unit_ := c.unit_ + 2 ^ (8 * c.unitLen) * v, unitLen := c.unitLen + len
          unitBad := c.unitBad || bad, fresh := c.fresh || disc }
        if last then (true, c) else Sys.gather s h c fuel

/-- The ingest stage decodes the next unit of a context (R328, R332, R334). -/
def Sys.ingestDecode (s : Sys) (h n : Nat) : Sys :=
  let u := s.hub h
  let c := u.ctx n
  let prof := NMap.get 0 s.lead.profiles (c.f 1 1)
  if !c.isOpen || c.egress || !u.live then s
  else
    let count (err : Bool) (s : Sys) : Sys := if err then s.modHub h (fun u => u.bump 0x3000C 15 0 1) else s
    if c.ethernet then
      match c.ready with
      | [] => s
      | (v, len, disc, t) :: rest =>
        let (err, c) := { c with ready := rest }.decode n prof v len false disc t
        let drop := decide (c.waiting.length > 2)
        let c := if drop then
            (if c.nextItem = 0 then { c with waiting := c.waiting.drop 1 } else { c with waiting := listDrop c.waiting 1 }) else c
        let s := count err (s.setHub h (u.setCtx n c))
        if drop then s.modHub h (fun u => u.bump 0x3000C 31 16 1) else s
    else if c.waiting.length ≥ 2 || !u.dma then s
    else
      let (whole, c) := s.gather h c (2 ^ 16)
      if !whole then s.setHub h (u.setCtx n c)
      else
        let (err, c') := { c with unit_ := 0, unitLen := 0, unitBad := false, fresh := false }.decode n prof c.unit_ c.unitLen
          c.unitBad c.fresh (c.fedAt c.head)
        let c' := { c' with fed := c'.fed.filter (fun f => decide (countDiff f.1 c'.head < 2 ^ 31) && f.1 ≠ c'.head) }
        count err (s.setHub h (u.setCtx n c'))

/-! Delivery (R331, R333). -/

/-- Item `i` of a context goes out as one transfer (R331). -/
def Sys.sendItem (s : Sys) (h n i rows : Nat) (poison : Bool) : Sys :=
  let c := (s.hub h).ctx n
  let k := c.slotRows
  let first := bitsOf (c.f 8 4) 17 0 + i % max 1 c.slotCount * k
  let s := s.modHub h (fun u => u.setCtx n { c with unanswered := c.unanswered ++ [i] })
  (List.range k).foldl (fun (s : Sys) r =>
    s.toLocal (256 + h)
      { dst := c.f 4 2, src := 0x1200 + h, type := 1, vc := 2, long := true, baton := decide (r + 1 = k), poison := poison
        tag := (c.f 54 2 + i) % 65536, window := c.f 6 1, gen := c.f 7 1, offset := 512 * (first + r), total := 512 * k
        payload := rowOf rows r }) s

/-- Where item `i` lies in the replay buffer (R333). -/
def Context.replayAddr (c : Context) (i : Nat) : Nat := c.f 40 8 + 512 * c.slotRows * (i % max 1 (c.f 48 4))

/-- The hub delivers the next item of a context: first the items to be sent again, then new ones (R331–R333). Log entry
65. -/
def Sys.itemDelivery (s : Sys) (h n : Nat) : Sys :=
  let u := s.hub h
  let c := u.ctx n
  let prof := NMap.get 0 s.lead.profiles (c.f 1 1)
  if !c.isOpen || c.egress || !u.dma || c.unanswered.length ≥ c.slotCount then s
  else
    match c.replayFrom with
    | some i =>
      let s := s.setHub h (u.setCtx n { c with replayFrom := if i + 1 < c.items then some (i + 1) else none })
      match s.hostRead (c.replayAddr i) (512 * c.slotRows) with
      | some v => s.sendItem h n i v (c.poisoned.contains i)
      | none => s.sendItem h n i 0 true
    | none =>
      match c.waiting with
      | [] => s
      | pic :: rest =>
        if c.items ≥ c.committed + c.f 48 4 then s
        else
          let items := if pic.again then (if c.good.isEmpty then zeroItems prof else c.good) else pic.items
          let v := items.getD c.nextItem 0
          let i := c.items
          let last := decide (c.nextItem + 1 ≥ items.length)
          let late := last && decide (s.now > pic.due)
          let c := { c with
            items := i + 1, poisoned := (c.poisoned.filter (fun j => decide (c.committed ≤ j))) ++ (if pic.poison then [i] else [])
            nextItem := if last then 0 else c.nextItem + 1, waiting := if last then rest else c.waiting
            good := if last && !pic.again && !pic.poison then items else c.good }
          let u := u.setCtx n c
          let s := s.setHub h (if late then u.bump 0x30010 31 0 1 else u)
          (s.hostWrite (c.replayAddr i) (512 * c.slotRows) v).sendItem h n i v pic.poison

/-! Ethernet frames (R435, R436). -/

/-- `n` bytes of a frame from offset `o`, the first byte most significant, as networks order them. Log entry 66. -/
def netF (f o n : Nat) : Nat := (List.range n).foldl (fun a i => 256 * a + byteOf f (o + i)) 0

/-- What steering needs of a frame (R435): VLAN ID where tagged, whether it is IPv4, destination address, UDP port, and
where the UDP payload lies. -/
structure FrameInfo where
  vid : Option Nat := none
  ipv4 : Bool := true
  dst : Nat := 0
  port : Nat := 0
  at_ : Nat := 0
  len : Nat := 0
deriving DecidableEq, Repr

/-- A frame parsed: none where R435 drops it. -/
def parseFrame (f len : Nat) : Option FrameInfo :=
  let t0 := netF f 12 2
  let tagged := decide (t0 = 0x8100)
  let o := if tagged then 18 else 14
  let et := if tagged then netF f 16 2 else t0
  let vid := if tagged then some (netF f 14 2 % 4096) else none
  if et = 0x0800 then
    let ihl := 4 * (byteOf f o % 16)
    let frag := netF f (o + 6) 2 % 16384
    let u := o + ihl
    if byteOf f o / 16 = 4 && decide (ihl ≥ 20) && decide (frag = 0) && byteOf f (o + 9) = 17 && decide (u + 8 ≤ len) &&
        decide (8 ≤ netF f (u + 4) 2) && decide (u + netF f (u + 4) 2 ≤ len) then
      some { vid := vid, dst := netF f (o + 16) 4, port := netF f (u + 2) 2, at_ := u + 8, len := netF f (u + 4) 2 - 8 }
    else none
  else if et = 0x86DD then
    let u := o + 40
    if byteOf f o / 16 = 6 && byteOf f (o + 6) = 17 && decide (u + 8 ≤ len) && decide (8 ≤ netF f (u + 4) 2) &&
        decide (u + netF f (u + 4) 2 ≤ len) then
      some { vid := vid, ipv4 := false, port := netF f (u + 2) 2, at_ := u + 8, len := netF f (u + 4) 2 - 8 }
    else none
  else none

/-- Steering rule `n` of hub `h` takes the frame (R435). Log entry 66. -/
def Sys.ruleTakes (s : Sys) (h n e p sub : Nat) (i : FrameInfo) : Bool :=
  let u := s.hub h
  let w := u.reg (0x78000 + 16 * n)
  let ip := u.reg (0x7800C + 16 * n)
  let brk := ((s.engine e).port p).breakout
  let vlan := !bitOf w 8 || decide (i.vid = some (bitsOf w 20 9))
  bitOf w 21 && bitsOf w 2 0 = e && bitsOf w 5 3 = p && bitsOf w 7 6 = (if brk then sub else 0) && vlan &&
    decide (bitsOf (u.reg (0x78004 + 16 * n)) 15 0 = i.port) && (ip = 0 || (i.ipv4 && decide (ip = i.dst)))

/-- The first rule that takes the frame: hub and number. -/
def Sys.steer (s : Sys) (e p sub : Nat) (i : FrameInfo) : Option (Nat × Nat) :=
  [0, 1].findSome? (fun h =>
    (((s.hub h).regs.filter (fun r => decide (0x78000 ≤ r.1) && decide (r.1 < 0x7C000) && r.1 % 16 = 0)).map
      (fun r => (r.1 - 0x78000) / 16)).findSome? (fun n => if s.ruleTakes h n e p sub i then some (h, n) else none))

/-- The RTP packet of a frame: sequence number, marker, and where its payload lies; none where it is not RTP version 2
(R436). Log entry 66. -/
def parseRtp (f : Nat) (i : FrameInfo) : Option (Nat × Bool × Nat × Nat) :=
  let o := i.at_
  let cc := byteOf f o % 16
  let ext := bitOf (byteOf f o) 4
  let h := 12 + 4 * cc
  let h' := if ext then h + 4 + 4 * netF f (o + h + 2) 2 else h
  let pad := if bitOf (byteOf f o) 5 then byteOf f (o + i.len - 1) else 0
  if i.len < 12 || byteOf f o / 64 ≠ 2 || h' + pad > i.len then none
  else some (netF f (o + 2) 2, bitOf (byteOf f (o + 1)) 7, o + h', i.len - h' - pad)

/-- The address of Ethernet port `p` of engine `e`, or of its subport `sub` (R423). Log entry 66. -/
def Sys.portMac (s : Sys) (e p sub : Nat) : Nat :=
  s.boot.macBase + (if ((s.engine e).port p).breakout then 64 + 32 * e + 4 * p + sub else 8 * e + p)

/-- A frame arrives at an Ethernet port; byte 0 lowest (R435, R436). -/
def Sys.ethernetFrame (s : Sys) (e p sub f len : Nat) : Sys :=
  let q := (s.engine e).port p
  let dropped := s.modEngine e (fun x => x.bump (0x10 * p + 0xC) 31 16 1)
  if q.role ≠ 2 || q.link ≠ 2 || (q.breakout && !bitOf q.lanes sub) then s
  else if !(bitOf (byteOf f 0) 0 || decide (netF f 0 6 = s.portMac e p sub)) then s
  else if len > 9216 then dropped
  else
    match parseFrame f len with
    | none => dropped
    | some i =>
      match s.steer e p sub i with
      | none => dropped
      | some (h, n) =>
        let cn := bitsOf ((s.hub h).reg (0x78008 + 16 * n)) 16 0
        let c := (s.hub h).ctx cn
        if !c.isOpen || c.egress || !c.ethernet then dropped
        else
          match parseRtp f i with
          | none => dropped
          | some (seq, marker, at_, n') =>
            let key := 1024 * h + n
            let gap := match NMap.find q.rtp key with
              | some want => decide (want ≠ seq)
              | none => false
            let s := s.modPort e p (fun q => { q with rtp := NMap.put q.rtp key ((seq + 1) % 65536) })
            let c := if gap then { c with unit_ := 0, unitLen := 0, fresh := true } else c
            let bytes := bitsOf f (8 * (at_ + n') - 1) (8 * at_)
            let c := { c with unit_ := c.unit_ + 2 ^ (8 * c.unitLen) * (if n' = 0 then 0 else bytes), unitLen := c.unitLen + n' }
            let c := if marker then { c with
                ready := c.ready ++ [(c.unit_, c.unitLen, c.fresh, s.now)], unit_ := 0, unitLen := 0, fresh := false } else c
            s.modHub h (fun u => u.setCtx cn c)

end Sys2Proof.Machine
end

