-- ==== Sys2Proof/Machine/EgressOps.lean ====
section
/-! DEFINITION. Packets at a hub's endpoint and the egress stage (R308, R311, R331, R337–R341). -/

namespace Sys2Proof.Machine

/-! Egress windows: the checks, records and replies of R300–R308 with the hub as tile store. -/

/-- The status of a packet at an egress window (R302). -/
def Sys.egressStatus (s : Sys) (h : Nat) (p : Packet) : Nat :=
  let u := s.hub h
  let x : TX := { tile := { wins := { table := u.egress } }, partTiles := fun n => (NMap.get {} s.lead.partitions n).tiles }
  let w := NMap.get {} u.egress p.window
  if w.srcKind = 2 && p.src = 0x1200 + h then
    let own : Window := { w with srcKind := 1, lo0 := p.src, hi0 := p.src }
    ({ x with tile := { x.tile with wins := { table := NMap.put u.egress p.window own } } } : TX).windowStatus p
  else x.windowStatus p

/-- A reply of a hub goes out at its local port. -/
def Sys.hubSend (s : Sys) (h : Nat) (p : Packet) : Sys := s.toLocal (256 + h) p

/-- A pool row, and a packet's row written to it. -/
def Hub.poolRow (u : Hub) (r : Nat) : Nat := Mem.readWide u.pool (512 * r) 512
def Hub.putPool (u : Hub) (r v : Nat) (poison : Bool) : Hub :=
  { u with
    pool := Mem.write u.pool (512 * r) 512 v
    poolPoison := if poison then r :: u.poolPoison.filter (fun x => x ≠ r) else u.poolPoison.filter (fun x => x ≠ r) }

/-- The item of an egress context nearest to its count that transfer tag `tag` names (R337). Log entry 82. -/
def Context.itemOf (c : Context) (tag : Nat) : Nat := nearest ((tag + 65536 - c.f 38 2) % 65536) 65536 c.items

/-- The egress context that an ended transfer feeds (R337). -/
def Hub.egressCtx (u : Hub) (p : Packet) (total : Nat) : Option Nat :=
  (u.ctxs.find? (fun c => c.2.isOpen && c.2.egress && decide (c.2.f 1 1 = p.window) && decide (total = 512 * c.2.f 4 2))).map
    (fun c => c.1)

/-- A transfer of an egress window ends: its counters, and its reply, withheld while a context holds the item
(R305, R308, R337). -/
def Sys.egressEnd (s : Sys) (h : Nat) (p : Packet) (bytes total status offset answers : Nat) : Sys :=
  let u := s.hub h
  let w := NMap.get {} u.egress p.window
  let u := { u with egress := NMap.put u.egress p.window { w with
    done := if status = 0 then satAdd 16 w.done 1 else w.done
    failed := if status = 0 then w.failed else satAdd 16 w.failed 1, lastTag := p.tag, lastStatus := status } }
  let s := s.setHub h u
  let reply := replyPacket (0x1200 + h) p bytes status offset answers
  match (if status = 0 then u.egressCtx p total else none) with
  | some n =>
    let c := u.ctx n
    s.setHub h (u.setCtx n { c with held := c.held ++ [{ item := c.itemOf p.tag, reply := reply, time := s.now }] })
  | none => s.hubSend h reply

/-- A long WRITE at an egress window (R270, R302, R303, R307). -/
def Sys.egressWrite (s : Sys) (h : Nat) (p : Packet) : Sys :=
  let u := s.hub h
  let status := s.egressStatus h p
  let found := u.exfers.find? (fun f => f.counts p false)
  let nack (st : Nat) : Sys := s.hubSend h (replyPacket (0x1200 + h) p 512 st p.offset p.type)
  if found.isNone && u.exfers.length ≥ 256 then nack (if status = 0 then stBusy else status)
  else
    let f : Xfer := found.getD
      { src := p.src, window := p.window, gen := p.gen, tag := p.tag, total := p.total, firstOff := p.offset, firstType := p.type }
    let others := u.exfers.filter (fun g => !g.counts p false)
    if p.total ≠ f.total || f.acc + f.ref + 512 > f.total || (p.baton && f.baton) then
      (s.setHub h { u with exfers := others }).egressEnd h p (f.acc + f.ref) f.total stInvalidField p.offset p.type
    else
      let w := NMap.get {} u.egress p.window
      let u := if status = 0 then u.putPool (w.first + p.offset / 512) p.payload p.poison else u
      let f : Xfer := { f with
        acc := if status = 0 then f.acc + 512 else f.acc, ref := if status = 0 then f.ref else f.ref + 512
        firstStatus := if status ≠ 0 && f.ref = 0 then status else f.firstStatus
        baton := f.baton || p.baton, batonOff := if p.baton then p.offset else f.batonOff
        batonType := if p.baton then p.type else f.batonType }
      if f.baton && f.acc + f.ref = f.total then
        (s.setHub h { u with exfers := others }).egressEnd h p (if f.ref = 0 then f.total else f.ref) f.total
          (if f.ref = 0 then stSuccess else f.firstStatus) f.batonOff f.batonType
      else s.setHub h { u with exfers := others ++ [f] }

/-- A short WRITE at an egress window: a transfer of its own (R224, R303, R307). The pool keeps poison by row: a poisoned
word poisons its row. Log entry 67. -/
def Sys.egressShort (s : Sys) (h : Nat) (p : Packet) : Sys :=
  let u := s.hub h
  let status := s.egressStatus h p
  let full := decide (u.exfers.length ≥ 256)
  let b := 8 * popCount p.misc 4
  let w := NMap.get {} u.egress p.window
  let r := w.first + p.offset / 512
  let put (u : Hub) : Hub := (setBits p.misc 4).foldl (fun (u : Hub) i =>
    { u with pool := Mem.write u.pool (512 * r + p.offset % 512 + 8 * i) 8 (bitsOf p.payload (64 * i + 63) (64 * i)) }) u
  let mark (u : Hub) : Hub :=
    if p.poison && p.misc % 16 ≠ 0 then { u with poolPoison := r :: u.poolPoison.filter (fun x => x ≠ r) } else u
  if full then s.hubSend h (replyPacket (0x1200 + h) p b (if status = 0 then stBusy else status) p.offset 1)
  else (s.setHub h (if status = 0 then mark (put u) else u)).egressEnd h p b 0 status p.offset 1

/-- A READ_REQ at an egress window (R304). -/
def Sys.egressRead (s : Sys) (h : Nat) (p : Packet) : Sys :=
  let u := s.hub h
  let status := s.egressStatus h p
  if status ≠ 0 then s.hubSend h (replyPacket (0x1200 + h) p 512 status p.offset 2)
  else
    let r := (NMap.get {} u.egress p.window).first + p.offset / 512
    s.hubSend h
      { dst := p.src, src := 0x1200 + h, type := 3, vc := 0, long := true, poison := u.poolPoison.contains r, tag := p.tag
        window := p.window, gen := p.gen, offset := p.offset, total := 512, payload := u.poolRow r, misc := p.misc }

/-- Steps 1–3 and 4 of an egress window's close (R313). -/
def Sys.egressClose (s : Sys) (h n : Nat) : Sys :=
  let u := s.hub h
  let w := NMap.get {} u.egress n
  let mine := u.exfers.filter (fun f => f.window = n)
  let s := s.setHub h { u with
    exfers := u.exfers.filter (fun f => f.window ≠ n), egress := NMap.put u.egress n { w with closing := true } }
  let s := mine.foldl (fun (s : Sys) f =>
    s.egressEnd h { src := f.src, window := n, gen := f.gen, tag := f.tag, type := f.firstType } (f.total - f.acc) f.total
      stWindowClosed (if f.baton then f.batonOff else f.firstOff) (if f.baton then f.batonType else f.firstType)) s
  s.modHub h (fun u =>
    let w := NMap.get {} u.egress n
    { u with egress := NMap.put u.egress n { w with isOpen := false, closing := false } })

/-- The answer to an ingest item or to an egress item sent to a Silua peer (R331, R337, R341): an ingest NACK is told to
the lead hub as R311 states. -/
def Sys.hubAnswer (s : Sys) (h : Nat) (p : Packet) : Sys :=
  let u := s.hub h
  let ingest (c : Nat × Context) : Option (Nat × Nat) :=
    if c.2.isOpen && !c.2.egress && decide (c.2.f 4 2 = p.src) && decide (c.2.f 6 1 = p.window) then
      (c.2.unanswered.find? (fun i => decide ((c.2.f 54 2 + i) % 65536 = p.tag))).map (fun i => (c.1, i))
    else none
  match u.ctxs.findSome? ingest with
  | some (n, i) =>
    let c := u.ctx n
    let s := s.setHub h (u.setCtx n { c with unanswered := c.unanswered.filter (fun j => j ≠ i) })
    if p.type = 6 then s
    else
      let m : TMsg := { dst := 256 + s.lead.hub, src := 256 + h, type := 0x10, urgent := true, sub := ncXferNack
                        payload := noticeWord 0 (0x1200 + h) p.tag (p.status + 256 * p.window) }
      let r := s.tad (256 + s.lead.hub)
      s.setTad (256 + s.lead.hub) { r with inbox := r.inbox ++ [m] }
  | none =>
    let out (c : Nat × Context) : Option (Nat × EgItem) :=
      if c.2.egress && c.2.target = 1 && decide (c.2.f 24 2 = p.src) && decide (c.2.f 26 1 = p.window) then
        (c.2.toPeer.find? (fun i => decide ((c.2.f 38 2 + i.item) % 65536 = p.tag))).map (fun i => (c.1, i))
      else none
    match u.ctxs.findSome? out with
    | none => s
    | some (n, i) =>
      let c := u.ctx n
      (s.setHub h (u.setCtx n { c with toPeer := c.toPeer.filter (fun j => j ≠ i) })).hubSend h i.reply

/-! Packing (R339). -/

/-- A kept element: its code, its exact value, and whether it is an invalid code, a NaN or an INVALID lane. -/
structure Kept where
  code : Nat := 0
  val : Val := .fin false 0 0
  bad : Bool := false
deriving DecidableEq, Repr

/-- Element `i` of a row in an egress input format (R76, R84, R86). Log entry 67. -/
def keptOf (f : Nat) (e g : Int) (row i : Nat) : Kept :=
  let w := fmtPackBits f
  let c := bitsOf row (w * i + w - 1) (w * i)
  if f = fmtLongsum then
    let l := Lane.decode c
    { code := c, val := if l.invalid then .nan else Val.ofInt l.value g, bad := l.invalid }
  else if f = fmtAcc64 then
    let inv := bitOf c 80
    { code := c, val := if inv then .nan else Val.ofInt (signedOf 64 c) (signedOf 10 (bitsOf c 73 64)), bad := inv }
  else
    let v := (elemVal f (some e) c).1
    { code := c, val := v, bad := decide (v = .nan) }

/-- The kept elements of an item's rows, in order (R339). -/
def Context.kept (c : Context) (rows : List Nat) : List Kept :=
  let f := c.f 7 1
  rows.flatMap (fun r => (List.range (c.f 16 4)).map (fun i => keptOf f (signedOf 8 (c.f 9 1)) (signedOf 10 (c.f 20 2)) r i))

/-- Codes of `w` bits each concatenated from the lowest bit on. -/
def concatBits (w : Nat) (l : List Nat) : Nat := l.foldr (fun c v => c % 2 ^ w + 2 ^ w * v) 0

/-- `a` ranks above `b` (R339): numbers above what is not one, then the greater value, then the lower index. -/
def ranksAbove (a b : Nat × Kept) : Bool :=
  if a.2.bad then b.2.bad && decide (a.1 < b.1)
  else if b.2.bad then true
  else
    let zero (v : Val) : Val := if v.isZero then .fin false 0 0 else v
    let x := zero a.2.val
    let y := zero b.2.val
    if Val.below y x then true else if Val.below x y then false else decide (a.1 < b.1)

/-- The first `k` of a segment by rank. -/
def topK (k : Nat) (l : List (Nat × Kept)) : List (Nat × Kept) :=
  match k with
  | 0 => []
  | k + 1 =>
    match l.find? (fun a => l.all (fun b => a.1 = b.1 || ranksAbove a b)) with
    | none => []
    | some a => a :: topK k (l.filter (fun b => b.1 ≠ a.1))

/-- Segments of `n` elements. -/
def keptSegments (n fuel : Nat) (l : List Kept) : List (List Kept) :=
  match fuel with
  | 0 => []
  | fuel + 1 => if l.isEmpty then [] else l.take n :: keptSegments n fuel (l.drop n)

/-- The payload of an item: bytes, byte count, and whether anything in it is invalid (R339, R340). Log entry 67. -/
def Context.payload (c : Context) (rows : List Nat) : Nat × Nat × Bool :=
  let l := c.kept rows
  let f := c.f 7 1
  let o := c.f 8 1
  let bad := l.any (fun k => k.bad)
  if bitOf (c.f 22 2) 0 then
    let es := (keptSegments (c.f 12 4) l.length l).flatMap (fun sg =>
      (topK (c.f 10 2) ((List.range sg.length).zip sg)).map (fun a => a.1 + 2 ^ 32 * (toFloat fmtFP32 a.2.val).1))
    (concatBits 64 es, 8 * es.length, bad)
  else
    let w := fmtPackBits o
    let one (k : Kept) : Nat := if o = f then k.code
      else if fmtIsInt o then (toInt o (signedOf 8 (c.f 9 1)) k.val).1 else (toFloat o k.val).1
    (concatBits w (l.map one), ceilDiv (w * l.length) 8, bad)

/-- The pool rows of item `j` (R337). -/
def Hub.itemRows (u : Hub) (c : Context) (j : Nat) : List Nat :=
  let w := NMap.get {} u.egress (c.f 1 1)
  (List.range (c.f 4 2)).map (fun r => w.first + j % max 1 (c.f 6 1) * c.f 4 2 + r)

/-- Slots of the host ring. -/
def Context.outDepth (c : Context) : Nat := 2 ^ (c.f 36 1 % 32)
/-- The first host-ring slot not yet freed, as a full count (R361). -/
def Context.freedAll (c : Context) : Nat := c.items - countDiff c.items c.freed
/-- Item `j` may be written to the host ring (R361). -/
def Context.mayWrite (c : Context) (j : Nat) : Bool := decide (j < c.freedAll + c.outDepth)

/-- The header of a host ring slot (R340). -/
def slotHeader (j bytes flags n time : Nat) : Nat :=
  j % 2 ^ 64 + 2 ^ 64 * bytes + 2 ^ 96 * flags + 2 ^ 112 * (n % 65536) + 2 ^ 128 * (time % 2 ^ 64)

/-- Panel time `t` as hub `h` reads it. -/
def Sys.hubTimeAt (s : Sys) (h t : Nat) : Nat :=
  if h = s.lead.hub then t else (((t : Nat) : Int) + (s.hub h).mirrorOff).toNat

/-- Item `i` is written to the host ring and its sender answered (R340, R341). -/
def Sys.egressHost (s : Sys) (h n : Nat) (i : EgItem) : Sys :=
  let u := s.hub h
  let c := u.ctx n
  let rows := u.itemRows c i.item
  let (v, bytes, bad) := c.payload (rows.map u.poolRow)
  let poison := rows.any (fun r => u.poolPoison.contains r)
  let again := decide (i.item < c.items)
  let flags := bitNat poison + 2 * bitNat bad + 4 * bitNat again + 2 ^ 15 * bitNat (phaseOf i.item c.outDepth)
  let a := c.f 24 8 + c.f 32 4 * (i.item % c.outDepth)
  let s := if bytes = 0 then s else s.hostWrite (a + 32) bytes v
  let s := s.hostWrite a 32 (slotHeader i.item bytes flags n (s.hubTimeAt h i.time))
  let items := max c.items (i.item + 1)
  (s.setHub h (u.setCtx n { c with items := items, head := items % 2 ^ 32, held := c.held.filter (fun x => x ≠ i) })).hubSend h i.reply

/-- Item `i` is sent to a Silua peer, in rows; its sender is answered when the peer answers (R337, R341). Log entry 67. -/
def Sys.egressPeer (s : Sys) (h n : Nat) (i : EgItem) : Sys :=
  let u := s.hub h
  let c := u.ctx n
  let rows := u.itemRows c i.item
  let (v, bytes, _) := c.payload (rows.map u.poolRow)
  let poison := rows.any (fun r => u.poolPoison.contains r)
  let k := max 1 (ceilDiv bytes 512)
  let items := max c.items (i.item + 1)
  let s := s.setHub h (u.setCtx n { c with
    items := items, head := items % 2 ^ 32, held := c.held.filter (fun x => x ≠ i), toPeer := c.toPeer ++ [i] })
  (List.range k).foldl (fun (s : Sys) r =>
    s.hubSend h
      { dst := c.f 24 2, src := 0x1200 + h, type := 1, vc := 2, long := true, baton := decide (r + 1 = k), poison := poison
        tag := (c.f 38 2 + i.item) % 65536, window := c.f 26 1, gen := c.f 27 1
        offset := 512 * (i.item % max 1 (c.f 6 1) * k + r), total := 512 * k, payload := rowOf v r }) s

/-- The egress stage takes the first item of a context that its target can take (R339, R340). An item that waits on a full
host ring is counted once. -/
def Sys.egressItem (s : Sys) (h n : Nat) : Sys :=
  let u := s.hub h
  let c := u.ctx n
  if !c.isOpen || !c.egress || !u.live then s
  else if c.target = 1 then
    match c.held with
    | [] => s
    | i :: _ => s.egressPeer h n i
  else
    match c.held.find? (fun i => c.mayWrite i.item) with
    | some i => if u.dma then s.egressHost h n i else s
    | none =>
      let fresh := (c.held.filter (fun i => !i.full)).length
      if fresh = 0 then s
      else s.setHub h ((u.setCtx n { c with held := c.held.map (fun i => { i with full := true }) }).bump 0x30020 31 16 fresh)

/-- A packet at a hub's endpoint; a multicast row is written as a WRITE is (R252, R303). -/
def Sys.hubPacket (s : Sys) (h : Nat) (p : Packet) : Sys :=
  if p.type = 5 then s.egressWrite h p
  else if p.type = 1 then (if p.long then s.egressWrite h p else s.egressShort h p)
  else if p.type = 2 then s.egressRead h p
  else if p.type = 6 || p.type = 7 then s.hubAnswer h p
  else s

end Sys2Proof.Machine
end

