-- ==== Sys2Proof/Machine/BootOps.lean ====
section
/-! DEFINITION. Resets, the boot sequence, election, flash, images, recovery, the debug port, and the loss of hubs, feeds,
converters and references (R438, R439, R442, R451, R494, R505–R532, R540). -/

namespace Sys2Proof.Machine

/-! Resets (R505). -/

/-- The panel as a COLD reset leaves it: the standby rail is up, everything else is off; flash and fuses remain. -/
def Sys.coldState (boot : Boot) : Sys :=
  let fused (h : Nat) : BootHub :=
    { fuse := (NMap.get {} boot.hubs h).fuse, revoked := (NMap.get {} boot.hubs h).revoked }
  { power := { standby := true }, tads := [(256, { alive := true }), (257, { alive := true })]
    boot := { flash := boot.flash, hubs := [(0, fused 0), (1, fused 1)] } }

/-- COLD_RESET: the standby rail rises from off, with panel time at 0 (R505). Host memory is the host's own. Log entry
68. -/
def Sys.coldReset (s : Sys) : Sys :=
  if s.power.standby then s
  else { Sys.coldState s.boot with host := s.host, hostBad := s.hostBad, fresh := s.fresh, irqs := s.irqs }

/-- STANDBY_RAIL_LOSS: everything but flash and fuses loses power (R443, R505). -/
def Sys.standbyLoss (s : Sys) : Sys :=
  { Sys.coldState s.boot with
    power := {}, tads := [], host := s.host, hostBad := s.hostBad, fresh := s.fresh, irqs := s.irqs }

/-- What a hub keeps across a PANEL or FIRMWARE reset: PCIe configuration and link state, with every pair disabled
(R349, R505). Log entry 68. -/
def Hub.restarted (u : Hub) : Hub :=
  { linkRate := u.linkRate, linkWidth := u.linkWidth, busMaster := u.busMaster, memSpace := u.memSpace, maskAll := u.maskAll
    msix := u.msix, qps := u.qps.map (fun e => (e.1, { nextNum := e.2.nextNum, cause := 7 })), pairCause := 7 }

/-- A PANEL or FIRMWARE reset (R505): the boot sequence starts again from step 2. -/
def Sys.restart (s : Sys) : Sys :=
  let fed := s.power.feeds.any (fun f => f.2.qualified)
  let boot (h : Nat) : BootHub :=
    let b := s.bootHub h
    { step := bitNat fed, fuse := b.fuse, revoked := b.revoked, refOk := b.refOk }
  let c := Sys.coldState s.boot
  { c with
    now := s.now, fresh := s.fresh, host := s.host, hostBad := s.hostBad, irqs := s.irqs
    hubs := [(0, (s.hub 0).restarted), (1, (s.hub 1).restarted)]
    power := { standby := s.power.standby, feeds := s.power.feeds
               ibc := s.power.ibc.map (fun x => (x.1, if x.2.state = 3 then x.2 else {})) }
    boot := { c.boot with hubs := [(0, boot 0), (1, boot 1)], since := s.now, stepAt := s.now } }

/-- PANEL_RESET written on a hub (R505, R532). Log entry 68. -/
def Sys.panelReset (s : Sys) (h : Nat) : Sys :=
  if s.boot.leadKnown && s.lead.hub = h then s.restart else s.log 0x0006 1 0 0 0 0

/-! Flash (R512–R517). -/

def Sys.flash (s : Sys) (h : Nat) : Flash := NMap.get {} s.boot.flash h
def Sys.setFlash (s : Sys) (h : Nat) (f : Flash) : Sys := { s with boot := { s.boot with flash := NMap.put s.boot.flash h f } }
def Sys.modFlash (s : Sys) (h : Nat) (f : Flash → Flash) : Sys := s.setFlash h (f (s.flash h))

/-- The union of two lists. -/
def unionList {α : Type} [DecidableEq α] (a b : List α) : List α := a ++ b.filter (fun x => !a.contains x)

/-- The copies of both hubs reconciled: the maps' union, the records of higher SEQ, the newer snapshot (R513); image banks
and the header stay each hub's own. -/
def Flash.reconciled (a b : Flash) : Flash :=
  let newer := if b.ringTime > a.ringTime then b else a
  let conf := b.conf.foldl (fun (m : NMap ConfRec) r =>
    match NMap.find m r.1 with
    | some x => if x.seq < r.2.seq then NMap.put m r.1 r.2 else m
    | none => NMap.put m r.1 r.2) a.conf
  { a with rowMap := unionList a.rowMap b.rowMap, shedMap := unionList a.shedMap b.shedMap, conf := conf
           ring := newer.ring, ringTime := newer.ringTime }
def Sys.reconcile (s : Sys) : Sys :=
  let a := s.flash 0
  let b := s.flash 1
  (s.setFlash 0 (a.reconciled b)).setFlash 1 (b.reconciled a)

/-- FIELD_ROW_MAP_UPDATE: the oldest live remap or hole of a tile that the map lacks is written to both hubs' flash
(R191, R513, R517). -/
def Sys.fieldRowMapUpdate (s : Sys) (t : Nat) : Sys :=
  if t ≥ 256 then s
  else
    let x := s.tile t
    match x.store.fieldMapTodo with
    | [] => s
    | row :: rest =>
      let act := if x.store.holes.any (fun h => h.row = row) then 0xFE else (NMap.find x.store.remapped row).getD 0xFE
      let s := s.setTile t { x with store := { x.store with fieldMapTodo := rest } }
      let add (f : Flash) : Flash := { f with rowMap := f.rowMap ++ [(t, row % 64, row / 64, act)] }
      [0, 1].foldl (fun (s : Sys) h => if (s.hub h).live then s.modFlash h add else s) s

/-- The last entry of the shed map for a unit: its state and the logical tile it took. -/
def Flash.unitEntry (f : Flash) (kind wher sub : Nat) : Option (Nat × Nat) :=
  (f.shedMap.reverse.find? (fun e => decide (e.1 = kind) && decide (e.2.1 = wher) && decide (e.2.2.1 = sub))).map
    (fun e => (e.2.2.2.1, e.2.2.2.2.1))
/-- A power domain recorded LOST (R451). Log entry 56. -/
def Flash.domainLost (f : Flash) (d : Nat) : Bool :=
  match f.unitEntry 0 d 0 with
  | some (st, _) => st = 3
  | none => false

/-! Images (R518–R522). -/

/-- Field of an image header. -/
def Image.f (i : Image) (o n : Nat) : Nat := bitsOf i.header (8 * (o + n) - 1) (8 * o)
def Image.version (i : Image) : Nat := i.f 4 4
def Image.rollback (i : Image) : Nat := i.f 8 4

/-- An image authenticates against a hub's fuses (R519). -/
def Sys.authentic (s : Sys) (h : Nat) (i : Image) : Bool :=
  let key := i.f 16 1
  decide (i.len ≥ 512) && i.f 0 4 = 1 && decide (i.len = 512 + i.f 12 4) && decide (key < 4) &&
    !bitOf (Config.revokedKeys h ||| (s.bootHub h).revoked) key &&
    Config.ecdsaVerify key (Config.sha384 (i.f 0 112) 112) (i.f 112 48) (i.f 160 48) &&
    decide (i.f 64 48 = Config.sha384 i.body (i.f 12 4)) && decide (i.rollback ≥ s.fuse h)

/-- The image of a bank. -/
def Flash.bank (f : Flash) (b : Nat) : Image := NMap.get {} f.banks b

/-- The bank that the boot ROM chooses, none where no bank authenticates: the flash after it, the bank, whether it is a
trial, whether the last trial fell back (R520). -/
def Sys.chooseBank (s : Sys) (h : Nat) : Flash × Option Nat × Bool × Bool :=
  let f := s.flash h
  let (f, cand, trial, fell) := match f.try_ with
    | some b => if f.tries > 0 then ({ f with tries := f.tries - 1 }, b, true, false) else ({ f with try_ := none }, f.active, false, true)
    | none => (f, f.active, false, false)
  if s.authentic h (f.bank cand) then (f, some cand, trial, fell)
  else if s.authentic h (f.bank (1 - cand)) then (f, some (1 - cand), false, fell)
  else (f, none, false, fell)

/-- The bytes of an image as header and body. -/
def imageOf (v len : Nat) : Image := { header := v % 2 ^ 4096, body := v / 2 ^ 4096, len := len }

/-- HUB_BOOT_RECOVERY_GO (R522): an image from host memory is authenticated, written to bank A, and a FIRMWARE reset
begins. -/
def Sys.recoveryGo (s : Sys) (h : Nat) : Sys :=
  let b := s.bootHub h
  let u := s.hub h
  let a := u.reg 0x50810 + 2 ^ 32 * u.reg 0x50814
  let n := u.reg 0x50818
  let status (st : Nat) : Sys := s.setBootHub h { b with recStatus := st }
  if !b.recovery then s
  else if n = 0 || n > 33554432 || a % 4096 ≠ 0 then status stInvalidField
  else
    match s.hostRead a n with
    | none => status stInternalError
    | some v =>
      let i := imageOf v n
      if !s.authentic h i then status stAuthFailed
      else ((s.modFlash h (fun f => { f with banks := NMap.put f.banks 0 i, active := 0 }))).restart

/-! The boot sequence (R507–R509). -/

/-- The element that keeps READY at 0 (R540). -/
def Sys.setMissing (s : Sys) (h code : Nat) : Sys := s.modHub h (fun u => { u with missing := code })

/-- A hub completes a step; the non-lead hub that runs Gorad follows the lead's steps. -/
def Sys.stepDone (s : Sys) (h n : Nat) : Sys :=
  let s := s.modBootHub h (fun b => { b with step := n })
  let o := s.bootHub (1 - h)
  let s := if n ≥ 5 && o.step ≥ 4 && !o.excluded && !o.recovery then s.modBootHub (1 - h) (fun b => { b with step := n }) else s
  { s with boot := { s.boot with stepAt := s.now, begun := 0 } }

/-- Step 2: a hub's edge domain powers up, with its hub and four engines; a domain recorded LOST leaves the hub absent
(R450, R451, R507). Log entry 69. -/
def Sys.edgeUp (s : Sys) (h : Nat) : Sys :=
  let d := 16 + h
  if (s.flash h).domainLost d then (s.modBootHub h (fun b => { b with excluded := true })).setMissing h 7
  else
    let p := s.power
    let on (m : NMap Ibc) (n : Nat) : NMap Ibc :=
      let c := NMap.get {} m n
      if c.state ≠ 3 && (NMap.get {} p.feeds (n % 2)).qualified then NMap.put m n { c with state := 2 } else m
    let s : Sys := { s with power := { p with
      domains := NMap.modify {} p.domains d (fun x => { x with state := 2 }), ibc := on (on p.ibc (2 * d)) (2 * d + 1) } }
    let s := s.modHub h (fun u => { u with live := true })
    let s := s.setRouter (256 + h) { s.router (256 + h) with alive := true }
    let s := ([0, 1, 2, 3].map (fun i => 258 + 4 * h + i)).foldl (fun (s : Sys) n =>
      s.setReplica n { s.replica n with stale := s.boot.leadKnown }) (s.setReplica (256 + h) { s.replica (256 + h) with stale := s.boot.leadKnown })
    let s := [0, 1, 2, 3].foldl (fun (s : Sys) i => (s.modEngine (4 * h + i) (fun e => { e with live := true })).tadUp (258 + 4 * h + i)) s
    s.stepDone h 2

/-- The role map in force (R423). -/
def Sys.loadRoles (s : Sys) : Sys :=
  let role (e p : Nat) : Nat := match s.confRec 1 with
    | some r => bitsOf r.value (8 * (8 + 8 * e + p) + 7) (8 * (8 + 8 * e + p))
    | none => if p < 7 then 1 else 0
  let s : Sys := { s with boot := { s.boot with
    panelId := match s.confRec 1 with
      | some r => bitsOf r.value 11 0
      | none => 0
    macBase := match s.confRec 1 with
      | some r => bitsOf r.value 63 16
      | none => 0 } }
  (List.range 8).foldl (fun (s : Sys) e => (List.range 8).foldl (fun (s : Sys) p =>
    s.modPort e p (fun q => { q with role := role e p % 4, breakout := bitOf (role e p) 2 && role e p % 4 = 2 })) s) s

/-- The lead hub's firmware starts: records in force, the safe cap among them, domains recorded LOST, scores from the
ring, calibration missing (R451, R455, R495, R515). -/
def Sys.goradStarts (s : Sys) (h : Nat) : Sys :=
  let s : Sys := { s with lead := { hub := h }, boot := { s.boot with leadKnown := true } }
  let f := s.flash h
  let s := s.loadRoles
  let s : Sys := { s with
    boot := { s.boot with ivrCal := (s.confRec 3).map (fun r => r.value) }
    power := { s.power with
      rackCap := if s.power.rackState = 0 then s.limit 0 4 12000 else s.power.rackCap
      heartbeatS := if s.power.rackState = 0 then s.limit 4 1 10 else s.power.heartbeatS
      domains := (List.range 18).foldl (fun m d => if f.domainLost d then NMap.modify {} m d (fun x => { x with state := 3 }) else m)
        s.power.domains }
    health := { units := f.ring.map (fun r => (r.1, { base := r.2, baseAt := s.now, score := r.2, peak := r.2 }))
                sampled := s.now, ringTime := s.now } }
  let s := s.updateCap
  let s := if (s.confRec 3).isNone then s.log 0x001D 1 0 0 0 3 else s
  if (s.confRec 4).isNone then s.log 0x001D 1 0 0 0 4 else s

/-- A non-lead hub runs the bank whose version matches the lead's, or takes no part (R521). -/
def Sys.followLead (s : Sys) (h : Nat) : Sys :=
  let want := (s.bootHub s.lead.hub).version
  let f := s.flash h
  let b := s.bootHub h
  let match_ (k : Nat) : Bool := s.authentic h (f.bank k) && decide ((f.bank k).version = want)
  match [b.bank, 1 - b.bank].find? match_ with
  | some k =>
    let s := s.setBootHub h { b with bank := k, version := want, step := 4, claimWait := none, peer := true }
    (s.modBootHub s.lead.hub (fun x => { x with peer := true })).reconcile
  | none =>
    let s := s.setBootHub h { b with excluded := true, claimWait := none }
    ((s.modHub h (fun u => { u with live := false })).setMissing h 7).log 0x001B 2 0 (0x1200 + h) 0 0

/-- A hub claims lead on the sideband (R510). -/
def Sys.claimLead (s : Sys) (h : Nat) : Sys :=
  let s := (s.modBootHub (1 - h) (fun b => { b with claim := true })).modBootHub h (fun b => { b with claimWait := none, step := 4 })
  let s := if (s.bootHub (1 - h)).step ≥ 3 && !(s.bootHub (1 - h)).recovery then s.reconcile else s
  (s.goradStarts h).stepDone h 4

/-- Step 4: the bank is chosen and authenticated, then the hubs agree who leads (R510, R520, R521). -/
def Sys.bootImage (s : Sys) (h : Nat) : Sys :=
  let (f, cand, trial, fell) := s.chooseBank h
  let s := s.setFlash h f
  let s := if fell then (s.modHub h (fun u => u.setReg 0x50800 (u.reg 0x50800 ||| 0x80))).log 0x001A 2 0 (0x1200 + h) 0 0 else s
  match cand with
  | none => (s.modBootHub h (fun b => { b with recovery := true, armed := none })).setMissing h 5
  | some k =>
    let s := s.modBootHub h (fun b => { b with bank := k, trial := trial, version := (f.bank k).version, armed := some s.now })
    if s.boot.leadKnown then s.followLead h
    else if h = 0 then s.claimLead 0
    else if (s.bootHub h).claim then s.followLead h
    else s.modBootHub h (fun b => { b with claimWait := some s.now })

/-- LEAD_CLAIM heard by a hub that waits for it: it is non-lead (R510). -/
def Sys.leadClaim (s : Sys) (h : Nat) : Sys :=
  let b := s.bootHub h
  if b.claim && b.claimWait.isSome && s.boot.leadKnown then s.followLead h else s
/-- No claim within 1 s: the east hub claims lead (R510). -/
def Sys.leadClaimTimeout (s : Sys) : Sys :=
  match (s.bootHub 1).claimWait with
  | some t => if !(s.bootHub 1).claim && decide (s.now ≥ t + 1000000000) && !s.boot.leadKnown then s.claimLead 1 else s
  | none => s

/-- A tile's map of slots after self-test: the passing cores in ascending order serve the slots, the next rests (R40,
R41). -/
def Tile.selfTested (t : Tile) (failed : Nat) : Tile :=
  let shed := t.shedMask ||| failed
  let live := (List.range 17).filter (fun c => !bitOf shed c)
  let rest := live.getD 16 31
  { t with
    shedMask := shed, slotMap := (List.range 16).zip (live.take 16), rest := rest, restValid := decide (rest < 17)
    restState := if rest < 17 then .retention else .off, leapStopped := decide (rest ≥ 17)
    slots := if t.shed then [] else (List.range 16).map (fun k => (k, { state := .halted })) }

/-- A tile's rows mapped at test and by the field row map (R189, R517); the list of holes keeps 256 (R171). -/
def Store.fieldRows (st : Store) (l : List (Nat × Nat × Nat)) : Store :=
  l.foldl (fun (st : Store) e =>
    let row := 64 * e.2.1 + e.1
    if e.2.2 < 32 then st.useSpare row e.2.2
    else { st with holes := (st.holes.filter (fun a => decide (a.row < row)) ++
      ({ row := row } :: st.holes.filter (fun a => decide (row < a.row)))).take 256 }) st
/-- The holes that such a map names. -/
def mapHoles (l : List (Nat × Nat × Nat)) : Nat := ((l.filter (fun e => decide (32 ≤ e.2.2))).map (fun e => (e.1, e.2.1))).eraseDups.length

/-- The units below no tile that the map holds as shed: KIND, WHERE, SUB (R509, R517). -/
def Flash.shedUnits (f : Flash) : List (Nat × Nat × Nat) :=
  ((f.shedMap.map (fun e => (e.1, e.2.1, e.2.2.1))).eraseDups).filter (fun u =>
    decide (u.1 ≠ 0) && decide (u.1 ≠ ukTile) && decide ((f.unitEntry u.1 u.2.1 u.2.2).map (fun e => e.1) = some 3))
/-- A unit that the map holds as shed stays shed across the reset: a link DEAD, a laser dark (R484, R509). -/
def Sys.staysShed (s : Sys) (u : Nat × Nat × Nat) : Sys :=
  let (kind, wher, sub) := u
  let s := s.modUnit (unitKey kind wher sub) (fun x => { x with shed := some s.now })
  let dead (p : Nat) : Sys := s.bothEnds wher p (fun q => { q with dead := true, link := 1 })
  if kind = ukTileLink then dead sub
  else if kind = ukHubLink then dead (if wher % 16 = 0 then 3 else 1)
  else if kind = ukLaser then
    s.modEngine wher (fun e => { e with lasers := NMap.modify {} e.lasers sub (fun l => { l with alarm := true }) })
  else s

/-- Step 6 (R508, R509): self-test, the maps, and the logical tiles of epoch 0: the factory's, those the map moved, and
those of tiles that fail now. -/
def Sys.bootTiles (s : Sys) (res : BootRes) : Sys :=
  let f := s.flash s.lead.hub
  let s : Sys := f.shedUnits.foldl (fun s u => s.staysShed u) { s with boot := { s.boot with fuses := res.fuses } }
  let up := (List.range 256).filter (fun t => (s.tile t).pwr.pgood)
  let s := up.foldl (fun (s : Sys) t =>
    let x := s.tile t
    let shedCores := maskOf ((List.range 17).filter (fun c => (f.unitEntry ukCore t c).map (fun e => e.1) = some 3))
    let failed := maskOf ((res.cores.filter (fun c => c.1 = t)).flatMap (fun c => setBits c.2 17))
    let new := (setBits failed 17).filter (fun c => !bitOf shedCores c)
    let lost := decide (popCount (shedCores ||| failed) 17 > 1)
    let inMap := (f.unitEntry ukTile t 0).map (fun e => e.1) = some 3
    let rows := ((res.fuses ++ f.rowMap).filter (fun e => e.1 = t)).map (fun e => e.2)
    let full := decide (256 < mapHoles rows)
    let bad := lost || full || res.tiles.contains t
    let x := { x with shed := inMap, store := x.store.fieldRows rows }
    let period := putBits (NMap.get (regReset tileRows 0x114) x.regs 0x114) 15 0 (s.limit 18 2 2000)
    let x := { x with regs := NMap.put x.regs 0x114 period }
    let s := s.setTile t (({ x with shed := inMap || bad } : Tile).selfTested (shedCores ||| failed))
    let s := new.foldl (fun (s : Sys) c => s.markShed ukCore t c true false) s
    if inMap then s.modUnit (unitKey ukTile t 0) (fun u => { u with shed := some s.now })
    else if bad then
      let s := s.markShed ukTile t 0 true false
      if full then s.hardEvent (unitKey ukTile t 0) ncHolesExhausted else s
    else s) s
  let usable (t : Nat) : Bool := (s.tile t).pwr.pgood && !(s.tile t).shed
  let place := (List.range 240).foldl (fun (m : NMap Nat) l =>
    match (f.shedMap.reverse.find? (fun e => decide (e.1 = ukTile) && decide (e.2.2.2.1 = 0) && decide (e.2.2.2.2.1 = l))).map (fun e => e.2.1) with
    | some t => if usable t then NMap.put m l t else m
    | none => if usable (factoryPhys l) then NMap.put m l (factoryPhys l) else m) []
  let s := s.modLead (fun x => { x with place := place, epoch := 0 })
  let s := (List.range 240).foldl (fun (s : Sys) l =>
    if (NMap.find s.lead.place l).isSome then s
    else
      match s.spareFor (factoryPhys l) [] with
      | some t => (s.modLead (fun x => { x with place := NMap.put x.place l t })).mapShed ukTile t 0 0 l
      | none => s) s
  s.lead.place.foldl (fun (s : Sys) e => s.modTile e.2 (fun x => { x with
    logical := some e.1, pwr := { x.pwr with retention := false, coreMv := 580 } })) s

/-- The tile links that must train: both ends live, the far end a hub or a tile of higher number. -/
def Sys.bootLinks (s : Sys) : List (Nat × Nat) :=
  (List.range 256).flatMap (fun t => (List.range 4).filterMap (fun p =>
    match neighbour t p with
    | some (m, _) => if (s.router t).alive && (s.router m).alive && (m > t) then some (t, p) else none
    | none => none))
/-- The Silua ports that still train at step 11. -/
def Sys.trainingPorts (s : Sys) : List (Nat × Nat) :=
  (List.range 8).flatMap (fun e => (List.range 8).filterMap (fun p =>
    let q := (s.engine e).port p
    if q.role = 1 && q.link = 1 && (s.engine e).live then some (e, p) else none))

/-- The dies of R15 that are live: a tile's with its photonic companion and its IVR, the hubs' and the optical engines'. -/
def Sys.liveDies (s : Sys) : List Nat :=
  (List.range 258).flatMap (fun n => if (s.router n).alive then tileDies n else []) ++
    ((List.range 8).filter (fun e => (s.engine e).live)).map (fun e => 258 + e)

/-- Steps 8 and 9: the feature level, the timing every die is set to, the tables of epoch 0 (R507, R523, R525). -/
def Sys.bootFeature (s : Sys) : Sys :=
  let dies := (List.range 258).filter (fun n => (s.router n).alive)
  let caps := s.liveDies.foldl (fun a n => a &&& Config.dieCaps n) 0xFFFF
  let worst (lo : Nat) : Nat := dies.foldl (fun a n => max a (bitsOf (Config.dieTiming n) (lo + 7) lo)) 0
  let v := worst 0 + 2 ^ 8 * worst 8 + 2 ^ 16 * worst 16
  let s := (dies.filter (fun n => n < 256)).foldl (fun (s : Sys) t => s.setTileReg t 0xC v) s
  { s with boot := { s.boot with feature := caps, fixed := true, caps := dies.map (fun n => (n, Config.dieCaps n)) } }
def Sys.bootTables (s : Sys) : Sys :=
  let s := s.modLead (fun l => { l with epoch := 0, sw := none, swQueue := [] })
  let tables := (s.targetTables s.lead.place).tables
  let ett := (List.range 240).filterMap (fun l => (NMap.find s.lead.place l).map (fun t => (l, 256 + t)))
  s.liveReplicas.foldl (fun (s : Sys) n =>
    let t := NMap.get {} tables n
    let s := s.setReplica n { ett := ett, mesh := t.mesh, tad := t.tad, relay := t.relay, mcast := t.mcast, members := t.members
                              rgW0 := t.rgW0, rgW1 := t.rgW1 }
    s.setTad n { s.tad n with rgen := false, draining := false }) s

/-- The smallest live set of R504 for the lead hub: the missing element, 0 for none (R540). -/
def Sys.missingElement (s : Sys) : Nat :=
  let h := s.lead.hub
  let b := s.bootHub h
  let c := s.cool
  let nominal := s.limit 6 2 2400
  let near := [0, 4, 8, 12].map (fun d => d + 3 * h)
  let mesh := s.meshNet.hopDist (256 + h)
  let tad := s.tadNet.hopDist (256 + h)
  let path := s.lead.place.any (fun e => near.contains (regionOfTile e.2) && !(s.tile e.2).shed &&
    (NMap.find mesh e.2).isSome && (NMap.find tad e.2).isSome)
  if !s.power.feeds.any (fun f => f.2.qualified) then 1
  else if !c.good || 5 * c.flow < nominal || c.pump then 2
  else if !b.refOk then 3
  else if b.recovery then 5
  else if b.excluded || !(s.hub h).live then 7
  else if !path then 6
  else 0

/-- READY rises on a hub (R347, R545): its own event, and the other hub's PEER_READY. -/
def Sys.raiseReady (s : Sys) (h : Nat) : Sys :=
  if (s.hub h).ready then s else ((s.modHub h (fun u => { u with ready := true, missing := 0 })).event h 0).event (1 - h) 0

/-- Step 12: READY where the set of R504 is live; a running trial bank becomes ACTIVE and the fuse rises (R504, R521).
Log entry 69. -/
def Sys.bootEnd (s : Sys) : Sys :=
  let h := s.lead.hub
  let s := s.stepDone h 12
  let miss := s.missingElement
  if miss ≠ 0 then s.setMissing h miss
  else
    [0, 1].foldl (fun (s : Sys) k =>
      let b := s.bootHub k
      if b.step = 12 && !b.excluded && !b.recovery && (s.hub k).live then
        let i := (s.flash k).bank b.bank
        let s := s.modFlash k (fun f => { f with active := b.bank, try_ := none })
        let s := s.setBootHub k { b with armed := none, trial := false, fuse := max b.fuse (min i.rollback 0xFFFF) }
        s.raiseReady k
      else s) { s with boot := { s.boot with ready := true } }

/-- A step that was begun completes once what it waits for is done: step 5 the regions, 7 the links, 11 the ports. A hub
left alone by a lost lead reports READY again once its switch is over (R347, R494). -/
def Sys.settleBoot (s : Sys) : Sys :=
  let h := s.lead.hub
  let b := s.boot.begun
  if b = 5 then (if s.power.up.isNone && s.power.upQueue.isEmpty then s.stepDone h 5 else s)
  else if b = 7 then
    (if s.bootLinks.all (fun l => ((s.router l.1).port l.2).link = 3 || ((s.router l.1).port l.2).dead) then s.stepDone h 7 else s)
  else if b = 11 then (if s.trainingPorts.isEmpty then s.stepDone h 11 else s)
  else if s.boot.ready && !(s.hub h).ready && (s.bootHub h).step = 12 && s.boot.restartAt.isNone && s.noSwitch then s.raiseReady h
  else s

/-- The next boot step of a hub begins once the last has finished; `res` is what its tests find (R507, R508). Steps 5–12
are the lead hub's. Log entry 69. -/
def Sys.bootStep (s : Sys) (h : Nat) (res : BootRes) : Sys :=
  let s := s.settleBoot
  let b := s.bootHub h
  let lead := s.boot.leadKnown && s.lead.hub = h
  let begin_ (n : Nat) (s : Sys) : Sys := ({ s with boot := { s.boot with begun := n } } : Sys).settleBoot
  if b.recovery || b.excluded || !s.power.standby || s.boot.begun ≠ 0 then s
  else if b.step = 0 then
    (if s.power.feeds.any (fun f => f.2.qualified) then
      let s : Sys := { s with boot := { s.boot with since := s.now } }
      s.stepDone h 1
     else s)
  else if b.step = 1 then s.edgeUp h
  else if b.step = 2 then
    (if !res.refOk || !b.refOk then (s.setBootHub h { b with refOk := false, excluded := true }).setMissing h 3
     else if !res.flashOk then (s.setBootHub h { b with excluded := true }).setMissing h 4
     else s.stepDone h 3)
  else if b.step = 3 then (if b.claimWait.isSome then s else s.bootImage h)
  else if !lead then s
  else if b.step = 4 then
    let todo := (List.range 16).filter (fun d => (NMap.get {} s.power.domains d).state = 0)
    begin_ 5 { s with power := { s.power with upQueue := todo } }
  else if b.step = 5 then (if s.power.up.isSome || !s.power.upQueue.isEmpty then s else (s.bootTiles res).stepDone h 6)
  else if b.step = 6 then begin_ 7 s
  else if b.step = 7 then (s.bootFeature).stepDone h 8
  else if b.step = 8 then (s.bootTables).stepDone h 9
  else if b.step = 9 then
    let s := (List.range 32).foldl (fun (s : Sys) n =>
      s.calibrate n (if (s.unit (unitKey ukStraight (n % 16) (axisOf n))).shed.isSome then 0
        else ((res.straights.find? (fun x => x.1 = n)).map (fun x => x.2)).getD 15)) s
    let s := s.noteStraights
    if s.boot.partial_ then ({ s with boot := { s.boot with partial_ := false } } : Sys).stepDone h 12 else s.stepDone h 10
  else if b.step = 10 then
    let s := (List.range 8).foldl (fun (s : Sys) e => (List.range 8).foldl (fun (s : Sys) p => s.modPort e p (fun q =>
      if q.role = 1 then { q with link := 1, since := s.now, cause := 1 }
      else if q.role = 2 then
        let lanes := ((res.ports.find? (fun x => x.1 = e && x.2.1 = p)).map (fun x => x.2.2)).getD 0 % 16
        s.ethernetLanes q (if (NMap.get {} (s.engine e).lasers (p / 2)).alarm then 0 else s.servingLanes e p lanes)
      else q)) s) s
    begin_ 11 s
  else if b.step = 11 then s.bootEnd
  else s

/-- The longest times of R507, in ns from the first feed's qualifying. -/
def bootMax (n : Nat) : Nat :=
  [0, 0, 20000000, 120000000, 1600000000, 1970000000, 8000000000, 8100000000, 8150000000, 8600000000, 12600000000, 19600000000,
   20000000000].getD n 20000000000

/-- A unit unfinished at a step's longest time counts as failed in the step (R508). -/
def Sys.bootStepTimeout (s : Sys) (h : Nat) : Sys :=
  let s := s.settleBoot
  let b := s.bootHub h
  let n := b.step + 1
  let lead := s.boot.leadKnown && s.lead.hub = h
  if b.step ≥ 12 || b.step = 0 || s.now < s.boot.since + bootMax n then s
  else if n ≤ 4 then
    let code := if n = 2 then 7 else if n = 3 then (if b.refOk then 4 else 3) else 5
    (s.setBootHub h (if n = 4 then { b with recovery := true } else { b with excluded := true })).setMissing h code
  else if !lead then s
  else if n = 5 && s.boot.begun = 5 then
    let lose (s : Sys) (d : Nat) : Sys := (s.log 0x0012 3 0 d 0 0).loseRegion d
    let s := match s.power.up with
      | some u => lose s u.region
      | none => s
    (s.power.upQueue.foldl lose s).settleBoot
  else if n = 7 && s.boot.begun = 7 then
    let late := s.bootLinks.filter (fun l => ((s.router l.1).port l.2).link ≠ 3 && !((s.router l.1).port l.2).dead)
    (late.foldl (fun (s : Sys) l => (s.linkFail l.1 l.2).markShed (linkKind l.1 l.2) l.1 (linkSub l.1 l.2) true false) s).settleBoot
  else if n = 11 && s.boot.begun = 11 then
    (s.trainingPorts.foldl (fun (s : Sys) p => s.modPort p.1 p.2 (fun q => { q with link := 0 })) s).settleBoot
  else s

/-- BOOT_WATCHDOG: step 12 not reached 30 s after step 4 (R521). -/
def Sys.bootWatchdog (s : Sys) (h : Nat) : Sys :=
  match (s.bootHub h).armed with
  | some t => if s.now ≥ t + 30000000000 && (s.bootHub h).step < 12 then s.restart else s
  | none => s

/-- HUB_JOIN: a hub that has authenticated joins a running panel as non-lead; the flashes are reconciled (R510, R513). -/
def Sys.hubJoin (s : Sys) (h : Nat) : Sys :=
  let b := s.bootHub h
  let l := s.bootHub s.lead.hub
  if !s.boot.leadKnown || s.lead.hub = h || b.step ≠ 4 || b.excluded || b.recovery || !(s.hub h).live || !s.mayJoin (256 + h) then s
  else
    let s := (s.modBootHub h (fun x => { x with step := l.step, peer := true })).reconcile
    let s := if l.step < 9 then s else s.askSwitch
    if l.step = 12 && (s.hub s.lead.hub).ready then
      (s.modBootHub h (fun x => { x with armed := none })).raiseReady h
    else s

/-! The debug port (R530, R531). -/

/-- A challenge: the panel serial and a fresh random value, 32 bytes (R530). The port answers nothing after 3 refusals. -/
def Sys.debugChallenge (s : Sys) (h : Nat) : Sys :=
  let b := s.bootHub h
  if b.refusals ≥ 3 || !s.power.standby then s
  else
    let v := Config.panelSerial % 2 ^ 64 + 2 ^ 64 * (Config.freeNat s.fresh % 2 ^ 192)
    { s.setBootHub h { b with challenge := some v } with answer := v, fresh := s.fresh + 1 }

/-- A token: the signature (r, t) over the challenge (R530, R531). -/
def Sys.debugToken (s : Sys) (h r t : Nat) : Sys :=
  let b := s.bootHub h
  match b.challenge with
  | none => s
  | some c =>
    if b.refusals ≥ 3 then s
    else if Config.ecdsaVerify 4 (Config.sha384 c 32) r t && !s.debugDisabled h then
      (s.setBootHub h { b with unlocked := true, challenge := none }).log 0x001C 0 0 (0x1200 + h) 0 0
    else s.setBootHub h { b with refusals := b.refusals + 1, challenge := none }

/-! Losses. -/

/-- A hub goes, with its contexts, windows, host link, edge domain and engines; jobs that used them fail (R451, R483,
R494). -/
def Sys.hubGone (s : Sys) (n : Nat) : Sys :=
  let parts := ((s.hub n).ctxs.filter (fun c => c.2.isOpen)).map (fun c => c.2.f 2 2) ++
    ((s.hub n).egress.filter (fun w => w.2.isOpen)).map (fun w => w.2.partition)
  let u := s.hub n
  let s := s.setHub n { u.dropPairs 7 with
    live := false, ready := false, bound := false, linkRate := 0, linkWidth := 0
    ctxs := u.ctxs.map (fun c => (c.1, { c.2 with isOpen := false }))
    egress := u.egress.map (fun w => (w.1, { w.2 with isOpen := false })), exfers := [] }
  let s := (s.killRouter (256 + n)).setTad (256 + n) { s.tad (256 + n) with alive := false }
  let s := [0, 1, 2, 3].foldl (fun (s : Sys) i =>
    let e := 4 * n + i
    let s := s.modEngine e (fun x => { x with live := false, ports := x.ports.map (fun p => (p.1, { p.2 with link := 0 })) })
    s.setTad (258 + e) { s.tad (258 + e) with alive := false }) s
  let s : Sys := { s with power := { s.power with domains := NMap.modify {} s.power.domains (16 + n) (fun d => { d with state := 3 }) } }
  let s := ((s.refreshPeers).log 0x001E 3 0 (0x1200 + n) 0 0).event (1 - n) 0
  parts.foldl (fun (s : Sys) p => s.failPart p stStateLost) s

/-- The other hub takes the lead over (R36, R291, R494, R529): panel time goes on from its mirror, a switch under way is
completed or begun again, another rebuilds the tables, and every job not ended replays. -/
def Sys.takeLead (s : Sys) (o : Nat) : Sys :=
  let t := s.hubTime o
  let d : Int := (s.now : Int) - (t : Int)
  let s : Sys := { s with
    now := t, lead := { s.lead with hub := o, waits := [] }
    tiles := s.tiles.map (fun x => (x.1, { x.2 with mirror := { x.2.mirror with offset := x.2.mirror.offset + d } })) }
  let s := s.modHub o (fun u => { u.dropPairs 7 with ready := false, bound := false, mirrorOff := 0, mirrorSlew := 0 })
  let s := (s.event o 9).event (1 - o) 9
  let s := match s.lead.sw with
    | none => s
    | some sw =>
      let live := s.liveReplicas
      if live.any (fun n => (s.replica n).cur = sw.epoch) then s.sendCommit sw
      else
        let s := live.foldl (fun (s : Sys) n => s.setReplica n (s.replica n).noShadow) s
        s.modLead (fun l => { l with sw := none, swQueue := sw.changes :: l.swQueue })
  let s := s.askSwitch
  let parts := (s.lead.jobs.filter (fun j => j.2.state.live)).foldl (fun (l : List Nat) j =>
    if l.contains j.2.spec.partition then l else l ++ [j.2.spec.partition]) []
  parts.foldl (fun (s : Sys) p => s.recoverPart p) s

/-- A heartbeat from the other hub reaches hub `h` (R494); a hub without its reference sends none (R528). -/
def Sys.hubHeartbeat (s : Sys) (h : Nat) : Sys :=
  if (s.hub h).live && (s.hub (1 - h)).live && (s.bootHub (1 - h)).refOk then s.modHub h (fun u => { u with heard := s.now }) else s

/-- Three heartbeats of hub `n` missed (R494). -/
def Sys.hubLost (s : Sys) (n : Nat) : Sys :=
  let o := 1 - n
  if !(s.hub n).live || !(s.hub o).live || (s.bootHub o).step < 9 || s.now < (s.hub o).heard + 3000000 then s
  else
    let lead := decide (s.lead.hub = n)
    let s := s.hubGone n
    if lead then s.takeLead o else s

/-- DOMAIN_SHORT (R451): both IBCs latch off. A region is lost; an edge domain takes its hub. The map records it. -/
def Sys.domainShort (s : Sys) (d : Nat) : Sys :=
  if d < 16 then s.loseRegion d
  else if d < 18 && (NMap.get {} s.power.domains d).state ≠ 3 then
    let off (m : NMap Ibc) (n : Nat) : NMap Ibc := NMap.modify {} m n (fun c => { c with state := 3 })
    let s : Sys := { s with power := { s.power with ibc := off (off s.power.ibc (2 * d)) (2 * d + 1) } }
    let n := d - 16
    let lead := decide (s.lead.hub = n)
    let s := (s.hubGone n).mapShed 0 d 0 3 0xFF
    if lead && (s.hub (1 - n)).live then s.takeLead (1 - n) else s
  else s

/-- A domain that is powered and has no IBC left to carry it (R439, R442). Log entry 71. -/
def PanelPower.unfed (p : PanelPower) (d : Nat) : Bool :=
  let off (n : Nat) : Bool := (NMap.get {} p.ibc n).state = 0 || (NMap.get {} p.ibc n).state = 3
  ((NMap.get {} p.domains d).state = 1 || (NMap.get {} p.domains d).state = 2) && off (2 * d) && off (2 * d + 1)

/-- IBC_FAULT (R442): the module latches off and is counted, with an urgent notice; with no partner left to carry it the
domain is lost. Log entry 71. -/
def Sys.ibcFault (s : Sys) (n : Nat) : Sys :=
  let p := s.power
  let c := NMap.get {} p.ibc n
  if n ≥ 36 || c.state = 3 then s
  else
    let off := 0x50104 + 8 * n
    let v := NMap.get 0 p.regs off
    let s : Sys := { s with power := { p with
      ibc := NMap.put p.ibc n { c with state := 3, limit := false }
      regs := NMap.put p.regs off (putBits v 31 16 (satAdd 16 (bitsOf v 31 16) 1)) } }
    let m : TMsg := { dst := s.leadAddr, src := s.leadAddr, type := 0x10, urgent := true, sub := ncIbcFault, payload := noticeWord 0 (n / 2) n 0 }
    let r := s.tad s.leadAddr
    let s := s.setTad s.leadAddr { r with inbox := r.inbox ++ [m] }
    let partner := if n % 2 = 0 then n + 1 else n - 1
    if (NMap.get {} s.power.ibc partner).state = 3 || s.power.unfed (n / 2) then s.domainShort (n / 2) else s

/-- The domains that no IBC carries any more are lost. Log entry 71. -/
def Sys.loseUnfed (s : Sys) : Sys := ((List.range 18).filter s.power.unfed).foldl (fun (s : Sys) d => s.domainShort d) s

/-- FEED_DROP (R438–R440): a qualified feed outside its limits for 50 µs; with both dropped the panel stops.
Log entry 71. -/
def Sys.feedDrop (s : Sys) (f volts ns : Nat) : Sys :=
  let p := s.power
  let x := NMap.get {} p.feeds f
  if !x.qualified || ns < 50000 || (4400 ≤ volts && volts ≤ 6000) then s
  else
    let off := 0x50008 + 16 * f
    let v := NMap.get 0 p.regs off
    let x := { x with volts := volts, qualified := false, overV := decide (volts > 6000), underV := decide (volts < 4400) }
    let ibc := p.ibc.map (fun c => if c.1 % 2 = f && c.2.state ≠ 3 then (c.1, { c.2 with state := 0 }) else c)
    let s : Sys := { s with power := { p with
      feeds := NMap.put p.feeds f x, ibc := ibc, vFeed := (NMap.get {} p.feeds (1 - f)).volts
      regs := NMap.put p.regs off (putBits v 15 0 (satAdd 16 (bitsOf v 15 0) 1)) } }
    if s.power.feeds.any (fun f => f.2.qualified) then (s.log 0x0011 1 0 f 0 0).updateCap.loseUnfed
    else
      let r := s.restart
      { r with power := { r.power with regs := s.power.regs } }

/-- REFERENCE_LOSS (R528): a tile is a whole-tile fault; a hub stops its heartbeat. -/
def Sys.referenceLoss (s : Sys) (n : Nat) : Sys :=
  if n < 256 then
    (if (s.tile n).pwr.on then
      ((s.killRouter n).setTad n { s.tad n with alive := false }).loseTile n
     else s)
  else if n < 258 then s.modBootHub (n - 256) (fun b => { b with refOk := false })
  else s

/-- A firmware activation's reset, once its reply is out or 10 ms have passed (R377, R521). Log entry 76. -/
def Sys.settleRestart (s : Sys) : Sys :=
  match s.boot.restartAt with
  | some t => if s.now ≥ t then s.restart else s
  | none => s

end Sys2Proof.Machine
end

