-- ==== Sys2Proof/Syntax.lean ====
section
/-! DEFINITION. The commands of the panel: one constructor for each row of the command table, with the row's operands. -/

namespace Sys2Proof

open Sys2Proof.Machine

/-- A command. Operands that name a place are numbers (`t` a physical tile, `k` a slot, `h` a hub, `q` a queue pair, `n` a
router, straight or context as the row says, `p` a port, `j` a job); operands that measure something are what the hardware
measured (log entry 9). The order is the table's, rows without operands last. -/
inductive Instr where
  | scalarInstruction (t : Nat) (k : Nat) (cc : Nat) (ram : RamCheck)
  | narrowLoad (t : Nat) (k : Nat) (cc : Nat) (f3 : Nat) (rd : Nat) (rs1 : Nat) (imm : Nat)
  | narrowStore (t : Nat) (k : Nat) (cc : Nat) (f3 : Nat) (rs2 : Nat) (rs1 : Nat) (imm : Nat)
  | narrowStoreSend (t : Nat) (k : Nat)
  | interruptTaken (t : Nat) (k : Nat)
  | machineTimer (t : Nat) (k : Nat)
  | enq (t : Nat) (k : Nat) (cc : Nat) (rd : Nat) (rs1 : Nat) (eq : Nat)
  | enql (t : Nat) (k : Nat) (cc : Nat) (rd : Nat) (rs1 : Nat) (rs2 : Nat) (eq : Nat)
  | qfree (t : Nat) (k : Nat) (cc : Nat) (rd : Nat) (eq : Nat)
  | tokrd (t : Nat) (k : Nat) (cc : Nat) (rd : Nat) (rs1 : Nat)
  | tokinc (t : Nat) (k : Nat) (cc : Nat) (rs1 : Nat) (rs2 : Nat)
  | toktry (t : Nat) (k : Nat) (cc : Nat) (rd : Nat) (rs1 : Nat) (rs2 : Nat)
  | lapidx (t : Nat) (k : Nat) (cc : Nat) (rd : Nat)
  | sequencerIssue (t : Nat) (k : Nat)
  | run (t : Nat) (k : Nat)
  | halt (t : Nat) (k : Nat)
  | lapStart (t : Nat) (k : Nat) (msg : Bool)
  | lapStop (t : Nat) (k : Nat) (msg : Bool)
  | freeze (t : Nat) (k : Nat) (msg : Bool)
  | thaw (t : Nat) (k : Nat) (msg : Bool)
  | lapZeroBegin (t : Nat) (k : Nat)
  | lapBoundary (t : Nat) (k : Nat) (timing : LapTiming)
  | doorbellHi (t : Nat) (k : Nat)
  | readClear (space : Nat) (unit : Nat) (off : Nat)
  | registerWrite (space : Nat) (unit : Nat) (off : Nat) (v : Nat)
  | tokenDeadlock (t : Nat) (k : Nat)
  | mm (t : Nat) (k : Nat) (starved : Nat)
  | accClear (t : Nat) (k : Nat)
  | accOut (t : Nat) (k : Nat)
  | macroLoad (t : Nat) (k : Nat)
  | convert (t : Nat) (k : Nat) (starved : Nat)
  | binary (t : Nat) (k : Nat) (starved : Nat)
  | unary (t : Nat) (k : Nat) (starved : Nat)
  | reduce (t : Nat) (k : Nat) (starved : Nat)
  | softmaxStats (t : Nat) (k : Nat) (starved : Nat)
  | softmaxApply (t : Nat) (k : Nat) (starved : Nat)
  | normStats (t : Nat) (k : Nat) (starved : Nat)
  | normApply (t : Nat) (k : Nat) (starved : Nat)
  | pool (t : Nat) (k : Nat) (starved : Nat)
  | transpose (t : Nat) (k : Nat) (starved : Nat)
  | gather (t : Nat) (k : Nat) (starved : Nat)
  | scatter (t : Nat) (k : Nat) (starved : Nat)
  | copy (t : Nat) (k : StoreTurn)
  | send (t : Nat) (k : StoreTurn)
  | mcast (t : Nat) (k : StoreTurn)
  | reduceSend (t : Nat) (k : StoreTurn)
  | streamSet (t : Nat) (k : Nat)
  | streamLoop (t : Nat) (k : Nat)
  | streamGo (t : Nat) (k : Nat)
  | streamStop (t : Nat) (k : Nat)
  | descriptorCompletion (t : Nat) (k : Nat) (which : Nat)
  | streamFetchLap (t : Nat) (k : Nat) (st : Nat) (n : FetchTurn)
  | pacerRowLand (t : Nat) (k : Nat) (st : Nat) (f : Nat) (src : Nat)
  | leapfrogPeriod (t : Nat) (est : List Nat)
  | preloadComplete (t : Nat) (flips : List (Nat × List (List (Nat × Nat))))
  | leapfrogAbandon (t : Nat)
  | coreUnitFault (t : Nat) (c : Nat) (cause : FaultCause)
  | takeoverReady (t : Nat) (flips : List (Nat × List (List (Nat × Nat))))
  | auditSweep (t : Nat)
  | macroAudit (t : Nat) (flips : List (Nat × Nat))
  | auditReload (t : Nat) (flips : List (Nat × Nat))
  | correctionWriteBack (t : Nat) (bank : Nat)
  | reconstruction (t : Nat)
  | parityLatchCommit (t : Nat) (bank : Nat)
  | storeFillDone (t : Nat)
  | regionReleaseDone (t : Nat) (n : Nat)
  | scrubPassStart (t : Nat)
  | scrubRead (t : Nat) (ups : List (Nat × Nat × Nat))
  | liveRemap (t : Nat)
  | fieldRowMapUpdate (t : Nat)
  | watchEntryExpiry (t : Nat) (bank : Nat)
  | tileProtInjectArm (t : Nat) (v : Nat)
  | routerReceive (n : Nat) (p : Nat) (bad : Bool)
  | routerForward (n : Nat) (o : Nat) (ecc : SlotEcc)
  | escapeEntry (n : Nat) (p : Nat) (c : Nat) (nc : Nat)
  | controlWord (n : Nat) (p : Nat) (good : Bool) (begins : Bool)
  | linkFail (n : Nat) (p : Nat)
  | drainCountZero (n : Nat)
  | write (n : Nat) (src : Nat)
  | shortWrite (n : Nat)
  | readReq (n : Nat)
  | readResp (n : Nat)
  | controlWrite (n : Nat)
  | ack (n : Nat)
  | nack (n : Nat)
  | reducePacket (n : Nat) (p : SlotRead)
  | reduceStall (n : Nat) (p : Nat) (nc : Nat)
  | frameLaunch (n : Nat) (k : Nat)
  | mcastFrame (n : Nat) (k : Nat) (sender : Nat) (bad : Bool)
  | carriedFrame (n : Nat) (k : Nat) (sender : Nat) (bad : Bool)
  | relayForward (n : Nat) (k : Nat)
  | statusSlot (n : Nat) (k : Nat) (good : Bool)
  | retransmission (n : Nat) (k : Nat)
  | portAbsent (n : Nat) (k : Nat)
  | tadpoleForward (n : Nat) (o : Nat) (bad : Bool)
  | tadpoleRegRead (n : Nat)
  | tadpoleRegWrite (n : Nat)
  | regReply (h : Nat)
  | regReplyTimeout (h : Nat)
  | doorbell (t : Nat)
  | cut (t : Nat)
  | ceiling (t : Nat)
  | issueWindow (t : Nat) (wants : List Nat)
  | noticeQueueSend (n : Nat)
  | frameOverdue (j : Nat)
  | prepare (n : Nat)
  | route (n : Nat)
  | prepareAckTimeout (n : Nat)
  | commit (n : Nat)
  | drainTimeout (n : Nat)
  | retire (n : Nat)
  | groupPurge (n : Nat)
  | invalidate (t : Nat)
  | invalidateSweepDone (t : Nat)
  | invalidateTimeout (t : Nat)
  | sync (n : Nat) (res : Nat)
  | syncMissed (t : Nat)
  | mirrorSlew (n : Nat)
  | delayReq (n : Nat) (p : Nat)
  | delayResp (n : Nat) (p : Nat) (trip : Nat)
  | neighbourSilent (n : Nat) (p : Nat)
  | sendTrackerTimeout (t : Nat) (k : Nat)
  | controlWriteTimeout (t : Nat)
  | tileXferPurge (t : Nat) (part : Nat)
  | ingestDecode (h : Nat) (n : Nat)
  | itemDelivery (h : Nat) (n : Nat)
  | ethernetFrame (e : Nat) (p : Nat) (sub : Nat) (f : Nat) (len : Nat)
  | egressItem (h : Nat) (n : Nat)
  | hubSqTail (h : Nat) (q : Nat) (tail : Nat) (mem : List (Nat × Nat × Nat)) (bad : List (Nat × Nat))
  | hubCqHead (h : Nat) (q : Nat) (head : Nat)
  | hubQpCtrlEnable (h : Nat) (q : Nat)
  | hubQpCtrlDisable (h : Nat) (q : Nat)
  | commandFetch (h : Nat)
  | replyWrite (h : Nat) (q : Nat)
  | coalesceTimeout (h : Nat) (q : Nat)
  | hubLinkReset (h : Nat) (down : Bool)
  | busMasterClear (h : Nat)
  | hubHostBindHi (h : Nat) (v : Nat)
  | hubStreamFreed (h : Nat) (n : Nat) (v : Nat)
  | nop (h : Nat) (q : Nat)
  | identify (h : Nat) (q : Nat)
  | getFeature (h : Nat) (q : Nat)
  | setFeature (h : Nat) (q : Nat)
  | regRead (h : Nat) (q : Nat)
  | regWrite (h : Nat) (q : Nat)
  | partitionCreate (h : Nat) (q : Nat)
  | partitionDestroy (h : Nat) (q : Nat)
  | partitionReset (h : Nat) (q : Nat)
  | regionDefine (h : Nat) (q : Nat)
  | regionRelease (h : Nat) (q : Nat)
  | storeFill (h : Nat) (q : Nat)
  | storeWrite (h : Nat) (q : Nat)
  | storeRead (h : Nat) (q : Nat)
  | weightLoad (h : Nat) (q : Nat)
  | codeLoad (h : Nat) (q : Nat)
  | windowOpen (h : Nat) (q : Nat)
  | windowClose (h : Nat) (q : Nat)
  | mcastGroupSet (h : Nat) (q : Nat)
  | rgroupSet (h : Nat) (q : Nat)
  | streamOpen (h : Nat) (q : Nat)
  | streamClose (h : Nat) (q : Nat)
  | jobStart (h : Nat) (q : Nat)
  | jobFeed (h : Nat) (q : Nat)
  | stepCommit (h : Nat) (q : Nat)
  | stepReplay (h : Nat) (q : Nat)
  | jobStatus (h : Nat) (q : Nat)
  | jobStop (h : Nat) (q : Nat)
  | phaseSet (h : Nat) (q : Nat)
  | powerQuery (h : Nat) (q : Nat)
  | healthQuery (h : Nat) (q : Nat)
  | unitShed (h : Nat) (q : Nat)
  | unitRegrow (h : Nat) (q : Nat) (pass : Bool)
  | unitWatchClear (h : Nat) (q : Nat)
  | logRead (h : Nat) (q : Nat)
  | timeSync (h : Nat) (q : Nat)
  | configRead (h : Nat) (q : FlashPair)
  | configWrite (h : Nat) (q : FlashPair)
  | firmwareStage (h : Nat) (q : FlashPair)
  | firmwareActivate (h : Nat) (q : FlashPair)
  | linkQuery (h : Nat) (q : Nat)
  | commitSweepDone (j : Nat)
  | freezeTimeout (t : Nat) (k : Nat)
  | tileRebuild (t : Nat)
  | slotReadyTimeout (t : Nat) (k : Nat)
  | drain (kind : Nat) (wher : Nat) (sub : Nat)
  | drainLimit (kind : Nat) (wher : Nat) (sub : Nat)
  | hubHeartbeat (h : Nat)
  | hubLost (h : Nat)
  | feedQualify (f : Nat) (volts : Nat) (ns : Nat)
  | feedDrop (f : Nat) (volts : Nat) (ns : Nat)
  | ibcFault (n : Nat)
  | domainShort (d : Nat)
  | pmcAllocate (r : PmcReading)
  | tileShort (t : Nat)
  | thermalTrip (t : Nat)
  | droopAlarm (t : Nat) (m : Nat) (sample : Nat)
  | tileDroopRearm (t : Nat) (m : Nat) (sample : Nat)
  | crackStepJudge (t : Nat) (qd : Nat) (di : Nat) (dv : Nat)
  | crackPhaseCheck (t : Nat) (phases : List Nat)
  | regionPowerUp (d : Nat)
  | currentTrip (t : Nat) (amps : Nat)
  | tripClear (t : Nat) (ns : Nat)
  | oppChange (j : Nat)
  | setPowerCap (cap : Nat) (hb : Nat)
  | coolantSample (good : Bool) (inlet : Nat) (outlet : Nat) (flow : Nat) (status : Nat) (sq : Nat)
  | pumpFaultN (level : Bool)
  | slowFallAlert (rise : Int)
  | tileTempSample (t : Nat) (temps : List Nat) (rise : Int)
  | thermalLimit (t : Nat)
  | laserSample (e : Nat) (las : Nat) (power : Nat) (ok : Bool)
  | linkTraining (t : Nat) (p : Nat) (here : LaneTest) (there : LaneTest)
  | retrain (t : Nat) (p : Nat)
  | linkUp (t : Nat) (p : Nat) (ns : Nat)
  | laneLockLost (t : Nat) (p : Nat)
  | siluaTraining (e : Nat) (p : Nat) (lanes : Nat) (partner : Nat) (version : Nat)
  | cell (e : Nat) (p : Nat) (c : Cell) (sym : Nat)
  | returnMapExpiry (e : Nat)
  | bootStep (h : Nat) (res : BootRes)
  | bootStepTimeout (h : Nat)
  | panelReset (h : Nat)
  | bootWatchdog (h : Nat)
  | leadClaim (h : Nat)
  | hubJoin (h : Nat)
  | hubBootRecoveryGo (h : Nat)
  | referenceLoss (n : Nat)
  | debugChallenge (h : Nat)
  | debugToken (h : Nat) (sr : Nat) (st : Nat)
  | panelTimeLo (h : Nat)
  | hubEventStatus (h : Nat) (v : Nat)
  | hubEventMask (h : Nat) (v : Nat)
  | hubEventCfg (h : Nat) (v : Nat)
  | hubEvent (h : Nat) (bit : Nat)
  | straightRecalibration (n : Nat) (wg : Calibration)
  | replayRewind (j : Nat)
  | pcieLinkTraining (h : Nat) (rate : Nat) (width : Nat)
  | msixVectorUnmask (h : Nat) (v : Nat)
  | barAccess (h : Nat) (bar : Nat) (off : Nat) (n : Nat) (wr : Bool) (v : Nat)
  | debugAccess (h : Nat) (kind : Nat) (a : Nat) (b : Nat) (v : Nat)
  | unsupportedPldmCmd (code : Nat)
  | notice
  | stepEnd
  | frame
  | epochSwitchStart
  | prepareAck
  | commitAck
  | epochDrained
  | invalidateAck
  | syncBroadcast
  | healthSample
  | healthRingWrite
  | scoreFreezeEnd
  | powerupResume
  | powerupRelease
  | oppGrant
  | getPowerReading
  | heartbeat
  | getTid
  | getPldmVersion
  | getPldmTypes
  | getPldmCommands
  | contactLost
  | safeCapEntry
  | heatBalanceCheck
  | holdRestore
  | coolingPowerDown
  | coolingPowerRestore
  | coldReset
  | leadClaimTimeout
  | standbyRailLoss
deriving DecidableEq, Repr

end Sys2Proof
end

