-- ==== Sys2Proof/WellFormed.lean ====
section
/-! DEFINITION. When a command names things the panel has: tiles, slots, hubs, queue pairs, ports, and values that fit
their fields. -/

namespace Sys2Proof

open Sys2Proof.Machine

/-- A physical tile, a core slot, a hub, a queue pair, a job slot (R37, R40, R343, R352, R394). -/
def isTile (t : Nat) : Bool := decide (t < 256)
def isSlot (k : Nat) : Bool := decide (k < 16)
def isHub (h : Nat) : Bool := decide (h < 2)
def isPair (q : Nat) : Bool := decide (q < 2048)
def isJob (j : Nat) : Bool := decide (j < 4096)
/-- A mesh router and a port of it; a tadpole router and a port of it (R221, R282). -/
def isRouter (n : Nat) : Bool := decide (n < 258)
def isPort (n p : Nat) : Bool := decide (p ≤ localPort n)
def isTad (n : Nat) : Bool := decide (n < 266)
def isTadPort (n p : Nat) : Bool := decide (p ≤ tadLocal n)
/-- A straight and a port position of it (R247). -/
def isStraight (n : Nat) : Bool := decide (n < 32)
def isPosition (k : Nat) : Bool := decide (k < 18)
/-- A tile's link, an optical engine, a stream context (R404, R420, R325). -/
def isLink (p : Nat) : Bool := decide (p < 4)
def isEngine (e : Nat) : Bool := decide (e < 8)
def isContext (n : Nat) : Bool := decide (n < 131072)
/-- Fields of a scalar instruction (R43, R147). -/
def isReg (r : Nat) : Bool := decide (r < 32)
def isQueue (q : Nat) : Bool := decide (q < 4)
def isImm (i : Nat) : Bool := decide (i < 4096)
def isLoad (f3 : Nat) : Bool := decide (f3 < 3) || decide (f3 = 4) || decide (f3 = 5)
def isStore (f3 : Nat) : Bool := decide (f3 < 3)
/-- A size of a host access. -/
def isBytes (n : Nat) : Bool := decide (1 ≤ n) && decide (n ≤ 64)

/-- The command is well formed. -/
def Instr.wf (i : Instr) : Bool :=
  match i with
  | .scalarInstruction t k cc _ => isTile t && isSlot k && decide (cc < 2 ^ 32)
  | .narrowLoad t k cc f3 rd rs1 imm => isTile t && isSlot k && decide (cc < 2 ^ 32) && isLoad f3 && isReg rd && isReg rs1 && isImm imm
  | .narrowStore t k cc f3 rs2 rs1 imm => isTile t && isSlot k && decide (cc < 2 ^ 32) && isStore f3 && isReg rs2 && isReg rs1 && isImm imm
  | .narrowStoreSend t k => isTile t && isSlot k
  | .interruptTaken t k => isTile t && isSlot k
  | .machineTimer t k => isTile t && isSlot k
  | .enq t k cc rd rs1 eq => isTile t && isSlot k && decide (cc < 2 ^ 32) && isReg rd && isReg rs1 && isQueue eq
  | .enql t k cc rd rs1 rs2 eq => isTile t && isSlot k && decide (cc < 2 ^ 32) && isReg rd && isReg rs1 && isReg rs2 && isQueue eq
  | .qfree t k cc rd eq => isTile t && isSlot k && decide (cc < 2 ^ 32) && isReg rd && isQueue eq
  | .tokrd t k cc rd rs1 => isTile t && isSlot k && decide (cc < 2 ^ 32) && isReg rd && isReg rs1
  | .tokinc t k cc rs1 rs2 => isTile t && isSlot k && decide (cc < 2 ^ 32) && isReg rs1 && isReg rs2
  | .toktry t k cc rd rs1 rs2 => isTile t && isSlot k && decide (cc < 2 ^ 32) && isReg rd && isReg rs1 && isReg rs2
  | .lapidx t k cc rd => isTile t && isSlot k && decide (cc < 2 ^ 32) && isReg rd
  | .sequencerIssue t k => isTile t && isSlot k
  | .run t k => isTile t && isSlot k
  | .halt t k => isTile t && isSlot k
  | .lapStart t k _ => isTile t && isSlot k
  | .lapStop t k _ => isTile t && isSlot k
  | .freeze t k _ => isTile t && isSlot k
  | .thaw t k _ => isTile t && isSlot k
  | .lapZeroBegin t k => isTile t && isSlot k
  | .lapBoundary t k _ => isTile t && isSlot k
  | .doorbellHi t k => isTile t && isSlot k
  | .readClear space _ _ => decide (space < 4)
  | .registerWrite space _ _ v => decide (space < 4) && decide (v < 2 ^ 32)
  | .tokenDeadlock t k => isTile t && isSlot k
  | .mm t k starved => isTile t && isSlot k && decide (starved < 2 ^ 32)
  | .accClear t k => isTile t && isSlot k
  | .accOut t k => isTile t && isSlot k
  | .macroLoad t k => isTile t && isSlot k
  | .convert t k starved => isTile t && isSlot k && decide (starved < 2 ^ 32)
  | .binary t k starved => isTile t && isSlot k && decide (starved < 2 ^ 32)
  | .unary t k starved => isTile t && isSlot k && decide (starved < 2 ^ 32)
  | .reduce t k starved => isTile t && isSlot k && decide (starved < 2 ^ 32)
  | .softmaxStats t k starved => isTile t && isSlot k && decide (starved < 2 ^ 32)
  | .softmaxApply t k starved => isTile t && isSlot k && decide (starved < 2 ^ 32)
  | .normStats t k starved => isTile t && isSlot k && decide (starved < 2 ^ 32)
  | .normApply t k starved => isTile t && isSlot k && decide (starved < 2 ^ 32)
  | .pool t k starved => isTile t && isSlot k && decide (starved < 2 ^ 32)
  | .transpose t k starved => isTile t && isSlot k && decide (starved < 2 ^ 32)
  | .gather t k starved => isTile t && isSlot k && decide (starved < 2 ^ 32)
  | .scatter t k starved => isTile t && isSlot k && decide (starved < 2 ^ 32)
  | .copy t k => isTile t && isSlot k.core && decide (k.starved < 2 ^ 32)
  | .send t k => isTile t && isSlot k.core && decide (k.starved < 2 ^ 32)
  | .mcast t k => isTile t && isSlot k.core && decide (k.starved < 2 ^ 32)
  | .reduceSend t k => isTile t && isSlot k.core && decide (k.starved < 2 ^ 32)
  | .streamSet t k => isTile t && isSlot k
  | .streamLoop t k => isTile t && isSlot k
  | .streamGo t k => isTile t && isSlot k
  | .streamStop t k => isTile t && isSlot k
  | .descriptorCompletion t k which => isTile t && isSlot k && decide (which < 6)
  | .streamFetchLap t k st n => isTile t && isSlot k && decide (st < 8) && decide (n.rows < 65536) && n.drops.all (fun l => decide (l < 8192))
  | .pacerRowLand t k st f src => isTile t && isSlot k && decide (st < 8) && decide (f < 16) && decide (src < 3)
  | .leapfrogPeriod t _ => isTile t
  | .preloadComplete t _ => isTile t
  | .leapfrogAbandon t => isTile t
  | .coreUnitFault t c _ => isTile t && decide (c < 17)
  | .takeoverReady t _ => isTile t
  | .auditSweep t => isTile t
  | .macroAudit t _ => isTile t
  | .auditReload t _ => isTile t
  | .correctionWriteBack t bank => isTile t && decide (bank < 64)
  | .reconstruction t => isTile t
  | .parityLatchCommit t bank => isTile t && decide (bank < 64)
  | .storeFillDone t => isTile t
  | .regionReleaseDone t n => isTile t && decide (n < 64)
  | .scrubPassStart t => isTile t
  | .scrubRead t _ => isTile t
  | .liveRemap t => isTile t
  | .fieldRowMapUpdate t => isTile t
  | .watchEntryExpiry t bank => isTile t && decide (bank < 64)
  | .tileProtInjectArm t v => isTile t && decide (v < 2 ^ 32)
  | .routerReceive n p _ => isRouter n && isPort n p
  | .routerForward n o ecc => isRouter n && isPort n o && decide (ecc.corrected + ecc.payload + ecc.header ≤ 72)
  | .escapeEntry n p c nc => isRouter n && isPort n p && decide (c < 6) && decide (nc < 2 ^ 32)
  | .controlWord n p _ _ => isRouter n && isPort n p
  | .linkFail n p => isRouter n && isPort n p
  | .drainCountZero n => isRouter n
  | .write n src => isRouter n && decide (src < 3)
  | .shortWrite n => isRouter n
  | .readReq n => isRouter n
  | .readResp n => isRouter n
  | .controlWrite n => isRouter n
  | .ack n => isRouter n
  | .nack n => isRouter n
  | .reducePacket n p => isRouter n && isPort n p.port && decide (p.ecc.corrected + p.ecc.payload + p.ecc.header ≤ 72)
  | .reduceStall n p nc => isRouter n && isPort n p && decide (nc < 2 ^ 32)
  | .frameLaunch n k => isStraight n && isPosition k
  | .mcastFrame n k sender _ => isStraight n && isPosition k && isPosition sender
  | .carriedFrame n k sender _ => isStraight n && isPosition k && isPosition sender
  | .relayForward n k => isStraight n && isPosition k
  | .statusSlot n k _ => isStraight n && isPosition k
  | .retransmission n k => isStraight n && isPosition k
  | .portAbsent n k => isStraight n && isPosition k
  | .tadpoleForward n o _ => isTad n && isTadPort n o
  | .tadpoleRegRead n => isTad n
  | .tadpoleRegWrite n => isTad n
  | .regReply h => isHub h
  | .regReplyTimeout h => isHub h
  | .doorbell t => isTile t
  | .cut t => isTile t
  | .ceiling t => isTile t
  | .issueWindow t _ => isTile t
  | .notice => true
  | .stepEnd => true
  | .noticeQueueSend n => isTad n
  | .frame => true
  | .frameOverdue j => isJob j
  | .epochSwitchStart => true
  | .prepare n => isTad n
  | .route n => isTad n
  | .prepareAck => true
  | .prepareAckTimeout n => isTad n
  | .commit n => isTad n
  | .commitAck => true
  | .epochDrained => true
  | .drainTimeout n => isRouter n
  | .retire n => isTad n
  | .groupPurge n => isRouter n
  | .invalidate t => isTile t
  | .invalidateSweepDone t => isTile t
  | .invalidateAck => true
  | .invalidateTimeout t => isTile t
  | .syncBroadcast => true
  | .sync n res => isTad n && decide (res < 2 ^ 32)
  | .syncMissed t => isTile t
  | .mirrorSlew n => isRouter n
  | .delayReq n p => isTad n && isTadPort n p
  | .delayResp n p trip => isTad n && isTadPort n p && decide (trip < 65536)
  | .neighbourSilent n p => isTad n && isTadPort n p
  | .sendTrackerTimeout t k => isTile t && isSlot k
  | .controlWriteTimeout t => isTile t
  | .tileXferPurge t part => isTile t && decide (part < 65536)
  | .ingestDecode h n => isHub h && isContext n
  | .itemDelivery h n => isHub h && isContext n
  | .ethernetFrame e p sub _ len => isEngine e && decide (p < 8) && decide (sub < 4) && decide (len < 16384)
  | .egressItem h n => isHub h && isContext n
  | .hubSqTail h q tail _ _ => isHub h && isPair q && decide (tail < 2 ^ 32)
  | .hubCqHead h q head => isHub h && isPair q && decide (head < 2 ^ 32)
  | .hubQpCtrlEnable h q => isHub h && isPair q
  | .hubQpCtrlDisable h q => isHub h && isPair q
  | .commandFetch h => isHub h
  | .replyWrite h q => isHub h && isPair q
  | .coalesceTimeout h q => isHub h && isPair q
  | .hubLinkReset h _ => isHub h
  | .busMasterClear h => isHub h
  | .hubHostBindHi h v => isHub h && decide (v < 2 ^ 32)
  | .hubStreamFreed h n v => isHub h && isContext n && decide (v < 2 ^ 32)
  | .nop h q => isHub h && isPair q
  | .identify h q => isHub h && isPair q
  | .getFeature h q => isHub h && isPair q
  | .setFeature h q => isHub h && isPair q
  | .regRead h q => isHub h && isPair q
  | .regWrite h q => isHub h && isPair q
  | .partitionCreate h q => isHub h && isPair q
  | .partitionDestroy h q => isHub h && isPair q
  | .partitionReset h q => isHub h && isPair q
  | .regionDefine h q => isHub h && isPair q
  | .regionRelease h q => isHub h && isPair q
  | .storeFill h q => isHub h && isPair q
  | .storeWrite h q => isHub h && isPair q
  | .storeRead h q => isHub h && isPair q
  | .weightLoad h q => isHub h && isPair q
  | .codeLoad h q => isHub h && isPair q
  | .windowOpen h q => isHub h && isPair q
  | .windowClose h q => isHub h && isPair q
  | .mcastGroupSet h q => isHub h && isPair q
  | .rgroupSet h q => isHub h && isPair q
  | .streamOpen h q => isHub h && isPair q
  | .streamClose h q => isHub h && isPair q
  | .jobStart h q => isHub h && isPair q
  | .jobFeed h q => isHub h && isPair q
  | .stepCommit h q => isHub h && isPair q
  | .stepReplay h q => isHub h && isPair q
  | .jobStatus h q => isHub h && isPair q
  | .jobStop h q => isHub h && isPair q
  | .phaseSet h q => isHub h && isPair q
  | .powerQuery h q => isHub h && isPair q
  | .healthQuery h q => isHub h && isPair q
  | .unitShed h q => isHub h && isPair q
  | .unitRegrow h q _ => isHub h && isPair q
  | .unitWatchClear h q => isHub h && isPair q
  | .logRead h q => isHub h && isPair q
  | .timeSync h q => isHub h && isPair q
  | .configRead h q => isHub h && isPair q.pair
  | .configWrite h q => isHub h && isPair q.pair
  | .firmwareStage h q => isHub h && isPair q.pair
  | .firmwareActivate h q => isHub h && isPair q.pair
  | .linkQuery h q => isHub h && isPair q
  | .commitSweepDone j => isJob j
  | .freezeTimeout t k => isTile t && isSlot k
  | .tileRebuild t => isTile t
  | .slotReadyTimeout t k => isTile t && isSlot k
  | .drain kind wher sub => decide (kind < 256) && decide (wher < 65536) && decide (sub < 65536)
  | .drainLimit kind wher sub => decide (kind < 256) && decide (wher < 65536) && decide (sub < 65536)
  | .healthSample => true
  | .healthRingWrite => true
  | .scoreFreezeEnd => true
  | .hubHeartbeat h => isHub h
  | .hubLost h => isHub h
  | .feedQualify f volts _ => decide (f < 2) && decide (volts < 65536)
  | .feedDrop f volts _ => decide (f < 2) && decide (volts < 65536)
  | .ibcFault n => decide (n < 36)
  | .domainShort d => decide (d < 18)
  | .pmcAllocate _ => true
  | .tileShort t => isTile t
  | .thermalTrip t => isTile t
  | .droopAlarm t m sample => isTile t && decide (m < 8) && decide (sample < 1024)
  | .tileDroopRearm t m sample => isTile t && decide (m < 8) && decide (sample < 1024)
  | .crackStepJudge t qd di dv => isTile t && decide (qd < 4) && decide (di < 65536) && decide (dv < 65536)
  | .crackPhaseCheck t _ => isTile t
  | .regionPowerUp d => decide (d < 16)
  | .powerupResume => true
  | .powerupRelease => true
  | .currentTrip t amps => isTile t && decide (amps < 65536)
  | .tripClear t _ => isTile t
  | .oppGrant => true
  | .oppChange j => isJob j
  | .setPowerCap cap hb => decide (cap < 2 ^ 32) && decide (hb < 256)
  | .getPowerReading => true
  | .heartbeat => true
  | .getTid => true
  | .getPldmVersion => true
  | .getPldmTypes => true
  | .getPldmCommands => true
  | .contactLost => true
  | .safeCapEntry => true
  | .coolantSample _ inlet outlet flow status sq => decide (inlet < 65536) && decide (outlet < 65536) && decide (flow < 65536) && decide (status < 65536) && decide (sq < 65536)
  | .pumpFaultN _ => true
  | .slowFallAlert _ => true
  | .heatBalanceCheck => true
  | .tileTempSample t _ _ => isTile t
  | .thermalLimit t => isTile t
  | .holdRestore => true
  | .coolingPowerDown => true
  | .coolingPowerRestore => true
  | .laserSample e las power _ => isEngine e && decide (las < 4) && decide (power < 65536)
  | .linkTraining t p _ _ => isTile t && isLink p
  | .retrain t p => isTile t && isLink p
  | .linkUp t p _ => isTile t && isLink p
  | .laneLockLost t p => isTile t && isLink p
  | .siluaTraining e p lanes partner version => isEngine e && decide (p < 8) && decide (lanes < 16) && decide (partner < 65536) && decide (version < 65536)
  | .cell e p _ sym => isEngine e && decide (p < 8) && decide (sym < 65536)
  | .returnMapExpiry e => isEngine e
  | .coldReset => true
  | .bootStep h _ => isHub h
  | .bootStepTimeout h => isHub h
  | .panelReset h => isHub h
  | .bootWatchdog h => isHub h
  | .leadClaim h => isHub h
  | .leadClaimTimeout => true
  | .hubJoin h => isHub h
  | .hubBootRecoveryGo h => isHub h
  | .referenceLoss n => isRouter n
  | .debugChallenge h => isHub h
  | .debugToken h sr st => isHub h && decide (sr < 2 ^ 384) && decide (st < 2 ^ 384)
  | .panelTimeLo h => isHub h
  | .hubEventStatus h v => isHub h && decide (v < 2 ^ 32)
  | .hubEventMask h v => isHub h && decide (v < 2 ^ 32)
  | .hubEventCfg h v => isHub h && decide (v < 2 ^ 32)
  | .hubEvent h bit => isHub h && decide (bit < 10)
  | .straightRecalibration n wg => isStraight n && decide (wg.live < 16)
  | .replayRewind j => isJob j
  | .pcieLinkTraining h rate width => isHub h && decide (rate ≤ 6) && decide (width ≤ 16)
  | .msixVectorUnmask h v => isHub h && decide (v < 2048)
  | .barAccess h bar _ n _ _ => isHub h && decide (bar < 5) && isBytes n
  | .debugAccess h kind _ _ v => isHub h && decide (kind < 8) && decide (v < 2 ^ 32)
  | .standbyRailLoss => true
  | .unsupportedPldmCmd code => decide (code < 65536)

end Sys2Proof
end

