-- ==== Sys2Proof/Decode.lean ====
section
/-! DEFINITION. The command that a word spells by the command table's bits. No row of the table gives bits, so no word
spells a command (the host's commands reach the block as records in host memory, which COMMAND_FETCH reads). -/

namespace Sys2Proof

/-- The command spelled by a word of `nbits` bits. -/
def decodeTableWord (_nbits _w : Nat) : Option Instr := none

end Sys2Proof
end

