-- ==== Sys2Proof/Machine/HubWrite.lean ====
section
/-! DEFINITION. Writes to hub register space, the doorbell and stream words of BAR2, BAR accesses (R7, R345–R356, R361, R430,
R435, R485, R532–R546). -/

namespace Sys2Proof.Machine

/-- The unmasked event bits are set (R546). -/
def Hub.anyEvent (u : Hub) : Bool := u.openEvents ≠ 0

/-- A W1C write to HUB_EVENT_STATUS (R546). -/
def Sys.eventStatusWrite (s : Sys) (h v : Nat) : Sys :=
  let u := s.hub h
  let old := u.reg 0x104
  let u := u.setReg 0x104 (old - (old &&& v))
  let s := s.setHub h u
  if u.anyEvent then s.eventMsg h else s
/-- A write to HUB_EVENT_MASK (R546). -/
def Sys.eventMaskWrite (s : Sys) (h v : Nat) : Sys :=
  let u := (s.hub h).setReg 0x108 (v % 2 ^ 10)
  let s := s.setHub h u
  if u.anyEvent then s.eventMsg h else s
/-- A write to HUB_EVENT_CFG (R546). -/
def Sys.eventCfgWrite (s : Sys) (h v : Nat) : Sys :=
  let u := s.hub h
  let was := bitOf (u.reg 0x100) 11
  let u := u.setReg 0x100 (v % 2 ^ 12)
  let s := s.setHub h u
  if !was && bitOf v 11 && u.anyEvent then s.eventMsg h else s

/-- The entry tables whose entries change only while VALID is 0: base, stride, VALID bit and the bits of word 0 that name
the entry (R430, R435, R485). Log entry 72. -/
def lockedTable (off : Nat) : Option (Nat × Nat × Nat × Nat) :=
  if 0x70000 ≤ off && off < 0x78000 then some (0x70000, 8, 20, 0xFFFFF)
  else if 0x78000 ≤ off && off < 0x7C000 then some (0x78000, 16, 21, 0)
  else if 0x80000 ≤ off && off < 0x90000 then some (0x80000, 16, 14, 0x3FFF)
  else none

/-- A write to such a table: false where it is refused: a valid entry changed in more than VALID, or a second valid entry
of one name. Log entry 72. -/
def Sys.tableWrite (s : Sys) (h off v : Nat) (t : Nat × Nat × Nat × Nat) : Bool × Sys :=
  let (base, stride, vbit, name) := t
  let u := s.hub h
  let mask := match regAt hubRows off with
    | some r => r.rw
    | none => 0
  let v := v &&& mask
  let first := base + (off - base) / stride * stride
  let w0 := u.reg first
  let valid := bitOf w0 vbit
  let flip (x : Nat) : Nat := if bitOf x vbit then x - 2 ^ vbit else x
  if valid && (if off = first then decide (flip v ≠ flip w0) else decide (v ≠ u.reg off)) then (false, s)
  else if off = first && bitOf v vbit && !valid && name ≠ 0 &&
      u.regs.any (fun r => decide (base ≤ r.1) && decide (lockedTable r.1 = some t) && (r.1 - base) % stride = 0 &&
        bitOf r.2 vbit && decide (r.2 &&& name = v &&& name)) then (false, s)
  else (true, s.setHub h (u.setReg off v))

/-- A queue pair register (R348, R352, R354): false where the value is refused. -/
def Sys.qpWrite (s : Sys) (h off v : Nat) : Bool × Sys :=
  let u := s.hub h
  let q := (off - 0x10000) / 0x40
  let j := off % 0x40
  if !u.ready then (true, s)
  else if j = 0x1C then
    (true, if v % 4 = 1 then s.qpEnable h q else if v % 4 = 2 then s.qpDisable h q else s)
  else if j ≥ 0x1C || !u.bound then (true, s)
  else if (u.qp q).state ≠ 0 then (true, s.log 0x0002 1 0 (2048 * h + q) 0 0)
  else if j = 0x18 && v % 256 = 0 then (false, s)
  else
    match regAt hubRows off with
    | some r => (true, s.setHub h (u.setReg off (v &&& r.rw)))
    | none => (true, s)

/-- An MSI-X table word (R345, R360); clearing the mask bit sends a held message. -/
def Sys.msixWrite (s : Sys) (h off v : Nat) : Sys :=
  let n := (off - 0x40000) / 16
  let u := s.hub h
  let e := NMap.get {} u.msix n
  let put (e : Msix) : Sys := s.setHub h { u with msix := NMap.put u.msix n e }
  let j := off % 16
  if j = 0 then put { e with addr := e.addr - e.addr % 2 ^ 32 + v % 2 ^ 32 }
  else if j = 4 then put { e with addr := e.addr % 2 ^ 32 + 2 ^ 32 * (v % 2 ^ 32) }
  else if j = 8 then put { e with data := v % 2 ^ 32 }
  else if bitOf v 0 then put { e with masked := true }
  else s.msixUnmask h n

/-- A write to hub register `off`: false where the register refuses it (R7, R61, R294, R534). Log entry 72. -/
def Sys.hubRegWrite (s : Sys) (h off v : Nat) : Bool × Sys :=
  let u := s.hub h
  if off = 0x48 then (true, s.setHub h { u with bindLo := v % 2 ^ 32 })
  else if off = 0x4C then (true, s.bindHi h (v % 2 ^ 32))
  else if off = 0x100 then (true, s.eventCfgWrite h v)
  else if off = 0x104 then (true, if v = 0 then s else s.eventStatusWrite h v)
  else if off = 0x108 then (true, s.eventMaskWrite h v)
  else if 0x10000 ≤ off && off < 0x30000 then s.qpWrite h off v
  else if 0x40000 ≤ off && off < 0x48000 then (true, s.msixWrite h off v)
  else if off = 0x50808 then (true, if bitOf v 0 then s.panelReset h else s)
  else if off = 0x5081C then (true, if bitOf v 0 then s.recoveryGo h else s)
  else
    match lockedTable off with
    | some t => s.tableWrite h off v t
    | none =>
      match regAt hubRows off with
      | some r => (true, s.setHub h (u.setReg off (regWritten r (u.reg off) v)))
      | none => (true, s)

/-! BAR accesses (R345, R346). -/

/-- HUB_STREAM_FREED (R361): a count beyond what the ring can hold is ignored and logged. -/
def Sys.streamFreed (s : Sys) (h n v : Nat) : Sys :=
  let u := s.hub h
  let c := u.ctx n
  if !c.isOpen || !c.egress then s
  else if countDiff c.head v > c.outDepth then s.log 0x0005 1 0 0 0 n
  else s.setHub h (u.setCtx n { c with freed := v % 2 ^ 32 })

/-- A word of BAR2 as it reads (R353, R361). -/
def Sys.bar2Reg (s : Sys) (h off : Nat) : Nat :=
  if 0x100000 ≤ off && off < 0x200000 then
    let c := (s.hub h).ctx ((off - 0x100000) / 8)
    if off % 8 = 0 then c.head % 2 ^ 32 else c.freed
  else 0

/-- A word of BAR0 or BAR2 read by the host: its value and what the read does (R7, R534). -/
def Sys.barRead (s : Sys) (h bar off : Nat) : Nat × Sys :=
  if bar = 0 then (s.hubReg h off % 2 ^ 32, s.hubReadEffect h off) else (s.bar2Reg h off, s)

/-- A word of BAR0 or BAR2 written by the host. -/
def Sys.barWrite (s : Sys) (h bar off v : Nat) : Sys :=
  if bar = 0 then (s.hubRegWrite h off (v % 2 ^ 32)).2
  else if off < 0x4000 then
    (if off % 8 = 0 then s.sqTail h (off / 8) (v % 2 ^ 32) else s.cqHead h (off / 8) (v % 2 ^ 32))
  else if 0x100000 ≤ off && off < 0x200000 && off % 8 = 4 then s.streamFreed h ((off - 0x100000) / 8) (v % 2 ^ 32)
  else s

/-- The job status page (R394, R395). -/
def Sys.statusPage (s : Sys) (off n : Nat) : Nat :=
  (List.range n).foldl (fun a i => a + 2 ^ (8 * i) * byteOf ((s.job ((off + i) / 64)).word ((off + i) / 64)) ((off + i) % 64)) 0

/-- A host access to a BAR (R346): an access of another size or alignment reads all ones or is ignored, and is logged; an
8-byte access is two of 4. What a read answers is kept. -/
def Sys.barAccess (s : Sys) (h bar off n : Nat) (write : Bool) (v : Nat) : Sys :=
  let u := s.hub h
  if !u.memSpace || u.linkRate = 0 then s
  else if bar = 4 then
    (if write then s else { s with answer := s.statusPage off n })
  else if (n ≠ 4 && n ≠ 8) || off % n ≠ 0 then
    let s := s.log 0x0001 1 0 0 0 (bar + 2 ^ 32 * off)
    if write then s else { s with answer := 2 ^ (8 * n) - 1 }
  else if write then
    let s := s.barWrite h bar off v
    if n = 8 then s.barWrite h bar (off + 4) (v / 2 ^ 32) else s
  else
    let (a, s) := s.barRead h bar off
    if n = 8 then
      let (b, s) := s.barRead h bar (off + 4)
      { s with answer := a + 2 ^ 32 * b }
    else { s with answer := a }

end Sys2Proof.Machine
end

