-- ==== Sys2Proof/Machine/CmdCore.lean ====
section
/-! DEFINITION. What every command shares: layouts and reserved fields, targets, partitions, the order of checks, buffers
and replies (R4, R9, R13, R359, R366–R372, R374). -/

namespace Sys2Proof.Machine

/-! Layouts (R366, R373, R378, and the tables of the chapter "Command set"). -/

/-- The fields of a unit command (R378). -/
def unitFields : List (Nat × Nat × Nat) := [(8, 1, 8), (10, 2, 16), (12, 2, 16)]
/-- The parameter fields of an opcode: byte offset, bytes, bits in use. -/
def cmdFields (op : Nat) : List (Nat × Nat × Nat) :=
  if op = 0x01 then [(8, 8, 64)]
  else if op = 0x02 || op = 0x03 || op = 0x50 || op = 0x51 then [(8, 2, 16), (10, 2, 16), (12, 4, 32), (16, 8, 64)]
  else if op = 0x04 || op = 0x05 then [(8, 4, 24), (12, 2, 16), (14, 1, 8), (15, 1, 1), (16, 8, 64), (24, 4, 32)]
  else if op = 0x08 then [(16, 30, 240)]
  else if op = 0x10 then [(8, 1, 8), (9, 1, 2), (10, 1, 2), (12, 4, 18), (16, 4, 19), (20, 2, 16)]
  else if op = 0x11 then [(8, 1, 8)]
  else if op = 0x12 || op = 0x13 || op = 0x14 then [(8, 1, 8), (12, 4, 32), (16, 4, 32), (24, 8, 64)]
  else if op = 0x15 then [(8, 1, 8), (9, 1, 1), (10, 2, 16), (16, 8, 64)]
  else if op = 0x18 then [(8, 1, 8), (9, 1, 1)]
  else if op = 0x20 then
    [(8, 1, 8), (9, 1, 5), (10, 1, 2), (11, 1, 8), (12, 1, 8), (16, 4, 32), (20, 4, 32), (24, 8, 64)]
  else if op = 0x21 then [(8, 1, 8), (9, 1, 8)]
  else if op = 0x22 then [(8, 1, 8), (9, 1, 3), (10, 2, 16), (16, 8, 64)]
  else if op = 0x23 then
    [(8, 2, 16), (10, 1, 8), (11, 1, 8), (12, 2, 10), (14, 2, 16), (16, 8, 64), (24, 2, 16), (26, 1, 8), (27, 1, 8), (28, 1, 1)]
  else if op = 0x28 then [(8, 4, 32), (16, 8, 64)]
  else if op = 0x29 then [(8, 4, 32)]
  else if op = 0x30 then
    [(8, 8, 64), (16, 2, 16), (18, 1, 8), (19, 1, 4), (20, 4, 32), (24, 4, 32), (28, 4, 32), (32, 2, 16), (34, 2, 16),
     (36, 4, 32), (40, 4, 32), (48, 8, 64)]
  else if op = 0x31 then [(8, 4, 32), (12, 4, 32)]
  else if op = 0x32 then [(8, 8, 64), (16, 4, 32), (20, 1, 1)]
  else if op = 0x33 then [(8, 8, 64)]
  else if op = 0x34 then [(8, 8, 64), (16, 8, 64)]
  else if op = 0x35 then [(8, 8, 64), (16, 1, 1)]
  else if op = 0x38 then [(8, 8, 64), (16, 1, 8)]
  else if op = 0x39 then [(8, 8, 64), (16, 4, 32)]
  else if op = 0x40 || op = 0x58 then unitFields ++ [(16, 8, 64), (24, 4, 32)]
  else if op = 0x41 || op = 0x42 || op = 0x43 then unitFields
  else if op = 0x48 then [(8, 4, 32), (12, 4, 32), (16, 8, 64)]
  else if op = 0x52 then [(8, 8, 64), (16, 4, 32)]
  else []

/-- Reserved bits of a record that are not zero: the offset of the first field or run of bytes that holds one (R4, R368).
`fields` lists offset, bytes and bits in use; `len` is the record's length. -/
def reservedBad (fields : List (Nat × Nat × Nat)) (v len : Nat) : Option Nat :=
  let byteBad (i : Nat) : Bool :=
    match fields.find? (fun f => decide (f.1 ≤ i) && decide (i < f.1 + f.2.1)) with
    | some f => decide (8 * (i + 1 - f.1) > f.2.2) && decide (byteOf v i / 2 ^ (f.2.2 - 8 * (i - f.1)) ≠ 0)
    | none => decide (byteOf v i ≠ 0)
  match (List.range len).find? byteBad with
  | none => none
  | some i =>
    match fields.find? (fun f => decide (f.1 ≤ i) && decide (i < f.1 + f.2.1)) with
    | some f => some f.1
    | none => some ((fields.map (fun f => f.1 + f.2.1)).foldl (fun a e => if e ≤ i then max a e else a) 0)

/-- A parameter of a command. -/
def Cmd.p (c : Cmd) (o n : Nat) : Nat := cmdF c.raw o n

/-! Targets and partitions (R369, R372). -/

/-- The opcodes that only a panel queue may issue (R372). -/
def panelOnly (op : Nat) : Bool := [0x03, 0x08, 0x09, 0x41, 0x42, 0x43, 0x48, 0x50, 0x51, 0x52, 0x53].contains op
/-- An EID is one of the kinds that an opcode accepts as its target. -/
def targetKind (op eid : Nat) : Bool :=
  let store := decide (0x1000 ≤ eid) && decide (eid ≤ 0x10EF)
  let ctrl := decide (0x1100 ≤ eid) && decide (eid ≤ 0x11EF)
  let hub := eid = 0x1200 || eid = 0x1201
  let slot := decide (eid < 0x0F00)
  if op = 0x04 || op = 0x05 then ctrl || hub
  else if 0x10 ≤ op && op ≤ 0x14 then store
  else if op = 0x15 || op = 0x18 then slot
  else if op = 0x20 || op = 0x21 || op = 0x22 then store || hub
  else if op = 0x28 || op = 0x29 || op = 0x31 then hub
  else false
/-- The command is addressed by PTILE (R375). -/
def Cmd.phys (c : Cmd) : Bool := (c.op = 0x04 || c.op = 0x05) && bitOf (c.p 15 1) 0
/-- The opcode takes no target. -/
def noTarget (op : Nat) : Bool := !(targetKind op 0x1200 || targetKind op 0x1000 || targetKind op 0x1100 || targetKind op 0)
/-- The target is one that the opcode accepts and, where it is a tile's, one that the current epoch maps. Log entry 57. -/
def Sys.targetOk (s : Sys) (c : Cmd) : Bool :=
  if noTarget c.op || c.phys then c.target = 0
  else targetKind c.op c.target && (c.target = 0x1200 || c.target = 0x1201 || (s.tileOfEid c.target).isSome)

/-- The partition that a logical tile belongs to, 0 for none. -/
def Sys.partOfTile (s : Sys) (l : Nat) : Nat := ((s.lead.partitions.find? (fun p => bitOf p.2.tiles l)).map (fun p => p.1)).getD 0
/-- The target belongs to the command's partition; a hub belongs to none (R369). -/
def Sys.targetMine (s : Sys) (c : Cmd) : Bool :=
  if noTarget c.op || c.phys then true
  else match logicalOf c.target with
    | some l => s.partOfTile l = c.partition
    | none => true

/-- Opcodes of the whole panel, which carry partition ID 0 (R366, R369). -/
def panelScope (op : Nat) : Bool := panelOnly op && op ≠ 0x08 && op ≠ 0x09
/-- The partition ID names a partition, or is 0 where a command of the panel's scope may carry it (R369). -/
def Sys.partitionOk (s : Sys) (c : Cmd) : Bool :=
  if c.op = 0x08 then true
  else if panelScope c.op then c.partition = 0
  else (c.partition = 0 && c.op ≠ 0x09 && c.op ≠ 0x0A) || (NMap.find s.lead.partitions c.partition).isSome

/-- The checks that every command has (R4, R13, R366, R369): the indices that fail. -/
def Sys.headBad (s : Sys) (c : Cmd) : List (Nat × Nat) :=
  let flags := c.p 1 1
  (if flags ≥ 8 || (c.pollWord && c.op ≠ 0x30) then [(1, 0)] else []) ++
  (if s.partitionOk c then [] else [(4, 0)]) ++
  (if s.targetOk c then [] else [(6, 0)]) ++
  (match reservedBad ((0, 8, 64) :: cmdFields c.op) c.raw 64 with
   | some i => [(i, 0)]
   | none => [])

/-- The failing field of lowest offset, with the result that goes with it (R13). Log entry 79. -/
def lowestBad (l : List (Nat × Nat)) : Option (Nat × Nat) :=
  l.foldl (fun (a : Option (Nat × Nat)) x => match a with
    | none => some x
    | some b => if x.1 < b.1 then some x else some b) none
/-- A check that fails unless `ok`. -/
def fails (i : Nat) (ok : Bool) : List (Nat × Nat) := if ok then [] else [(i, 0)]
/-- What stands in place of a result where a field fails with NOT_PERMITTED; no 64-bit result reaches it. -/
def denyMark : Nat := 2 ^ 64
/-- A check of a field that fails with NOT_PERMITTED unless `ok`. -/
def denies (i : Nat) (ok : Bool) : List (Nat × Nat) := if ok then [] else [(i, denyMark)]

/-! Replies. -/

def Reply.ok (r : Nat) : Reply := { result := r }
def Reply.empty (r : Nat) : Reply := { status := stSuccessEmpty, result := r }
def Reply.bad (i r : Nat) : Reply := { status := stInvalidField, field := i, result := r }
def Reply.deny (i : Nat) : Reply := { status := stNotPermitted, field := i }
def Reply.busy (r : Nat) : Reply := { status := stBusy, result := r }
/-- Checks of what a host buffer holds: none where it cannot be read, and the command then ends on that (R13, R370). -/
def whenRead {α : Type} (o : Option α) (f : α → List (Nat × Nat)) : List (Nat × Nat) :=
  match o with
  | some v => f v
  | none => []
/-- A failing entry or record field in the buffer whose address is at offset `i` (R368). -/
def failsAt (i : Nat) (bad : Option Nat) : List (Nat × Nat) :=
  match bad with
  | some k => [(i, k)]
  | none => []
/-- A read of a host buffer failed (R365, R370). -/
def Reply.noRead (i done : Nat) : Reply := { status := stInternalError, field := i, result := done }
/-- A tile's answer as a reply. -/
def Ans.reply (a : Ans) : Reply := { status := a.status, field := a.field, result := a.result }

/-- The job slot that a handle names: the slot, the partition and the serial agree (R391). -/
def Sys.jobOfHandle (s : Sys) (c : Cmd) : Option Nat :=
  let v := c.p 8 8
  let n := v % 4096
  match NMap.find s.lead.jobs n with
  | some j => if j.state ≠ .idle && v = j.handle n && j.spec.partition = c.partition then some n else none
  | none => none
/-- A reply to a command that names a job. -/
def Cmd.withHandle (c : Cmd) (r : Reply) : Reply := { r with handle := c.p 8 8 }
/-- The reply of a command whose fields fail, with the handle where it names a job (R367). -/
def Sys.refusal (s : Sys) (c : Cmd) (r : Reply) : Reply :=
  if [0x32, 0x33, 0x34, 0x35, 0x38].contains c.op && (s.jobOfHandle c).isSome then c.withHandle r else r

/-- One command executed (R13, R357–R359, R366–R370): the next of pair `q` on hub `h`, where it has opcode `op` and may
start. Where fields fail, the one of lowest offset is named, with INVALID_FIELD or, where the queue or the partition
forbids it, NOT_PERMITTED. A command whose fields all pass has its opcode's own effect, whose reply may come later. Log
entry 79. -/
def Sys.command (s : Sys) (h q op : Nat) (bad : Sys → Cmd → List (Nat × Nat)) (run : Sys → Cmd → Option Reply × Sys) : Sys :=
  let u := s.hub h
  if !u.live || !u.ready then s
  else
    match s.nextCmd h q op with
    | none => s
    | some c =>
      let s := s.markStarted h q c.num
      let own := u.qpOwner q
      let answer (s : Sys) (r : Reply) : Sys := s.pushReply h q c.num r
      let checks := denies 0 (own = 0 || !panelOnly op) ++ denies 4 (own = 0 || c.partition = own) ++ s.headBad c ++
        denies 6 (s.targetMine c) ++ bad s c
      match lowestBad checks with
      | some (i, r) => answer s (s.refusal c (if r = denyMark then Reply.deny i else Reply.bad i r))
      | none =>
        match run s c with
        | (some r, s) => answer s r
        | (none, s) => s

/-- A command whose reply is always given at once. -/
def now_ (f : Sys → Cmd → Reply × Sys) : Sys → Cmd → Option Reply × Sys := fun s c => (some (f s c).1, (f s c).2)
/-- No checks of its own. -/
def noChecks : Sys → Cmd → List (Nat × Nat) := fun _ _ => []

/-- A record of `size` bytes written to a buffer of `len` bytes (R374): the status. -/
def Sys.cutRecord (s : Sys) (addr len size v : Nat) : Nat × Sys :=
  if len = 0 then (stSuccessEmpty, s)
  else (if len ≥ size then stSuccess else stPartial, s.hostWrite addr (min len size) v)

/-- Entries of a host list, each of `w` bytes; none where the read fails. -/
def Sys.hostList (s : Sys) (addr w n : Nat) : Option (List Nat) :=
  if n = 0 then some []
  else (s.hostRead addr (w * n)).map (fun v => (List.range n).map (fun i => bitsOf v (8 * w * i + 8 * w - 1) (8 * w * i)))

/-- The first index at which `f` holds. -/
def firstIndex (l : List Nat) (f : Nat → Nat → Bool) : Option Nat := (List.range l.length).find? (fun i => f i (l.getD i 0))

end Sys2Proof.Machine
end

