-- ==== Sys2Proof/Machine/CmdPanel.lean ====
section
/-! DEFINITION. Panel services and unit commands: identity, features, registers, log, time, configuration, firmware, health,
shedding and regrowing units, links (R38, R373–R379, R419, R437, R455, R476, R484, R498, R502, R514–R521, R549). -/

namespace Sys2Proof.Machine

/-! IDENTIFY (R549). -/

/-- The tiles in service. -/
def Sys.inService (s : Sys) : List Nat := (s.lead.place.map (fun e => e.2)).filter (fun t => !(s.tile t).shed)
/-- The slots of a tile in service. -/
def Tile.slotsInService (t : Tile) : Nat := ((List.range 16).filter (fun k => (NMap.get {} t.slots k).state ≠ .shed)).length
/-- The entry of a physical tile. -/
def Sys.identTile (s : Sys) (t : Nat) : Nat :=
  let x := s.tile t
  let step := if (NMap.find s.boot.caps t).isSome then Config.dieStepping t % 256 else 0
  (if x.shed then 255 else x.logical.getD 255) + 2 ^ 8 * s.unitState ukTile t 0 + 2 ^ 16 * step + 2 ^ 24 * (17 - popCount x.shedMask 17) +
    2 ^ 32 * x.store.holes.length
/-- The identity record. -/
def Sys.identity (s : Sys) : Nat :=
  let serving := s.inService
  let live (h : Nat) : Bool := (s.hub h).live
  let hubs := bitNat (live 0) + bitNat (live 1)
  let version (h : Nat) : Nat := if live h then (s.bootHub h).version else 0
  let step (h : Nat) : Nat := if live h then Config.dieStepping (256 + h) % 256 else 0
  let sum (f : Nat → Nat) : Nat := (serving.map f).foldl (· + ·) 0
  let cores := sum (fun t => (s.tile t).slotsInService)
  let usable := 512 * sum (fun t => 262144 - (s.tile t).store.holes.length)
  let parity := 512 * sum (fun t => (((s.tile t).store.valid.filter (fun r => r.2.cls = 1)).map (fun r => r.2.size / 8)).foldl (· + ·) 0)
  let tiles := (List.range 256).foldr (fun t v => s.identTile t + 2 ^ 64 * v) 0
  -- ASCII "VB256", zero-padded
  1 + 2 ^ 32 * 0x3635324256 + 2 ^ 128 * (Config.panelSerial % 2 ^ 64) + 2 ^ 192 * s.boot.panelId + 2 ^ 208 * s.boot.feature +
    2 ^ 224 * s.lead.epoch + 2 ^ 232 * s.lead.hub + 2 ^ 240 * (bitNat (live 0) + 2 * bitNat (live 1)) +
    2 ^ 248 * s.lead.partitions.length + 2 ^ 256 * (version 0 % 2 ^ 32) + 2 ^ 288 * (version 1 % 2 ^ 32) +
    2 ^ 320 * step 0 + 2 ^ 328 * step 1 + 2 ^ 336 * serving.length + 2 ^ 352 * s.freeSpares.length + 2 ^ 384 * cores +
    2 ^ 400 * (2048 * hubs) + 2 ^ 416 * (131072 * hubs) + 2 ^ 448 * usable + 2 ^ 512 * parity +
    2 ^ 576 * (cores * 2097152) + 2 ^ 640 * (s.now % 2 ^ 64) + 2 ^ 16384 * tiles
def Sys.runIdentify : Sys → Cmd → Reply × Sys := fun s c =>
  let v := s.identity
  (Reply.ok (v % 2 ^ 64), s.hostWrite (c.p 8 8) 4096 v)
def badIdentify : Sys → Cmd → List (Nat × Nat) := fun _ c => fails 8 (c.p 8 8 % 4096 = 0)

/-! Features (R374). -/

/-- The distance table of the current epoch (R38). -/
def Sys.distanceTable (s : Sys) : Nat :=
  let entries := (List.range 242).foldr (fun a v => (List.range 242).foldr (fun b v => s.distance a b + 65536 * v) v) 0
  242 + 2 ^ 16 * s.lead.epoch + 2 ^ 24 + 2 ^ 32 * 117144 + 2 ^ 128 * entries
/-- The groups left invalid (R374). -/
def Sys.invalidGroups (s : Sys) : Nat :=
  let l := s.lead.invalid
  l.length + 2 ^ 16 * s.lead.epoch + 2 ^ 64 * l.foldr (fun g v => g.1 + 2 ^ 16 * g.2.1 + 2 ^ 32 * g.2.2 + 2 ^ 64 * v) 0
/-- The POWER_CAP feature (R455). -/
def Sys.powerCap (s : Sys) : Nat :=
  let p := s.power
  p.hostCap + 2 ^ 32 * p.rackCap + 2 ^ 64 * p.inForce + 2 ^ 96 * p.limiter + 2 ^ 104 * p.rackState
/-- A feature's size and value. -/
def Sys.feature (s : Sys) (f i : Nat) : Nat × Nat :=
  if f = 1 then (117144, s.distanceTable)
  else if f = 2 then (64, NMap.get 0 s.lead.profiles i)
  else if f = 3 then (16, s.powerCap)
  else (8 + 8 * s.lead.invalid.length, s.invalidGroups)
/-- The feature, instance and buffer of GET_FEATURE and SET_FEATURE. -/
def badFeature : Sys → Cmd → List (Nat × Nat) := fun _ c =>
  let f := c.p 8 2
  fails 8 (decide (1 ≤ f) && decide (f ≤ 4)) ++ fails 10 (if f = 2 then decide (c.p 10 2 < 256) else c.p 10 2 = 0) ++
    fails 12 (c.p 12 4 ≤ 16777216) ++ fails 16 (c.p 16 8 % 64 = 0)
def Sys.runGetFeature : Sys → Cmd → Reply × Sys := fun s c =>
  let (size, v) := s.feature (c.p 8 2) (c.p 10 2)
  let (st, s) := s.cutRecord (c.p 16 8) (c.p 12 4) size v
  ({ status := st, result := size }, s)

/-- The fields of an ingest profile (R327): the offset of the first that fails on its own. -/
def profileBad (p : Nat) : Option Nat :=
  let f := profFmt p
  let fmt := f = fmtMxInt8 || f = fmtE4M3 || f = fmtE5M2 || f = fmtE2M1 || f = fmtInt8 || f = fmtBF16 || f = fmtFP16
  let size (n : Nat) : Bool := decide (1 ≤ n) && decide (n ≤ 4096)
  (lowestBad
    (fails 0 (fmt && decide (profChannels p ≤ 2) && !bitOf p 7) ++ fails 1 (if f = fmtInt8 then profF p 1 1 ≠ 0x80 else profF p 1 1 = 0) ++
     fails 2 (profKernel p ≤ 2) ++ fails 3 (decide (profRange p ≤ 2) && decide (profF p 3 1 < 16)) ++
     fails 12 (size (profOutW p)) ++ fails 14 (size (profOutH p)) ++
     fails 16 (decide (1 ≤ profBand p) && decide (profBand p ≤ profOutH p)) ++ fails 18 (profF p 18 2 = 0) ++
     fails 44 (profF p 44 20 = 0))).map (fun x => x.1)
/-- An open context of either hub names the profile (R327). -/
def Sys.profileUsed (s : Sys) (i : Nat) : Bool :=
  [0, 1].any (fun h => (s.hub h).ctxs.any (fun c => c.2.isOpen && !c.2.egress && decide (c.2.f 1 1 = i)))
/-- The fields of POWER_CAP (R455): the offset of the first that fails. -/
def capBad (v : Nat) : Option Nat :=
  if v % 2 ^ 32 < 6000 || v % 2 ^ 32 > 20000 then some 0 else if bitsOf v 127 112 ≠ 0 then some 14 else none
/-- The size that SET wants (R374); a GET-only feature takes none. -/
def badSetFeature : Sys → Cmd → List (Nat × Nat) := fun s c =>
  let f := c.p 8 2
  let n := c.p 12 4
  badFeature s c ++ denies 8 (f = 2 || f = 3) ++ fails 12 (n = 0 || (f ≠ 2 && f ≠ 3) || n = (if f = 2 then 64 else 16)) ++
    (if n = 0 then [] else whenRead (s.hostRead (c.p 16 8) n) (fun v => failsAt 16 (if f = 2 then profileBad v else capBad v)))
def Sys.runSetFeature : Sys → Cmd → Reply × Sys := fun s c =>
  let f := c.p 8 2
  if c.p 12 4 = 0 then (Reply.empty 0, s)
  else
    match s.hostRead (c.p 16 8) (c.p 12 4) with
    | none => (Reply.noRead 16 0, s)
    | some v =>
      if f = 2 then
        (if s.profileUsed (c.p 10 2) then (Reply.busy 0, s)
         else (Reply.ok 0, s.modLead (fun l => { l with profiles := NMap.put l.profiles (c.p 10 2) v })))
      else
        let s : Sys := { s with power := { s.power with hostCap := v % 2 ^ 32 } }
        (Reply.ok 0, s.updateCap)

/-! Registers (R375). -/

/-- The fields of REG_READ and REG_WRITE. -/
def badRegs : Sys → Cmd → List (Nat × Nat) := fun _ c =>
  let off := c.p 8 3
  let n := c.p 12 2
  let hub := !c.phys && c.target ≥ 0x1200
  fails 8 (decide (off % 4 = 0) && (hub || decide (off < 0x10000))) ++ fails 12 (n ≤ 256) ++ fails 14 (c.phys || c.p 14 1 = 0) ++
    fails 16 (if n ≥ 2 then decide (c.p 16 8 % 4 = 0) else c.p 16 8 = 0) ++ fails 24 ((c.op = 0x05 && n = 1) || c.p 24 4 = 0)
/-- What a partition queue may reach. -/
def partitionMayReg (c : Cmd) : Bool :=
  let off := c.p 8 3
  let last := off + 4 * c.p 12 2
  !c.phys && decide (c.target < 0x1200) &&
    (c.op = 0x04 || (decide (0x2000 ≤ off) && decide (last ≤ 0x3000)) || (decide (0x1A40 ≤ off) && decide (last ≤ 0x1AC0)))
/-- One word of a hub's register space read or written for a command: the value, or none where it is refused. -/
def Sys.hubWord (s : Sys) (h off : Nat) (write : Bool) (v : Nat) : Option Nat × Sys :=
  if write then
    let (ok, s) := s.hubRegWrite h off v
    (if ok then some 0 else none, s)
  else (some (s.hubReg h off % 2 ^ 32), s.hubReadEffect h off)
/-- The words of a command that names a hub, one at a time in ascending offset. -/
def Sys.hubWords (s : Sys) (h : Nat) (c : Cmd) (fuel done : Nat) : Reply × Sys :=
  match fuel with
  | 0 => (Reply.ok 0, s)
  | fuel + 1 =>
    let n := c.p 12 2
    let off := c.p 8 3 + 4 * done
    let write := c.op = 0x05
    let data := if !write then some 0 else if n = 1 then some (c.p 24 4) else s.hostRead (c.p 16 8 + 4 * done) 4
    match data with
    | none => (Reply.noRead 16 done, s)
    | some v =>
      if off ≥ 0x1000000 then (Reply.bad 8 done, s)
      else
        match s.hubWord h off write v with
        | (none, s) => (Reply.bad 8 done, s)
        | (some r, s) =>
          if n = 1 then (Reply.ok r, s)
          else Sys.hubWords (if write then s else s.hostWrite (c.p 16 8 + 4 * done) 4 r) h c fuel (done + 1)
/-- The fields of REG_READ and REG_WRITE issued on hub `h`'s pair `q`, and what a partition queue may reach. -/
def badRegsOn (h q : Nat) : Sys → Cmd → List (Nat × Nat) := fun s c =>
  badRegs s c ++ denies 8 ((s.hub h).qpOwner q = 0 || partitionMayReg c)
/-- REG_READ and REG_WRITE issued on hub `h`'s pair `q` (R375). -/
def Sys.runRegs (h q : Nat) : Sys → Cmd → Option Reply × Sys := fun s c =>
  if c.p 12 2 = 0 then (some (Reply.empty 0), s)
  else if !c.phys && c.target ≥ 0x1200 then
    let t := c.target - 0x1200
    if !(s.hub t).live then (some { status := stPartial, field := 6 }, s)
    else
      let (r, s) := s.hubWords t c (c.p 12 2) 0
      (some r, s)
  else
    match if c.phys then some (c.p 14 1) else s.tileOfEid c.target with
    | none => (some (Reply.bad 6 0), s)
    | some t => (none, s.regNext h q c.num c.raw t 0)

/-! Power report, log, time (R376, R476). -/

def badPowerQuery : Sys → Cmd → List (Nat × Nat) := fun _ c => fails 8 (c.p 8 8 % 64 = 0)
def Sys.runPowerQuery : Sys → Cmd → Reply × Sys := fun s c =>
  let (st, s) := s.cutRecord (c.p 8 8) (c.p 16 4) 64 s.powerReport
  ({ status := st, result := 64 }, s)

def badLogRead : Sys → Cmd → List (Nat × Nat) := fun _ c => fails 12 (c.p 12 4 ≤ 4096) ++ fails 16 (c.p 16 8 % 64 = 0)
def Sys.runLogRead : Sys → Cmd → Reply × Sys := fun s c =>
  let first := c.p 8 4
  let n := c.p 12 4
  if n = 0 then (Reply.empty 0, s)
  else
    let l := (s.lead.log.filter (fun e => decide (countDiff e.seq first < 2 ^ 31))).take n
    let v := l.foldr (fun e v => e.bytes + 2 ^ 256 * v) 0
    let start := match l.head? with
      | some e => e.seq
      | none => first
    ({ status := if l.length < n then stPartial else stSuccess, result := l.length + 2 ^ 32 * start },
     s.hostWrite (c.p 16 8) (32 * l.length) v)

def Sys.runTimeSync : Sys → Cmd → Reply × Sys := fun s c => (Reply.ok (c.fetched % 2 ^ 64), s)

/-! Configuration (R377, R514–R516, R531). -/

/-- A command that reads or writes flash: where it passes its checks and the flash fails, it ends with FLASH_ERROR and
changes nothing (R377). Log entry 76. -/
def flashed (fail : Bool) (f : Sys → Cmd → Reply × Sys) : Sys → Cmd → Reply × Sys := fun s c =>
  if fail && decide ((f s c).1.status < 0x10 || (f s c).1.status = stAuthFailed) then ({ status := stFlashError }, s) else f s c

/-- The size of a record type, none for a type that R515 does not list. -/
def confSize (ty : Nat) : Option Nat :=
  if ty = 1 then some 72 else if ty = 2 then some 32 else if ty = 3 then some 2048 else if ty = 4 then some 288
  else if ty = 5 then some 8192 else if ty = 6 then some 4 else none
def badConfigRead : Sys → Cmd → List (Nat × Nat) := fun s c =>
  fails 8 (c.p 10 2 = 0 && (s.confRec (c.p 8 2)).isSome) ++ fails 16 (c.p 16 8 % 64 = 0)
def Sys.runConfigRead : Sys → Cmd → Reply × Sys := fun s c =>
  match s.confRec (c.p 8 2) with
  | none => (Reply.bad 8 0, s)
  | some r =>
    let (st, s) := s.cutRecord (c.p 16 8) (c.p 12 4) r.len r.value
    ({ status := st, result := r.len }, s)
/-- A field of a record outside its range, or a reserved bit: its offset (R4, R423, R429, R516, R531). -/
def confBad (ty v : Nat) : Option Nat :=
  let f (o n : Nat) : Nat := bitsOf v (8 * (o + n) - 1) (8 * o)
  let within_ (o n lo hi : Nat) : List (Nat × Nat) := fails o (decide (lo ≤ f o n) && decide (f o n ≤ hi))
  let sig (o : Nat) : Int := signedOf 16 (f o 2)
  let l :=
    if ty = 1 then
      fails 0 (decide (f 0 2 < 4096)) ++
        (List.range 64).flatMap (fun i => fails (8 + i) (decide (f (8 + i) 1 < 8) && decide (f (8 + i) 1 % 4 ≠ 3)))
    else if ty = 2 then
      within_ 0 4 6000 20000 ++ within_ 4 1 1 60 ++ fails 5 (f 5 1 = 0) ++ within_ 6 2 500 10000 ++ within_ 8 2 800 1200 ++
        within_ 10 2 2000 4500 ++ fails 12 (decide (sig 14 < sig 12) && decide (sig 12 < sig 16)) ++ within_ 18 2 0 60000 ++
        fails 20 (f 20 12 = 0)
    else if ty = 5 then (List.range 4096).flatMap (fun i => fails (2 * i) (bitsOf (f (2 * i) 2) 14 11 = 0))
    else if ty = 6 then fails 0 (decide (v < 2))
    else []
  (lowestBad l).map (fun x => x.1)
/-- The debug lock is set for good, and a record would clear it (R531). -/
def Sys.unlocks (s : Sys) (ty v : Nat) : Bool :=
  let locked := match s.confRec 6 with
    | some r => bitOf r.value 0
    | none => false
  ty = 6 && locked && !bitOf v 0
def badConfigWrite : Sys → Cmd → List (Nat × Nat) := fun s c =>
  let ty := c.p 8 2
  let size := if c.p 10 2 = 0 then confSize ty else none
  fails 8 size.isSome ++ fails 12 (size.isNone || size = some (c.p 12 4)) ++ fails 16 (c.p 16 8 % 64 = 0) ++
    (if size = some (c.p 12 4) then
      whenRead (s.hostRead (c.p 16 8) (c.p 12 4)) (fun v => failsAt 16 (confBad ty v) ++ denies 8 (!s.unlocks ty v))
     else [])
/-- A record written to the flash of every live hub with the next sequence number (R513, R514). -/
def Sys.putConf (s : Sys) (ty len v : Nat) : Sys :=
  let top := (((s.flash 0).conf ++ (s.flash 1).conf).map (fun r => r.2.seq)).foldl max 0
  let r : ConfRec := { seq := top + 1, len := len, value := v }
  [0, 1].foldl (fun (s : Sys) h => if (s.hub h).live then s.modFlash h (fun f => { f with conf := NMap.put f.conf ty r }) else s) s
/-- What a record that takes effect at once changes (R429, R455, R515). -/
def Sys.confEffect (s : Sys) (ty : Nat) : Sys :=
  if ty = 2 then
    let p := s.power
    let p := if p.rackState = 0 || p.rackState = 3 then { p with rackCap := s.limit 0 4 12000 } else p
    let p := if p.rackState = 0 then { p with heartbeatS := s.limit 4 1 10 } else p
    ({ s with power := p } : Sys).updateCap
  else if ty = 5 then s.refreshPeers.askSwitch
  else s
def Sys.runConfigWrite : Sys → Cmd → Reply × Sys := fun s c =>
  let ty := c.p 8 2
  match s.hostRead (c.p 16 8) (c.p 12 4) with
  | none => (Reply.noRead 16 0, s)
  | some v => (Reply.ok 0, (s.putConf ty (c.p 12 4) v).confEffect ty)

/-! Firmware (R377, R518–R521). -/

def badStage : Sys → Cmd → List (Nat × Nat) := fun _ c =>
  fails 8 (c.p 8 8 % 4096 = 0) ++ fails 16 (decide (1 ≤ c.p 16 4) && decide (c.p 16 4 ≤ 33554432))
/-- FIRMWARE_STAGE: the image written into the inactive bank of both hubs and authenticated there. Log entry 76. -/
def Sys.runStage : Sys → Cmd → Reply × Sys := fun s c =>
  match s.hostRead (c.p 8 8) (c.p 16 4) with
  | none => (Reply.noRead 8 0, s)
  | some v =>
    let i := imageOf v (c.p 16 4)
    let hubs := [0, 1].filter (fun h => (s.hub h).live)
    let ok := hubs.all (fun h => s.authentic h i)
    let s := hubs.foldl (fun (s : Sys) h =>
      let bank := 1 - (s.bootHub h).bank
      let s := s.modFlash h (fun f => { f with banks := NMap.put f.banks bank (if ok then i else {}) })
      s.modBootHub h (fun b => { b with staged := ok })) s
    (if ok then Reply.ok 0 else { status := stAuthFailed }, s)
/-- FIRMWARE_ACTIVATE: the trial bank is set on both hubs, READY falls, and the reset comes within 10 ms. Log entry 76. -/
def Sys.runActivate : Sys → Cmd → Reply × Sys := fun s _ =>
  let hubs := [0, 1].filter (fun h => (s.hub h).live)
  if s.lead.jobs.any (fun j => j.2.state.live) then (Reply.busy 0, s)
  else if !(s.bootHub s.lead.hub).staged then (Reply.deny 0, s)
  else
    let bank (h : Nat) : Nat := 1 - (s.bootHub h).bank
    let version := ((s.flash s.lead.hub).bank (bank s.lead.hub)).version
    let s := hubs.foldl (fun (s : Sys) h =>
      let s := s.modFlash h (fun f => { f with try_ := some (bank h), tries := 1 })
      (s.modHub h (fun u => { u with ready := false })).event h 0) s
    (Reply.ok version, { s with boot := { s.boot with restartAt := some (s.now + 10000000) } })

/-! Units (R378, R379, R419, R437, R502). -/

/-- A unit's location lies within its kind's range (R378). -/
def unitPlaceOk (kind wher sub : Nat) : Bool :=
  if kind = ukTile then decide (wher < 256) && sub = 0
  else if kind = ukCore then decide (wher < 256) && decide (sub < 17)
  else if kind = ukBank then decide (wher < 256) && decide (sub < 64)
  else if kind = ukTileLink then decide (wher < 256) && decide (sub < 4)
  else if kind = ukLaneGroup then decide (wher < 256) && decide (sub % 256 < 18) && decide (sub < 1024)
  else if kind = ukStraight then decide (wher < 16) && decide (sub < 2)
  else if kind = ukOpticalLane then decide (wher < 8) && decide (sub < 32)
  else if kind = ukLaser then decide (wher < 8) && decide (sub < 4)
  else decide (wher < 256) && (wher % 16 = 0 || wher % 16 = 15) && sub = 0
def badUnit : Sys → Cmd → List (Nat × Nat) := fun _ c =>
  let k := c.p 8 1
  let known := decide (1 ≤ k) && decide (k ≤ 9)
  fails 8 known ++ fails 10 (!known || unitPlaceOk k (c.p 10 2) (c.p 12 2))
def badUnitBuffer : Sys → Cmd → List (Nat × Nat) := fun s c => badUnit s c ++ fails 16 (c.p 16 8 % 64 = 0)
/-- LINK_QUERY names a link, a lane group, an optical lane or a laser (R419, R437). -/
def badLinkQuery : Sys → Cmd → List (Nat × Nat) := fun s c =>
  let k := c.p 8 1
  badUnitBuffer s c ++ fails 8 (k = ukTileLink || k = ukHubLink || k = ukLaneGroup || k = ukOpticalLane || k = ukLaser)

def Sys.runHealthQuery : Sys → Cmd → Reply × Sys := fun s c =>
  let (k, w, b) := (c.p 8 1, c.p 10 2, c.p 12 2)
  let (st, s') := s.cutRecord (c.p 16 8) (c.p 24 4) 64 (s.healthRecord k w b)
  ({ status := st, result := (s.unit (unitKey k w b)).score / 256 % 2 ^ 32 + 2 ^ 32 * s.unitState k w b }, s')

/-- The record of an optical lane or a laser (R419, R437). -/
def Sys.opticRecord (s : Sys) (kind e sub : Nat) : Nat :=
  let p := if kind = ukLaser then 2 * sub else sub / 4
  let q := (s.engine e).port p
  let st := if q.role = 0 then 0 else if q.link = 1 then 2 else if q.link = 2 then 3 else 1
  let lanes := popCount q.lanes 4
  let extra := if kind = ukLaser then (NMap.get {} (s.engine e).lasers sub).power % 2 ^ 16 else 0
  kind + 2 ^ 8 * st + 2 ^ 16 * lanes + 2 ^ 24 * lanes + 2 ^ 32 * e + 2 ^ 48 * sub + 2 ^ 64 * extra +
    2 ^ 192 * (q.bootRetrains % 2 ^ 32) + 2 ^ 224 * (q.bootErr % 2 ^ 32) + 2 ^ 256 * (q.bootReplays % 2 ^ 32) +
    2 ^ 320 * ((s.unit (unitKey kind e sub)).score / 256 % 2 ^ 32) + 2 ^ 352 * q.version + 2 ^ 360 * q.cause +
    2 ^ 384 * (q.lastTime % 2 ^ 64) + 2 ^ 448 * (q.lastNs % 2 ^ 32)
def Sys.runLinkQuery : Sys → Cmd → Reply × Sys := fun s c =>
  let (k, w, b) := (c.p 8 1, c.p 10 2, c.p 12 2)
  let v := if k = ukOpticalLane || k = ukLaser then s.opticRecord k w b
    else s.linkRecord k w b w (if k = ukHubLink then (if w % 16 = 0 then 3 else 1) else if k = ukLaneGroup then bitsOf b 9 8 else b)
  let (st, s) := s.cutRecord (c.p 16 8) (c.p 24 4) 64 v
  ({ status := st, result := 64 }, s)

/-- A spare of the level is left for a unit that serves (R379, R484); units below a tile that have no spare of their own
go without one. -/
def Sys.spareLeft (s : Sys) (kind wher sub : Nat) : Bool :=
  let tile := (s.servedBy wher).isNone || (s.spareFor wher s.promised).isSome
  if kind = ukTile || kind = ukBank then tile
  else if kind = ukCore then (s.tile wher).restValid || (s.tile wher).rest = sub || tile
  else true
/-- UNIT_SHED: a drain that the host asked for; the reply waits for the unit to be out and its spare mapped (R379,
R498). -/
def Sys.runUnitShed (h q : Nat) : Sys → Cmd → Option Reply × Sys := fun s c =>
  let (k, w, b) := (c.p 8 1, c.p 10 2, c.p 12 2)
  let key := unitKey k w b
  if (s.unit key).shed.isSome then (some (Reply.ok 0), s)
  else if !s.spareLeft k w b then
    let s := if (s.unit key).watch.isSome then s
      else ((s.modUnit key (fun u => { u with watch := some s.now })).log 0x0022 0 k w b 0).eventBoth 7
    (some { status := stNoSpare }, s)
  else
    let l := if k = ukTile then (s.servedBy w).getD 256 else 256
    let s := s.startDrain k w b true
    (none, s.addWait h q c.num (.shed key l) {})
/-- The unit is out, and where it was a tile, nothing is placed on it any more. -/
def Sys.shedEnded (s : Sys) (key : Nat) : Bool :=
  (s.unit key).shed.isSome &&
    (let gone := !(s.lead.place.any (fun p => p.2 = keyWhere key))
     if keyKind key = ukTile || keyKind key = ukBank then gone
     else keyKind key ≠ ukCore || gone || !((List.range 16).any (fun i => (s.tile (keyWhere key)).physOf i = keySub key)))
/-- Host sheds that have ended are answered (R379); for a tile with the tile that took over. -/
def Sys.settleSheds (s : Sys) : Sys :=
  let due := s.lead.waits.filter (fun w => match w.for_ with | .shed k _ => s.shedEnded k | _ => false)
  due.foldl (fun (s : Sys) w => match w.for_ with
    | .shed k l => s.answerWaits (fun f => f = .shed k l) (fun r => { r with result := NMap.get 0 s.lead.place l })
    | _ => s) s

def badRegrow : Sys → Cmd → List (Nat × Nat) := fun s c =>
  badUnit s c ++ fails 8 (s.unit (unitKey (c.p 8 1) (c.p 10 2) (c.p 12 2))).shed.isSome
/-- A tile's ports of the two straights carry frames again. -/
def Sys.unfence (s : Sys) (t : Nat) : Sys :=
  [0, 1].foldl (fun (s : Sys) a =>
    let n := straightOf t a
    let st := s.straight n
    s.setStraight n (st.setPort (positionOf t a) { st.port (positionOf t a) with fenced := false })) s
/-- A port of an optical engine trains anew with its live lanes (R424, R434). -/
def Sys.portBack (s : Sys) (e p lanes : Nat) : Sys :=
  s.modPort e p (fun q =>
    if q.role = 2 then s.ethernetLanes q lanes
    else if q.role = 1 then { q with lanes := lanes, link := 1, since := s.now, cause := 1 }
    else { q with lanes := lanes })
/-- The unit returns with a score of 0 (log entry 63) and its counts since boot (R379, R484, R502): a tile becomes an
unused spare, a core the resting core; a link, lane group, straight, lane or laser trains anew and is used from the next
epoch. -/
def Sys.unitBack (s : Sys) (kind wher sub : Nat) : Sys :=
  let s := s.modUnit (unitKey kind wher sub) (fun u => { events := u.events, lastCode := u.lastCode, lastTime := u.lastTime })
  let s := s.mapShed kind wher sub (if kind = ukTile || kind = ukCore then 4 else 0) 0xFF
  let retrain (s : Sys) (p : Nat) : Sys := s.bothEnds wher p (fun q => { q with link := 1, dead := false })
  if kind = ukTile then
    let s := if (s.router wher).alive && (s.tile wher).pwr.pgood then s
      else (List.range 4).foldl (fun s p => retrain s p) (s.tileUp wher)
    let rows := ((s.boot.fuses ++ (s.flash s.lead.hub).rowMap).filter (fun e => e.1 = wher)).map (fun e => e.2)
    let s := s.modTile wher (fun x => ({ shedMask := x.shedMask, regs := x.regs, mirror := x.mirror, store := ({} : Store).fieldRows rows
                                         pwr := { x.pwr with retention := true, coreMv := 500 } } : Tile).selfTested x.shedMask)
    (s.unfence wher).askSwitch
  else if kind = ukCore then
    s.modTile wher (fun x =>
      let x := { x with shedMask := x.shedMask - (x.shedMask &&& 2 ^ sub) }
      if x.restValid then x else { x with rest := sub, restValid := true, restState := .retention, leapStopped := false })
  else if kind = ukTileLink then (retrain s sub).askSwitch
  else if kind = ukHubLink then (retrain s (if wher % 16 = 0 then 3 else 1)).askSwitch
  else if kind = ukLaneGroup then (retrain s (bitsOf sub 9 8)).askSwitch
  else if kind = ukStraight then (s.calibrate (if sub = 0 then wher else 16 + wher) 15).askSwitch
  else if kind = ukOpticalLane then
    (s.portBack wher (sub / 4) (((s.engine wher).port (sub / 4)).lanes ||| 2 ^ (sub % 4))).askSwitch
  else
    let s := s.modEngine wher (fun e => { e with lasers := NMap.modify {} e.lasers sub (fun l => { l with alarm := false, failed := 0 }) })
    ([2 * sub, 2 * sub + 1].foldl (fun (s : Sys) p => s.portBack wher p 15) s).askSwitch

/-- UNIT_REGROW: `pass` is what the retest finds; a bank has none (R484), and a tile that lacks a feature of the level
fails it (R524). -/
def Sys.runUnitRegrow (pass : Bool) : Sys → Cmd → Reply × Sys := fun s c =>
  let joins := c.p 8 1 ≠ ukTile || s.mayJoin (c.p 10 2)
  if pass && joins && c.p 8 1 ≠ ukBank then (Reply.ok 0, s.unitBack (c.p 8 1) (c.p 10 2) (c.p 12 2)) else (Reply.deny 8, s)
/-- UNIT_WATCH_CLEAR (R379). -/
def Sys.runWatchClear : Sys → Cmd → Reply × Sys := fun s c =>
  let key := unitKey (c.p 8 1) (c.p 10 2) (c.p 12 2)
  if s.health.frozen s.now then ({ status := stScoreStorm }, s)
  else if (s.unit key).watch.isNone then (Reply.ok 0, s)
  else
    let s := if (s.unit key).held then s.eventBoth 7 else s
    (Reply.ok 0, s.modUnit key (fun u => { u with base := 0, baseAt := s.now, score := 0, watch := none, held := false }))

end Sys2Proof.Machine
end

