-- ==== Sys2Proof/Machine/CmdTile.lean ====
section
/-! DEFINITION. Commands on partitions, regions, stores, code and weights, windows, multicast and reduction groups
(R156–R161, R262–R267, R272, R273, R300–R317, R337, R380–R388, R433). -/

namespace Sys2Proof.Machine

/-- The physical tile of a command's tile-store, control-block or core-slot target. -/
def Sys.targetTile (s : Sys) (c : Cmd) : Nat := (s.tileOfEid c.target).getD 0

/-! Groups in the replicas (R262, R264, R267, R273, R280, R281). -/

/-- The relay entries of a group as the replicas hold them. -/
def Sys.mcRelays (s : Sys) (g : McGroup) : List (Nat × Nat) :=
  match s.mcBuild s.lead.place g with
  | some (_, _, l) => l.map (fun r => (r.1, r.2.1))
  | none => []
/-- The holder's multicast group `n` cleared: its entry, its relays, its member count. -/
def Sys.mcClear (s : Sys) (holder n : Nat) : Sys :=
  let old := s.lead.mcs.filter (fun g => g.holder = holder && g.group = n)
  let s := old.foldl (fun (s : Sys) g => (s.mcRelays g).foldl (fun (s : Sys) r =>
    let p := s.replica r.1
    s.setReplica r.1 { p with relay := NMap.put p.relay r.2 0 }) s) s
  let s := match memberNode s.lead.place holder with
    | some t =>
      let p := s.replica t
      s.setReplica t { p with
        mcast := NMap.put p.mcast n (putBits (NMap.get 0 p.mcast n) 23 23 0), members := NMap.put p.members n 0 }
    | none => s
  s.modLead (fun l => { l with
    mcs := l.mcs.filter (fun g => !(g.holder = holder && g.group = n))
    invalid := l.invalid.filter (fun i => i ≠ (n, 0, holder)) })
/-- A group with the first relay set whose entries are free at every relay it needs. -/
def Sys.mcPlace (s : Sys) (g : McGroup) : Option (McGroup × Nat × Nat × List (Nat × Nat × Nat)) :=
  [0, 1, 2, 3].findSome? (fun r =>
    let g := { g with rset := r }
    match s.mcBuild s.lead.place g with
    | some (e, n, l) =>
      if l.all (fun x => !bitOf (NMap.get 0 (s.replica x.1).relay x.2.1) 19) then some (g, e, n, l) else none
    | none => none)

/-- A reduction group's descriptors removed from every router. -/
def Sys.rgClear (s : Sys) (n : Nat) : Sys :=
  let s := (List.range 258).foldl (fun (s : Sys) t =>
    let p := s.replica t
    match (List.range 64).find? (fun i => bitOf (NMap.get 0 p.rgW0 i) 18 && bitsOf (NMap.get 0 p.rgW0 i) 15 0 = n) with
    | some i => s.setReplica t { p with rgW0 := NMap.put p.rgW0 i rgEmpty, rgW1 := NMap.put p.rgW1 i 0 }
    | none => s) s
  s.modLead (fun l => { l with rgs := l.rgs.filter (fun g => g.group ≠ n), invalid := l.invalid.filter (fun i => i ≠ (n, 1, 0)) })
/-- The route tables that the routers hold. -/
def Sys.heldRoutes (s : Sys) : NMap (NMap Nat) := (List.range 258).map (fun n => (n, (s.replica n).mesh))
/-- A router can take one more descriptor of `r` reserved slots (R273). -/
def Replica.rgRoom (p : Replica) (r : Nat) : Bool :=
  let held := (p.rgW0.filter (fun w => bitOf w.2 18)).map (fun w => bitsOf (NMap.get 0 p.rgW1 w.1) 19 16)
  decide (held.length < 64) && decide (held.foldl (· + ·) 0 + r ≤ 32)

/-! Partitions (R355, R380, R381). -/

def badPartCreate : Sys → Cmd → List (Nat × Nat) := fun s c =>
  let m := c.p 16 30
  fails 4 (c.partition ≠ 0 && (NMap.find s.lead.partitions c.partition).isNone) ++
    fails 16 (m ≠ 0 && s.lead.partitions.all (fun p => (p.2.tiles &&& m) = 0))
def Sys.runPartCreate : Sys → Cmd → Reply × Sys := fun s c =>
  if s.lead.partitions.length ≥ 16 then (Reply.busy 0, s)
  else (Reply.ok 0, s.modLead (fun l => { l with partitions := NMap.put l.partitions c.partition { tiles := c.p 16 30 } }))

/-- A stream context closed: what it has read and not delivered is discarded (R335). -/
def Context.closed (c : Context) : Context :=
  { record := c.record, items := c.items, head := c.head, tail := c.tail, freed := c.freed }
/-- A partition's streams, windows, groups and regions are gone and its stores are zero (R158, R335, R381 steps 2–4).
Commands that waited for a fill or a release of its tiles are answered. Log entry 75. -/
def Sys.partTearDown (s : Sys) (p : Nat) : Sys :=
  let tiles := s.partPhys p
  let s := tiles.foldl (fun (s : Sys) t => (s.tile t).mirrorAt.foldl (fun (s : Sys) m => s.dropShadow m.2.1 m.2.2) s) s
  let s := [0, 1].foldl (fun (s : Sys) h =>
    let s := s.modHub h (fun u => { u with
      ctxs := u.ctxs.map (fun c => (c.1, if c.2.isOpen && c.2.f 2 2 = p then c.2.closed else c.2)) })
    let open_ := ((s.hub h).egress.filter (fun w => w.2.isOpen && w.2.partition = p)).map (fun w => w.1)
    open_.foldl (fun (s : Sys) n => s.egressClose h n) s) s
  let s := (s.lead.mcs.filter (fun g => g.partition = p)).foldl (fun (s : Sys) g => s.mcClear g.holder g.group) s
  let s := (s.lead.rgs.filter (fun g => g.partition = p)).foldl (fun (s : Sys) g => s.rgClear g.group) s
  tiles.foldl (fun (s : Sys) t =>
    let s := s.onTile t (fun x => x.tearDown)
    let s := s.modTile t (fun x => { x with wins := { x.wins with farWin := [], farLines := [], farPlru := [], farSweeps := [] } })
    s.answerWaits (fun w => match w with
      | .fill u => u = t
      | .release u _ => u = t
      | _ => false) (fun r => r)) s
/-- A job of the partition has not ended. -/
def Sys.partBusy (s : Sys) (p : Nat) : Bool := s.lead.jobs.any (fun j => j.2.spec.partition = p && j.2.state.live)
def Sys.runPartDestroy : Sys → Cmd → Reply × Sys := fun s c =>
  let p := c.partition
  if s.partBusy p then (Reply.busy 0, s)
  else
    let s := (s.disablePairs (some p) 6 none).partTearDown p
    (Reply.ok 0, s.modLead (fun l => { l with partitions := NMap.erase l.partitions p }))
/-- Resets whose jobs have all ended go on: the partition's other pairs, its state, the reply, the asking pair (R381). -/
def Sys.settleResets (s : Sys) : Sys :=
  s.lead.waits.foldl (fun (s : Sys) w =>
    match w.for_ with
    | .reset_ p =>
      if s.partBusy p then s
      else
        let s := (s.disablePairs (some p) 6 (some (w.hub, w.qp))).partTearDown p
        let s := s.answerWaits (fun f => f = .reset_ p) (fun r => r)
        s.disablePairs (some p) 6 none
    | _ => s) s
def Sys.runPartReset (h q : Nat) : Sys → Cmd → Option Reply × Sys := fun s c =>
  let p := c.partition
  let mine := (NMap.keys s.lead.jobs).filter (fun n => (s.job n).spec.partition = p && (s.job n).state.live)
  let s := mine.foldl (fun (s : Sys) n => s.stopJob n 0) s
  (none, (s.addWait h q c.num (.reset_ p) {}).settleResets)

/-! Regions and stores (R156–R161, R182, R183, R382, R383). -/

/-- The region that a REGION_DEFINE asks for. -/
def Cmd.region (c : Cmd) : Region :=
  { base := c.p 12 4, size := c.p 16 4, cls := c.p 9 1, owner := c.p 20 2, mirror := bitOf (c.p 10 1) 1, partition := c.partition }
/-- The region defined, with its shadow where it is mirrored: none where the buddy has no room (R159). -/
def Sys.defineRegion (s : Sys) (c : Cmd) : Option Sys :=
  let t := s.targetTile c
  let s := s.onTile t (fun x => x.regionPut (c.p 8 1) c.region (bitOf (c.p 10 1) 0))
  if c.region.mirror then s.placeShadow t (c.p 8 1) else some s
def badRegionDefine : Sys → Cmd → List (Nat × Nat) := fun s c =>
  let t := s.targetTile c
  let r := c.region
  (match (s.tx t).regionRefused (c.p 8 1) r with
   | some i => [(i, 0)]
   | none => []) ++ fails 10 (!r.mirror || s.shadowRoom t r.span)
def Sys.runRegionDefine (h q : Nat) : Sys → Cmd → Option Reply × Sys := fun s c =>
  match s.defineRegion c with
  | none => (some (Reply.bad 10 0), s)
  | some s' => if bitOf (c.p 10 1) 0 then (none, s'.addWait h q c.num (.fill (s.targetTile c)) {}) else (some (Reply.ok 0), s')
def badRegionNumber : Sys → Cmd → List (Nat × Nat) := fun s c =>
  fails 8 ((s.tile (s.targetTile c)).store.region (c.p 8 1)).isSome
def Sys.runRegionRelease (h q : Nat) : Sys → Cmd → Option Reply × Sys := fun s c =>
  let t := s.targetTile c
  let (a, s) := s.askTile t (fun x => x.regionRelease (c.p 8 1) c.partition)
  if a.status ≠ stSuccess then (some a.reply, s) else (none, s.addWait h q c.num (.release t (c.p 8 1)) {})

/-- The region, the rows and the buffer of a store command. -/
def badStore (fill : Bool) : Sys → Cmd → List (Nat × Nat) := fun s c =>
  let r := match (s.tile (s.targetTile c)).store.region (c.p 8 1) with
    | none => [(8, 0)]
    | some r =>
      fails 12 (decide (c.p 12 4 + c.p 16 4 ≤ r.size) && !(fill && r.cls = 1 && (c.p 12 4 % 8 ≠ 0 || c.p 16 4 % 8 ≠ 0)))
  r ++ fails 16 (c.p 16 4 ≤ 262144) ++ fails 24 (fill || c.p 24 8 % 64 = 0)
/-- Rows of an open CRO window are not written (R314). -/
def Sys.storeLocked (s : Sys) (c : Cmd) : Bool :=
  match (s.tx (s.targetTile c)).storeCheck (c.p 8 1) (c.p 12 4) (c.p 16 4) true false with
  | some a => a.status = stNotPermitted
  | none => false
def Sys.runStoreFill (h q : Nat) : Sys → Cmd → Option Reply × Sys := fun s c =>
  let t := s.targetTile c
  if c.p 16 4 = 0 then (some (Reply.empty 0), s)
  else if s.storeLocked c then (some (Reply.deny 0), s)
  else
    let s := s.onTile t (fun x => x.storeFill (c.p 8 1) (c.p 12 4) (c.p 16 4) (c.p 24 8))
    (none, s.addWait h q c.num (.fill t) {})
/-- The rows of a host buffer up to the first that cannot be read. -/
def Sys.hostRowsUpTo (s : Sys) (addr n : Nat) : List Nat :=
  ((List.range n).map (fun i => s.hostRead (addr + 512 * i) 512)).takeWhile (fun o => o.isSome) |>.map (fun o => o.getD 0)
def Sys.runStoreWrite : Sys → Cmd → Reply × Sys := fun s c =>
  let n := c.p 16 4
  if n = 0 then (Reply.empty 0, s)
  else if s.storeLocked c then (Reply.deny 0, s)
  else
    let rows := s.hostRowsUpTo (c.p 24 8) n
    let s := s.onTile (s.targetTile c) (fun x => x.storeWrite (c.p 8 1) (c.p 12 4) rows)
    (if rows.length < n then Reply.noRead 24 rows.length else Reply.ok n, s)
def Sys.runStoreRead : Sys → Cmd → Reply × Sys := fun s c =>
  let n := c.p 16 4
  if n = 0 then (Reply.empty 0, s)
  else
    let (r, s) := s.askTile (s.targetTile c) (fun x => x.storeRead (c.p 8 1) (c.p 12 4) n)
    let s := ((List.range n).zip r.1).foldl (fun (s : Sys) e => s.hostWrite (c.p 24 8 + 512 * e.1) 512 e.2) s
    ({ status := if r.2 = 0 then stSuccess else stPoisoned, result := n + 2 ^ 32 * r.2 }, s)
/-- STORE_FILL_DONE at a tile (R160, R161): the command that asked for the fill is answered, oldest first. -/
def Sys.storeFillDone (s : Sys) (t : Nat) : Sys :=
  if t ≥ 256 || (s.tile t).store.fills.isEmpty then s
  else
    let s := s.onTile t (fun x => x.storeFillDone)
    match s.lead.waits.find? (fun w => w.for_ = .fill t) with
    | none => s
    | some w => (s.modLead (fun l => { l with waits := l.waits.erase w })).pushReply w.hub w.qp w.num w.reply
/-- REGION_RELEASE_DONE at a tile: its shadow goes too, and the release is answered (R157, R159). -/
def Sys.regionReleaseDone (s : Sys) (t n : Nat) : Sys :=
  let st := (s.tile t).store
  if t ≥ 256 || !(NMap.get {} st.regions n).releasing || st.fills.any (fun f => f.region = n) then s
  else
    let s := s.onTile t (fun x => x.regionReleaseDone n)
    let s := match NMap.find (s.tile t).mirrorAt n with
      | some (l, m) => (s.dropShadow l m).modTile t (fun x => { x with mirrorAt := NMap.erase x.mirrorAt n })
      | none => s
    s.answerWaits (fun w => w = .release t n) (fun r => r)

/-! Code and weights (R111, R384, R385). -/

/-- The region of a CODE_LOAD (R384). -/
def badCodeLoad : Sys → Cmd → List (Nat × Nat) := fun s c => fails 8 ((s.tx (s.targetTile c)).codeRegionOk (c.p 8 1))
def Sys.runCodeLoad : Sys → Cmd → Reply × Sys := fun s c =>
  let (a, s) := s.askTile (s.targetTile c) (fun x => x.codeLoadCmd (c.target % 16) (c.p 8 1) (bitOf (c.p 9 1) 0))
  (a.reply, s)
/-- The binding entries of the macros named, as one buffer; the others are not read. -/
def Sys.bindings (s : Sys) (addr mask : Nat) : Option Nat :=
  (setBits mask 16).foldlM (fun v m => (s.hostRead (addr + 16 * m) 16).map (fun e => v + 2 ^ (128 * m) * e)) 0
def badWeightLoad : Sys → Cmd → List (Nat × Nat) := fun s c =>
  let weight := match (s.tile (s.targetTile c)).store.region (c.p 8 1) with
    | some r => r.cls = 1
    | none => false
  fails 8 weight ++ fails 16 (c.p 16 8 % 64 = 0) ++
    whenRead (s.bindings (c.p 16 8) (c.p 10 2)) (fun b => (s.tx (s.targetTile c)).bindBad (c.p 8 1) b (c.p 10 2))
def Sys.runWeightLoad : Sys → Cmd → Reply × Sys := fun s c =>
  let mask := c.p 10 2
  let check := bitOf (c.p 9 1) 0
  if mask = 0 then (Reply.empty 0, s)
  else
    match s.bindings (c.p 16 8) mask with
    | none => (Reply.noRead 16 0, s)
    | some b =>
      let (a, s) := s.askTile (s.targetTile c) (fun x => x.weightLoadCmd (c.target % 16) (c.p 8 1) b mask check)
      let s := if a.status = stSuccess || a.status = stPoisoned then
          s.modLead (fun l => { l with weights := NMap.put l.weights c.target (mask, b, check) }) else s
      (a.reply, s)

/-! Windows (R300, R301, R313, R316, R317, R337, R386). -/

/-- The window that a WINDOW_OPEN asks for. -/
def Cmd.window (c : Cmd) : Window :=
  let m := c.p 9 1
  { region := c.p 12 1, write := bitOf m 0, read := bitOf m 1, reduce := bitOf m 2, cro := bitOf m 3, notify := bitOf m 4
    srcKind := c.p 10 1, notifySlot := c.p 11 1 % 16, notifyToken := c.p 11 1 / 16, first := c.p 16 4, rows := c.p 20 4
    lo0 := c.p 24 2, hi0 := c.p 26 2, lo1 := c.p 28 2, hi1 := c.p 30 2, partition := c.partition }
/-- The refusals of WINDOW_OPEN at a hub: as at a tile store, over the egress pool (R337). Log entry 74. -/
def Hub.windowRefused (u : Hub) (n mode : Nat) (w : Window) : Option Nat :=
  let pool : Region := { cls := 3, valid := true, size := 32768, partition := w.partition }
  let x : TX := { tile := { wins := { table := u.egress }, store := { regions := [(0, pool)] } } }
  if w.region ≠ 0 then
    (match x.windowRefused n mode { w with region := 0 } with
     | some i => some (min i 12)
     | none => some 12)
  else x.windowRefused n mode w
def badWindowOpen : Sys → Cmd → List (Nat × Nat) := fun s c =>
  fails 9 (!c.window.cro || s.offers 3) ++
  let r := if c.target ≥ 0x1200 then (s.hub (c.target - 0x1200)).windowRefused (c.p 8 1) (c.p 9 1) c.window
    else (s.tx (s.targetTile c)).windowRefused (c.p 8 1) (c.p 9 1) c.window
  match r with
  | some i => [(i, 0)]
  | none => []
/-- The tiles whose far-window lists a CRO window of a partition enters. -/
def Sys.farTiles (s : Sys) (p : Nat) : List Nat := (s.partPhys p).filter (fun t => !(s.tile t).shed)
def Sys.runWindowOpen : Sys → Cmd → Reply × Sys := fun s c =>
  let n := c.p 8 1
  let w := c.window
  let far := if w.cro then s.farTiles c.partition else []
  if far.any (fun t => (s.tx t).farFree.isNone) then (Reply.busy 0, s)
  else
    let (g, s) := if c.target ≥ 0x1200 then
        let h := c.target - 0x1200
        let u := s.hub h
        let g := ((NMap.get {} u.egress n).gen + 1) % 256
        (g, s.setHub h { u with egress := NMap.put u.egress n { w with isOpen := true, gen := g } })
      else s.askTile (s.targetTile c) (fun x => x.windowOpen n w)
    (Reply.ok g, far.foldl (fun (s : Sys) t => s.onTile t (fun x => x.farEnter c.target n g)) s)
/-- The window that a WINDOW_CLOSE names. -/
def Sys.closeTarget (s : Sys) (c : Cmd) : Window :=
  if c.target ≥ 0x1200 then NMap.get {} (s.hub (c.target - 0x1200)).egress (c.p 8 1)
  else NMap.get {} (s.tile (s.targetTile c)).wins.table (c.p 8 1)
def badWindowClose : Sys → Cmd → List (Nat × Nat) := fun s c =>
  let w := s.closeTarget c
  fails 8 (w.isOpen || w.closing) ++ fails 9 (w.gen = c.p 9 1)
def Sys.runWindowClose (h q : Nat) : Sys → Cmd → Option Reply × Sys := fun s c =>
  let n := c.p 8 1
  let w := s.closeTarget c
  let hub := decide (c.target ≥ 0x1200)
  if hub && w.partition ≠ c.partition then (some (Reply.deny 8), s)
  else if w.landing || w.closing then (some (Reply.busy 0), s)
  else if w.cro then
    let s := if hub then s.modHub (c.target - 0x1200) (fun u => { u with egress := NMap.put u.egress n { w with closing := true } })
      else s.onTile (s.targetTile c) (fun x => x.closeBegin n)
    (none, (s.sendInvalidate c.target n w.gen).addWait h q c.num (.invalidate c.target n w.gen) {})
  else if hub then (some (Reply.ok 0), s.egressClose (c.target - 0x1200) n)
  else (some (Reply.ok 0), s.onTile (s.targetTile c) (fun x => (x.closeBegin n).closeEnd n))
/-- One tile's answer to an invalidation, or its silence, taken off the close; the last completes it (R317). -/
def Sys.invalAnswered (s : Sys) (eid win gen t : Nat) : Sys :=
  let (done, s) := s.invalDone (eid, win, gen) t
  if !done then s
  else
    let s := if eid = 0x1200 || eid = 0x1201 then s.egressClose (eid - 0x1200) win
      else match s.tileOfEid eid with
        | some u => s.onTile u (fun x => x.closeEnd win)
        | none => s
    s.answerWaits (fun w => w = .invalidate eid win gen) (fun r => r)
/-- An INVALIDATE_ACK at the lead hub (R317). -/
def Sys.invalidateAck (s : Sys) : Sys :=
  match s.takeMsg s.leadAddr (fun m => m.type = 0x1D) with
  | none => s
  | some (m, s) => s.invalAnswered (bitsOf m.payload 15 0) (bitsOf m.payload 23 16) (bitsOf m.payload 31 24) m.src
/-- A tile that has not answered 50 µs after the broadcast is handled as failed (R34, R317). -/
def Sys.invalidateTimeout (s : Sys) (t : Nat) : Sys :=
  match s.lead.invals.find? (fun i => decide (s.now ≥ i.2.2.2.2 + 50000) && i.2.2.2.1.contains t) with
  | none => s
  | some i => (s.invalAnswered i.1 i.2.1 i.2.2.1 t).loseTile t

/-! Multicast and reduction groups (R262–R264, R272, R273, R305, R387, R388, R433). -/

/-- A member is a hub, or a tile store of the partition. -/
def Sys.memberOk (s : Sys) (p e : Nat) : Bool :=
  e = 0x1200 || e = 0x1201 || (decide (0x1000 ≤ e) && decide (e ≤ 0x10EF) && s.partOfTile (e - 0x1000) = p)
/-- The group that an MCAST_GROUP_SET asks for. -/
def Cmd.mcGroup (c : Cmd) (l : List Nat) : McGroup :=
  { holder := c.target, group := c.p 8 1, axis := bitNat (bitOf (c.p 9 1) 0), mode := bitNat (bitOf (c.p 9 1) 1)
    members := l, partition := c.partition }
/-- A member that is named twice, outside the partition or out of reach (R263, R387); 0 where the whole list makes no
entry. -/
def Sys.memberBad (s : Sys) (g : McGroup) : Option Nat :=
  let l := g.members
  let wrong (i e : Nat) : Bool := (l.take i).contains e || !s.memberOk g.partition e ||
    (s.mcBuild s.lead.place { g with members := [e] }).isNone
  match firstIndex l wrong with
  | some i => some i
  | none => if (s.mcBuild s.lead.place g).isNone then some 0 else none
def badMcast : Sys → Cmd → List (Nat × Nat) := fun s c =>
  let n := c.p 10 2
  let clear := bitOf (c.p 9 1) 2
  let countOk := if clear then n = 0 else decide (1 ≤ n) && decide (n ≤ 242)
  fails 8 (c.p 8 1 < 64) ++ fails 9 (!bitOf (c.p 9 1) 1 || s.offers 5) ++ fails 10 countOk ++ fails 16 (c.p 16 8 % 2 = 0) ++
    (if clear || !countOk then [] else whenRead (s.hostList (c.p 16 8) 2 n) (fun l => failsAt 16 (s.memberBad (c.mcGroup l))))
def Sys.runMcast : Sys → Cmd → Reply × Sys := fun s c =>
  let n := c.p 8 1
  let f := c.p 9 1
  if bitOf f 2 then (Reply.ok 0, s.mcClear c.target n)
  else
    match s.hostList (c.p 16 8) 2 (c.p 10 2) with
    | none => (Reply.noRead 16 0, s)
    | some l =>
        let s' := s.mcClear c.target n
        match s'.mcPlace (c.mcGroup l), memberNode s.lead.place c.target with
        | some (g, e, k, rel), some t =>
          let p := s'.replica t
          let s := s'.setReplica t { p with mcast := NMap.put p.mcast n e, members := NMap.put p.members n k }
          let s := rel.foldl (fun (s : Sys) r =>
            let p := s.replica r.1
            s.setReplica r.1 { p with relay := NMap.put p.relay r.2.1 r.2.2 }) s
          (Reply.ok 0, s.modLead (fun l => { l with mcs := l.mcs ++ [g] }))
        | _, _ => (Reply.busy 0, s)

/-- The group number is held by another partition (R388). -/
def Sys.rgForeign (s : Sys) (c : Cmd) : Bool := s.lead.rgs.any (fun g => g.group = c.p 8 2 && g.partition ≠ c.partition)
/-- The group that an RGROUP_SET asks for. -/
def Cmd.rgroup (c : Cmd) (l : List Nat) : RGroup :=
  { group := c.p 8 2, op := c.p 10 1, reserve := c.p 11 1, g := c.p 12 2, contributors := l, root := c.p 24 2, window := c.p 26 1
    gen := c.p 27 1, partition := c.partition }
/-- A contributor is a core slot of the partition, or a peer's proxy (R433). -/
def Sys.contributorOk (s : Sys) (p e : Nat) : Bool :=
  (decide (e < 0x0F00) && s.partOfTile (e / 16) = p) || s.peerEid e
/-- The root window is open at GEN with REDUCE and LOCAL_ROOT on a tile of the partition; a peer's proxy needs a REDUCE
entry of the peer window table (R305, R433). -/
def Sys.rootOk (s : Sys) (g : RGroup) : Bool :=
  if s.peerEid g.root then
    match s.peerWindow (g.root - 0x2000) g.window with
    | some e => bitOf e.1 21
    | none => false
  else if 0x1000 ≤ g.root && g.root ≤ 0x10EF then
    match s.tileOfEid g.root with
    | some t =>
      let w := NMap.get {} (s.tile t).wins.table g.window
      w.isOpen && !w.closing && w.reduce && w.srcKind = 2 && w.gen = g.gen && s.partOfTile (g.root - 0x1000) = g.partition
    | none => false
  else false
/-- The group's tree, where every router on it has room (R273). -/
def Sys.rgPlace (s : Sys) (g : RGroup) : Option (List (Nat × Nat × Nat)) :=
  match s.rgBuild s.lead.place s.heldRoutes g with
  | none => none
  | some l => if l.all (fun x => (s.replica x.1).rgRoom g.reserve) then some l else none
/-- What fails of a group's contributors, root window and tree (R272, R273, R388): the tree is built only for
contributors and a root that are in order. -/
def Sys.rgroupBad (s : Sys) (g : RGroup) : List (Nat × Nat) :=
  let l := g.contributors
  let list := failsAt 16 (firstIndex l (fun i e => (l.take i).contains e || !s.contributorOk g.partition e))
  let root := fails 24 (s.rootOk g && (s.rgRootTile s.lead.place g).isSome)
  list ++ root ++ (if list.isEmpty && root.isEmpty then fails 11 ((s.rgClear g.group).rgPlace g).isSome else [])
/-- The fields of RGROUP_SET (R388). DESIGN CHOICE: with CLEAR, OP, RESERVE, COUNT up to 3,840 and the buffer's
alignment are checked as without it, and the list, the root window and the tree are not (log entry 89). -/
def badRgroup : Sys → Cmd → List (Nat × Nat) := fun s c =>
  let clear := bitOf (c.p 28 1) 0
  let n := c.p 14 2
  let countOk := (clear || decide (1 ≤ n)) && decide (n ≤ 3840)
  denies 8 (!s.rgForeign c) ++ fails 10 (c.p 10 1 ≤ 2 && s.offers 0) ++
    fails 11 (decide (1 ≤ c.p 11 1) && decide (c.p 11 1 ≤ 8)) ++ fails 14 countOk ++ fails 16 (c.p 16 8 % 2 = 0) ++
    (if clear || !countOk then [] else whenRead (s.hostList (c.p 16 8) 2 n) (fun l => s.rgroupBad (c.rgroup l)))
def Sys.runRgroup : Sys → Cmd → Reply × Sys := fun s c =>
  let n := c.p 8 2
  let held := s.mesh.any (fun r => r.2.red.any (fun x => x.group = n))
  if bitOf (c.p 28 1) 0 then
    (if held then (Reply.busy 0, s) else (Reply.ok 0, s.rgClear n))
  else
    match s.hostList (c.p 16 8) 2 (c.p 14 2) with
    | none => (Reply.noRead 16 0, s)
    | some l =>
      let g := c.rgroup l
      let s' := s.rgClear n
      match s'.rgPlace g with
      | none => (Reply.bad 11 0, s)
      | some t =>
        if held then (Reply.busy 0, s)
        else
          let s := t.foldl (fun (s : Sys) x =>
            let p := s.replica x.1
            match rgIndex p.rgW0 n with
            | some i => s.setReplica x.1 { p with
                rgW0 := NMap.put p.rgW0 i x.2.1, rgW1 := NMap.put p.rgW1 i x.2.2, rgRoot := NMap.put p.rgRoot i (g.root, g.window, g.gen) }
            | none => s) s'
          (Reply.ok 0, s.modLead (fun l => { l with rgs := l.rgs ++ [g] }))

end Sys2Proof.Machine
end

