-- ==== Sys2Proof/Machine/CmdJob.lean ====
section
/-! DEFINITION. Stream and job commands (R217, R321–R338, R361, R389–R403, R464). -/

namespace Sys2Proof.Machine

/-! Streams (R321, R323–R325, R327, R330, R335, R337, R338, R361, R389). -/

/-- Reserved bits of an ingest record, and of an egress record (R4, R325, R338). -/
def ingestFields : List (Nat × Nat × Nat) :=
  [(0, 1, 6), (1, 1, 8), (2, 2, 16), (4, 2, 16), (6, 1, 8), (7, 1, 8), (8, 4, 18), (12, 2, 16), (14, 1, 7), (15, 1, 8), (16, 8, 64),
   (24, 1, 5), (25, 1, 8), (26, 2, 16), (28, 2, 16), (30, 2, 16), (32, 8, 64), (40, 8, 64), (48, 4, 32), (52, 1, 2), (53, 1, 8),
   (54, 2, 16), (56, 8, 64)]
def egressFields : List (Nat × Nat × Nat) :=
  [(0, 1, 6), (1, 1, 8), (2, 2, 16), (4, 2, 16), (6, 1, 8), (7, 1, 8), (8, 1, 8), (9, 1, 8), (10, 2, 16), (12, 4, 32), (16, 4, 32),
   (20, 2, 16), (22, 2, 1), (24, 8, 64), (32, 4, 32), (36, 1, 5), (38, 2, 16), (40, 8, 64)]

/-- An open window of a tile store of the partition, at a generation, that accepts hub `h`. -/
def Sys.hubWindow (s : Sys) (h part eid win gen : Nat) : Option Window :=
  if 0x1000 ≤ eid && eid ≤ 0x10EF && s.partOfTile (eid - 0x1000) = part then
    match s.tileOfEid eid with
    | none => none
    | some t =>
      let w := NMap.get {} (s.tile t).wins.table win
      if w.isOpen && !w.closing && w.gen = gen && (s.tx t).sourceOk w (0x1200 + h) then some w else none
  else none
/-- Reference storage of a video or progressive JPEG context (R324). A host range has no length of its own in the
record. -/
def Sys.refOk (s : Sys) (h : Nat) (c : Context) : Bool :=
  let k := c.kind
  let v := c.f 32 8
  let pix := c.f 28 2 * c.f 30 2
  if k = 1 || (k = 2 && v = 0) then true
  else if !bitOf v 63 then true
  else
    let need := if k = 2 then 6 * pix else (c.f 25 1 + 2) * (pix * 3 / 2)
    match s.hubWindow h (c.f 2 2) (bitsOf v 15 0) (bitsOf v 23 16) (bitsOf v 31 24) with
    | some w => bitsOf v 62 50 = 0 && w.write && w.read && decide (bitsOf v 49 32 + ceilDiv need 512 ≤ w.rows)
    | none => false
/-- Width and height within R321. -/
def sizeOk (k w h : Nat) (prog : Bool) : Bool :=
  if k = 1 then decide (1 ≤ w) && decide (1 ≤ h)
  else if k = 2 then
    decide (1 ≤ w) && decide (1 ≤ h) && (if prog then decide (w * h ≤ 16777216) else decide (w ≤ 16384) && decide (h ≤ 16384))
  else decide (64 ≤ w) && decide (w ≤ 4096) && decide (64 ≤ h) && decide (h ≤ 2304)
/-- The profile fits the declared picture (R327). -/
def profileFits (p w h : Nat) (rgb : Bool) : Bool :=
  let ratio (out crop : Nat) : Bool := decide (crop ≤ 16 * out) && decide (out ≤ 2 * crop)
  decide (1 ≤ profCropW p) && decide (1 ≤ profCropH p) && decide (profCropX p + profCropW p ≤ w) && decide (profCropY p + profCropH p ≤ h) &&
    ratio (profOutW p) (profCropW p) && ratio (profOutH p) (profCropH p) &&
    !(profKernel p = 2 && (profOutW p > profCropW p || profOutH p > profCropH p)) && !(profChannels p = 0 && rgb)
/-- The record fields of an ingest context that fail (R321, R324, R325, R327, R330, R389). Log entry 73. -/
def Sys.ingestBad (s : Sys) (h n part : Nat) (c : Context) : List (Nat × Nat) :=
  let k := c.kind
  let video := k = 3 || k = 4
  let prof := NMap.get 0 s.lead.profiles (c.f 1 1)
  let rng (o len lo hi : Nat) : List (Nat × Nat) := fails o (decide (lo ≤ c.f o len) && decide (c.f o len ≤ hi))
  (match reservedBad ingestFields c.record 64 with
   | some i => [(i, 0)]
   | none => []) ++
  fails 0 (c.target ≤ 1 && (k ≠ 4 || s.offers 12)) ++
  fails 1 (profileFits prof (c.f 28 2) (c.f 30 2) (k = 1 && decide (rawLayout n ≥ 2))) ++
  fails 2 (c.f 2 2 = part) ++
  fails 4 (match s.hubWindow h part (c.f 4 2) (c.f 6 1) (c.f 7 1) with
    | some w => w.write
    | none => false) ++
  fails 12 (decide (1 ≤ c.f 12 2) && decide (c.f 12 2 ≤ 256) && c.f 12 2 = profItemRows prof) ++
  fails 14 (decide (1 ≤ c.slotCount) && decide (c.slotCount ≤ 64)) ++ rng 15 1 1 255 ++
  fails 16 (if c.ethernet then c.f 16 8 = 0 else c.f 16 8 % 16 = 0) ++ fails 24 (decide (4 ≤ c.f 24 1 % 32) && decide (c.f 24 1 % 32 ≤ 16)) ++
  fails 25 (if video then decide (1 ≤ c.f 25 1) && decide (c.f 25 1 ≤ 8) else c.f 25 1 = 0) ++ rng 26 2 1 24000 ++
  fails 28 (sizeOk k (c.f 28 2) (c.f 30 2) (k = 2 && c.f 32 8 ≠ 0)) ++ fails 32 (s.refOk h c) ++ rng 48 4 1 0xFFFFFFFE ++
  fails 52 (c.policy ≤ 2) ++ fails 53 (if k = 1 then c.f 53 1 = 0 else decide (1 ≤ c.f 53 1) && decide (c.f 53 1 ≤ 48))
/-- Pool rows that the open egress contexts of a hub claim (R338). -/
def Hub.poolClaimed (u : Hub) : Nat :=
  ((u.ctxs.filter (fun c => c.2.isOpen && c.2.egress)).map (fun c => c.2.f 4 2 * c.2.f 6 1)).foldl (· + ·) 0
/-- Bytes of one item's output (R338, R339). -/
def Context.outBytes (c : Context) : Nat :=
  let kept := c.f 16 4 * c.f 4 2
  if bitOf (c.f 22 2) 0 then 8 * c.f 10 2 * (kept / max 1 (c.f 12 4)) else ceilDiv (fmtPackBits (c.f 8 1) * kept) 8
/-- The record fields of an egress context that fail (R338, R389). Log entry 73. -/
def Sys.egressBad (s : Sys) (h part : Nat) (c : Context) : List (Nat × Nat) :=
  let u := s.hub h
  let w := NMap.get {} u.egress (c.f 1 1)
  let f := c.f 7 1
  let o := c.f 8 1
  let top := bitOf (c.f 22 2) 0
  let rows := c.f 4 2 * c.f 6 1
  let kept := c.f 16 4 * c.f 4 2
  let inOk := f = fmtFP32 || f = fmtFP16 || f = fmtBF16 || f = fmtInt8 || f = fmtInt4 || f = fmtAcc64 || f = fmtLongsum
  let outOk := o = f || o = fmtFP32 || o = fmtFP16 || o = fmtBF16 || o = fmtInt8
  let rng (a len lo hi : Nat) : List (Nat × Nat) := fails a (decide (lo ≤ c.f a len) && decide (c.f a len ≤ hi))
  (match reservedBad egressFields c.record 64 with
   | some i => [(i, 0)]
   | none => []) ++
  fails 0 (c.target ≤ 1) ++ fails 1 (w.isOpen && !w.closing && w.partition = part && w.write) ++ fails 2 (c.f 2 2 = part) ++ rng 4 2 1 256 ++
  fails 6 (decide (1 ≤ c.f 6 1) && decide (c.f 6 1 ≤ 64) && decide (rows ≤ w.rows) && decide (u.poolClaimed + rows ≤ 32768)) ++
  fails 7 inOk ++ fails 8 outOk ++ fails 9 (c.f 9 1 ≠ 0x80) ++ (if top then rng 10 2 1 256 else []) ++
  (if top then fails 12 (decide (c.f 10 2 ≤ c.f 12 4) && decide (c.f 12 4 ≤ 65536) && kept % max 1 (c.f 12 4) = 0) else []) ++
  rng 16 4 1 (fmtPerRow f) ++ fails 20 (f ≠ fmtLongsum || decide (c.f 20 2 < 512) || decide (c.f 20 2 ≥ 65024)) ++
  (if c.target = 0 then
    fails 24 (c.f 24 8 % 64 = 0) ++ fails 32 (c.f 32 4 % 64 = 0 && decide (c.outBytes + 32 ≤ c.f 32 4)) ++
      fails 36 (decide (4 ≤ c.f 36 1 % 32) && decide (c.f 36 1 % 32 ≤ 16))
   else fails 24 (s.peerEid (c.f 24 2) && c.f 28 4 = 0))
/-- The four budgets of a hub (R323). -/
def Load.fits (l : Load) : Bool :=
  decide (l.video ≤ 15925248000) && decide (l.videoCtx ≤ 1024) && decide (l.jpeg ≤ 8000000000) && decide (l.pixIn ≤ 20000000000) &&
    decide (l.pixOut ≤ 20000000000) && decide (l.mbits ≤ 6000)

/-- The first record field of a STREAM_OPEN that fails (R389). -/
def Sys.openBad (s : Sys) (c : Cmd) (v : Nat) : Option Nat :=
  let h := c.target - 0x1200
  let x : Context := { record := v, isOpen := true }
  let bad := if x.egress then s.egressBad h c.partition x
    else if 1 ≤ x.kind && x.kind ≤ 4 then s.ingestBad h (c.p 8 4) c.partition x else [(0, 0)]
  (lowestBad bad).map (fun b => b.1)
def badStreamOpen : Sys → Cmd → List (Nat × Nat) := fun s c =>
  let n := c.p 8 4
  fails 8 (decide (n < 131072) && !((s.hub (c.target - 0x1200)).ctx n).isOpen) ++ fails 16 (c.p 16 8 % 64 = 0) ++
    whenRead (s.hostRead (c.p 16 8) 64) (fun v => failsAt 16 (s.openBad c v))
def Sys.runStreamOpen : Sys → Cmd → Reply × Sys := fun s c =>
  let h := c.target - 0x1200
  let n := c.p 8 4
  match s.hostRead (c.p 16 8) 64 with
  | none => (Reply.noRead 16 0, s)
  | some v =>
    let x : Context := { record := v, isOpen := true }
    if !x.egress && !((s.hubLoad h).add (x.load (NMap.get 0 s.lead.profiles (x.f 1 1)))).fits then (Reply.busy 0, s)
    else (Reply.ok n, s.modHub h (fun u => u.setCtx n x))
/-- The context that a command names (R389). -/
def Sys.streamCtx (s : Sys) (c : Cmd) : Context := (s.hub (c.target - 0x1200)).ctx (c.p 8 4)
def badStreamClose : Sys → Cmd → List (Nat × Nat) := fun s c => fails 8 (decide (c.p 8 4 < 131072) && (s.streamCtx c).isOpen) ++
  denies 8 ((s.streamCtx c).f 2 2 = c.partition)
def Sys.runStreamClose : Sys → Cmd → Reply × Sys := fun s c =>
  let x := s.streamCtx c
  (Reply.ok (x.items % 2 ^ 64), s.modHub (c.target - 0x1200) (fun u => u.setCtx (c.p 8 4) x.closed))
def badJobFeed : Sys → Cmd → List (Nat × Nat) := fun s c =>
  let x := s.streamCtx c
  let ok := decide (c.p 8 4 < 131072) && x.isOpen && !x.egress && !x.ethernet
  fails 8 ok ++ denies 8 (x.f 2 2 = c.partition) ++ fails 12 (!ok ||
    (decide (countDiff (c.p 12 4) x.tail ≤ x.inDepth) && decide (countDiff (c.p 12 4) x.head ≤ x.inDepth)))
def Sys.runJobFeed : Sys → Cmd → Reply × Sys := fun s c =>
  let x := s.streamCtx c
  let t := c.p 12 4
  if t = x.tail then (Reply.empty 0, s)
  else (Reply.ok 0, s.modHub (c.target - 0x1200) (fun u => u.setCtx (c.p 8 4) { x with tail := t, fed := x.fed ++ [(t, s.now)] }))

/-! Jobs (R217, R390–R403). -/

/-- The entries of a job table as read from the host: raw, 16 bytes each. -/
def jobEntry (v : Nat) : JobEntry := { slot := bitsOf v 15 0, base := bitsOf v 31 16, len := bitsOf v 47 32, phase := bitsOf v 95 64 }
/-- A core slot of a partition. -/
def Sys.slotOf (s : Sys) (part e : Nat) : Bool :=
  decide (e < 0x0F00) && part ≠ 0 && s.partOfTile (e / 16) = part && (s.tileOfEid e).isSome
/-- An entry fails (R4, R60, R390). -/
def Sys.entryBad (s : Sys) (part : Nat) (before : List Nat) (v : Nat) : Bool :=
  let e := jobEntry v
  !s.slotOf part e.slot || before.any (fun b => bitsOf b 15 0 = e.slot) ||
    !bitOf (s.tileReg ((s.tileOfEid e.slot).getD 0) (0x120 + 4 * (e.slot % 16))) 6 ||
    decide (e.base > 1023) || e.len = 0 || decide (e.len > 512) || decide (e.base + e.len > 1024) || decide (e.phase > 1000000000) ||
    bitsOf v 63 48 ≠ 0 || bitsOf v 127 96 ≠ 0
/-- The job table, where it can be read. -/
def Sys.jobTable (s : Sys) (c : Cmd) : Option (List Nat) := s.hostList (c.p 8 8) 16 (c.p 16 2)
def badJobStart : Sys → Cmd → List (Nat × Nat) := fun s c =>
  let f := c.p 19 1
  let watch := bitOf f 0
  let n := c.p 16 2
  let coresOk := decide (1 ≤ n) && decide (n ≤ 3840)
  let rng (o len lo hi : Nat) : List (Nat × Nat) := fails o (decide (lo ≤ c.p o len) && decide (c.p o len ≤ hi))
  let table := if c.p 8 8 % 64 ≠ 0 then [(8, 0)]
    else if !coresOk then []
    else match s.jobTable c with
      | none => []
      | some l =>
        (match firstIndex l (fun i v => s.entryBad c.partition (l.take i) v) with
         | some i => [(8, i)]
         | none => [])
  table ++ fails 16 coresOk ++ rng 18 1 0 7 ++ fails 19 (!bitOf f 3 || s.offers 9) ++ rng 20 4 64 16777215 ++ rng 28 4 1 0xFFFFFFFE ++
    fails 32 (!watch || s.slotOf c.partition (c.p 32 2)) ++ fails 34 (!watch || c.p 34 2 ≠ 0) ++ fails 36 (!watch || c.p 36 4 ≠ 0) ++
    fails 48 (if c.pollWord then c.p 48 8 % 64 = 0 else c.p 48 8 = 0)
/-- The job slot that a new job takes (R391): one never used, else the one that ended longest ago. -/
def Sys.freeJobSlot (s : Sys) : Option Nat :=
  if s.lead.jobs.length < 4096 then (List.range 4096).find? (fun n => (NMap.find s.lead.jobs n).isNone)
  else ((s.lead.jobs.filter (fun j => !j.2.state.live)).foldl (fun (a : Option (Nat × Nat)) j => match a with
    | none => some (j.2.endedAt, j.1)
    | some b => if j.2.endedAt < b.1 then some (j.2.endedAt, j.1) else some b) none).map (fun p => p.2)
/-- The power manager grants operating point `n` to a new job on `k` tiles (R464). -/
def Sys.newJobFits (s : Sys) (k n : Nat) : Bool := decide (s.panelMw + k * oppWatts n * 1075 ≤ 995 * s.power.inForce)
/-- The parameters of a job. -/
def Cmd.jobSpec (c : Cmd) (h q : Nat) (l : List Nat) : JobSpec :=
  let f := c.p 19 1
  { partition := c.partition, table := l.map jobEntry, prefOpp := c.p 18 1, watch := bitOf f 0, stopOnMiss := bitOf f 1
    hostCommit := bitOf f 2, bubble := bitOf f 3, lapCc := c.p 20 4, runs := c.p 24 4, stepLaps := c.p 28 4, outputEid := c.p 32 2
    frameLaps := c.p 34 2, cadence := c.p 36 4, tolerance := c.p 40 4, statusAddr := if c.pollWord then some (c.p 48 8) else none
    hub := h, qp := q, num := c.num, cmdId := c.id, irq := c.irqOnDone }
/-- The panel is in Hold, or powered down by it. -/
def Sys.inHold (s : Sys) : Bool := s.cool.hold.isSome || s.cool.state = 4
/-- JOB_START (R390, R391, R393, R464). -/
def Sys.runJobStart (h q : Nat) : Sys → Cmd → Option Reply × Sys := fun s c =>
  match s.jobTable c with
  | none => (some (Reply.noRead 8 0), s)
  | some l =>
    let spec := c.jobSpec h q l
    let slots := spec.table.map (fun e => ((s.tileOfEid e.slot).getD 0, e.slot))
    let taken (e : Nat × Nat) : Bool :=
      let st := s.coreState e.1 (e.2 % 16)
      (st ≠ .halted && st ≠ .scalar) || (s.jobOfSlot e.2).isSome
    let tiles := slots.foldl (fun (a : List Nat) e => if a.contains e.1 then a else a ++ [e.1]) []
    let shared := (NMap.keys s.lead.jobs).filter (fun n => (s.job n).state.live && (s.jobTiles (s.job n)).any (fun t => tiles.contains t))
    if spec.runs = 0 then (some (Reply.empty 0), s)
    else
      match (List.range slots.length).find? (fun i => taken (slots.getD i (0, 0))) with
      | some i => (some (Reply.busy i), s)
      | none =>
        if s.inHold then (some { status := stThermalHold }, s)
        else
          let top := shared.foldl (fun a n => min a (s.job n).opp) spec.prefOpp
          match (List.range (top + 1)).reverse.find? (fun n => s.newJobFits tiles.length n) with
          | none => (some { status := stPowerDenied }, s)
          | some opp =>
            match s.freeJobSlot with
            | none => (some (Reply.busy 0), s)
            | some n =>
              let serial := (s.lead.serial + 1) % 2 ^ 32
              let at_ := match shared with
                | [] => opp
                | k :: rest => rest.foldl (fun a n => min a (s.job n).opp) (s.job k).opp
              let held := shared.flatMap (fun k => s.jobTiles (s.job k))
              let job : Job := { spec := spec, state := .loading, serial := serial, opp := at_ }
              let s := (s.modLead (fun l => { l with serial := serial })).setJob n job
              let s : Sys := { s with power := { s.power with oppWait := s.power.oppWait.filter (fun w => w.1 ≠ n) } }
              let s := (tiles.filter (fun t => !held.contains t)).foldl (fun (s : Sys) t => s.modTile t (fun x => x.toOpp at_)) s
              let s := s.pushReply h q c.num { status := stAccepted, more := true, handle := job.handle n }
              let s := (s.jobSlots job).foldl (fun (s : Sys) e => s.writeSlot job e.1 e.2.1 e.2.2) s
              let s := ((s.armJob n).writeStarts n).upJob n (fun j => j)
              let s := s.jobCtrl n 4
              (none, if opp < at_ || shared.any (fun k => (s.job k).opp ≠ at_) then s.askOpp (s.jobGroup n) opp else s)

def badHandle : Sys → Cmd → List (Nat × Nat) := fun s c => fails 8 (s.jobOfHandle c).isSome
/-- The job a checked handle names. -/
def Sys.jobNamed (_s : Sys) (c : Cmd) : Nat := c.p 8 8 % 4096

/-- STEP_COMMIT is not permitted on a job (R400). -/
def Job.commitDenied (j : Job) : Bool :=
  let held := j.state = .hold && j.holdCause = 2 && j.poison.contains j.oldest
  (!j.spec.hostCommit && !held) || j.state = .loading || j.state = .replaying
/-- The step a STEP_COMMIT names is the oldest uncommitted one and has ended; a job that ended STATE_LOST answers that
itself (R400). -/
def Job.stepOk (j : Job) (step : Nat) : Bool :=
  if j.state.live then decide (step = j.oldest % 2 ^ 32) && j.spec.table.all (fun e => (NMap.get [] j.ends j.oldest).contains e.slot)
  else j.failStatus = stStateLost
def badStepCommit : Sys → Cmd → List (Nat × Nat) := fun s c =>
  match s.jobOfHandle c with
  | none => [(8, 0)]
  | some n => denies 8 (!(s.job n).commitDenied) ++ fails 16 ((s.job n).stepOk (c.p 16 4))
/-- STEP_COMMIT (R400). Log entry 77. -/
def Sys.runStepCommit (h q : Nat) : Sys → Cmd → Option Reply × Sys := fun s c =>
  let n := s.jobNamed c
  let j := s.job n
  let k := j.oldest
  if !j.state.live then (some (c.withHandle { status := stStateLost }), s)
  else
    let s := s.modJob n (fun j => { j with asked := j.asked.filter (fun a => a.1 ≠ k) ++ [(k, bitOf (c.p 20 1) 0)] })
    let s := s.addWait h q c.num (.stepCommit n k) (c.withHandle {})
    (none, (s.commitSweepDone n).beginCommit n)
/-- STEP_REPLAY (R401). Log entry 77. -/
def Sys.runStepReplay (h q : Nat) : Sys → Cmd → Option Reply × Sys := fun s c =>
  let n := s.jobNamed c
  let j := s.job n
  if (j.state = .hold && j.holdCause = 1) || (s.inHold && j.state = .running) then
    (some (c.withHandle { status := stThermalHold }), s)
  else if j.state = .running || (j.state = .hold && j.holdCause = 2) then
    let s := s.addWait h q c.num (.replay n) (c.withHandle {})
    (none, if j.copying then s.laterJob n else s.beginReplay n)
  else (some (c.withHandle (Reply.deny 8)), s)
def badJobStatus : Sys → Cmd → List (Nat × Nat) := fun s c => badHandle s c ++ fails 16 (c.p 16 8 % 64 = 0)
/-- JOB_STATUS (R395). -/
def Sys.runJobStatus : Sys → Cmd → Reply × Sys := fun s c =>
  let n := s.jobNamed c
  let w := (s.job n).word n
  (c.withHandle (Reply.ok (w % 2 ^ 64)), if c.p 16 8 = 0 then s else s.hostWrite (c.p 16 8) 64 w)
/-- JOB_STOP (R402). -/
def Sys.runJobStop (h q : Nat) : Sys → Cmd → Option Reply × Sys := fun s c =>
  let n := s.jobNamed c
  let j := s.job n
  if !j.state.live then (some (c.withHandle (Reply.ok j.lapsCommitted)), s)
  else
    let s := s.addWait h q c.num (.jobStop n) (c.withHandle {})
    if bitOf (c.p 16 1) 0 then
      let s := s.modJob n (fun j => { j with stopAtStep := some (j.stopAtStep.getD (s.currentStep j)) })
      (none, if j.stopping || j.commit.isSome then s else s.armJob n)
    else (none, s.stopJob n 0)
def badPhaseSet : Sys → Cmd → List (Nat × Nat) := fun s c => badHandle s c ++ fails 16 (c.p 16 1 ≤ 7)
/-- PHASE_SET (R403, R464, R465). Log entry 77. -/
def Sys.runPhaseSet (h q : Nat) : Sys → Cmd → Option Reply × Sys := fun s c =>
  let n := s.jobNamed c
  let j := s.job n
  if !j.state.live || j.state = .loading || j.state = .replaying then (some (c.withHandle (Reply.deny 8)), s)
  else if s.inHold then (some (c.withHandle { status := stThermalHold }), s)
  else
    let s := s.modJob n (fun j => { j with spec := { j.spec with prefOpp := c.p 16 1 } })
    let g := s.jobGroup n
    let op := s.bestOpp (s.groupW g) (s.groupPref g) j.opp
    if op = j.opp then (some (c.withHandle (Reply.ok op)), s)
    else (none, (s.addWait h q c.num (.phase n) (c.withHandle {})).askOpp g op)

end Sys2Proof.Machine
end

