-- ==== Sys2Proof/Machine/State.lean ====
section
/-! DEFINITION. The state of the block: the panel and the queue of commands waiting; the two ways a step could stop; reset. -/

namespace Sys2Proof.Machine

/-- The state: everything the spec gives the panel, and the commands that wait, first in, first out. -/
structure State where
  pending : List Instr := []
  sys : Sys := {}
deriving DecidableEq, Repr

/-- Reasons for which the machine would stop with a fault. There are none: every error that the spec describes (a refused
command, a lost unit, a poisoned row) is an effect on the state. Safe. -/
inductive Fault where
deriving DecidableEq, Repr

/-- Reasons for which a command would be refused by the model. -/
inductive Refusal where
  /-- Raised by an arm of exec whose command has no meaning yet; no arm does. Safe: the run stops. -/
  | notModelled (mnemonic : String)
deriving DecidableEq, Repr

/-- The machine right after a COLD reset with empty flash and fresh fuses: the standby rail is up, everything else is off
(R505; log entries 5, 8). -/
def State.reset : State := { pending := [], sys := Sys.coldState {} }

end Sys2Proof.Machine
end

