-- ==== Sys2Proof/Machine/Ops.lean ====
section
/-! DEFINITION. What the rows of the command table share above the chapters: the idle step, endpoint packets taken by a
row, direct register access, the debug port's accesses, and rows that answer more than a new panel. -/

namespace Sys2Proof.Machine

/-- An idle step: 1 ns of panel time passes, and what the lead hub's firmware waits for is looked at again (log entry
10). Log entry 81. -/
def Sys.idle (s : Sys) : Sys :=
  let s : Sys := { s with now := s.now + 1 }
  let s := ((((s.settleJobs).settleOpps).settleLater).settlePower).settleBoot
  ((s.settleResets).settleSheds).settleRestart

/-- The oldest packet of router `n`'s endpoint buffers that `f` takes, at the head of its channel's buffer (R231). Log
entry 38. -/
def Sys.takeEject (s : Sys) (n : Nat) (f : Packet → Bool) : Option (Packet × Sys) :=
  let l := (s.router n).eject
  let at_ (i : Nat) : Bool := match l[i]? with
    | some p => f p.2 && !((l.take i).any (fun q => q.1 = p.1))
    | none => false
  match (List.range l.length).find? at_ with
  | none => none
  | some i => (l[i]?).map (fun p => (p.2, s.setRouter n { s.router n with eject := listDrop l i }))

/-- A packet of a kind taken at endpoint `n`: by a tile through `f`, by a hub through its own rules. -/
def Sys.atEndpoint (s : Sys) (n : Nat) (kind : Packet → Bool) (f : TX → Packet → TX) : Sys :=
  match s.takeEject n kind with
  | none => s
  | some (p, s) => if n < 256 then s.onTile n (fun x => f x p) else if n < 258 then s.hubPacket (n - 256) p else s

/-- DST is a tile control-block EID (R25). -/
def Packet.toControl (p : Packet) : Bool := decide (0x1100 ≤ p.dst) && decide (p.dst ≤ 0x11EF)

/-- A long WRITE, from the mesh (`src` 0) or a multicast row from the row or column straight (`src` 1, 2), at a tile or
hub endpoint (R303, R252). A hub takes the row of its lowest row straight that holds one. -/
def Sys.writeRow (s : Sys) (n src : Nat) : Sys :=
  if src = 0 then s.atEndpoint n (fun p => p.type = 1 && p.long && !p.toControl) (fun x p => x.windowWrite p 17)
  else if n < 256 && src ≤ 2 then
    let k := straightOf n (src - 1)
    let st := s.straight k
    match (st.port (positionOf n (src - 1))).takeWindow with
    | none => s
    | some (p, q) => (s.setStraight k (st.setPort (positionOf n (src - 1)) q)).onTile n (fun x => x.windowWrite p 18)
  else if n < 258 && src = 1 then
    let row := (List.range 16).findSome? (fun r => ((s.straight r).port (n - 240)).takeMcast.map (fun x => (r, x)))
    match row with
    | none => s
    | some (r, p, q) => (s.setStraight r ((s.straight r).setPort (n - 240) q)).hubPacket (n - 256) p
  else s

/-- A short WRITE at an endpoint (R224). -/
def Sys.shortWriteRow (s : Sys) (n : Nat) : Sys := s.atEndpoint n (fun p => p.type = 1 && !p.long) (fun x p => x.shortWrite p)
/-- A READ_REQ at an endpoint (R304). -/
def Sys.readReqRow (s : Sys) (n : Nat) : Sys := s.atEndpoint n (fun p => p.type = 2) (fun x p => x.readReq p)
/-- A READ_RESP at an endpoint (R225). -/
def Sys.readRespRow (s : Sys) (n : Nat) : Sys := s.atEndpoint n (fun p => p.type = 3) (fun x p => x.readResp p)
/-- A control write at a tile control block (R306). -/
def Sys.controlWriteRow (s : Sys) (n : Nat) : Sys :=
  s.atEndpoint n (fun p => p.type = 1 && p.long && p.toControl) (fun x p => x.controlWrite p)
/-- An ACK at its sender; a copy it ends lets its step commit (R311, R306, R490). -/
def Sys.ackRow (s : Sys) (n : Nat) : Sys := (s.atEndpoint n (fun p => p.type = 6) (fun x p => x.replyIn p)).copiesDone
/-- A NACK at its sender (R311). -/
def Sys.nackRow (s : Sys) (n : Nat) : Sys := s.atEndpoint n (fun p => p.type = 7) (fun x p => x.replyIn p)

/-- A row for a slot of a tile; a number that names no slot does nothing. -/
def Sys.onSlot (s : Sys) (t k : Nat) (f : TX → TX) : Sys := if k < 16 then s.onTile t f else s
/-- A row that samples a tile's own sensors: its rails are up. -/
def Sys.onPowered (s : Sys) (t : Nat) (f : TX → TX) : Sys := if (s.tile t).pwr.on then s.onTile t f else s

/-- A request for a slot made through TILE_CORE_CTRL, or by a CORE_CTRL message with code `code` (R60, R285). -/
def Sys.coreRequest (s : Sys) (t k : Nat) (msg : Bool) (code : Nat) (f : TX → Nat → TX) : Sys :=
  if msg then s.ctrlMsg t code f else s.onSlot t k (fun x => f x k)

/-- A custom scalar instruction word, executed at the pc of the slot. -/
def Sys.scalarRow (s : Sys) (t k cc w : Nat) : Sys := s.onSlot t k (fun x => x.scalarWord k cc w)

/-- The narrow view of the tile store (R163). -/
def narrowAddr (a : Nat) : Bool := decide (0x20000000 ≤ a) && decide (a < 0x28000000)
/-- A scalar load or store at `rs1 + imm`, where that address is in the narrow view (R163, R164). -/
def Sys.narrowRowAt (s : Sys) (t k cc rs1 imm w : Nat) : Sys :=
  s.onSlot t k (fun x =>
    if narrowAddr (w32 ((x.slot k).sc.get rs1 + sext 12 imm)) then x.scalarWord k cc w else x)

/-- The PCIe configuration bits of a hub that the host sets: 0 Memory Space Enable, 1 Bus Master Enable, 2 the MSI-X
function mask (R344, R356, R360; log entry 17). -/
def Sys.pcieConf (s : Sys) (h off : Nat) : Nat :=
  let u := s.hub h
  bitNat (if off = 0 then u.memSpace else if off = 1 then u.busMaster else if off = 2 then u.maskAll else false)
/-- Such a bit written: Bus Master Enable cleared disables the pairs, the function mask cleared sends what is pending. -/
def Sys.pcieConfWrite (s : Sys) (h off v : Nat) : Sys :=
  let on := bitOf v 0
  if off = 0 then s.modHub h (fun u => { u with memSpace := on })
  else if off = 1 then (if on then s.modHub h (fun u => { u with busMaster := true }) else s.busMasterClear h)
  else if off = 2 then
    let s := s.modHub h (fun u => { u with maskAll := on })
    if on then s
    else (NMap.keys (s.hub h).msix).foldl (fun (s : Sys) v => if (NMap.get {} (s.hub h).msix v).masked then s else s.msixUnmask h v) s
  else s

/-- A register read directly: its value, and what the read clears (R7). Space 0 is a tile, 1 a hub, 2 an engine, 3 the
PCIe configuration of a hub. -/
def Sys.readClear (s : Sys) (space unit_ off : Nat) : Sys :=
  if space = 0 && unit_ < 256 then
    let v := (s.tx unit_).readReg off
    { s.onTile unit_ (fun x => x.readEffect off) with answer := v }
  else if space = 1 && unit_ < 2 then
    let v := s.hubReg unit_ off % 2 ^ 32
    { s.hubReadEffect unit_ off with answer := v }
  else if space = 2 && unit_ < 8 then
    let v := s.engineReg unit_ off
    { s.modEngine unit_ (fun e => e.readEffect off) with answer := v }
  else if space = 3 && unit_ < 2 then { s with answer := s.pcieConf unit_ off }
  else s

/-- A register written directly (R7, R61). -/
def Sys.registerWrite (s : Sys) (space unit_ off v : Nat) : Sys :=
  if space = 0 && unit_ < 256 then s.onTile unit_ (fun x => (x.writeReg off v false).2)
  else if space = 1 && unit_ < 2 then (s.hubRegWrite unit_ off v).2
  else if space = 2 && unit_ < 8 then s.engineWrite unit_ off v
  else if space = 3 && unit_ < 2 then s.pcieConfWrite unit_ off v
  else s

/-- A read of TILE_CORE_DOORBELL_HI of a slot (R293). -/
def Sys.doorbellHi (s : Sys) (t k : Nat) : Sys := if k < 16 then s.readClear 0 t (0x2000 + 0x100 * k + 0x2C) else s

/-- One instruction of a scalar core halted by the debugger; it is halted again after it (R530). Log entry 70. -/
def TX.debugStep (x : TX) (k cc : Nat) : TX :=
  let st := (x.slot k).state
  if !(x.slot k).sc.halted then x
  else
    let go (s : Slot) : Slot := { s with sc := { s.sc with halted := false }, state := if st = .halted then .scalar else st }
    let stop (s : Slot) : Slot := { s with sc := { s.sc with halted := true }, state := if s.state = .scalar then .halted else s.state }
    ((x.modSlot k go).scalarInstruction k cc .clean).modSlot k stop

/-- An access of the debug port of hub `h`, once unlocked (R530): kind 0 halts control processor `a`, 1 steps it, 2
halts scalar core `b` of tile `a`, 3 steps it, 4 and 5 read and write hub memory at `a`, 6 and 7 a register of tile `a`
at `b`. Log entry 70. -/
def Sys.debugAccess (s : Sys) (h kind a b v : Nat) : Sys :=
  if !(s.bootHub h).unlocked || !s.power.standby then s
  else if kind = 0 then (if a < 4 then s.modBootHub h (fun x => { x with cpHalted := x.cpHalted ||| 2 ^ a }) else s)
  else if kind = 1 then s
  else if kind = 2 then s.onSlot a b (fun x => x.haltCore b)
  else if kind = 3 then s.onSlot a b (fun x => x.debugStep b v)
  else if kind = 4 then { s with answer := Mem.read (s.hub h).sram a 4 }
  else if kind = 5 then s.modHub h (fun u => { u with sram := Mem.write u.sram a 4 v })
  else if kind = 6 then s.readClear 0 a b
  else if kind = 7 then s.registerWrite 0 a b v
  else s

/-- What the host put into its memory before it rang a doorbell: (address, length, value), and the ranges whose reads fail
from now on (log entry 3). -/
def Sys.hostSets (s : Sys) (mem : List (Nat × Nat × Nat)) (bad : List (Nat × Nat)) : Sys :=
  mem.foldl (fun (s : Sys) m => s.hostWrite m.1 m.2.1 m.2.2) { s with hostBad := bad }

/-- No pair of any hub holds a reply to be written. -/
def Sys.repliesOut (s : Sys) : Bool := s.hubs.all (fun u => u.2.qps.all (fun q => q.2.replies.isEmpty))
/-- REPLY_WRITE; a firmware reset that was asked for happens once every reply is out (R377, R521). -/
def Sys.replyRow (s : Sys) (h q : Nat) : Sys :=
  let s := s.replyWrite h q
  if s.boot.restartAt.isSome && s.repliesOut then s.restart else s

/-- A group command waits while an epoch switch is in its PREPARE phase (R33, R387, R388). -/
def Sys.groupCommand (s : Sys) (h q op : Nat) (bad : Sys → Cmd → List (Nat × Nat)) (run : Sys → Cmd → Option Reply × Sys) : Sys :=
  match s.lead.sw with
  | some w => if w.phase = 1 then s else s.command h q op bad run
  | none => s.command h q op bad run

/-- A 4-byte host write to a BAR (R346). -/
def Sys.hostWord (s : Sys) (h bar off v : Nat) : Sys := s.barAccess h bar off 4 true v

/-- A PLDM command of type `code / 256` and code `code % 256` that is none of those R454 lists. -/
def Sys.pldmOther (s : Sys) (code : Nat) : Sys :=
  if [2, 3, 4, 5, 0x3F01, 0x3F02, 0x3F03].contains code then s else s.pldmUnsupported

/-- What an engine runs completes: 0 an MM, 1 a macro load, 2 an ACC operation, 3 vector, 4 store, 5 pacer (R49). -/
def TX.complete (x : TX) (k which : Nat) : TX :=
  if which < 3 then x.matrixDone k which
  else if which = 3 then x.vectorDone k
  else if which = 4 then x.storeDone k
  else x.pacerDone k

/-- A map from pairs in any order. -/
def mapOf {α : Type} (l : List (Nat × α)) : NMap α := l.foldl (fun m p => NMap.put m p.1 p.2) []

/-- A command's effect `f` on the panel; a command that is not well formed is none and changes nothing (log entry 9). -/
def State.act (s : State) (ok : Bool) (f : Sys → Sys) : Host.Outcome State Fault Refusal :=
  .next (if ok then { s with sys := f s.sys } else s)

end Sys2Proof.Machine
end

