-- ==== Sys2Proof/Machine/Commands.lean ====
section
/-! DEFINITION. The meanings of the commands of the host commands, one for each row. -/

namespace Sys2Proof.Machine

/-- NOP (R372). -/
def execNop (h : Nat) (q : Nat) (s : State) : Host.Outcome State Fault Refusal :=
  s.act (Instr.nop h q).wf (fun y => y.command h q 0x00 noChecks (now_ (fun s _ => (Reply.ok 0, s))))

/-- IDENTIFY (R549). -/
def execIdentify (h : Nat) (q : Nat) (s : State) : Host.Outcome State Fault Refusal :=
  s.act (Instr.identify h q).wf (fun y => y.command h q 0x01 badIdentify (now_ Sys.runIdentify))

/-- GET_FEATURE (R374). -/
def execGetFeature (h : Nat) (q : Nat) (s : State) : Host.Outcome State Fault Refusal :=
  s.act (Instr.getFeature h q).wf (fun y => y.command h q 0x02 badFeature (now_ Sys.runGetFeature))

/-- SET_FEATURE (R374). -/
def execSetFeature (h : Nat) (q : Nat) (s : State) : Host.Outcome State Fault Refusal :=
  s.act (Instr.setFeature h q).wf (fun y => y.command h q 0x03 badSetFeature (now_ Sys.runSetFeature))

/-- REG_READ (R375). -/
def execRegRead (h : Nat) (q : Nat) (s : State) : Host.Outcome State Fault Refusal :=
  s.act (Instr.regRead h q).wf (fun y => y.command h q 0x04 (badRegsOn h q) (Sys.runRegs h q))

/-- REG_WRITE (R375). -/
def execRegWrite (h : Nat) (q : Nat) (s : State) : Host.Outcome State Fault Refusal :=
  s.act (Instr.regWrite h q).wf (fun y => y.command h q 0x05 (badRegsOn h q) (Sys.runRegs h q))

/-- PARTITION_CREATE (R380). -/
def execPartitionCreate (h : Nat) (q : Nat) (s : State) : Host.Outcome State Fault Refusal :=
  s.act (Instr.partitionCreate h q).wf (fun y => y.command h q 0x08 badPartCreate (now_ Sys.runPartCreate))

/-- PARTITION_DESTROY (R381). -/
def execPartitionDestroy (h : Nat) (q : Nat) (s : State) : Host.Outcome State Fault Refusal :=
  s.act (Instr.partitionDestroy h q).wf (fun y => y.command h q 0x09 noChecks (now_ Sys.runPartDestroy))

/-- PARTITION_RESET (R381). -/
def execPartitionReset (h : Nat) (q : Nat) (s : State) : Host.Outcome State Fault Refusal :=
  s.act (Instr.partitionReset h q).wf (fun y => y.command h q 0x0A noChecks (Sys.runPartReset h q))

/-- REGION_DEFINE (R156, R382). -/
def execRegionDefine (h : Nat) (q : Nat) (s : State) : Host.Outcome State Fault Refusal :=
  s.act (Instr.regionDefine h q).wf (fun y => y.command h q 0x10 badRegionDefine (Sys.runRegionDefine h q))

/-- REGION_RELEASE (R157). -/
def execRegionRelease (h : Nat) (q : Nat) (s : State) : Host.Outcome State Fault Refusal :=
  s.act (Instr.regionRelease h q).wf (fun y => y.command h q 0x11 badRegionNumber (Sys.runRegionRelease h q))

/-- STORE_FILL (R383). -/
def execStoreFill (h : Nat) (q : Nat) (s : State) : Host.Outcome State Fault Refusal :=
  s.act (Instr.storeFill h q).wf (fun y => y.command h q 0x12 (badStore true) (Sys.runStoreFill h q))

/-- STORE_WRITE (R383). -/
def execStoreWrite (h : Nat) (q : Nat) (s : State) : Host.Outcome State Fault Refusal :=
  s.act (Instr.storeWrite h q).wf (fun y => y.command h q 0x13 (badStore false) (now_ Sys.runStoreWrite))

/-- STORE_READ (R383). -/
def execStoreRead (h : Nat) (q : Nat) (s : State) : Host.Outcome State Fault Refusal :=
  s.act (Instr.storeRead h q).wf (fun y => y.command h q 0x14 (badStore false) (now_ Sys.runStoreRead))

/-- WEIGHT_LOAD (R385). -/
def execWeightLoad (h : Nat) (q : Nat) (s : State) : Host.Outcome State Fault Refusal :=
  s.act (Instr.weightLoad h q).wf (fun y => y.command h q 0x15 badWeightLoad (now_ Sys.runWeightLoad))

/-- CODE_LOAD (R384). -/
def execCodeLoad (h : Nat) (q : Nat) (s : State) : Host.Outcome State Fault Refusal :=
  s.act (Instr.codeLoad h q).wf (fun y => y.command h q 0x18 badCodeLoad (now_ Sys.runCodeLoad))

/-- WINDOW_OPEN (R300). -/
def execWindowOpen (h : Nat) (q : Nat) (s : State) : Host.Outcome State Fault Refusal :=
  s.act (Instr.windowOpen h q).wf (fun y => y.command h q 0x20 badWindowOpen (now_ Sys.runWindowOpen))

/-- WINDOW_CLOSE (R313). -/
def execWindowClose (h : Nat) (q : Nat) (s : State) : Host.Outcome State Fault Refusal :=
  s.act (Instr.windowClose h q).wf (fun y => y.command h q 0x21 badWindowClose (Sys.runWindowClose h q))

/-- MCAST_GROUP_SET (R387). -/
def execMcastGroupSet (h : Nat) (q : Nat) (s : State) : Host.Outcome State Fault Refusal :=
  s.act (Instr.mcastGroupSet h q).wf (fun y => y.groupCommand h q 0x22 badMcast (now_ Sys.runMcast))

/-- RGROUP_SET (R388). -/
def execRgroupSet (h : Nat) (q : Nat) (s : State) : Host.Outcome State Fault Refusal :=
  s.act (Instr.rgroupSet h q).wf (fun y => y.groupCommand h q 0x23 badRgroup (now_ Sys.runRgroup))

/-- STREAM_OPEN (R389). -/
def execStreamOpen (h : Nat) (q : Nat) (s : State) : Host.Outcome State Fault Refusal :=
  s.act (Instr.streamOpen h q).wf (fun y => y.command h q 0x28 badStreamOpen (now_ Sys.runStreamOpen))

/-- STREAM_CLOSE (R335). -/
def execStreamClose (h : Nat) (q : Nat) (s : State) : Host.Outcome State Fault Refusal :=
  s.act (Instr.streamClose h q).wf (fun y => y.command h q 0x29 badStreamClose (now_ Sys.runStreamClose))

/-- JOB_START (R393). -/
def execJobStart (h : Nat) (q : Nat) (s : State) : Host.Outcome State Fault Refusal :=
  s.act (Instr.jobStart h q).wf (fun y => y.command h q 0x30 badJobStart (Sys.runJobStart h q))

/-- JOB_FEED (R361). -/
def execJobFeed (h : Nat) (q : Nat) (s : State) : Host.Outcome State Fault Refusal :=
  s.act (Instr.jobFeed h q).wf (fun y => y.command h q 0x31 badJobFeed (now_ Sys.runJobFeed))

/-- STEP_COMMIT (R400). -/
def execStepCommit (h : Nat) (q : Nat) (s : State) : Host.Outcome State Fault Refusal :=
  s.act (Instr.stepCommit h q).wf (fun y => y.command h q 0x32 badStepCommit (Sys.runStepCommit h q))

/-- STEP_REPLAY (R401). -/
def execStepReplay (h : Nat) (q : Nat) (s : State) : Host.Outcome State Fault Refusal :=
  s.act (Instr.stepReplay h q).wf (fun y => y.command h q 0x33 badHandle (Sys.runStepReplay h q))

/-- JOB_STATUS (R395). -/
def execJobStatus (h : Nat) (q : Nat) (s : State) : Host.Outcome State Fault Refusal :=
  s.act (Instr.jobStatus h q).wf (fun y => y.command h q 0x34 badJobStatus (now_ Sys.runJobStatus))

/-- JOB_STOP (R402). -/
def execJobStop (h : Nat) (q : Nat) (s : State) : Host.Outcome State Fault Refusal :=
  s.act (Instr.jobStop h q).wf (fun y => y.command h q 0x35 badHandle (Sys.runJobStop h q))

/-- PHASE_SET (R403). -/
def execPhaseSet (h : Nat) (q : Nat) (s : State) : Host.Outcome State Fault Refusal :=
  s.act (Instr.phaseSet h q).wf (fun y => y.command h q 0x38 badPhaseSet (Sys.runPhaseSet h q))

/-- POWER_QUERY (R476). -/
def execPowerQuery (h : Nat) (q : Nat) (s : State) : Host.Outcome State Fault Refusal :=
  s.act (Instr.powerQuery h q).wf (fun y => y.command h q 0x39 badPowerQuery (now_ Sys.runPowerQuery))

/-- HEALTH_QUERY (R502). -/
def execHealthQuery (h : Nat) (q : Nat) (s : State) : Host.Outcome State Fault Refusal :=
  s.act (Instr.healthQuery h q).wf (fun y => y.command h q 0x40 badUnitBuffer (now_ Sys.runHealthQuery))

/-- UNIT_SHED (R379). -/
def execUnitShed (h : Nat) (q : Nat) (s : State) : Host.Outcome State Fault Refusal :=
  s.act (Instr.unitShed h q).wf (fun y => y.command h q 0x41 badUnit (Sys.runUnitShed h q))

/-- UNIT_REGROW; `pass` is what the retest finds (R379). -/
def execUnitRegrow (h : Nat) (q : Nat) (pass : Bool) (s : State) : Host.Outcome State Fault Refusal :=
  s.act (Instr.unitRegrow h q pass).wf (fun y => y.command h q 0x42 badRegrow (now_ (Sys.runUnitRegrow pass)))

/-- UNIT_WATCH_CLEAR (R379). -/
def execUnitWatchClear (h : Nat) (q : Nat) (s : State) : Host.Outcome State Fault Refusal :=
  s.act (Instr.unitWatchClear h q).wf (fun y => y.command h q 0x43 badUnit (now_ Sys.runWatchClear))

/-- LOG_READ (R376). -/
def execLogRead (h : Nat) (q : Nat) (s : State) : Host.Outcome State Fault Refusal :=
  s.act (Instr.logRead h q).wf (fun y => y.command h q 0x48 badLogRead (now_ Sys.runLogRead))

/-- TIME_SYNC (R376). -/
def execTimeSync (h : Nat) (q : Nat) (s : State) : Host.Outcome State Fault Refusal :=
  s.act (Instr.timeSync h q).wf (fun y => y.command h q 0x49 noChecks (now_ Sys.runTimeSync))

/-- CONFIG_READ; `q.fail` says that the flash fails (R377). -/
def execConfigRead (h : Nat) (q : FlashPair) (s : State) : Host.Outcome State Fault Refusal :=
  s.act (Instr.configRead h q).wf (fun y => y.command h q.pair 0x50 badConfigRead (now_ (flashed q.fail Sys.runConfigRead)))

/-- CONFIG_WRITE; `q.fail` says that the flash fails (R377). -/
def execConfigWrite (h : Nat) (q : FlashPair) (s : State) : Host.Outcome State Fault Refusal :=
  s.act (Instr.configWrite h q).wf (fun y =>
    y.command h q.pair 0x51 badConfigWrite (now_ (flashed q.fail Sys.runConfigWrite)))

/-- FIRMWARE_STAGE; `q.fail` says that the flash fails (R377). -/
def execFirmwareStage (h : Nat) (q : FlashPair) (s : State) : Host.Outcome State Fault Refusal :=
  s.act (Instr.firmwareStage h q).wf (fun y => y.command h q.pair 0x52 badStage (now_ (flashed q.fail Sys.runStage)))

/-- FIRMWARE_ACTIVATE; `q.fail` says that the flash fails (R377, R521). -/
def execFirmwareActivate (h : Nat) (q : FlashPair) (s : State) : Host.Outcome State Fault Refusal :=
  s.act (Instr.firmwareActivate h q).wf (fun y => y.command h q.pair 0x53 noChecks (now_ (flashed q.fail Sys.runActivate)))

/-- LINK_QUERY (R419). -/
def execLinkQuery (h : Nat) (q : Nat) (s : State) : Host.Outcome State Fault Refusal :=
  s.act (Instr.linkQuery h q).wf (fun y => y.command h q 0x58 badLinkQuery (now_ Sys.runLinkQuery))

end Sys2Proof.Machine
end

