-- ==== Sys2Proof/Machine/Cool.lean ====
section
/-! DEFINITION. The meanings of the commands of cooling and temperature, one for each row. -/

namespace Sys2Proof.Machine

/-- The coolant sensors are read (R466–R468, R471). -/
def execCoolantSample (good : Bool) (inlet : Nat) (outlet : Nat) (flow : Nat) (status : Nat) (sq : Nat)
    (s : State) : Host.Outcome State Fault Refusal :=
  s.act (Instr.coolantSample good inlet outlet flow status sq).wf (fun y => y.coolantSample good inlet outlet flow status sq)

/-- A sample of PUMP_FAULT_N (R466). -/
def execPumpFaultN (level : Bool) (s : State) : Host.Outcome State Fault Refusal :=
  s.act (Instr.pumpFaultN level).wf (fun y => y.pumpFaultN level)

/-- The 1 s alert of SLOW_FALL (R467). -/
def execSlowFallAlert (rise : Int) (s : State) : Host.Outcome State Fault Refusal :=
  s.act (Instr.slowFallAlert rise).wf (fun y => y.slowFallAlert rise)

/-- Heat removed is compared with feed power (R468). -/
def execHeatBalanceCheck (s : State) : Host.Outcome State Fault Refusal :=
  s.act Instr.heatBalanceCheck.wf (fun y => y.heatBalance)

/-- A tile samples its sensors (R469). -/
def execTileTempSample (t : Nat) (temps : List Nat) (rise : Int) (s : State) : Host.Outcome State Fault Refusal :=
  s.act (Instr.tileTempSample t temps rise).wf (fun y => y.onPowered t (fun x => x.tempSample temps rise))

/-- A tile at 105 °C for 5 s (R469). -/
def execThermalLimit (t : Nat) (s : State) : Host.Outcome State Fault Refusal :=
  s.act (Instr.thermalLimit t).wf (fun y => y.onPowered t (fun x => x.thermalLimit))

/-- Flow restored for 2 s ends Hold (R472). -/
def execHoldRestore (s : State) : Host.Outcome State Fault Refusal :=
  s.act Instr.holdRestore.wf (fun y => y.holdRestore)

/-- Flow not restored in 5 s (R472). -/
def execCoolingPowerDown (s : State) : Host.Outcome State Fault Refusal :=
  s.act Instr.coolingPowerDown.wf (fun y => y.coolingPowerDown)

/-- Flow restored for 10 s (R472). -/
def execCoolingPowerRestore (s : State) : Host.Outcome State Fault Refusal :=
  s.act Instr.coolingPowerRestore.wf (fun y => y.coolingPowerRestore)

end Sys2Proof.Machine
end

