-- ==== Sys2Proof/Machine/Epoch.lean ====
section
/-! DEFINITION. The meanings of the commands of epoch switches, one for each row. -/

namespace Sys2Proof.Machine

/-- An epoch switch starts (R33). -/
def execEpochSwitchStart (s : State) : Host.Outcome State Fault Refusal :=
  s.act Instr.epochSwitchStart.wf (fun y => y.epochSwitchStart)

/-- PREPARE at a replica (R286). -/
def execPrepare (n : Nat) (s : State) : Host.Outcome State Fault Refusal :=
  s.act (Instr.prepare n).wf (fun y => y.prepare n)

/-- ROUTE at a replica (R286). -/
def execRoute (n : Nat) (s : State) : Host.Outcome State Fault Refusal :=
  s.act (Instr.route n).wf (fun y => y.routeMsg n)

/-- PREPARE_ACK at the lead hub (R33). -/
def execPrepareAck (s : State) : Host.Outcome State Fault Refusal :=
  s.act Instr.prepareAck.wf (fun y => y.prepareAck)

/-- A replica silent for 50 µs (R34). -/
def execPrepareAckTimeout (n : Nat) (s : State) : Host.Outcome State Fault Refusal :=
  s.act (Instr.prepareAckTimeout n).wf (fun y => y.prepareLost n)

/-- COMMIT at a replica (R33). -/
def execCommit (n : Nat) (s : State) : Host.Outcome State Fault Refusal :=
  s.act (Instr.commit n).wf (fun y => y.commitMsg n)

/-- COMMIT_ACK at the lead hub (R33). -/
def execCommitAck (s : State) : Host.Outcome State Fault Refusal :=
  s.act Instr.commitAck.wf (fun y => y.commitAcked)

/-- EPOCH_DRAINED at the lead hub (R33). -/
def execEpochDrained (s : State) : Host.Outcome State Fault Refusal :=
  s.act Instr.epochDrained.wf (fun y => y.epochDrained)

/-- A router not drained after 50 µs (R34). -/
def execDrainTimeout (n : Nat) (s : State) : Host.Outcome State Fault Refusal :=
  s.act (Instr.drainTimeout n).wf (fun y => y.drainLost n)

/-- RETIRE at a replica (R33, R277). -/
def execRetire (n : Nat) (s : State) : Host.Outcome State Fault Refusal :=
  s.act (Instr.retire n).wf (fun y => y.retireMsg n)

end Sys2Proof.Machine
end

