-- ==== Sys2Proof/Machine/Ingest.lean ====
section
/-! DEFINITION. The meanings of the commands of ingest and egress, one for each row. -/

namespace Sys2Proof.Machine

/-- The ingest stage decodes the next unit of a context (R328). -/
def execIngestDecode (h : Nat) (n : Nat) (s : State) : Host.Outcome State Fault Refusal :=
  s.act (Instr.ingestDecode h n).wf (fun y => y.ingestDecode h n)

/-- The next ingest item goes to its consumer ring (R331). -/
def execItemDelivery (h : Nat) (n : Nat) (s : State) : Host.Outcome State Fault Refusal :=
  s.act (Instr.itemDelivery h n).wf (fun y => y.itemDelivery h n)

/-- An Ethernet frame arrives; byte 0 lowest (R435). -/
def execEthernetFrame (e : Nat) (p : Nat) (sub : Nat) (f : Nat) (len : Nat) (s : State) : Host.Outcome State Fault Refusal :=
  s.act (Instr.ethernetFrame e p sub f len).wf (fun y => y.ethernetFrame e p sub f len)

/-- The egress stage packs and writes an item (R339). -/
def execEgressItem (h : Nat) (n : Nat) (s : State) : Host.Outcome State Fault Refusal :=
  s.act (Instr.egressItem h n).wf (fun y => y.egressItem h n)

end Sys2Proof.Machine
end

