-- ==== Sys2Proof/Machine/Laps.lean ====
section
/-! DEFINITION. The meanings of the commands of laps, tokens, doorbells and plain register access, one for each row. -/

namespace Sys2Proof.Machine

/-- The next descriptor of the lap program enters its queue (R52). -/
def execSequencerIssue (t : Nat) (k : Nat) (s : State) : Host.Outcome State Fault Refusal :=
  s.act (Instr.sequencerIssue t k).wf (fun y => y.onTile t (fun x => x.sequencerIssue k))

/-- A lap-run request, through TILE_CORE_CTRL or a CORE_CTRL message (R52, R285). -/
def execLapStart (t : Nat) (k : Nat) (msg : Bool) (s : State) : Host.Outcome State Fault Refusal :=
  s.act (Instr.lapStart t k msg).wf (fun y => y.coreRequest t k msg 4 (fun x i => (x.lapStart i).2))

/-- A stop request (R56). -/
def execLapStop (t : Nat) (k : Nat) (msg : Bool) (s : State) : Host.Outcome State Fault Refusal :=
  s.act (Instr.lapStop t k msg).wf (fun y => y.coreRequest t k msg 3 (fun x i => x.lapStop i))

/-- A freeze request (R56). -/
def execFreeze (t : Nat) (k : Nat) (msg : Bool) (s : State) : Host.Outcome State Fault Refusal :=
  s.act (Instr.freeze t k msg).wf (fun y => y.coreRequest t k msg 1 (fun x i => x.freeze i))

/-- A thaw request (R56, R208). -/
def execThaw (t : Nat) (k : Nat) (msg : Bool) (s : State) : Host.Outcome State Fault Refusal :=
  s.act (Instr.thaw t k msg).wf (fun y => y.coreRequest t k msg 2 (fun x i => x.thaw i))

/-- CORE_CTRL CUT stops the named slots inside a lap (R565). -/
def execCut (t : Nat) (s : State) : Host.Outcome State Fault Refusal :=
  s.act (Instr.cut t).wf (fun y => y.ctrlMsg t 5 (fun x i => x.cut i))

/-- The lap a start or thaw waits for begins (R208). -/
def execLapZeroBegin (t : Nat) (k : Nat) (s : State) : Host.Outcome State Fault Refusal :=
  s.act (Instr.lapZeroBegin t k).wf (fun y => y.onTile t (fun x => x.lapZeroBegin k))

/-- A lap boundary; what was waited for is measured (R53, R54, R56, R216, R472). -/
def execLapBoundary (t : Nat) (k : Nat) (timing : LapTiming) (s : State) : Host.Outcome State Fault Refusal :=
  s.act (Instr.lapBoundary t k timing).wf (fun y => (y.onTile t (fun x => x.lapBoundary k timing)).settleHold t)

/-- A read of the high doorbell word (R293). -/
def execDoorbellHi (t : Nat) (k : Nat) (s : State) : Host.Outcome State Fault Refusal :=
  s.act (Instr.doorbellHi t k).wf (fun y => y.doorbellHi t k)

/-- A register read directly, and what the read clears; space 0 a tile, 1 a hub, 2 an engine, 3 a hub's PCIe
configuration (R7, log entry 9). -/
def execReadClear (space : Nat) (unit : Nat) (off : Nat) (s : State) : Host.Outcome State Fault Refusal :=
  s.act (Instr.readClear space unit off).wf (fun y => y.readClear space unit off)

/-- A register written directly, by its access codes and limits (R7, R61, log entry 9). -/
def execRegisterWrite (space : Nat) (unit : Nat) (off : Nat) (v : Nat) (s : State) : Host.Outcome State Fault Refusal :=
  s.act (Instr.registerWrite space unit off v).wf (fun y => y.registerWrite space unit off v)

/-- 1,024 cc of waiting on tokens alone (R149). -/
def execTokenDeadlock (t : Nat) (k : Nat) (s : State) : Host.Outcome State Fault Refusal :=
  s.act (Instr.tokenDeadlock t k).wf (fun y => y.onTile t (fun x => x.tokenDeadlock k))

/-- What an engine runs completes: 0 an MM, 1 a macro load, 2 an ACC operation, 3 vector, 4 store, 5 pacer (R49). -/
def execDescriptorCompletion (t : Nat) (k : Nat) (which : Nat) (s : State) : Host.Outcome State Fault Refusal :=
  s.act (Instr.descriptorCompletion t k which).wf (fun y => y.onTile t (fun x => x.complete k which))

/-- A DOORBELL message reaches its slot (R293). -/
def execDoorbell (t : Nat) (s : State) : Host.Outcome State Fault Refusal :=
  s.act (Instr.doorbell t).wf (fun y => y.doorbellMsg t)

end Sys2Proof.Machine
end

