-- ==== Sys2Proof/Machine/Leapfrog.lean ====
section
/-! DEFINITION. The meanings of the commands of leapfrog, takeover and the weight audit, one for each row. -/

namespace Sys2Proof.Machine

/-- PERIOD_MS has elapsed; `est` are the thermal estimates by slot (R65). -/
def execLeapfrogPeriod (t : Nat) (est : List Nat) (s : State) : Host.Outcome State Fault Refusal :=
  s.act (Instr.leapfrogPeriod t est).wf (fun y => y.leapfrogPeriod t est)

/-- The preload finishes; `flips` are bits turned over in each macro at each of its two loads (R65). -/
def execPreloadComplete (t : Nat) (flips : List (Nat × List (List (Nat × Nat))))
    (s : State) : Host.Outcome State Fault Refusal :=
  s.act (Instr.preloadComplete t flips).wf (fun y => y.onTile t (fun x => x.preloadComplete (mapOf flips)))

/-- 64 lap boundaries without a handover (R67). -/
def execLeapfrogAbandon (t : Nat) (s : State) : Host.Outcome State Fault Refusal :=
  s.act (Instr.leapfrogAbandon t).wf (fun y => y.onTile t (fun x => x.leapfrogAbandon))

/-- A unit fault of physical core `c` (R66, R68). -/
def execCoreUnitFault (t : Nat) (c : Nat) (cause : FaultCause) (s : State) : Host.Outcome State Fault Refusal :=
  s.act (Instr.coreUnitFault t c cause).wf (fun y => y.onTile t (fun x => x.coreUnitFault c cause))

/-- The takeover load finishes (R567). -/
def execTakeoverReady (t : Nat) (flips : List (Nat × List (List (Nat × Nat))))
    (s : State) : Host.Outcome State Fault Refusal :=
  s.act (Instr.takeoverReady t flips).wf (fun y => y.onTile t (fun x => x.takeoverReady (mapOf flips)))

/-- A background or commit audit sweep starts (R119, R121). -/
def execAuditSweep (t : Nat) (s : State) : Host.Outcome State Fault Refusal :=
  s.act (Instr.auditSweep t).wf (fun y => y.onTile t (fun x => x.auditSweep))

/-- The audit has read one macro, in which `flips` have turned over (R119). -/
def execMacroAudit (t : Nat) (flips : List (Nat × Nat)) (s : State) : Host.Outcome State Fault Refusal :=
  s.act (Instr.macroAudit t flips).wf (fun y => y.onTile t (fun x => x.macroAudit flips))

/-- A mismatching macro is loaded again (R120). -/
def execAuditReload (t : Nat) (flips : List (Nat × Nat)) (s : State) : Host.Outcome State Fault Refusal :=
  s.act (Instr.auditReload t flips).wf (fun y => y.onTile t (fun x => x.auditReload flips))

end Sys2Proof.Machine
end

