-- ==== Sys2Proof/Machine/Links.lean ====
section
/-! DEFINITION. The meanings of the commands of tile links, Silua links and lasers, one for each row. -/

namespace Sys2Proof.Machine

/-- Full training of a link (R408–R411). -/
def execLinkTraining (t : Nat) (p : Nat) (here : LaneTest) (there : LaneTest)
    (s : State) : Host.Outcome State Fault Refusal :=
  s.act (Instr.linkTraining t p here there).wf (fun y => y.linkTraining t p here there)

/-- A retrain of a link (R414–R416). -/
def execRetrain (t : Nat) (p : Nat) (s : State) : Host.Outcome State Fault Refusal :=
  s.act (Instr.retrain t p).wf (fun y => y.retrain t p)

/-- Training of `ns` ends (R415). -/
def execLinkUp (t : Nat) (p : Nat) (ns : Nat) (s : State) : Host.Outcome State Fault Refusal :=
  s.act (Instr.linkUp t p ns).wf (fun y => y.linkUp t p ns)

/-- A lane loses lock (R414). -/
def execLaneLockLost (t : Nat) (p : Nat) (s : State) : Host.Outcome State Fault Refusal :=
  s.act (Instr.laneLockLost t p).wf (fun y => y.laneLockLost t p)

/-- A Silua link trains (R424). -/
def execSiluaTraining (e : Nat) (p : Nat) (lanes : Nat) (partner : Nat) (version : Nat)
    (s : State) : Host.Outcome State Fault Refusal :=
  s.act (Instr.siluaTraining e p lanes partner version).wf (fun y => y.siluaTraining e p lanes partner version)

/-- A Silua cell arrives with `sym` symbol errors (R425). -/
def execCell (e : Nat) (p : Nat) (c : Cell) (sym : Nat) (s : State) : Host.Outcome State Fault Refusal :=
  s.act (Instr.cell e p c sym).wf (fun y => y.cellIn e p c sym)

/-- Return-map entries older than 10 ms (R432). -/
def execReturnMapExpiry (e : Nat) (s : State) : Host.Outcome State Fault Refusal :=
  s.act (Instr.returnMapExpiry e).wf (fun y => y.returnExpiry e)

/-- A laser tap is sampled (R422). -/
def execLaserSample (e : Nat) (las : Nat) (power : Nat) (ok : Bool) (s : State) : Host.Outcome State Fault Refusal :=
  s.act (Instr.laserSample e las power ok).wf (fun y => y.laserSample e las power ok)

end Sys2Proof.Machine
end

