-- ==== Sys2Proof/Machine/Matrix.lean ====
section
/-! DEFINITION. The meanings of the commands of the matrix engine, one for each row. -/

namespace Sys2Proof.Machine

/-- The matrix engine starts an MM, or goes on with one as its stream allows; `starved` is the cc waited (R102–R118). -/
def execMm (t : Nat) (k : Nat) (starved : Nat) (s : State) : Host.Outcome State Fault Refusal :=
  s.act (Instr.mm t k starved).wf (fun y => y.onTile t (fun x => x.mm k starved))

/-- ACC_CLEAR (R112). -/
def execAccClear (t : Nat) (k : Nat) (s : State) : Host.Outcome State Fault Refusal :=
  s.act (Instr.accClear t k).wf (fun y => y.onTile t (fun x => x.accClear k))

/-- ACC_OUT (R112). -/
def execAccOut (t : Nat) (k : Nat) (s : State) : Host.Outcome State Fault Refusal :=
  s.act (Instr.accOut t k).wf (fun y => y.onTile t (fun x => x.accOut k))

/-- MACRO_LOAD (R109). -/
def execMacroLoad (t : Nat) (k : Nat) (s : State) : Host.Outcome State Fault Refusal :=
  s.act (Instr.macroLoad t k).wf (fun y => y.onTile t (fun x => x.macroLoad k))

end Sys2Proof.Machine
end

