-- ==== Sys2Proof/Machine/Mesh.lean ====
section
/-! DEFINITION. The meanings of the commands of the mesh network and reductions in it, one for each row. -/

namespace Sys2Proof.Machine

/-- A packet reaches a channel of port `p`; `bad` marks a CRC failure (R230–R232). -/
def execRouterReceive (n : Nat) (p : Nat) (bad : Bool) (s : State) : Host.Outcome State Fault Refusal :=
  s.act (Instr.routerReceive n p bad).wf (fun y => y.receiveRow n p bad)

/-- Output `o` grants and sends a head packet (R227, R233–R235, R241). -/
def execRouterForward (n : Nat) (o : Nat) (ecc : SlotEcc) (s : State) : Host.Outcome State Fault Refusal :=
  s.act (Instr.routerForward n o ecc).wf (fun y => y.routerForward n o ecc)

/-- A head packet of channel `c` has waited `nc` more cycles (R234). -/
def execEscapeEntry (n : Nat) (p : Nat) (c : Nat) (nc : Nat) (s : State) : Host.Outcome State Fault Refusal :=
  s.act (Instr.escapeEntry n p c nc).wf (fun y => y.escapeEntry n p c nc)

/-- A link control word arrives (R229, R239, R406, R407). -/
def execControlWord (n : Nat) (p : Nat) (good : Bool) (begins : Bool) (s : State) : Host.Outcome State Fault Refusal :=
  s.act (Instr.controlWord n p good begins).wf (fun y => y.controlWord n p good begins)

/-- A link fails or is taken down (R240). -/
def execLinkFail (n : Nat) (p : Nat) (s : State) : Host.Outcome State Fault Refusal :=
  s.act (Instr.linkFail n p).wf (fun y => y.linkFail n p)

/-- No old-epoch packet is left (R242). -/
def execDrainCountZero (n : Nat) (s : State) : Host.Outcome State Fault Refusal :=
  s.act (Instr.drainCountZero n).wf (fun y => y.drainCountZero n)

/-- A contribution is taken and combined (R275). -/
def execReducePacket (n : Nat) (p : SlotRead) (s : State) : Host.Outcome State Fault Refusal :=
  s.act (Instr.reducePacket n p).wf (fun y => y.reducePacket n p.port p.ecc)

/-- A VC3 head has waited `nc` more cycles (R276). -/
def execReduceStall (n : Nat) (p : Nat) (nc : Nat) (s : State) : Host.Outcome State Fault Refusal :=
  s.act (Instr.reduceStall n p nc).wf (fun y => y.reduceStall n p nc)

/-- GROUP_PURGE at a router (R277). -/
def execGroupPurge (n : Nat) (s : State) : Host.Outcome State Fault Refusal :=
  s.act (Instr.groupPurge n).wf (fun y => y.groupPurge n)

end Sys2Proof.Machine
end

