-- ==== Sys2Proof/Machine/Pldm.lean ====
section
/-! DEFINITION. The meanings of the commands of the rack budget manager, one for each row. -/

namespace Sys2Proof.Machine

/-- SetPowerCap (R454). -/
def execSetPowerCap (cap : Nat) (hb : Nat) (s : State) : Host.Outcome State Fault Refusal :=
  s.act (Instr.setPowerCap cap hb).wf (fun y => y.setPowerCap cap hb)

/-- GetPowerReading (R454). -/
def execGetPowerReading (s : State) : Host.Outcome State Fault Refusal :=
  s.act Instr.getPowerReading.wf (fun y => y.getPowerReading)

/-- Heartbeat (R454). -/
def execHeartbeat (s : State) : Host.Outcome State Fault Refusal :=
  s.act Instr.heartbeat.wf (fun y => y.heartbeat)

/-- GetTID (R454, log entry 16). -/
def execGetTid (s : State) : Host.Outcome State Fault Refusal :=
  s.act Instr.getTid.wf (fun y => y.pldmBase 2)

/-- GetPLDMVersion (R454, log entry 16). -/
def execGetPldmVersion (s : State) : Host.Outcome State Fault Refusal :=
  s.act Instr.getPldmVersion.wf (fun y => y.pldmBase 3)

/-- GetPLDMTypes (R454, log entry 16). -/
def execGetPldmTypes (s : State) : Host.Outcome State Fault Refusal :=
  s.act Instr.getPldmTypes.wf (fun y => y.pldmBase 4)

/-- GetPLDMCommands (R454, log entry 16). -/
def execGetPldmCommands (s : State) : Host.Outcome State Fault Refusal :=
  s.act Instr.getPldmCommands.wf (fun y => y.pldmBase 5)

/-- Any other PLDM command, by type and code (R454). -/
def execUnsupportedPldmCmd (code : Nat) (s : State) : Host.Outcome State Fault Refusal :=
  s.act (Instr.unsupportedPldmCmd code).wf (fun y => y.pldmOther code)

/-- HEARTBEAT_S without a valid command (R455). -/
def execContactLost (s : State) : Host.Outcome State Fault Refusal :=
  s.act Instr.contactLost.wf (fun y => y.contactLost)

/-- 30 s after the loss of contact (R455). -/
def execSafeCapEntry (s : State) : Host.Outcome State Fault Refusal :=
  s.act Instr.safeCapEntry.wf (fun y => y.safeCapEntry)

end Sys2Proof.Machine
end

