-- ==== Sys2Proof/Machine/Power.lean ====
section
/-! DEFINITION. The meanings of the commands of power delivery, caps and operating points, one for each row. -/

namespace Sys2Proof.Machine

/-- A feed has been at `volts` (10 mV) for `ns` (R438). -/
def execFeedQualify (f : Nat) (volts : Nat) (ns : Nat) (s : State) : Host.Outcome State Fault Refusal :=
  s.act (Instr.feedQualify f volts ns).wf (fun y => y.feedQualify f volts ns)

/-- A feed has been at `volts` (10 mV) for `ns` (R438–R440). -/
def execFeedDrop (f : Nat) (volts : Nat) (ns : Nat) (s : State) : Host.Outcome State Fault Refusal :=
  s.act (Instr.feedDrop f volts ns).wf (fun y => y.feedDrop f volts ns)

/-- An IBC latches off (R442). -/
def execIbcFault (n : Nat) (s : State) : Host.Outcome State Fault Refusal :=
  s.act (Instr.ibcFault n).wf (fun y => y.ibcFault n)

/-- A short latches a domain off (R451). -/
def execDomainShort (d : Nat) (s : State) : Host.Outcome State Fault Refusal :=
  s.act (Instr.domainShort d).wf (fun y => y.domainShort d)

/-- The PMC divides power, from what it reads (R457). -/
def execPmcAllocate (r : PmcReading) (s : State) : Host.Outcome State Fault Refusal :=
  s.act (Instr.pmcAllocate r).wf (fun y => y.pmcAllocate r)

/-- A rail undervoltage or phase limit (R445). -/
def execTileShort (t : Nat) (s : State) : Host.Outcome State Fault Refusal :=
  s.act (Instr.tileShort t).wf (fun y => y.tileDown t ncTileShort)

/-- A sensor at 115 °C (R470). -/
def execThermalTrip (t : Nat) (s : State) : Host.Outcome State Fault Refusal :=
  s.act (Instr.thermalTrip t).wf (fun y => y.tileDown t ncThermalTrip)

/-- A sample of droop monitor `m` (R447). -/
def execDroopAlarm (t : Nat) (m : Nat) (sample : Nat) (s : State) : Host.Outcome State Fault Refusal :=
  s.act (Instr.droopAlarm t m sample).wf (fun y => y.onPowered t (fun x => x.droopSample m sample))

/-- REARM of droop monitor `m`, with the sample of the same cycle (R447). -/
def execTileDroopRearm (t : Nat) (m : Nat) (sample : Nat) (s : State) : Host.Outcome State Fault Refusal :=
  s.act (Instr.tileDroopRearm t m sample).wf (fun y => y.onPowered t (fun x => x.droopRearm m sample))

/-- A current step of a quadrant is judged (R448). -/
def execCrackStepJudge (t : Nat) (qd : Nat) (di : Nat) (dv : Nat) (s : State) : Host.Outcome State Fault Refusal :=
  s.act (Instr.crackStepJudge t qd di dv).wf (fun y => y.crackStepJudge t qd di dv)

/-- Phase currents are checked (R448). -/
def execCrackPhaseCheck (t : Nat) (phases : List Nat) (s : State) : Host.Outcome State Fault Refusal :=
  s.act (Instr.crackPhaseCheck t phases).wf (fun y => y.onPowered t (fun x => x.crackPhases phases))

/-- A region begins to power up (R450). -/
def execRegionPowerUp (d : Nat) (s : State) : Host.Outcome State Fault Refusal :=
  s.act (Instr.regionPowerUp d).wf (fun y => y.regionPowerUp d)

/-- A paused power-up goes on (R450). -/
def execPowerupResume (s : State) : Host.Outcome State Fault Refusal :=
  s.act Instr.powerupResume.wf (fun y => y.powerupResume)

/-- The reservation is released at 20 ms (R450). -/
def execPowerupRelease (s : State) : Host.Outcome State Fault Refusal :=
  s.act Instr.powerupRelease.wf (fun y => y.powerupRelease)

/-- Core-rail current, 10 mA per code (R460). -/
def execCurrentTrip (t : Nat) (amps : Nat) (s : State) : Host.Outcome State Fault Refusal :=
  s.act (Instr.currentTrip t amps).wf (fun y => y.onPowered t (fun x => x.currentTrip amps))

/-- The current has been at or below ALLOC for `ns` (R460). -/
def execTripClear (t : Nat) (ns : Nat) (s : State) : Host.Outcome State Fault Refusal :=
  s.act (Instr.tripClear t ns).wf (fun y => y.onPowered t (fun x => x.tripClear ns))

/-- A 64-cc issue window begins; `wants` by slot (R458). -/
def execIssueWindow (t : Nat) (wants : List Nat) (s : State) : Host.Outcome State Fault Refusal :=
  s.act (Instr.issueWindow t wants).wf (fun y => y.onPowered t (fun x => x.issueWindow wants))

/-- Operating points are regranted (R464). -/
def execOppGrant (s : State) : Host.Outcome State Fault Refusal :=
  s.act Instr.oppGrant.wf (fun y => y.oppGrant)

/-- A frozen group changes its operating point (R465). -/
def execOppChange (j : Nat) (s : State) : Host.Outcome State Fault Refusal :=
  s.act (Instr.oppChange j).wf (fun y => y.oppChange j)

end Sys2Proof.Machine
end

