-- ==== Sys2Proof/Machine/Protection.lean ====
section
/-! DEFINITION. The meanings of the commands of store protection, fills, scrubbing and remapping, one for each row. -/

namespace Sys2Proof.Machine

/-- The oldest write-back of a bank (R175). -/
def execCorrectionWriteBack (t : Nat) (bank : Nat) (s : State) : Host.Outcome State Fault Refusal :=
  s.act (Instr.correctionWriteBack t bank).wf (fun y => y.onTile t (fun x => x.correctionWriteBack bank))

/-- A parity group's eight reads have returned (R185). -/
def execReconstruction (t : Nat) (s : State) : Host.Outcome State Fault Refusal :=
  s.act (Instr.reconstruction t).wf (fun y => y.onTile t (fun x => x.reconstruction))

/-- A bank's parity latch is committed (R183). -/
def execParityLatchCommit (t : Nat) (bank : Nat) (s : State) : Host.Outcome State Fault Refusal :=
  s.act (Instr.parityLatchCommit t bank).wf (fun y => y.onTile t (fun x => x.commitLatch bank))

/-- A store fill ends (R160, R161). -/
def execStoreFillDone (t : Nat) (s : State) : Host.Outcome State Fault Refusal :=
  s.act (Instr.storeFillDone t).wf (fun y => y.storeFillDone t)

/-- A region's release ends (R157). -/
def execRegionReleaseDone (t : Nat) (n : Nat) (s : State) : Host.Outcome State Fault Refusal :=
  s.act (Instr.regionReleaseDone t n).wf (fun y => y.regionReleaseDone t n)

/-- The patrol scrubber begins a pass (R187). -/
def execScrubPassStart (t : Nat) (s : State) : Host.Outcome State Fault Refusal :=
  s.act (Instr.scrubPassStart t).wf (fun y => y.onTile t (fun x => x.scrubPassStart))

/-- The scrubber reads on; `ups` are upset bits: row, word, bit (R188). -/
def execScrubRead (t : Nat) (ups : List (Nat × Nat × Nat)) (s : State) : Host.Outcome State Fault Refusal :=
  s.act (Instr.scrubRead t ups).wf (fun y => y.onTile t (fun x => x.scrubRead ups))

/-- A row moves to a spare row or becomes a hole (R191). -/
def execLiveRemap (t : Nat) (s : State) : Host.Outcome State Fault Refusal :=
  s.act (Instr.liveRemap t).wf (fun y => y.onTile t (fun x => x.liveRemap))

/-- A remap or hole enters the field row map (R191). -/
def execFieldRowMapUpdate (t : Nat) (s : State) : Host.Outcome State Fault Refusal :=
  s.act (Instr.fieldRowMapUpdate t).wf (fun y => y.fieldRowMapUpdate t)

/-- Watch entries 24 h old expire (R190). -/
def execWatchEntryExpiry (t : Nat) (bank : Nat) (s : State) : Host.Outcome State Fault Refusal :=
  s.act (Instr.watchEntryExpiry t bank).wf (fun y => y.onTile t (fun x => x.watchExpiry bank))

/-- TILE_PROT_INJECT written with ARM (R194). -/
def execTileProtInjectArm (t : Nat) (v : Nat) (s : State) : Host.Outcome State Fault Refusal :=
  s.act (Instr.tileProtInjectArm t v).wf (fun y => y.onTile t (fun x => (x.writeReg 0x260 (v ||| 2 ^ 16) false).2))

end Sys2Proof.Machine
end

