-- ==== Sys2Proof/Machine/Queues.lean ====
section
/-! DEFINITION. The meanings of the commands of the host interface: PCIe, queue pairs, interrupts, one for each row. -/

namespace Sys2Proof.Machine

/-- The host writes `mem`, then the submission doorbell; reads of the ranges `bad` fail from then on (R353, log entry
3). -/
def execHubSqTail (h : Nat) (q : Nat) (tail : Nat) (mem : List (Nat × Nat × Nat)) (bad : List (Nat × Nat))
    (s : State) : Host.Outcome State Fault Refusal :=
  s.act (Instr.hubSqTail h q tail mem bad).wf (fun y => (y.hostSets mem bad).hostWord h 2 (8 * q) tail)

/-- A completion doorbell (R353). -/
def execHubCqHead (h : Nat) (q : Nat) (head : Nat) (s : State) : Host.Outcome State Fault Refusal :=
  s.act (Instr.hubCqHead h q head).wf (fun y => y.hostWord h 2 (8 * q + 4) head)

/-- ENABLE of a pair (R354). -/
def execHubQpCtrlEnable (h : Nat) (q : Nat) (s : State) : Host.Outcome State Fault Refusal :=
  s.act (Instr.hubQpCtrlEnable h q).wf (fun y => y.hostWord h 0 (0x10000 + 0x40 * q + 0x1C) 1)

/-- DISABLE of a pair (R354). -/
def execHubQpCtrlDisable (h : Nat) (q : Nat) (s : State) : Host.Outcome State Fault Refusal :=
  s.act (Instr.hubQpCtrlDisable h q).wf (fun y => y.hostWord h 0 (0x10000 + 0x40 * q + 0x1C) 2)

/-- A command is fetched (R357). -/
def execCommandFetch (h : Nat) (s : State) : Host.Outcome State Fault Refusal :=
  s.act (Instr.commandFetch h).wf (fun y => y.commandFetch h)

/-- A reply is written (R367). -/
def execReplyWrite (h : Nat) (q : Nat) (s : State) : Host.Outcome State Fault Refusal :=
  s.act (Instr.replyWrite h q).wf (fun y => y.replyRow h q)

/-- TIME_US since the first unsignalled reply (R360). -/
def execCoalesceTimeout (h : Nat) (q : Nat) (s : State) : Host.Outcome State Fault Refusal :=
  s.act (Instr.coalesceTimeout h q).wf (fun y => y.coalesceTimeout h q)

/-- FLR or hot reset, or the link goes down (R365). -/
def execHubLinkReset (h : Nat) (down : Bool) (s : State) : Host.Outcome State Fault Refusal :=
  s.act (Instr.hubLinkReset h down).wf (fun y => y.hubLinkReset h down)

/-- Bus Master Enable cleared (R356). -/
def execBusMasterClear (h : Nat) (s : State) : Host.Outcome State Fault Refusal :=
  s.act (Instr.busMasterClear h).wf (fun y => y.busMasterClear h)

/-- The high binding word (R347, R348). -/
def execHubHostBindHi (h : Nat) (v : Nat) (s : State) : Host.Outcome State Fault Refusal :=
  s.act (Instr.hubHostBindHi h v).wf (fun y => y.hostWord h 0 0x4C v)

/-- Egress ring slots freed by the host (R361). -/
def execHubStreamFreed (h : Nat) (n : Nat) (v : Nat) (s : State) : Host.Outcome State Fault Refusal :=
  s.act (Instr.hubStreamFreed h n v).wf (fun y => y.hostWord h 2 (0x100000 + 8 * n + 4) v)

/-- The PCIe link trains; rate 0 for none (R344). -/
def execPcieLinkTraining (h : Nat) (rate : Nat) (width : Nat) (s : State) : Host.Outcome State Fault Refusal :=
  s.act (Instr.pcieLinkTraining h rate width).wf (fun y => y.pcieTraining h rate width)

/-- A vector is unmasked (R360). -/
def execMsixVectorUnmask (h : Nat) (v : Nat) (s : State) : Host.Outcome State Fault Refusal :=
  s.act (Instr.msixVectorUnmask h v).wf (fun y => y.msixUnmask h v)

/-- A host access of `n` bytes to a BAR (R346). -/
def execBarAccess (h : Nat) (bar : Nat) (off : Nat) (n : Nat) (wr : Bool) (v : Nat)
    (s : State) : Host.Outcome State Fault Refusal :=
  s.act (Instr.barAccess h bar off n wr v).wf (fun y => y.barAccess h bar off n wr v)

/-- HUB_EVENT_STATUS written (R546). -/
def execHubEventStatus (h : Nat) (v : Nat) (s : State) : Host.Outcome State Fault Refusal :=
  s.act (Instr.hubEventStatus h v).wf (fun y => y.hostWord h 0 0x104 v)

/-- HUB_EVENT_MASK written (R546). -/
def execHubEventMask (h : Nat) (v : Nat) (s : State) : Host.Outcome State Fault Refusal :=
  s.act (Instr.hubEventMask h v).wf (fun y => y.hostWord h 0 0x108 v)

/-- HUB_EVENT_CFG written (R546). -/
def execHubEventCfg (h : Nat) (v : Nat) (s : State) : Host.Outcome State Fault Refusal :=
  s.act (Instr.hubEventCfg h v).wf (fun y => y.hostWord h 0 0x100 v)

/-- An event bit rises (R545, R546). -/
def execHubEvent (h : Nat) (bit : Nat) (s : State) : Host.Outcome State Fault Refusal :=
  s.act (Instr.hubEvent h bit).wf (fun y => y.event h bit)

/-- A read of the low panel-time word (R534). -/
def execPanelTimeLo (h : Nat) (s : State) : Host.Outcome State Fault Refusal :=
  s.act (Instr.panelTimeLo h).wf (fun y => y.readClear 1 h 0x18)

end Sys2Proof.Machine
end

