-- ==== Sys2Proof/Machine/Recovery.lean ====
section
/-! DEFINITION. The meanings of the commands of steps, replay, recovery and health, one for each row. -/

namespace Sys2Proof.Machine

/-- A step-end notice at the lead hub (R398). -/
def execStepEnd (s : State) : Host.Outcome State Fault Refusal :=
  s.act Instr.stepEnd.wf (fun y => y.stepEnd)

/-- A frame notice at the lead hub (R219). -/
def execFrame (s : State) : Host.Outcome State Fault Refusal :=
  s.act Instr.frame.wf (fun y => y.frame)

/-- A frame is overdue (R219). -/
def execFrameOverdue (j : Nat) (s : State) : Host.Outcome State Fault Refusal :=
  s.act (Instr.frameOverdue j).wf (fun y => y.frameOverdue j)

/-- The commit sweep of a step ends (R398). -/
def execCommitSweepDone (j : Nat) (s : State) : Host.Outcome State Fault Refusal :=
  s.act (Instr.commitSweepDone j).wf (fun y => y.commitSweepDone j)

/-- A replaying job is rewound and started again (R401). -/
def execReplayRewind (j : Nat) (s : State) : Host.Outcome State Fault Refusal :=
  s.act (Instr.replayRewind j).wf (fun y => y.replayRewind j)

/-- A slot not frozen in time is cut (R565). -/
def execFreezeTimeout (t : Nat) (k : Nat) (s : State) : Host.Outcome State Fault Refusal :=
  s.act (Instr.freezeTimeout t k).wf (fun y => y.freezeTimeout t k)

/-- A regrown tile is rebuilt (R487). -/
def execTileRebuild (t : Nat) (s : State) : Host.Outcome State Fault Refusal :=
  s.act (Instr.tileRebuild t).wf (fun y => y.tileRebuild t)

/-- A restarted slot not ready within 1 ms (R488). -/
def execSlotReadyTimeout (t : Nat) (k : Nat) (s : State) : Host.Outcome State Fault Refusal :=
  s.act (Instr.slotReadyTimeout t k).wf (fun y => y.slotReadyTimeout t k)

/-- A unit is drained (R498). -/
def execDrain (kind : Nat) (wher : Nat) (sub : Nat) (s : State) : Host.Outcome State Fault Refusal :=
  s.act (Instr.drain kind wher sub).wf (fun y => y.drain kind wher sub)

/-- A drain unfinished after 60 s (R498). -/
def execDrainLimit (kind : Nat) (wher : Nat) (sub : Nat) (s : State) : Host.Outcome State Fault Refusal :=
  s.act (Instr.drainLimit kind wher sub).wf (fun y => y.drainLimit kind wher sub)

/-- Scores are sampled and judged (R495–R501). -/
def execHealthSample (s : State) : Host.Outcome State Fault Refusal :=
  s.act Instr.healthSample.wf (fun y => y.healthSample)

/-- Scores go to the health-history ring (R495). -/
def execHealthRingWrite (s : State) : Host.Outcome State Fault Refusal :=
  s.act Instr.healthRingWrite.wf (fun y => y.healthRing)

/-- The score freeze ends (R500). -/
def execScoreFreezeEnd (s : State) : Host.Outcome State Fault Refusal :=
  s.act Instr.scoreFreezeEnd.wf (fun y => y.scoreFreezeEnd)

/-- A heartbeat reaches hub `h` (R494). -/
def execHubHeartbeat (h : Nat) (s : State) : Host.Outcome State Fault Refusal :=
  s.act (Instr.hubHeartbeat h).wf (fun y => y.hubHeartbeat h)

/-- Three heartbeats of hub `h` are missed (R494). -/
def execHubLost (h : Nat) (s : State) : Host.Outcome State Fault Refusal :=
  s.act (Instr.hubLost h).wf (fun y => y.hubLost h)

end Sys2Proof.Machine
end

