-- ==== Sys2Proof/Machine/Scalar.lean ====
section
/-! DEFINITION. The meanings of the commands of the scalar control core, one for each row. -/

namespace Sys2Proof.Machine

/-- One instruction at the pc of slot `k`, `cc` core cycles after the last; `ram` is what its RAM check words found
(R43–R47, R58). -/
def execScalarInstruction (t : Nat) (k : Nat) (cc : Nat) (ram : RamCheck) (s : State) : Host.Outcome State Fault Refusal :=
  s.act (Instr.scalarInstruction t k cc ram).wf (fun y => y.onTile t (fun x => x.scalarInstruction k cc ram))

/-- A scalar load from the narrow view (R163). -/
def execNarrowLoad (t : Nat) (k : Nat) (cc : Nat) (f3 : Nat) (rd : Nat) (rs1 : Nat) (imm : Nat)
    (s : State) : Host.Outcome State Fault Refusal :=
  s.act (Instr.narrowLoad t k cc f3 rd rs1 imm).wf (fun y => y.narrowRowAt t k cc rs1 imm (encI imm rs1 f3 rd 0x03))

/-- A scalar store to the narrow view (R164). -/
def execNarrowStore (t : Nat) (k : Nat) (cc : Nat) (f3 : Nat) (rs2 : Nat) (rs1 : Nat) (imm : Nat)
    (s : State) : Host.Outcome State Fault Refusal :=
  s.act (Instr.narrowStore t k cc f3 rs2 rs1 imm).wf (fun y => y.narrowRowAt t k cc rs1 imm (encS imm rs2 rs1 f3 0x23))

/-- The oldest entry of the narrow store queue goes to its bank (R164). -/
def execNarrowStoreSend (t : Nat) (k : Nat) (s : State) : Host.Outcome State Fault Refusal :=
  s.act (Instr.narrowStoreSend t k).wf (fun y => y.onTile t (fun x => x.narrowSend k))

/-- The highest enabled pending interrupt is taken (R58). -/
def execInterruptTaken (t : Nat) (k : Nat) (s : State) : Host.Outcome State Fault Refusal :=
  s.act (Instr.interruptTaken t k).wf (fun y => y.onTile t (fun x => x.interruptTaken k))

/-- Panel time has reached TILE_CORE_TIMECMP (R58). -/
def execMachineTimer (t : Nat) (k : Nat) (s : State) : Host.Outcome State Fault Refusal :=
  s.act (Instr.machineTimer t k).wf (fun y => y.onTile t (fun x => x.machineTimer k))

/-- ENQ: a descriptor queued with the current lap index (R147, R50, R51). -/
def execEnq (t : Nat) (k : Nat) (cc : Nat) (rd : Nat) (rs1 : Nat) (eq : Nat)
    (s : State) : Host.Outcome State Fault Refusal :=
  s.act (Instr.enq t k cc rd rs1 eq).wf (fun y => y.scalarRow t k cc (encR eq 0 rs1 0 rd 0x0B))

/-- ENQL: a descriptor queued with the lap index of rs2 (R147). -/
def execEnql (t : Nat) (k : Nat) (cc : Nat) (rd : Nat) (rs1 : Nat) (rs2 : Nat) (eq : Nat)
    (s : State) : Host.Outcome State Fault Refusal :=
  s.act (Instr.enql t k cc rd rs1 rs2 eq).wf (fun y => y.scalarRow t k cc (encR eq rs2 rs1 1 rd 0x0B))

/-- QFREE: the free entries of an engine queue (R147). -/
def execQfree (t : Nat) (k : Nat) (cc : Nat) (rd : Nat) (eq : Nat) (s : State) : Host.Outcome State Fault Refusal :=
  s.act (Instr.qfree t k cc rd eq).wf (fun y => y.scalarRow t k cc (encR eq 0 0 2 rd 0x0B))

/-- TOKRD: a token counter (R147). -/
def execTokrd (t : Nat) (k : Nat) (cc : Nat) (rd : Nat) (rs1 : Nat) (s : State) : Host.Outcome State Fault Refusal :=
  s.act (Instr.tokrd t k cc rd rs1).wf (fun y => y.scalarRow t k cc (encR 0 0 rs1 0 rd 0x2B))

/-- TOKINC: a token counter raised (R147, R49). -/
def execTokinc (t : Nat) (k : Nat) (cc : Nat) (rs1 : Nat) (rs2 : Nat) (s : State) : Host.Outcome State Fault Refusal :=
  s.act (Instr.tokinc t k cc rs1 rs2).wf (fun y => y.scalarRow t k cc (encR 0 rs2 rs1 1 0 0x2B))

/-- TOKTRY: a token taken where it is large enough (R147). -/
def execToktry (t : Nat) (k : Nat) (cc : Nat) (rd : Nat) (rs1 : Nat) (rs2 : Nat)
    (s : State) : Host.Outcome State Fault Refusal :=
  s.act (Instr.toktry t k cc rd rs1 rs2).wf (fun y => y.scalarRow t k cc (encR 0 rs2 rs1 2 rd 0x2B))

/-- LAPIDX: TILE_LAP_INDEX (R147). -/
def execLapidx (t : Nat) (k : Nat) (cc : Nat) (rd : Nat) (s : State) : Host.Outcome State Fault Refusal :=
  s.act (Instr.lapidx t k cc rd).wf (fun y => y.scalarRow t k cc (encR 0 0 0 3 rd 0x2B))

/-- TILE_CORE_CTRL.RUN (R60). -/
def execRun (t : Nat) (k : Nat) (s : State) : Host.Outcome State Fault Refusal :=
  s.act (Instr.run t k).wf (fun y => y.onTile t (fun x => x.runCore k))

/-- TILE_CORE_CTRL.HALT at the next instruction boundary (R60, R62). -/
def execHalt (t : Nat) (k : Nat) (s : State) : Host.Outcome State Fault Refusal :=
  s.act (Instr.halt t k).wf (fun y => y.onTile t (fun x => x.haltCore k))

end Sys2Proof.Machine
end

