-- ==== Sys2Proof/Machine/Startup.lean ====
section
/-! DEFINITION. The meanings of the commands of start-up, flash, clocks and the debug port, one for each row. -/

namespace Sys2Proof.Machine

/-- The standby rail rises (R505). -/
def execColdReset (s : State) : Host.Outcome State Fault Refusal :=
  s.act Instr.coldReset.wf (fun y => y.coldReset)

/-- The standby rail goes down (R443). -/
def execStandbyRailLoss (s : State) : Host.Outcome State Fault Refusal :=
  s.act Instr.standbyRailLoss.wf (fun y => y.standbyLoss)

/-- PANEL_RESET (R505). -/
def execPanelReset (h : Nat) (s : State) : Host.Outcome State Fault Refusal :=
  s.act (Instr.panelReset h).wf (fun y => y.hostWord h 0 0x50808 1)

/-- The next boot step; `res` is what its tests find (R507). -/
def execBootStep (h : Nat) (res : BootRes) (s : State) : Host.Outcome State Fault Refusal :=
  s.act (Instr.bootStep h res).wf (fun y => y.bootStep h res)

/-- A boot step past its maximum time (R508). -/
def execBootStepTimeout (h : Nat) (s : State) : Host.Outcome State Fault Refusal :=
  s.act (Instr.bootStepTimeout h).wf (fun y => y.bootStepTimeout h)

/-- Step 12 not reached in time (R521). -/
def execBootWatchdog (h : Nat) (s : State) : Host.Outcome State Fault Refusal :=
  s.act (Instr.bootWatchdog h).wf (fun y => y.bootWatchdog h)

/-- A LEAD_CLAIM reaches hub `h` (R510). -/
def execLeadClaim (h : Nat) (s : State) : Host.Outcome State Fault Refusal :=
  s.act (Instr.leadClaim h).wf (fun y => y.leadClaim h)

/-- The east hub hears no claim within 1 s (R510). -/
def execLeadClaimTimeout (s : State) : Host.Outcome State Fault Refusal :=
  s.act Instr.leadClaimTimeout.wf (fun y => y.leadClaimTimeout)

/-- A hub joins as non-lead (R513). -/
def execHubJoin (h : Nat) (s : State) : Host.Outcome State Fault Refusal :=
  s.act (Instr.hubJoin h).wf (fun y => y.hubJoin h)

/-- GO in recovery (R522). -/
def execHubBootRecoveryGo (h : Nat) (s : State) : Host.Outcome State Fault Refusal :=
  s.act (Instr.hubBootRecoveryGo h).wf (fun y => y.hostWord h 0 0x5081C 1)

/-- A reference is lost (R528). -/
def execReferenceLoss (n : Nat) (s : State) : Host.Outcome State Fault Refusal :=
  s.act (Instr.referenceLoss n).wf (fun y => y.referenceLoss n)

/-- A challenge is read (R530). -/
def execDebugChallenge (h : Nat) (s : State) : Host.Outcome State Fault Refusal :=
  s.act (Instr.debugChallenge h).wf (fun y => y.debugChallenge h)

/-- A token, as the two halves of its signature (R530, R531). -/
def execDebugToken (h : Nat) (sr : Nat) (st : Nat) (s : State) : Host.Outcome State Fault Refusal :=
  s.act (Instr.debugToken h sr st).wf (fun y => y.debugToken h sr st)

/-- An access through an unlocked debug port (R530). -/
def execDebugAccess (h : Nat) (kind : Nat) (a : Nat) (b : Nat) (v : Nat) (s : State) : Host.Outcome State Fault Refusal :=
  s.act (Instr.debugAccess h kind a b v).wf (fun y => y.debugAccess h kind a b v)

end Sys2Proof.Machine
end

