-- ==== Sys2Proof/Machine/StoreEngine.lean ====
section
/-! DEFINITION. The meanings of the commands of the store engine and the pacer, one for each row. -/

namespace Sys2Proof.Machine

/-- COPY; `k.starved` is the cc waited on a streamed source (R143, R207). -/
def execCopy (t : Nat) (k : StoreTurn) (s : State) : Host.Outcome State Fault Refusal :=
  s.act (Instr.copy t k).wf (fun y => y.onTile t (fun x => x.copy k.core k.starved))

/-- SEND; `k.starved` as in COPY (R143, R311). -/
def execSend (t : Nat) (k : StoreTurn) (s : State) : Host.Outcome State Fault Refusal :=
  s.act (Instr.send t k).wf (fun y => y.onTile t (fun x => x.send k.core k.starved))

/-- MCAST; `k.starved` as in COPY (R143, R262). -/
def execMcast (t : Nat) (k : StoreTurn) (s : State) : Host.Outcome State Fault Refusal :=
  s.act (Instr.mcast t k).wf (fun y => y.onTile t (fun x => x.mcast k.core k.starved))

/-- REDUCE_SEND; `k.starved` as in COPY (R274). -/
def execReduceSend (t : Nat) (k : StoreTurn) (s : State) : Host.Outcome State Fault Refusal :=
  s.act (Instr.reduceSend t k).wf (fun y => y.onTile t (fun x => x.reduceSend k.core k.starved))

/-- STREAM_SET (R145). -/
def execStreamSet (t : Nat) (k : Nat) (s : State) : Host.Outcome State Fault Refusal :=
  s.act (Instr.streamSet t k).wf (fun y => y.onTile t (fun x => x.streamSet k))

/-- STREAM_LOOP (R145). -/
def execStreamLoop (t : Nat) (k : Nat) (s : State) : Host.Outcome State Fault Refusal :=
  s.act (Instr.streamLoop t k).wf (fun y => y.onTile t (fun x => x.streamLoop k))

/-- STREAM_GO (R146). -/
def execStreamGo (t : Nat) (k : Nat) (s : State) : Host.Outcome State Fault Refusal :=
  s.act (Instr.streamGo t k).wf (fun y => y.onTile t (fun x => x.streamGo k))

/-- STREAM_STOP (R146, R200). -/
def execStreamStop (t : Nat) (k : Nat) (s : State) : Host.Outcome State Fault Refusal :=
  s.act (Instr.streamStop t k).wf (fun y => y.onTile t (fun x => x.streamStop k))

/-- Up to `n.rows` more rows of the laps stream `st` may fetch are requested; `n.drops` are the far-cache lines found
uncorrectable (R201–R203, R315). -/
def execStreamFetchLap (t : Nat) (k : Nat) (st : Nat) (n : FetchTurn) (s : State) : Host.Outcome State Fault Refusal :=
  s.act (Instr.streamFetchLap t k st n).wf (fun y => y.onTile t (fun x => x.fetchRows k st n.rows n.drops))

/-- A row lands in a staging slot: the `f`-th local row in flight of stream `st`, or the next row of the row (1) or
column (2) straight (R198, R203, R265). -/
def execPacerRowLand (t : Nat) (k : Nat) (st : Nat) (f : Nat) (src : Nat) (s : State) : Host.Outcome State Fault Refusal :=
  s.act (Instr.pacerRowLand t k st f src).wf (fun y =>
    (if src = 0 then y.onTile t (fun x => x.localLand k st f) else y.streamDeliver t (src - 1)))

end Sys2Proof.Machine
end

