-- ==== Sys2Proof/Machine/Straights.lean ====
section
/-! DEFINITION. The meanings of the commands of the straights, one for each row. -/

namespace Sys2Proof.Machine

/-- Port `k` of straight `n` grants and launches a frame (R255, R256). -/
def execFrameLaunch (n : Nat) (k : Nat) (s : State) : Host.Outcome State Fault Refusal :=
  s.act (Instr.frameLaunch n k).wf (fun y => y.frameLaunch n k)

/-- The next multicast frame of `sender` lands (R250, R258). -/
def execMcastFrame (n : Nat) (k : Nat) (sender : Nat) (bad : Bool) (s : State) : Host.Outcome State Fault Refusal :=
  s.act (Instr.mcastFrame n k sender bad).wf (fun y => y.mcastFrame n k sender bad)

/-- The next carried frame of `sender` lands (R251). -/
def execCarriedFrame (n : Nat) (k : Nat) (sender : Nat) (bad : Bool) (s : State) : Host.Outcome State Fault Refusal :=
  s.act (Instr.carriedFrame n k sender bad).wf (fun y => y.carriedFrame n k sender bad)

/-- A relay forwards a frame onto the other straight (R264). -/
def execRelayForward (n : Nat) (k : Nat) (s : State) : Host.Outcome State Fault Refusal :=
  s.act (Instr.relayForward n k).wf (fun y => y.relayForward n k)

/-- The status slot of port `k` (R253, R254). -/
def execStatusSlot (n : Nat) (k : Nat) (good : Bool) (s : State) : Host.Outcome State Fault Refusal :=
  s.act (Instr.statusSlot n k good).wf (fun y => y.statusSlot n k good)

/-- A requested frame is sent again (R259). -/
def execRetransmission (n : Nat) (k : Nat) (s : State) : Host.Outcome State Fault Refusal :=
  s.act (Instr.retransmission n k).wf (fun y => y.retransmission n k)

/-- A port silent for 8 status cycles (R257). -/
def execPortAbsent (n : Nat) (k : Nat) (s : State) : Host.Outcome State Fault Refusal :=
  s.act (Instr.portAbsent n k).wf (fun y => y.portAbsent n k)

/-- A straight is calibrated anew with live waveguides `wg.live`; `wg.ends` false marks the beginning (R257, R261). -/
def execStraightRecalibration (n : Nat) (wg : Calibration) (s : State) : Host.Outcome State Fault Refusal :=
  s.act (Instr.straightRecalibration n wg).wf (fun y => y.recalibration n wg.live wg.ends)

end Sys2Proof.Machine
end

