-- ==== Sys2Proof/Machine/Tadpole.lean ====
section
/-! DEFINITION. The meanings of the commands of the tadpole network and what it carries, one for each row. -/

namespace Sys2Proof.Machine

/-- Output `o` of a tadpole router grants a message (R287, R292). -/
def execTadpoleForward (n : Nat) (o : Nat) (bad : Bool) (s : State) : Host.Outcome State Fault Refusal :=
  s.act (Instr.tadpoleForward n o bad).wf (fun y => y.tadpoleForward n o bad)

/-- A register read from a hub (R294). -/
def execTadpoleRegRead (n : Nat) (s : State) : Host.Outcome State Fault Refusal :=
  s.act (Instr.tadpoleRegRead n).wf (fun y => y.tadRegRead n)

/-- A register write from a hub (R294). -/
def execTadpoleRegWrite (n : Nat) (s : State) : Host.Outcome State Fault Refusal :=
  s.act (Instr.tadpoleRegWrite n).wf (fun y => y.tadRegWrite n)

/-- A register reply at its hub (R292). -/
def execRegReply (h : Nat) (s : State) : Host.Outcome State Fault Refusal :=
  s.act (Instr.regReply h).wf (fun y => y.regReply h)

/-- 20 µs without a register reply (R292). -/
def execRegReplyTimeout (h : Nat) (s : State) : Host.Outcome State Fault Refusal :=
  s.act (Instr.regReplyTimeout h).wf (fun y => y.regReplyTimeout h)

/-- A CEILING message (R295). -/
def execCeiling (t : Nat) (s : State) : Host.Outcome State Fault Refusal :=
  s.act (Instr.ceiling t).wf (fun y => y.ceilingMsg t)

/-- A fault notice at the lead hub (R481–R484). -/
def execNotice (s : State) : Host.Outcome State Fault Refusal :=
  s.act Instr.notice.wf (fun y => y.notice)

/-- A queued notice is injected (R289). -/
def execNoticeQueueSend (n : Nat) (s : State) : Host.Outcome State Fault Refusal :=
  s.act (Instr.noticeQueueSend n).wf (fun y => y.noticeQueueSend n)

/-- A tadpole neighbour is silent (R292). -/
def execNeighbourSilent (n : Nat) (p : Nat) (s : State) : Host.Outcome State Fault Refusal :=
  s.act (Instr.neighbourSilent n p).wf (fun y => y.neighbourSilent n p)

end Sys2Proof.Machine
end

