-- ==== Sys2Proof/Machine/Time.lean ====
section
/-! DEFINITION. The meanings of the commands of panel time and its mirrors, one for each row. -/

namespace Sys2Proof.Machine

/-- The lead hub broadcasts its panel time (R296). -/
def execSyncBroadcast (s : State) : Host.Outcome State Fault Refusal :=
  s.act Instr.syncBroadcast.wf (fun y => y.syncBroadcast)

/-- SYNC at a router after `res` ns of residence (R296). -/
def execSync (n : Nat) (res : Nat) (s : State) : Host.Outcome State Fault Refusal :=
  s.act (Instr.sync n res).wf (fun y => y.sync n res)

/-- A SYNC is missed (R296). -/
def execSyncMissed (t : Nat) (s : State) : Host.Outcome State Fault Refusal :=
  s.act (Instr.syncMissed t).wf (fun y => y.syncMissed t)

/-- A mirror is slewed for 1 µs (R296). -/
def execMirrorSlew (n : Nat) (s : State) : Host.Outcome State Fault Refusal :=
  s.act (Instr.mirrorSlew n).wf (fun y => y.mirrorSlew n)

/-- A delay request is answered (R296). -/
def execDelayReq (n : Nat) (p : Nat) (s : State) : Host.Outcome State Fault Refusal :=
  s.act (Instr.delayReq n p).wf (fun y => y.delayReq n p)

/-- A delay response arrives; the round trip is measured (R296). -/
def execDelayResp (n : Nat) (p : Nat) (trip : Nat) (s : State) : Host.Outcome State Fault Refusal :=
  s.act (Instr.delayResp n p trip).wf (fun y => y.delayResp n p trip)

end Sys2Proof.Machine
end

