-- ==== Sys2Proof/Machine/Vector.lean ====
section
/-! DEFINITION. The meanings of the commands of the vector unit, one for each row. -/

namespace Sys2Proof.Machine

/-- CONVERT at the head of the vector queue; `starved` is the cc waited on a streamed slot (R131). -/
def execConvert (t : Nat) (k : Nat) (starved : Nat) (s : State) : Host.Outcome State Fault Refusal :=
  s.act (Instr.convert t k starved).wf (fun y => y.onTile t (fun x => x.vector k 1 starved))

/-- BINARY at the head of the vector queue; `starved` is the cc waited on a streamed slot (R132). -/
def execBinary (t : Nat) (k : Nat) (starved : Nat) (s : State) : Host.Outcome State Fault Refusal :=
  s.act (Instr.binary t k starved).wf (fun y => y.onTile t (fun x => x.vector k 2 starved))

/-- UNARY at the head of the vector queue; `starved` is the cc waited on a streamed slot (R132, R138). -/
def execUnary (t : Nat) (k : Nat) (starved : Nat) (s : State) : Host.Outcome State Fault Refusal :=
  s.act (Instr.unary t k starved).wf (fun y => y.onTile t (fun x => x.vector k 3 starved))

/-- REDUCE at the head of the vector queue; `starved` is the cc waited on a streamed slot (R134). -/
def execReduce (t : Nat) (k : Nat) (starved : Nat) (s : State) : Host.Outcome State Fault Refusal :=
  s.act (Instr.reduce t k starved).wf (fun y => y.onTile t (fun x => x.vector k 4 starved))

/-- SOFTMAX_STATS at the head of the vector queue; `starved` is the cc waited on a streamed slot (R136). -/
def execSoftmaxStats (t : Nat) (k : Nat) (starved : Nat) (s : State) : Host.Outcome State Fault Refusal :=
  s.act (Instr.softmaxStats t k starved).wf (fun y => y.onTile t (fun x => x.vector k 5 starved))

/-- SOFTMAX_APPLY at the head of the vector queue; `starved` is the cc waited on a streamed slot (R136). -/
def execSoftmaxApply (t : Nat) (k : Nat) (starved : Nat) (s : State) : Host.Outcome State Fault Refusal :=
  s.act (Instr.softmaxApply t k starved).wf (fun y => y.onTile t (fun x => x.vector k 6 starved))

/-- NORM_STATS at the head of the vector queue; `starved` is the cc waited on a streamed slot (R136). -/
def execNormStats (t : Nat) (k : Nat) (starved : Nat) (s : State) : Host.Outcome State Fault Refusal :=
  s.act (Instr.normStats t k starved).wf (fun y => y.onTile t (fun x => x.vector k 7 starved))

/-- NORM_APPLY at the head of the vector queue; `starved` is the cc waited on a streamed slot (R136). -/
def execNormApply (t : Nat) (k : Nat) (starved : Nat) (s : State) : Host.Outcome State Fault Refusal :=
  s.act (Instr.normApply t k starved).wf (fun y => y.onTile t (fun x => x.vector k 8 starved))

/-- POOL at the head of the vector queue; `starved` is the cc waited on a streamed slot (R139). -/
def execPool (t : Nat) (k : Nat) (starved : Nat) (s : State) : Host.Outcome State Fault Refusal :=
  s.act (Instr.pool t k starved).wf (fun y => y.onTile t (fun x => x.vector k 9 starved))

/-- TRANSPOSE at the head of the vector queue; `starved` is the cc waited on a streamed slot (R140). -/
def execTranspose (t : Nat) (k : Nat) (starved : Nat) (s : State) : Host.Outcome State Fault Refusal :=
  s.act (Instr.transpose t k starved).wf (fun y => y.onTile t (fun x => x.vector k 10 starved))

/-- GATHER at the head of the vector queue; `starved` is the cc waited on a streamed slot (R141). -/
def execGather (t : Nat) (k : Nat) (starved : Nat) (s : State) : Host.Outcome State Fault Refusal :=
  s.act (Instr.gather t k starved).wf (fun y => y.onTile t (fun x => x.vector k 11 starved))

/-- SCATTER at the head of the vector queue; `starved` is the cc waited on a streamed slot (R141, R142). -/
def execScatter (t : Nat) (k : Nat) (starved : Nat) (s : State) : Host.Outcome State Fault Refusal :=
  s.act (Instr.scatter t k starved).wf (fun y => y.onTile t (fun x => x.vector k 12 starved))

end Sys2Proof.Machine
end

