-- ==== Sys2Proof/Machine/Windows.lean ====
section
/-! DEFINITION. The meanings of the commands of windows, transfers and the far cache, one for each row. -/

namespace Sys2Proof.Machine

/-- A long WRITE from the mesh, or a multicast row from the row (1) or column (2) straight, at an endpoint (R303). -/
def execWrite (n : Nat) (src : Nat) (s : State) : Host.Outcome State Fault Refusal :=
  s.act (Instr.write n src).wf (fun y => y.writeRow n src)

/-- A short WRITE at an endpoint (R224). -/
def execShortWrite (n : Nat) (s : State) : Host.Outcome State Fault Refusal :=
  s.act (Instr.shortWrite n).wf (fun y => y.shortWriteRow n)

/-- A READ_REQ at an endpoint (R304). -/
def execReadReq (n : Nat) (s : State) : Host.Outcome State Fault Refusal :=
  s.act (Instr.readReq n).wf (fun y => y.readReqRow n)

/-- A READ_RESP at an endpoint (R225). -/
def execReadResp (n : Nat) (s : State) : Host.Outcome State Fault Refusal :=
  s.act (Instr.readResp n).wf (fun y => y.readRespRow n)

/-- A control write at a tile control block (R306). -/
def execControlWrite (n : Nat) (s : State) : Host.Outcome State Fault Refusal :=
  s.act (Instr.controlWrite n).wf (fun y => y.controlWriteRow n)

/-- An ACK at its sender (R311). -/
def execAck (n : Nat) (s : State) : Host.Outcome State Fault Refusal :=
  s.act (Instr.ack n).wf (fun y => y.ackRow n)

/-- A NACK at its sender (R311). -/
def execNack (n : Nat) (s : State) : Host.Outcome State Fault Refusal :=
  s.act (Instr.nack n).wf (fun y => y.nackRow n)

/-- INVALIDATE at a tile (R317). -/
def execInvalidate (t : Nat) (s : State) : Host.Outcome State Fault Refusal :=
  s.act (Instr.invalidate t).wf (fun y => y.invalidateMsg t)

/-- A far-cache sweep ends (R317). -/
def execInvalidateSweepDone (t : Nat) (s : State) : Host.Outcome State Fault Refusal :=
  s.act (Instr.invalidateSweepDone t).wf (fun y => y.invalidateSweepDone t)

/-- INVALIDATE_ACK at the lead hub (R317). -/
def execInvalidateAck (s : State) : Host.Outcome State Fault Refusal :=
  s.act Instr.invalidateAck.wf (fun y => y.invalidateAck)

/-- A tile silent for 50 µs after INVALIDATE (R317). -/
def execInvalidateTimeout (t : Nat) (s : State) : Host.Outcome State Fault Refusal :=
  s.act (Instr.invalidateTimeout t).wf (fun y => y.invalidateTimeout t)

/-- Tracker entries older than ACK_US (R312). -/
def execSendTrackerTimeout (t : Nat) (k : Nat) (s : State) : Host.Outcome State Fault Refusal :=
  s.act (Instr.sendTrackerTimeout t k).wf (fun y => y.onTile t (fun x => x.trackerTimeout k))

/-- A control-write record past its timeout (R306). -/
def execControlWriteTimeout (t : Nat) (s : State) : Host.Outcome State Fault Refusal :=
  s.act (Instr.controlWriteTimeout t).wf (fun y => y.onTile t (fun x => x.controlTimeout))

/-- A purge of a partition's transfers (R318). -/
def execTileXferPurge (t : Nat) (part : Nat) (s : State) : Host.Outcome State Fault Refusal :=
  s.act (Instr.tileXferPurge t part).wf (fun y => y.onTile t (fun x => x.purge part))

end Sys2Proof.Machine
end

