-- ==== Sys2Proof/Machine/Dispatch.lean ====
section
/-! DEFINITION. Which meaning each command has. -/

namespace Sys2Proof.Machine

/-- A command's effect on everything but the queue of commands. -/
def exec (i : Instr) (s : State) : Host.Outcome State Fault Refusal :=
  match i with
  | .scalarInstruction t k cc ram => Sys2Proof.Machine.execScalarInstruction t k cc ram s
  | .narrowLoad t k cc f3 rd rs1 imm => Sys2Proof.Machine.execNarrowLoad t k cc f3 rd rs1 imm s
  | .narrowStore t k cc f3 rs2 rs1 imm => Sys2Proof.Machine.execNarrowStore t k cc f3 rs2 rs1 imm s
  | .narrowStoreSend t k => Sys2Proof.Machine.execNarrowStoreSend t k s
  | .interruptTaken t k => Sys2Proof.Machine.execInterruptTaken t k s
  | .machineTimer t k => Sys2Proof.Machine.execMachineTimer t k s
  | .enq t k cc rd rs1 eq => Sys2Proof.Machine.execEnq t k cc rd rs1 eq s
  | .enql t k cc rd rs1 rs2 eq => Sys2Proof.Machine.execEnql t k cc rd rs1 rs2 eq s
  | .qfree t k cc rd eq => Sys2Proof.Machine.execQfree t k cc rd eq s
  | .tokrd t k cc rd rs1 => Sys2Proof.Machine.execTokrd t k cc rd rs1 s
  | .tokinc t k cc rs1 rs2 => Sys2Proof.Machine.execTokinc t k cc rs1 rs2 s
  | .toktry t k cc rd rs1 rs2 => Sys2Proof.Machine.execToktry t k cc rd rs1 rs2 s
  | .lapidx t k cc rd => Sys2Proof.Machine.execLapidx t k cc rd s
  | .sequencerIssue t k => Sys2Proof.Machine.execSequencerIssue t k s
  | .run t k => Sys2Proof.Machine.execRun t k s
  | .halt t k => Sys2Proof.Machine.execHalt t k s
  | .lapStart t k msg => Sys2Proof.Machine.execLapStart t k msg s
  | .lapStop t k msg => Sys2Proof.Machine.execLapStop t k msg s
  | .freeze t k msg => Sys2Proof.Machine.execFreeze t k msg s
  | .thaw t k msg => Sys2Proof.Machine.execThaw t k msg s
  | .lapZeroBegin t k => Sys2Proof.Machine.execLapZeroBegin t k s
  | .lapBoundary t k timing => Sys2Proof.Machine.execLapBoundary t k timing s
  | .doorbellHi t k => Sys2Proof.Machine.execDoorbellHi t k s
  | .readClear space unit off => Sys2Proof.Machine.execReadClear space unit off s
  | .registerWrite space unit off v => Sys2Proof.Machine.execRegisterWrite space unit off v s
  | .tokenDeadlock t k => Sys2Proof.Machine.execTokenDeadlock t k s
  | .mm t k starved => Sys2Proof.Machine.execMm t k starved s
  | .accClear t k => Sys2Proof.Machine.execAccClear t k s
  | .accOut t k => Sys2Proof.Machine.execAccOut t k s
  | .macroLoad t k => Sys2Proof.Machine.execMacroLoad t k s
  | .convert t k starved => Sys2Proof.Machine.execConvert t k starved s
  | .binary t k starved => Sys2Proof.Machine.execBinary t k starved s
  | .unary t k starved => Sys2Proof.Machine.execUnary t k starved s
  | .reduce t k starved => Sys2Proof.Machine.execReduce t k starved s
  | .softmaxStats t k starved => Sys2Proof.Machine.execSoftmaxStats t k starved s
  | .softmaxApply t k starved => Sys2Proof.Machine.execSoftmaxApply t k starved s
  | .normStats t k starved => Sys2Proof.Machine.execNormStats t k starved s
  | .normApply t k starved => Sys2Proof.Machine.execNormApply t k starved s
  | .pool t k starved => Sys2Proof.Machine.execPool t k starved s
  | .transpose t k starved => Sys2Proof.Machine.execTranspose t k starved s
  | .gather t k starved => Sys2Proof.Machine.execGather t k starved s
  | .scatter t k starved => Sys2Proof.Machine.execScatter t k starved s
  | .copy t k => Sys2Proof.Machine.execCopy t k s
  | .send t k => Sys2Proof.Machine.execSend t k s
  | .mcast t k => Sys2Proof.Machine.execMcast t k s
  | .reduceSend t k => Sys2Proof.Machine.execReduceSend t k s
  | .streamSet t k => Sys2Proof.Machine.execStreamSet t k s
  | .streamLoop t k => Sys2Proof.Machine.execStreamLoop t k s
  | .streamGo t k => Sys2Proof.Machine.execStreamGo t k s
  | .streamStop t k => Sys2Proof.Machine.execStreamStop t k s
  | .descriptorCompletion t k which => Sys2Proof.Machine.execDescriptorCompletion t k which s
  | .streamFetchLap t k st n => Sys2Proof.Machine.execStreamFetchLap t k st n s
  | .pacerRowLand t k st f src => Sys2Proof.Machine.execPacerRowLand t k st f src s
  | .leapfrogPeriod t est => Sys2Proof.Machine.execLeapfrogPeriod t est s
  | .preloadComplete t flips => Sys2Proof.Machine.execPreloadComplete t flips s
  | .leapfrogAbandon t => Sys2Proof.Machine.execLeapfrogAbandon t s
  | .coreUnitFault t c cause => Sys2Proof.Machine.execCoreUnitFault t c cause s
  | .takeoverReady t flips => Sys2Proof.Machine.execTakeoverReady t flips s
  | .auditSweep t => Sys2Proof.Machine.execAuditSweep t s
  | .macroAudit t flips => Sys2Proof.Machine.execMacroAudit t flips s
  | .auditReload t flips => Sys2Proof.Machine.execAuditReload t flips s
  | .correctionWriteBack t bank => Sys2Proof.Machine.execCorrectionWriteBack t bank s
  | .reconstruction t => Sys2Proof.Machine.execReconstruction t s
  | .parityLatchCommit t bank => Sys2Proof.Machine.execParityLatchCommit t bank s
  | .storeFillDone t => Sys2Proof.Machine.execStoreFillDone t s
  | .regionReleaseDone t n => Sys2Proof.Machine.execRegionReleaseDone t n s
  | .scrubPassStart t => Sys2Proof.Machine.execScrubPassStart t s
  | .scrubRead t ups => Sys2Proof.Machine.execScrubRead t ups s
  | .liveRemap t => Sys2Proof.Machine.execLiveRemap t s
  | .fieldRowMapUpdate t => Sys2Proof.Machine.execFieldRowMapUpdate t s
  | .watchEntryExpiry t bank => Sys2Proof.Machine.execWatchEntryExpiry t bank s
  | .tileProtInjectArm t v => Sys2Proof.Machine.execTileProtInjectArm t v s
  | .routerReceive n p bad => Sys2Proof.Machine.execRouterReceive n p bad s
  | .routerForward n o ecc => Sys2Proof.Machine.execRouterForward n o ecc s
  | .escapeEntry n p c nc => Sys2Proof.Machine.execEscapeEntry n p c nc s
  | .controlWord n p good begins => Sys2Proof.Machine.execControlWord n p good begins s
  | .linkFail n p => Sys2Proof.Machine.execLinkFail n p s
  | .drainCountZero n => Sys2Proof.Machine.execDrainCountZero n s
  | .write n src => Sys2Proof.Machine.execWrite n src s
  | .shortWrite n => Sys2Proof.Machine.execShortWrite n s
  | .readReq n => Sys2Proof.Machine.execReadReq n s
  | .readResp n => Sys2Proof.Machine.execReadResp n s
  | .controlWrite n => Sys2Proof.Machine.execControlWrite n s
  | .ack n => Sys2Proof.Machine.execAck n s
  | .nack n => Sys2Proof.Machine.execNack n s
  | .reducePacket n p => Sys2Proof.Machine.execReducePacket n p s
  | .reduceStall n p nc => Sys2Proof.Machine.execReduceStall n p nc s
  | .frameLaunch n k => Sys2Proof.Machine.execFrameLaunch n k s
  | .mcastFrame n k sender bad => Sys2Proof.Machine.execMcastFrame n k sender bad s
  | .carriedFrame n k sender bad => Sys2Proof.Machine.execCarriedFrame n k sender bad s
  | .relayForward n k => Sys2Proof.Machine.execRelayForward n k s
  | .statusSlot n k good => Sys2Proof.Machine.execStatusSlot n k good s
  | .retransmission n k => Sys2Proof.Machine.execRetransmission n k s
  | .portAbsent n k => Sys2Proof.Machine.execPortAbsent n k s
  | .tadpoleForward n o bad => Sys2Proof.Machine.execTadpoleForward n o bad s
  | .tadpoleRegRead n => Sys2Proof.Machine.execTadpoleRegRead n s
  | .tadpoleRegWrite n => Sys2Proof.Machine.execTadpoleRegWrite n s
  | .regReply h => Sys2Proof.Machine.execRegReply h s
  | .regReplyTimeout h => Sys2Proof.Machine.execRegReplyTimeout h s
  | .doorbell t => Sys2Proof.Machine.execDoorbell t s
  | .cut t => Sys2Proof.Machine.execCut t s
  | .ceiling t => Sys2Proof.Machine.execCeiling t s
  | .issueWindow t wants => Sys2Proof.Machine.execIssueWindow t wants s
  | .notice => Sys2Proof.Machine.execNotice s
  | .stepEnd => Sys2Proof.Machine.execStepEnd s
  | .noticeQueueSend n => Sys2Proof.Machine.execNoticeQueueSend n s
  | .frame => Sys2Proof.Machine.execFrame s
  | .frameOverdue j => Sys2Proof.Machine.execFrameOverdue j s
  | .epochSwitchStart => Sys2Proof.Machine.execEpochSwitchStart s
  | .prepare n => Sys2Proof.Machine.execPrepare n s
  | .route n => Sys2Proof.Machine.execRoute n s
  | .prepareAck => Sys2Proof.Machine.execPrepareAck s
  | .prepareAckTimeout n => Sys2Proof.Machine.execPrepareAckTimeout n s
  | .commit n => Sys2Proof.Machine.execCommit n s
  | .commitAck => Sys2Proof.Machine.execCommitAck s
  | .epochDrained => Sys2Proof.Machine.execEpochDrained s
  | .drainTimeout n => Sys2Proof.Machine.execDrainTimeout n s
  | .retire n => Sys2Proof.Machine.execRetire n s
  | .groupPurge n => Sys2Proof.Machine.execGroupPurge n s
  | .invalidate t => Sys2Proof.Machine.execInvalidate t s
  | .invalidateSweepDone t => Sys2Proof.Machine.execInvalidateSweepDone t s
  | .invalidateAck => Sys2Proof.Machine.execInvalidateAck s
  | .invalidateTimeout t => Sys2Proof.Machine.execInvalidateTimeout t s
  | .syncBroadcast => Sys2Proof.Machine.execSyncBroadcast s
  | .sync n res => Sys2Proof.Machine.execSync n res s
  | .syncMissed t => Sys2Proof.Machine.execSyncMissed t s
  | .mirrorSlew n => Sys2Proof.Machine.execMirrorSlew n s
  | .delayReq n p => Sys2Proof.Machine.execDelayReq n p s
  | .delayResp n p trip => Sys2Proof.Machine.execDelayResp n p trip s
  | .neighbourSilent n p => Sys2Proof.Machine.execNeighbourSilent n p s
  | .sendTrackerTimeout t k => Sys2Proof.Machine.execSendTrackerTimeout t k s
  | .controlWriteTimeout t => Sys2Proof.Machine.execControlWriteTimeout t s
  | .tileXferPurge t part => Sys2Proof.Machine.execTileXferPurge t part s
  | .ingestDecode h n => Sys2Proof.Machine.execIngestDecode h n s
  | .itemDelivery h n => Sys2Proof.Machine.execItemDelivery h n s
  | .ethernetFrame e p sub f len => Sys2Proof.Machine.execEthernetFrame e p sub f len s
  | .egressItem h n => Sys2Proof.Machine.execEgressItem h n s
  | .hubSqTail h q tail mem bad => Sys2Proof.Machine.execHubSqTail h q tail mem bad s
  | .hubCqHead h q head => Sys2Proof.Machine.execHubCqHead h q head s
  | .hubQpCtrlEnable h q => Sys2Proof.Machine.execHubQpCtrlEnable h q s
  | .hubQpCtrlDisable h q => Sys2Proof.Machine.execHubQpCtrlDisable h q s
  | .commandFetch h => Sys2Proof.Machine.execCommandFetch h s
  | .replyWrite h q => Sys2Proof.Machine.execReplyWrite h q s
  | .coalesceTimeout h q => Sys2Proof.Machine.execCoalesceTimeout h q s
  | .hubLinkReset h down => Sys2Proof.Machine.execHubLinkReset h down s
  | .busMasterClear h => Sys2Proof.Machine.execBusMasterClear h s
  | .hubHostBindHi h v => Sys2Proof.Machine.execHubHostBindHi h v s
  | .hubStreamFreed h n v => Sys2Proof.Machine.execHubStreamFreed h n v s
  | .nop h q => Sys2Proof.Machine.execNop h q s
  | .identify h q => Sys2Proof.Machine.execIdentify h q s
  | .getFeature h q => Sys2Proof.Machine.execGetFeature h q s
  | .setFeature h q => Sys2Proof.Machine.execSetFeature h q s
  | .regRead h q => Sys2Proof.Machine.execRegRead h q s
  | .regWrite h q => Sys2Proof.Machine.execRegWrite h q s
  | .partitionCreate h q => Sys2Proof.Machine.execPartitionCreate h q s
  | .partitionDestroy h q => Sys2Proof.Machine.execPartitionDestroy h q s
  | .partitionReset h q => Sys2Proof.Machine.execPartitionReset h q s
  | .regionDefine h q => Sys2Proof.Machine.execRegionDefine h q s
  | .regionRelease h q => Sys2Proof.Machine.execRegionRelease h q s
  | .storeFill h q => Sys2Proof.Machine.execStoreFill h q s
  | .storeWrite h q => Sys2Proof.Machine.execStoreWrite h q s
  | .storeRead h q => Sys2Proof.Machine.execStoreRead h q s
  | .weightLoad h q => Sys2Proof.Machine.execWeightLoad h q s
  | .codeLoad h q => Sys2Proof.Machine.execCodeLoad h q s
  | .windowOpen h q => Sys2Proof.Machine.execWindowOpen h q s
  | .windowClose h q => Sys2Proof.Machine.execWindowClose h q s
  | .mcastGroupSet h q => Sys2Proof.Machine.execMcastGroupSet h q s
  | .rgroupSet h q => Sys2Proof.Machine.execRgroupSet h q s
  | .streamOpen h q => Sys2Proof.Machine.execStreamOpen h q s
  | .streamClose h q => Sys2Proof.Machine.execStreamClose h q s
  | .jobStart h q => Sys2Proof.Machine.execJobStart h q s
  | .jobFeed h q => Sys2Proof.Machine.execJobFeed h q s
  | .stepCommit h q => Sys2Proof.Machine.execStepCommit h q s
  | .stepReplay h q => Sys2Proof.Machine.execStepReplay h q s
  | .jobStatus h q => Sys2Proof.Machine.execJobStatus h q s
  | .jobStop h q => Sys2Proof.Machine.execJobStop h q s
  | .phaseSet h q => Sys2Proof.Machine.execPhaseSet h q s
  | .powerQuery h q => Sys2Proof.Machine.execPowerQuery h q s
  | .healthQuery h q => Sys2Proof.Machine.execHealthQuery h q s
  | .unitShed h q => Sys2Proof.Machine.execUnitShed h q s
  | .unitRegrow h q pass => Sys2Proof.Machine.execUnitRegrow h q pass s
  | .unitWatchClear h q => Sys2Proof.Machine.execUnitWatchClear h q s
  | .logRead h q => Sys2Proof.Machine.execLogRead h q s
  | .timeSync h q => Sys2Proof.Machine.execTimeSync h q s
  | .configRead h q => Sys2Proof.Machine.execConfigRead h q s
  | .configWrite h q => Sys2Proof.Machine.execConfigWrite h q s
  | .firmwareStage h q => Sys2Proof.Machine.execFirmwareStage h q s
  | .firmwareActivate h q => Sys2Proof.Machine.execFirmwareActivate h q s
  | .linkQuery h q => Sys2Proof.Machine.execLinkQuery h q s
  | .commitSweepDone j => Sys2Proof.Machine.execCommitSweepDone j s
  | .freezeTimeout t k => Sys2Proof.Machine.execFreezeTimeout t k s
  | .tileRebuild t => Sys2Proof.Machine.execTileRebuild t s
  | .slotReadyTimeout t k => Sys2Proof.Machine.execSlotReadyTimeout t k s
  | .drain kind wher sub => Sys2Proof.Machine.execDrain kind wher sub s
  | .drainLimit kind wher sub => Sys2Proof.Machine.execDrainLimit kind wher sub s
  | .healthSample => Sys2Proof.Machine.execHealthSample s
  | .healthRingWrite => Sys2Proof.Machine.execHealthRingWrite s
  | .scoreFreezeEnd => Sys2Proof.Machine.execScoreFreezeEnd s
  | .hubHeartbeat h => Sys2Proof.Machine.execHubHeartbeat h s
  | .hubLost h => Sys2Proof.Machine.execHubLost h s
  | .feedQualify f volts ns => Sys2Proof.Machine.execFeedQualify f volts ns s
  | .feedDrop f volts ns => Sys2Proof.Machine.execFeedDrop f volts ns s
  | .ibcFault n => Sys2Proof.Machine.execIbcFault n s
  | .domainShort d => Sys2Proof.Machine.execDomainShort d s
  | .pmcAllocate r => Sys2Proof.Machine.execPmcAllocate r s
  | .tileShort t => Sys2Proof.Machine.execTileShort t s
  | .thermalTrip t => Sys2Proof.Machine.execThermalTrip t s
  | .droopAlarm t m sample => Sys2Proof.Machine.execDroopAlarm t m sample s
  | .tileDroopRearm t m sample => Sys2Proof.Machine.execTileDroopRearm t m sample s
  | .crackStepJudge t qd di dv => Sys2Proof.Machine.execCrackStepJudge t qd di dv s
  | .crackPhaseCheck t phases => Sys2Proof.Machine.execCrackPhaseCheck t phases s
  | .regionPowerUp d => Sys2Proof.Machine.execRegionPowerUp d s
  | .powerupResume => Sys2Proof.Machine.execPowerupResume s
  | .powerupRelease => Sys2Proof.Machine.execPowerupRelease s
  | .currentTrip t amps => Sys2Proof.Machine.execCurrentTrip t amps s
  | .tripClear t ns => Sys2Proof.Machine.execTripClear t ns s
  | .oppGrant => Sys2Proof.Machine.execOppGrant s
  | .oppChange j => Sys2Proof.Machine.execOppChange j s
  | .setPowerCap cap hb => Sys2Proof.Machine.execSetPowerCap cap hb s
  | .getPowerReading => Sys2Proof.Machine.execGetPowerReading s
  | .heartbeat => Sys2Proof.Machine.execHeartbeat s
  | .getTid => Sys2Proof.Machine.execGetTid s
  | .getPldmVersion => Sys2Proof.Machine.execGetPldmVersion s
  | .getPldmTypes => Sys2Proof.Machine.execGetPldmTypes s
  | .getPldmCommands => Sys2Proof.Machine.execGetPldmCommands s
  | .contactLost => Sys2Proof.Machine.execContactLost s
  | .safeCapEntry => Sys2Proof.Machine.execSafeCapEntry s
  | .coolantSample good inlet outlet flow status sq => Sys2Proof.Machine.execCoolantSample good inlet outlet flow status sq s
  | .pumpFaultN level => Sys2Proof.Machine.execPumpFaultN level s
  | .slowFallAlert rise => Sys2Proof.Machine.execSlowFallAlert rise s
  | .heatBalanceCheck => Sys2Proof.Machine.execHeatBalanceCheck s
  | .tileTempSample t temps rise => Sys2Proof.Machine.execTileTempSample t temps rise s
  | .thermalLimit t => Sys2Proof.Machine.execThermalLimit t s
  | .holdRestore => Sys2Proof.Machine.execHoldRestore s
  | .coolingPowerDown => Sys2Proof.Machine.execCoolingPowerDown s
  | .coolingPowerRestore => Sys2Proof.Machine.execCoolingPowerRestore s
  | .laserSample e las power ok => Sys2Proof.Machine.execLaserSample e las power ok s
  | .linkTraining t p here there => Sys2Proof.Machine.execLinkTraining t p here there s
  | .retrain t p => Sys2Proof.Machine.execRetrain t p s
  | .linkUp t p ns => Sys2Proof.Machine.execLinkUp t p ns s
  | .laneLockLost t p => Sys2Proof.Machine.execLaneLockLost t p s
  | .siluaTraining e p lanes partner version => Sys2Proof.Machine.execSiluaTraining e p lanes partner version s
  | .cell e p c sym => Sys2Proof.Machine.execCell e p c sym s
  | .returnMapExpiry e => Sys2Proof.Machine.execReturnMapExpiry e s
  | .coldReset => Sys2Proof.Machine.execColdReset s
  | .bootStep h res => Sys2Proof.Machine.execBootStep h res s
  | .bootStepTimeout h => Sys2Proof.Machine.execBootStepTimeout h s
  | .panelReset h => Sys2Proof.Machine.execPanelReset h s
  | .bootWatchdog h => Sys2Proof.Machine.execBootWatchdog h s
  | .leadClaim h => Sys2Proof.Machine.execLeadClaim h s
  | .leadClaimTimeout => Sys2Proof.Machine.execLeadClaimTimeout s
  | .hubJoin h => Sys2Proof.Machine.execHubJoin h s
  | .hubBootRecoveryGo h => Sys2Proof.Machine.execHubBootRecoveryGo h s
  | .referenceLoss n => Sys2Proof.Machine.execReferenceLoss n s
  | .debugChallenge h => Sys2Proof.Machine.execDebugChallenge h s
  | .debugToken h sr st => Sys2Proof.Machine.execDebugToken h sr st s
  | .panelTimeLo h => Sys2Proof.Machine.execPanelTimeLo h s
  | .hubEventStatus h v => Sys2Proof.Machine.execHubEventStatus h v s
  | .hubEventMask h v => Sys2Proof.Machine.execHubEventMask h v s
  | .hubEventCfg h v => Sys2Proof.Machine.execHubEventCfg h v s
  | .hubEvent h bit => Sys2Proof.Machine.execHubEvent h bit s
  | .straightRecalibration n wg => Sys2Proof.Machine.execStraightRecalibration n wg s
  | .replayRewind j => Sys2Proof.Machine.execReplayRewind j s
  | .pcieLinkTraining h rate width => Sys2Proof.Machine.execPcieLinkTraining h rate width s
  | .msixVectorUnmask h v => Sys2Proof.Machine.execMsixVectorUnmask h v s
  | .barAccess h bar off n wr v => Sys2Proof.Machine.execBarAccess h bar off n wr v s
  | .debugAccess h kind a b v => Sys2Proof.Machine.execDebugAccess h kind a b v s
  | .standbyRailLoss => Sys2Proof.Machine.execStandbyRailLoss s
  | .unsupportedPldmCmd code => Sys2Proof.Machine.execUnsupportedPldmCmd code s

end Sys2Proof.Machine
end

