-- ==== Sys2Proof/Safety.lean ====
section
/-! DEFINITION. What counts as a safe run, and the views of the state in which the statements are written. -/

namespace Sys2Proof

open Sys2Proof.Machine

/-- The run of `k` steps from `s` stops nowhere. -/
def Safe (s : State) (k : Nat) : Prop := ∃ t, core.run k s = .next t

/-- Panel time does not go back, so long as no COLD reset or loss of the standby rail or of the lead hub intervenes. -/
def TimeForward (s t : State) : Prop := s.sys.now ≤ t.sys.now

/-- The partitions are numbered in rising order, at most 16 (R355), none is numbered 0 or empty, and no two share a tile
(R380). -/
def Machine.PartitionsApart (m : NMap Partition) : Prop :=
  NMap.sorted m = true ∧ m.length ≤ 16 ∧ (∀ p ∈ m, p.1 ≠ 0 ∧ p.2.tiles ≠ 0) ∧
    m.Pairwise (fun a b => a.2.tiles &&& b.2.tiles = 0)
/-- The invariant of the panel: the partitions are apart, and host memory is in its canonical form (log entry 3). -/
def Machine.Sys.Kept (s : Sys) : Prop :=
  PartitionsApart s.lead.partitions ∧ Memory.wf s.host = true

/-- The tile whose own state a command concerns: none for a command that may change more than that tile. -/
def Machine.tileOf (i : Instr) : Option Nat :=
  match i with
  | .scalarInstruction t _ _ _ | .narrowLoad t _ _ _ _ _ _ | .narrowStore t _ _ _ _ _ _ | .narrowStoreSend t _
  | .interruptTaken t _ | .machineTimer t _ | .enq t _ _ _ _ _ | .enql t _ _ _ _ _ _ | .qfree t _ _ _ _
  | .tokrd t _ _ _ _ | .tokinc t _ _ _ _ | .toktry t _ _ _ _ _ | .lapidx t _ _ _ | .sequencerIssue t _ | .run t _
  | .halt t _ | .lapStart t _ _ | .lapStop t _ _ | .freeze t _ _ | .thaw t _ _ | .lapZeroBegin t _
  | .lapBoundary t _ _ | .tokenDeadlock t _ | .mm t _ _ | .accClear t _ | .accOut t _ | .macroLoad t _
  | .convert t _ _ | .binary t _ _ | .unary t _ _ | .reduce t _ _ | .softmaxStats t _ _ | .softmaxApply t _ _
  | .normStats t _ _ | .normApply t _ _ | .pool t _ _ | .transpose t _ _ | .gather t _ _ | .scatter t _ _ | .copy t _
  | .send t _ | .mcast t _ | .reduceSend t _ | .streamSet t _ | .streamLoop t _ | .streamGo t _ | .streamStop t _
  | .descriptorCompletion t _ _ | .streamFetchLap t _ _ _ | .leapfrogPeriod t _ | .preloadComplete t _
  | .leapfrogAbandon t | .coreUnitFault t _ _ | .takeoverReady t _ | .auditSweep t | .macroAudit t _
  | .auditReload t _ | .correctionWriteBack t _ | .reconstruction t | .parityLatchCommit t _ | .scrubPassStart t
  | .scrubRead t _ | .liveRemap t | .watchEntryExpiry t _ | .tileProtInjectArm t _ | .issueWindow t _
  | .sendTrackerTimeout t _ | .controlWriteTimeout t | .tileXferPurge t _ | .droopAlarm t _ _ | .tileDroopRearm t _ _
  | .crackPhaseCheck t _ | .currentTrip t _ | .tripClear t _ | .tileTempSample t _ _ | .thermalLimit t => some t
  | _ => none
/-- From `a` to `b` nothing has changed but tile `t`, its router and tadpole router, its two straights and the counts
of the health mirror. -/
def Machine.SameOutside (t : Nat) (a b : Sys) : Prop :=
  (∀ u, u ≠ t → b.tile u = a.tile u) ∧ (∀ n, n ≠ t → b.router n = a.router n ∧ b.tad n = a.tad n) ∧
    (∀ n, n ≠ straightOf t 0 → n ≠ straightOf t 1 → b.straight n = a.straight n) ∧
    b = { a with tiles := b.tiles, mesh := b.mesh, tads := b.tads, straights := b.straights
                 health := { a.health with counts := b.health.counts } }

/-- Slot `k` of tile `t`. -/
def Machine.State.slot (s : State) (t k : Nat) : Slot := (s.sys.tx t).slot k
/-- The state in which slot `k` of tile `t` is `v` and nothing else has changed. -/
def Machine.State.withSlot (s : State) (t k : Nat) (v : Slot) : State :=
  { s with sys := s.sys.setTile t ((s.sys.tx t).setSlot k v).tile }
/-- The state in which tile `t` is `v` and nothing else has changed. -/
def Machine.State.withTile (s : State) (t : Nat) (v : Tile) : State := { s with sys := s.sys.setTile t v }

/-- The state after tile `t` did what leaves it as `x`: the tile, and what it sent out (R221, R278). -/
def Machine.State.tileDid (s : State) (t : Nat) (x : TX) : State := { s with sys := s.sys.putTX t x }
/-- The state in which tile `t` has queued a notice for the lead hub (R289, R478) and nothing else has changed. -/
def Machine.State.noticed (s : State) (t : Nat) (urgent : Bool) (code payload : Nat) : State :=
  { s with sys := s.sys.queueNotice t urgent code payload }
/-- The state in which tadpole endpoint `n` has taken the oldest message of its inbox. -/
def Machine.State.mailTaken (s : State) (n : Nat) : State :=
  { s with sys := s.sys.setTad n { s.sys.tad n with inbox := (s.sys.tad n).inbox.drop 1 } }
/-- The oldest message of the inbox of tadpole endpoint `n`. -/
def Machine.State.mail (s : State) (n : Nat) : Option TMsg := (s.sys.tad n).inbox.head?

/-- The state in which router `n` is `r` and nothing else has changed. -/
def Machine.State.withRouter (s : State) (n : Nat) (r : Router) : State := { s with sys := s.sys.setRouter n r }
/-- The state in which straight `n` is `v` and nothing else has changed. -/
def Machine.State.withStraight (s : State) (n : Nat) (v : Straight) : State := { s with sys := s.sys.setStraight n v }
/-- The state in which tadpole router `n` is `r` and nothing else has changed. -/
def Machine.State.withTad (s : State) (n : Nat) (r : TRouter) : State := { s with sys := s.sys.setTad n r }
/-- The state in which hub `h` is `v` and nothing else has changed. -/
def Machine.State.withHub (s : State) (h : Nat) (v : Hub) : State := { s with sys := s.sys.setHub h v }
/-- The state in which the lead hub's firmware keeps `l` and nothing else has changed. -/
def Machine.State.withLead (s : State) (l : Lead) : State := { s with sys := s.sys.setLead l }
/-- The oldest packet in the endpoint buffer of router `n` (R231). -/
def Machine.State.packet (s : State) (n : Nat) : Option Packet := (s.sys.router n).eject.head?.map (fun p => p.2)
/-- The state in which endpoint `n` has taken the oldest packet of its buffer. -/
def Machine.State.packetTaken (s : State) (n : Nat) : State :=
  s.withRouter n { s.sys.router n with eject := (s.sys.router n).eject.drop 1 }
/-- The packets that router `n`'s local port has not yet accepted (R221). -/
def Machine.State.localWire (s : State) (n : Nat) : List LinkPkt := ((s.sys.router n).port (localPort n)).wire

/-- The panel once command `c` of pair `q` on hub `h` is marked started (R358). -/
def Machine.State.started (s : State) (h q : Nat) (c : Cmd) : Sys := s.sys.markStarted h q c.num
/-- The checks that command `c` of opcode `op` fails (R13, R369, R372): the byte offset of each failing field with the
result that goes with it; `bad` is the opcode's own part. -/
def Machine.State.checks (s : State) (h q op : Nat) (bad : Sys → Cmd → List (Nat × Nat)) (c : Cmd) : List (Nat × Nat) :=
  let own := (s.sys.hub h).qpOwner q
  let t := s.started h q c
  denies 0 (own = 0 || !panelOnly op) ++ denies 4 (own = 0 || c.partition = own) ++ t.headBad c ++ denies 6 (t.targetMine c) ++ bad t c
/-- Command `c` is what pair `q` of hub `h` starts next, and its opcode is `op` (R357, R358). -/
def Machine.State.starts (s : State) (h q op : Nat) (c : Cmd) : Prop :=
  (s.sys.hub h).live = true ∧ (s.sys.hub h).ready = true ∧ s.sys.nextCmd h q op = some c
/-- Command `c` starts next, its opcode is `op`, and every field of it is valid (R13). -/
def Machine.State.accepts (s : State) (h q op : Nat) (bad : Sys → Cmd → List (Nat × Nat)) (c : Cmd) : Prop :=
  s.starts h q op c ∧ s.checks h q op bad c = []
/-- The state whose panel is `u` with reply `r` to command `c` queued at pair `q` of hub `h` (R357, R367). -/
def Machine.State.replied (s : State) (h q : Nat) (c : Cmd) (u : Sys) (r : Reply) : State :=
  { s with sys := u.pushReply h q c.num r }
/-- The state whose panel is `u`, in which command `c` of pair `q` on hub `h` waits for `w`. -/
def Machine.State.waiting (s : State) (h q : Nat) (c : Cmd) (u : Sys) (w : WaitFor) : State :=
  { s with sys := u.addWait h q c.num w {} }

/-- A scalar core after an instruction that took `cc` core cycles, wrote `v` to `rd` and goes on at `pc` (R45): WFI is
over, minstret has counted it. -/
def Machine.Scalar.after (c : Scalar) (cc rd v pc : Nat) : Scalar :=
  { c.put rd v with
    pc := BitVec.ofNat 32 pc, mcycle := c.mcycle + BitVec.ofNat 64 cc, wfi := false, minstret := c.minstret + 1 }

/-- The inputs of a vector descriptor whose operands are not streamed, and the tile after reading them (R124, R131). -/
def Machine.TX.vectorInputs (x : TX) (k : Nat) (e : QEntry) : VecIn × TX :=
  let p := vecPlan e.desc
  let q := x.vecPlace e
  let a := p.begins.foldl (fun (a : List (Nat × Bool) × TX) b =>
    let l := a.2.readRows k q.aN (q.aO + b) p.aRows
    (a.1 ++ l.1, l.2)) ([], x)
  let b := a.2.readRows k q.bN q.bO p.bRows
  let o := if p.readsD then b.2.readRows k q.dN q.dO p.dRows else ([], b.2)
  let c := o.2.readRows k q.sN q.sO p.sRows
  ({ a := a.1, b := b.1, dOld := o.1, s := c.1 }, c.2)
/-- The tile after the vector unit has started descriptor `e` with result `r`: the entry taken off its queue with its
tokens, the numeric status, the events, the output rows and scale rows written (R128, R129). -/
def Machine.TX.vectorStarted (x : TX) (k : Nat) (e : QEntry) (r : VecResult) : TX :=
  let q := x.vecPlace e
  let v := (x.slot k).popHead 1 e
  let pois := anyPoison r.rows || anyPoison r.scales
  let w := ({ v with eng := { v.eng with vector := some { q := e } } }).numeric (r.status ||| (if pois then nsPoisonOut else 0))
  let y := x.setSlot k w
  let y := if r.events = 0 then y else y.setReg (0x180 + 4 * k) (y.reg (0x180 + 4 * k) ||| r.events)
  (y.writeRows q.dN k (numberRows q.dO r.rows)).writeRows q.sN k (numberRows q.dsO r.scales)

end Sys2Proof
end

