-- ==== Sys2Proof/Certificates/Slice0/Obligations.lean ====
section
/-! DEFINITION. The statements for the provers. -/

section
open Sys2Proof Sys2Proof.Machine

/-- A step takes the command at the front of the queue and is exec of it on the state with the rest of the queue; with no
command waiting the panel idles (the model's choice, log entry 10). -/
def Obligations.StepRunsFrontCommand : Prop :=
  (∀ (c : Instr) (rest : List Instr) (s : State),
    step { s with pending := c :: rest } = exec c { s with pending := rest }) ∧
  (∀ s : State, s.pending = [] → step s = .next { s with sys := s.sys.idle })

/-- Every command answers a next state, whatever waits behind it: the queue's rest stays as it is, and what the command
does to the panel does not depend on it. A command that is not well formed changes nothing (the model's choice, log
entry 9). -/
def Obligations.ExecKeepsQueue : Prop :=
  ∀ (i : Instr) (y : Sys), ∃ t, (∀ p, exec i { pending := p, sys := y } = .next { pending := p, sys := t }) ∧
    (i.wf = false → t = y)

/-- Commands run in the order in which they wait: a run of as many steps as commands were queued ends with the later ones
still waiting, and leaves the panel as it would without them. -/
def Obligations.QueueRunsInOrder : Prop :=
  ∀ (cs rest : List Instr) (y : Sys), ∃ z : Sys,
    core.run cs.length { pending := cs ++ rest, sys := y } = .next { pending := rest, sys := z } ∧
    core.run cs.length { pending := cs, sys := y } = .next { pending := [], sys := z }

/-- Every step keeps the invariant: a logical tile belongs to at most one partition (R380), there are at most 16
partitions, none empty or numbered 0, and host memory stays in its canonical form (log entry 3). -/
def Obligations.PartitionsStayDisjoint : Prop :=
  ∀ (s t : State), s.sys.Kept → step s = .next t → t.sys.Kept

/-- The state right after a COLD reset (R505): nothing waits, panel time is 0, the standby rail is up, every tile and
both hubs are down, every register of a tile and a hub reads its table's reset value (0 where the spec gives none: the
model's choice, log entry 5), every store byte reads 0 (log entry 5), and the invariant holds. -/
def Obligations.ResetState : Prop :=
  let s := State.reset
  s.pending = [] ∧ s.sys.Kept ∧ s.sys.now = 0 ∧ s.sys.power.standby = true ∧ s.sys.boot.leadKnown = false ∧
    s.sys.lead.partitions = [] ∧ s.sys.lead.jobs = [] ∧ s.sys.lead.epoch = 0 ∧
    (∀ t off, (s.sys.tile t).pwr.on = false ∧ (s.sys.tx t).reg off = regReset tileRows off) ∧
    (∀ t k off, (s.slot t k).state = .off ∧ (s.slot t k).reg off = regReset coreRows off ∧
      (s.slot t k).sc.halted = true ∧ (s.slot t k).sc.pc = 0) ∧
    (∀ t a, Mem.byte (s.sys.tile t).store.data a = 0) ∧
    (∀ h off, (s.sys.hub h).live = false ∧ (s.sys.hub h).ready = false ∧ (s.sys.hub h).reg off = regReset hubRows off) ∧
    (∀ e, s.sys.engine e = {})

/-- What the commands of one tile leave unchanged: every other tile, router and tadpole router, every straight but the
tile's own two, the translation replicas, links, hubs, optical engines, the lead hub's tables, power, cooling and boot
state, host memory, the value last answered, the interrupts sent, and panel time. -/
def Obligations.FrameOfTileCommands : Prop :=
  ∀ (i : Instr) (t : Nat) (s u : State), tileOf i = some t → exec i s = .next u →
    u.pending = s.pending ∧ SameOutside t s.sys u.sys

/-- The custom scalar instructions. QFREE, TOKRD, LAPIDX, TOKTRY and TOKINC on a live scalar core whose slot is not the
subject of a preload (R147, R49): the register written, the token taken or raised, pc + 4, and nothing else in the
state. ENQ and ENQL of a well-formed descriptor with an empty narrow store queue (R50, R51): queued, with the lap index
of the run or of rs2; a full queue stalls; a malformed descriptor traps with DESC_FORMAT (R59). -/
def Obligations.CustomScalarInstructions : Prop :=
  ∀ (s : State) (t k cc rd rs1 rs2 eq : Nat), t < 256 → k < 16 → cc < 2 ^ 32 → rd < 32 → rs1 < 32 → rs2 < 32 → eq < 4 →
    (s.slot t k).scalarLive = true → (s.sys.tile t).preload = none → (s.sys.tile t).shed = false →
    let v := s.slot t k
    let pc := v.sc.pc.toNat + 4
    let tok := v.sc.get rs1 % 16
    let n := v.sc.get rs2 % 256
    let have_ := NMap.get 0 v.tokens tok
    exec (.qfree t k cc rd eq) s = .next (s.withSlot t k { v with sc := v.sc.after cc rd (v.qfree eq) pc }) ∧
    exec (.tokrd t k cc rd rs1) s = .next (s.withSlot t k { v with sc := v.sc.after cc rd have_ pc }) ∧
    exec (.lapidx t k cc rd) s = .next (s.withSlot t k { v with sc := v.sc.after cc rd v.lap.index pc }) ∧
    (n ≤ have_ → exec (.toktry t k cc rd rs1 rs2) s = .next (s.withSlot t k
      { v with sc := v.sc.after cc rd 1 pc, tokens := NMap.set 0 v.tokens tok (have_ - n) })) ∧
    (have_ < n → exec (.toktry t k cc rd rs1 rs2) s = .next (s.withSlot t k { v with sc := v.sc.after cc rd 0 pc })) ∧
    (n ≠ 0 → have_ + n ≤ 255 → exec (.tokinc t k cc rs1 rs2) s = .next (s.withSlot t k
      { v with sc := v.sc.after cc 0 0 pc, tokens := NMap.set 0 v.tokens tok (have_ + n) })) ∧
    (n = 0 → exec (.tokinc t k cc rs1 rs2) s = .next (s.withSlot t k { v with sc := v.sc.after cc 0 0 pc })) ∧
    (v.narrow = [] →
      let a := v.sc.get rs1
      let d := v.descAt (a - 0x10000000)
      let late : Scalar := { v.sc with mcycle := v.sc.mcycle + BitVec.ofNat 64 cc, wfi := false }
      a % 32 = 0 → 0x10000000 ≤ a → a < 0x10008000 →
      (descCheck d eq = none → 0 < v.qfree eq →
        exec (.enq t k cc rd rs1 eq) s = .next (s.withSlot t k { v with
          sc := v.sc.after cc rd (v.qfree eq - 1) pc
          queues := v.queues.put eq (v.queues.get eq ++ [{ desc := d, lap := v.lap.index }]) }) ∧
        exec (.enql t k cc rd rs1 rs2 eq) s = .next (s.withSlot t k { v with
          sc := v.sc.after cc rd (v.qfree eq - 1) pc
          queues := v.queues.put eq (v.queues.get eq ++ [{ desc := d, lap := v.sc.get rs2 }]) })) ∧
      (descCheck d eq = none → v.qfree eq = 0 →
        exec (.enq t k cc rd rs1 eq) s = .next (s.withSlot t k { v with sc := late }) ∧
        exec (.enql t k cc rd rs1 rs2 eq) s = .next (s.withSlot t k { v with sc := late })) ∧
      (∀ f, descCheck d eq = some f →
        exec (.enq t k cc rd rs1 eq) s =
          .next (s.withSlot t k { v with sc := late.trap v.sc.pc.toNat false 24 a }) ∧
        exec (.enql t k cc rd rs1 rs2 eq) s =
          .next (s.withSlot t k { v with sc := late.trap v.sc.pc.toNat false 24 a })))


/-- A trap as R45 and R58 have it: what it saves, where the pc goes, and that mret undoes the interrupt enable. -/
def Obligations.TrapSavesAndReturns : Prop :=
  ∀ (c : Scalar) (pc cause tval : Nat) (irq : Bool), pc < 2 ^ 32 → tval < 2 ^ 32 → cause < 32 →
    let u := c.trap pc irq cause tval
    u.mepc.toNat = pc ∧ u.mcause.toNat = cause + (if irq then 2 ^ 31 else 0) ∧ u.mtval.toNat = tval ∧
    bitOf u.mstatus.toNat 3 = false ∧ bitOf u.mstatus.toNat 7 = bitOf c.mstatus.toNat 3 ∧ u.wfi = false ∧ u.x = c.x ∧
    (irq = false → u.pc.toNat = c.mtvec.toNat - c.mtvec.toNat % 4) ∧
    bitOf u.mret.mstatus.toNat 3 = bitOf c.mstatus.toNat 3 ∧ u.mret.pc.toNat = pc

/-- An instruction fetched at the pc of a live core with clean RAM (R43, R45): a register-register operation writes its
result, ecall takes exception 11, mret goes back to mepc. A load or store that is not naturally aligned, of 32 bits or
compressed, raises the address-misaligned exception and is not performed (R44): the core and its memory keep what they
hold but for what the trap saves. -/
def Obligations.FetchedScalarInstructions : Prop :=
  ∀ (s : State) (t k cc : Nat), t < 256 → k < 16 → cc < 2 ^ 32 → (s.slot t k).scalarLive = true →
    (s.sys.tile t).preload = none →
    let v := s.slot t k
    let pc := v.sc.pc.toNat
    let w := Mem.read v.fetchView pc 4
    let late : Scalar := { v.sc with mcycle := v.sc.mcycle + BitVec.ofNat 64 cc, wfi := false }
    pc + 4 ≤ 0x10000 →
    (∀ r, w % 128 = 0x33 →
      aluR (bitsOf w 31 25) (bitsOf w 14 12) (bitsOf w 24 20) (v.sc.get (bitsOf w 19 15)) (v.sc.get (bitsOf w 24 20)) = some r →
      exec (.scalarInstruction t k cc .clean) s =
        .next (s.withSlot t k { v with sc := v.sc.after cc (bitsOf w 11 7) r (pc + 4) })) ∧
    (w = 0x00000073 → exec (.scalarInstruction t k cc .clean) s =
        .next (s.withSlot t k { v with sc := late.trap pc false 11 0 })) ∧
    (w = 0x30200073 → exec (.scalarInstruction t k cc .clean) s =
        .next (s.withSlot t k { v with sc := v.sc.mret.after cc 0 0 v.sc.mepc.toNat })) ∧
    (∀ i, (if w % 4 = 3 then some w else expand16 (w % 2 ^ 16)) = some i →
      let a := w32 (v.sc.get (bitsOf i 19 15) + immI i)
      let b := w32 (v.sc.get (bitsOf i 19 15) + immS i)
      (i % 128 = 0x03 → isLoad (bitsOf i 14 12) = true → a % 2 ^ (bitsOf i 14 12 % 4) ≠ 0 →
        exec (.scalarInstruction t k cc .clean) s = .next (s.withSlot t k { v with sc := late.trap pc false 4 a })) ∧
      (i % 128 = 0x23 → isStore (bitsOf i 14 12) = true → b % 2 ^ bitsOf i 14 12 ≠ 0 →
        exec (.scalarInstruction t k cc .clean) s = .next (s.withSlot t k { v with sc := late.trap pc false 6 b }))) ∧
    (∀ f3 rd rs1 rs2 imm, rd < 32 → rs1 < 32 → rs2 < 32 → imm < 4096 →
      let a := w32 (v.sc.get rs1 + sext 12 imm)
      narrowAddr a = true → a % 2 ^ (f3 % 4) ≠ 0 →
      (isLoad f3 = true →
        exec (.narrowLoad t k cc f3 rd rs1 imm) s = .next (s.withSlot t k { v with sc := late.trap pc false 4 a })) ∧
      (isStore f3 = true →
        exec (.narrowStore t k cc f3 rs2 rs1 imm) s = .next (s.withSlot t k { v with sc := late.trap pc false 6 a })))

/-- A scalar load and a scalar store in the narrow view (R163, R164): a load of a clean row, of a queued word, of a word
whose errors are corrected, and of one that fails; a store with room in the queue, with a full queue and into a queued
word. The oldest queued store going to its bank: the bytes it stores, every other byte of the store as before. -/
def Obligations.NarrowViewAccesses : Prop :=
  ∀ (s : State) (t k cc f3 rd rs1 rs2 imm : Nat), t < 256 → k < 16 → cc < 2 ^ 32 → rd < 32 → rs1 < 32 → rs2 < 32 →
    imm < 4096 → (s.sys.tile t).preload = none →
    let v := s.slot t k
    let a := w32 (v.sc.get rs1 + sext 12 imm)
    let off := a - 0x20000000
    let n := 2 ^ (f3 % 4)
    let st := (s.sys.tile t).store
    let pc := v.sc.pc.toNat + 4
    (v.scalarLive = true → narrowAddr a = true → a % n = 0 → isLoad f3 = true → v.narrow = [] →
      (s.sys.tx t).narrowRow k (off / 512) false = true → st.badWords (off / 512) = [] →
      let x := bitsOf (st.rowData (off / 512)) (8 * (off % 512 + n) - 1) (8 * (off % 512))
      exec (.narrowLoad t k cc f3 rd rs1 imm) s = .next (s.withSlot t k
        { v with sc := v.sc.after cc rd (if f3 < 3 then sext (8 * n) x else x) (w32 pc) })) ∧
    (v.scalarLive = true → narrowAddr a = true → a % n = 0 → f3 < 3 → v.narrow.length < 4 →
      v.narrow.all (fun e => e.word ≠ off / 8) = true → (s.sys.tx t).narrowRow k (off / 512) true = true →
      exec (.narrowStore t k cc f3 rs2 rs1 imm) s = .next (s.withSlot t k { v with
        sc := v.sc.after cc 0 0 (w32 pc)
        narrow := v.narrow ++ [{ word := off / 8, mask := (2 ^ n - 1) * 2 ^ (off % 8)
                                 data := (v.sc.get rs2 % 2 ^ (8 * n)) * 2 ^ (8 * (off % 8)) }] })) ∧
    (let row := off / 512
     let none_ := v.narrow.all (fun e => e.word ≠ off / 8)
     let m := (2 ^ n - 1) * 2 ^ (off % 8)
     let ext (x : Nat) : Nat := if f3 < 3 then sext (8 * n) x else x
     v.scalarLive = true → narrowAddr a = true → a % n = 0 → isLoad f3 = true → (s.sys.tx t).narrowRow k row false = true →
      ∃ u, exec (.narrowLoad t k cc f3 rd rs1 imm) s = .next u ∧
        (∀ e, v.narrow.find? (fun e => e.word = off / 8) = some e → e.mask &&& m = m →
          (u.slot t k).sc = v.sc.after cc rd (ext (bitsOf e.data (8 * (off % 8 + n) - 1) (8 * (off % 8)))) (w32 pc)) ∧
        (none_ = true → st.wordFails row (off / 8 % 64) = false →
          (u.slot t k).sc = v.sc.after cc rd
            (ext (bitsOf (correctRow (st.rowData row) (st.badWords row)) (8 * (off % 512 + n) - 1) (8 * (off % 512)))) (w32 pc)) ∧
        (∀ p, st.regionOf row = some p → p.2.cls ≠ 1 → none_ = true → st.wordFails row (off / 8 % 64) = true →
          (u.slot t k).sc = ({ v.sc with mcycle := v.sc.mcycle + BitVec.ofNat 64 cc, wfi := false } : Scalar).trap
            v.sc.pc.toNat false 5 a)) ∧
    (let m := (2 ^ n - 1) * 2 ^ (off % 8)
     let d := (v.sc.get rs2 % 2 ^ (8 * n)) * 2 ^ (8 * (off % 8))
     let q := v.narrow.map (fun e => if e.word = off / 8 then
       { e with mask := e.mask ||| m, data := mergeBytes e.data d m } else e)
     v.scalarLive = true → narrowAddr a = true → a % n = 0 → f3 < 3 → (s.sys.tx t).narrowRow k (off / 512) true = true →
      ∃ u, exec (.narrowStore t k cc f3 rs2 rs1 imm) s = .next u ∧ (u.slot t k).sc = v.sc.after cc 0 0 (w32 pc) ∧
        (4 ≤ v.narrow.length → v.narrow.all (fun e => e.word ≠ off / 8) = true →
          (u.slot t k).narrow = v.narrow.drop 1 ++ [{ word := off / 8, mask := m, data := d }]) ∧
        (v.narrow.any (fun e => e.word = off / 8) = true → (q.headD {}).mask ≠ 255 → (u.slot t k).narrow = q)) ∧
    (∀ e rest, v.narrow = e :: rest →
      ∃ u, exec (.narrowStoreSend t k) s = .next u ∧ u.slot t k = { v with narrow := rest } ∧
        (∀ j, j ≠ k → u.slot t j = s.slot t j) ∧ SameOutside t s.sys u.sys ∧ u.sys.tad t = s.sys.tad t ∧
        u.sys.router t = s.sys.router t ∧
        (e.mask = 255 ∨ st.badWords (e.word / 64) = [] →
          ∀ off, off ≠ 0x210 → off < 0x1B00 ∨ 0x1C00 ≤ off → (u.sys.tx t).reg off = (s.sys.tx t).reg off) ∧
        (∀ b, b < 8 * e.word ∨ 8 * e.word + 8 ≤ b →
          Mem.byte (u.sys.tile t).store.data b = Mem.byte st.data b) ∧
        (∀ i, i < 8 → bitOf e.mask i = true →
          (Mem.byte (u.sys.tile t).store.data (8 * e.word + i)).toNat = byteOf e.data i))

/-- The highest pending enabled interrupt is taken, the timer interrupt becomes pending at its compare value, RUN starts a
halted core at address 0 and HALT halts it (R58, R60, R62). -/
def Obligations.InterruptTimerRunHalt : Prop :=
  ∀ (s : State) (t k : Nat), t < 256 → k < 16 → (s.sys.tile t).preload = none →
    let v := s.slot t k
    (∀ i, v.scalarLive = true → bitOf v.sc.mstatus.toNat 3 = true → topInterrupt v.pendEnabled = some i →
      exec (.interruptTaken t k) s = .next (s.withSlot t k { v with sc := v.sc.trap v.sc.pc.toNat true i 0 })) ∧
    (v.reg 0x30 + 2 ^ 32 * v.reg 0x34 ≤ s.sys.mirror t →
      exec (.machineTimer t k) s = .next (s.withSlot t k { v with sc := { v.sc with timerPend := true } })) ∧
    (v.state = .halted → v.sc.halted = true →
      exec (.run t k) s = .next (s.withSlot t k
        { v with state := .scalar, sc := { v.sc with halted := false, pc := 0, wfi := false } })) ∧
    (v.state = .scalar →
      exec (.halt t k) s = .next (s.withSlot t k
        { v with state := .halted, sc := { v.sc with halted := true, wfi := false } }))


/-- The requests for a slot (R52, R56, R208, R565): an accepted LAP_START, a stop, a freeze, a thaw, a cut, and the lap
that a start or a thaw waits for begins. A CORE_CTRL message that names one slot is taken and has the same effect; CUT
stops the slot inside its lap (R285, R565). -/
def Obligations.LapRequestsTakeEffect : Prop :=
  (∀ (s : State) (t k : Nat), t < 256 → k < 16 →
    let v := s.slot t k
    let x := s.sys.tx t
    let runs := v.reg 0x10
    (v.state = .scalar ∨ v.state = .halted → bitOf (x.source k) 6 = true → v.lapOk = true → runs ≠ 0 →
      v.firstInvalid v.lapLen 0 = none → v.programLoads = false →
      exec (.lapStart t k false) s = .next (s.withSlot t k { v with
        fault := .none, faultEngine := 0, faultDesc := 0, faultField := 0, state := .lapRunning
        lap := { index := 0, next := 0, runsLeft := if runs = 0xFFFFFFFF then none else some runs
                 baseline := (List.range 16).map (fun i => NMap.get 0 v.tokens i), begun := false, waitStart := true
                 startAt := x.lapStartTime k, bubbleRate := v.lap.bubbleRate, frameLaps := v.lap.frameLaps
                 stepLaps := v.lap.stepLaps, boundaries := v.lap.boundaries } })) ∧
    (v.state = .lapRunning → exec (.lapStop t k false) s = .next (s.withSlot t k
      { v with lap := { v.lap with stopPend := true } })) ∧
    (v.state = .lapFrozen → exec (.lapStop t k false) s = .next (s.withTile t ((x.setSlot k
      { v with state := .scalar, lap := { v.lap with waitStart := false, begun := false } }).instantHandover k).tile)) ∧
    (v.state = .lapRunning → exec (.freeze t k false) s = .next (s.withSlot t k
      { v with lap := { v.lap with freezePend := true } })) ∧
    (v.state = .lapFrozen → exec (.thaw t k false) s = .next (s.withSlot t k { v with
      state := .lapRunning
      lap := { v.lap with begun := false, waitStart := true, startAt := x.lapStartTime k, next := 0, cutAt := none
                          freezePend := false, stopPend := false } })) ∧
    (v.state = .lapRunning → v.lap.waitStart = true → v.lap.startAt ≤ s.sys.mirror t → (s.sys.tile t).preload = none →
      let b := x.bubbleRateAt k v.lap.index
      let n := bubblesBefore b v.lap.index
      exec (.lapZeroBegin t k) s = .next (s.withSlot t k { v with
        lap := { v.lap with waitStart := false, next := 0, bubbleRate := b, bubbles := n, begun := decide (n = 0) } }))) ∧
  (∀ (s : State) (t k j : Nat) (m : TMsg), t < 256 → k < 16 → j < 16 → s.mail t = some m → m.type = 9 →
    bitsOf m.payload 15 0 = 2 ^ k →
    let v := s.slot t k
    (bitsOf m.payload 18 16 = 4 → exec (.lapStart t j true) s = exec (.lapStart t k false) (s.mailTaken t)) ∧
    (bitsOf m.payload 18 16 = 3 → exec (.lapStop t j true) s = exec (.lapStop t k false) (s.mailTaken t)) ∧
    (bitsOf m.payload 18 16 = 1 → exec (.freeze t j true) s = exec (.freeze t k false) (s.mailTaken t)) ∧
    (bitsOf m.payload 18 16 = 2 → exec (.thaw t j true) s = exec (.thaw t k false) (s.mailTaken t)) ∧
    (bitsOf m.payload 18 16 = 5 → v.state = .lapRunning →
      exec (.cut t) s = .next ((s.mailTaken t).withSlot t k (Slot.irq { v with
        state := .lapFrozen, queues := {}, eng := {}
        streams := v.streams.map (fun p =>
          if p.2.state = .running then (p.1, { p.2 with state := .halted, savedLap := p.2.fetchLap }) else p)
        macros := v.macros.map (fun p => (p.1, p.2.stopLoad))
        lap := { v.lap with begun := false, waitStart := false, freezePend := false, stopPend := false
                            bubbles := 0, cutAt := some v.lap.index } } irqFreeze))))

/-- A lap boundary once L cc have elapsed and the lap's whole program has completed. Tokens that differ from the
baseline end in LAP_FAULT with TOKEN_IMBALANCE, and a run's last lap returns the core to SCALAR (R54). Of a lap that
took exactly L cc (R53, R56, R64, R216): the index rises, LAP_BOUNDARY pends, a core rotation is due where PERIOD_MS is
0, and the run ends, freezes or goes on with the bubble laps due before the next lap; a bubble lap counts down (R461). -/
def Obligations.LapBoundaryOutcomes : Prop :=
  ∀ (s : State) (t k : Nat) (tm : LapTiming), t < 256 → k < 16 → s.sys.cool.hold = none → (s.sys.tile t).preload = none →
    let v := s.slot t k
    let x := s.sys.tx t
    let n := v.lap.index
    let z := s.withTile t x.leapBoundary.tile
    v.state = .lapRunning → v.lap.waitStart = false →
    (v.lap.begun = true → v.lapLen ≤ v.lap.next → v.quiet = true → v.lapL ≤ tm.elapsed →
      ∃ u, exec (.lapBoundary t k tm) s = .next u ∧
        ((List.range 16).map (fun i => NMap.get 0 v.tokens i) ≠ v.lap.baseline →
          (u.slot t k).state = .lapFault ∧ (u.slot t k).fault = .tokenImbalance ∧ (u.slot t k).lap.begun = true ∧
          (u.slot t k).lap.index = n) ∧
        ((List.range 16).map (fun i => NMap.get 0 v.tokens i) = v.lap.baseline → v.lap.runsLeft = some 1 →
          (u.slot t k).state = .scalar ∧ (u.slot t k).lap.index = (n + 1) % 2 ^ 32)) ∧
    (tm.elapsed = v.lapL →
    (v.lap.begun = false → exec (.lapBoundary t k tm) s = .next (s.withSlot t k { v with
      lap := { v.lap with bubbles := v.lap.bubbles - 1, begun := decide (v.lap.bubbles - 1 = 0), next := 0 } })) ∧
    (v.lap.begun = true → v.lapLen ≤ v.lap.next → v.quiet = true → v.lap.poisonLap = false → v.lap.frameLaps = 0 →
      v.lap.stepLaps = 0 → (List.range 16).map (fun i => NMap.get 0 v.tokens i) ≠ v.lap.baseline →
      exec (.lapBoundary t k tm) s = .next ((z.withSlot t k (Slot.irq { v.irq irqLapBoundary with
        state := .lapFault, fault := .tokenImbalance, faultEngine := 0, faultDesc := 0, faultField := 0, queues := {}
        lap := { v.lap with waitStart := false, stopPend := false, freezePend := false } } irqLapFault)).noticed t true
          ncProgramFault (noticeWord 0 (x.slotEid k) 0 3))) ∧
    (v.lap.begun = true → v.lapLen ≤ v.lap.next → v.quiet = true → v.lap.poisonLap = false → v.lap.frameLaps = 0 →
      v.lap.stepLaps = 0 → bitOf (x.reg (0x1A44 + 8 * k)) 0 = false →
      (List.range 16).map (fun i => NMap.get 0 v.tokens i) = v.lap.baseline →
      let left := v.lap.runsLeft.map (fun r => r - 1)
      let w : Slot := { v.irq irqLapBoundary with
        lap := { v.lap with index := (n + 1) % 2 ^ 32, next := 0, begun := false, runsLeft := left
                            boundaries := v.lap.boundaries + 1 } }
      (left = some 0 ∨ v.lap.stopPend = true → exec (.lapBoundary t k tm) s = .next (z.withSlot t k
        { w with state := .scalar, lap := { w.lap with stopPend := false, freezePend := false } })) ∧
      (left ≠ some 0 → v.lap.stopPend = false → v.lap.freezePend = true →
        exec (.lapBoundary t k tm) s = .next (z.withSlot t k
          (({ w with state := .lapFrozen, lap := { w.lap with freezePend := false } }).irq irqFreeze))) ∧
      (left ≠ some 0 → v.lap.stopPend = false → v.lap.freezePend = false →
        let b := x.bubbleRateAt k ((n + 1) % 2 ^ 32)
        let c := bubblesBefore b ((n + 1) % 2 ^ 32)
        exec (.lapBoundary t k tm) s = .next (z.withSlot t k
          { w with lap := { w.lap with bubbleRate := b, bubbles := c, begun := decide (c = 0) } }))))

/-- The sequencer issues the next descriptor of its program into a queue with room (R50, R52); an engine's descriptor
completes, raising its signal token and ENGINE_EVENT (R49); 1,024 cc of waiting on tokens alone end in LAP_FAULT with
TOKEN_DEADLOCK and a PROGRAM_FAULT notice (R149, R63). -/
def Obligations.IssueCompletionDeadlock : Prop :=
  ∀ (s : State) (t k : Nat), t < 256 → k < 16 → (s.sys.tile t).preload = none → (s.sys.tile t).shed = false →
    let v := s.slot t k
    let d := v.descAt (32 * (v.lapBase + v.lap.next))
    let q := descEngine d
    (v.state = .lapRunning → v.lap.begun = true → v.lap.next < v.lapLen → 0 < v.qfree q →
      exec (.sequencerIssue t k) s = .next (s.withSlot t k { v with
        queues := v.queues.put q (v.queues.get q ++ [{ desc := d, lap := v.lap.index, seq := true, idx := v.lap.next }])
        lap := { v.lap with next := v.lap.next + 1 } })) ∧
    (∀ r tok, v.eng.vector = some r → r.release = [] → descIrq r.q.desc = true → descSignal r.q.desc = some tok →
      NMap.get 0 v.tokens tok < 255 →
      exec (.descriptorCompletion t k 3) s = .next (s.withSlot t k { v.irq irqEngineEvent with
        eng := { v.eng with vector := none }, tokens := NMap.set 0 v.tokens tok (NMap.get 0 v.tokens tok + 1) })) ∧
    (v.state = .lapRunning → (s.sys.tx t).onlyTokens k = true → v.eng = {} → v.sc.halted = true → v.lapLen ≤ v.lap.next →
      exec (.tokenDeadlock t k) s = .next ((s.withSlot t k (Slot.irq { v with
        state := .lapFault, fault := .tokenDeadlock, faultEngine := 0, faultDesc := 0, faultField := 0, queues := {}
        lap := { v.lap with waitStart := false, stopPend := false, freezePend := false } } irqLapFault)).noticed t true
          ncProgramFault (noticeWord 0 ((s.sys.tx t).slotEid k) 0 7)))

/-- Doorbells and direct register accesses (R7, R60, R61, R293): a doorbell message fills the payload words and pends;
reading the high word clears the pending bit, after which a handover that waits for the core takes place (R65); reading an
RC counter answers and clears it; TILE_LAP_LENGTH takes a legal value when no lap runs and keeps its old one where it
refuses; the PCIe bus master bit of a hub reads and is set. -/
def Obligations.DoorbellsAndRegisterAccess : Prop :=
  ∀ (s : State) (t k h val : Nat) (m : TMsg), t < 256 → k < 16 → h < 2 → val < 2 ^ 32 →
    let v := s.slot t k
    let o := 0x2000 + 0x100 * k
    let go (w : Slot) : State := s.withTile t (((s.sys.tx t).setSlot k w).instantHandover k).tile
    (s.mail t = some m → m.type = 8 → m.sub % 16 = k → v.state = .scalar → v.bellUnread = false →
      exec (.doorbell t) s = .next ((s.mailTaken t).withSlot t k
        { ((v.setReg 0x28 (m.payload % 2 ^ 32)).setReg 0x2C (m.payload / 2 ^ 32)).irq irqDoorbell with bellUnread := true })) ∧
    (exec (.doorbellHi t k) s = .next (let u := go { v.setReg 0x24 (v.reg 0x24 - v.reg 0x24 % 2) with bellUnread := false }
      { u with sys := { u.sys with answer := v.reg 0x2C } })) ∧
    (v.reg 0x18 < 2 ^ 32 → exec (.readClear 0 t (o + 0x18)) s = .next (let u := s.withSlot t k (v.setReg 0x18 0)
      { u with sys := { u.sys with answer := v.reg 0x18 } })) ∧
    (v.state = .scalar → v.reg 0x0C < 2 ^ 24 → 64 ≤ val → val < 2 ^ 24 →
      exec (.registerWrite 0 t (o + 0x0C) val) s = .next (go (v.setReg 0x0C val))) ∧
    (val < 64 ∨ v.state = .lapRunning ∨ v.state = .lapFrozen →
      exec (.registerWrite 0 t (o + 0x0C) val) s = .next (s.withTile t (s.sys.tile t))) ∧
    (exec (.readClear 3 h 1) s = .next { s with sys := { s.sys with answer := bitNat (s.sys.hub h).busMaster } }) ∧
    (exec (.registerWrite 3 h 1 1) s = .next { s with sys := s.sys.setHub h { s.sys.hub h with busMaster := true } })


/-- One term added to an accumulator entry whose window takes it exactly: the value rises by the term, the count by one,
and nothing else of the entry changes; past 65,535 terms the entry is marked and its count stays (R79–R83). -/
def Obligations.AccumulatorAddsExactly : Prop :=
  ∀ (e : AccEntry) (t lsb : Int), e.w ≤ lsb → (t * 2 ^ (lsb - e.w).toNat).natAbs ≤ 2 ^ 47 - 1 →
    (e.count < 65535 → AccEntry.addTerm e t lsb false false =
      ({ e with value := e.value + t * 2 ^ (lsb - e.w).toNat, count := e.count + 1 }, 0)) ∧
    (e.count = 65535 → (AccEntry.addTerm e t lsb false false).1.invalid = true ∧
      (AccEntry.addTerm e t lsb false false).1.count = 65535 ∧ (AccEntry.addTerm e t lsb false false).2 = nsCountLimit)

/-- What the matrix engine does with the descriptor at the head of its queue once its tokens are met (R49, R103, R107,
R109, R112–R116): an MM without vectors and an MM of one vector, both beside the MMs that have begun their last macro
op, ACC_CLEAR, ACC_OUT and MACRO_LOAD. -/
def Obligations.MatrixDescriptorsRun : Prop :=
  ∀ (s : State) (t k n : Nat) (e : QEntry), t < 256 → k < 16 →
    let v := s.slot t k
    let x := s.sys.tx t
    let d := e.desc
    let w := v.popHead 0 e
    let begun : Engines := { v.eng with mmTail := v.eng.mms, mm := some { q := e, ranges := mmRanges v d } }
    (v.readyHead 0 1 = some e → x.mmMayStart k d = true → mmNv d = 0 ∨ mmMask d = 0 →
      exec (.mm t k n) s = .next (s.withSlot t k { w with eng := begun })) ∧
    (v.readyHead 0 1 = some e → x.mmMayStart k d = true → mmNv d = 1 → mmMask d ≠ 0 →
      mmStream d = false → x.mmCheck k e = none →
      let y := x.setSlot k { w with eng := begun }
      let segs := (y.mmSegments k e 0).1
      (y.mmSegments k e 0).2 = y →
      let a := (setBits (mmMask d) 16).foldl (fun (a : NMap AccEntry × Nat) m =>
        match segs.find? (fun p => p.1 = (v.macroAt m).seg) with
        | some p => ((macroOp d (v.macroAt m) p.2 0 a.1).1, a.2 ||| (macroOp d (v.macroAt m) p.2 0 a.1).2)
        | none => a) (v.acc, 0)
      let u := Slot.numeric { w with acc := a.1 } a.2
      exec (.mm t k n) s = .next (s.withSlot t k
        { u with eng := { begun with mm := some { q := e, done := 1, total := 1, ranges := mmRanges v d } } })) ∧
    (v.readyHead 0 2 = some e → v.accMayStart d = true →
      exec (.accClear t k) s = .next (s.withSlot t k { w with
        acc := clearEntries v.acc (accFirst d) (accCount d) (accW d), eng := { v.eng with acc := some { q := e } } }) ∧
      ∀ i, NMap.get {} (clearEntries v.acc (accFirst d) (accCount d) (accW d)) i =
        if accFirst d ≤ i ∧ i < accFirst d + accCount d then { w := accW d } else NMap.get {} v.acc i) ∧
    (v.readyHead 0 3 = some e → v.accMayStart d = true →
      let r := accOutRows d ((List.range (accCount d)).map (fun i => NMap.get {} v.acc (accFirst d + i)))
      let p := x.effRow (descField d 16 4) (inc24 (descField d 24 4)) e.lap
      let q := x.effRow (descField d 20 4) (inc24 (descField d 24 4)) e.lap
      (r.1 ≠ [] → x.tile.engineMayWrite k p.1 p.2 false = true ∧
        x.tile.engineMayWrite k p.1 (p.2 + r.1.length - 1) false = true) →
      (r.2.1 ≠ [] → x.tile.engineMayWrite k q.1 q.2 false = true ∧
        x.tile.engineMayWrite k q.1 (q.2 + r.2.1.length - 1) false = true) →
      let acc := if accClearAfter d then clearEntries v.acc (accFirst d) (accCount d) (accW d) else v.acc
      let pois := r.1.any (fun c => c.2) || r.2.1.any (fun c => c.2)
      let u := Slot.numeric { w with acc := acc, eng := { v.eng with acc := some { q := e } } }
        (r.2.2 ||| (if pois then nsPoisonOut else 0))
      exec (.accOut t k) s = .next (s.tileDid t
        (((x.setSlot k u).writeRows p.1 k (numberRows p.2 r.1)).writeRows q.1 k (numberRows q.2 r.2.1)))) ∧
    (v.readyHead 0 4 = some e → v.eng.load = none → v.eng.mm = none → (s.sys.tile t).audit.reloads = [] →
      let m := bitsOf (descField d 4 1) 3 0
      let f := bitsOf (descField d 5 1) 3 0
      let c := descField d 12 2
      let p := x.effRow (descField d 8 4) (inc24 (descField d 24 4)) e.lap
      let q := x.effRow (descField d 16 4) (inc24 (descField d 24 4)) e.lap
      x.tile.engineMayRead k p.1 p.2 = true → x.tile.engineMayRead k p.1 (p.2 + imageRows f c - 1) = true →
      (fmtIsMx f = true → x.tile.engineMayRead k q.1 q.2 = true) →
      let g := x.readImage k f c p.1 p.2 q.1 q.2
      g.2.2.2 = x →
      exec (.macroLoad t k) s = .next (s.withSlot t k
        (Slot.setMacro { w with eng := { w.eng with load := some { q := e } } } m
          { cells := g.1, scales := g.2.1, fmt := f, seg := bitsOf (descField d 6 1) 3 0
            accBase := bitsOf (descField d 14 2) 11 0, ncol := 0, fixedExp := signedOf 8 (descField d 7 1)
            loading := true, poisoned := g.2.2.1, streamed := true
            srcRegion := p.1, srcRow := p.2, scaleRegion := q.1, scaleRow := q.2 })))

/-- A vector descriptor at the head of its queue with its tokens met, an idle engine, operands that are not streamed and
read clean, and no start-time fault: each operation takes its entry, computes its own function of the rows read and writes
its rows (R124–R142). -/
def Obligations.VectorOperationsRun : Prop :=
  ∀ (s : State) (t k n : Nat) (e : QEntry), t < 256 → k < 16 →
    let v := s.slot t k
    let x := s.sys.tx t
    let d := e.desc
    let i := (x.vectorInputs k e).1
    v.eng.vector = none → vNb d ≠ 0 → vStream d = false → x.vecCheck k e = none → (x.vectorInputs k e).2 = x →
    (v.readyHead 1 1 = some e → exec (.convert t k n) s = .next (s.tileDid t (x.vectorStarted k e (vecConvert d i)))) ∧
    (v.readyHead 1 2 = some e → exec (.binary t k n) s = .next (s.tileDid t (x.vectorStarted k e (vecBinary d i)))) ∧
    (v.readyHead 1 3 = some e → exec (.unary t k n) s = .next (s.tileDid t (x.vectorStarted k e (vecUnary d i)))) ∧
    (v.readyHead 1 4 = some e → exec (.reduce t k n) s = .next (s.tileDid t (x.vectorStarted k e (vecReduce d i)))) ∧
    (v.readyHead 1 5 = some e →
      exec (.softmaxStats t k n) s = .next (s.tileDid t (x.vectorStarted k e (vecSoftmaxStats d i)))) ∧
    (v.readyHead 1 6 = some e →
      exec (.softmaxApply t k n) s = .next (s.tileDid t (x.vectorStarted k e (vecSoftmaxApply d i)))) ∧
    (v.readyHead 1 7 = some e → exec (.normStats t k n) s = .next (s.tileDid t (x.vectorStarted k e (vecNormStats d i)))) ∧
    (v.readyHead 1 8 = some e → exec (.normApply t k n) s = .next (s.tileDid t (x.vectorStarted k e (vecNormApply d i)))) ∧
    (v.readyHead 1 9 = some e → exec (.pool t k n) s = .next (s.tileDid t (x.vectorStarted k e (vecPool d i)))) ∧
    (v.readyHead 1 10 = some e → exec (.transpose t k n) s = .next (s.tileDid t (x.vectorStarted k e (vecTranspose d i)))) ∧
    (v.readyHead 1 11 = some e → exec (.gather t k n) s = .next (s.tileDid t (x.vectorStarted k e (vecGather d i)))) ∧
    (v.readyHead 1 12 = some e → exec (.scatter t k n) s = .next (s.tileDid t (x.vectorStarted k e (vecScatter d i))))

/-- What an output row does to the store: the row reads as written, clean or with every word poisoned; every other row and
its check bits are as before (R162, R177, R179). -/
def Obligations.RowWriteAndFrame : Prop :=
  ∀ (x : TX) (row data entrant : Nat) (p : Bool), entrant ≠ 19 →
    let y := x.putRow row data p entrant
    y.tile.store.rowData row = data % 2 ^ 4096 ∧
    y.tile.store.badWords row = (if p then (List.range 64).map (fun w => (w, 255)) else []) ∧
    (∀ r, r ≠ row → y.tile.store.rowData r = x.tile.store.rowData r ∧
      y.tile.store.badWords r = x.tile.store.badWords r) ∧
    y.tile.store.regions = x.tile.store.regions ∧ y.tile.slots = x.tile.slots ∧ y.out = x.out


/-- What the store engine does with the descriptor at the head of its queue, its tokens met, the engine idle, a source
that is not streamed and reads clean, and no start-time fault (R143, R144, R262, R274, R311): COPY writes its rows;
SEND, MCAST and REDUCE_SEND hand their packets and frames to the network and keep a tracker entry. -/
def Obligations.StoreDescriptorsRun : Prop :=
  ∀ (s : State) (t k w : Nat) (e : QEntry) (r : Region), t < 256 → k < 16 →
    let v := s.slot t k
    let x := s.sys.tx t
    let d := e.desc
    let y := x.setSlot k { v.popHead 2 e with eng := { v.eng with store := some { q := e } } }
    let q := x.effRow (sSrc d) (if sIncSrc d then sInc d else 0) e.lap
    let rows := (List.range (sRows d)).map (fun j => (x.tile.store.rowData (r.storeRow (q.2 + j)), false))
    let g := NMap.get 0 x.rep.mcast (sTarget d)
    let tag := sTagEff e
    let o := sDstEff e
    v.eng.store = none → sRows d ≠ 0 → sStream d = false → x.storeSourceOk k e = true →
    x.tile.store.region q.1 = some r → (∀ j, j < sRows d → x.tile.store.badWords (r.storeRow (q.2 + j)) = []) →
    (v.readyHead 2 1 = some e →
      let p := x.effRow (sDst d) (if sIncDst d then sInc d else 0) e.lap
      x.tile.runWritable k p.1 p.2 (sRows d) true = true → overlap p.1 p.2 (sRows d) q.1 q.2 (sRows d) = false →
      exec (.copy t ⟨k, w⟩) s = .next (s.tileDid t (y.writeRows p.1 k (numberRows p.2 rows)))) ∧
    (∀ l, v.readyHead 2 2 = some e →
      trackSend v.tracker false (sTarget d) (sWindow d) tag o (o + sRows d - 1) 1 x.now = some l →
      let ps := sendPackets d (x.slotEid k) 1 tag o rows
      ps.all (fun p => x.injectable p) = true →
      exec (.send t ⟨k, w⟩) s = .next (s.tileDid t { y.modSlot k (fun v => { v with tracker := l }) with
        out := ps.map (fun p => .packet { p with epoch := x.rep.cur }) })) ∧
    (∀ l, v.readyHead 2 3 = some e → mgValid g = true → mgStream g = false →
      trackSend v.tracker true (sTarget d) (sWindow d) tag o (o + sRows d - 1) (NMap.get 0 x.rep.members (sTarget d)) x.now =
        some l →
      let a := mgAxis g
      let pos := if a = 0 then t % 16 else t / 16
      let num := if a = 0 then t / 16 else t % 16
      exec (.mcast t ⟨k, w⟩) s = .next (s.tileDid t { y.modSlot k (fun v => { v with tracker := l }) with
        out := (sendPackets d (x.slotEid k) 5 tag o rows).map (fun p => .frame a
          { pkt := { p with dst := 0, relay := mgRelay g, epoch := x.rep.cur, group := mgMask g + a * 2 ^ 18 + num * 2 ^ 19 }
            sender := pos, origin := pos, rset := mgRset g, stream := false }) })) ∧
    (∀ n, v.readyHead 2 4 = some e → rgroupFor x.rep k (sTarget d) = some n →
      let root := NMap.get (0xFFFF, 0, 0) x.rep.rgRoot n
      let ps : List Packet := rows.mapIdx (fun i r =>
        { dst := root.1, src := x.slotEid k, type := 4, vc := 3, long := true, baton := true, poison := r.2
          tag := (o + i) % 65536, window := root.2.1, gen := root.2.2, offset := 0, total := 512
          group := sTarget d + 2 ^ 16 * ((o + i) % 65536), payload := r.1 })
      ps.all (fun p => x.injectable p) = true →
      exec (.reduceSend t ⟨k, w⟩) s = .next (s.tileDid t { y with
        out := ps.map (fun p => .packet { p with epoch := x.rep.cur }) }))

/-- The pacer's descriptors (R145, R146, R200, R203): STREAM_SET and STREAM_LOOP configure a stream that is idle,
STREAM_GO starts it, STREAM_STOP stops it from fetching. -/
def Obligations.StreamDescriptorsRun : Prop :=
  ∀ (s : State) (t k : Nat) (e : QEntry), t < 256 → k < 16 →
    let v := s.slot t k
    let x := s.sys.tx t
    let i := pStream e.desc
    let z := v.stream i
    let w : Slot := { v.popHead 3 e with eng := { v.eng with pacer := some { q := e } } }
    v.eng.pacer = none →
    (v.readyHead 3 1 = some e → z.busy = false →
      exec (.streamSet t k) s = .next (s.withSlot t k (w.setStream i { z with setDesc := some e.desc }))) ∧
    (v.readyHead 3 2 = some e → z.busy = false →
      exec (.streamLoop t k) s = .next (s.withSlot t k (w.setStream i { z with loopDesc := some e.desc }))) ∧
    (∀ c r, v.readyHead 3 3 = some e → x.streamGoOk k i = true → z.setDesc = some c → pKind c ≠ 2 → x.isLanding c = false →
      x.tile.store.region (x.ringOf c).1 = some r →
      exec (.streamGo t k) s = .next (s.withSlot t k (w.setStream i { z with
        state := .running, landing := false, ringRow := r.storeRow (x.ringOf c).2, head := 0, fill := 0, full := 0
        landed := [], fetchLap := 0, nextRow := 0, flight := [] }))) ∧
    (v.readyHead 3 4 = some e → z.busy = true →
      exec (.streamStop t k) s = .next (s.withSlot t k (w.setStream i { z with state := .stopping })))

/-- A row of a LOCAL stream (R201–R203): its fetch goes out while the lap window, the fill slot and the sixteen fetches
allow it; it lands in its staging slot, which is FULL with its last row (R198). -/
def Obligations.StreamRowsFetchedAndLanded : Prop :=
  ∀ (s : State) (t k i f : Nat) (c l : Desc), t < 256 → k < 16 → i < 8 → f < 16 →
    let v := s.slot t k
    let x := s.sys.tx t
    let z := v.stream i
    z.setDesc = some c → z.loopDesc = some l → pKind c = 0 → z.state = .running →
    (∀ r, z.landing = false → bitOf z.full z.fill = false → z.nextRow % pSlotRows c ≠ 0 → v.fetchRoom 0 i = true →
      z.fetchLap ≤ v.lap.index + pLook c → v.reg 0x10 = 0xFFFFFFFF →
      let p := x.effRow (pSrc c) (pSrcInc c) z.fetchLap
      let o := (p.2 : Int) + loopOffset l z.nextRow
      x.tile.store.region p.1 = some r → 0 ≤ o → o < r.size → bitOf r.owner k = true →
      let last := decide (z.nextRow + 1 = pLapRows l)
      let slotEnd := decide (z.nextRow % pSlotRows c + 1 = pSlotRows c)
      exec (.streamFetchLap t k i ⟨1, []⟩) s = .next (s.withSlot t k (v.setStream i { z with
        nextRow := if last then 0 else z.nextRow + 1
        fetchLap := if last then (z.fetchLap + 1) % 2 ^ 32 else z.fetchLap
        fill := if slotEnd then (z.fill + 1) % pSlots c else z.fill
        flight := z.flight ++ [{ slot := z.fill, row := z.nextRow % pSlotRows c, lap := z.fetchLap
                                 tag := r.storeRow o.toNat }] }))) ∧
    (∀ g r, z.flight[f]? = some g → x.tile.store.badWords g.tag = [] →
      x.tile.store.region (x.ringOf c).1 = some r → r.mirror = false →
      let n := NMap.get 0 z.landed g.slot + 1
      let z' : Stream := if pSlotRows c ≤ n
        then { z with flight := listDrop z.flight f, landed := NMap.erase z.landed g.slot, full := z.full ||| 2 ^ g.slot }
        else { z with flight := listDrop z.flight f, landed := NMap.put z.landed g.slot n }
      exec (.pacerRowLand t k i f 0) s = .next (s.tileDid t
        ((x.putRow (z.slotRow g.slot g.row) (x.tile.store.rowData g.tag) false k).setSlot k (v.setStream i z'))))


/-- Leapfrog and takeover (R64–R68, R567): a due rotation preloads the hottest eligible slot; a finished preload hands
over at once to a resting slot and waits for the boundary of a running one; 64 boundaries abandon it; a failing core is
shed and its slot is taken over where a core rests, to enter HALTED when the load is done, and shed where none does.
Reads of the sources come back clean. -/
def Obligations.LeapfrogAndTakeover : Prop :=
  ∀ (s : State) (t k : Nat), t < 256 → k < 16 →
    let v := s.slot t k
    let x := s.sys.tx t
    let p := s.sys.tile t
    let elig (j : Nat) : Prop := bitOf (x.source j) 15 = false ∧
      ((s.slot t j).state = .lapRunning ∨ (s.slot t j).state = .scalar ∨ (s.slot t j).state = .halted)
    (∀ est : List Nat, bitOf (x.reg 0x114) 16 = true → p.restValid = true → p.preload = none → p.leapStopped = false →
      s.sys.cool.hold = none →
      (if x.reg 0x114 % 2 ^ 16 = 0 then p.leapDue = true
       else p.leapSince + 1000000 * (x.reg 0x114 % 2 ^ 16) ≤ s.sys.mirror t) → elig k →
      (∀ j, j < 16 → elig j → est.getD j 0 < est.getD k 0 ∨ (est.getD j 0 = est.getD k 0 ∧ k ≤ j)) →
      exec (.leapfrogPeriod t est) s = .next (s.withTile t
        { p with leapSince := s.sys.mirror t, leapDue := false, restState := .preload, preload := some { slot := k } })) ∧
    (∀ (l : Preload) (m : NMap Macro) (flips : List (Nat × List (List (Nat × Nat)))),
      p.preload = some l → l.slot = k → l.takeover = false → l.done = false →
      (x.codeImage k).2.2 = x → x.preloadMacros k p.rest (mapOf flips) = (some m, x) →
      let w : Slot := { v with lap := { v.lap with boundaries := 0 } }
      let im := (x.codeImage k).1
      (v.state = .lapRunning → v.lap.begun = true → exec (.preloadComplete t flips) s = .next (s.withTile t
        { (x.setSlot k w).tile with preload := some { l with done := true, iram := im, macros := m } })) ∧
      (v.state = .halted → v.quiet = true → v.sc.halted = true → exec (.preloadComplete t flips) s = .next (s.withTile t
        { (x.setSlot k { w with iram := im, fetchView := im, macros := m }).tile with
          slotMap := NMap.put p.slotMap k p.rest, rest := p.physOf k, restState := .retention, preload := none
          leapSince := s.sys.mirror t, leapDone := satAdd 16 p.leapDone 1 }))) ∧
    (∀ l : Preload, p.preload = some l → l.slot = k → l.takeover = false → l.done = true → 64 ≤ v.lap.boundaries →
      exec (.leapfrogAbandon t) s = .next (s.withTile t { p with
        preload := none, restState := .retention, leapSkipped := satAdd 16 p.leapSkipped 1
        leapSince := s.sys.mirror t })) ∧
    (∀ (c : Nat) (cause : FaultCause), c < 17 → bitOf p.shedMask c = false → p.physOf k = c →
      (∀ j, j < k → p.physOf j ≠ c) → v.state ≠ .off → v.state ≠ .retention →
      let w : Slot := { v with fault := cause, faultEngine := 0, faultDesc := 0, faultField := 0, queues := {}, eng := {}
                               streams := v.endStreams, macros := v.macros.map (fun m => (m.1, m.2.stopLoad)) }
      (p.restValid = true → x.takingOver = false → exec (.coreUnitFault t c cause) s = .next ((s.withTile t
        { (x.setSlot k { w with state := .preload }).tile with
          shedMask := p.shedMask ||| 2 ^ c, slotMap := NMap.put p.slotMap k p.rest, rest := 31, restState := .off
          preload := some { slot := k, takeover := true } }).noticed t true 0x01 (noticeWord 2 t c cause.code))) ∧
      (p.restValid = false → p.preload = none → exec (.coreUnitFault t c cause) s = .next ((s.withTile t
        { (x.setSlot k { w with state := .shed }).tile with
          shedMask := p.shedMask ||| 2 ^ c }).noticed t true 0x01 (noticeWord 2 t c cause.code)))) ∧
    (∀ (l : Preload) (m : NMap Macro) (flips : List (Nat × List (List (Nat × Nat)))),
      p.preload = some l → l.slot = k → l.takeover = true → v.heldInc = [] → v.bell = none →
      (x.codeImage k).2.2 = x → x.preloadMacros k (p.physOf k) (mapOf flips) = (some m, x) →
      exec (.takeoverReady t flips) s = .next ((s.withTile t
        { (x.setSlot k { v with
            state := .halted, sc := {}, iram := (x.codeImage k).1, fetchView := (x.codeImage k).1
            dram := (x.codeImage k).2.1, macros := m, acc := [], tokens := [], queues := {}, eng := {}, narrow := []
            streams := v.endStreams, regs := NMap.put v.regs 0x38 0
            lap := { v.lap with next := 0, begun := false, waitStart := false, stopPend := false, freezePend := false
                                poisonLap := false, bubbles := 0 } }).tile with
          restValid := false, leapStopped := true, preload := none }).noticed t false 0x1F
            (noticeWord 2 t (p.physOf k) 0)))

/-- The weight audit (R119–R121, R123): a sweep starts when a commit asks or its period has passed; a macro whose CRC
holds is passed over; one whose CRC does not is poisoned, reported and queued for a reload; a reload that matches
replaces it. -/
def Obligations.WeightAudit : Prop :=
  ∀ (s : State) (t : Nat), t < 256 →
    let x := s.sys.tx t
    let p := s.sys.tile t
    let a := p.audit
    (a.active = false → a.commitAsked = true → exec (.auditSweep t) s = .next (s.withTile t { p with audit := { a with
      active := true, commit := true, commitAsked := false, commitFailed := false, slot := 0, macro_ := 0
      started := s.sys.mirror t } })) ∧
    (a.active = false → a.commitAsked = false → bitOf (x.reg 0x160) 16 = true →
      a.started + 1000 * (x.reg 0x160 % 2 ^ 16) ≤ s.sys.mirror t →
      exec (.auditSweep t) s = .next (s.withTile t { p with audit := { a with
        active := true, commit := false, slot := 0, macro_ := 0, started := s.sys.mirror t } })) ∧
    (∀ k m, k < 16 → m < 16 → a.active = true → 16 * a.slot + a.macro_ ≤ 16 * k + m →
      (∀ j, 16 * a.slot + a.macro_ ≤ j → j < 16 * k + m →
        let z := (s.slot t (j / 16)).macroAt (j % 16)
        (z.loaded && !z.loading) = false) →
      let c := (s.slot t k).macroAt m
      c.loaded = true → c.loading = false →
      (macroCrc c.cells c.fmt c.scales = c.crc → ∃ u, exec (.macroAudit t []) s = .next u ∧
        (u.slot t k).macroAt m = c ∧ 16 * (u.sys.tile t).audit.slot + (u.sys.tile t).audit.macro_ = 16 * k + m + 1 ∧
        (u.sys.tile t).audit.mismatches = a.mismatches ∧ (u.sys.tile t).audit.reloads = a.reloads) ∧
      (macroCrc c.cells c.fmt c.scales ≠ c.crc → ∃ u, exec (.macroAudit t []) s = .next u ∧
        (u.slot t k).macroAt m = { c with poisoned := true } ∧ (u.sys.tile t).audit.reloads.contains (k, m) = true ∧
        (u.sys.tile t).audit.mismatches = satAdd 16 a.mismatches 1)) ∧
    (∀ k m rest, k < 16 → a.reloads = (k, m) :: rest → ((s.slot t k).macroAt m).loaded = true →
      (s.slot t k).eng.load = none →
      let y : TX := { x with tile := { p with audit := { a with reloads := rest } } }
      let r := y.reloadMacro k k ((s.slot t k).macroAt m) []
      r.2 = y → r.1.mismatch = false →
      exec (.auditReload t []) s = .next
        (s.withTile t (y.setSlot k ((s.slot t k).setMacro m { r.1.mac with poisoned := false })).tile))

/-- What the store does by itself (R157, R160, R161, R168, R175, R183, R187, R190–R192, R194): a write-back stores the
corrected row, a latch goes into its parity row, a fill writes its pattern, a release ends, a scrub pass starts and reads
on, a row moves to a spare row or becomes a hole and enters the field row map, a watch entry expires, an injection is
armed. -/
def Obligations.StoreMaintenance : Prop :=
  ∀ (s : State) (t : Nat), t < 256 →
    let x := s.sys.tx t
    let p := s.sys.tile t
    let st := p.store
    (∀ bank w rest, bank < 64 → NMap.get [] st.wb bank = w :: rest → w.poison = [] → w.fix = [] →
      st.latchOrRemap bank = false → (∀ b, b ∈ st.badWords w.row → synClass b.2 ≠ .poison ∧ synClass b.2 ≠ .uncorrectable) →
      ∃ u, exec (.correctionWriteBack t bank) s = .next u ∧
        (u.sys.tile t).store.rowData w.row = correctRow (st.rowData w.row) (st.badWords w.row) % 2 ^ 4096 ∧
        (u.sys.tile t).store.badWords w.row = [] ∧
        (∀ r, r ≠ w.row → (u.sys.tile t).store.rowData r = st.rowData r ∧
          (u.sys.tile t).store.badWords r = st.badWords r) ∧
        (u.sys.tile t).store.wb = NMap.set [] st.wb bank rest) ∧
    (∀ bank l, bank < 64 → NMap.find st.latches bank = some l → st.badWords l.row = [] →
      ∃ u, exec (.parityLatchCommit t bank) s = .next u ∧
        (u.sys.tile t).store.rowData l.row = (st.rowData l.row ^^^ l.delta) % 2 ^ 4096 ∧
        (u.sys.tile t).store.badWords l.row = [] ∧
        (∀ r, r ≠ l.row → (u.sys.tile t).store.rowData r = st.rowData r ∧
          (u.sys.tile t).store.badWords r = st.badWords r) ∧
        (u.sys.tile t).store.latches = NMap.erase st.latches bank) ∧
    (∀ f rest r, st.fills = f :: rest → f.region < 64 → st.region f.region = some r → r.cls ≠ 1 → r.mirror = false →
      f.setInit = false → (f.first = 0 → f.count ≠ r.size) → s.sys.lead.waits = [] →
      let pat := (List.range 64).foldl (fun a i => a + f.pattern * 2 ^ (64 * i)) 0
      ∃ u, exec (.storeFillDone t) s = .next u ∧ (u.sys.tile t).store.fills = rest ∧
        (∀ i, i < f.count → (u.sys.tile t).store.rowData (r.base + f.first + i) = pat % 2 ^ 4096 ∧
          (u.sys.tile t).store.badWords (r.base + f.first + i) = []) ∧
        (∀ n, n < r.base + f.first ∨ r.base + f.first + f.count ≤ n →
          (u.sys.tile t).store.rowData n = st.rowData n ∧ (u.sys.tile t).store.badWords n = st.badWords n) ∧
        (u.sys.tile t).store.regions = st.regions) ∧
    (∀ n, n < 64 → (NMap.get {} st.regions n).valid = true → (NMap.get {} st.regions n).releasing = true →
      NMap.find p.mirrorAt n = none → s.sys.lead.waits = [] → st.holes = [] → st.fills.any (fun f => f.region = n) = false →
      exec (.regionReleaseDone t n) s = .next (s.withTile t { p with store := { st with
        regions := NMap.put st.regions n
          { NMap.get {} st.regions n with valid := false, init := false, mirror := false, releasing := false } } })) ∧
    (bitOf (x.reg 0x254) 16 = true → st.scrub.active = false →
      st.scrub.passStart + 1000000 * (x.reg 0x254 % 2 ^ 16) ≤ s.sys.mirror t →
      exec (.scrubPassStart t) s = .next (s.withTile t { p with store := { st with scrub := { st.scrub with
        active := true, pos := 0, passStart := s.sys.mirror t, spans := st.initSpans } } })) ∧
    (∀ row n r, st.scrub.active = true → st.nextInit st.scrub.pos = some row → st.regionOf row = some (n, r) → r.cls ≠ 1 →
      st.badWords row = [] → bitOf (x.reg 0x254) 16 = true → st.nextInit (row + 1) ≠ none →
      exec (.scrubRead t []) s = .next (s.withTile t { p with store := { st with scrub := { st.scrub with
        pos := row + 1, last := row } } })) ∧
    (∀ q rest, st.remapQ = q :: rest → st.recon.contains q.row = false → NMap.find st.latches (q.row % 64) = none →
      st.holes.length < 256 →
      (∀ i, st.nextSpare (q.row % 64) = some i →
        ∃ u, exec (.liveRemap t) s = .next u ∧
          (u.sys.tile t).store.remapQ.any (fun r => r.row = q.row) = false ∧
          NMap.get 0 (u.sys.tile t).store.sparesUsed (q.row % 64) = NMap.get 0 st.sparesUsed (q.row % 64) ||| 2 ^ i ∧
          NMap.find (u.sys.tile t).store.remapped q.row = some i ∧
          (u.sys.tile t).store.fieldMapTodo = st.fieldMapTodo ++ [q.row] ∧
          (u.sys.tile t).store.holes = st.holes) ∧
      (st.nextSpare (q.row % 64) = none → st.holes.any (fun h => h.row = q.row) = false →
        ∃ u, exec (.liveRemap t) s = .next u ∧ (u.sys.tile t).store.remapQ = rest ∧
          (u.sys.tile t).store.holes.any (fun h => decide (h.row = q.row) && h.pending == (st.regionOf q.row).isSome) = true ∧
          (u.sys.tile t).store.data = st.data ∧ (u.sys.tile t).store.dev = st.dev)) ∧
    (∀ row rest, st.fieldMapTodo = row :: rest → ∃ u, exec (.fieldRowMapUpdate t) s = .next u ∧
      (u.sys.tile t).store.fieldMapTodo = rest ∧
      (∀ h, h < 2 → (s.sys.hub h).live = true → (u.sys.flash h).rowMap = (s.sys.flash h).rowMap ++
        [(t, row % 64, row / 64,
          if st.holes.any (fun h => h.row = row) then 0xFE else (NMap.find st.remapped row).getD 0xFE)])) ∧
    (∀ bank, bank < 64 → exec (.watchEntryExpiry t bank) s = .next (s.withTile t { p with store := { st with
      watch := NMap.set [] st.watch bank ((NMap.get [] st.watch bank).filter
        (fun e => decide (s.sys.mirror t < e.first + 86400000000000))) } })) ∧
    (∀ v, v < 2 ^ 32 → x.reg 0x260 < 2 ^ 14 →
      exec (.tileProtInjectArm t v) s = .next (s.withTile t (x.setReg 0x260 (v % 2 ^ 14 + 2 ^ 16)).tile))

/-- A word of a WEIGHT row that reads uncorrectable, alone in its row, with the other eight rows of its group clean, is
rebuilt as the XOR of the same word in those rows: the write-back of the rebuilt word is queued in the row's bank, and the
row asks for a live remap (R185, R190). -/
def Obligations.ReconstructionRebuilds : Prop :=
  ∀ (s : State) (t row w syn n : Nat) (r : Region) (rest : List Nat), t < 256 → w < 64 →
    let st := (s.sys.tile t).store
    st.recon = row :: rest → st.regionOf row = some (n, r) → r.cls = 1 → r.init = true → synClass syn = .uncorrectable →
    st.badWords row = [(w, syn)] → (∀ o, o ∈ r.groupRows row → o ≠ row → st.badWords o = []) → st.latches = [] →
    NMap.get [] st.wb (row % 64) = [] → st.remapQ = [] →
    let v := ((r.groupRows row).filter (fun o => o ≠ row)).foldl
      (fun a o => a ^^^ bitsOf (st.rowData o) (64 * w + 63) (64 * w)) 0
    ∃ u, exec (.reconstruction t) s = .next u ∧ (u.sys.tile t).store.recon = rest ∧
      NMap.get [] (u.sys.tile t).store.wb (row % 64) = [{ row := row, fix := [(w, v)] }] ∧
      (u.sys.tile t).store.remapQ = [{ row := row, word := w, syn := syn }] ∧
      (u.sys.tile t).store.data = st.data ∧ (u.sys.tile t).store.dev = st.dev


/-- The mesh router (R227, R229, R232–R234, R239, R240): a good packet in order enters its channel with one more hop, a
bad one is discarded and replay asked for; a lone VC0 head is granted, sent and kept for replay; a head waits; a control
word reports ON bits and acknowledges; a failing link leaves both ports DEAD with nothing assigned to them. -/
def Obligations.RouterSteps : Prop :=
  ∀ (s : State) (n p : Nat), n < 258 → p < localPort n →
    let r := s.sys.router n
    let q := r.port p
    (∀ l rest e, r.alive = true → q.link = 3 → q.wire = l :: rest → l.seq = q.recvSeq →
      let q' : MeshPort := { q with wire := rest, recvSeq := (q.recvSeq + 1) % 256, failing := false }
      let pkt : Packet := { l.pkt with hops := l.pkt.hops + 1 }
      (q.chan l.chan).length < 16 → l.pkt.legal = true → l.pkt.hops < 255 → l.pkt.type ≠ 4 → s.sys.routeOf n pkt = some e →
      (pkt.adaptive = true → minPorts n e ≠ [] → exec (.routerReceive n p false) s = .next (s.withRouter n
        (r.setPort p (q'.setChan pkt.vc (q'.chan pkt.vc ++ [{ pkt := pkt, out := none }]))))) ∧
      (∀ o, pkt.adaptive = false → safePort n e pkt.down = some o → o ≠ p → (r.port o).dead = false →
        let c := if pkt.escape then 4 else pkt.vc
        exec (.routerReceive n p false) s = .next (s.withRouter n
          (r.setPort p (q'.setChan c (q'.chan c ++ [{ pkt := pkt, out := some o }])))))) ∧
    (∀ l rest, r.alive = true → q.link = 3 → q.wire = l :: rest → l.seq = q.recvSeq →
      ∃ u, exec (.routerReceive n p true) s = .next u ∧
        u.sys.router n = r.setPort p { q with wire := rest, failing := true }) ∧
    (∀ i h m mp e, i ≤ localPort n → r.alive = true → q.dead = false → q.link = 3 → bitOf q.onBits 0 = true →
      q.replay.length < 32 → q.vc0Recent = [] → (r.port i).chan 0 = [h] → h.out = some p → h.pkt.type ≠ 4 →
      h.pkt.vc = 0 → h.pkt.escape = false → (∀ j c, (j, c) ≠ (i, 0) → (r.port j).chan c = []) →
      neighbour n p = some (m, mp) → s.sys.routeOf n h.pkt = some e →
      let pkt : Packet := { h.pkt with escape := false, down := h.pkt.down || upIsDown n e }
      let l : LinkPkt := { seq := q.sendSeq, chan := 0, pkt := pkt.sealed }
      ∃ u, exec (.routerForward n p {}) s = .next u ∧ ((u.sys.router n).port i).chan 0 = [] ∧
        ((u.sys.router n).port p).replay = q.replay ++ [l] ∧
        ((u.sys.router n).port p).sendSeq = (q.sendSeq + 1) % 256 ∧
        ((u.sys.router m).port mp).wire = ((s.sys.router m).port mp).wire ++ [l]) ∧
    (∀ c nc h rest, c = 1 ∨ c = 2 → nc < 2 ^ 32 → q.chan c = h :: rest → h.pkt.adaptive = true →
      exec (.escapeEntry n p c nc) s = .next (s.withRouter n
        (r.setPort p (q.setChan c ({ h with wait := h.wait + nc } :: rest))))) ∧
    (∀ m mp, neighbour n p = some (m, mp) → q.link = 3 → r.alive = true →
      let f := (s.sys.router m).port mp
      f.failing = false → exec (.controlWord n p true false) s = .next (s.withRouter n (r.setPort p { q with
        onBits := f.onWord, replay := q.replay.dropWhile (fun l => l.seq ≠ f.recvSeq)
        replayRuns := q.replayRuns.filter (fun x => x.1 = f.recvSeq) }))) ∧
    (∀ m mp, neighbour n p = some (m, mp) → q.dead = false → ((s.sys.router m).port mp).dead = false →
      ∃ u, exec (.linkFail n p) s = .next u ∧
        ((u.sys.router n).port p).dead = true ∧ ((u.sys.router m).port mp).dead = true ∧
        ((u.sys.router n).port p).replay = [] ∧ ((u.sys.router m).port mp).replay = [] ∧
        (∀ i c h, i ≤ localPort n → c < 6 → h ∈ ((u.sys.router n).port i).chan c → h.out ≠ some p))

/-- Reductions inside a router (R275–R277): the first contribution opens a reserved slot, the one that fills it sends the
combined packet toward the output port, a head that cannot be taken waits, and GROUP_PURGE discards a group's slots. -/
def Obligations.RouterReductions : Prop :=
  ∀ (s : State) (n p : Nat), n < 258 → p < localPort n →
    let r := s.sys.router n
    let q := r.port p
    (∀ h rest i w0 w1, q.chan 3 = h :: rest →
      (s.sys.replica n).rgroup h.pkt.epoch h.pkt.rgroup = some (i, w0, w1) →
      let r' := r.setPort p (q.setChan 3 rest)
      let lanes := lanesOfRow h.pkt.payload
      (r.red = [] → 0 < rgReserve w1 → bitOf (rgInMask w0) p = true → (rgInMask w0 = 2 ^ p → rgLocal w0 ≠ 0) →
        exec (.reducePacket n ⟨p, {}⟩) s = .next (s.withRouter n { r' with red := [
          { group := h.pkt.rgroup, seq := h.pkt.rseq, lanes := lanes, poison := h.pkt.poison, ports := 0 ||| 2 ^ p
            local_ := 0, pkt := h.pkt }] })) ∧
      (∀ d, r.red = [d] → d.group = h.pkt.rgroup → d.seq = h.pkt.rseq → bitOf d.ports p = false →
        bitOf (rgInMask w0) p = true → d.ports ||| 2 ^ p = rgInMask w0 → d.local_ = rgLocal w0 → rgRootBit w0 = false →
        (r.port (rgOut w0)).dead = false →
        let out : Packet := { d.pkt with
          src := (s.sys.tx n).storeEid, poison := d.poison || h.pkt.poison, escape := false, down := false
          payload := rowOfLanes ((d.lanes.zip lanes).map (fun x => Lane.combine (rgOp w0) x.1 x.2))
          epoch := h.pkt.epoch, hops := 0 }
        let l := r.port (localPort n)
        rgOut w0 ≠ p →
        exec (.reducePacket n ⟨p, {}⟩) s = .next (s.withRouter n
          { (r'.setPort (localPort n) (l.setChan 5 (l.chan 5 ++ [{ pkt := out, out := some (rgOut w0) }]))) with
            red := [] }))) ∧
    (∀ h rest nc, nc < 2 ^ 32 → q.chan 3 = h :: rest → s.sys.canTake n h.pkt = false →
      let u := s.withRouter n (r.setPort p (q.setChan 3 ({ h with wait := h.wait + nc } :: rest)))
      (h.wait + nc < 4096 → exec (.reduceStall n p nc) s = .next u) ∧
      (h.wait < 4096 → 4096 ≤ h.wait + nc → exec (.reduceStall n p nc) s =
        .next (({ u with sys := u.sys.bumpTile n 0x7A08 15 0 1 }).noticed n true 0x0E
          (noticeWord 0 h.pkt.src h.pkt.tag 0)))) ∧
    (∀ m, s.mail n = some m → m.type = 0x18 → m.sub = 8 →
      let gone := (List.range (bitsOf m.payload 49 48)).map (fun i => bitsOf m.payload (16 * i + 15) (16 * i))
      ∃ u, exec (.groupPurge n) s = .next u ∧ u.sys.router n =
        { r with red := r.red.filter (fun d => !gone.contains d.group) })


/-- Packets at a tile's window (R224, R270, R302–R305, R307, R308): a one-packet WRITE lands its row and is
acknowledged; a packet of a longer transfer opens a record; a refused packet is answered NACK with its status and writes
nothing; a short WRITE stores its words; a READ_REQ is answered with its row; a control write lands its row. -/
def Obligations.WindowPackets : Prop :=
  ∀ (s : State) (t : Nat) (p : Packet) (r : Region), t < 256 → s.packet t = some p →
    let y := s.packetTaken t
    let x := y.sys.tx t
    let w := NMap.get {} x.tile.wins.table p.window
    let row := r.storeRow (w.first + p.offset / 512)
    let wire (from_ bytes status answers : Nat) : List LinkPkt :=
      let a : Packet := { replyPacket from_ p bytes status p.offset answers with epoch := x.rep.cur }
      s.localWire t ++ [{ chan := 0, pkt := a }]
    (∀ c : Packet, c.dst = p.src → (c.type = 1 → c.long = true) → x.injectable c = true) →
    x.tile.store.region w.region = some r → r.cls ≠ 1 → r.mirror = false →
    w.landing = false → w.notify = false → (∀ f, f ∈ x.tile.wins.xfers → f.counts p false = false) →
    x.tile.wins.xfers.length < 256 → p.toControl = false →
    (p.type = 1 → p.long = true → x.windowStatus p = 0 → p.total = 512 → p.baton = true →
      ∃ u, exec (.write t 0) s = .next u ∧
        (u.sys.tile t).store.rowData row = p.payload % 2 ^ 4096 ∧
        (u.sys.tile t).store.badWords row = (if p.poison then (List.range 64).map (fun i => (i, 255)) else []) ∧
        NMap.get {} (u.sys.tile t).wins.table p.window =
          { w with done := satAdd 16 w.done 1, lastTag := p.tag, lastStatus := 0 } ∧
        (u.sys.tile t).wins.xfers = x.tile.wins.xfers ∧ u.localWire t = wire x.storeEid 512 0 1) ∧
    (p.type = 1 → p.long = true → x.windowStatus p = 0 → 512 < p.total →
      ∃ u f, exec (.write t 0) s = .next u ∧ (u.sys.tile t).store.rowData row = p.payload % 2 ^ 4096 ∧
        (u.sys.tile t).wins.xfers = x.tile.wins.xfers ++ [f] ∧
        f.counts p false = true ∧ f.acc = 512 ∧ f.ref = 0 ∧ f.total = p.total ∧ f.baton = p.baton ∧
        u.localWire t = s.localWire t) ∧
    (p.type = 1 → p.long = true → x.windowStatus p ≠ 0 → p.total = 512 → p.baton = true →
      ∃ u, exec (.write t 0) s = .next u ∧ (u.sys.tile t).store = x.tile.store ∧
        NMap.get {} (u.sys.tile t).wins.table p.window =
          { w with failed := satAdd 16 w.failed 1, lastTag := p.tag, lastStatus := x.windowStatus p } ∧
        u.localWire t = wire x.storeEid 512 (x.windowStatus p) 1) ∧
    (p.type = 1 → p.long = false → x.windowStatus p = 0 → p.offset % 512 / 8 ≤ 60 →
      ∃ u, exec (.shortWrite t) s = .next u ∧
        (∀ i, i < 4 → bitOf p.misc i = true →
          let j := p.offset % 512 / 8 + i
          bitsOf ((u.sys.tile t).store.rowData row) (64 * j + 63) (64 * j) = bitsOf p.payload (64 * i + 63) (64 * i)) ∧
        (∀ n, n ≠ row → (u.sys.tile t).store.rowData n = x.tile.store.rowData n) ∧
        u.localWire t = wire x.storeEid (8 * popCount p.misc 4) 0 1) ∧
    (p.type = 2 → x.windowStatus p = 0 → x.tile.store.badWords row = [] →
      exec (.readReq t) s = .next (y.tileDid t { x with out := [.packet
        { dst := p.src, src := x.storeEid, type := 3, vc := 0, long := true, tag := p.tag, window := p.window, gen := p.gen
          offset := p.offset, total := 512, payload := x.tile.store.rowData row, misc := p.misc, epoch := x.rep.cur }] }))

/-- A control write (R306): a row from a hub lands in a region of a tile in rebuild and the one-packet transfer is
acknowledged by the tile control block. -/
def Obligations.ControlWriteLands : Prop :=
  ∀ (s : State) (t : Nat) (p : Packet), t < 256 → s.packet t = some p →
    let y := s.packetTaken t
    let x := y.sys.tx t
    let r := NMap.get {} x.tile.store.regions p.window
    let row := r.storeRow (p.offset / 512)
    p.type = 1 → p.long = true → p.toControl = true → p.src = 0x1200 → p.gen = 0 → p.window < 64 → x.tile.rebuild = true →
    r.valid = true → r.cls ≠ 1 → p.offset / 512 < r.size → x.tile.croLocked p.window (p.offset / 512) = false →
    p.total = 512 → p.baton = true → (∀ f, f ∈ x.tile.wins.xfers → f.counts p true = false) → x.tile.wins.xfers.length < 256 →
    bitOf (x.reg 0x260) 16 = false →
    let a : Packet := { replyPacket x.ctrlEid p 512 0 p.offset 1 with epoch := x.rep.cur }
    x.injectable a = true →
    ∃ u, exec (.controlWrite t) s = .next u ∧ (u.sys.tile t).store.rowData row = p.payload % 2 ^ 4096 ∧
      (∀ n, n ≠ row → (u.sys.tile t).store.rowData n = x.tile.store.rowData n) ∧
      (u.sys.tile t).wins = x.tile.wins ∧ u.localWire t = s.localWire t ++ [{ chan := 0, pkt := a }]

/-- Replies at their sender and records that wait too long (R203, R225, R306, R311, R312, R315, R318): a response lands
its row, an ACK frees the send tracker's entry, a NACK frees it, is counted and reported, late entries are reported, a
purge leaves no record of the partition. -/
def Obligations.RepliesAndTimeouts : Prop :=
  ∀ (s : State) (t k : Nat) (p : Packet), t < 256 → k < 16 → s.packet t = some p → p.dst % 16 = k →
    let y := s.packetTaken t
    let x := y.sys.tx t
    let v := s.slot t k
    let mine (e : Track) : Bool := !e.mcast && decide (e.target = p.src) && decide (e.window = p.window) &&
      decide (e.tag = p.tag)
    let rest := v.tracker.filter (fun e => !mine e)
    (∀ i f c, p.type = 3 → v.fetchOf p.tag = some (i, f) → bitOf p.misc 0 = false → (v.stream i).setDesc = some c →
      ∃ u, exec (.readResp t) s = .next u ∧
        (u.sys.tile t).store.rowData ((v.stream i).slotRow f.slot f.row) = p.payload % 2 ^ 4096 ∧
        ((u.slot t k).stream i).flight = (v.stream i).flight.filter (fun g => g ≠ f)) ∧
    (p.type = 6 → p.dst < 0x1100 → p.answers ≠ 2 → v.tracker.any mine = true → s.sys.lead.jobs = [] →
      exec (.ack t) s = .next (y.withSlot t k { v with tracker := rest })) ∧
    (p.type = 7 → p.dst < 0x1100 → p.answers ≠ 2 → v.tracker.any mine = true →
      exec (.nack t) s = .next ((y.withTile t
        ((x.setSlot k { v with tracker := rest }).bump (0xB040 + 4 * k) 31 16 1).tile).noticed t true 0x0F
          (noticeWord 0 (x.slotEid k) p.tag (p.status + 256 * p.window))))

/-- A send that was not answered within ACK_US and a control write that was not are reported once; TILE_XFER_PURGE frees
the transfer records of a partition's windows and regions (R306, R312, R318). -/
def Obligations.TransferTimeoutsAndPurge : Prop :=
  ∀ (s : State) (t k : Nat), t < 256 → k < 16 →
    let x := s.sys.tx t
    let p := s.sys.tile t
    let v := s.slot t k
    let us := bitsOf (x.reg 0xB008) 15 0
    (∀ e, v.tracker = [e] → e.reported = false → e.since + 1000 * us ≤ s.sys.mirror t →
      exec (.sendTrackerTimeout t k) s =
        .next ((s.withSlot t k { v with tracker := [{ e with reported := true }] }).noticed t true 0x10
          (noticeWord 0 (x.slotEid k) e.tag (e.window + (if e.mcast then 2 ^ 8 else 0) + 2 ^ 9 * (e.target % 2 ^ 14))))) ∧
    (∀ c, p.wins.ctrlSent = [c] → c.waiting = true → c.since + 1000 * us ≤ s.sys.mirror t →
      exec (.controlWriteTimeout t) s =
        .next ((s.withTile t { p with wins := { p.wins with
          ctrlSent := [{ c with waiting := false, fails := c.fails + 1 }] } }).noticed t true 0x10
          (noticeWord 0 x.ctrlEid c.tag (c.region + 2 ^ 9 * (c.dst % 2 ^ 14))))) ∧
    (∀ part, part < 65536 → ∃ u, exec (.tileXferPurge t part) s = .next u ∧
      (u.sys.tile t).wins.xfers = p.wins.xfers.filter (fun f =>
        !(if f.ctrl then decide ((NMap.get {} p.store.regions f.window).partition = part)
          else decide ((NMap.get {} p.wins.table f.window).partition = part))) ∧
      (∀ row n r, p.store.regionOf row = some (n, r) → r.partition = part → row ∉ (u.sys.tile t).wins.landed) ∧
      (u.sys.tile t).wins.table = p.wins.table ∧ (u.sys.tile t).store = p.store)

/-- Closing a cacheable-read-only window (R313, R317): INVALIDATE drops the window from a tile's far-window list and
starts its sweep; the sweep's end removes the lines and answers; the last answer closes the window, and so does the loss
of the last tile that has not answered for 50 µs. -/
def Obligations.FarCacheInvalidation : Prop :=
  ∀ (s : State) (t : Nat), t < 256 →
    let w := (s.sys.tile t).wins
    (∀ m, s.mail t = some m → m.type = 0x1C →
      let key := (bitsOf m.payload 15 0, bitsOf m.payload 23 16, bitsOf m.payload 31 24)
      exec (.invalidate t) s = .next ((s.mailTaken t).withTile t { s.sys.tile t with wins := { w with
        farWin := w.farWin.filter (fun q => q.2 ≠ key)
        farSweeps := w.farSweeps ++ [(key.1, key.2.1, key.2.2, m.tag)] } })) ∧
    (∀ e n g tag rest, w.farSweeps = (e, n, g, tag) :: rest → ∃ u, exec (.invalidateSweepDone t) s = .next u ∧
      (u.sys.tile t).wins.farSweeps = rest ∧
      (∀ l, l ∈ (u.sys.tile t).wins.farLines → ¬(l.2.eid = e ∧ l.2.window = n ∧ l.2.gen = g)) ∧
      (∀ l, l ∈ w.farLines → ¬(l.2.eid = e ∧ l.2.window = n ∧ l.2.gen = g) → l ∈ (u.sys.tile t).wins.farLines) ∧
      (∃ m, (u.sys.tad t).outUrgent = (s.sys.tad t).outUrgent ++ [m] ∧ m.type = 0x1D ∧ m.tag = tag ∧
        m.dst = 256 + s.sys.lead.hub ∧ m.payload = e + 2 ^ 16 * n + 2 ^ 24 * g)) ∧
    (∀ m l since, s.mail (256 + s.sys.lead.hub) = some m → m.type = 0x1D →
      let eid := bitsOf m.payload 15 0
      let n := bitsOf m.payload 23 16
      s.sys.lead.invals = [(eid, n, bitsOf m.payload 31 24, [m.src], since)] → s.sys.lead.waits = [] →
      eid = 0x1000 + l → l < 240 → s.sys.physOf l = some t →
      let z : Window := { NMap.get {} w.table n with isOpen := false, closing := false }
      exec .invalidateAck s = .next
        (((s.mailTaken (256 + s.sys.lead.hub)).withLead { s.sys.lead with invals := [] }).withTile t
          { s.sys.tile t with wins := { w with table := NMap.put w.table n z } })) ∧
    (∀ eid n g since, s.sys.lead.invals = [(eid, n, g, [t], since)] → since + 50000 ≤ s.sys.now →
      (s.sys.tile t).shed = true → s.sys.lead.waits = [] → ∀ l u, eid = 0x1000 + l → l < 240 → s.sys.physOf l = some u →
      u < 256 →
      let wu := (s.sys.tile u).wins
      let z : Window := { NMap.get {} wu.table n with isOpen := false, closing := false }
      exec (.invalidateTimeout t) s = .next ((s.withLead { s.sys.lead with invals := [] }).withTile u
        { s.sys.tile u with wins := { wu with table := NMap.put wu.table n z } }))


/-- The straights (R250, R251, R253–R255, R257–R259, R261, R264): a port launches its own frame, a frame for a port
enters its FIRST pool, a bad one is asked for again and the request resends it, a carried packet enters the tile's
router or waits in the pool, a relay forwards onto the other straight, a port silent for 8 status cycles is absent, and
calibration holds the straight's frames and starts it anew. -/
def Obligations.StraightFrames : Prop :=
  ∀ (s : State) (n k : Nat), n < 32 → k < 18 →
    let st := s.sys.straight n
    let p := st.port k
    let flown (v : Straight) (f : Frame) (j : Nat) : Frame := { f with
      sender := j, pending := (List.range 18).filter (fun i => i ≠ j && !(v.port i).absent), deliver := false
      forward := false, old := false }
    (∀ i f, st.up = true → p.resend = [] → p.fenced = false → st.ownPick k = some (i, f) →
      (∀ t, portTile n k = some t → ((s.sys.straight (straightOf t (1 - axisOf n))).port
        (positionOf t (1 - axisOf n))).first.any (fun g => g.forward) = false) →
      let g : Frame := { f with sseq := p.sseq, tries := [], retry := false, retryTo := 0, sender := k }
      ∃ u, exec (.frameLaunch n k) s = .next u ∧ u.sys.straight n =
        { st.setPort k { p with
            ownQ := listDrop p.ownQ i, ownRR := f.requester, sseq := (p.sseq + 1) % 256
            replay := ringPush 8 p.replay g, offSince := none } with air := st.air ++ [flown st g k] }) ∧
    (∀ f rest, p.resend = f :: rest → st.up = true → p.fenced = false → st.targetsOn f = true → ∃ u,
      exec (.retransmission n k) s = .next u ∧
      u.sys.straight n = { st.setPort k { p with resend := rest } with air := st.air ++ [flown st f k] }) ∧
    (∀ sender i f, sender < 18 → st.nextFor sender k = some (i, f) → f.retry = false → p.fenced = false →
      let late := p.gaps.contains (f.sender, f.sseq) && p.draining f.sender
      (f.carried = false → f.forPort k = true → f.pkt.relay = false → f.forwarded = false → f.pkt.reserved = false →
        bitsOf f.pkt.group 18 18 = axisOf n → bitsOf f.pkt.group 22 19 = n % 16 →
        ∃ u, exec (.mcastFrame n k sender false) s = .next u ∧ ((u.sys.straight n).port k).first =
          keepPool (p.first ++ [{ f with pending := [], forward := false, deliver := true, old := late }])) ∧
      (f.carried = false → NMap.get 0 f.tries k < 3 → ∃ u, exec (.mcastFrame n k sender true) s = .next u ∧
        ((u.sys.straight n).port k).first = p.first ∧
        ((u.sys.straight n).port k).retries = p.retries ++ [(f.sender, f.sseq)]) ∧
      (f.carried = true → NMap.get 0 f.tries k < 3 → ∃ u, exec (.carriedFrame n k sender true) s = .next u ∧
        ((u.sys.straight n).port k).first = p.first ∧
        ((u.sys.straight n).port k).retries = p.retries ++ [(f.sender, f.sseq)]) ∧
      (f.carried = true → ∃ u, exec (.carriedFrame n k sender false) s = .next u ∧
        (u.sys.straight n).air = (st.landed i k).air) ∧
      (∀ t, f.carried = true → 16 ≤ n → portTile n k = some t → f.ctarget = k → f.pkt.reserved = false →
        (∀ g ∈ p.first ++ p.relayed, g.carried = false) →
        let here := ∃ ett r, (s.sys.replica t).bank f.pkt.epoch = some (ett, r) ∧
          routeIndex ett s.sys.lead.peers s.sys.boot.panelId f.pkt.dst = some t
        let pkt := { f.pkt with escape := false, down := false }
        (here → f.pkt.type ≠ 4 → ∃ u, exec (.carriedFrame n k sender false) s = .next u ∧
          (u.sys.router t).eject = (s.sys.router t).eject ++ [(f.pkt.vc, pkt)]) ∧
        (¬ here → (∀ l ∈ s.localWire t, ¬ (l.seq = 1 ∧ l.chan = f.pkt.vc)) →
          ∃ u, exec (.carriedFrame n k sender false) s = .next u ∧
            u.localWire t = s.localWire t ++ [{ seq := 1, chan := f.pkt.vc, pkt := pkt }]) ∧
        (∀ l ∈ s.localWire t, l.seq = 1 → l.chan = f.pkt.vc → ¬ here →
          ∃ u, exec (.carriedFrame n k sender false) s = .next u ∧ u.localWire t = s.localWire t ∧
            ((u.sys.straight n).port k).first =
              p.first ++ [{ f with pending := [], deliver := true, forward := false, old := late }]))) ∧
    (∀ t i f, portTile n k = some t → p.first.findIdx? (fun g => g.forward) = some i → p.first[i]? = some f →
      let m := straightOf t (1 - axisOf n)
      let j := positionOf t (1 - axisOf n)
      let g := relayFrame (s.sys.replica t) n f t
      let v := s.sys.straight m
      v.up = true → p.fenced = false → v.resendReady j = false → v.targetsOn g = true →
      let h : Frame := { g with sseq := (v.port j).sseq, tries := [], sender := j }
      ∃ u, exec (.relayForward n k) s = .next u ∧ (u.sys.straight m).air = v.air ++ [flown v h j] ∧
        ((u.sys.straight n).port k).first = keepPool (listModify p.first i (fun f => { f with forward := false }))) ∧
    (st.state = 3 → p.absent = false →
      let c := if st.timekeeper = some k then (st.cycle + 1) % 65536 else st.cycle
      let onF := s.sys.poolOn n k false
      let onR := s.sys.poolOn n k true
      (exec (.statusSlot n k false) s = .next (s.withStraight n { st.setPort k { p with
        shownFirst := onF, shownRelayed := onR, heard := false, missed := p.missed + 1
        slot := slotBytes k c p.fenced onF onR (p.retries.take 4) } with cycle := c })) ∧
      (p.retries = [] → exec (.statusSlot n k true) s = .next (s.withStraight n { st.setPort k { p with
        shownFirst := onF, shownRelayed := onR, heard := true, missed := 0
        slot := slotBytes k c p.fenced onF onR [] } with cycle := c })) ∧
      (∀ a q f, a < 18 → a ≠ k → p.retries = [(a, q)] → (st.port a).replay.find? (fun f => f.sseq = q) = some f →
        ∃ u, exec (.statusSlot n k true) s = .next u ∧ ((u.sys.straight n).port k).retries = [] ∧
          ((u.sys.straight n).port a).resend = (st.port a).resend ++ [{ f with
            retry := true, retryTo := k, tries := NMap.put f.tries k (NMap.get 0 f.tries k + 1) }])) ∧
    (∀ t, st.state = 3 → p.absent = false → 8 ≤ p.missed → portTile n k = some t →
      exec (.portAbsent n k) s = .next (({ s with sys := (s.sys.setStraight n
        (st.setPort k { p with absent := true })).scored ukTile t 0 evPortAbsent 1 }).noticed t true 0x0B
          (noticeWord 1 t 0 0))) ∧
    (∀ wg, wg < 16 → exec (.straightRecalibration n ⟨wg, false⟩) s = .next (s.withStraight n { st with state := 2 }) ∧
      exec (.straightRecalibration n ⟨wg, true⟩) s = .next (s.withStraight n { st with
        state := if bitOf wg 0 || bitOf wg 2 then 3 else 1, wg := wg
        ports := st.ports.map (fun q => (q.1, { q.2 with absent := false, missed := 0 })) }))


/-- The tadpole network carries a message to its neighbour's router or to its own endpoint, and keeps one that failed its
CRC to replay it; notices leave the notice queue within the rate limit, the newest marked where one was lost; a silent
neighbour's link is dead at both ends, and nothing waits to leave by it (R283, R284, R287, R289, R291, R292). -/
def Obligations.TadpoleNetwork : Prop :=
  ∀ (s : State) (n : Nat), n < 266 →
    let r := s.sys.tad n
    (∀ o b p m, o ≤ tadLocal n → r.alive = true → (∀ x ∈ r.outUrgent ++ r.outNormal, x.outs ≠ 0) →
      s.sys.tadHeads n o b = [(p, m)] → s.sys.tadHeads n o (!b) = [] →
      let left := m.outs - 2 ^ o
      let rest := (r.queue n p b).drop 1
      let queue := if left = 0 then rest else { m with outs := left } :: rest
      (o = tadLocal n → (r.port o).replay = [] → ∃ u, exec (.tadpoleForward n o false) s = .next u ∧
        (u.sys.tad n).queue n p b = queue ∧ (u.sys.tad n).inbox = r.inbox ++ [{ m with outs := 0 }]) ∧
      (∀ f fp, o < tadLocal n → (r.port o).dead = false → (r.port o).link = 3 → s.sys.tadRoom n o b = true →
        tadNeighbour n o = some (f, fp) →
        (∀ v, m.urgent = b → m.legal = true → s.sys.tadMask f fp m = v → v ≠ 0 →
          (∀ i, bitOf v i = true → ((s.sys.tad f).port i).dead = false) →
          ∃ u, exec (.tadpoleForward n o false) s = .next u ∧ (u.sys.tad n).queue n p b = queue ∧
            (u.sys.tad f).queue f fp b = (s.sys.tad f).queue f fp b ++ [{ m with outs := v }]) ∧
        ((within s.sys.now 1000000 (r.port o).replayTimes).length < 15 →
          ∃ u, exec (.tadpoleForward n o true) s = .next u ∧ (u.sys.tad n).queue n p b = queue ∧
            ((u.sys.tad n).port o).replay = [m] ∧ (u.sys.tad f).queue f fp b = (s.sys.tad f).queue f fp b))) ∧
    (∀ o f fp m v, o < tadLocal n → r.alive = true → (∀ x ∈ r.outUrgent ++ r.outNormal, x.outs ≠ 0) →
      (r.port o).dead = false → (r.port o).link = 3 → (r.port o).replay = [m] → tadNeighbour n o = some (f, fp) →
      m.legal = true → s.sys.tadMask f fp m = v → v ≠ 0 →
      (∀ i, bitOf v i = true → ((s.sys.tad f).port i).dead = false) →
      ∃ u, exec (.tadpoleForward n o false) s = .next u ∧ ((u.sys.tad n).port o).replay = [] ∧
        (u.sys.tad f).queue f fp m.urgent = (s.sys.tad f).queue f fp m.urgent ++ [{ m with outs := v }]) ∧
    (∀ m rest, r.notices = m :: rest →
      let m' : TMsg := { m with
        payload := if r.lostFlag then m.payload ||| 2 ^ 63 else m.payload, dst := 256 + s.sys.lead.hub }
      let sent : TMsg := { m' with src := n, rgen := r.rgen }
      (n < 256 ∨ 258 ≤ n → (s.sys.injected n m.urgent).length +
          (if m.urgent then r.outUrgent else r.outNormal).length < 2 →
        exec (.noticeQueueSend n) s = .next { s with sys := (s.sys.setTad n { r with
          notices := rest, lostFlag := false }).setTad n { r with
            notices := rest, lostFlag := false
            outUrgent := if m.urgent then r.outUrgent ++ [sent] else r.outUrgent
            outNormal := if m.urgent then r.outNormal else r.outNormal ++ [sent] } }) ∧
      (256 ≤ n → n < 258 → ∃ u, exec (.noticeQueueSend n) s = .next u ∧ (u.sys.tad n).notices = rest ∧
        (u.sys.tad (256 + s.sys.lead.hub)).inbox = (s.sys.tad (256 + s.sys.lead.hub)).inbox ++ [m'])) ∧
    (∀ p m mp, tadNeighbour n p = some (m, mp) → (r.port p).dead = false → ((s.sys.tad m).port mp).dead = false →
      ∃ u, exec (.neighbourSilent n p) s = .next u ∧
        (let q := (u.sys.tad n).port p; q.dead = true ∧ q.link = 1 ∧ q.replay = []) ∧
        (let q := (u.sys.tad m).port mp; q.dead = true ∧ q.link = 1 ∧ q.replay = []) ∧
        (∀ i b x, i ≤ tadLocal n → x ∈ (u.sys.tad n).queue n i b → bitOf x.outs p = false))

/-- Register access over the tadpole network (R292, R294): a tile answers a read with the register's value and a write
with its status; the hub closes the request on its reply and sends it once more after 20 µs; a ceiling waits for the
next window (R295). -/
def Obligations.TadpoleRegisterAccess : Prop :=
  ∀ (s : State) (t h : Nat) (m : TMsg), t < 256 → h < 2 →
    let y := s.mailTaken t
    let off := bitsOf m.payload 23 0
    let reply (v status : Nat) : TMsg :=
      { dst := m.src, src := t, type := 3, rgen := (s.sys.tad t).rgen, tag := m.tag, payload := v + 2 ^ 32 * status }
    (s.mail t = some m → m.type = 1 → off < 0x10000 → ∃ u, exec (.tadpoleRegRead t) s = .next u ∧
      u.sys.tile t = ((y.sys.tx t).readEffect off).tile ∧
      (u.sys.tad t).outNormal = (s.sys.tad t).outNormal ++ [reply ((y.sys.tx t).readReg off % 2 ^ 32) 0]) ∧
    (∀ ok z, s.mail t = some m → m.type = 2 → off < 0x10000 →
      (y.sys.tx t).writeReg off (bitsOf m.payload 63 32) false = (ok, z) → z.out = [] →
      ∃ u, exec (.tadpoleRegWrite t) s = .next u ∧ u.sys.tile t = z.tile ∧
        (u.sys.tad t).outNormal = (s.sys.tad t).outNormal ++ [reply 0 (if ok then 0 else 0x11)]) ∧
    (s.mail t = some m → m.type = 0x0A →
      let p := s.sys.tile t
      exec (.ceiling t) s = .next (y.withTile t { p with pwr := { p.pwr with
        ceilNext := (setBits (bitsOf m.payload 15 0) 16).foldl (fun a k => NMap.put a k (bitsOf m.payload 22 16))
          p.pwr.ceilNext } })) ∧
    (∀ r, s.mail (256 + h) = some m → m.type = 3 → r ∈ (s.sys.hub h).reqs → r.dst = m.src → r.tag = m.tag →
      s.sys.lead.waits = [] → exec (.regReply h) s = .next ((s.mailTaken (256 + h)).withHub h { s.sys.hub h with
        reqs := (s.sys.hub h).reqs.filter (fun r => r.dst ≠ m.src || r.tag ≠ m.tag) })) ∧
    (∀ r, (s.sys.hub h).reqs = [r] → r.since + 20000 ≤ s.sys.now → r.resent = false →
      ∃ u, exec (.regReplyTimeout h) s = .next u ∧
        (u.sys.hub h).reqs = [{ r with resent := true, since := s.sys.now }] ∧
        (u.sys.tad (256 + h)).outNormal = (s.sys.tad (256 + h)).outNormal ++
          [{ r.msg with src := 256 + h, rgen := (s.sys.tad (256 + h)).rgen }])

/-- Notices at the lead hub (R398, R477, R479, R542): a COUNTED one changes nothing more, a STEP one is logged as an
error, a PARITY_MISMATCH one also records the regions whose parity is lost (R188), and a POISON one marks the step of
the lap that it names. -/
def Obligations.NoticesAtTheLeadHub : Prop :=
  ∀ (s : State) (m : TMsg), s.mail (256 + s.sys.lead.hub) = some m → m.type = 0x10 →
    let y := s.mailTaken (256 + s.sys.lead.hub)
    let wher := bitsOf m.payload 23 8
    let sub := bitsOf m.payload 39 24
    let logged (sev : Nat) : Sys := y.sys.log (0x0100 + m.sub) sev (bitsOf m.payload 7 0) wher sub m.payload
    (m.sub = 0x0A ∨ m.sub = 0x12 ∨ m.sub = 0x13 ∨ m.sub = 0x19 → exec .notice s = .next y) ∧
    (m.sub = 0x08 ∨ m.sub = 0x0D → s.sys.lead.partitions = [] → (∀ h, (s.sys.hub h).ctxs = []) →
      exec .notice s = .next { y with sys := logged 2 }) ∧
    (m.sub = 0x06 → s.sys.lead.partitions = [] → (∀ h, (s.sys.hub h).ctxs = []) →
      exec .notice s = .next { y with sys := (logged 2).modLead (fun l => { l with recov := { l.recov with
        damaged := l.recov.damaged ++ (s.sys.damagedRegions wher sub).filter (fun d => !l.recov.damaged.contains d) } }) }) ∧
    (∀ n j, m.sub = 0x03 → s.sys.jobOfSlot wher = some n → NMap.find s.sys.lead.jobs n = some j →
      let step := (sub + 2 ^ 16 * bitsOf (bitsOf m.payload 62 40) 15 0) / max 1 j.spec.stepLaps
      j.oldest ≤ step → j.poison.contains step = false → ∃ u, exec .notice s = .next u ∧
        (NMap.get {} u.sys.lead.jobs n).poison = j.poison ++ [step])


/-- The lead hub's part of an epoch switch (R33, R34, R286): it starts once no partition it touches runs laps, waits for
every PREPARE_ACK, then commits; the last COMMIT_ACK makes the epoch and the placement current; the last EPOCH_DRAINED
retires the old epoch; a replica or router silent for 50 µs is failed. -/
def Obligations.EpochSwitchAtTheLead : Prop :=
  ∀ (s : State) (m : TMsg) (sw : Switch),
    let a := 256 + s.sys.lead.hub
    let y := s.mailTaken a
    let l := s.sys.lead
    let msg (sub : Nat) (n tag : Nat) : TMsg :=
      { dst := n, src := a, type := 0x18, urgent := true, rgen := (s.sys.tad a).rgen, sub := sub, tag := tag }
    (∀ ch rest, l.swQueue = ch :: rest → l.sw = none →
      (∀ p, p ∈ s.sys.partsOf (ch.map (fun c => c.1)) → s.sys.partFrozen p = true) →
      ∃ u z, exec .epochSwitchStart s = .next u ∧ u.sys.lead = { l with sw := some z, swQueue := rest } ∧
        z.epoch = (l.epoch + 1) % 256 ∧ z.phase = 1 ∧ z.changes = ch ∧ z.wait = s.sys.liveReplicas ∧ z.since = s.sys.now) ∧
    (l.sw = some sw → s.mail a = some m → m.type = 0x18 →
      (m.sub = 2 → sw.phase = 1 → sw.epoch = m.tag → bitsOf m.payload 15 0 = NMap.get 0 sw.sent m.src % 65536 →
        let wait := sw.wait.filter (fun n => n ≠ m.src)
        (wait ≠ [] → exec .prepareAck s = .next (y.withLead { l with sw := some { sw with wait := wait } })) ∧
        (wait = [] → ∃ u, exec .prepareAck s = .next u ∧ u.sys.lead = { l with
            sw := some { sw with phase := 2, wait := s.sys.swReplicas sw, drained := [], since := s.sys.now } } ∧
          (u.sys.tad a).outUrgent = (s.sys.tad a).outUrgent ++ (s.sys.swReplicas sw).map (fun n => msg 3 n sw.epoch))) ∧
      (m.sub = 4 → sw.phase = 2 → sw.epoch = m.tag →
        let wait := sw.wait.filter (fun n => n ≠ m.src && (s.sys.swReplicas sw).contains n)
        (wait ≠ [] → exec .commitAck s = .next (y.withLead { l with sw := some { sw with wait := wait } })) ∧
        (wait = [] → (∀ t, (s.sys.tile t).mirrorRegions = []) → ∃ u, exec .commitAck s = .next u ∧
          u.sys.lead.epoch = sw.epoch ∧ u.sys.lead.place = applyChanges l.place sw.changes ∧
          u.sys.lead.switches = satAdd 16 l.switches 1 ∧ u.sys.lead.invalid = sw.invalid)) ∧
      (m.sub = 5 → sw.phase = 3 → (sw.epoch + 255) % 256 = m.tag →
        let done := ((s.sys.swReplicas sw).filter (fun n => n < 258)).all (fun n => (sw.drained ++ [m.src]).contains n)
        (done = false → exec .epochDrained s =
          .next (y.withLead { l with sw := some { sw with drained := sw.drained ++ [m.src] } })) ∧
        (done = true → ∃ u, exec .epochDrained s = .next u ∧ u.sys.lead = { l with sw := none } ∧
          (u.sys.tad a).outUrgent = (s.sys.tad a).outUrgent ++
            (s.sys.swReplicas sw).map (fun n => msg 6 n ((sw.epoch + 255) % 256))))) ∧
    (∀ n, n < 266 → l.sw = some sw → sw.phase = 1 → sw.wait.contains n = true → sw.since + 50000 ≤ s.sys.now →
      ∃ u z, exec (.prepareAckTimeout n) s = .next u ∧ (u.sys.tad n).alive = false ∧ u.sys.lead.sw = some z ∧
        (n < 258 → (u.sys.router n).alive = false) ∧ (n < 256 → (u.sys.tile n).shed = true) ∧
        z.phase = 1 ∧ z.epoch = sw.epoch ∧ sw.changes <+: z.changes ∧ (256 ≤ n → z.changes = sw.changes) ∧ n ∉ z.wait) ∧
    (∀ n, n < 258 → l.sw = some sw → sw.phase = 3 → sw.drained.contains n = false → sw.since + 50000 ≤ s.sys.now →
      (n < 256 → (s.sys.tile n).shed = true) →
      let z := s.sys.killRouter n
      let done := ((z.swReplicas sw).filter (fun k => k < 258)).all (fun k => sw.drained.contains k)
      (done = false → exec (.drainTimeout n) s = .next { s with sys := z }) ∧
      (done = true → ∃ u, exec (.drainTimeout n) s = .next u ∧ (u.sys.router n).alive = false ∧ u.sys.lead.sw = none))

/-- A replica's part of an epoch switch (R33, R242, R286): PREPARE and ROUTE write its shadow bank, the last ROUTE is
answered with the count of messages, COMMIT exchanges the banks, a drained router says so once, RETIRE ends the drain. -/
def Obligations.EpochSwitchAtAReplica : Prop :=
  ∀ (s : State) (n : Nat), n < 266 →
    let r := s.sys.replica n
    let q := s.sys.tad n
    let answer (m : TMsg) (sub v : Nat) : TMsg :=
      { dst := m.src, src := n, type := 0x18, urgent := true, rgen := q.rgen, sub := sub, tag := m.tag, payload := v }
    let begun : Replica := if r.shdValid then { r with got := r.got + 1 } else { r with
      ettShd := r.ett, meshShd := r.mesh, tadShd := r.tad, relayShd := r.relay, mcastShd := r.mcast
      membersShd := r.members, rgW0Shd := r.rgW0, rgW1Shd := r.rgW1, rgRootShd := r.rgRoot, shdValid := true, got := 1 }
    (∀ m, s.mail n = some m → m.type = 0x18 → m.sub = 1 →
      let pairs := ((List.range 4).map (fun i => (bitsOf m.payload (16 * i + 7) (16 * i),
        bitsOf m.payload (16 * i + 15) (16 * i + 8)))).filter (fun p => p.1 ≠ 0xFF)
      ∃ u, exec (.prepare n) s = .next u ∧ u.sys.replica n = { begun with
        ettShd := pairs.foldl (fun t p => NMap.put t p.1 (if NMap.get 0 r.ett p.1 = p.2 + 256 then 0 else p.2 + 256))
          begun.ettShd }) ∧
    (∀ m, s.mail n = some m → m.type = 0x18 → m.sub = 7 →
      let table := bitsOf m.payload 23 16
      let i := bitsOf m.payload 15 0
      let v := bitsOf m.payload 55 24
      ∃ u, exec (.route n) s = .next u ∧ (u.sys.replica n).got = begun.got ∧ (u.sys.replica n).shdValid = true ∧
        (u.sys.replica n).meshShd = (if table = 0 then NMap.put begun.meshShd i v else begun.meshShd) ∧
        (u.sys.replica n).tadShd = (if table = 1 then NMap.put begun.tadShd i v else begun.tadShd) ∧
        (u.sys.replica n).relayShd = (if table = 2 then NMap.put begun.relayShd i v else begun.relayShd) ∧
        (u.sys.replica n).mcastShd = (if table = 3 then NMap.put begun.mcastShd i v else begun.mcastShd) ∧
        (u.sys.replica n).membersShd = (if table = 4 then NMap.put begun.membersShd i v else begun.membersShd) ∧
        (u.sys.replica n).rgW0Shd = (if table = 5 then NMap.put begun.rgW0Shd i v else begun.rgW0Shd) ∧
        (u.sys.replica n).rgW1Shd = (if table = 6 then NMap.put begun.rgW1Shd i v else begun.rgW1Shd) ∧
        (u.sys.replica n).mesh = r.mesh ∧ (u.sys.replica n).tad = r.tad ∧ (u.sys.replica n).ett = r.ett ∧
        (u.sys.tad n).outUrgent = q.outUrgent ++
          (if bitOf m.payload 63 then [answer m 2 (begun.got % 2 ^ 16)] else [])) ∧
    (∀ m, s.mail n = some m → m.type = 0x18 → m.sub = 3 → r.cur = m.tag → r.stale = false → ∃ u,
      exec (.commit n) s = .next u ∧ u.sys.replica n = { r with drainSent := false } ∧
      (u.sys.tad n).outUrgent = q.outUrgent ++ [answer m 4 0]) ∧
    (∀ m, s.mail n = some m → m.type = 0x18 → m.sub = 3 → r.cur ≠ m.tag ∨ r.stale = true → ∃ u, exec (.commit n) s = .next u ∧
      u.sys.replica n = { r with
        cur := m.tag, old := (m.tag + 255) % 256, stale := false, draining := true, drainSent := false, shdValid := true
        ett := r.ettShd, ettShd := r.ett, mesh := r.meshShd, meshShd := r.mesh, tad := r.tadShd, tadShd := r.tad
        relay := r.relayShd, relayShd := r.relay, mcast := r.mcastShd, mcastShd := r.mcast, members := r.membersShd
        membersShd := r.members, rgW0 := r.rgW0Shd, rgW0Shd := r.rgW0, rgW1 := r.rgW1Shd, rgW1Shd := r.rgW1
        rgRoot := r.rgRootShd, rgRootShd := r.rgRoot } ∧
      (u.sys.tad n).rgen = decide (m.tag % 2 = 1) ∧
      (n < 256 → (u.sys.tile n).logical = (List.range 240).find? (fun l => NMap.get 0 r.ettShd l = 256 + n)) ∧
      (∃ b, (u.sys.tad n).outUrgent = q.outUrgent ++ [{ answer m 4 0 with rgen := b }])) ∧
    (n < 258 → r.draining = true → r.drainSent = false → s.sys.oldCount n = 0 →
      ∃ u, exec (.drainCountZero n) s = .next u ∧ u.sys.replica n = { r with drainSent := true } ∧
        (u.sys.tad n).outUrgent = q.outUrgent ++ [{ dst := 256 + s.sys.lead.hub, src := n, type := 0x18, urgent := true
                                                    rgen := q.rgen, sub := 5, tag := r.old }]) ∧
    (∀ m, s.mail n = some m → m.type = 0x18 → m.sub = 6 → ∃ u, exec (.retire n) s = .next u ∧
      (u.sys.replica n).draining = false ∧ (u.sys.replica n).shdValid = false ∧ (u.sys.replica n).old = r.cur ∧
      (u.sys.replica n).cur = r.cur ∧ (u.sys.replica n).mesh = r.mesh ∧ (u.sys.replica n).ett = r.ett ∧
      (u.sys.tad n).draining = false)


/-- Panel time over the tadpole network (R296): the lead hub broadcasts it and a router passes it on with its delays
added; a mirror within 64 ns of it is slewed by 1 ns at a time and one further off raises TIME_FAULT; three missed
broadcasts do too; link delays are asked for, answered and kept as half the round trip. -/
def Obligations.PanelTimeMirrors : Prop :=
  ∀ (s : State) (n p : Nat), n < 258 → p < tadLocal n →
    let a := 256 + s.sys.lead.hub
    let r := s.sys.tad n
    let q := r.port p
    (exec .syncBroadcast s = .next (s.withTad a { s.sys.tad a with
      outUrgent := (s.sys.tad a).outUrgent ++ [{ dst := 0x3FF, src := a, type := 0x20, urgent := true
                                                 rgen := (s.sys.tad a).rgen, sub := 1, payload := s.sys.now % 2 ^ 64 }] })) ∧
    (∀ m res, res < 2 ^ 32 → n < 256 → r.outUrgent = [] → r.outNormal = [] → (∀ j, j ≠ p → (r.port j).urgentQ = []) →
      q.urgentQ = [m] → m.type = 0x20 → m.sub = 1 → m.outs = 2 ^ tadLocal n →
      let time := m.payload + res + q.delay / 4
      let d : Int := (time : Int) - (s.sys.mirror n : Int)
      let i := (s.sys.tile n).mirror
      ∃ u, exec (.sync n res) s = .next u ∧ ((u.sys.tad n).port p).urgentQ = [] ∧
        (u.sys.tile n).mirror = { i with
          slew := if 64 < d.natAbs then i.slew else d, lastCorr := d, syncs := (i.syncs + 1) % 65536, missed := 0
          lost := false } ∧
        (64 < d.natAbs → r.notices.length < 32 → ∃ x, (u.sys.tad n).notices = r.notices ++ [x] ∧ x.sub = 0x12)) ∧
    (∀ m res o f fp v, res < 2 ^ 32 → r.outUrgent = [] → r.outNormal = [] → (∀ j, j ≠ p → (r.port j).urgentQ = []) →
      q.urgentQ = [m] → m.type = 0x20 → m.sub = 1 → m.urgent = true → m.legal = true → o < tadLocal n → m.outs = 2 ^ o →
      (r.port o).link = 3 → s.sys.tadRoom n o true = true → tadNeighbour n o = some (f, fp) →
      s.sys.tadMask f fp m = v → v ≠ 0 → (∀ i, bitOf v i = true → ((s.sys.tad f).port i).dead = false) →
      ∃ u, exec (.sync n res) s = .next u ∧ ((u.sys.tad n).port p).urgentQ = [] ∧
        ((u.sys.tad f).port fp).urgentQ = ((s.sys.tad f).port fp).urgentQ ++
          [{ m with payload := m.payload + res + q.delay / 4, outs := v }]) ∧
    (n < 256 →
      let t := s.sys.tile n
      let u := s.withTile n { t with mirror := { t.mirror with
        missed := t.mirror.missed + 1, lost := decide (3 ≤ t.mirror.missed + 1) } }
      exec (.syncMissed n) s =
        .next (if t.mirror.missed + 1 = 3 then u.noticed n false 0x12 (noticeWord 1 n 0 0) else u)) ∧
    (n < 256 →
      let t := s.sys.tile n
      let d := if 0 < t.mirror.slew then (1 : Int) else if t.mirror.slew < 0 then -1 else 0
      exec (.mirrorSlew n) s = .next (s.withTile n { t with mirror := { t.mirror with
        offset := t.mirror.offset + d, slew := t.mirror.slew - d } })) ∧
    (∀ m rest f fp, q.urgentQ = m :: rest → m.type = 0x20 → m.sub = 2 → s.sys.tadRoom n p true = true →
      tadNeighbour n p = some (f, fp) →
      ∃ u, exec (.delayReq n p) s = .next u ∧ ((u.sys.tad n).port p).urgentQ = rest ∧
        ((u.sys.tad f).port fp).urgentQ = ((s.sys.tad f).port fp).urgentQ ++
          [{ dst := f, src := n, type := 0x20, urgent := true, sub := 3, payload := m.payload }]) ∧
    (∀ m rest trip, trip < 65536 → q.urgentQ = m :: rest → m.type = 0x20 → m.sub = 3 →
      exec (.delayResp n p trip) s = .next (s.withTad n (r.setPort p { q with urgentQ := rest, delay := trip / 2 })))


/-- Ingest and egress (R326, R328, R330–R333, R335–R337, R340, R435, R436): a raw unit of the right size leaves a
picture of items to deliver; an item goes out as one transfer and into the replay buffer; an RTP packet's bytes join the
unit of the context its rule names; an egress item is written with its header to the host ring and its sender answered. -/
def Obligations.IngestAndEgress : Prop :=
  ∀ (s : State) (h n : Nat), h < 2 → n < 131072 →
    let v := s.sys.hub h
    let c := v.ctx n
    let prof := NMap.get 0 s.sys.lead.profiles (c.f 1 1)
    (∀ c1, c.isOpen = true → c.egress = false → v.live = true → v.dma = true → c.ethernet = false → c.waiting.length < 2 →
      s.sys.gather h c (2 ^ 16) = (true, c1) → c1.kind = 1 → c1.unitBad = false →
      c1.unitLen = rawBytes (rawLayout n) (c1.f 28 2) (c1.f 30 2) → (c1.pictures + 1) % max 1 (c1.f 15 1) = 0 →
      let unit : Unit1 := { kind := 1, width := c1.f 28 2, height := c1.f 30 2, ctx := n, bytes := c1.unit_, len := c1.unitLen
                            state := if c1.fresh then 0 else c1.decoder }
      ∃ u pic, exec (.ingestDecode h n) s = .next u ∧ ((u.sys.hub h).ctx n).waiting = c1.waiting ++ [pic] ∧
        pic.items = unit.items prof ∧ pic.poison = false ∧ pic.again = false ∧
        ((u.sys.hub h).ctx n).pictures = c1.pictures + 1 ∧ ((u.sys.hub h).ctx n).unitLen = 0) ∧
    (∀ pic rest, c.isOpen = true → c.egress = false → v.dma = true → c.unanswered.length < c.slotCount →
      c.replayFrom = none → c.waiting = pic :: rest → pic.again = false → c.items < c.committed + c.f 48 4 →
      c.nextItem + 1 < pic.items.length →
      let i := c.items
      let k := c.slotRows
      let rows := pic.items.getD c.nextItem 0
      let first := bitsOf (c.f 8 4) 17 0 + i % max 1 c.slotCount * k
      ∃ u, exec (.itemDelivery h n) s = .next u ∧
        ((u.sys.hub h).ctx n).items = i + 1 ∧ ((u.sys.hub h).ctx n).unanswered = c.unanswered ++ [i] ∧
        ((u.sys.hub h).ctx n).nextItem = c.nextItem + 1 ∧
        Mem.readWide u.sys.host (c.f 40 8 + 512 * k * (i % max 1 (c.f 48 4))) (512 * k) = rows % 2 ^ (4096 * k) ∧
        u.localWire (256 + h) = s.localWire (256 + h) ++ (List.range k).map (fun r => { chan := 2, pkt :=
          { dst := c.f 4 2, src := 0x1200 + h, type := 1, vc := 2, long := true, baton := decide (r + 1 = k)
            poison := pic.poison, tag := (c.f 54 2 + i) % 65536, window := c.f 6 1, gen := c.f 7 1
            offset := 512 * (first + r), total := 512 * k, payload := rowOf rows r } })) ∧
    (∀ e p sub f len i rule seq at_ size, e < 8 → p < 8 → sub < 4 → len ≤ 9216 →
      ((s.sys.engine e).port p).role = 2 → ((s.sys.engine e).port p).link = 2 → bitOf (byteOf f 0) 0 = true →
      (((s.sys.engine e).port p).breakout = true → bitOf ((s.sys.engine e).port p).lanes sub = true) →
      parseFrame f len = some i → s.sys.steer e p sub i = some (h, rule) →
      bitsOf (v.reg (0x78008 + 16 * rule)) 16 0 = n → c.isOpen = true → c.egress = false → c.ethernet = true →
      parseRtp f i = some (seq, false, at_, size) → 0 < size →
      NMap.find ((s.sys.engine e).port p).rtp (1024 * h + rule) = some seq →
      ∃ u, exec (.ethernetFrame e p sub f len) s = .next u ∧
        (u.sys.hub h).ctx n = { c with unitLen := c.unitLen + size
                                       unit_ := c.unit_ + 2 ^ (8 * c.unitLen) * bitsOf f (8 * (at_ + size) - 1) (8 * at_) }) ∧
    (∀ i, c.isOpen = true → c.egress = true → v.live = true → v.dma = true → c.target = 0 →
      c.held.find? (fun i => c.mayWrite i.item) = some i →
      let rows := v.itemRows c i.item
      let pay := c.payload (rows.map v.poolRow)
      let flags := bitNat (rows.any (fun r => v.poolPoison.contains r)) + 2 * bitNat pay.2.2 +
        4 * bitNat (decide (i.item < c.items)) + 2 ^ 15 * bitNat (phaseOf i.item c.outDepth)
      let a := c.f 24 8 + c.f 32 4 * (i.item % c.outDepth)
      ∃ u, exec (.egressItem h n) s = .next u ∧
        Mem.readWide u.sys.host a 32 = slotHeader i.item pay.2.1 flags n (s.sys.hubTimeAt h i.time) % 2 ^ 256 ∧
        Mem.readWide u.sys.host (a + 32) pay.2.1 = pay.1 % 2 ^ (8 * pay.2.1) ∧
        ((u.sys.hub h).ctx n).held = c.held.filter (fun x => x ≠ i) ∧
        u.localWire (256 + h) = s.localWire (256 + h) ++ [{ chan := i.reply.vc, pkt := i.reply }])


/-- Doorbells and pair control while the host reaches the hub (R347, R350, R353, R354, R361): tail and head writes, their
overruns, ENABLE of a well configured pair, DISABLE, the binding value, freed egress slots. -/
def Obligations.DoorbellsAndPairControl : Prop :=
  ∀ (s : State) (h q v : Nat), h < 2 → q < 2048 → v < 2 ^ 32 →
    let u := s.sys.hub h
    let p := u.qp q
    u.memSpace = true → u.linkRate ≠ 0 → u.ready = true →
    (∀ mem bad, p.state = 1 →
      let y : State := { s with sys := s.sys.hostSets mem bad }
      (countDiff v p.sqHead ≤ u.sqDepth q →
        exec (.hubSqTail h q v mem bad) s = .next (y.withHub h (u.setQP q { p with sqTail := v }))) ∧
      (u.sqDepth q < countDiff v p.sqHead → ∃ z, exec (.hubSqTail h q v mem bad) s = .next z ∧
        (z.sys.qp h q).state = 3 ∧ (z.sys.qp h q).cause = 3 ∧ (z.sys.qp h q).replies = [])) ∧
    (p.state = 1 ∨ p.state = 2 →
      (countDiff p.cqTail v ≤ u.cqDepth q →
        exec (.hubCqHead h q v) s = .next (s.withHub h (u.setQP q { p with cqHead := v }))) ∧
      (u.cqDepth q < countDiff p.cqTail v → ∃ z, exec (.hubCqHead h q v) s = .next z ∧
        (z.sys.qp h q).state = 3 ∧ (z.sys.qp h q).cause = 4)) ∧
    (p.state = 0 →
      let sl := bitsOf (u.qpCfg q) 4 0
      let cl := bitsOf (u.qpCfg q) 12 8
      4 ≤ sl → sl ≤ 16 → 4 ≤ cl → cl ≤ 16 → u.sqBase q % 4096 = 0 → u.cqBase q % 4096 = 0 → u.bound = true →
      u.qpOwner q = 0 ∨ (NMap.find s.sys.lead.partitions (u.qpOwner q)).isSome = true →
      exec (.hubQpCtrlEnable h q) s = .next (s.withHub h (u.setQP q { nextNum := p.nextNum, state := 1, cause := p.cause }))) ∧
    (p.state = 1 ∨ p.state = 3 → (p.replies ≠ [] →
        exec (.hubQpCtrlDisable h q) s = .next (s.withHub h (u.setQP q { p with state := 2, drainCause := 1 }))) ∧
      (p.replies = [] → p.cmds = [] → exec (.hubQpCtrlDisable h q) s =
        .next (s.withHub h (u.setQP q { p with state := 0, drainCause := 1, cause := 1 })))) ∧
    (h = s.sys.lead.hub → u.bind = none → u.bound = false → ∃ z, exec (.hubHostBindHi h v) s = .next z ∧
      (z.sys.hub h).bind = some (u.bindLo + 2 ^ 32 * v) ∧ (z.sys.hub h).bound = true ∧ (z.sys.hub h).bindLo = 0) ∧
    (h ≠ s.sys.lead.hub → (s.sys.hub s.sys.lead.hub).bind ≠ some (u.bindLo + 2 ^ 32 * v) →
      ∃ z, exec (.hubHostBindHi h v) s = .next z ∧ (z.sys.hub h).bound = false ∧
        (z.sys.hub h).qps = u.qps.map (fun e => (e.1, e.2.disable 1))) ∧
    (∀ n, n < 131072 → (u.ctx n).isOpen = true → (u.ctx n).egress = true →
      countDiff (u.ctx n).head v ≤ (u.ctx n).outDepth →
      exec (.hubStreamFreed h n v) s = .next (s.withHub h (u.setCtx n { u.ctx n with freed := v })))

/-- Fetching, replying and interrupting (R351, R357, R360, R365, R367): the hub fetches the command at the head of the
only pair with work; it writes the oldest reply to the CQ and signals it, a later one of a command only beside the
places that the open commands keep; an unmasked vector sends what was pending. -/
def Obligations.FetchReplyInterrupt : Prop :=
  ∀ (s : State) (h q : Nat), h < 2 → q < 2048 →
    let u := s.sys.hub h
    let p := u.qp q
    (∀ raw, u.dma = true → u.ready = true → u.qps = [(q, p)] → u.mayFetch q = true →
      s.sys.hostRead (u.sqBase q + 64 * (p.sqHead % u.sqDepth q)) 64 = some raw → opcodeDefined (raw % 256) = true →
      exec (.commandFetch h) s = .next (s.withHub h { u.setQP q { p with
        sqHead := (p.sqHead + 1) % 2 ^ 32, nextNum := p.nextNum + 1
        cmds := p.cmds ++ [{ raw := raw, num := p.nextNum, fetched := s.sys.now }] } with fetchRR := q })) ∧
    (∀ r rest, p.replies = r :: rest → p.state = 1 → u.dma = true →
      countDiff p.cqTail p.cqHead + (if r.later then p.reserved else 0) < u.cqDepth q → s.sys.boot.restartAt = none →
      ∃ z, exec (.replyWrite h q) s = .next z ∧ (z.sys.qp h q).replies = rest ∧
        (z.sys.qp h q).cqTail = (p.cqTail + 1) % 2 ^ 32 ∧ (z.sys.qp h q).state = 1 ∧
        Mem.readWide z.sys.host (u.cqBase q + 32 * (p.cqTail % u.cqDepth q)) 32 =
          r.bytes (phaseOf p.cqTail (u.cqDepth q)) (2048 * h + q) (s.sys.hubTime h) % 2 ^ 256 ∧
        (u.qpIrq q = false → z.sys.irqs = s.sys.irqs) ∧
        (u.qpIrq q = true → r.irq = true → u.maskAll = false → (NMap.get {} u.msix (u.qpVector q)).masked = false →
          z.sys.irqs = s.sys.irqs ++ [(h, u.qpVector q)] ∧ (z.sys.qp h q).unsignalled = 0)) ∧
    (u.qpIrq q = true → 0 < p.unsignalled → p.firstAt + 1000 * u.aggUs q ≤ s.sys.now → u.maskAll = false →
      (NMap.get {} u.msix (u.qpVector q)).masked = false → u.busMaster = true →
      exec (.coalesceTimeout h q) s = .next { s with sys := { s.sys.setHub h (u.setQP q { p with unsignalled := 0 }) with
        irqs := s.sys.irqs ++ [(h, u.qpVector q)] } }) ∧
    (∀ v, v < 2048 →
      let e := NMap.get {} u.msix v
      e.pending = true → u.maskAll = false → u.busMaster = true →
      exec (.msixVectorUnmask h v) s = .next { s with sys := { s.sys.setHub h { u with
        msix := NMap.put u.msix v { e with masked := false, pending := false } } with
          irqs := s.sys.irqs ++ [(h, v)] } })

/-- The PCIe function (R344, R346, R356, R365, R505): training enables it, Bus Master Enable cleared and a reset drop the
pairs, a host read of a register answers it, and an access of another size reads all ones and is logged. -/
def Obligations.PcieFunction : Prop :=
  ∀ (s : State) (h : Nat), h < 2 →
    let u := s.sys.hub h
    (∀ rate width, 0 < rate → rate ≤ 6 → width ≤ 16 → ∃ z, exec (.pcieLinkTraining h rate width) s = .next z ∧
      (z.sys.hub h).linkRate = rate ∧ (z.sys.hub h).linkWidth = width ∧ (z.sys.hub h).memSpace = true ∧
      (z.sys.hub h).busMaster = true ∧ (z.sys.hub h).qps = u.qps) ∧
    (exec (.busMasterClear h) s = .next (s.withHub h { u with busMaster := false, qps := u.qps.map (fun e =>
      (e.1, if e.2.state = 1 then { e.2 with state := 0, cause := 8, cmds := [], replies := [], unsignalled := 0 }
            else e.2)) })) ∧
    (∃ z, exec (.hubLinkReset h false) s = .next z ∧ (z.sys.hub h).busMaster = false ∧ (z.sys.hub h).memSpace = false ∧
      (z.sys.hub h).msix = [] ∧ (z.sys.hub h).reg 0x108 = 0x3FF ∧ (z.sys.hub h).qps = u.qps.map (fun e =>
        (e.1, { e.2 with state := 0, cause := 7, cmds := [], replies := [], unsignalled := 0 })) ∧
      (z.sys.hub h).linkRate = u.linkRate) ∧
    (∀ off, u.memSpace = true → u.linkRate ≠ 0 → off % 4 = 0 → exec (.barAccess h 0 off 4 false 0) s =
      .next { s with sys := { s.sys.hubReadEffect h off with answer := s.sys.hubReg h off % 2 ^ 32 } }) ∧
    (∀ bar off n, u.memSpace = true → u.linkRate ≠ 0 → bar < 4 → 1 ≤ n → n ≤ 64 → n ≠ 4 → n ≠ 8 →
      exec (.barAccess h bar off n false 0) s = .next { s with sys :=
        { s.sys.log 0x0001 1 0 0 0 (bar + 2 ^ 32 * off) with answer := 2 ^ (8 * n) - 1 } })

/-- The event registers (R534, R545, R546): an event that rises unmasked sends the event vector's message, a masked one
only sets its bit; a status write clears bits; mask and configuration writes take effect; the low word of panel time
captures the high one. -/
def Obligations.EventsAndPanelTime : Prop :=
  ∀ (s : State) (h v bit : Nat), h < 2 → v < 2 ^ 32 → bit < 10 →
    let u := s.sys.hub h
    let st := u.reg 0x104
    let mask := u.reg 0x108
    let cfg := u.reg 0x100
    let vec := bitsOf cfg 10 0
    (bitOf st bit = true ∨ bitOf mask bit = true →
      exec (.hubEvent h bit) s = .next (s.withHub h (u.setReg 0x104 (st ||| 2 ^ bit)))) ∧
    (bitOf st bit = false → bitOf mask bit = false → bitOf cfg 11 = true → u.maskAll = false →
      (NMap.get {} u.msix vec).masked = false → u.busMaster = true →
      exec (.hubEvent h bit) s = .next { s with sys := { s.sys.setHub h (u.setReg 0x104 (st ||| 2 ^ bit)) with
        irqs := s.sys.irqs ++ [(h, vec)] } }) ∧
    (u.memSpace = true → u.linkRate ≠ 0 → bitOf cfg 11 = false →
      (v ≠ 0 → exec (.hubEventStatus h v) s = .next (s.withHub h (u.setReg 0x104 (st - (st &&& v))))) ∧
      exec (.hubEventMask h v) s = .next (s.withHub h (u.setReg 0x108 (v % 2 ^ 10))) ∧
      (bitOf v 11 = false → exec (.hubEventCfg h v) s = .next (s.withHub h (u.setReg 0x100 (v % 2 ^ 12))))) ∧
    exec (.panelTimeLo h) s = .next { s with sys := { s.sys.setHub h { u with
      latched := NMap.put u.latched 0x1C (s.sys.hubTime h / 2 ^ 32 % 2 ^ 32) } with
        answer := s.sys.hubTime h % 2 ^ 32 } }


/-- Starting a command (R13, R357, R358, R366–R369): a hub that is not ready, or a pair with nothing to start, changes
nothing; where checks fail, the reply names the failing field of lowest byte offset, with NOT_PERMITTED where the queue
or the partition forbids it and INVALID_FIELD otherwise, with the handle where it names a job, and nothing else happens;
a NOP's reply is SUCCESS, with the command's ID, and the command leaves the pair. -/
def Obligations.CommandsAreCheckedFirst : Prop :=
  ∀ (s : State) (h q : Nat) (pass fail : Bool), h < 2 → q < 2048 →
    let rows : List (Instr × Nat × (Sys → Cmd → List (Nat × Nat))) :=
      [(.nop h q, 0x00, noChecks), (.identify h q, 0x01, badIdentify), (.getFeature h q, 0x02, badFeature),
       (.setFeature h q, 0x03, badSetFeature), (.regRead h q, 0x04, badRegsOn h q), (.regWrite h q, 0x05, badRegsOn h q),
       (.partitionCreate h q, 0x08, badPartCreate), (.partitionDestroy h q, 0x09, noChecks),
       (.partitionReset h q, 0x0A, noChecks), (.regionDefine h q, 0x10, badRegionDefine),
       (.regionRelease h q, 0x11, badRegionNumber), (.storeFill h q, 0x12, badStore true), (.storeWrite h q, 0x13, badStore false),
       (.storeRead h q, 0x14, badStore false), (.weightLoad h q, 0x15, badWeightLoad), (.codeLoad h q, 0x18, badCodeLoad),
       (.windowOpen h q, 0x20, badWindowOpen), (.windowClose h q, 0x21, badWindowClose), (.mcastGroupSet h q, 0x22, badMcast),
       (.rgroupSet h q, 0x23, badRgroup), (.streamOpen h q, 0x28, badStreamOpen), (.streamClose h q, 0x29, badStreamClose)] ++
      [(.jobStart h q, 0x30, badJobStart), (.jobFeed h q, 0x31, badJobFeed), (.stepCommit h q, 0x32, badStepCommit),
       (.stepReplay h q, 0x33, badHandle), (.jobStatus h q, 0x34, badJobStatus), (.jobStop h q, 0x35, badHandle),
       (.phaseSet h q, 0x38, badPhaseSet), (.powerQuery h q, 0x39, badPowerQuery), (.healthQuery h q, 0x40, badUnitBuffer),
       (.unitShed h q, 0x41, badUnit), (.unitRegrow h q pass, 0x42, badRegrow), (.unitWatchClear h q, 0x43, badUnit),
       (.logRead h q, 0x48, badLogRead), (.timeSync h q, 0x49, noChecks), (.configRead h ⟨q, fail⟩, 0x50, badConfigRead),
       (.configWrite h ⟨q, fail⟩, 0x51, badConfigWrite), (.firmwareStage h ⟨q, fail⟩, 0x52, badStage),
       (.firmwareActivate h ⟨q, fail⟩, 0x53, noChecks),
       (.linkQuery h q, 0x58, badLinkQuery)]
    (∀ e ∈ rows,
      ((s.sys.hub h).live = false ∨ (s.sys.hub h).ready = false ∨ s.sys.nextCmd h q e.2.1 = none → exec e.1 s = .next s) ∧
      (∀ c i r a b, s.starts h q e.2.1 c → s.sys.lead.sw = none → s.checks h q e.2.1 e.2.2 c = a ++ (i, r) :: b →
        (∀ x ∈ a, i < x.1) → (∀ x ∈ b, i ≤ x.1) →
        let handle := if [0x32, 0x33, 0x34, 0x35, 0x38].contains c.op && ((s.started h q c).jobOfHandle c).isSome
          then c.p 8 8 else 0
        exec e.1 s = .next (s.replied h q c (s.started h q c)
          (if r = denyMark then { status := stNotPermitted, field := i, handle := handle }
           else { status := stInvalidField, field := i, result := r, handle := handle })))) ∧
    (∀ c, s.accepts h q 0x00 noChecks c → (s.sys.qp h q).state = 1 → (∀ d ∈ (s.sys.qp h q).cmds, d.num = c.num → d = c) →
      ∃ z, exec (.nop h q) s = .next z ∧ z.sys.qp h q = { s.sys.qp h q with
        cmds := (s.sys.qp h q).cmds.filter (fun d => d.num ≠ c.num)
        replies := (s.sys.qp h q).replies ++
          [{ num := c.num, cmdId := c.id, irq := c.irqOnDone, status := 0x00, later := c.accepted }] })

/-- Commands that report (R374, R376, R377, R379, R395, R419, R476, R549): what is written to the host's buffer and what
the reply carries. A record is cut to LENGTH: SUCCESS where it fits, PARTIAL where it does not, SUCCESS_EMPTY for LENGTH
0, and the result is its full size. A flash that fails is a FLASH_ERROR. -/
def Obligations.ReportingCommandsAnswer : Prop :=
  ∀ (s : State) (h q : Nat) (c : Cmd), h < 2 → q < 2048 →
    let t := s.started h q c
    let cut (addr len size v : Nat) (r : Nat) : State :=
      if len = 0 then s.replied h q c t { status := stSuccessEmpty, result := r }
      else if size ≤ len then s.replied h q c (t.hostWrite addr size v) { status := stSuccess, result := r }
      else s.replied h q c (t.hostWrite addr len v) { status := stPartial, result := r }
    (s.accepts h q 0x01 badIdentify c →
      exec (.identify h q) s =
        .next (s.replied h q c (t.hostWrite (c.p 8 8) 4096 t.identity) { result := t.identity % 2 ^ 64 })) ∧
    (s.accepts h q 0x02 badFeature c →
      let f := c.p 8 2
      let v := (t.feature f (c.p 10 2)).2
      let size := if f = 1 then 117144 else if f = 2 then 64 else if f = 3 then 16 else 8 + 8 * s.sys.lead.invalid.length
      exec (.getFeature h q) s = .next (cut (c.p 16 8) (c.p 12 4) size v size) ∧
      (f = 2 → v = NMap.get 0 s.sys.lead.profiles (c.p 10 2)) ∧ (f = 3 → v % 2 ^ 64 = s.sys.power.hostCap % 2 ^ 32 +
        2 ^ 32 * ((s.sys.power.hostCap / 2 ^ 32 + s.sys.power.rackCap) % 2 ^ 32))) ∧
    (s.accepts h q 0x39 badPowerQuery c →
      exec (.powerQuery h q) s = .next (cut (c.p 8 8) (c.p 16 4) 64 t.powerReport 64)) ∧
    (s.accepts h q 0x40 badUnitBuffer c →
      let k := c.p 8 1
      let w := c.p 10 2
      let b := c.p 12 2
      exec (.healthQuery h q) s = .next (cut (c.p 16 8) (c.p 24 4) 64 (t.healthRecord k w b)
        ((t.unit (unitKey k w b)).score / 256 % 2 ^ 32 + 2 ^ 32 * t.unitState k w b))) ∧
    (s.accepts h q 0x58 badLinkQuery c →
      let k := c.p 8 1
      let w := c.p 10 2
      let b := c.p 12 2
      let v := if k = 7 ∨ k = 8 then t.opticRecord k w b
        else if k = 9 then t.linkRecord k w b w (if w % 16 = 0 then 3 else 1)
        else if k = 5 then t.linkRecord k w b w (bitsOf b 9 8) else t.linkRecord k w b w b
      exec (.linkQuery h q) s = .next (cut (c.p 16 8) (c.p 24 4) 64 v 64)) ∧
    (s.accepts h q 0x50 badConfigRead c →
      ∃ r, t.confRec (c.p 8 2) = some r ∧
        exec (.configRead h ⟨q, false⟩) s = .next (cut (c.p 16 8) (c.p 12 4) r.len r.value r.len) ∧
        exec (.configRead h ⟨q, true⟩) s = .next (s.replied h q c t { status := stFlashError })) ∧
    (s.accepts h q 0x48 badLogRead c →
      let n := c.p 12 4
      let kept := (s.sys.lead.log.filter (fun e => decide (countDiff e.seq (c.p 8 4) < 2 ^ 31))).take n
      (n = 0 → exec (.logRead h q) s = .next (s.replied h q c t { status := stSuccessEmpty })) ∧
      (n ≠ 0 → exec (.logRead h q) s =
        .next (s.replied h q c (t.hostWrite (c.p 16 8) (32 * kept.length) (kept.foldr (fun e v => e.bytes + 2 ^ 256 * v) 0))
          { status := if kept.length < n then stPartial else stSuccess
            result := kept.length + 2 ^ 32 * (kept.head?.map (fun e => e.seq)).getD (c.p 8 4) }))) ∧
    (s.accepts h q 0x49 noChecks c → exec (.timeSync h q) s = .next (s.replied h q c t { result := c.fetched % 2 ^ 64 })) ∧
    (s.accepts h q 0x34 badJobStatus c →
      let n := c.p 8 8 % 4096
      let w := (s.sys.job n).word n
      exec (.jobStatus h q) s = .next (s.replied h q c (if c.p 16 8 = 0 then t else t.hostWrite (c.p 16 8) 64 w)
        { result := w % 2 ^ 64, handle := c.p 8 8 }))


/-- Commands that set (R374, R375, R377, R514–R521): features, register words, configuration records and firmware. A host
buffer that cannot be read ends the command with INTERNAL_ERROR at the buffer's offset, a bad field of what it holds with
INVALID_FIELD and the field's offset, a flash that fails with FLASH_ERROR, and nothing is changed. -/
def Obligations.SettingCommandsTakeEffect : Prop :=
  ∀ (s : State) (h q : Nat) (c : Cmd), h < 2 → q < 2048 →
    let t := s.started h q c
    let say (u : Sys) (r : Reply) : Host.Outcome State Fault Refusal := .next (s.replied h q c u r)
    (s.accepts h q 0x03 badSetFeature c →
      let f := c.p 8 2
      let i := c.p 10 2
      (c.p 12 4 = 0 → exec (.setFeature h q) s = say t { status := stSuccessEmpty }) ∧
      (c.p 12 4 ≠ 0 → t.hostRead (c.p 16 8) (c.p 12 4) = none →
        exec (.setFeature h q) s = say t { status := stInternalError, field := 16 }) ∧
      (∀ v, c.p 12 4 ≠ 0 → t.hostRead (c.p 16 8) (c.p 12 4) = some v →
        (f = 2 → t.profileUsed i = true → exec (.setFeature h q) s = say t { status := stBusy }) ∧
        (f = 2 → t.profileUsed i = false → exec (.setFeature h q) s =
          say (t.setLead { t.lead with profiles := NMap.put t.lead.profiles i v }) {}) ∧
        (f = 3 → 6000 ≤ v % 2 ^ 32 ∧ v % 2 ^ 32 ≤ 20000 ∧ bitsOf v 127 112 = 0 ∧ exec (.setFeature h q) s =
          say (({ t with power := { t.power with hostCap := v % 2 ^ 32 } } : Sys).updateCap) {}))) ∧
    (∀ v o, s.starts h q 0x03 c → s.checks h q 0x03 badFeature c = [] → t.hostRead (c.p 16 8) (c.p 12 4) = some v →
      (c.p 8 2 = 2 ∧ c.p 12 4 = 64 ∧ profileBad v = some o) ∨
        (c.p 8 2 = 3 ∧ c.p 12 4 = 16 ∧ (v % 2 ^ 32 < 6000 ∨ 20000 < v % 2 ^ 32) ∧ o = 0) ∨
        (c.p 8 2 = 3 ∧ c.p 12 4 = 16 ∧ 6000 ≤ v % 2 ^ 32 ∧ v % 2 ^ 32 ≤ 20000 ∧ bitsOf v 127 112 ≠ 0 ∧ o = 14) →
      exec (.setFeature h q) s = say t { status := stInvalidField, field := 16, result := o }) ∧
    (let off := c.p 8 3
      let n := c.p 12 2
      let does (op : Nat) (run : Host.Outcome State Fault Refusal) : Prop := s.accepts h q op (badRegsOn h q) c →
      (n = 0 → run = say t { status := stSuccessEmpty }) ∧
      (∀ k, c.phys = false → c.target = 0x1200 + k → n = 1 → (s.sys.hub k).live = true →
        (op = 0x04 → run = say (t.hubReadEffect k off) { result := t.hubReg k off % 2 ^ 32 }) ∧
        (op = 0x05 → run = say (t.hubRegWrite k off (c.p 24 4)).2
          (if (t.hubRegWrite k off (c.p 24 4)).1 then {} else { status := stInvalidField, field := 8 }))) ∧
      (∀ k, c.phys = false → c.target = 0x1200 + k → 1 < n → (s.sys.hub k).live = true →
        run = say (t.hubWords k c n 0).2 (t.hubWords k c n 0).1) ∧
      (∀ x g v, (if c.phys then some (c.p 14 1) else if c.target < 0x1200 then t.tileOfEid c.target else none) = some x →
        n ≠ 0 → (if op = 0x05 ∧ n ≠ 1 then t.hostRead (c.p 16 8) 4 else some (if op = 0x05 then c.p 24 4 else 0)) = some v →
        (t.hub h).freeTag x = some g →
        let r : RegReq := { dst := x, tag := g, write := decide (op = 0x05), off := off, data := v % 2 ^ 32, since := s.sys.now }
        run = .next (s.waiting h q c ((t.setHub h { t.hub h with reqs := (t.hub h).reqs ++ [r] }).sendMsg (256 + h)
          { dst := x, type := if op = 0x05 then 2 else 1, tag := g, payload := off + 2 ^ 32 * r.data }) (.regs x g)))
      does 0x04 (exec (.regRead h q) s) ∧ does 0x05 (exec (.regWrite h q) s)) ∧
    (∀ fail, s.accepts h q 0x51 badConfigWrite c →
      (t.hostRead (c.p 16 8) (c.p 12 4) = none →
        exec (.configWrite h ⟨q, fail⟩) s = say t { status := stInternalError, field := 16 }) ∧
      (∀ v, t.hostRead (c.p 16 8) (c.p 12 4) = some v → exec (.configWrite h ⟨q, fail⟩) s =
        if fail then say t { status := stFlashError }
        else say ((t.putConf (c.p 8 2) (c.p 12 4) v).confEffect (c.p 8 2)) {})) ∧
    (∀ fail v, s.starts h q 0x51 c → s.checks h q 0x51 noChecks c = [] → c.p 10 2 = 0 →
      confSize (c.p 8 2) = some (c.p 12 4) → c.p 16 8 % 64 = 0 → t.hostRead (c.p 16 8) (c.p 12 4) = some v →
      (∀ o, confBad (c.p 8 2) v = some o → t.unlocks (c.p 8 2) v = false →
        exec (.configWrite h ⟨q, fail⟩) s = say t { status := stInvalidField, field := 16, result := o }) ∧
      (∀ r, c.p 8 2 = 6 → t.confRec 6 = some r → bitOf r.value 0 = true → bitOf v 0 = false →
        exec (.configWrite h ⟨q, fail⟩) s = say t { status := stNotPermitted, field := 8 })) ∧
    (s.accepts h q 0x52 badStage c →
      (∀ fail, t.hostRead (c.p 8 8) (c.p 16 4) = none →
        exec (.firmwareStage h ⟨q, fail⟩) s = say t { status := stInternalError, field := 8 }) ∧
      (∀ v, t.hostRead (c.p 8 8) (c.p 16 4) = some v →
        exec (.firmwareStage h ⟨q, true⟩) s = say t { status := stFlashError } ∧
        let m := imageOf v (c.p 16 4)
        let ok := ([0, 1].filter (fun k => (s.sys.hub k).live)).all (fun k => t.authentic k m)
        ∃ u, exec (.firmwareStage h ⟨q, false⟩) s = say u { status := if ok then stSuccess else stAuthFailed } ∧
          ∀ k, k < 2 → (s.sys.hub k).live = true → (u.bootHub k).staged = ok ∧
            (u.flash k).bank (1 - (t.bootHub k).bank) = (if ok then m else {}) ∧
            (u.bootHub k).bank = (t.bootHub k).bank)) ∧
    (s.accepts h q 0x53 noChecks c →
      let job := t.lead.jobs.any (fun j => j.2.state.live)
      (∀ fail, job = true → exec (.firmwareActivate h ⟨q, fail⟩) s = say t { status := stBusy }) ∧
      (∀ fail, job = false → (t.bootHub t.lead.hub).staged = false →
        exec (.firmwareActivate h ⟨q, fail⟩) s = say t { status := stNotPermitted }) ∧
      (job = false → (t.bootHub t.lead.hub).staged = true →
        exec (.firmwareActivate h ⟨q, true⟩) s = say t { status := stFlashError } ∧
        ∃ u, exec (.firmwareActivate h ⟨q, false⟩) s =
            say u { result := ((t.flash t.lead.hub).bank (1 - (t.bootHub t.lead.hub).bank)).version } ∧
          u.boot.restartAt = some (s.sys.now + 10000000) ∧
          ∀ k, k < 2 → (s.sys.hub k).live = true → (u.hub k).ready = false ∧
            (u.flash k).try_ = some (1 - (t.bootHub k).bank) ∧ (u.flash k).tries = 1))

/-- Unit commands (R379, R484): a shed waits for the unit's drain, one without a spare left answers NO_SPARE and puts
the unit in watch, one of a unit already shed answers at once; a regrow that passes returns the unit, with a score of 0
(log entry 63) and its counts, one that fails, or of a tile that lacks a feature of the level (R524), is NOT_PERMITTED;
a watch is cleared unless scores are frozen. -/
def Obligations.UnitCommandsTakeEffect : Prop :=
  ∀ (s : State) (h q : Nat) (c : Cmd), h < 2 → q < 2048 →
    let t := s.started h q c
    let say (u : Sys) (r : Reply) : Host.Outcome State Fault Refusal := .next (s.replied h q c u r)
    let k := c.p 8 1
    let w := c.p 10 2
    let b := c.p 12 2
    let key := unitKey k w b
    (s.accepts h q 0x41 badUnit c →
      ((t.unit key).shed.isSome = true → exec (.unitShed h q) s = say t {}) ∧
      ((t.unit key).shed = none → t.spareLeft k w b = true → exec (.unitShed h q) s = .next (s.waiting h q c
        (t.startDrain k w b true) (.shed key (if k = 1 then (t.servedBy w).getD 256 else 256)))) ∧
      ((t.unit key).shed = none → t.spareLeft k w b = false → (t.unit key).watch.isSome = true →
        exec (.unitShed h q) s = say t { status := stNoSpare }) ∧
      ((t.unit key).shed = none → t.spareLeft k w b = false → (t.unit key).watch = none →
        ∃ u, exec (.unitShed h q) s = say u { status := stNoSpare } ∧ (u.unit key).watch = some s.sys.now ∧
          (u.unit key).draining = (t.unit key).draining ∧ (u.unit key).shed = none)) ∧
    (∀ pass, s.accepts h q 0x42 badRegrow c →
      (pass = false ∨ k = 3 ∨ (k = 1 ∧ t.mayJoin w = false) →
        exec (.unitRegrow h q pass) s = say t { status := stNotPermitted, field := 8 }) ∧
      (pass = true → k ≠ 3 → (k = 1 → t.mayJoin w = true) →
        exec (.unitRegrow h q pass) s = say (t.unitBack k w b) {} ∧ ((t.unitBack k w b).unit key).shed = none ∧
          ((t.unitBack k w b).unit key).score = 0 ∧ ((t.unitBack k w b).unit key).events = (t.unit key).events)) ∧
    (s.accepts h q 0x43 badUnit c →
      (t.health.frozen s.sys.now = true → exec (.unitWatchClear h q) s = say t { status := stScoreStorm }) ∧
      (t.health.frozen s.sys.now = false → (t.unit key).watch = none → exec (.unitWatchClear h q) s = say t {}) ∧
      (t.health.frozen s.sys.now = false → (t.unit key).watch.isSome = true →
        ∃ u, exec (.unitWatchClear h q) s = say u {} ∧ (u.unit key).score = 0 ∧ (u.unit key).watch = none ∧
          (u.unit key).held = false ∧ (u.unit key).shed = (t.unit key).shed))


/-- PARTITION_CREATE (R380): ID 0 or an ID that exists is refused at index 4; no tile or a tile of another partition at
index 16; with 16 partitions already it answers BUSY; else the partition is made of exactly the tiles named, no tile
store changes, and no logical tile belongs to two partitions. -/
def Obligations.PartitionCreateRules : Prop :=
  ∀ (s : State) (h q : Nat) (c : Cmd), h < 2 → q < 2048 → s.sys.Kept → s.starts h q 0x08 c → (s.sys.hub h).qpOwner q = 0 →
    let t := s.started h q c
    let m := c.p 16 30
    let parts := s.sys.lead.partitions
    let taken := parts.any (fun p => p.2.tiles &&& m ≠ 0)
    t.headBad c = [] →
    (c.partition = 0 ∨ (NMap.find parts c.partition).isSome = true → exec (.partitionCreate h q) s =
      .next (s.replied h q c t { status := stInvalidField, field := 4 })) ∧
    (c.partition ≠ 0 → NMap.find parts c.partition = none → m = 0 ∨ taken = true → exec (.partitionCreate h q) s =
      .next (s.replied h q c t { status := stInvalidField, field := 16 })) ∧
    (c.partition ≠ 0 → NMap.find parts c.partition = none → m ≠ 0 → taken = false →
      (parts.length = 16 → exec (.partitionCreate h q) s = .next (s.replied h q c t { status := stBusy })) ∧
      (parts.length < 16 → ∃ u, exec (.partitionCreate h q) s = .next u ∧ u.sys.tiles = s.sys.tiles ∧
        u.sys.lead.partitions = NMap.put parts c.partition { tiles := m } ∧
        ∀ l a b, a ≠ b → bitOf (NMap.get {} u.sys.lead.partitions a).tiles l = true →
          bitOf (NMap.get {} u.sys.lead.partitions b).tiles l = false))

/-- Partitions and groups (R33, R262, R272, R273, R355, R380, R381, R387, R388): a partition is created unless 16 exist,
is destroyed or reset unless a job of it runs (a reset then stops the jobs and waits), and a group's entries reach the
replicas of the routers; a group command waits while an epoch switch prepares. -/
def Obligations.PartitionAndGroupCommands : Prop :=
  ∀ (s : State) (h q : Nat) (c : Cmd), h < 2 → q < 2048 →
    let t := s.started h q c
    let say (u : Sys) (r : Reply) : Host.Outcome State Fault Refusal := .next (s.replied h q c u r)
    let p := c.partition
    (s.accepts h q 0x08 badPartCreate c →
      (16 ≤ s.sys.lead.partitions.length → exec (.partitionCreate h q) s = say t { status := stBusy }) ∧
      (s.sys.lead.partitions.length < 16 → exec (.partitionCreate h q) s = say (t.setLead { t.lead with
        partitions := NMap.put t.lead.partitions p { tiles := c.p 16 30 } }) {})) ∧
    (s.accepts h q 0x09 noChecks c →
      (t.partBusy p = true → exec (.partitionDestroy h q) s = say t { status := stBusy }) ∧
      (t.partBusy p = false →
        let v := (t.disablePairs (some p) 6 none).partTearDown p
        exec (.partitionDestroy h q) s =
          say (v.setLead { v.lead with partitions := NMap.erase v.lead.partitions p }) {})) ∧
    (s.accepts h q 0x0A noChecks c → s.sys.lead.waits = [] →
      (t.partBusy p = true → exec (.partitionReset h q) s = .next (s.waiting h q c
        (((NMap.keys t.lead.jobs).filter (fun n => (t.job n).spec.partition = p && (t.job n).state.live)).foldl
          (fun (u : Sys) n => u.stopJob n 0) t) (.reset_ p))) ∧
      (t.partBusy p = false →
        let v := ((t.addWait h q c.num (.reset_ p) {}).disablePairs (some p) 6 (some (h, q))).partTearDown p
        let u := (v.answerWaits (fun f => f = .reset_ p) (fun r => r)).disablePairs (some p) 6 none
        exec (.partitionReset h q) s = .next { s with sys := u })) ∧
    (∀ w, s.sys.lead.sw = some w → w.phase = 1 →
      exec (.mcastGroupSet h q) s = .next s ∧ exec (.rgroupSet h q) s = .next s) ∧
    (s.accepts h q 0x22 badMcast c → s.sys.lead.sw = none →
      let n := c.p 8 1
      (bitOf (c.p 9 1) 2 = true → exec (.mcastGroupSet h q) s = say (t.mcClear c.target n) {}) ∧
      (bitOf (c.p 9 1) 2 = false → t.hostList (c.p 16 8) 2 (c.p 10 2) = none →
        exec (.mcastGroupSet h q) s = say t { status := stInternalError, field := 16 }) ∧
      (∀ l, bitOf (c.p 9 1) 2 = false → t.hostList (c.p 16 8) 2 (c.p 10 2) = some l →
        let v := t.mcClear c.target n
        (v.mcPlace (c.mcGroup l) = none → exec (.mcastGroupSet h q) s = say t { status := stBusy }) ∧
        (∀ g e k rel x, v.mcPlace (c.mcGroup l) = some (g, e, k, rel) → memberNode s.sys.lead.place c.target = some x →
          ∃ u, exec (.mcastGroupSet h q) s = say u {} ∧ NMap.get 0 (u.replica x).mcast n = e ∧
            NMap.get 0 (u.replica x).members n = k ∧ u.lead.mcs = v.lead.mcs ++ [g]))) ∧
    (∀ l i, s.starts h q 0x22 c → s.sys.lead.sw = none → s.checks h q 0x22 noChecks c = [] → c.p 8 1 < 64 →
      bitOf (c.p 9 1) 1 = false ∨ t.offers 5 = true → bitOf (c.p 9 1) 2 = false → 1 ≤ c.p 10 2 → c.p 10 2 ≤ 242 →
      c.p 16 8 % 2 = 0 → t.hostList (c.p 16 8) 2 (c.p 10 2) = some l → i < l.length →
      let g : McGroup :=
        { holder := c.target, group := c.p 8 1, axis := bitNat (bitOf (c.p 9 1) 0), mode := bitNat (bitOf (c.p 9 1) 1)
          members := l, partition := p }
      let wrong (i : Nat) : Bool := (l.take i).contains (l.getD i 0) || !t.memberOk p (l.getD i 0) ||
        (t.mcBuild t.lead.place { g with members := [l.getD i 0] }).isNone
      wrong i = true → (∀ k, k < i → wrong k = false) →
      exec (.mcastGroupSet h q) s = say t { status := stInvalidField, field := 16, result := i }) ∧
    (s.accepts h q 0x23 badRgroup c → s.sys.lead.sw = none →
      let n := c.p 8 2
      let held := t.mesh.any (fun r => r.2.red.any (fun x => x.group = n))
      (bitOf (c.p 28 1) 0 = true → held = true → exec (.rgroupSet h q) s = say t { status := stBusy }) ∧
      (bitOf (c.p 28 1) 0 = true → held = false → exec (.rgroupSet h q) s = say (t.rgClear n) {}) ∧
      (bitOf (c.p 28 1) 0 = false → t.hostList (c.p 16 8) 2 (c.p 14 2) = none →
        exec (.rgroupSet h q) s = say t { status := stInternalError, field := 16 }) ∧
      (∀ l, bitOf (c.p 28 1) 0 = false → t.hostList (c.p 16 8) 2 (c.p 14 2) = some l →
        (held = true → exec (.rgroupSet h q) s = say t { status := stBusy }) ∧
        (held = false → ∃ u, exec (.rgroupSet h q) s = say u {} ∧
          u.lead.rgs = (t.rgClear n).lead.rgs ++ [c.rgroup l]))) ∧
    (∀ l, s.starts h q 0x23 c → s.sys.lead.sw = none → s.checks h q 0x23 noChecks c = [] → t.rgForeign c = false →
      c.p 10 1 ≤ 2 → t.offers 0 = true → 1 ≤ c.p 11 1 → c.p 11 1 ≤ 8 → 1 ≤ c.p 14 2 → c.p 14 2 ≤ 3840 → c.p 16 8 % 2 = 0 →
      bitOf (c.p 28 1) 0 = false → t.hostList (c.p 16 8) 2 (c.p 14 2) = some l →
      let wrong (i : Nat) : Bool := (l.take i).contains (l.getD i 0) || !t.contributorOk p (l.getD i 0)
      (∀ i, i < l.length → wrong i = true → (∀ k, k < i → wrong k = false) →
        exec (.rgroupSet h q) s = say t { status := stInvalidField, field := 16, result := i }) ∧
      ((∀ i, i < l.length → wrong i = false) →
        (t.rootOk (c.rgroup l) = false → exec (.rgroupSet h q) s = say t { status := stInvalidField, field := 24 }) ∧
        (t.rootOk (c.rgroup l) = true → (t.rgRootTile t.lead.place (c.rgroup l)).isSome = true →
          (t.rgClear (c.p 8 2)).rgPlace (c.rgroup l) = none →
          exec (.rgroupSet h q) s = say t { status := stInvalidField, field := 11 })))


/-- Regions, stores, code, weights and windows (R42, R111, R156, R157, R160, R161, R300, R313, R314, R316, R317, R337,
R382–R386): what each command does at its tile or hub, what it answers, and what it waits for. -/
def Obligations.StoreAndWindowCommands : Prop :=
  ∀ (s : State) (h q : Nat) (c : Cmd), h < 2 → q < 2048 →
    let t := s.started h q c
    let say (u : Sys) (r : Reply) : Host.Outcome State Fault Refusal := .next (s.replied h q c u r)
    let x := t.targetTile c
    let n := c.p 8 1
    let first := c.p 12 4
    let rows := c.p 16 4
    let addr := c.p 24 8
    (s.accepts h q 0x10 badRegionDefine c →
      let v := t.onTile x (fun y => y.regionPut n c.region (bitOf (c.p 10 1) 0))
      (bitOf (c.p 10 1) 1 = false → bitOf (c.p 10 1) 0 = false → exec (.regionDefine h q) s = say v {}) ∧
      (bitOf (c.p 10 1) 1 = false → bitOf (c.p 10 1) 0 = true → exec (.regionDefine h q) s = .next (s.waiting h q c v (.fill x))) ∧
      (∀ u, bitOf (c.p 10 1) 1 = true → v.placeShadow x n = some u →
        exec (.regionDefine h q) s = if bitOf (c.p 10 1) 0 then .next (s.waiting h q c u (.fill x)) else say u {})) ∧
    (s.accepts h q 0x11 badRegionNumber c → ∀ r, (t.tile x).store.region n = some r →
      (r.shadow = true ∨ r.partition ≠ c.partition → ∃ u, exec (.regionRelease h q) s =
        say u { status := stNotPermitted, field := 8 } ∧ u.tile x = t.tile x) ∧
      (r.shadow = false → r.partition = c.partition → (t.tx x).regionBusy n r = true → ∃ u, exec (.regionRelease h q) s =
        say u { status := stBusy } ∧ u.tile x = t.tile x) ∧
      (r.shadow = false → r.partition = c.partition → (t.tx x).regionBusy n r = false → ∃ u, exec (.regionRelease h q) s =
        .next (s.waiting h q c u (.release x n)) ∧
        NMap.find (u.tile x).store.regions n = some { r with releasing := true })) ∧
    (s.accepts h q 0x12 (badStore true) c →
      (rows = 0 → exec (.storeFill h q) s = say t { status := stSuccessEmpty }) ∧
      (rows ≠ 0 → t.storeLocked c = true → exec (.storeFill h q) s = say t { status := stNotPermitted }) ∧
      (rows ≠ 0 → t.storeLocked c = false → exec (.storeFill h q) s =
        .next (s.waiting h q c (t.onTile x (fun y => y.storeFill n first rows addr)) (.fill x)))) ∧
    (s.accepts h q 0x13 (badStore false) c →
      let l := t.hostRowsUpTo addr rows
      let v := t.onTile x (fun y => y.storeWrite n first l)
      (rows = 0 → exec (.storeWrite h q) s = say t { status := stSuccessEmpty }) ∧
      (rows ≠ 0 → t.storeLocked c = true → exec (.storeWrite h q) s = say t { status := stNotPermitted }) ∧
      (rows ≠ 0 → t.storeLocked c = false → l.length = rows → exec (.storeWrite h q) s = say v { result := rows }) ∧
      (rows ≠ 0 → t.storeLocked c = false → l.length < rows → exec (.storeWrite h q) s =
        say v { status := stInternalError, field := 24, result := l.length })) ∧
    (s.accepts h q 0x14 (badStore false) c →
      let a := (t.tx x).storeRead n first rows
      (rows = 0 → exec (.storeRead h q) s = say t { status := stSuccessEmpty }) ∧
      (rows ≠ 0 → exec (.storeRead h q) s =
        say (((List.range rows).zip a.1.1).foldl (fun (u : Sys) e => u.hostWrite (addr + 512 * e.1) 512 e.2) (t.putTX x a.2))
          { status := if a.1.2 = 0 then stSuccess else stPoisoned, result := rows + 2 ^ 32 * a.1.2 })) ∧
    (s.accepts h q 0x15 badWeightLoad c →
      let mask := c.p 10 2
      (mask = 0 → exec (.weightLoad h q) s = say t { status := stSuccessEmpty }) ∧
      (mask ≠ 0 → t.bindings (c.p 16 8) mask = none →
        exec (.weightLoad h q) s = say t { status := stInternalError, field := 16 }) ∧
      (∀ b r, mask ≠ 0 → t.bindings (c.p 16 8) mask = some b → (t.tile x).store.region n = some r →
        let check := bitOf (c.p 9 1) 0
        let st := ((t.tx x).slot (c.target % 16)).state
        let y := (t.tx x).weightLoad (c.target % 16) n b mask check
        let left := maskOf ((setBits mask 16).filter (fun m => ((y.slot (c.target % 16)).macroAt m).poisoned))
        (st = .halted ∨ st = .scalar →
          exec (.weightLoad h q) s = say ((t.putTX x y).setLead { (t.putTX x y).lead with
            weights := NMap.put (t.putTX x y).lead.weights c.target (mask, b, check) })
            { status := if left = 0 then stSuccess else stPoisoned, result := left }) ∧
        (st ≠ .halted → st ≠ .scalar →
          ∃ u, exec (.weightLoad h q) s = say u { status := stBusy } ∧ u.tile x = t.tile x))) ∧
    (∀ b r, s.starts h q 0x15 c → s.checks h q 0x15 noChecks c = [] → (t.tile x).store.region n = some r → r.cls = 1 →
      c.p 16 8 % 64 = 0 → t.bindings (c.p 16 8) (c.p 10 2) = some b →
      (r.size < weightRows b (c.p 10 2) →
        exec (.weightLoad h q) s = say t { status := stInvalidField, field := 8 }) ∧
      (∀ m, weightRows b (c.p 10 2) ≤ r.size → (setBits (c.p 10 2) 16).find? (fun m => !bindOk b m) = some m →
        exec (.weightLoad h q) s = say t { status := stInvalidField, field := 16, result := m })) ∧
    (s.accepts h q 0x18 badCodeLoad c →
      let k := c.target % 16
      (((t.tx x).slot k).state ≠ .halted →
        ∃ u, exec (.codeLoad h q) s = say u { status := stBusy } ∧ u.tile x = t.tile x) ∧
      (((t.tx x).slot k).state = .halted → exec (.codeLoad h q) s =
        say (t.putTX x (if bitOf (c.p 9 1) 0 then ((t.tx x).codeLoad k n).runCore k else (t.tx x).codeLoad k n)) {})) ∧
    (s.accepts h q 0x20 badWindowOpen c →
      let w := c.window
      let hub := c.target - 0x1200
      let g := ((NMap.get {} (t.tile x).wins.table n).gen + 1) % 256
      let gh := ((NMap.get {} (t.hub hub).egress n).gen + 1) % 256
      let v := t.tx x
      let wt : Window := { w with isOpen := true, closing := false, gen := g, landing := v.hostRing w }
      let wh : Window := { w with isOpen := true, gen := gh }
      let far := if w.cro then t.farTiles c.partition else []
      ((∃ y ∈ far, (t.tx y).farFree = none) → exec (.windowOpen h q) s = say t { status := stBusy }) ∧
      ((∀ y ∈ far, (t.tx y).farFree ≠ none) → c.target < 0x1200 →
        exec (.windowOpen h q) s = say (far.foldl (fun (u : Sys) y => u.onTile y (fun z => z.farEnter c.target n g))
          (t.putTX x (v.setWins { v.tile.wins with table := NMap.put v.tile.wins.table n wt }))) { result := g }) ∧
      ((∀ y ∈ far, (t.tx y).farFree ≠ none) → 0x1200 ≤ c.target → exec (.windowOpen h q) s =
        say (far.foldl (fun (u : Sys) y => u.onTile y (fun z => z.farEnter c.target n gh))
          (t.setHub hub { t.hub hub with egress := NMap.put (t.hub hub).egress n wh }))
          { result := gh })) ∧
    (s.accepts h q 0x21 badWindowClose c →
      let w := t.closeTarget c
      let hub := c.target - 0x1200
      let mine := c.target < 0x1200 ∨ w.partition = c.partition
      (¬ mine → exec (.windowClose h q) s = say t { status := stNotPermitted, field := 8 }) ∧
      (mine → w.landing = true ∨ w.closing = true → exec (.windowClose h q) s = say t { status := stBusy }) ∧
      (mine → w.landing = false → w.closing = false → w.cro = false → exec (.windowClose h q) s =
        say (if c.target < 0x1200 then t.onTile x (fun y => (y.closeBegin n).closeEnd n) else t.egressClose hub n) {}) ∧
      (mine → w.landing = false → w.closing = false → w.cro = true →
        let v := if c.target < 0x1200 then t.onTile x (fun y => y.closeBegin n)
          else t.setHub hub { t.hub hub with egress := NMap.put (t.hub hub).egress n { w with closing := true } }
        exec (.windowClose h q) s =
          .next (s.waiting h q c (v.sendInvalidate c.target n w.gen) (.invalidate c.target n w.gen))))


/-- Streams (R321–R325, R330, R335, R338, R361, R389): a context is opened where its record is valid and the hub's budgets
hold it, closed with its item count, and fed a new tail. -/
def Obligations.StreamCommands : Prop :=
  ∀ (s : State) (h q : Nat) (c : Cmd), h < 2 → q < 2048 →
    let t := s.started h q c
    let say (u : Sys) (r : Reply) : Host.Outcome State Fault Refusal := .next (s.replied h q c u r)
    let hub := c.target - 0x1200
    let n := c.p 8 4
    let x := (t.hub hub).ctx n
    (s.accepts h q 0x28 badStreamOpen c →
      (t.hostRead (c.p 16 8) 64 = none → exec (.streamOpen h q) s = say t { status := stInternalError, field := 16 }) ∧
      (∀ v, t.hostRead (c.p 16 8) 64 = some v →
        let new : Context := { record := v, isOpen := true }
        let fits := ((t.hubLoad hub).add (new.load (NMap.get 0 t.lead.profiles (new.f 1 1)))).fits
        (new.egress = false → fits = false → exec (.streamOpen h q) s = say t { status := stBusy }) ∧
        (new.egress = true ∨ fits = true → exec (.streamOpen h q) s =
          say (t.setHub hub ((t.hub hub).setCtx n new)) { result := n }))) ∧
    (∀ v o r a b, s.starts h q 0x28 c → s.checks h q 0x28 noChecks c = [] → n < 131072 → x.isOpen = false →
      c.p 16 8 % 64 = 0 → t.hostRead (c.p 16 8) 64 = some v →
      let new : Context := { record := v, isOpen := true }
      (if new.egress then t.egressBad hub c.partition new
        else if 1 ≤ new.kind ∧ new.kind ≤ 4 then t.ingestBad hub n c.partition new else [(0, 0)]) = a ++ (o, r) :: b →
      (∀ y ∈ a, o < y.1) → (∀ y ∈ b, o ≤ y.1) → o < 64 →
      exec (.streamOpen h q) s = say t { status := stInvalidField, field := 16, result := o }) ∧
    (s.accepts h q 0x29 badStreamClose c → ∃ z, exec (.streamClose h q) s =
      say (t.setHub hub ((t.hub hub).setCtx n z)) { result := x.items % 2 ^ 64 } ∧
      z.isOpen = false ∧ z.record = x.record ∧ z.head = x.head ∧ z.tail = x.tail ∧ z.freed = x.freed) ∧
    (s.accepts h q 0x31 badJobFeed c →
      (c.p 12 4 = x.tail → exec (.jobFeed h q) s = say t { status := stSuccessEmpty }) ∧
      (c.p 12 4 ≠ x.tail → exec (.jobFeed h q) s = say (t.setHub hub ((t.hub hub).setCtx n
        { x with tail := c.p 12 4, fed := x.fed ++ [(c.p 12 4, s.sys.now)] })) {}))

/-- Jobs (R217, R390–R403, R464): JOB_START answers BUSY, THERMAL_HOLD or POWER_DENIED, or replies ACCEPTED with the
handle and the job is LOADING at the point granted, T0 20 µs ahead; the other commands act in the job states the spec
names, are refused in the others, and wait for the job's boundary. -/
def Obligations.JobCommands : Prop :=
  ∀ (s : State) (h q : Nat) (c : Cmd), h < 2 → q < 2048 →
    let t := s.started h q c
    let mine := c.p 8 8
    let say (u : Sys) (r : Reply) : Host.Outcome State Fault Refusal := .next (s.replied h q c u r)
    let sayJob (r : Reply) : Host.Outcome State Fault Refusal := say t { r with handle := mine }
    let wait (w : WaitFor) : Sys := t.addWait h q c.num w { handle := mine }
    let n := mine % 4096
    let j := t.job n
    (s.accepts h q 0x30 badJobStart c →
      (t.jobTable c = none → exec (.jobStart h q) s = say t { status := stInternalError, field := 8 }) ∧
      (∀ l, t.jobTable c = some l → c.p 24 4 = 0 → exec (.jobStart h q) s = say t { status := stSuccessEmpty }) ∧
      (∀ l, t.jobTable c = some l → c.p 24 4 ≠ 0 →
        let spec := c.jobSpec h q l
        let slots := spec.table.map (fun e => ((t.tileOfEid e.slot).getD 0, e.slot))
        let taken (i : Nat) : Prop :=
          let e := slots.getD i (0, 0)
          (t.coreState e.1 (e.2 % 16) ≠ .halted ∧ t.coreState e.1 (e.2 % 16) ≠ .scalar) ∨ t.jobOfSlot e.2 ≠ none
        (∀ i, i < slots.length → taken i → (∀ k, k < i → ¬ taken k) →
          exec (.jobStart h q) s = say t { status := stBusy, result := i }) ∧
        ((∀ i, i < slots.length → ¬ taken i) → t.inHold = true →
          exec (.jobStart h q) s = say t { status := stThermalHold }) ∧
        ((∀ i, i < slots.length → ¬ taken i) → t.inHold = false → (∀ k o, t.newJobFits k o = false) →
          exec (.jobStart h q) s = say t { status := stPowerDenied }) ∧
        (∀ k, (∀ i, i < slots.length → ¬ taken i) → t.inHold = false → (∀ o, t.newJobFits l.length o = true) →
          (∀ i i' : Nat, i < slots.length → i' < slots.length → i ≠ i' → (slots.getD i (0, 0)).1 ≠ (slots.getD i' (0, 0)).1) →
          (∀ m, (t.job m).state.live = true → ∀ y ∈ t.jobTiles (t.job m), y ∉ slots.map (fun e => e.1)) → t.freeJobSlot = some k →
          ∃ u, exec (.jobStart h q) s = .next { s with sys := u } ∧ (u.job k).state = .loading ∧
            (u.job k).opp = spec.prefOpp ∧ (u.job k).serial = (t.lead.serial + 1) % 2 ^ 32 ∧ (u.job k).spec = spec ∧
            (u.job k).t0 = s.sys.now + 20000 ∧ u.lead.serial = (t.lead.serial + 1) % 2 ^ 32 ∧
            ((s.sys.qp h q).state = 1 → ∀ e, (s.sys.qp h q).cmds.find? (fun d => d.num = c.num) = some e →
              (u.qp h q).replies = (s.sys.qp h q).replies ++
                [{ num := c.num, cmdId := e.id, status := stAccepted, more := true, later := e.accepted
                   handle := (u.job k).handle k }])))) ∧
    (s.starts h q 0x32 c → s.checks h q 0x32 badHandle c = [] →
      let k := j.oldest
      let held : Prop := j.state = .hold ∧ j.holdCause = 2 ∧ k ∈ j.poison
      let now_ : Prop := c.p 16 4 = k % 2 ^ 32 ∧ ∀ e ∈ j.spec.table, e.slot ∈ NMap.get [] j.ends k
      (j.spec.hostCommit = false → ¬ held →
        exec (.stepCommit h q) s = sayJob { status := stNotPermitted, field := 8 }) ∧
      (j.state = .loading ∨ j.state = .replaying →
        exec (.stepCommit h q) s = sayJob { status := stNotPermitted, field := 8 }) ∧
      (j.spec.hostCommit = true → j.state = .done ∨ j.state = .failed → exec (.stepCommit h q) s = sayJob
        (if j.failStatus = stStateLost then { status := stStateLost } else { status := stInvalidField, field := 16 })) ∧
      (j.spec.hostCommit = true → j.state = .running ∨ j.state = .hold → ¬ now_ →
        exec (.stepCommit h q) s = sayJob { status := stInvalidField, field := 16 }) ∧
      (j.spec.hostCommit = true ∨ held → j.state = .running ∨ j.state = .hold → now_ → exec (.stepCommit h q) s =
        .next { s with sys := (((t.modJob n (fun j => { j with
          asked := j.asked.filter (fun a => a.1 ≠ k) ++ [(k, bitOf (c.p 20 1) 0)] })).addWait h q c.num (.stepCommit n k)
            { handle := mine }).commitSweepDone n).beginCommit n })) ∧
    (s.accepts h q 0x33 badHandle c →
      ((j.state = .hold ∧ j.holdCause = 1) ∨ (t.inHold = true ∧ j.state = .running) →
        exec (.stepReplay h q) s = sayJob { status := stThermalHold }) ∧
      (j.state ≠ .running → j.state ≠ .hold ∨ (j.holdCause ≠ 1 ∧ j.holdCause ≠ 2) →
        exec (.stepReplay h q) s = sayJob { status := stNotPermitted, field := 8 }) ∧
      ((t.inHold = false ∧ j.state = .running) ∨ (j.state = .hold ∧ j.holdCause = 2) → j.copying = false →
        exec (.stepReplay h q) s = .next { s with sys := (wait (.replay n)).beginReplay n }) ∧
      ((t.inHold = false ∧ j.state = .running) ∨ (j.state = .hold ∧ j.holdCause = 2) → j.copying = true →
        exec (.stepReplay h q) s = .next { s with sys := (wait (.replay n)).laterJob n })) ∧
    (s.accepts h q 0x35 badHandle c →
      (j.state.live = false → exec (.jobStop h q) s = sayJob { result := j.lapsCommitted }) ∧
      (j.state.live = true → bitOf (c.p 16 1) 0 = false →
        exec (.jobStop h q) s = .next { s with sys := (wait (.jobStop n)).stopJob n 0 }) ∧
      (j.state.live = true → bitOf (c.p 16 1) 0 = true → ∃ u, exec (.jobStop h q) s = .next { s with sys := u } ∧
        (u.job n).stopAtStep = some (j.stopAtStep.getD (t.currentStep j)) ∧ u.lead.waits = (wait (.jobStop n)).lead.waits)) ∧
    (s.accepts h q 0x38 badPhaseSet c →
      (j.state ≠ .running → j.state ≠ .hold → exec (.phaseSet h q) s = sayJob { status := stNotPermitted, field := 8 }) ∧
      (j.state = .running ∨ j.state = .hold → t.inHold = true → exec (.phaseSet h q) s = sayJob { status := stThermalHold }) ∧
      (j.state = .running ∨ j.state = .hold → t.inHold = false →
        let v := t.modJob n (fun j => { j with spec := { j.spec with prefOpp := c.p 16 1 } })
        let g := v.jobGroup n
        let op := v.bestOpp (v.groupW g) (v.groupPref g) j.opp
        (op = j.opp → exec (.phaseSet h q) s = say v { result := op, handle := mine }) ∧
        (op ≠ j.opp → exec (.phaseSet h q) s =
          .next { s with sys := (v.addWait h q c.num (.phase n) { handle := mine }).askOpp g op })))


/-- Step ends, commits and the frame watchdog at the lead hub (R217–R220, R396, R398, R401): a step-end notice is
counted for its step, the last one brings LAPS_DONE up; a swept step commits, is replayed on a mismatch, or is held
POISONED; a frame notice anchors the watchdog, an overdue frame is a miss. -/
def Obligations.StepsCommitsAndFrames : Prop :=
  ∀ (s : State) (n : Nat), n < 4096 →
    let j := s.sys.job n
    let k := j.oldest
    (∀ m eid step, s.mail s.sys.leadAddr = some m → m.type = 0x10 → m.sub = ncStepEnd → bitsOf m.payload 23 8 = eid →
      bitsOf m.payload 39 24 + 2 ^ 16 * bitsOf m.payload 62 40 = step → s.sys.jobOfSlot eid = some n →
      (step < k → exec .stepEnd s = .next (s.mailTaken s.sys.leadAddr)) ∧
      (k ≤ step → ∃ u, exec .stepEnd s = .next { s with sys := u } ∧ eid ∈ NMap.get [] (u.job n).ends step ∧
        ((∀ e ∈ j.spec.table, e.slot = eid ∨ e.slot ∈ NMap.get [] j.ends step) →
          (u.job n).lapsDone = max j.lapsDone (j.lapsTo (step + 1))))) ∧
    (∀ c, j.commit = some c → c.copying = false → c.step = k → (∀ t ∈ c.waitTiles, (s.sys.tile t).sweepEnded = true) →
      s.sys.cool.hold = none →
      ((∃ t ∈ c.waitTiles, (s.sys.tile t).audit.commitFailed = true) → j.state = .running → j.rewinds < 8 →
        ∃ u, exec (.commitSweepDone n) s = .next { s with sys := u } ∧ (u.job n).state = .replaying ∧
          (u.job n).lastEvent = stStepReplayed ∧ (u.job n).commit = none ∧ (u.job n).lapsCommitted = j.lapsCommitted) ∧
      ((∀ t ∈ c.waitTiles, (s.sys.tile t).audit.commitFailed = false) → k ∈ j.poison → j.asked = [] →
        ∃ u, exec (.commitSweepDone n) s = .next { s with sys := u } ∧ (u.job n).lastEvent = stPoisoned ∧
          (u.job n).lapsCommitted = j.lapsCommitted ∧ (j.holdFor = 0 → (u.job n).holdFor = 2)) ∧
      ((∀ t ∈ c.waitTiles, (s.sys.tile t).audit.commitFailed = false) → k ∉ j.poison → j.spec.hostCommit = false →
        (s.sys.ensureShadows j.spec.partition).mirrors j.spec.partition = [] →
        ∃ u, exec (.commitSweepDone n) s = .next { s with sys := u } ∧ (u.job n).lapsCommitted = j.lapsTo (k + 1))) ∧
    (∀ c, j.commit = some c → (∃ t ∈ c.waitTiles, (s.sys.tile t).sweepEnded = false) →
      exec (.commitSweepDone n) s = .next s) ∧
    (∀ m, s.mail s.sys.leadAddr = some m → m.type = 0x11 →
      (s.sys.lead.jobs.find? (fun p => p.2.state.live && p.2.spec.watch &&
        decide ((s.sys.tileOfEid p.2.spec.outputEid) = some m.src))) = some (n, j) →
      let t := nearest (bitsOf m.payload 47 0) 48 s.sys.now
      let f := nearest (bitsOf m.payload 63 48) 16 (if j.wd.anchored then j.wd.f0 + 1 else j.wd.highest)
      let due := j.wd.t0 + (f - j.wd.f0) * j.spec.cadence
      let t' := t + (j.wd.f0 - f) * j.spec.cadence
      let onTime : Prop := j.wd.anchored = true ∧ f ∉ j.wd.reported ∧ t' ≤ due + j.spec.tolerance
      ∃ u, exec .frame s = .next { s with sys := u } ∧
        (onTime → (u.job n).wd = { j.wd with highest := max j.wd.highest f }) ∧
        (¬ onTime → j.spec.stopOnMiss = false → (u.job n).wd.f0 = f ∧ (u.job n).wd.t0 = t ∧ (u.job n).wd.anchored = true) ∧
        (j.wd.anchored = true → f ∉ j.wd.reported → due + j.spec.tolerance < t' → j.spec.stopOnMiss = false →
          (u.job n).misses = satAdd 32 j.misses 1 ∧ (u.job n).missFrame = f % 2 ^ 32 ∧
          (u.job n).lastEvent = stDeadlineMissed) ∧
        (j.wd.anchored = false ∨ f ∈ j.wd.reported ∨ t' ≤ due + j.spec.tolerance → (u.job n).misses = j.misses)) ∧
    (j.state.live = true → j.spec.watch = true → j.wd.anchored = true → s.sys.cool.hold = none → j.wd.reported = [] →
      j.wd.highest = j.wd.f0 →
      let due := j.wd.t0 + j.spec.cadence
      (s.sys.now ≤ due + j.spec.tolerance + 2000 → exec (.frameOverdue n) s = .next s) ∧
      (due + j.spec.tolerance + 2000 < s.sys.now → ∃ u, exec (.frameOverdue n) s = .next { s with sys := u } ∧
        (u.job n).misses = satAdd 32 j.misses 1 ∧ (u.job n).missFrame = (j.wd.f0 + 1) % 2 ^ 32 ∧
        (u.job n).missNs = min (s.sys.now - due) (2 ^ 32 - 1) ∧ (u.job n).lastEvent = stDeadlineMissed ∧
        (u.job n).wd.reported = [j.wd.f0 + 1]))

/-- Recovery (R401, R483, R486–R488, R494–R502, R565): a slow slot is cut, a restarted slot that is not ready fails its
job, a replay purges its groups, waits 2 µs and rewinds its job or fails it STATE_LOST, a regrown tile is rebuilt,
drains end in sheds, scores decay and rise, and a hub whose heartbeats stop is lost. -/
def Obligations.RecoveryAndHealth : Prop :=
  ∀ (s : State) (n t k l : Nat), n < 4096 → t < 256 → k < 16 →
    let j := s.sys.job n
    let now := s.sys.now
    let h := s.sys.health
    ((s.sys.tile t).logical = some l → s.sys.jobOfSlot (16 * l + k) = some n →
      let late := j.frozeAt + ceilDiv (2 * j.spec.lapCc * 1000) (oppMhz j.opp) + 4000
      (now < late → exec (.freezeTimeout t k) s = .next s) ∧
      (late ≤ now → j.state = .replaying → s.sys.coreState t k = .lapRunning → (s.sys.tile t).shed = false →
        exec (.freezeTimeout t k) s = .next { s with sys :=
          (s.sys.modJob n (fun j => { j with cutAt := some now })).coreCtrl [(t, k)] 5 }) ∧
      (∀ e, s.sys.lead.recov.starting.find? (fun e => e.1 = t && e.2.1 = k) = some e →
        (s.sys.slotReady t k = true ∨ now < e.2.2 + 1000000 → exec (.slotReadyTimeout t k) s = .next s) ∧
        (s.sys.slotReady t k = false → e.2.2 + 1000000 ≤ now → j.state.live = true →
          ∃ u, exec (.slotReadyTimeout t k) s = .next { s with sys := u } ∧ (u.job n).state = .failed ∧
            (u.job n).failStatus = stInternalError ∧ (u.job n).faultEid = 16 * l + k))) ∧
    (s.sys.rewindReady n = false → exec (.replayRewind n) s = .next s) ∧
    (s.sys.rewindReady n = true →
      let p := j.spec.partition
      (j.purgedAt = none → s.sys.partGroups p ≠ [] → exec (.replayRewind n) s =
        .next { s with sys := (s.sys.purgePart p).modJob n (fun j => { j with purgedAt := some now }) }) ∧
      (∀ at_, j.purgedAt = some at_ → now < at_ + 2000 → exec (.replayRewind n) s = .next s) ∧
      (∀ y, (j.purgedAt = none ∧ s.sys.partGroups p = [] ∧ y = s.sys.purgePart p) ∨
          (∃ at_, j.purgedAt = some at_ ∧ at_ + 2000 ≤ now ∧ y = s.sys) →
        let d := y.reloadDamaged p
        let r := d.2.restoreMirrors p
        (r.1 = false ∨ d.1 = false → exec (.replayRewind n) s = .next { s with sys := r.2.failJob n stStateLost 0 }) ∧
        (r.1 = true → d.1 = true → ∃ u, exec (.replayRewind n) s = .next { s with sys := u } ∧
          (u.job n).ends = [] ∧ (u.job n).poison = [] ∧ (u.job n).commit = none ∧ (u.job n).purgedAt = none ∧
          (u.job n).lapsCommitted = j.lapsCommitted))) ∧
    ((∀ g ∈ s.sys.lead.recov.regrown, g.now_ ≠ t) → exec (.tileRebuild t) s = .next s) ∧
    (∀ g, s.sys.lead.recov.regrown.find? (fun g => g.now_ = t) = some g → s.sys.physOf g.logical = some t →
      s.sys.noSwitch = true → (∀ p ∈ s.sys.partsOf [g.logical], s.sys.partStill p = true) → (s.sys.tile t).pwr.pgood = true →
      ∃ u, exec (.tileRebuild t) s = .next { s with sys := u } ∧
        u.lead.recov.regrown = s.sys.lead.recov.regrown.filter (fun x => x.logical ≠ g.logical)) ∧
    (∀ c, let key := unitKey 2 t c
      (s.sys.unit key).draining.isSome = true → (s.sys.unit key).shed = none → (s.sys.tile t).rest = c →
      (s.sys.tile t).restValid = true → s.sys.lead.jobs = [] → t < 256 → c < 17 →
      ∃ u, exec (.drain 2 t c) s = .next { s with sys := u } ∧ (u.unit key).shed = some now ∧ (u.unit key).draining = none ∧
        (u.tile t).restValid = false) ∧
    (∀ kind wher sub since, let key := unitKey kind wher sub
      4 ≤ kind → kind ≤ 9 → unitPlaceOk kind wher sub = true → (s.sys.unit key).draining = some since → s.sys.lead.jobs = [] →
      (now < since + 60000000000 → exec (.drainLimit kind wher sub) s = .next s) ∧
      (since + 60000000000 ≤ now → exec (.drainLimit kind wher sub) s = .next { s with sys :=
        (((s.sys.modUnit key (fun u => { u with draining := none })).markShed kind wher sub false (s.sys.unit key).host).takeDown
          kind wher sub).askSwitch })) ∧
    (h.counts = [] → h.frozen now = false → (∀ e ∈ h.units, e.2.gains = [] ∧ e.2.watch = none ∧ e.2.draining = none ∧
        decayed e.2.base (now - e.2.baseAt) < 1000 * 256) →
      exec .healthSample s = .next { s with sys := { s.sys with health := { h with
        units := h.units.map (fun e => (e.1, { e.2 with score := decayed e.2.base (now - e.2.baseAt) }))
        sampled := now, removed := h.removed24 now } } }) ∧
    (∀ key ev c, h.counts = [(32 * key + ev, c)] → h.units = [] → h.frozen now = false → ev < 19 → 0 < c →
      256 * (eventPoints ev * c) < 1000 * 256 →
      let gain := 256 * eventPoints ev * c
      let v : Unit_ := { base := gain, baseAt := now, score := gain, peak := gain, gains := [(now, gain)],
                         events := satAdd 32 0 c, lastCode := eventCode ev, lastTime := now }
      exec .healthSample s = .next { s with sys := { s.sys with health := { h with
        units := [(key, v)], counts := [], sampled := now, removed := h.removed24 now } } }) ∧
    (∃ u, exec .healthRingWrite s = .next { s with sys := u } ∧ ∀ x, x < 2 → (s.sys.hub x).live = true →
      (u.flash x).ring = h.units.map (fun e => (e.1, e.2.score)) ∧ (u.flash x).ringTime = now) ∧
    (∀ e, h.frozenUntil = some e →
      (now < e → exec .scoreFreezeEnd s = .next s) ∧
      (e ≤ now → exec .scoreFreezeEnd s =
        .next { s with sys := ({ s.sys with health := { h with frozenUntil := none } } : Sys).eventBoth 7 })) ∧
    (∀ x, x < 2 → (s.sys.hub x).live = true → (s.sys.hub (1 - x)).live = true → (s.sys.bootHub (1 - x)).refOk = true →
      exec (.hubHeartbeat x) s = .next (s.withHub x { s.sys.hub x with heard := now })) ∧
    (∀ x, x < 2 →
      let o := 1 - x
      (now < (s.sys.hub o).heard + 3000000 → exec (.hubLost x) s = .next s) ∧
      ((s.sys.hub x).live = true → (s.sys.hub o).live = true → 9 ≤ (s.sys.bootHub o).step →
        (s.sys.hub o).heard + 3000000 ≤ now →
        let u := if s.sys.lead.hub = x then (s.sys.hubGone x).takeLead o else s.sys.hubGone x
        exec (.hubLost x) s = .next { s with sys := u }))


/-- Power (R57, R295, R438–R465): feeds qualify and drop, converters and domains latch off, regions power up one at a
time, the power manager reads and caps, tiles trip, droop, crack and go down, issue levels follow ceilings, and job
groups change their operating point. -/
def Obligations.PowerManagement : Prop :=
  ∀ (s : State) (t m : Nat), t < 256 → m < 8 →
    let p := s.sys.power
    let now := s.sys.now
    let x := s.sys.tx t
    let pw := (s.sys.tile t).pwr
    let feed (f : Nat) : Feed := NMap.get {} p.feeds f
    let ibc (z : State) (n : Nat) : Nat := (NMap.get {} z.sys.power.ibc n).state
    let domain (z : State) (d : Nat) : Nat := (NMap.get {} z.sys.power.domains d).state
    -- feeds (R438, R439)
    (∀ f volts ns, f < 2 → (feed f).qualified = false → 4600 ≤ volts → volts ≤ 5800 → 100000000 ≤ ns →
      ∃ z, exec (.feedQualify f volts ns) s = .next z ∧ (NMap.get {} z.sys.power.feeds f) =
        { feed f with volts := volts, qualified := true, overV := false, underV := false } ∧ z.sys.power.vFeed = volts) ∧
    (∀ f volts ns, f < 2 → (feed f).qualified = true → 50000 ≤ ns → volts < 4400 ∨ 6000 < volts →
      ((feed (1 - f)).qualified = true → ∀ d, d < 18 → domain s d = 1 ∨ domain s d = 2 →
        ibc s (2 * d + (1 - f)) = 1 ∨ ibc s (2 * d + (1 - f)) = 2) →
      ∃ z, exec (.feedDrop f volts ns) s = .next z ∧ (NMap.get {} z.sys.power.feeds f) =
        { feed f with volts := volts, qualified := false, overV := decide (volts > 6000), underV := decide (volts < 4400) } ∧
        ((feed (1 - f)).qualified = false → p.feeds.all (fun e => e.1 < 2) = true → NMap.sorted p.feeds = true →
          (z.sys.hub 0).ready = false ∧ (z.sys.hub 1).ready = false ∧ z.sys.now = now)) ∧
    -- converters and domains (R442, R451)
    (∀ n, n < 36 → ibc s n ≠ 3 →
      let partner := if n % 2 = 0 then n + 1 else n - 1
      ∃ z, exec (.ibcFault n) s = .next z ∧ ibc z n = 3 ∧ (ibc s partner = 3 → domain z (n / 2) = 3) ∧
        (ibc s partner = 1 ∨ ibc s partner = 2 → (z.sys.tad s.sys.leadAddr).inbox = (s.sys.tad s.sys.leadAddr).inbox ++
          [{ dst := s.sys.leadAddr, src := s.sys.leadAddr, type := 0x10, urgent := true, sub := ncIbcFault,
             payload := noticeWord 0 (n / 2) n 0 }])) ∧
    (∀ d, d < 18 → domain s d ≠ 3 → ∃ z, exec (.domainShort d) s = .next z ∧ domain z d = 3 ∧ ibc z (2 * d) = 3 ∧
      ibc z (2 * d + 1) = 3) ∧
    (∀ d, d < 18 → domain s d = 3 → exec (.domainShort d) s = .next s) ∧
    -- region power-up (R450)
    (∀ d, d < 16 → p.upQueue.head? = some d → p.up = none → domain s d = 0 → p.qualified ≠ [] →
      ∃ z, exec (.regionPowerUp d) s = .next z ∧ z.sys.power.up = some { region := d, since := now } ∧
        z.sys.power.upQueue = p.upQueue.filter (fun y => y ≠ d) ∧ domain z d = 1) ∧
    (∀ u at_, p.up = some u → u.paused = some at_ →
      (now < at_ + 1000000 → exec .powerupResume s = .next s) ∧
      (at_ + 1000000 ≤ now → exec .powerupResume s = .next { s with sys := { s.sys with
        power := { p with up := some { u with since := now, paused := none } } } })) ∧
    (∀ u, p.up = some u →
      (u.run now < 20000000 → exec .powerupRelease s = .next { s with sys := s.sys.settlePower }) ∧
      (20000000 ≤ u.run now → ∃ z, exec .powerupRelease s = .next z ∧ z.sys.power.up = none ∧ domain z u.region = 2)) ∧
    -- the power manager (R440, R453, R457)
    (∀ r, (Instr.pmcAllocate r).wf = true →
      let took : Sys := { s.sys with power := p.take r }
      ∃ z, exec (.pmcAllocate r) s = .next z ∧ z.sys.power.inForce = (leastCap took.caps (20000000, 0)).1 ∧
        z.sys.power.p10 = r.p10 ∧ z.sys.power.p1 = r.p1 ∧ z.sys.power.vFeed = r.vFeed ∧
        (z.sys.power.overSince.isSome = decide (took.panelMw > 1000 * z.sys.power.inForce)) ∧
        (∀ y, (∀ e ∈ r.tiles, e.tile ≠ y) → z.sys.power.ceilOf y = p.ceilOf y ∧ z.sys.power.allocOf y = p.allocOf y)) ∧
    -- tile rails (R445, R470)
    (pw.on = true → ∀ i ∈ ([.tileShort t, .thermalTrip t] : List Instr), ∃ z, exec i s = .next z ∧
      (z.sys.tile t).pwr.on = false ∧ (z.sys.tile t).pwr.pgood = false ∧ (z.sys.router t).alive = false) ∧
    (pw.on = false → exec (.tileShort t) s = .next s ∧ exec (.thermalTrip t) s = .next s) ∧
    -- current trips (R460) and issue windows (R57, R458)
    (∀ amps, pw.on = true → pw.tripped = false → (Instr.currentTrip t amps).wf = true →
      let y := (x.setPwr { pw with tripped := true, tripNote := some x.now }).bump 0xD208 15 0 1
      (10 * amps ≤ 11 * bitsOf (x.reg 0xD200) 13 0 → exec (.currentTrip t amps) s = .next (s.tileDid t x)) ∧
      (11 * bitsOf (x.reg 0xD200) 13 0 < 10 * amps → (∀ e, pw.tripNote = some e → e + 1000000 ≤ x.now) →
        exec (.currentTrip t amps) s = .next (s.tileDid t (y.note false ncPowerTrip 1 t 0 0)))) ∧
    (∀ ns, pw.on = true → pw.tripped = true →
      exec (.tripClear t ns) s = .next (s.tileDid t (if 10000 ≤ ns then x.setPwr { pw with tripped := false } else x))) ∧
    (∀ wants k, pw.on = true → k < 16 → (Instr.issueWindow t wants).wf = true →
      let ceil := pw.ceilNext.foldl (fun m c => NMap.put m c.1 c.2) pw.ceil
      let old := NMap.get 0 pw.level k
      let top := if pw.tripped then min 32 (NMap.get 64 ceil k) else NMap.get 64 ceil k
      ∃ z, exec (.issueWindow t wants) s = .next z ∧ (z.sys.tile t).pwr.ceil = ceil ∧ (z.sys.tile t).pwr.ceilNext = [] ∧
        NMap.get 0 (z.sys.tile t).pwr.level k = max (old - 8) (min (wants.getD k 0) (min top (old + 8)))) ∧
    -- droop and cracked connections (R447–R449)
    (∀ sample, pw.on = true → (Instr.droopAlarm t m sample).wf = true → ∃ z, exec (.droopAlarm t m sample) s = .next z ∧
      NMap.get 0x3FF (z.sys.tile t).pwr.droopLow m = min sample (NMap.get 0x3FF pw.droopLow m) ∧
      (let off := 0xD10C + 16 * m
       let v := x.reg off
       (z.sys.tx t).reg off = if sample < bitsOf (x.reg (0xD100 + 16 * m)) 25 16
         then putBits v 15 0 (satAdd 16 (bitsOf v 15 0) 1) else v)) ∧
    (∀ sample, pw.on = true → sample < 0x3FF → exec (.tileDroopRearm t m sample) s = .next (s.tileDid t (x.setPwr { pw with
      droopLow := NMap.put pw.droopLow m sample, droopTime := NMap.put pw.droopTime m x.now }))) ∧
    (pw.on = true → exec (.tileDroopRearm t m 0x3FF) s =
      .next (s.tileDid t (x.setPwr { pw with droopLow := NMap.erase pw.droopLow m }))) ∧
    (∀ q di dv b, q < 4 → pw.on = true → s.sys.offers 13 = true → s.sys.crackBase t q = some b → 200 ≤ di →
      (Instr.crackStepJudge t q di dv).wf = true →
      let hist := ringPush 32 (NMap.get [] pw.crackHist q) (decide (50000 * dv > 3 * b * di))
      ∃ z, exec (.crackStepJudge t q di dv) s = .next z ∧ NMap.get [] (z.sys.tile t).pwr.crackHist q = hist ∧
        (16 ≤ (hist.filter (fun h => h)).length → bitOf (z.sys.tile t).pwr.crackSuspect q = true)) ∧
    (∀ q di dv, q < 4 → s.sys.boot.ivrCal = none ∨ s.sys.offers 13 = false → exec (.crackStepJudge t q di dv) s = .next s) ∧
    (∀ a b c d, pw.on = true → (Instr.crackPhaseCheck t [a, b, c, d]).wf = true →
      let sum := a + b + c + d
      let lo := min (min a b) (min c d)
      let hi := max (max a b) (max c d)
      ∃ z, exec (.crackPhaseCheck t [a, b, c, d]) s = .next z ∧ (z.sys.tx t).reg 0xD004 = a % 65536 ∧
        (z.sys.tx t).reg 0xD010 = d % 65536 ∧
        (2000 ≤ sum → 80 * lo < sum → (z.sys.tile t).pwr.crackOpen ≠ 0) ∧
        (2000 ≤ sum → sum ≤ 80 * lo → 16 * (hi - lo) ≤ sum → (z.sys.tile t).pwr.imbalance = 0) ∧
        (z.sys.tile t).pwr.limit = decide (4000 ≤ hi) ∧
        (sum < 2000 → (z.sys.tile t).pwr = { pw with limit := decide (4000 ≤ hi) })) ∧
    -- operating points (R464, R465)
    (s.sys.jobsBySerial = [] → exec .oppGrant s = .next s) ∧
    (∀ n since, s.sys.jobsBySerial = [n] → s.sys.jobGroup n = [n] → (s.sys.job n).state ≠ .loading →
      p.overSince = some since → since + 10000000 ≤ now → 0 < (s.sys.job n).opp →
      exec .oppGrant s = .next { s with sys := s.sys.askOpp [n] ((s.sys.job n).opp - 1) }) ∧
    (∀ n, n < 4096 →
      (p.oppWait.find? (fun w => w.1 = n) = none → exec (.oppChange n) s = .next s) ∧
      (∀ w, p.oppWait.find? (fun w => w.1 = n) = some w → (s.sys.job n).state = .running →
        (∀ k ∈ s.sys.jobGroup n, (s.sys.job k).state = .running ∧ s.sys.jobFrozen (s.sys.job k) = true) →
        let u := (s.sys.jobGroup n).foldl (fun (u : Sys) k => u.thawOne k) (s.sys.applyOpp (s.sys.jobGroup n) w.2)
        exec (.oppChange n) s = .next { s with sys := u }))


/-- The rack budget manager's commands (R454, R455) and cooling (R466–R473): caps and contact, the coolant sensor, Hold,
heat balance, tile temperatures, power-down and return. -/
def Obligations.RackManagerAndCooling : Prop :=
  ∀ (s : State) (t : Nat), t < 256 →
    let now := s.sys.now
    let c := s.sys.cool
    let p := s.sys.power
    let x := s.sys.tx t
    let pw := (s.sys.tile t).pwr
    let lead := s.sys.lead.hub
    let answered (v : Nat) : State := s.withHub lead { s.sys.hub lead with mctp := some v }
    let nominal := s.sys.limit 6 2 2400
    -- PLDM (R454, R455)
    (∀ cap hb, (Instr.setPowerCap cap hb).wf = true →
      (6000 ≤ cap → cap ≤ 20000 → 1 ≤ hb → hb ≤ 60 → ∃ z, exec (.setPowerCap cap hb) s = .next z ∧
        z.sys.power.rackCap = cap ∧ z.sys.power.heartbeatS = hb ∧ z.sys.power.rackState = 1 ∧ z.sys.power.lastContact = now ∧
        (z.sys.hub lead).mctp = some (2 ^ 8 * z.sys.power.inForce)) ∧
      (cap < 6000 ∨ 20000 < cap ∨ hb < 1 ∨ 60 < hb →
        exec (.setPowerCap cap hb) s = .next (answered (Config.pldmCode 0 % 256)))) ∧
    (exec .getPowerReading s =
      let u := ({ s.sys with power := { p with rackState := 1, lastContact := now } } : Sys).updateCap
      .next { s with sys := u.setHub lead { u.hub lead with mctp := some (2 ^ 8 * (u.powerReport % 2 ^ 256)) } }) ∧
    (∃ z, exec .heartbeat s = .next z ∧ z.sys.power.rackState = 1 ∧ z.sys.power.lastContact = now ∧
      (z.sys.hub lead).mctp = some 0) ∧
    (exec .getTid s = .next (answered (Config.pldmAnswer 2)) ∧ exec .getPldmVersion s = .next (answered (Config.pldmAnswer 3)) ∧
      exec .getPldmTypes s = .next (answered (Config.pldmAnswer 4)) ∧
      exec .getPldmCommands s = .next (answered (Config.pldmAnswer 5))) ∧
    (∀ code, (Instr.unsupportedPldmCmd code).wf = true → code ∉ [2, 3, 4, 5, 0x3F01, 0x3F02, 0x3F03] →
      exec (.unsupportedPldmCmd code) s = .next (answered (Config.pldmCode 1 % 256))) ∧
    (p.rackState = 1 → p.lastContact + 1000000000 * p.heartbeatS ≤ now →
      exec .contactLost s = .next { s with sys := { s.sys with power := { p with rackState := 2, lostAt := now } } }) ∧
    (p.rackState ≠ 1 ∨ now < p.lastContact + 1000000000 * p.heartbeatS → exec .contactLost s = .next s) ∧
    (p.rackState = 2 → p.lostAt + 30000000000 ≤ now → ∃ z, exec .safeCapEntry s = .next z ∧
      z.sys.power.rackState = 3 ∧ z.sys.power.rackCap = s.sys.limit 0 4 12000 ∧
      z.sys.power.inForce = (leastCap z.sys.caps (20000000, 0)).1) ∧
    (p.rackState ≠ 2 ∨ now < p.lostAt + 30000000000 → exec .safeCapEntry s = .next s) ∧
    -- the coolant sensor (R466, R467, R471)
    (∀ inlet outlet flow status seq, (Instr.coolantSample false inlet outlet flow status seq).wf = true →
      ∃ z, exec (.coolantSample false inlet outlet flow status seq) s = .next z ∧ z.sys.cool.fails = c.fails + 1 ∧
        (2 ≤ c.fails → c.state < 3 → z.sys.cool.state = 2)) ∧
    (∀ inlet outlet flow status seq, (Instr.coolantSample true inlet outlet flow status seq).wf = true → bitOf status 1 = false →
      c.seq ≠ some seq → ∃ z, exec (.coolantSample true inlet outlet flow status seq) s = .next z ∧ z.sys.cool.inlet = inlet ∧
        z.sys.cool.outlet = outlet ∧ z.sys.cool.flow = flow ∧ z.sys.cool.fails = 0 ∧ z.sys.cool.seq = some seq ∧
        (5 * flow < nominal → c.hold = none → c.state < 3 →
          z.sys.cool.state = 3 ∧ z.sys.cool.hold = some { since := now, cause := 0 }) ∧
        (nominal ≤ 5 * flow → bitOf status 0 = false → c.flows = [] → c.state < 3 →
          z.sys.cool.state = (if 85 * nominal ≤ 100 * flow then 0 else 1) ∧ z.sys.cool.hold = c.hold.map (fun h =>
            { h with goodSince := if 85 * nominal ≤ 100 * flow then some (h.goodSince.getD now) else none })) ∧
        (85 * nominal ≤ 100 * flow → signedOf 16 inlet ≤ 4000 → z.sys.power.coolCap = 20000)) ∧
    (exec (.pumpFaultN true) s = .next { s with sys := { s.sys with cool := { c with
      pumpLow := 0, pump := bitOf c.status 0 } } }) ∧
    (2 ≤ c.pumpLow → c.hold = none → c.state < 3 → ∃ z, exec (.pumpFaultN false) s = .next z ∧ z.sys.cool.state = 3 ∧
      z.sys.cool.hold = some { since := now, cause := 2 } ∧ z.sys.cool.pump = true) ∧
    (∀ rise, (c.state ≠ 1 → exec (.slowFallAlert rise) s = .next s) ∧
      (c.state = 1 → ∃ z, exec (.slowFallAlert rise) s = .next z ∧ z.sys.cool.predict =
        if 0 < rise then some ((840 - s.sys.hottest).toNat * 125 * 1000 / rise.toNat) else none)) ∧
    (c.heats = [] → exec .heatBalanceCheck s = .next s) ∧
    (c.heats ≠ [] →
      let n := c.heats.length
      let q : Int := c.heats.foldl (· + ·) 0 * (s.sys.limit 8 2 1020 : Nat) * (s.sys.limit 10 2 3900 : Nat) / (600000000 * (n : Int))
      let fed := c.fedW.foldl (· + ·) 0 / n
      let off : Prop := 2000 ≤ fed ∧ 15 * fed < 100 * (q - (fed : Int)).natAbs
      ∃ z, exec .heatBalanceCheck s = .next z ∧ z.sys.cool.heat = q.toNat ∧ (off → z.sys.cool.unequal = c.unequal + 1) ∧
        (¬ off → z.sys.cool.unequal = 0)) ∧
    -- tile temperatures (R469)
    (∀ temps rise, pw.on = true → (Instr.tileTempSample t temps rise).wf = true →
      ∃ z, exec (.tileTempSample t temps rise) s = .next z ∧
        (∀ i, i < 8 → NMap.get 0 (z.sys.tile t).pwr.temps i = temps.getD i 0 % 4096) ∧
        (z.sys.tile t).pwr.rising = decide (8 < rise) ∧
        (∀ h, 840 ≤ (z.sys.tile t).temp → pw.hotSince = some h → h + 100000000 ≤ x.now → (z.sys.tile t).pwr.tempLimit = true) ∧
        ((z.sys.tile t).temp ≤ 760 → (z.sys.tile t).pwr.tempLimit = false ∧ (z.sys.tile t).pwr.hotSince = none)) ∧
    (∀ h, pw.on = true → pw.hotSince = some h → (s.sys.tile t).shed = false → h + 5000000000 ≤ x.now →
      exec (.thermalLimit t) s =
        .next (s.tileDid t ((x.setPwr { pw with hotSince := none }).note true ncThermalLimit 1 t 0 0))) ∧
    -- the end of Hold (R472)
    (c.hold = none → exec .holdRestore s = .next s ∧ exec .coolingPowerDown s = .next s) ∧
    (∀ h, c.hold = some h →
      (h.goodSince = none → exec .holdRestore s = .next s) ∧
      (∀ g, h.goodSince = some g → now < g + 2000000000 → exec .holdRestore s = .next s) ∧
      (∀ g, h.goodSince = some g → g + 2000000000 ≤ now → s.sys.hottest ≤ 760 → ∃ z, exec .holdRestore s = .next z ∧
        z.sys.cool.hold = none ∧ z.sys.cool.state = (if 85 * nominal ≤ 100 * c.flow then 0 else 1)) ∧
      ((h.since + 5000000000 ≤ now ∧ h.goodSince = none) ∨ 840 < s.sys.hottest → ∃ z, exec .coolingPowerDown s = .next z ∧
        z.sys.cool.hold = none ∧ z.sys.cool.state = 4 ∧ (z.sys.tile t).pwr.on = false ∧
        ∀ d, d < 16 → (NMap.get {} p.domains d).state ≠ 3 → (NMap.get {} z.sys.power.domains d).state = 0)) ∧
    (∀ since, c.coolSince = some since →
      (c.state ≠ 4 ∨ now < since + 10000000000 → exec .coolingPowerRestore s = .next s) ∧
      (c.state = 4 → since + 10000000000 ≤ now → ∃ z, exec .coolingPowerRestore s = .next z ∧ z.sys.cool.state = 0 ∧
        (z.sys.bootHub lead).step = 5 ∧ z.sys.boot.partial_ = true ∧
        z.sys.power.upQueue = (List.range 16).filter (fun d => (NMap.get {} p.domains d).state = 0)))


/-- Links (R404–R419) and Silua (R422–R428, R432): training takes what the lane tests find, a retrain stops both ends and
keeps what they hold, a link comes up at the width of its live groups, a Silua port trains, receives cells in sequence and
answers a bad one, the return map expires, and a laser's alarm takes its ports down. -/
def Obligations.LinksAndSilua : Prop :=
  ∀ (s : State) (t p m mp e k : Nat), t < 256 → p < 4 → neighbour t p = some (m, mp) → e < 8 → k < 8 →
    let now := s.sys.now
    let q := (s.sys.router t).port p
    let l := s.sys.link t p
    let far := s.sys.link m mp
    let o := (s.sys.engine e).port k
    let port (z : State) : OptPort := (z.sys.engine e).port k
    -- training and retraining of tile links
    (∀ a b, (s.sys.router t).alive = true → (s.sys.router m).alive = true → (s.sys.unit (linkKey t p)).shed = none →
      (q.link = 3 → exec (.linkTraining t p a b) s = .next s) ∧
      (q.link ≠ 3 → ∃ z, exec (.linkTraining t p a b) s = .next z ∧ (z.sys.link t p).phase = 5 ∧
        (z.sys.link t p).ctrlBad = a.ctrlBad ∧ (z.sys.link t p).roundTrip = max a.trip b.trip ∧
        (z.sys.link t p).ctrlLost = (a.ctrlLost || b.ctrlLost) ∧ ((z.sys.router t).port p).link = 2 ∧
        (q.link ≠ 2 → ((z.sys.router t).port p).wire = [] ∧ ((z.sys.router t).port p).replay = [] ∧
          ((z.sys.router t).port p).sendSeq = 0 ∧ ((z.sys.router t).port p).dead = false ∧
          (m < 256 → (z.sys.link t p).version = min a.version b.version)))) ∧
    (q.link = 3 → exec (.laneLockLost t p) s =
      .next { s with sys := s.sys.setLink t p { l with lockLost := true } }) ∧
    (q.link ≠ 3 → exec (.laneLockLost t p) s = .next s ∧ exec (.retrain t p) s = .next s) ∧
    (q.link = 3 → s.sys.retrainCause t p = none → exec (.retrain t p) s = .next s) ∧
    (∀ c, q.link = 3 → s.sys.retrainCause t p = some c →
      (∀ e ∈ tileEnds t p, (within now 1000000000 (s.sys.link e.1 e.2).retrainTimes).length + 1 ≤
        bitsOf (s.sys.tileReg e.1 (0xC020 + 0x200 * e.2)) 15 8) →
      ∃ z, exec (.retrain t p) s = .next z ∧ ((z.sys.router t).port p).link = 2 ∧ ((z.sys.router t).port p).wire = [] ∧
        ((z.sys.router t).port p).replay = q.replay ∧ (z.sys.link t p).phase = 1 ∧ (z.sys.link t p).cause = c ∧
        (z.sys.link t p).bootRetrains = l.bootRetrains + 1) ∧
    (∀ ns, q.link = 2 → l.phase = 5 → l.ctrlLost = false → (m < 256 → far.ctrlLost = false ∧ far.roundTrip ≤ 12) →
      l.roundTrip ≤ 12 → ns ≤ (if l.full then 33000 else 10000) →
      let rx := linkWidth l.version (liveGroups l.groups)
      let tx := if m < 256 then linkWidth far.version (liveGroups far.groups) else linkWidth l.version (18 - popCount l.txLost 18)
      rx ≠ 0 → tx ≠ 0 → (m, mp) ≠ (t, p) → ∃ z, exec (.linkUp t p ns) s = .next z ∧ ((z.sys.router t).port p).link = 3 ∧
        ((z.sys.router t).port p).dead = false ∧ (z.sys.link t p).phase = 6 ∧ (z.sys.link t p).rxWidth = rx ∧
        (z.sys.link t p).txWidth = tx ∧ (z.sys.link t p).lastNs = ns) ∧
    -- Silua ports
    (∀ lanes partner version, (Instr.siluaTraining e k lanes partner version).wf = true → o.role = 1 →
      (NMap.get {} (s.sys.engine e).lasers (k / 2)).alarm = false →
      let entry := s.sys.peerEntry partner
      let expected : Prop := entry.2.2 = true ∧ entry.1 = e ∧ bitOf entry.2.1 k = true ∧ partner ≠ s.sys.boot.panelId
      let live := s.sys.servingLanes e k lanes
      ∃ z, exec (.siluaTraining e k lanes partner version) s = .next z ∧ (port z).lanes = live ∧ (port z).lastTime = now ∧
        (live = 0 → (port z).link = 0 ∧ (port z).replay = [] ∧ (port z).waiting = [] ∧ (port z).credits = []) ∧
        (live ≠ 0 → ¬ expected → (port z).link = 3 ∧ (port z).peer = partner ∧ (port z).credits = []) ∧
        (live ≠ 0 → expected → (port z).link = 2 ∧ (port z).peer = partner ∧
          (port z).version = min Config.siluaVersion version) ∧
        (live ≠ 0 → expected → o.credits = [] → (port z).sendSeq = 0 ∧ (port z).recvSeq = 0 ∧
          (port z).credits = [(0, 128), (1, 256), (2, 512), (3, 128)])) ∧
    (∀ c sym, o.role ≠ 1 ∨ o.link ≠ 2 → sym < 65536 → exec (.cell e k c sym) s = .next s) ∧
    (∀ c sym, o.role = 1 → o.link = 2 → sym < 65536 →
      (15 < sym → ∃ z, exec (.cell e k c sym) s = .next z ∧ (port z).failing = true ∧ (port z).recvSeq = o.recvSeq ∧
        (port z).sent = o.sent ++ [{ idle := true, replay := true, ackValid := true, ack := (o.recvSeq + 65535) % 65536 }] ∧
        (port z).bootErr = o.bootErr + 1) ∧
      (sym ≤ 15 → c.replay = false → c.idle = false → c.seq = o.recvSeq → ∃ z, exec (.cell e k c sym) s = .next z ∧
        (port z).recvSeq = (o.recvSeq + 1) % 65536 ∧ (port z).failing = false ∧
        { idle := true, ackValid := true, ack := c.seq, cls := c.pkt.vc, credits := 1 } ∈ (port z).sent) ∧
      (sym ≤ 15 → c.replay = false → c.seq ≠ o.recvSeq → ∃ z, exec (.cell e k c sym) s = .next z ∧
        (port z).recvSeq = o.recvSeq)) ∧
    ((∀ c, c < 4 → let pool := (s.sys.straight (16 + 4 * (e % 4) + c)).port (if e < 4 then 16 else 17)
        pool.first = [] ∧ pool.relayed = []) → ∃ z, exec (.returnMapExpiry e) s = .next z ∧
      (z.sys.engine e).back = (s.sys.engine e).back.filter (fun r => !decide (now > r.since + 10000000)) ∧
      (z.sys.engine e).expired = (s.sys.engine e).expired +
        ((s.sys.engine e).back.filter (fun r => decide (now > r.since + 10000000))).length) ∧
    (∀ i power, i < 4 → power < 65536 →
      let old := NMap.get {} (s.sys.engine e).lasers i
      let v := signedOf 16 power
      let bad : Prop := v < signedOf 16 (s.sys.limit 14 2 1650) ∨ signedOf 16 (s.sys.limit 16 2 2500) < v
      ∃ z, exec (.laserSample e i power true) s = .next z ∧ (NMap.get {} (z.sys.engine e).lasers i).power = power ∧
        (NMap.get {} (z.sys.engine e).lasers i).failed = 0 ∧
        (NMap.get {} (z.sys.engine e).lasers i).warn = decide (v < signedOf 16 (s.sys.limit 12 2 1800)) ∧
        (bad → (NMap.get {} (z.sys.engine e).lasers i).alarm = true) ∧
        (bad → old.alarm = false → ((z.sys.engine e).port (2 * i)).link = 0 ∧ ((z.sys.engine e).port (2 * i + 1)).link = 0) ∧
        (¬ bad → (NMap.get {} (z.sys.engine e).lasers i).alarm = old.alarm ∧ port z = o)) ∧
    (∀ i power, i < 4 → power < 65536 → ∃ z, exec (.laserSample e i power false) s = .next z ∧
      (NMap.get {} (z.sys.engine e).lasers i).failed = (NMap.get {} (s.sys.engine e).lasers i).failed + 1 ∧
      (2 ≤ (NMap.get {} (s.sys.engine e).lasers i).failed → (NMap.get {} (z.sys.engine e).lasers i).alarm = true))


/-- Resets, start-up, recovery and the debug port (R443, R494, R505–R511, R519–R522, R528, R530, R540): what each
leaves, and the steps of the boot sequence that need no other unit. -/
def Obligations.ResetsStartUpAndDebug : Prop :=
  ∀ (s : State) (h : Nat), h < 2 →
    let now := s.sys.now
    let u := s.sys.hub h
    let b := s.sys.bootHub h
    let lead := s.sys.lead.hub
    let step (z : State) : Nat := (z.sys.bootHub h).step
    let dark (z : State) : Prop := z.sys.tiles = [] ∧ z.sys.mesh = [] ∧ z.sys.boot.flash = s.sys.boot.flash ∧
      z.sys.host = s.sys.host ∧ (z.sys.bootHub h).fuse = b.fuse ∧ (z.sys.hub h).ready = false ∧ (z.sys.hub h).live = false
    -- resets (R505)
    (s.sys.power.standby = true → exec .coldReset s = .next s) ∧
    (s.sys.power.standby = false → ∃ z, exec .coldReset s = .next z ∧ dark z ∧ z.sys.now = 0 ∧ z.sys.power.standby = true ∧
      (z.sys.tad (256 + h)).alive = true ∧ step z = 0) ∧
    (∃ z, exec .standbyRailLoss s = .next z ∧ dark z ∧ z.sys.power.standby = false ∧ z.sys.tads = []) ∧
    (u.memSpace = true → u.linkRate ≠ 0 →
      (s.sys.boot.leadKnown = true → lead = h → ∃ z, exec (.panelReset h) s = .next z ∧ dark z ∧ z.sys.now = now ∧
        (z.sys.hub h).linkRate = u.linkRate ∧ (z.sys.hub h).busMaster = u.busMaster ∧
        (z.sys.hub h).qps = u.qps.map (fun e => (e.1, { nextNum := e.2.nextNum, cause := 7 }))) ∧
      (s.sys.boot.leadKnown = false ∨ lead ≠ h →
        exec (.panelReset h) s = .next { s with sys := s.sys.log 0x0006 1 0 0 0 0 })) ∧
    (∀ t, b.armed = some t → b.step < 12 →
      (now < t + 30000000000 → exec (.bootWatchdog h) s = .next s) ∧
      (t + 30000000000 ≤ now → ∃ z, exec (.bootWatchdog h) s = .next z ∧ dark z ∧ z.sys.now = now)) ∧
    (b.armed = none → exec (.bootWatchdog h) s = .next s) ∧
    -- the boot sequence (R507, R508, R540)
    (∀ res, b.recovery = false → b.excluded = false → s.sys.power.standby = true → s.sys.boot.begun = 0 → s.sys.boot.ready = false →
      (b.step = 0 → (∀ f ∈ s.sys.power.feeds, f.2.qualified = false) → exec (.bootStep h res) s = .next s) ∧
      (b.step = 0 → (∃ f ∈ s.sys.power.feeds, f.2.qualified = true) →
        ∃ z, exec (.bootStep h res) s = .next z ∧ step z = 1 ∧ z.sys.boot.since = now) ∧
      (b.step = 1 → (s.sys.flash h).domainLost (16 + h) = false → ∃ z, exec (.bootStep h res) s = .next z ∧ step z = 2 ∧
        (z.sys.hub h).live = true ∧ (z.sys.router (256 + h)).alive = true ∧ (z.sys.engine (4 * h)).live = true ∧
        (NMap.get {} z.sys.power.domains (16 + h)).state = 2) ∧
      (b.step = 2 → res.refOk = true → b.refOk = true → res.flashOk = true →
        ∃ z, exec (.bootStep h res) s = .next z ∧ step z = 3) ∧
      (b.step = 2 → res.refOk = false → ∃ z, exec (.bootStep h res) s = .next z ∧ (z.sys.bootHub h).excluded = true ∧
        (z.sys.hub h).missing = 3) ∧
      (b.step = 2 → res.refOk = true → b.refOk = true → res.flashOk = false → ∃ z, exec (.bootStep h res) s = .next z ∧
        (z.sys.bootHub h).excluded = true ∧ (z.sys.hub h).missing = 4) ∧
      (b.step = 3 → b.claimWait = none → (s.sys.chooseBank h).2.1 = none → ∃ z, exec (.bootStep h res) s = .next z ∧
        (z.sys.bootHub h).recovery = true ∧ (z.sys.hub h).missing = 5) ∧
      (b.step = 3 → h = 0 → b.claimWait = none → (s.sys.chooseBank h).2.1 ≠ none → s.sys.boot.leadKnown = false →
        ∃ z, exec (.bootStep h res) s = .next z ∧ step z = 4 ∧ z.sys.lead.hub = 0 ∧ z.sys.boot.leadKnown = true) ∧
      (b.step = 7 → s.sys.boot.leadKnown = true → lead = h → ∃ z, exec (.bootStep h res) s = .next z ∧ step z = 8 ∧
        z.sys.boot.fixed = true)) ∧
    (b.step = 2 → s.sys.boot.begun = 0 → s.sys.boot.ready = false →
      (now < s.sys.boot.since + 120000000 → exec (.bootStepTimeout h) s = .next s) ∧
      (s.sys.boot.since + 120000000 ≤ now → ∃ z, exec (.bootStepTimeout h) s = .next z ∧ (z.sys.bootHub h).excluded = true ∧
        (z.sys.hub h).missing = if b.refOk then 4 else 3)) ∧
    -- who leads (R510)
    (b.claim = true → b.claimWait.isSome = true → s.sys.boot.leadKnown = true →
      exec (.leadClaim h) s = .next { s with sys := s.sys.followLead h }) ∧
    (b.claim = false → exec (.leadClaim h) s = .next s) ∧
    (∀ t, (s.sys.bootHub 1).claimWait = some t → (s.sys.bootHub 1).claim = false → s.sys.boot.leadKnown = false →
      (now < t + 1000000000 → exec .leadClaimTimeout s = .next s) ∧
      (t + 1000000000 ≤ now → ∃ z, exec .leadClaimTimeout s = .next z ∧ z.sys.lead.hub = 1 ∧ z.sys.boot.leadKnown = true ∧
        (z.sys.bootHub 1).step = 4)) ∧
    (s.sys.mayJoin (256 + h) = false → exec (.hubJoin h) s = .next s) ∧
    (s.sys.boot.leadKnown = true → lead = 1 - h → b.step = 4 → b.excluded = false → b.recovery = false → u.live = true →
      s.sys.mayJoin (256 + h) = true →
      ∃ z, exec (.hubJoin h) s = .next z ∧ step z = (s.sys.bootHub lead).step ∧ (z.sys.bootHub h).peer = true ∧
        ((s.sys.bootHub lead).step = 12 → (s.sys.hub lead).ready = true → (z.sys.hub h).ready = true)) ∧
    -- recovery (R522)
    (u.memSpace = true → u.linkRate ≠ 0 → b.recovery = true →
      let a := u.reg 0x50810 + 2 ^ 32 * u.reg 0x50814
      let n := u.reg 0x50818
      (n = 0 ∨ 33554432 < n ∨ a % 4096 ≠ 0 → ∃ z, exec (.hubBootRecoveryGo h) s = .next z ∧
        (z.sys.bootHub h).recStatus = stInvalidField ∧ z.sys.boot.flash = s.sys.boot.flash) ∧
      (∀ v, 0 < n → n ≤ 33554432 → a % 4096 = 0 → s.sys.hostRead a n = some v →
        (s.sys.authentic h (imageOf v n) = false → ∃ z, exec (.hubBootRecoveryGo h) s = .next z ∧
          (z.sys.bootHub h).recStatus = stAuthFailed ∧ z.sys.boot.flash = s.sys.boot.flash) ∧
        (s.sys.authentic h (imageOf v n) = true → ∃ z, exec (.hubBootRecoveryGo h) s = .next z ∧
          (z.sys.flash h).bank 0 = imageOf v n ∧ (z.sys.flash h).active = 0 ∧ z.sys.tiles = [] ∧
          (z.sys.hub h).ready = false))) ∧
    -- references (R528)
    (exec (.referenceLoss (256 + h)) s =
      .next { s with sys := s.sys.setBootHub h { b with refOk := false } }) ∧
    (∀ n, n < 256 → (s.sys.tile n).pwr.on = true →
      let v := (s.sys.killRouter n).setTad n { s.sys.tad n with alive := false }
      exec (.referenceLoss n) s = .next { s with sys := v.loseTile n }) ∧
    -- the debug port (R530)
    (b.refusals < 3 → s.sys.power.standby = true → ∃ z c, exec (.debugChallenge h) s = .next z ∧
      (z.sys.bootHub h).challenge = some c ∧ z.sys.answer = c ∧ c % 2 ^ 64 = Config.panelSerial % 2 ^ 64 ∧
      (z.sys.bootHub h).unlocked = b.unlocked) ∧
    (3 ≤ b.refusals → exec (.debugChallenge h) s = .next s) ∧
    (∀ c r t, b.challenge = some c → b.refusals < 3 → r < 2 ^ 384 → t < 2 ^ 384 →
      let ok := Config.ecdsaVerify 4 (Config.sha384 c 32) r t && !s.sys.debugDisabled h
      ∃ z, exec (.debugToken h r t) s = .next z ∧ (z.sys.bootHub h).challenge = none ∧
        (ok = true → (z.sys.bootHub h).unlocked = true ∧ (z.sys.bootHub h).refusals = b.refusals) ∧
        (ok = false → (z.sys.bootHub h).unlocked = b.unlocked ∧ (z.sys.bootHub h).refusals = b.refusals + 1)) ∧
    (∀ kind x y v, kind < 8 → v < 2 ^ 32 →
      (b.unlocked = false → exec (.debugAccess h kind x y v) s = .next s) ∧
      (b.unlocked = true → s.sys.power.standby = true →
        exec (.debugAccess h 4 x y v) s = .next { s with sys := { s.sys with answer := Mem.read u.sram x 4 } } ∧
        exec (.debugAccess h 5 x y v) s = .next (s.withHub h { u with sram := Mem.write u.sram x 4 v }) ∧
        (x < 4 → exec (.debugAccess h 0 x y v) s =
          .next { s with sys := s.sys.setBootHub h { b with cpHalted := b.cpHalted ||| 2 ^ x } })))

end
end

