-- ==== Sys2Proof/Laws/Maps.lean ====
section
/-! SUPPORT. Laws of sparse maps and byte memories: a read after a write, and that every operation keeps the sorted form. -/

namespace Sys2Proof.Machine

theorem NMap.get_append_hit {α : Type} (d : α) (a b : NMap α) (k : Nat) (h : ∀ p ∈ a, p.1 ≠ k) :
    NMap.get d (a ++ b) k = NMap.get d b k := by
  induction a with
  | nil => rfl
  | cons p r ih =>
    have hp : p.1 ≠ k := h p (by simp)
    have hr := ih (fun q hq => h q (by simp [hq]))
    cases p
    simp_all [NMap.get]

theorem NMap.get_none {α : Type} (d : α) (a : NMap α) (k : Nat) (h : ∀ p ∈ a, p.1 ≠ k) : NMap.get d a k = d := by
  have := NMap.get_append_hit d a [] k h
  simpa [NMap.get] using this

theorem NMap.get_filter {α : Type} (d : α) (m : NMap α) (f : Nat → Bool) (k : Nat) :
    NMap.get d (m.filter (fun p => f p.1)) k = if f k then NMap.get d m k else d := by
  induction m with
  | nil => simp [NMap.get]
  | cons p r ih =>
    obtain ⟨i, v⟩ := p
    by_cases hi : i = k
    · subst hi
      by_cases hf : f i
      · simp [List.filter, hf, NMap.get]
      · simp [List.filter, hf, ih]
    · by_cases hf : f i
      · simp [List.filter, hf, NMap.get, hi, ih]
      · simp [List.filter, hf, NMap.get, hi, ih]

theorem NMap.get_append {α : Type} (d : α) (a b : NMap α) (k : Nat) :
    NMap.get d (a ++ b) k = NMap.get (NMap.get d b k) a k := by
  induction a with
  | nil => rfl
  | cons p r ih => obtain ⟨i, v⟩ := p; by_cases hi : i = k <;> simp [NMap.get, hi, ih]

/-- A read of a spliced map at the spliced key reads the new pairs alone. -/
theorem NMap.get_splice_same {α : Type} (d : α) (m : NMap α) (k : Nat) (mid : NMap α) :
    NMap.get d (NMap.splice m k mid) k = NMap.get d mid k := by
  have hi := NMap.get_filter d m (fun i => decide (k < i)) k
  have lo := NMap.get_filter (NMap.get d mid k) m (fun i => decide (i < k)) k
  simp only [NMap.splice, NMap.get_append]
  simp only [Nat.lt_irrefl, decide_false] at hi lo
  simp_all

/-- A read of a spliced map at any other key reads the old map. -/
theorem NMap.get_splice_other {α : Type} (d : α) (m : NMap α) (k j : Nat) (mid : NMap α) (h : j ≠ k)
    (hm : ∀ p ∈ mid, p.1 = k) : NMap.get d (NMap.splice m k mid) j = NMap.get d m j := by
  have mid_none (e : α) : NMap.get e mid j = e := NMap.get_none e mid j (fun p hp => by have := hm p hp; omega)
  have hi := NMap.get_filter d m (fun i => decide (k < i)) j
  have lo (e : α) := NMap.get_filter e m (fun i => decide (i < k)) j
  simp only [NMap.splice, NMap.get_append, mid_none]
  rw [hi, lo]
  by_cases h1 : j < k
  · have h2 : ¬ k < j := by omega
    simp [h1, h2]
  · have h2 : k < j := by omega
    simp [h1, h2]

/-- A read after a write to the same key. -/
@[simp] theorem NMap.get_put_same {α : Type} (d : α) (m : NMap α) (k : Nat) (v : α) : NMap.get d (NMap.put m k v) k = v := by
  simp [NMap.put, NMap.get_splice_same, NMap.get]
/-- A write leaves every other key alone. -/
theorem NMap.get_put_other {α : Type} (d : α) (m : NMap α) (k j : Nat) (v : α) (h : j ≠ k) :
    NMap.get d (NMap.put m k v) j = NMap.get d m j := by
  simp [NMap.put, NMap.get_splice_other, h]
theorem NMap.get_put {α : Type} (d : α) (m : NMap α) (k j : Nat) (v : α) :
    NMap.get d (NMap.put m k v) j = if j = k then v else NMap.get d m j := by
  by_cases h : j = k
  · simp [h]
  · simp [h, NMap.get_put_other]
/-- A read after a write that lists no default value. -/
theorem NMap.get_set {α : Type} [DecidableEq α] (d : α) (m : NMap α) (k j : Nat) (v : α) :
    NMap.get d (NMap.set d m k v) j = if j = k then v else NMap.get d m j := by
  by_cases h : j = k
  · subst h
    by_cases hv : v = d <;> simp [NMap.set, NMap.get_splice_same, hv, NMap.get]
  · by_cases hv : v = d <;> simp [NMap.set, NMap.get_splice_other, h, hv]
theorem NMap.get_erase {α : Type} (d : α) (m : NMap α) (k j : Nat) :
    NMap.get d (NMap.erase m k) j = if j = k then d else NMap.get d m j := by
  by_cases h : j = k
  · subst h; simp [NMap.erase, NMap.get_splice_same, NMap.get]
  · simp [NMap.erase, NMap.get_splice_other, h]

/-- A second splice at a key replaces the first. -/
theorem NMap.splice_splice {α : Type} (m : NMap α) (k : Nat) (a b : NMap α) (h : ∀ p ∈ a, p.1 = k) :
    NMap.splice (NMap.splice m k a) k b = NMap.splice m k b := by
  have ha : a.filter (fun p => decide (p.1 < k)) = [] := by
    apply List.filter_eq_nil_iff.2
    intro p hp; have := h p hp; simp; omega
  have hb : a.filter (fun p => decide (k < p.1)) = [] := by
    apply List.filter_eq_nil_iff.2
    intro p hp; have := h p hp; simp; omega
  have h1 : m.filter (fun p => decide (p.1 < k) && decide (k < p.1)) = [] := by
    apply List.filter_eq_nil_iff.2; intro p _; simp; omega
  have h2 : m.filter (fun p => decide (k < p.1) && decide (p.1 < k)) = [] := by
    apply List.filter_eq_nil_iff.2; intro p _; simp; omega
  simp only [NMap.splice, List.filter_append, List.filter_filter, ha, hb, h1, h2, Bool.and_self]
  simp
/-- The later of two writes to a key stands. -/
@[simp] theorem NMap.put_put {α : Type} (m : NMap α) (k : Nat) (a b : α) :
    NMap.put (NMap.put m k a) k b = NMap.put m k b := by
  simp [NMap.put, NMap.splice_splice]

/-- Sorted maps as a pairwise order of keys. -/
theorem NMap.sorted_iff {α : Type} (m : NMap α) : NMap.sorted m = true ↔ m.Pairwise (fun a b => a.1 < b.1) := by
  induction m with
  | nil => simp [NMap.sorted]
  | cons a r ih =>
    cases r with
    | nil => simp [NMap.sorted]
    | cons b r =>
      simp only [NMap.sorted, Bool.and_eq_true, decide_eq_true_eq, ih, List.pairwise_cons]
      constructor
      · rintro ⟨h, hb, hr⟩
        exact ⟨by rintro p hp; rcases List.mem_cons.1 hp with rfl | hp; exact h; exact Nat.lt_trans h (hb p hp), hb, hr⟩
      · rintro ⟨h, hb, hr⟩
        exact ⟨h b (by simp), hb, hr⟩

/-- Pairs before, at and after a key in sorted order. -/
theorem NMap.sorted_join {α : Type} (a b c : NMap α) (lo hi : Nat) (ha : NMap.sorted a) (hb : NMap.sorted b)
    (hc : NMap.sorted c) (h1 : ∀ p ∈ a, p.1 < lo) (h2 : ∀ p ∈ b, lo ≤ p.1 ∧ p.1 < hi) (h3 : ∀ p ∈ c, hi ≤ p.1)
    (hlh : lo ≤ hi) : NMap.sorted (a ++ (b ++ c)) := by
  rw [NMap.sorted_iff] at *
  rw [List.pairwise_append, List.pairwise_append]
  refine ⟨ha, ⟨hb, hc, ?_⟩, ?_⟩
  · intro p hp q hq; have := h2 p hp; have := h3 q hq; omega
  · intro p hp q hq
    have := h1 p hp
    rcases List.mem_append.1 hq with hq | hq
    · have := h2 q hq; omega
    · have := h3 q hq; omega

theorem NMap.sorted_filter {α : Type} (m : NMap α) (f : Nat × α → Bool) (h : NMap.sorted m) : NMap.sorted (m.filter f) := by
  rw [NMap.sorted_iff] at *
  exact h.filter f

theorem NMap.sorted_splice {α : Type} (m : NMap α) (k : Nat) (mid : NMap α) (h : NMap.sorted m) (hs : NMap.sorted mid)
    (hm : ∀ p ∈ mid, p.1 = k) : NMap.sorted (NMap.splice m k mid) := by
  apply NMap.sorted_join _ _ _ k (k + 1) (NMap.sorted_filter _ _ h) hs (NMap.sorted_filter _ _ h)
  · intro p hp; simpa using (List.mem_filter.1 hp).2
  · intro p hp; have := hm p hp; omega
  · intro p hp
    have h := (List.mem_filter.1 hp).2
    simp at h; omega
  · omega
/-- Writing a map keeps its keys rising. -/
theorem NMap.sorted_put {α : Type} (m : NMap α) (k : Nat) (v : α) (h : NMap.sorted m) : NMap.sorted (NMap.put m k v) :=
  NMap.sorted_splice m k _ h (by simp [NMap.sorted]) (by simp)
theorem NMap.sorted_erase {α : Type} (m : NMap α) (k : Nat) (h : NMap.sorted m) : NMap.sorted (NMap.erase m k) :=
  NMap.sorted_splice m k _ h (by simp [NMap.sorted]) (by simp)
theorem NMap.sorted_set {α : Type} [DecidableEq α] (d : α) (m : NMap α) (k : Nat) (v : α) (h : NMap.sorted m) :
    NMap.sorted (NMap.set d m k v) := by
  by_cases hv : v = d
  · rw [NMap.set, if_pos hv]; exact NMap.sorted_erase m k h
  · rw [NMap.set, if_neg hv]; exact NMap.sorted_put m k v h

/-- The two halves of the canonical form. -/
theorem Memory.wf_iff (m : Mem) : Memory.wf m = true ↔ NMap.sorted m = true ∧ ∀ c ∈ m, c.2 ≠ 0 := by
  simp [Memory.wf]

theorem Memory.wf_filter (m : Mem) (f : Host.Cell → Bool) (h : Memory.wf m) : Memory.wf (m.filter f) := by
  rw [Memory.wf_iff] at *
  exact ⟨NMap.sorted_filter m f h.1, fun c hc => h.2 c (List.mem_filter.1 hc).1⟩

/-- Writing a byte keeps a memory canonical. -/
theorem Mem.wf_setByte (m : Mem) (a : Nat) (v : Byte) (h : Memory.wf m) : Memory.wf (Mem.setByte m a v) := by
  rw [Memory.wf_iff] at *
  refine ⟨NMap.sorted_set 0 m a v h.1, ?_⟩
  intro c hc
  simp only [Mem.setByte, NMap.set, NMap.splice, List.mem_append, List.mem_filter] at hc
  rcases hc with hc | hc | hc
  · exact h.2 c hc.1
  · by_cases hv : v = 0
    · rw [if_pos hv] at hc; simp at hc
    · rw [if_neg hv] at hc
      rw [List.mem_singleton.1 hc]; exact hv
  · exact h.2 c hc.1

theorem Mem.byte_setByte (m : Mem) (a b : Nat) (v : Byte) :
    Mem.byte (Mem.setByte m a v) b = if b = a then v else Mem.byte m b := by
  simp only [Mem.byte, Mem.setByte]; exact NMap.get_set (α := Byte) 0 m a b v

theorem Mem.cells_mem (a n v : Nat) : ∀ c ∈ Mem.cells a n v, a ≤ c.1 ∧ c.1 < a + n ∧ c.2 ≠ 0 := by
  induction n generalizing a v with
  | zero => simp [Mem.cells]
  | succ n ih =>
    intro c hc
    simp only [Mem.cells, List.mem_append] at hc
    rcases hc with hc | hc
    · by_cases hz : v % 256 = 0
      · simp [hz] at hc
      · simp only [hz, if_false, List.mem_singleton] at hc
        subst hc
        refine ⟨by simp, by simp, ?_⟩
        intro h0
        have := congrArg BitVec.toNat h0
        simp [BitVec.toNat_ofNat] at this
        omega
    · have := ih (a + 1) (v / 256) c hc
      exact ⟨by omega, by omega, this.2.2⟩

theorem Mem.cells_sorted (a n v : Nat) : NMap.sorted (Mem.cells a n v) := by
  induction n generalizing a v with
  | zero => rfl
  | succ n ih =>
    rw [NMap.sorted_iff]
    simp only [Mem.cells, List.pairwise_append]
    refine ⟨?_, (NMap.sorted_iff _).1 (ih (a + 1) (v / 256)), ?_⟩
    · by_cases hz : v % 256 = 0 <;> simp [hz]
    · intro p hp q hq
      have h1 := Mem.cells_mem (a + 1) n (v / 256) q hq
      by_cases hz : v % 256 = 0
      · simp [hz] at hp
      · simp [hz] at hp; subst hp; simp; omega

/-- Writing a run of bytes keeps a memory canonical. -/
theorem Mem.wf_write (m : Mem) (a n v : Nat) (h : Memory.wf m) : Memory.wf (Mem.write m a n v) := by
  have hf := Memory.wf_filter m
  rw [Memory.wf_iff]
  constructor
  · apply NMap.sorted_join _ _ _ a (a + n) (((Memory.wf_iff _).1 (hf _ h)).1) (Mem.cells_sorted a n v)
      (((Memory.wf_iff _).1 (hf _ h)).1)
    · intro p hp; simpa using (List.mem_filter.1 hp).2
    · intro p hp; have := Mem.cells_mem a n v p hp; omega
    · intro p hp; simpa using (List.mem_filter.1 hp).2
    · omega
  · intro c hc
    simp only [Mem.write, List.mem_append] at hc
    rcases hc with hc | hc | hc
    · exact ((Memory.wf_iff _).1 (hf _ h)).2 c hc
    · exact (Mem.cells_mem a n v c hc).2.2
    · exact ((Memory.wf_iff _).1 (hf _ h)).2 c hc

/-- A byte outside the written run reads as before. -/
theorem Mem.byte_write_other (m : Mem) (a n v b : Nat) (h : b < a ∨ a + n ≤ b) :
    Mem.byte (Mem.write m a n v) b = Mem.byte m b := by
  have hc (e : Byte) : NMap.get e (Mem.cells a n v) b = e :=
    NMap.get_none e _ b (fun p hp => by have := Mem.cells_mem a n v p hp; omega)
  have hi := NMap.get_filter (0 : Byte) m (fun i => decide (a + n ≤ i)) b
  have lo (e : Byte) := NMap.get_filter e m (fun i => decide (i < a)) b
  simp only [Mem.byte, Mem.write, NMap.get_append, hc]
  rw [hi, lo]
  rcases h with h | h
  · have h2 : ¬ a + n ≤ b := by omega
    simp [h, h2]
  · have h2 : ¬ b < a := by omega
    simp [h, h2]

theorem Mem.cells_byte (a n v i : Nat) (h : i < n) :
    NMap.get (0 : Byte) (Mem.cells a n v) (a + i) = BitVec.ofNat 8 (v / 256 ^ i) := by
  induction n generalizing a v i with
  | zero => omega
  | succ n ih =>
    simp only [Mem.cells, NMap.get_append]
    cases i with
    | zero =>
      have hn : NMap.get (0 : Byte) (Mem.cells (a + 1) n (v / 256)) a = 0 :=
        NMap.get_none 0 _ a (fun p hp => by have := Mem.cells_mem (a + 1) n (v / 256) p hp; omega)
      by_cases hz : v % 256 = 0
      · simp only [Nat.add_zero, hz, if_true, NMap.get, hn]
        apply BitVec.eq_of_toNat_eq
        simp [BitVec.toNat_ofNat, hz]
      · simp [hz, NMap.get]
    | succ i =>
      have := ih (a + 1) (v / 256) i (by omega)
      have e : a + 1 + i = a + (i + 1) := by omega
      rw [e] at this
      rw [this]
      have hp : v / 256 / 256 ^ i = v / 256 ^ (i + 1) := by
        rw [Nat.div_div_eq_div_mul, Nat.pow_succ, Nat.mul_comm]
      rw [hp]
      by_cases hz : v % 256 = 0
      · simp [hz, NMap.get]
      · simp only [hz, if_false, NMap.get]
        rw [if_neg (by omega)]

/-- A byte inside the written run reads what was written there. -/
theorem Mem.byte_write_same (m : Mem) (a n v i : Nat) (h : i < n) :
    Mem.byte (Mem.write m a n v) (a + i) = BitVec.ofNat 8 (v / 256 ^ i) := by
  have hi := NMap.get_filter (0 : Byte) m (fun j => decide (a + n ≤ j)) (a + i)
  have lo (e : Byte) := NMap.get_filter e m (fun j => decide (j < a)) (a + i)
  simp only [Mem.byte, Mem.write, NMap.get_append]
  rw [hi, lo]
  have h1 : ¬ a + n ≤ a + i := by omega
  have h2 : ¬ a + i < a := by omega
  have hc := Mem.cells_byte a n v i h
  rw [if_neg (by simp [h2]), if_neg (by simp [h1])]
  exact hc

/-- Copying a run of bytes between canonical memories keeps the destination canonical. -/
theorem Mem.wf_copy (src : Mem) (a : Nat) (dst : Mem) (b n : Nat) (hs : Memory.wf src) (hd : Memory.wf dst) :
    Memory.wf (Mem.copy src a dst b n) := by
  have hf := Memory.wf_filter dst
  have hsp : Memory.wf (Mem.span src a n) := Memory.wf_filter src _ hs
  rw [Memory.wf_iff] at hsp
  have hm : ∀ c ∈ Mem.span src a n, a ≤ c.1 ∧ c.1 < a + n := by
    intro c hc
    have := (List.mem_filter.1 hc).2
    simpa using this
  rw [Memory.wf_iff]
  constructor
  · apply NMap.sorted_join _ _ _ b (b + n) (((Memory.wf_iff _).1 (hf _ hd)).1) _ (((Memory.wf_iff _).1 (hf _ hd)).1)
    · intro p hp; simpa using (List.mem_filter.1 hp).2
    · intro p hp
      obtain ⟨c, hc, rfl⟩ := List.mem_map.1 hp
      have := hm c hc
      dsimp only
      omega
    · intro p hp; simpa using (List.mem_filter.1 hp).2
    · omega
    · rw [NMap.sorted_iff, List.pairwise_map]
      refine ((NMap.sorted_iff _).1 hsp.1).imp_of_mem ?_
      intro p q hp hq hpq
      have := hm p hp
      have := hm q hq
      dsimp only
      omega
  · intro c hc
    simp only [Mem.copy, List.mem_append] at hc
    rcases hc with hc | hc | hc
    · exact ((Memory.wf_iff _).1 (hf _ hd)).2 c hc
    · obtain ⟨p, hp, rfl⟩ := List.mem_map.1 hc
      exact hsp.2 p hp
    · exact ((Memory.wf_iff _).1 (hf _ hd)).2 c hc

end Sys2Proof.Machine
end

