-- ==== Sys2Proof/Laws/Kept.lean ====
section
/-! SUPPORT. What every operation on the panel keeps: the partitions stay apart and host memory stays canonical (`Sys.Kept`),
one law per operation but the creation of a partition. First the laws for the shapes that operations are built from. -/

namespace Sys2Proof.Machine

theorem Kept.fold {α : Type} {f : Sys → α → Sys} {s : Sys} {l : List α} (h : s.Kept)
    (hf : ∀ u a, Sys.Kept u → (f u a).Kept) : (l.foldl f s).Kept := by
  induction l generalizing s with
  | nil => exact h
  | cons a l ih => exact ih (hf _ _ h)
theorem Kept.fold2 {α β : Type} {f : β × Sys → α → β × Sys} {s : β × Sys} {l : List α} (h : s.2.Kept)
    (hf : ∀ u a, Sys.Kept u.2 → (f u a).2.Kept) : (l.foldl f s).2.Kept := by
  induction l generalizing s with
  | nil => exact h
  | cons a l ih => exact ih (hf _ _ h)
theorem NMap.erase_sublist {α : Type} (m : NMap α) (k : Nat) (h : NMap.sorted m = true) : (NMap.erase m k).Sublist m := by
  rw [NMap.sorted_iff] at h
  unfold NMap.erase NMap.splice
  rw [List.nil_append]
  induction m with
  | nil => exact List.Sublist.refl _
  | cons a r ih =>
    rw [List.pairwise_cons] at h
    by_cases c : a.1 < k
    · have d : ¬ k < a.1 := by omega
      simp only [List.filter_cons, c, d, decide_true, decide_false, if_true, List.cons_append]
      exact List.Sublist.cons_cons a (ih h.2)
    · have e : (a :: r).filter (fun p => decide (p.1 < k)) = [] := by
        rw [List.filter_eq_nil_iff]
        intro b hb
        rcases List.mem_cons.1 hb with rfl | hb
        · simpa using c
        · have := h.1 b hb; simp; omega
      rw [e]; exact List.filter_sublist
theorem PartitionsApart.nil : PartitionsApart [] := ⟨rfl, Nat.zero_le _, (fun _ h => nomatch h), List.Pairwise.nil⟩
theorem PartitionsApart.erase {m : NMap Partition} (h : PartitionsApart m) (p : Nat) : PartitionsApart (NMap.erase m p) :=
  have e := NMap.erase_sublist m p h.1
  ⟨NMap.sorted_erase _ _ h.1, Nat.le_trans e.length_le h.2.1, fun x hx => h.2.2.1 x (e.subset hx), h.2.2.2.sublist e⟩
/-- What an optional panel is, where there is one. -/
structure Kept.Opt (o : Option Sys) : Prop where
  out : ∀ u, o = some u → u.Kept
structure Kept.OptP {α : Type} (o : Option (α × Sys)) : Prop where
  out : ∀ u, o = some u → u.2.Kept
theorem Kept.none_ : Kept.Opt none := ⟨fun _ h => nomatch h⟩
theorem Kept.noneP {α : Type} : Kept.OptP (none : Option (α × Sys)) := ⟨fun _ h => nomatch h⟩
theorem Kept.some_ {s : Sys} (h : s.Kept) : Kept.Opt (some s) := ⟨fun _ e => Option.some.inj e ▸ h⟩
theorem Kept.someP {α : Type} {a : α} {s : Sys} (h : s.Kept) : Kept.OptP (some (a, s)) := ⟨fun _ e => Option.some.inj e ▸ h⟩
theorem Kept.get {s : Sys} (h : Kept.Opt (some s)) : s.Kept := h.out s rfl
theorem Kept.getP {α : Type} {a : α} {s : Sys} (h : Kept.OptP (some (a, s))) : s.Kept := h.out _ rfl
theorem Kept.getD {o : Option Sys} {s : Sys} (h : Kept.Opt o) (k : s.Kept) : (o.getD s).Kept := by
  cases o with
  | none => exact k
  | some u => exact h.out u rfl
theorem Kept.map {α β : Type} {o : Option β} {f : β → α} {s : Sys} (h : s.Kept) : Kept.OptP (o.map (fun p => (f p, s))) := by
  cases o with
  | none => exact Kept.noneP
  | some _ => exact Kept.someP h
theorem Kept.pair {α : Type} {y : α × Sys} {a : α} {s : Sys} (e : y = (a, s)) (h : y.2.Kept) : s.Kept := by
  subst e; exact h
theorem Kept.ofSome {y : Option Sys} {s : Sys} (e : y = some s) (h : Kept.Opt y) : s.Kept := h.out _ e
theorem Kept.ofSomeP {α : Type} {y : Option (α × Sys)} {a : α} {s : Sys} (e : y = some (a, s)) (h : Kept.OptP y) : s.Kept :=
  h.out _ e
theorem Kept.let {x : Sys} {p : Prop} (h : x.Kept) (k : x.Kept → p) : p := k h
theorem Kept.let2 {α : Type} {x : α × Sys} {p : Prop} (h : x.2.Kept) (k : x.2.Kept → p) : p := k h
theorem Kept.letO {x : Option Sys} {p : Prop} (h : Kept.Opt x) (k : Kept.Opt x → p) : p := k h
theorem Kept.letP {α : Type} {x : Option (α × Sys)} {p : Prop} (h : Kept.OptP x) (k : Kept.OptP x → p) : p := k h
theorem Kept.ite {c : Prop} [Decidable c] {a b : Sys} (x : c → a.Kept) (y : ¬c → b.Kept) :
    Sys.Kept (if c then a else b) := by
  by_cases h : c
  · rw [if_pos h]; exact x h
  · rw [if_neg h]; exact y h
theorem Kept.ite2 {α : Type} {c : Prop} [Decidable c] {a b : α × Sys} (x : c → a.2.Kept) (y : ¬c → b.2.Kept) :
    Sys.Kept (if c then a else b).2 := by
  by_cases h : c
  · rw [if_pos h]; exact x h
  · rw [if_neg h]; exact y h
theorem Kept.update {x : Sys} {a b c d e f g h i j l m n o p q r} (k : x.Kept) :
    Sys.Kept { now := a, fresh := b, tiles := c, replicas := d, mesh := e, straights := f, tads := g, links := h, hubs := i
               engines := j, lead := x.lead, power := l, cool := m, health := n, boot := o, host := x.host, hostBad := p
               answer := q, irqs := r } := k
theorem Kept.updateL {x : Sys} {a b c d e f g h i j l m n o p q r} {z : Lead} (k : x.Kept)
    (t : z.partitions = x.lead.partitions) :
    Sys.Kept { now := a, fresh := b, tiles := c, replicas := d, mesh := e, straights := f, tads := g, links := h, hubs := i
               engines := j, lead := z, power := l, cool := m, health := n, boot := o, host := x.host, hostBad := p
               answer := q, irqs := r } := ⟨t ▸ k.1, k.2⟩
theorem Kept.updateN {x : Sys} {a b c d e f g h i j l m n o p q r} {z : Lead} (k : x.Kept)
    (t : z.partitions = []) :
    Sys.Kept { now := a, fresh := b, tiles := c, replicas := d, mesh := e, straights := f, tads := g, links := h, hubs := i
               engines := j, lead := z, power := l, cool := m, health := n, boot := o, host := x.host, hostBad := p
               answer := q, irqs := r } := ⟨t ▸ PartitionsApart.nil, k.2⟩
theorem Kept.setLead {x : Sys} {l : Lead} (k : x.Kept) (e : l.partitions = x.lead.partitions) :
    (x.setLead l).Kept := ⟨e ▸ k.1, k.2⟩
theorem Kept.modLead {x : Sys} {f : Lead → Lead} (k : x.Kept)
    (e : ∀ l, (f l).partitions = l.partitions) : (x.modLead f).Kept :=
  ⟨(e x.lead).symm ▸ k.1, k.2⟩
theorem Kept.dropPart {x : Sys} {p : Nat} (k : x.Kept) :
    (x.modLead (fun l => { l with partitions := NMap.erase l.partitions p })).Kept :=
  ⟨PartitionsApart.erase k.1 p, k.2⟩

theorem Sys.setTile_kept (s : Sys) (t : Nat) (v : Tile) (hs : s.Kept) : Sys.Kept (Sys.setTile s t v) := by
  unfold Sys.setTile
  with_reducible repeat' (first | assumption | apply Kept.update)
theorem Sys.setRouter_kept (s : Sys) (n : Nat) (v : Router) (hs : s.Kept) : Sys.Kept (Sys.setRouter s n v) := by
  unfold Sys.setRouter
  with_reducible repeat' (first | assumption | apply Kept.update)
theorem Sys.setStraight_kept (s : Sys) (n : Nat) (v : Straight) (hs : s.Kept) : Sys.Kept (Sys.setStraight s n v) := by
  unfold Sys.setStraight
  with_reducible repeat' (first | assumption | apply Kept.update)
theorem Sys.setTad_kept (s : Sys) (n : Nat) (v : TRouter) (hs : s.Kept) : Sys.Kept (Sys.setTad s n v) := by
  unfold Sys.setTad
  with_reducible repeat' (first | assumption | apply Kept.update)
theorem Sys.setReplica_kept (s : Sys) (n : Nat) (v : Replica) (hs : s.Kept) : Sys.Kept (Sys.setReplica s n v) := by
  unfold Sys.setReplica
  with_reducible repeat' (first | assumption | apply Kept.update)
theorem Sys.setHub_kept (s : Sys) (h_ : Nat) (v : Hub) (hs : s.Kept) : Sys.Kept (Sys.setHub s h_ v) := by
  unfold Sys.setHub
  with_reducible repeat' (first | assumption | apply Kept.update)
theorem Sys.setEngine_kept (s : Sys) (e : Nat) (v : Engine) (hs : s.Kept) : Sys.Kept (Sys.setEngine s e v) := by
  unfold Sys.setEngine
  with_reducible repeat' (first | assumption | apply Kept.update)
theorem Sys.setLink_kept (s : Sys) (t p : Nat) (v : TileLink) (hs : s.Kept) : Sys.Kept (Sys.setLink s t p v) := by
  unfold Sys.setLink
  with_reducible repeat' (first | assumption | apply Kept.update)
theorem Sys.modHub_kept (s : Sys) (h_ : Nat) (f : Hub → Hub) (hs : s.Kept) : Sys.Kept (Sys.modHub s h_ f) := by
  unfold Sys.modHub
  with_reducible repeat' (first | assumption | apply Sys.setHub_kept)
theorem Sys.modTile_kept (s : Sys) (t : Nat) (f : Tile → Tile) (hs : s.Kept) : Sys.Kept (Sys.modTile s t f) := by
  unfold Sys.modTile
  with_reducible repeat' (first | assumption | apply Sys.setTile_kept)
theorem Sys.queueNotice_kept (s : Sys) (n : Nat) (urgent : Bool) (code payload : Nat) (hs : s.Kept)
    : Sys.Kept (Sys.queueNotice s n urgent code payload) := by
  unfold Sys.queueNotice
  with_reducible repeat' (first
    | assumption | (intro _)
    | (extract_lets +onlyGivenNames x; apply Kept.let (x := x); rotate_left; intro hx; clear_value x; rotate_left; subst x)
    | (extract_lets +onlyGivenNames x; clear_value x) | apply Kept.ite | apply Sys.setTad_kept
    | apply Sys.modTile_kept)
theorem Sys.sendMsg_kept (s : Sys) (n : Nat) (m : TMsg) (hs : s.Kept) : Sys.Kept (Sys.sendMsg s n m) := by
  unfold Sys.sendMsg
  with_reducible repeat' (first
    | assumption | (extract_lets +onlyGivenNames x; clear_value x) | split | apply Sys.setTad_kept)
theorem Sys.toLocal_kept (s : Sys) (n : Nat) (p : Packet) (hs : s.Kept) : Sys.Kept (Sys.toLocal s n p) := by
  unfold Sys.toLocal
  with_reducible repeat' (first
    | assumption | (extract_lets +onlyGivenNames x; clear_value x) | apply Sys.setRouter_kept)
theorem Sys.scored_kept (s : Sys) (kind wher sub ev n : Nat) (hs : s.Kept) : Sys.Kept (Sys.scored s kind wher sub ev n) := by
  unfold Sys.scored
  with_reducible repeat' (first | assumption | (extract_lets +onlyGivenNames x; clear_value x) | apply Kept.update)
theorem Sys.deliverOut_kept (s : Sys) (t : Nat) (o : Out) (hs : s.Kept) : Sys.Kept (Sys.deliverOut s t o) := by
  unfold Sys.deliverOut
  with_reducible repeat' (first
    | assumption | (extract_lets +onlyGivenNames x; clear_value x) | split | apply Sys.queueNotice_kept
    | apply Sys.toLocal_kept | apply Sys.sendMsg_kept | apply Sys.setStraight_kept | apply Sys.scored_kept)
theorem Sys.putTX_kept (s : Sys) (t : Nat) (x : TX) (hs : s.Kept) : Sys.Kept (Sys.putTX s t x) := by
  unfold Sys.putTX
  with_reducible repeat' (first
    | assumption | (intro _)
    | (extract_lets +onlyGivenNames x; apply Kept.let (x := x); rotate_left; intro hx; clear_value x; rotate_left; subst x)
    | apply Sys.setTile_kept | apply Sys.deliverOut_kept | apply Kept.fold | apply Kept.update)
theorem Sys.onTile_kept (s : Sys) (t : Nat) (f : TX → TX) (hs : s.Kept) : Sys.Kept (Sys.onTile s t f) := by
  unfold Sys.onTile
  with_reducible repeat' (first | assumption | (intro _) | apply Kept.ite | apply Sys.putTX_kept)
theorem Sys.askTile_kept {α : Type} (s : Sys) (t : Nat) (f : TX → α × TX) (hs : s.Kept)
    : Sys.Kept (Sys.askTile s t f).2 := by
  unfold Sys.askTile
  with_reducible repeat' (first
    | assumption | (extract_lets +onlyGivenNames x; clear_value x) | apply Sys.putTX_kept)
theorem Sys.modUnit_kept (s : Sys) (key : Nat) (f : Unit_ → Unit_) (hs : s.Kept) : Sys.Kept (Sys.modUnit s key f) := by
  unfold Sys.modUnit
  with_reducible repeat' (first | assumption | (extract_lets +onlyGivenNames x; clear_value x) | apply Kept.update)
theorem Sys.msix_kept (s : Sys) (h_ v : Nat) (hs : s.Kept) : Sys.Kept (Sys.msix s h_ v) := by
  unfold Sys.msix
  with_reducible repeat' (first
    | assumption | (intro _) | (extract_lets +onlyGivenNames x; clear_value x) | apply Kept.ite
    | apply Sys.setHub_kept | apply Kept.update)
theorem Sys.eventMsg_kept (s : Sys) (h_ : Nat) (hs : s.Kept) : Sys.Kept (Sys.eventMsg s h_) := by
  unfold Sys.eventMsg
  with_reducible repeat' (first
    | assumption | (intro _) | (extract_lets +onlyGivenNames x; clear_value x) | apply Kept.ite | apply Sys.msix_kept)
theorem Sys.event_kept (s : Sys) (h_ bit : Nat) (hs : s.Kept) : Sys.Kept (Sys.event s h_ bit) := by
  unfold Sys.event
  with_reducible repeat' (first
    | assumption | (intro _)
    | (extract_lets +onlyGivenNames x; apply Kept.let (x := x); rotate_left; intro hx; clear_value x; rotate_left; subst x)
    | (extract_lets +onlyGivenNames x; clear_value x) | apply Kept.ite | apply Sys.setHub_kept
    | apply Sys.eventMsg_kept)
theorem Sys.eventBoth_kept (s : Sys) (bit : Nat) (hs : s.Kept) : Sys.Kept (Sys.eventBoth s bit) := by
  unfold Sys.eventBoth
  with_reducible repeat' (first | assumption | apply Sys.event_kept)
theorem Sys.logPart_kept (s : Sys) (code sev kind wher sub part detail : Nat) (hs : s.Kept)
    : Sys.Kept (Sys.logPart s code sev kind wher sub part detail) := by
  unfold Sys.logPart
  with_reducible repeat' (first
    | assumption | (intro _)
    | (extract_lets +onlyGivenNames x; apply Kept.let (x := x); rotate_left; intro hx; clear_value x; rotate_left; subst x)
    | (extract_lets +onlyGivenNames x; clear_value x) | apply Kept.ite | apply Sys.eventBoth_kept | apply Kept.modLead
    | exact rfl)
theorem Sys.log_kept (s : Sys) (code sev kind wher sub detail : Nat) (hs : s.Kept)
    : Sys.Kept (Sys.log s code sev kind wher sub detail) := by
  unfold Sys.log
  with_reducible repeat' (first | assumption | apply Sys.logPart_kept)
theorem Sys.hostWrite_kept (s : Sys) (a n v : Nat) (hs : s.Kept) : Sys.Kept (Sys.hostWrite s a n v) := by
  exact ⟨hs.1, Mem.wf_write _ _ _ _ hs.2⟩
theorem Sys.bumpTile_kept (s : Sys) (t off hi lo n : Nat) (hs : s.Kept) : Sys.Kept (Sys.bumpTile s t off hi lo n) := by
  unfold Sys.bumpTile
  with_reducible repeat' (first | assumption | (intro _) | apply Kept.ite | apply Sys.modTile_kept)
theorem Sys.setTileReg_kept (s : Sys) (t off v : Nat) (hs : s.Kept) : Sys.Kept (Sys.setTileReg s t off v) := by
  unfold Sys.setTileReg
  with_reducible repeat' (first | assumption | apply Sys.modTile_kept)
theorem Sys.noteAt_kept (s : Sys) (n : Nat) (urgent : Bool) (code kind wher sub detail : Nat) (hs : s.Kept)
    : Sys.Kept (Sys.noteAt s n urgent code kind wher sub detail) := by
  unfold Sys.noteAt
  with_reducible repeat' (first | assumption | apply Sys.queueNotice_kept)
theorem Sys.discard_kept (s : Sys) (n : Nat) (p : Packet) (cause : Nat) (hs : s.Kept)
    : Sys.Kept (Sys.discard s n p cause) := by
  unfold Sys.discard
  with_reducible repeat' (first
    | assumption | (intro _)
    | (extract_lets +onlyGivenNames x; apply Kept.let (x := x); rotate_left; intro hx; clear_value x; rotate_left; subst x)
    | apply Kept.ite | apply Sys.bumpTile_kept | apply Sys.noteAt_kept)
theorem Sys.arrive_kept (s : Sys) (n p : Nat) (pkt : Packet) (hs : s.Kept) : Sys.Kept (Sys.arrive s n p pkt) := by
  unfold Sys.arrive
  with_reducible repeat' (first
    | assumption | (intro _) | (extract_lets +onlyGivenNames x; have q a := Sys.Kept (x a); subst x)
    | (extract_lets +onlyGivenNames x; clear_value x) | apply Kept.ite | split | apply Sys.discard_kept
    | apply Sys.setRouter_kept)
theorem Sys.scoreLink_kept (s : Sys) (n p : Nat) (hs : s.Kept) : Sys.Kept (Sys.scoreLink s n p) := by
  unfold Sys.scoreLink
  with_reducible repeat' (first
    | assumption | (intro _)
    | (extract_lets +onlyGivenNames x; apply Kept.let (x := x); rotate_left; intro hx; clear_value x; rotate_left; subst x)
    | (extract_lets +onlyGivenNames x; clear_value x) | apply Kept.ite | apply Kept.ite2 | split | apply Sys.scored_kept
    | refine Kept.pair (by assumption) ?_ | refine Kept.ofSomeP (by assumption) ?_
    | refine Kept.ofSome (by assumption) ?_ | apply Kept.fold | apply Kept.fold2 | apply Kept.modLead | apply Kept.some_
    | exact Kept.none_ | apply Kept.someP | exact Kept.noneP | apply Kept.update | exact rfl)
theorem Sys.crcError_kept (s : Sys) (n p : Nat) (hs : s.Kept) : Sys.Kept (Sys.crcError s n p) := by
  unfold Sys.crcError
  with_reducible repeat' (first
    | assumption | (intro _)
    | (extract_lets +onlyGivenNames x; apply Kept.let (x := x); rotate_left; intro hx; clear_value x; rotate_left; subst x)
    | (extract_lets +onlyGivenNames x; clear_value x) | apply Kept.ite | apply Kept.ite2 | split
    | apply Sys.setRouter_kept | apply Sys.bumpTile_kept | apply Sys.setLink_kept | apply Sys.scoreLink_kept
    | refine Kept.pair (by assumption) ?_ | refine Kept.ofSomeP (by assumption) ?_
    | refine Kept.ofSome (by assumption) ?_ | apply Kept.fold | apply Kept.fold2 | apply Kept.modLead | apply Kept.some_
    | exact Kept.none_ | apply Kept.someP | exact Kept.noneP | apply Kept.update | exact rfl)
theorem Sys.refuseAtLocal_kept (s : Sys) (n : Nat) (p : Packet) (carried : Bool) (hs : s.Kept)
    : Sys.Kept (Sys.refuseAtLocal s n p carried) := by
  unfold Sys.refuseAtLocal
  with_reducible repeat' (first
    | assumption | (intro _)
    | (extract_lets +onlyGivenNames x; apply Kept.let (x := x); rotate_left; intro hx; clear_value x; rotate_left; subst x)
    | (extract_lets +onlyGivenNames x; clear_value x) | apply Kept.ite | apply Kept.ite2 | split
    | apply Sys.bumpTile_kept | apply Sys.toLocal_kept | apply Sys.setRouter_kept | refine Kept.pair (by assumption) ?_
    | refine Kept.ofSomeP (by assumption) ?_ | refine Kept.ofSome (by assumption) ?_ | apply Kept.fold
    | apply Kept.fold2 | apply Kept.modLead | apply Kept.some_ | exact Kept.none_ | apply Kept.someP | exact Kept.noneP
    | apply Kept.update | exact rfl)
theorem Sys.routerReceive_kept (s : Sys) (n p : Nat) (bad : Bool) (hs : s.Kept)
    : Sys.Kept (Sys.routerReceive s n p bad) := by
  unfold Sys.routerReceive
  with_reducible repeat' (first
    | assumption | (intro _)
    | (extract_lets +onlyGivenNames x; apply Kept.let (x := x); rotate_left; intro hx; clear_value x; rotate_left; subst x)
    | (extract_lets +onlyGivenNames x; clear_value x) | apply Kept.ite | apply Kept.ite2 | split
    | apply Sys.setRouter_kept | apply Sys.arrive_kept | apply Sys.refuseAtLocal_kept | apply Sys.crcError_kept
    | refine Kept.pair (by assumption) ?_ | refine Kept.ofSomeP (by assumption) ?_
    | refine Kept.ofSome (by assumption) ?_ | apply Kept.fold | apply Kept.fold2 | apply Kept.modLead | apply Kept.some_
    | exact Kept.none_ | apply Kept.someP | exact Kept.noneP | apply Kept.update | exact rfl)
theorem Sys.refreshChoices_kept (s : Sys) (n : Nat) (hs : s.Kept) : Sys.Kept (Sys.refreshChoices s n) := by
  unfold Sys.refreshChoices
  with_reducible repeat' (first
    | assumption | (intro _) | (extract_lets +onlyGivenNames x; clear_value x) | apply Kept.ite | split
    | apply Sys.setRouter_kept | apply Kept.fold)
theorem Sys.ejectAt_kept (s : Sys) (n c : Nat) (p : Packet) (hs : s.Kept) : Sys.Kept (Sys.ejectAt s n c p) := by
  unfold Sys.ejectAt
  with_reducible repeat' (first
    | assumption | (intro _)
    | (extract_lets +onlyGivenNames x; apply Kept.let (x := x); rotate_left; intro hx; clear_value x; rotate_left; subst x)
    | (extract_lets +onlyGivenNames x; clear_value x) | apply Kept.ite | apply Kept.ite2 | split
    | apply Sys.bumpTile_kept | apply Sys.setStraight_kept | apply Sys.setRouter_kept
    | refine Kept.pair (by assumption) ?_ | refine Kept.ofSomeP (by assumption) ?_
    | refine Kept.ofSome (by assumption) ?_ | apply Kept.fold | apply Kept.fold2 | apply Kept.modLead | apply Kept.some_
    | exact Kept.none_ | apply Kept.someP | exact Kept.noneP | apply Kept.update | exact rfl)
theorem Sys.linkSend_kept (s : Sys) (n o c : Nat) (pkt : Packet) (entering : Bool) (hs : s.Kept)
    : Sys.Kept (Sys.linkSend s n o c pkt entering) := by
  unfold Sys.linkSend
  with_reducible repeat' (first
    | assumption | (intro _)
    | (extract_lets +onlyGivenNames x; apply Kept.let (x := x); rotate_left; intro hx; clear_value x; rotate_left; subst x)
    | (extract_lets +onlyGivenNames x; clear_value x) | apply Kept.ite | split | apply Sys.setRouter_kept
    | apply Sys.bumpTile_kept)
theorem Sys.countEcc_kept (s : Sys) (n : Nat) (e : SlotEcc) (hs : s.Kept) : Sys.Kept (Sys.countEcc s n e) := by
  unfold Sys.countEcc
  with_reducible repeat' (first
    | assumption | (intro _)
    | (extract_lets +onlyGivenNames x; apply Kept.let (x := x); rotate_left; intro hx; clear_value x; rotate_left; subst x)
    | (extract_lets +onlyGivenNames x; clear_value x) | apply Kept.ite | apply Kept.ite2 | split
    | apply Sys.bumpTile_kept | refine Kept.pair (by assumption) ?_ | refine Kept.ofSomeP (by assumption) ?_
    | refine Kept.ofSome (by assumption) ?_ | apply Kept.fold | apply Kept.fold2 | apply Kept.modLead | apply Kept.some_
    | exact Kept.none_ | apply Kept.someP | exact Kept.noneP | apply Kept.update | exact rfl)
theorem Sys.passOn_kept (s : Sys) (n o c : Nat) (ecc : SlotEcc) (h_ : Packet) (hs : s.Kept)
    : Sys.Kept (Sys.passOn s n o c ecc h_) := by
  unfold Sys.passOn
  with_reducible repeat' (first
    | assumption | (intro _)
    | (extract_lets +onlyGivenNames x; apply Kept.let (x := x); rotate_left; intro hx; clear_value x; rotate_left; subst x)
    | (extract_lets +onlyGivenNames x; clear_value x) | apply Kept.ite | apply Kept.ite2 | split
    | apply Sys.discard_kept | apply Sys.ejectAt_kept | apply Sys.linkSend_kept | refine Kept.pair (by assumption) ?_
    | refine Kept.ofSomeP (by assumption) ?_ | refine Kept.ofSome (by assumption) ?_ | apply Kept.fold
    | apply Kept.fold2 | apply Kept.modLead | apply Kept.some_ | exact Kept.none_ | apply Kept.someP | exact Kept.noneP
    | apply Kept.update | exact rfl)
theorem Sys.heldBack_kept (s : Sys) (n : Nat) (l : List (Nat × Nat × Held)) (hs : s.Kept)
    : Sys.Kept (Sys.heldBack s n l) := by
  unfold Sys.heldBack
  with_reducible repeat' (first
    | assumption | (intro _) | (extract_lets +onlyGivenNames x; clear_value x) | apply Sys.setRouter_kept
    | apply Kept.fold)
theorem Sys.recordWait_kept (s : Sys) (n k : Nat) (h_ : Held) (hs : s.Kept) : Sys.Kept (Sys.recordWait s n k h_) := by
  unfold Sys.recordWait
  with_reducible repeat' (first
    | assumption | (intro _)
    | (extract_lets +onlyGivenNames x; apply Kept.let (x := x); rotate_left; intro hx; clear_value x; rotate_left; subst x)
    | (extract_lets +onlyGivenNames x; clear_value x) | apply Kept.ite | apply Kept.ite2 | split
    | apply Sys.setTileReg_kept | refine Kept.pair (by assumption) ?_ | refine Kept.ofSomeP (by assumption) ?_
    | refine Kept.ofSome (by assumption) ?_ | apply Kept.fold | apply Kept.fold2 | apply Kept.modLead | apply Kept.some_
    | exact Kept.none_ | apply Kept.someP | exact Kept.noneP | apply Kept.update | exact rfl)
theorem Sys.routerForward_kept (s : Sys) (n o : Nat) (ecc : SlotEcc) (hs : s.Kept)
    : Sys.Kept (Sys.routerForward s n o ecc) := by
  unfold Sys.routerForward
  with_reducible repeat' (first
    | assumption | (intro _)
    | (extract_lets +onlyGivenNames x; apply Kept.let (x := x); rotate_left; intro hx; clear_value x; rotate_left; subst x)
    | (extract_lets +onlyGivenNames x; clear_value x) | apply Kept.ite | apply Kept.ite2 | split
    | apply Sys.refreshChoices_kept | apply Sys.setRouter_kept | apply Sys.bumpTile_kept | apply Sys.heldBack_kept
    | apply Sys.recordWait_kept | apply Sys.countEcc_kept | apply Sys.passOn_kept | refine Kept.pair (by assumption) ?_
    | refine Kept.ofSomeP (by assumption) ?_ | refine Kept.ofSome (by assumption) ?_ | apply Kept.fold
    | apply Kept.fold2 | apply Kept.modLead | apply Kept.some_ | exact Kept.none_ | apply Kept.someP | exact Kept.noneP
    | apply Kept.update | exact rfl)
theorem Sys.escapeEntry_kept (s : Sys) (n p c nc : Nat) (hs : s.Kept) : Sys.Kept (Sys.escapeEntry s n p c nc) := by
  unfold Sys.escapeEntry
  with_reducible repeat' (first
    | assumption | (intro _) | (extract_lets +onlyGivenNames x; clear_value x) | apply Kept.ite | split
    | apply Sys.setRouter_kept)
theorem Sys.controlWord_kept (s : Sys) (n p : Nat) (good begins : Bool) (hs : s.Kept)
    : Sys.Kept (Sys.controlWord s n p good begins) := by
  unfold Sys.controlWord
  with_reducible repeat' (first
    | assumption | (intro _)
    | (extract_lets +onlyGivenNames x; apply Kept.let (x := x); rotate_left; intro hx; clear_value x; rotate_left; subst x)
    | (extract_lets +onlyGivenNames x; clear_value x) | apply Kept.ite | apply Kept.ite2 | split
    | apply Sys.setRouter_kept | apply Sys.setLink_kept | apply Sys.bumpTile_kept | apply Sys.crcError_kept
    | apply Sys.scoreLink_kept | refine Kept.pair (by assumption) ?_ | refine Kept.ofSomeP (by assumption) ?_
    | refine Kept.ofSome (by assumption) ?_ | apply Kept.fold | apply Kept.fold2 | apply Kept.modLead | apply Kept.some_
    | exact Kept.none_ | apply Kept.someP | exact Kept.noneP | apply Kept.update | exact rfl)
theorem Sys.linkEndFails_kept (s : Sys) (n p : Nat) (hs : s.Kept) : Sys.Kept (Sys.linkEndFails s n p) := by
  unfold Sys.linkEndFails
  with_reducible repeat' (first
    | assumption | (intro _)
    | (extract_lets +onlyGivenNames x; apply Kept.let (x := x); rotate_left; intro hx; clear_value x; rotate_left; subst x)
    | (extract_lets +onlyGivenNames x; clear_value x) | apply Kept.ite | apply Sys.setRouter_kept
    | apply Sys.discard_kept | apply Sys.setLink_kept | apply Sys.noteAt_kept | apply Kept.fold)
theorem Sys.linkFail_kept (s : Sys) (n p : Nat) (hs : s.Kept) : Sys.Kept (Sys.linkFail s n p) := by
  unfold Sys.linkFail
  with_reducible repeat' (first | assumption | split | apply Sys.linkEndFails_kept)
theorem Sys.killRouter_kept (s : Sys) (n : Nat) (hs : s.Kept) : Sys.Kept (Sys.killRouter s n) := by
  unfold Sys.killRouter
  with_reducible repeat' (first
    | assumption | (intro _)
    | (extract_lets +onlyGivenNames x; apply Kept.let (x := x); rotate_left; intro hx; clear_value x; rotate_left; subst x)
    | (extract_lets +onlyGivenNames x; clear_value x) | apply Kept.ite | apply Kept.ite2 | split
    | apply Sys.linkEndFails_kept | apply Sys.setRouter_kept | refine Kept.pair (by assumption) ?_
    | refine Kept.ofSomeP (by assumption) ?_ | refine Kept.ofSome (by assumption) ?_ | apply Kept.fold
    | apply Kept.fold2 | apply Kept.modLead | apply Kept.some_ | exact Kept.none_ | apply Kept.someP | exact Kept.noneP
    | apply Kept.update | exact rfl)
theorem Sys.reducePacket_kept (s : Sys) (n p : Nat) (ecc : SlotEcc) (hs : s.Kept)
    : Sys.Kept (Sys.reducePacket s n p ecc) := by
  unfold Sys.reducePacket
  with_reducible repeat' (first
    | assumption | (intro _)
    | (extract_lets +onlyGivenNames x; apply Kept.let (x := x); rotate_left; intro hx; clear_value x; rotate_left; subst x)
    | (extract_lets +onlyGivenNames x; clear_value x) | apply Kept.ite | apply Kept.ite2 | split
    | apply Sys.setRouter_kept | apply Sys.countEcc_kept | apply Sys.discard_kept | apply Sys.bumpTile_kept
    | apply Sys.noteAt_kept | apply Sys.ejectAt_kept | apply Sys.onTile_kept | refine Kept.pair (by assumption) ?_
    | refine Kept.ofSomeP (by assumption) ?_ | refine Kept.ofSome (by assumption) ?_ | apply Kept.fold
    | apply Kept.fold2 | apply Kept.modLead | apply Kept.some_ | exact Kept.none_ | apply Kept.someP | exact Kept.noneP
    | apply Kept.update | exact rfl)
theorem Sys.reduceStall_kept (s : Sys) (n p nc : Nat) (hs : s.Kept) : Sys.Kept (Sys.reduceStall s n p nc) := by
  unfold Sys.reduceStall
  with_reducible repeat' (first
    | assumption | (intro _)
    | (extract_lets +onlyGivenNames x; apply Kept.let (x := x); rotate_left; intro hx; clear_value x; rotate_left; subst x)
    | (extract_lets +onlyGivenNames x; clear_value x) | apply Kept.ite | split | apply Sys.setRouter_kept
    | apply Sys.noteAt_kept | apply Sys.bumpTile_kept)
theorem Sys.purgeGroups_kept (s : Sys) (n : Nat) (groups : List Nat) (hs : s.Kept)
    : Sys.Kept (Sys.purgeGroups s n groups) := by
  unfold Sys.purgeGroups
  with_reducible repeat' (first
    | assumption | (extract_lets +onlyGivenNames x; clear_value x) | apply Sys.bumpTile_kept
    | apply Sys.setRouter_kept)
theorem Sys.bumpStraight_kept (s : Sys) (n k off hi lo m : Nat) (hs : s.Kept)
    : Sys.Kept (Sys.bumpStraight s n k off hi lo m) := by
  unfold Sys.bumpStraight
  with_reducible repeat' (first | assumption | split | apply Sys.bumpTile_kept)
theorem Sys.scoreStraight_kept (s : Sys) (n ev : Nat) (hs : s.Kept) : Sys.Kept (Sys.scoreStraight s n ev) := by
  unfold Sys.scoreStraight
  with_reducible repeat' (first | assumption | apply Sys.scored_kept)
theorem Sys.fly_kept (s : Sys) (n k : Nat) (f : Frame) (hs : s.Kept) : Sys.Kept (Sys.fly s n k f) := by
  unfold Sys.fly
  with_reducible repeat' (first
    | assumption | (extract_lets +onlyGivenNames x; clear_value x) | apply Sys.setStraight_kept)
theorem Sys.launch_kept (s : Sys) (n k : Nat) (f : Frame) (hs : s.Kept) : Sys.Kept (Sys.launch s n k f) := by
  unfold Sys.launch
  with_reducible repeat' (first
    | assumption | (extract_lets +onlyGivenNames x; clear_value x) | apply Sys.bumpStraight_kept | apply Sys.fly_kept
    | apply Sys.setStraight_kept)
theorem Sys.retransmission_kept (s : Sys) (n k : Nat) (hs : s.Kept) : Sys.Kept (Sys.retransmission s n k) := by
  unfold Sys.retransmission
  with_reducible repeat' (first
    | assumption | (intro _) | (extract_lets +onlyGivenNames x; clear_value x) | apply Kept.ite | split
    | apply Sys.bumpStraight_kept | apply Sys.fly_kept | apply Sys.setStraight_kept)
theorem Sys.relayForward_kept (s : Sys) (n k : Nat) (hs : s.Kept) : Sys.Kept (Sys.relayForward s n k) := by
  unfold Sys.relayForward
  with_reducible repeat' (first
    | assumption | (intro _) | (extract_lets +onlyGivenNames x; clear_value x) | apply Kept.ite | split
    | apply Sys.launch_kept | apply Sys.setStraight_kept)
theorem Sys.offTime_kept (s : Sys) (n k : Nat) (more : Bool) (hs : s.Kept) : Sys.Kept (Sys.offTime s n k more) := by
  unfold Sys.offTime
  with_reducible repeat' (first
    | assumption | (intro _)
    | (extract_lets +onlyGivenNames x; apply Kept.let (x := x); rotate_left; intro hx; clear_value x; rotate_left; subst x)
    | (extract_lets +onlyGivenNames x; clear_value x) | apply Kept.ite | apply Kept.ite2 | split
    | apply Sys.setStraight_kept | apply Sys.bumpStraight_kept | refine Kept.pair (by assumption) ?_
    | refine Kept.ofSomeP (by assumption) ?_ | refine Kept.ofSome (by assumption) ?_ | apply Kept.fold
    | apply Kept.fold2 | apply Kept.modLead | apply Kept.some_ | exact Kept.none_ | apply Kept.someP | exact Kept.noneP
    | apply Kept.update | exact rfl)
theorem Sys.frameLaunch_kept (s : Sys) (n k : Nat) (hs : s.Kept) : Sys.Kept (Sys.frameLaunch s n k) := by
  unfold Sys.frameLaunch
  with_reducible repeat' (first
    | assumption | (intro _)
    | (extract_lets +onlyGivenNames x; apply Kept.let (x := x); rotate_left; intro hx; clear_value x; rotate_left; subst x)
    | (extract_lets +onlyGivenNames x; apply Kept.letO (x := x); rotate_left; intro hx; clear_value x; rotate_left; subst x)
    | (extract_lets +onlyGivenNames x; clear_value x) | apply Kept.ite | split | apply Sys.retransmission_kept
    | apply Sys.relayForward_kept
    | apply Sys.offTime_kept | apply Sys.launch_kept | apply Sys.setStraight_kept | apply Sys.bumpStraight_kept
    | exact Kept.none_ | apply Kept.some_ | exact Kept.get (by assumption))
theorem Sys.frameLost_kept (s : Sys) (n k : Nat) (f : Frame) (hs : s.Kept) : Sys.Kept (Sys.frameLost s n k f) := by
  unfold Sys.frameLost
  with_reducible repeat' (first
    | assumption
    | (extract_lets +onlyGivenNames x; apply Kept.let (x := x); rotate_left; intro hx; clear_value x; rotate_left; subst x)
    | (extract_lets +onlyGivenNames x; clear_value x) | split | apply Sys.scoreStraight_kept
    | apply Sys.bumpStraight_kept | apply Sys.setStraight_kept | apply Sys.noteAt_kept)
theorem Sys.frameBad_kept (s : Sys) (n k : Nat) (f : Frame) (hs : s.Kept) : Sys.Kept (Sys.frameBad s n k f) := by
  unfold Sys.frameBad
  with_reducible repeat' (first
    | assumption | (intro _)
    | (extract_lets +onlyGivenNames x; apply Kept.let (x := x); rotate_left; intro hx; clear_value x; rotate_left; subst x)
    | (extract_lets +onlyGivenNames x; clear_value x) | apply Kept.ite | split | apply Sys.scoreStraight_kept
    | apply Sys.bumpStraight_kept | apply Sys.frameLost_kept | apply Sys.setStraight_kept)
theorem Sys.frameLands_kept (s : Sys) (n k i : Nat) (f : Frame) (bad : Bool) (hs : s.Kept)
    : Sys.Kept (Sys.frameLands s n k i f bad).2 := by
  unfold Sys.frameLands
  with_reducible repeat' (first
    | assumption | (intro _)
    | (extract_lets +onlyGivenNames x; apply Kept.let (x := x); rotate_left; intro hx; clear_value x; rotate_left; subst x)
    | (extract_lets +onlyGivenNames x; clear_value x) | apply Kept.ite | apply Kept.ite2 | split
    | apply Sys.setStraight_kept | apply Sys.bumpStraight_kept | apply Sys.frameBad_kept | apply Sys.discard_kept
    | refine Kept.pair (by assumption) ?_ | refine Kept.ofSomeP (by assumption) ?_
    | refine Kept.ofSome (by assumption) ?_ | apply Kept.fold | apply Kept.fold2 | apply Kept.modLead | apply Kept.some_
    | exact Kept.none_ | apply Kept.someP | exact Kept.noneP | apply Kept.update | exact rfl)
theorem Sys.mcastFrame_kept (s : Sys) (n k sender : Nat) (bad : Bool) (hs : s.Kept)
    : Sys.Kept (Sys.mcastFrame s n k sender bad) := by
  unfold Sys.mcastFrame
  with_reducible repeat' (first
    | assumption | (intro _)
    | (extract_lets +onlyGivenNames x; apply Kept.let (x := x); rotate_left; intro hx; clear_value x; rotate_left; subst x)
    | (extract_lets +onlyGivenNames x; clear_value x) | apply Kept.ite | apply Kept.ite2 | split
    | apply Sys.frameLands_kept | apply Sys.bumpStraight_kept | apply Sys.setStraight_kept
    | refine Kept.pair (by assumption) ?_ | refine Kept.ofSomeP (by assumption) ?_
    | refine Kept.ofSome (by assumption) ?_ | apply Kept.fold | apply Kept.fold2 | apply Kept.modLead | apply Kept.some_
    | exact Kept.none_ | apply Kept.someP | exact Kept.noneP | apply Kept.update | exact rfl)
theorem Sys.streamDeliver_kept (s : Sys) (t a : Nat) (hs : s.Kept) : Sys.Kept (Sys.streamDeliver s t a) := by
  unfold Sys.streamDeliver
  with_reducible repeat' (first
    | assumption | (intro _)
    | (extract_lets +onlyGivenNames x; apply Kept.let (x := x); rotate_left; intro hx; clear_value x; rotate_left; subst x)
    | (extract_lets +onlyGivenNames x; clear_value x) | apply Kept.ite | split | apply Sys.setStraight_kept
    | apply Sys.onTile_kept | apply Sys.bumpTile_kept)
theorem Sys.carryIn_kept (s : Sys) (t : Nat) (p : Packet) (hs : s.Kept) : Kept.Opt (Sys.carryIn s t p) := by
  unfold Sys.carryIn
  with_reducible repeat' (first
    | assumption | (intro _)
    | (extract_lets +onlyGivenNames x; apply Kept.let (x := x); rotate_left; intro hx; clear_value x; rotate_left; subst x)
    | (extract_lets +onlyGivenNames x; clear_value x) | apply Kept.ite | apply Kept.ite2 | split
    | apply Sys.setRouter_kept | refine Kept.pair (by assumption) ?_ | refine Kept.ofSomeP (by assumption) ?_
    | refine Kept.ofSome (by assumption) ?_ | apply Kept.fold | apply Kept.fold2 | apply Kept.modLead | apply Kept.some_
    | exact Kept.none_ | apply Kept.someP | exact Kept.noneP | apply Kept.update | exact rfl)
theorem Sys.carryPool_kept (s : Sys) (t fuel : Nat) (hs : s.Kept) : Sys.Kept (Sys.carryPool s t fuel) := by
  induction fuel generalizing s with
  | zero => exact hs
  | succ fuel ih =>
    unfold Sys.carryPool
    with_reducible repeat' (first
      | assumption | (intro _) | (extract_lets +onlyGivenNames x; clear_value x) | split | apply ih
      | refine Kept.ofSome (by assumption) ?_ | apply Sys.carryIn_kept | apply Sys.setStraight_kept)
theorem Sys.receiveRow_kept (s : Sys) (n p : Nat) (bad : Bool) (hs : s.Kept) : Sys.Kept (Sys.receiveRow s n p bad) := by
  unfold Sys.receiveRow
  with_reducible repeat' (first
    | assumption | (intro _)
    | (extract_lets +onlyGivenNames x; apply Kept.let (x := x); rotate_left; intro hx; clear_value x; rotate_left; subst x)
    | (extract_lets +onlyGivenNames x; clear_value x) | apply Kept.ite | apply Kept.ite2 | split
    | apply Sys.routerReceive_kept | apply Sys.carryPool_kept | refine Kept.pair (by assumption) ?_
    | refine Kept.ofSomeP (by assumption) ?_ | refine Kept.ofSome (by assumption) ?_ | apply Kept.fold
    | apply Kept.fold2 | apply Kept.modLead | apply Kept.some_ | exact Kept.none_ | apply Kept.someP | exact Kept.noneP
    | apply Kept.update | exact rfl)
theorem Sys.statusSlot_kept (s : Sys) (n k : Nat) (good : Bool) (hs : s.Kept) : Sys.Kept (Sys.statusSlot s n k good) := by
  unfold Sys.statusSlot
  with_reducible repeat' (first
    | assumption | (intro _)
    | (extract_lets +onlyGivenNames x; apply Kept.let (x := x); rotate_left; intro hx; clear_value x; rotate_left; subst x)
    | (extract_lets +onlyGivenNames x; clear_value x) | apply Kept.ite | split | apply Sys.setStraight_kept
    | apply Sys.frameLost_kept | apply Kept.fold)
theorem Sys.portAbsent_kept (s : Sys) (n k : Nat) (hs : s.Kept) : Sys.Kept (Sys.portAbsent s n k) := by
  unfold Sys.portAbsent
  with_reducible repeat' (first
    | assumption | (intro _)
    | (extract_lets +onlyGivenNames x; apply Kept.let (x := x); rotate_left; intro hx; clear_value x; rotate_left; subst x)
    | (extract_lets +onlyGivenNames x; clear_value x) | apply Kept.ite | split | apply Sys.setStraight_kept
    | apply Sys.noteAt_kept | apply Sys.scored_kept)
theorem Sys.calibrating_kept (s : Sys) (n : Nat) (hs : s.Kept) : Sys.Kept (Sys.calibrating s n) := by
  unfold Sys.calibrating
  with_reducible repeat' (first
    | assumption | (intro _)
    | (extract_lets +onlyGivenNames x; apply Kept.let (x := x); rotate_left; intro hx; clear_value x; rotate_left; subst x)
    | (extract_lets +onlyGivenNames x; clear_value x) | apply Kept.ite | apply Kept.ite2 | split
    | apply Sys.setStraight_kept | refine Kept.pair (by assumption) ?_ | refine Kept.ofSomeP (by assumption) ?_
    | refine Kept.ofSome (by assumption) ?_ | apply Kept.fold | apply Kept.fold2 | apply Kept.modLead | apply Kept.some_
    | exact Kept.none_ | apply Kept.someP | exact Kept.noneP | apply Kept.update | exact rfl)
theorem Sys.calibrate_kept (s : Sys) (n wg : Nat) (hs : s.Kept) : Sys.Kept (Sys.calibrate s n wg) := by
  unfold Sys.calibrate
  with_reducible repeat' (first
    | assumption | (extract_lets +onlyGivenNames x; clear_value x) | split | apply Sys.setStraight_kept)
theorem Sys.recalibration_kept (s : Sys) (n wg : Nat) (ends : Bool) (hs : s.Kept)
    : Sys.Kept (Sys.recalibration s n wg ends) := by
  unfold Sys.recalibration
  with_reducible repeat' (first
    | assumption | (intro _)
    | (extract_lets +onlyGivenNames x; apply Kept.let (x := x); rotate_left; intro hx; clear_value x; rotate_left; subst x)
    | (extract_lets +onlyGivenNames x; clear_value x) | apply Kept.ite | apply Kept.ite2 | split
    | apply Sys.calibrate_kept | apply Sys.calibrating_kept | refine Kept.pair (by assumption) ?_
    | refine Kept.ofSomeP (by assumption) ?_ | refine Kept.ofSome (by assumption) ?_ | apply Kept.fold
    | apply Kept.fold2 | apply Kept.modLead | apply Kept.some_ | exact Kept.none_ | apply Kept.someP | exact Kept.noneP
    | apply Kept.update | exact rfl)
theorem Sys.tadDrop_kept (s : Sys) (n : Nat) (malformed : Bool) (hs : s.Kept) : Sys.Kept (Sys.tadDrop s n malformed) := by
  unfold Sys.tadDrop
  with_reducible repeat' (first | assumption | (intro _) | apply Kept.ite | apply Sys.bumpTile_kept)
theorem Sys.tadEnter_kept (s : Sys) (n p : Nat) (m : TMsg) (hs : s.Kept) : Sys.Kept (Sys.tadEnter s n p m) := by
  unfold Sys.tadEnter
  with_reducible repeat' (first
    | assumption | (intro _) | (extract_lets +onlyGivenNames x; clear_value x) | apply Kept.ite | split
    | apply Sys.tadDrop_kept | apply Sys.setTad_kept)
theorem Sys.tadRoute_kept (s : Sys) (n : Nat) (hs : s.Kept) : Sys.Kept (Sys.tadRoute s n) := by
  unfold Sys.tadRoute
  with_reducible repeat' (first
    | assumption | (intro _)
    | (extract_lets +onlyGivenNames x; apply Kept.let (x := x); rotate_left; intro hx; clear_value x; rotate_left; subst x)
    | (extract_lets +onlyGivenNames x; clear_value x) | apply Kept.ite | apply Sys.setTad_kept
    | apply Sys.tadEnter_kept | apply Kept.fold)
theorem Sys.tadTaken_kept (s : Sys) (n p o : Nat) (urgent : Bool) (hs : s.Kept)
    : Sys.Kept (Sys.tadTaken s n p o urgent) := by
  unfold Sys.tadTaken
  with_reducible repeat' (first
    | assumption | (extract_lets +onlyGivenNames x; clear_value x) | (extract_lets +onlyGivenNames x; subst x) | split
    | apply Sys.setTad_kept)
theorem Sys.tadEndDead_kept (s : Sys) (n p : Nat) (hs : s.Kept) : Sys.Kept (Sys.tadEndDead s n p) := by
  unfold Sys.tadEndDead
  with_reducible repeat' (first
    | assumption | (intro _)
    | (extract_lets +onlyGivenNames x; apply Kept.let (x := x); rotate_left; intro hx; clear_value x; rotate_left; subst x)
    | (extract_lets +onlyGivenNames x; clear_value x) | apply Kept.ite | apply Sys.setTad_kept
    | apply Sys.bumpTile_kept | apply Sys.noteAt_kept | apply Kept.fold)
theorem Sys.neighbourSilent_kept (s : Sys) (n p : Nat) (hs : s.Kept) : Sys.Kept (Sys.neighbourSilent s n p) := by
  unfold Sys.neighbourSilent
  with_reducible repeat' (first | assumption | split | apply Sys.tadEndDead_kept)
theorem Sys.tadNumber_kept (s : Sys) (n o : Nat) (hs : s.Kept) : Sys.Kept (Sys.tadNumber s n o) := by
  unfold Sys.tadNumber
  with_reducible repeat' (first
    | assumption | (intro _)
    | (extract_lets +onlyGivenNames x; apply Kept.let (x := x); rotate_left; intro hx; clear_value x; rotate_left; subst x)
    | (extract_lets +onlyGivenNames x; clear_value x) | apply Kept.ite | apply Kept.ite2 | split | apply Sys.setTad_kept
    | apply Sys.bumpTile_kept | refine Kept.pair (by assumption) ?_ | refine Kept.ofSomeP (by assumption) ?_
    | refine Kept.ofSome (by assumption) ?_ | apply Kept.fold | apply Kept.fold2 | apply Kept.modLead | apply Kept.some_
    | exact Kept.none_ | apply Kept.someP | exact Kept.noneP | apply Kept.update | exact rfl)
theorem Sys.tadArrived_kept (s : Sys) (f fp : Nat) (hs : s.Kept) : Sys.Kept (Sys.tadArrived s f fp) := by
  unfold Sys.tadArrived
  with_reducible repeat' (first
    | assumption | (intro _)
    | (extract_lets +onlyGivenNames x; apply Kept.let (x := x); rotate_left; intro hx; clear_value x; rotate_left; subst x)
    | (extract_lets +onlyGivenNames x; clear_value x) | apply Kept.ite | apply Kept.ite2 | split | apply Sys.setTad_kept
    | refine Kept.pair (by assumption) ?_ | refine Kept.ofSomeP (by assumption) ?_
    | refine Kept.ofSome (by assumption) ?_ | apply Kept.fold | apply Kept.fold2 | apply Kept.modLead | apply Kept.some_
    | exact Kept.none_ | apply Kept.someP | exact Kept.noneP | apply Kept.update | exact rfl)
theorem Sys.tadSlotBad_kept (s : Sys) (n o : Nat) (m : TMsg) (hs : s.Kept) : Sys.Kept (Sys.tadSlotBad s n o m) := by
  unfold Sys.tadSlotBad
  with_reducible repeat' (first
    | assumption | (intro _)
    | (extract_lets +onlyGivenNames x; apply Kept.let (x := x); rotate_left; intro hx; clear_value x; rotate_left; subst x)
    | (extract_lets +onlyGivenNames x; clear_value x) | apply Kept.ite | apply Kept.ite2 | split | apply Sys.setTad_kept
    | apply Sys.bumpTile_kept | apply Sys.scored_kept | apply Sys.neighbourSilent_kept
    | refine Kept.pair (by assumption) ?_ | refine Kept.ofSomeP (by assumption) ?_
    | refine Kept.ofSome (by assumption) ?_ | apply Kept.fold | apply Kept.fold2 | apply Kept.modLead | apply Kept.some_
    | exact Kept.none_ | apply Kept.someP | exact Kept.noneP | apply Kept.update | exact rfl)
theorem Sys.tadTransmit_kept (s : Sys) (n o : Nat) (m : TMsg) (bad : Bool) (hs : s.Kept)
    : Sys.Kept (Sys.tadTransmit s n o m bad) := by
  unfold Sys.tadTransmit
  with_reducible repeat' (first
    | assumption | (intro _)
    | (extract_lets +onlyGivenNames x; apply Kept.let (x := x); rotate_left; intro hx; clear_value x; rotate_left; subst x)
    | (extract_lets +onlyGivenNames x; clear_value x) | apply Kept.ite | apply Kept.ite2 | split
    | apply Sys.tadSlotBad_kept | apply Sys.tadArrived_kept | apply Sys.tadEnter_kept
    | refine Kept.pair (by assumption) ?_ | refine Kept.ofSomeP (by assumption) ?_
    | refine Kept.ofSome (by assumption) ?_ | apply Kept.fold | apply Kept.fold2 | apply Kept.modLead | apply Kept.some_
    | exact Kept.none_ | apply Kept.someP | exact Kept.noneP | apply Kept.update | exact rfl)
theorem Sys.tadpoleForward_kept (s : Sys) (n o : Nat) (bad : Bool) (hs : s.Kept)
    : Sys.Kept (Sys.tadpoleForward s n o bad) := by
  unfold Sys.tadpoleForward
  with_reducible repeat' (first
    | assumption | (intro _)
    | (extract_lets +onlyGivenNames x; apply Kept.let (x := x); rotate_left; intro hx; clear_value x; rotate_left; subst x)
    | (extract_lets +onlyGivenNames x; clear_value x) | apply Kept.ite | apply Kept.ite2 | split
    | apply Sys.tadRoute_kept | apply Sys.setTad_kept | apply Sys.tadTransmit_kept | apply Sys.tadTaken_kept
    | apply Sys.tadNumber_kept | refine Kept.pair (by assumption) ?_ | refine Kept.ofSomeP (by assumption) ?_
    | refine Kept.ofSome (by assumption) ?_ | apply Kept.fold | apply Kept.fold2 | apply Kept.modLead | apply Kept.some_
    | exact Kept.none_ | apply Kept.someP | exact Kept.noneP | apply Kept.update | exact rfl)
theorem Sys.noticeQueueSend_kept (s : Sys) (n : Nat) (hs : s.Kept) : Sys.Kept (Sys.noticeQueueSend s n) := by
  unfold Sys.noticeQueueSend
  with_reducible repeat' (first
    | assumption | (intro _)
    | (extract_lets +onlyGivenNames x; apply Kept.let (x := x); rotate_left; intro hx; clear_value x; rotate_left; subst x)
    | (extract_lets +onlyGivenNames x; clear_value x) | apply Kept.ite | apply Kept.ite2 | split | apply Sys.setTad_kept
    | apply Sys.sendMsg_kept | refine Kept.pair (by assumption) ?_ | refine Kept.ofSomeP (by assumption) ?_
    | refine Kept.ofSome (by assumption) ?_ | apply Kept.fold | apply Kept.fold2 | apply Kept.modLead | apply Kept.some_
    | exact Kept.none_ | apply Kept.someP | exact Kept.noneP | apply Kept.update | exact rfl)
theorem Sys.takeMsg_kept (s : Sys) (n : Nat) (f : TMsg → Bool) (hs : s.Kept) : Kept.OptP (Sys.takeMsg s n f) := by
  unfold Sys.takeMsg
  with_reducible repeat' (first
    | assumption | (extract_lets +onlyGivenNames x; clear_value x) | split | apply Sys.setTad_kept | exact Kept.noneP
    | apply Kept.someP)
theorem Sys.syncBroadcast_kept (s : Sys) (hs : s.Kept) : Sys.Kept (Sys.syncBroadcast s) := by
  unfold Sys.syncBroadcast
  with_reducible repeat' (first | assumption | apply Sys.sendMsg_kept)
theorem Sys.takeTime_kept (s : Sys) (n time : Nat) (hs : s.Kept) : Sys.Kept (Sys.takeTime s n time) := by
  unfold Sys.takeTime
  with_reducible repeat' (first
    | assumption | (intro _)
    | (extract_lets +onlyGivenNames x; apply Kept.let (x := x); rotate_left; intro hx; clear_value x; rotate_left; subst x)
    | (extract_lets +onlyGivenNames x; clear_value x) | apply Kept.ite | apply Sys.setTile_kept
    | apply Sys.noteAt_kept | apply Sys.setHub_kept)
theorem Sys.sync_kept (s : Sys) (n res : Nat) (hs : s.Kept) : Sys.Kept (Sys.sync s n res) := by
  unfold Sys.sync
  with_reducible repeat' (first
    | assumption | (intro _)
    | (extract_lets +onlyGivenNames x; apply Kept.let (x := x); rotate_left; intro hx; clear_value x; rotate_left; subst x)
    | (extract_lets +onlyGivenNames x; clear_value x) | apply Kept.ite | apply Kept.ite2 | split
    | apply Sys.tadRoute_kept | apply Sys.setTad_kept | apply Sys.tadNumber_kept | apply Sys.tadTransmit_kept
    | apply Sys.takeTime_kept | refine Kept.pair (by assumption) ?_ | refine Kept.ofSomeP (by assumption) ?_
    | refine Kept.ofSome (by assumption) ?_ | apply Kept.fold | apply Kept.fold2 | apply Kept.modLead | apply Kept.some_
    | exact Kept.none_ | apply Kept.someP | exact Kept.noneP | apply Kept.update | exact rfl)
theorem Sys.syncMissed_kept (s : Sys) (t : Nat) (hs : s.Kept) : Sys.Kept (Sys.syncMissed s t) := by
  unfold Sys.syncMissed
  with_reducible repeat' (first
    | assumption | (intro _)
    | (extract_lets +onlyGivenNames x; apply Kept.let (x := x); rotate_left; intro hx; clear_value x; rotate_left; subst x)
    | (extract_lets +onlyGivenNames x; clear_value x) | apply Kept.ite | apply Sys.setTile_kept
    | apply Sys.noteAt_kept)
theorem Sys.mirrorSlew_kept (s : Sys) (n : Nat) (hs : s.Kept) : Sys.Kept (Sys.mirrorSlew s n) := by
  unfold Sys.mirrorSlew
  with_reducible repeat' (first
    | assumption | (intro _) | (extract_lets +onlyGivenNames x; clear_value x) | apply Kept.ite
    | apply Sys.setTile_kept | apply Sys.setHub_kept)
theorem Sys.tadDirect_kept (s : Sys) (n o : Nat) (m : TMsg) (hs : s.Kept) : Sys.Kept (Sys.tadDirect s n o m) := by
  unfold Sys.tadDirect
  with_reducible repeat' (first
    | assumption | (intro _)
    | (extract_lets +onlyGivenNames x; apply Kept.let (x := x); rotate_left; intro hx; clear_value x; rotate_left; subst x)
    | (extract_lets +onlyGivenNames x; clear_value x) | apply Kept.ite | apply Kept.ite2 | split
    | apply Sys.tadNumber_kept | apply Sys.tadArrived_kept | apply Sys.setTad_kept | refine Kept.pair (by assumption) ?_
    | refine Kept.ofSomeP (by assumption) ?_ | refine Kept.ofSome (by assumption) ?_ | apply Kept.fold
    | apply Kept.fold2 | apply Kept.modLead | apply Kept.some_ | exact Kept.none_ | apply Kept.someP | exact Kept.noneP
    | apply Kept.update | exact rfl)
theorem Sys.delayReq_kept (s : Sys) (n p : Nat) (hs : s.Kept) : Sys.Kept (Sys.delayReq s n p) := by
  unfold Sys.delayReq
  with_reducible repeat' (first
    | assumption | (intro _)
    | (extract_lets +onlyGivenNames x; apply Kept.let (x := x); rotate_left; intro hx; clear_value x; rotate_left; subst x)
    | (extract_lets +onlyGivenNames x; clear_value x) | apply Kept.ite | apply Kept.ite2 | split | apply Sys.setTad_kept
    | apply Sys.tadDirect_kept | refine Kept.pair (by assumption) ?_ | refine Kept.ofSomeP (by assumption) ?_
    | refine Kept.ofSome (by assumption) ?_ | apply Kept.fold | apply Kept.fold2 | apply Kept.modLead | apply Kept.some_
    | exact Kept.none_ | apply Kept.someP | exact Kept.noneP | apply Kept.update | exact rfl)
theorem Sys.delayResp_kept (s : Sys) (n p trip : Nat) (hs : s.Kept) : Sys.Kept (Sys.delayResp s n p trip) := by
  unfold Sys.delayResp
  with_reducible repeat' (first
    | assumption | (extract_lets +onlyGivenNames x; clear_value x) | split | apply Sys.setTad_kept)
theorem Sys.askDelays_kept (s : Sys) (hs : s.Kept) : Sys.Kept (Sys.askDelays s) := by
  unfold Sys.askDelays
  with_reducible repeat' (first
    | assumption | (intro _)
    | (extract_lets +onlyGivenNames x; apply Kept.let (x := x); rotate_left; intro hx; clear_value x; rotate_left; subst x)
    | (extract_lets +onlyGivenNames x; clear_value x) | apply Kept.ite | apply Kept.ite2 | split
    | apply Sys.tadDirect_kept | refine Kept.pair (by assumption) ?_ | refine Kept.ofSomeP (by assumption) ?_
    | refine Kept.ofSome (by assumption) ?_ | apply Kept.fold | apply Kept.fold2 | apply Kept.modLead | apply Kept.some_
    | exact Kept.none_ | apply Kept.someP | exact Kept.noneP | apply Kept.update | exact rfl)
theorem Sys.doorbellMsg_kept (s : Sys) (t : Nat) (hs : s.Kept) : Sys.Kept (Sys.doorbellMsg s t) := by
  unfold Sys.doorbellMsg
  with_reducible repeat' (first
    | assumption | split | apply Sys.takeMsg_kept | apply Sys.onTile_kept | refine Kept.ofSomeP (by assumption) ?_)
theorem Sys.noteStraights_kept (s : Sys) (hs : s.Kept) : Sys.Kept (Sys.noteStraights s) := by
  unfold Sys.noteStraights
  with_reducible repeat' (first
    | assumption | (intro _)
    | (extract_lets +onlyGivenNames x; apply Kept.let (x := x); rotate_left; intro hx; clear_value x; rotate_left; subst x)
    | (extract_lets +onlyGivenNames x; clear_value x) | apply Kept.ite | apply Kept.ite2 | split
    | refine Kept.pair (by assumption) ?_ | refine Kept.ofSomeP (by assumption) ?_
    | refine Kept.ofSome (by assumption) ?_ | apply Kept.fold | apply Kept.fold2 | apply Kept.modLead | apply Kept.some_
    | exact Kept.none_ | apply Kept.someP | exact Kept.noneP | apply Kept.update | exact rfl)
theorem Sys.sendAll_kept (s : Sys) (l : List TMsg) (hs : s.Kept) : Sys.Kept (Sys.sendAll s l) := by
  unfold Sys.sendAll
  with_reducible repeat' (first | assumption | (intro _) | apply Sys.sendMsg_kept | apply Kept.fold)
theorem Sys.epochSwitchStart_kept (s : Sys) (hs : s.Kept) : Sys.Kept (Sys.epochSwitchStart s) := by
  unfold Sys.epochSwitchStart
  with_reducible repeat' (first
    | assumption | (intro _)
    | (extract_lets +onlyGivenNames x; apply Kept.let (x := x); rotate_left; intro hx; clear_value x; rotate_left; subst x)
    | (extract_lets +onlyGivenNames x; clear_value x) | apply Kept.ite | split | apply Sys.sendAll_kept
    | apply Kept.fold | apply Kept.modLead | exact rfl)
theorem Sys.takeEpoch_kept (s : Sys) (n sub : Nat) (hs : s.Kept) : Kept.OptP (Sys.takeEpoch s n sub) := by
  unfold Sys.takeEpoch
  with_reducible repeat' (first
    | assumption | (intro _)
    | (extract_lets +onlyGivenNames x; apply Kept.let (x := x); rotate_left; intro hx; clear_value x; rotate_left; subst x)
    | (extract_lets +onlyGivenNames x; clear_value x) | apply Kept.ite | apply Kept.ite2 | split
    | apply Sys.takeMsg_kept | refine Kept.pair (by assumption) ?_ | refine Kept.ofSomeP (by assumption) ?_
    | refine Kept.ofSome (by assumption) ?_ | apply Kept.fold | apply Kept.fold2 | apply Kept.modLead | apply Kept.some_
    | exact Kept.none_ | apply Kept.someP | exact Kept.noneP | apply Kept.update | exact rfl)
theorem Sys.prepare_kept (s : Sys) (n : Nat) (hs : s.Kept) : Sys.Kept (Sys.prepare s n) := by
  unfold Sys.prepare
  with_reducible repeat' (first
    | assumption | (intro _)
    | (extract_lets +onlyGivenNames x; apply Kept.let (x := x); rotate_left; intro hx; clear_value x; rotate_left; subst x)
    | (extract_lets +onlyGivenNames x; clear_value x) | apply Kept.ite | apply Kept.ite2 | split
    | apply Sys.takeEpoch_kept | apply Sys.setReplica_kept | refine Kept.pair (by assumption) ?_
    | refine Kept.ofSomeP (by assumption) ?_ | refine Kept.ofSome (by assumption) ?_ | apply Kept.fold
    | apply Kept.fold2 | apply Kept.modLead | apply Kept.some_ | exact Kept.none_ | apply Kept.someP | exact Kept.noneP
    | apply Kept.update | exact rfl)
theorem Sys.routeMsg_kept (s : Sys) (n : Nat) (hs : s.Kept) : Sys.Kept (Sys.routeMsg s n) := by
  unfold Sys.routeMsg
  with_reducible repeat' (first
    | assumption | (intro _)
    | (extract_lets +onlyGivenNames x; apply Kept.let (x := x); rotate_left; intro hx; clear_value x; rotate_left; subst x)
    | (extract_lets +onlyGivenNames x; clear_value x) | apply Kept.ite | apply Kept.ite2 | split
    | apply Sys.takeEpoch_kept | apply Sys.setReplica_kept | apply Sys.sendMsg_kept
    | refine Kept.pair (by assumption) ?_ | refine Kept.ofSomeP (by assumption) ?_
    | refine Kept.ofSome (by assumption) ?_ | apply Kept.fold | apply Kept.fold2 | apply Kept.modLead | apply Kept.some_
    | exact Kept.none_ | apply Kept.someP | exact Kept.noneP | apply Kept.update | exact rfl)
theorem Sys.sendCommit_kept (s : Sys) (sw : Switch) (hs : s.Kept) : Sys.Kept (Sys.sendCommit s sw) := by
  unfold Sys.sendCommit
  with_reducible repeat' (first
    | assumption | (intro _)
    | (extract_lets +onlyGivenNames x; apply Kept.let (x := x); rotate_left; intro hx; clear_value x; rotate_left; subst x)
    | (extract_lets +onlyGivenNames x; clear_value x) | apply Kept.ite | apply Kept.ite2 | split
    | apply Sys.sendAll_kept | refine Kept.pair (by assumption) ?_ | refine Kept.ofSomeP (by assumption) ?_
    | refine Kept.ofSome (by assumption) ?_ | apply Kept.fold | apply Kept.fold2 | apply Kept.modLead | apply Kept.some_
    | exact Kept.none_ | apply Kept.someP | exact Kept.noneP | apply Kept.update | exact rfl)
theorem Sys.prepareAck_kept (s : Sys) (hs : s.Kept) : Sys.Kept (Sys.prepareAck s) := by
  unfold Sys.prepareAck
  with_reducible repeat' (first
    | assumption | (intro _) | (extract_lets +onlyGivenNames x; clear_value x) | apply Kept.ite | split
    | apply Sys.takeMsg_kept | apply Sys.sendAll_kept | apply Sys.sendCommit_kept | apply Kept.modLead | exact rfl
    | refine Kept.ofSomeP (by assumption) ?_)
theorem Sys.fenceTile_kept (s : Sys) (t : Nat) (hs : s.Kept) : Sys.Kept (Sys.fenceTile s t) := by
  unfold Sys.fenceTile
  with_reducible repeat' (first
    | assumption | (intro _)
    | (extract_lets +onlyGivenNames x; apply Kept.let (x := x); rotate_left; intro hx; clear_value x; rotate_left; subst x)
    | (extract_lets +onlyGivenNames x; clear_value x) | apply Sys.modTile_kept | apply Sys.setStraight_kept
    | apply Kept.fold)
theorem Sys.prepareAckTimeout_kept (s : Sys) (n : Nat) (hs : s.Kept) : Sys.Kept (Sys.prepareAckTimeout s n) := by
  unfold Sys.prepareAckTimeout
  with_reducible repeat' (first
    | assumption | (intro _)
    | (extract_lets +onlyGivenNames x; apply Kept.let (x := x); rotate_left; intro hx; clear_value x; rotate_left; subst x)
    | (extract_lets +onlyGivenNames x; clear_value x) | apply Kept.ite | apply Kept.ite2 | split
    | apply Sys.fenceTile_kept | apply Sys.killRouter_kept | apply Sys.setTad_kept | apply Sys.sendAll_kept
    | refine Kept.pair (by assumption) ?_ | refine Kept.ofSomeP (by assumption) ?_
    | refine Kept.ofSome (by assumption) ?_ | apply Kept.fold | apply Kept.fold2 | apply Kept.modLead | apply Kept.some_
    | exact Kept.none_ | apply Kept.someP | exact Kept.noneP | apply Kept.update | exact rfl)
theorem Sys.commitReplica_kept (s : Sys) (n e : Nat) (hs : s.Kept) : Sys.Kept (Sys.commitReplica s n e) := by
  unfold Sys.commitReplica
  with_reducible repeat' (first
    | assumption | (intro _)
    | (extract_lets +onlyGivenNames x; apply Kept.let (x := x); rotate_left; intro hx; clear_value x; rotate_left; subst x)
    | (extract_lets +onlyGivenNames x; clear_value x) | apply Kept.ite | apply Sys.setStraight_kept
    | apply Sys.setReplica_kept | apply Sys.setTad_kept | apply Sys.modTile_kept | apply Kept.fold)
theorem Sys.commitMsg_kept (s : Sys) (n : Nat) (hs : s.Kept) : Sys.Kept (Sys.commitMsg s n) := by
  unfold Sys.commitMsg
  with_reducible repeat' (first
    | assumption | (intro _)
    | (extract_lets +onlyGivenNames x; apply Kept.let (x := x); rotate_left; intro hx; clear_value x; rotate_left; subst x)
    | (extract_lets +onlyGivenNames x; clear_value x) | apply Kept.ite | apply Kept.ite2 | split
    | apply Sys.takeEpoch_kept | apply Sys.setReplica_kept | apply Sys.commitReplica_kept | apply Sys.sendMsg_kept
    | refine Kept.pair (by assumption) ?_ | refine Kept.ofSomeP (by assumption) ?_
    | refine Kept.ofSome (by assumption) ?_ | apply Kept.fold | apply Kept.fold2 | apply Kept.modLead | apply Kept.some_
    | exact Kept.none_ | apply Kept.someP | exact Kept.noneP | apply Kept.update | exact rfl)
theorem Sys.tryRetire_kept (s : Sys) (hs : s.Kept) : Sys.Kept (Sys.tryRetire s) := by
  unfold Sys.tryRetire
  with_reducible repeat' (first
    | assumption | (intro _)
    | (extract_lets +onlyGivenNames x; apply Kept.let (x := x); rotate_left; intro hx; clear_value x; rotate_left; subst x)
    | apply Kept.ite | split | apply Sys.sendAll_kept | apply Kept.modLead | exact rfl)
theorem Sys.dropNumbers_kept (s : Sys) (hs : s.Kept) : Sys.Kept (Sys.dropNumbers s) := by
  unfold Sys.dropNumbers
  with_reducible repeat' (first
    | assumption | (intro _)
    | (extract_lets +onlyGivenNames x; apply Kept.let (x := x); rotate_left; intro hx; clear_value x; rotate_left; subst x)
    | (extract_lets +onlyGivenNames x; clear_value x) | apply Kept.ite | apply Kept.ite2 | split
    | refine Kept.pair (by assumption) ?_ | refine Kept.ofSomeP (by assumption) ?_
    | refine Kept.ofSome (by assumption) ?_ | apply Kept.fold | apply Kept.fold2 | apply Kept.modLead | apply Kept.some_
    | exact Kept.none_ | apply Kept.someP | exact Kept.noneP | apply Kept.update | exact rfl)
theorem Sys.acked_kept (s : Sys) (sw : Switch) (n : Nat) (hs : s.Kept) : Sys.Kept (Sys.acked s sw n) := by
  unfold Sys.acked
  with_reducible repeat' (first
    | assumption | (intro _)
    | (extract_lets +onlyGivenNames x; apply Kept.let (x := x); rotate_left; intro hx; clear_value x; rotate_left; subst x)
    | (extract_lets +onlyGivenNames x; clear_value x) | apply Kept.ite | apply Kept.ite2 | split
    | apply Sys.dropNumbers_kept | apply Sys.noteStraights_kept | apply Sys.eventBoth_kept | apply Sys.log_kept
    | apply Sys.tryRetire_kept | refine Kept.pair (by assumption) ?_ | refine Kept.ofSomeP (by assumption) ?_
    | refine Kept.ofSome (by assumption) ?_ | apply Kept.fold | apply Kept.fold2 | apply Kept.modLead | apply Kept.some_
    | exact Kept.none_ | apply Kept.someP | exact Kept.noneP | apply Kept.update | exact rfl)
theorem Sys.commitAck_kept (s : Sys) (hs : s.Kept) : Sys.Kept (Sys.commitAck s) := by
  unfold Sys.commitAck
  with_reducible repeat' (first
    | assumption | (intro _)
    | (extract_lets +onlyGivenNames x; apply Kept.let (x := x); rotate_left; intro hx; clear_value x; rotate_left; subst x)
    | (extract_lets +onlyGivenNames x; clear_value x) | apply Kept.ite | apply Kept.ite2 | split
    | apply Sys.takeMsg_kept | apply Sys.acked_kept | refine Kept.pair (by assumption) ?_
    | refine Kept.ofSomeP (by assumption) ?_ | refine Kept.ofSome (by assumption) ?_ | apply Kept.fold
    | apply Kept.fold2 | apply Kept.modLead | apply Kept.some_ | exact Kept.none_ | apply Kept.someP | exact Kept.noneP
    | apply Kept.update | exact rfl)
theorem Sys.drainCountZero_kept (s : Sys) (n : Nat) (hs : s.Kept) : Sys.Kept (Sys.drainCountZero s n) := by
  unfold Sys.drainCountZero
  with_reducible repeat' (first
    | assumption | (intro _) | (extract_lets +onlyGivenNames x; clear_value x) | apply Kept.ite
    | apply Sys.sendMsg_kept | apply Sys.setReplica_kept)
theorem Sys.epochDrained_kept (s : Sys) (hs : s.Kept) : Sys.Kept (Sys.epochDrained s) := by
  unfold Sys.epochDrained
  with_reducible repeat' (first
    | assumption | (intro _) | apply Kept.ite | split | apply Sys.takeMsg_kept | apply Sys.tryRetire_kept
    | apply Kept.modLead | exact rfl | refine Kept.ofSomeP (by assumption) ?_)
theorem Sys.retireMsg_kept (s : Sys) (n : Nat) (hs : s.Kept) : Sys.Kept (Sys.retireMsg s n) := by
  unfold Sys.retireMsg
  with_reducible repeat' (first
    | assumption | (intro _)
    | (extract_lets +onlyGivenNames x; apply Kept.let (x := x); rotate_left; intro hx; clear_value x; rotate_left; subst x)
    | (extract_lets +onlyGivenNames x; clear_value x) | apply Kept.ite | apply Kept.ite2 | split
    | apply Sys.takeEpoch_kept | apply Sys.purgeGroups_kept | apply Sys.setReplica_kept | apply Sys.setTad_kept
    | refine Kept.pair (by assumption) ?_ | refine Kept.ofSomeP (by assumption) ?_
    | refine Kept.ofSome (by assumption) ?_ | apply Kept.fold | apply Kept.fold2 | apply Kept.modLead | apply Kept.some_
    | exact Kept.none_ | apply Kept.someP | exact Kept.noneP | apply Kept.update | exact rfl)
theorem Sys.groupPurge_kept (s : Sys) (n : Nat) (hs : s.Kept) : Sys.Kept (Sys.groupPurge s n) := by
  unfold Sys.groupPurge
  with_reducible repeat' (first
    | assumption | (intro _)
    | (extract_lets +onlyGivenNames x; apply Kept.let (x := x); rotate_left; intro hx; clear_value x; rotate_left; subst x)
    | (extract_lets +onlyGivenNames x; clear_value x) | apply Kept.ite | apply Kept.ite2 | split
    | apply Sys.takeEpoch_kept | apply Sys.purgeGroups_kept | refine Kept.pair (by assumption) ?_
    | refine Kept.ofSomeP (by assumption) ?_ | refine Kept.ofSome (by assumption) ?_ | apply Kept.fold
    | apply Kept.fold2 | apply Kept.modLead | apply Kept.some_ | exact Kept.none_ | apply Kept.someP | exact Kept.noneP
    | apply Kept.update | exact rfl)
theorem Sys.sendInvalidate_kept (s : Sys) (eid win gen : Nat) (hs : s.Kept)
    : Sys.Kept (Sys.sendInvalidate s eid win gen) := by
  unfold Sys.sendInvalidate
  with_reducible repeat' (first
    | assumption | (intro _)
    | (extract_lets +onlyGivenNames x; apply Kept.let (x := x); rotate_left; intro hx; clear_value x; rotate_left; subst x)
    | (extract_lets +onlyGivenNames x; clear_value x) | apply Kept.ite | apply Kept.ite2 | split
    | apply Sys.sendMsg_kept | refine Kept.pair (by assumption) ?_ | refine Kept.ofSomeP (by assumption) ?_
    | refine Kept.ofSome (by assumption) ?_ | apply Kept.fold | apply Kept.fold2 | apply Kept.modLead | apply Kept.some_
    | exact Kept.none_ | apply Kept.someP | exact Kept.noneP | apply Kept.update | exact rfl)
theorem Sys.invalidateMsg_kept (s : Sys) (t : Nat) (hs : s.Kept) : Sys.Kept (Sys.invalidateMsg s t) := by
  unfold Sys.invalidateMsg
  with_reducible repeat' (first
    | assumption | split | apply Sys.takeMsg_kept | apply Sys.onTile_kept | refine Kept.ofSomeP (by assumption) ?_)
theorem Sys.invalidateSweepDone_kept (s : Sys) (t : Nat) (hs : s.Kept) : Sys.Kept (Sys.invalidateSweepDone s t) := by
  unfold Sys.invalidateSweepDone
  with_reducible repeat' (first
    | assumption | (intro _) | apply Kept.ite | split | apply Sys.askTile_kept | apply Sys.sendMsg_kept
    | refine Kept.pair (by assumption) ?_)
theorem Sys.invalDone_kept (s : Sys) (key : Nat × Nat × Nat) (t : Nat) (hs : s.Kept)
    : Sys.Kept (Sys.invalDone s key t).2 := by
  unfold Sys.invalDone
  with_reducible repeat' (first
    | assumption | (intro _)
    | (extract_lets +onlyGivenNames x; apply Kept.let (x := x); rotate_left; intro hx; clear_value x; rotate_left; subst x)
    | (extract_lets +onlyGivenNames x; clear_value x) | apply Kept.ite | apply Kept.ite2 | split
    | refine Kept.pair (by assumption) ?_ | refine Kept.ofSomeP (by assumption) ?_
    | refine Kept.ofSome (by assumption) ?_ | apply Kept.fold | apply Kept.fold2 | apply Kept.modLead | apply Kept.some_
    | exact Kept.none_ | apply Kept.someP | exact Kept.noneP | apply Kept.update | exact rfl)
theorem Sys.modEngine_kept (s : Sys) (e : Nat) (f : Engine → Engine) (hs : s.Kept) : Sys.Kept (Sys.modEngine s e f) := by
  unfold Sys.modEngine
  with_reducible repeat' (first | assumption | apply Sys.setEngine_kept)
theorem Sys.modPort_kept (s : Sys) (e p : Nat) (f : OptPort → OptPort) (hs : s.Kept) : Sys.Kept (Sys.modPort s e p f) := by
  unfold Sys.modPort
  with_reducible repeat' (first | assumption | apply Sys.modEngine_kept)
theorem Sys.refreshPeers_kept (s : Sys) (hs : s.Kept) : Sys.Kept (Sys.refreshPeers s) := by
  unfold Sys.refreshPeers
  with_reducible repeat' (first
    | assumption | (intro _)
    | (extract_lets +onlyGivenNames x; apply Kept.let (x := x); rotate_left; intro hx; clear_value x; rotate_left; subst x)
    | (extract_lets +onlyGivenNames x; clear_value x) | apply Kept.ite | apply Kept.ite2 | split
    | refine Kept.pair (by assumption) ?_ | refine Kept.ofSomeP (by assumption) ?_
    | refine Kept.ofSome (by assumption) ?_ | apply Kept.fold | apply Kept.fold2 | apply Kept.modLead | apply Kept.some_
    | exact Kept.none_ | apply Kept.someP | exact Kept.noneP | apply Kept.update | exact rfl)
theorem Sys.cellOut_kept (s : Sys) (e p hop : Nat) (pkt : Packet) (hs : s.Kept) : Sys.Kept (Sys.cellOut s e p hop pkt) := by
  unfold Sys.cellOut
  with_reducible repeat' (first | assumption | apply Sys.modPort_kept)
theorem Sys.engineInject_kept (s : Sys) (e row col : Nat) (p : Packet) (hs : s.Kept)
    : Sys.Kept (Sys.engineInject s e row col p) := by
  unfold Sys.engineInject
  with_reducible repeat' (first
    | assumption | (extract_lets +onlyGivenNames x; clear_value x) | apply Sys.setStraight_kept)
theorem Sys.engineNack_kept (s : Sys) (e : Nat) (p : Packet) (status : Nat) (hs : s.Kept)
    : Sys.Kept (Sys.engineNack s e p status) := by
  unfold Sys.engineNack
  with_reducible repeat' (first
    | assumption | (extract_lets +onlyGivenNames x; clear_value x) | split | apply Sys.engineInject_kept)
theorem Sys.siluaOut_kept (s : Sys) (e : Nat) (p : Packet) (hs : s.Kept) : Sys.Kept (Sys.siluaOut s e p).2 := by
  unfold Sys.siluaOut
  with_reducible repeat' (first
    | assumption | (intro _)
    | (extract_lets +onlyGivenNames x; apply Kept.let (x := x); rotate_left; intro hx; clear_value x; rotate_left; subst x)
    | (extract_lets +onlyGivenNames x; clear_value x) | apply Kept.ite | apply Kept.ite2 | split
    | apply Sys.modEngine_kept | apply Sys.cellOut_kept | apply Sys.engineNack_kept)
theorem Sys.enginePool_kept (s : Sys) (e n k fuel : Nat) (hs : s.Kept) : Sys.Kept (Sys.enginePool s e n k fuel) := by
  induction fuel generalizing s with
  | zero => exact hs
  | succ fuel ih =>
    unfold Sys.enginePool
    with_reducible repeat' (first
      | assumption | (intro _) | (extract_lets +onlyGivenNames x; clear_value x) | split | apply Kept.ite | apply ih
      | refine Kept.pair (by assumption) ?_ | apply Sys.siluaOut_kept | apply Sys.setStraight_kept)
theorem Sys.engineRetry_kept (s : Sys) (e : Nat) (hs : s.Kept) : Sys.Kept (Sys.engineRetry s e) := by
  unfold Sys.engineRetry
  exact Kept.fold hs (fun u _ h => Sys.enginePool_kept u _ _ _ _ h)
theorem Sys.carriedFrame_kept (s : Sys) (n k sender : Nat) (bad : Bool) (hs : s.Kept)
    : Sys.Kept (Sys.carriedFrame s n k sender bad) := by
  unfold Sys.carriedFrame
  with_reducible repeat' (first
    | assumption | (intro _)
    | (extract_lets +onlyGivenNames x; apply Kept.let (x := x); rotate_left; intro hx; clear_value x; rotate_left; subst x)
    | (extract_lets +onlyGivenNames x; clear_value x) | apply Kept.ite | apply Kept.ite2 | split
    | apply Sys.frameLands_kept | apply Sys.bumpStraight_kept | apply Sys.setStraight_kept | apply Sys.carryPool_kept
    | apply Sys.engineRetry_kept | refine Kept.pair (by assumption) ?_ | refine Kept.ofSomeP (by assumption) ?_
    | refine Kept.ofSome (by assumption) ?_ | apply Kept.fold | apply Kept.fold2 | apply Kept.modLead | apply Kept.some_
    | exact Kept.none_ | apply Kept.someP | exact Kept.noneP | apply Kept.update | exact rfl)
theorem Sys.siluaIn_kept (s : Sys) (e : Nat) (p : Packet) (hs : s.Kept) : Sys.Kept (Sys.siluaIn s e p) := by
  unfold Sys.siluaIn
  with_reducible repeat' (first
    | assumption | (intro _)
    | (extract_lets +onlyGivenNames x; apply Kept.let (x := x); rotate_left; intro hx; clear_value x; rotate_left; subst x)
    | (extract_lets +onlyGivenNames x; clear_value x) | apply Kept.ite | split | apply Sys.modEngine_kept
    | apply Sys.engineRetry_kept | apply Sys.engineInject_kept)
theorem Sys.siluaDown_kept (s : Sys) (e p : Nat) (notice : Bool) (hs : s.Kept) : Sys.Kept (Sys.siluaDown s e p notice) := by
  unfold Sys.siluaDown
  with_reducible repeat' (first
    | assumption | (intro _)
    | (extract_lets +onlyGivenNames x; apply Kept.let (x := x); rotate_left; intro hx; clear_value x; rotate_left; subst x)
    | (extract_lets +onlyGivenNames x; clear_value x) | apply Kept.ite | apply Sys.modEngine_kept
    | apply Sys.refreshPeers_kept | apply Sys.noteAt_kept)
theorem Sys.siluaRetrain_kept (s : Sys) (e p : Nat) (hs : s.Kept) : Sys.Kept (Sys.siluaRetrain s e p) := by
  unfold Sys.siluaRetrain
  with_reducible repeat' (first
    | assumption | (intro _)
    | (extract_lets +onlyGivenNames x; apply Kept.let (x := x); rotate_left; intro hx; clear_value x; rotate_left; subst x)
    | (extract_lets +onlyGivenNames x; clear_value x) | apply Kept.ite | apply Sys.modEngine_kept
    | apply Sys.scored_kept | apply Kept.fold)
theorem Sys.cellIn_kept (s : Sys) (e p : Nat) (c : Cell) (sym : Nat) (hs : s.Kept) : Sys.Kept (Sys.cellIn s e p c sym) := by
  unfold Sys.cellIn
  with_reducible repeat' (first
    | assumption | (intro _)
    | (extract_lets +onlyGivenNames x; apply Kept.let (x := x); rotate_left; intro hx; clear_value x; rotate_left; subst x)
    | (extract_lets +onlyGivenNames x; clear_value x) | (extract_lets +onlyGivenNames x; subst x) | apply Kept.ite
    | apply Sys.modEngine_kept | apply Sys.scored_kept | apply Sys.siluaRetrain_kept | apply Sys.modPort_kept
    | apply Sys.siluaIn_kept | apply Sys.cellOut_kept | apply Kept.fold)
theorem Sys.siluaTraining_kept (s : Sys) (e p lanes partner version : Nat) (hs : s.Kept)
    : Sys.Kept (Sys.siluaTraining s e p lanes partner version) := by
  unfold Sys.siluaTraining
  with_reducible repeat' (first
    | assumption | (intro _)
    | (extract_lets +onlyGivenNames x; apply Kept.let (x := x); rotate_left; intro hx; clear_value x; rotate_left; subst x)
    | (extract_lets +onlyGivenNames x; clear_value x) | apply Kept.ite | apply Sys.modPort_kept
    | apply Sys.siluaDown_kept | apply Sys.refreshPeers_kept)
theorem Sys.returnExpiry_kept (s : Sys) (e : Nat) (hs : s.Kept) : Sys.Kept (Sys.returnExpiry s e) := by
  unfold Sys.returnExpiry
  with_reducible repeat' (first
    | assumption
    | (extract_lets +onlyGivenNames x; apply Kept.let (x := x); rotate_left; intro hx; clear_value x; rotate_left; subst x)
    | (extract_lets +onlyGivenNames x; clear_value x) | apply Sys.modEngine_kept | apply Sys.engineRetry_kept)
theorem Sys.laserSample_kept (s : Sys) (e i power : Nat) (ok : Bool) (hs : s.Kept)
    : Sys.Kept (Sys.laserSample s e i power ok) := by
  unfold Sys.laserSample
  with_reducible repeat' (first
    | assumption | (intro _)
    | (extract_lets +onlyGivenNames x; apply Kept.let (x := x); rotate_left; intro hx; clear_value x; rotate_left; subst x)
    | (extract_lets +onlyGivenNames x; clear_value x) | apply Kept.ite | apply Sys.modEngine_kept
    | apply Sys.scored_kept | apply Sys.noteAt_kept | apply Sys.siluaDown_kept | apply Sys.modPort_kept
    | apply Kept.fold)
theorem Sys.setJob_kept (s : Sys) (n : Nat) (j : Job) (hs : s.Kept) : Sys.Kept (Sys.setJob s n j) := by
  unfold Sys.setJob
  with_reducible repeat' (first
    | assumption | (intro _)
    | (extract_lets +onlyGivenNames x; apply Kept.let (x := x); rotate_left; intro hx; clear_value x; rotate_left; subst x)
    | (extract_lets +onlyGivenNames x; clear_value x) | apply Kept.ite | apply Kept.ite2 | split
    | refine Kept.pair (by assumption) ?_ | refine Kept.ofSomeP (by assumption) ?_
    | refine Kept.ofSome (by assumption) ?_ | apply Kept.fold | apply Kept.fold2 | apply Kept.modLead | apply Kept.some_
    | exact Kept.none_ | apply Kept.someP | exact Kept.noneP | apply Kept.update | exact rfl)
theorem Sys.setBootHub_kept (s : Sys) (h_ : Nat) (b : BootHub) (hs : s.Kept) : Sys.Kept (Sys.setBootHub s h_ b) := by
  unfold Sys.setBootHub
  with_reducible repeat' (first | assumption | (extract_lets +onlyGivenNames x; clear_value x) | apply Kept.update)
theorem Sys.modBootHub_kept (s : Sys) (h_ : Nat) (f : BootHub → BootHub) (hs : s.Kept)
    : Sys.Kept (Sys.modBootHub s h_ f) := by
  unfold Sys.modBootHub
  with_reducible repeat' (first | assumption | apply Sys.setBootHub_kept)
theorem Sys.hubReadEffect_kept (s : Sys) (h_ off : Nat) (hs : s.Kept) : Sys.Kept (Sys.hubReadEffect s h_ off) := by
  unfold Sys.hubReadEffect
  with_reducible repeat' (first
    | assumption | (intro _) | (extract_lets +onlyGivenNames x; clear_value x) | apply Kept.ite | split
    | apply Sys.modHub_kept | apply Sys.modEngine_kept | apply Kept.update)
theorem Sys.setQP_kept (s : Sys) (h_ q : Nat) (p : QP) (hs : s.Kept) : Sys.Kept (Sys.setQP s h_ q p) := by
  unfold Sys.setQP
  with_reducible repeat' (first | assumption | apply Sys.modHub_kept)
theorem Sys.qpError_kept (s : Sys) (h_ q cause : Nat) (hs : s.Kept) : Sys.Kept (Sys.qpError s h_ q cause) := by
  unfold Sys.qpError
  with_reducible repeat' (first
    | assumption | (extract_lets +onlyGivenNames x; clear_value x) | apply Sys.event_kept | apply Sys.setQP_kept)
theorem Sys.disablePairs_kept (s : Sys) (part : Option Nat) (cause : Nat) (except_ : Option (Nat × Nat)) (hs : s.Kept)
    : Sys.Kept (Sys.disablePairs s part cause except_) := by
  unfold Sys.disablePairs
  with_reducible repeat' (first
    | assumption | (intro _) | (extract_lets +onlyGivenNames x; clear_value x) | apply Kept.ite | split
    | apply Sys.setQP_kept | apply Kept.fold)
theorem Sys.sqTail_kept (s : Sys) (h_ q tail : Nat) (hs : s.Kept) : Sys.Kept (Sys.sqTail s h_ q tail) := by
  unfold Sys.sqTail
  with_reducible repeat' (first
    | assumption | (intro _) | (extract_lets +onlyGivenNames x; clear_value x) | apply Kept.ite | apply Sys.log_kept
    | apply Sys.qpError_kept | apply Sys.setQP_kept)
theorem Sys.cqHead_kept (s : Sys) (h_ q head : Nat) (hs : s.Kept) : Sys.Kept (Sys.cqHead s h_ q head) := by
  unfold Sys.cqHead
  with_reducible repeat' (first
    | assumption | (intro _) | (extract_lets +onlyGivenNames x; clear_value x) | apply Kept.ite | apply Sys.log_kept
    | apply Sys.qpError_kept | apply Sys.setQP_kept)
theorem Sys.qpEnable_kept (s : Sys) (h_ q : Nat) (hs : s.Kept) : Sys.Kept (Sys.qpEnable s h_ q) := by
  unfold Sys.qpEnable
  with_reducible repeat' (first
    | assumption | (intro _) | (extract_lets +onlyGivenNames x; clear_value x) | apply Kept.ite | apply Sys.setQP_kept)
theorem Sys.qpDisable_kept (s : Sys) (h_ q : Nat) (hs : s.Kept) : Sys.Kept (Sys.qpDisable s h_ q) := by
  unfold Sys.qpDisable
  with_reducible repeat' (first | assumption | (intro _) | apply Kept.ite | apply Sys.setQP_kept)
theorem Sys.pushReply_kept (s : Sys) (h_ q num : Nat) (r : Reply) (hs : s.Kept) : Sys.Kept (Sys.pushReply s h_ q num r) := by
  unfold Sys.pushReply
  with_reducible repeat' (first
    | assumption | (intro _) | (extract_lets +onlyGivenNames x; clear_value x) | apply Kept.ite | split
    | apply Sys.setQP_kept)
theorem Sys.commandFetch_kept (s : Sys) (h_ : Nat) (hs : s.Kept) : Sys.Kept (Sys.commandFetch s h_) := by
  unfold Sys.commandFetch
  with_reducible repeat' (first
    | assumption | (intro _)
    | (extract_lets +onlyGivenNames x; apply Kept.let (x := x); rotate_left; intro hx; clear_value x; rotate_left; subst x)
    | (extract_lets +onlyGivenNames x; clear_value x) | apply Kept.ite | split | apply Sys.qpError_kept
    | apply Sys.modHub_kept | apply Sys.setHub_kept | apply Sys.pushReply_kept)
theorem Sys.markStarted_kept (s : Sys) (h_ q num : Nat) (hs : s.Kept) : Sys.Kept (Sys.markStarted s h_ q num) := by
  unfold Sys.markStarted
  with_reducible repeat' (first
    | assumption | (extract_lets +onlyGivenNames x; clear_value x) | apply Sys.setQP_kept)
theorem Sys.raiseCQ_kept (s : Sys) (h_ q : Nat) (hs : s.Kept) : Sys.Kept (Sys.raiseCQ s h_ q) := by
  unfold Sys.raiseCQ
  with_reducible repeat' (first
    | assumption | (extract_lets +onlyGivenNames x; clear_value x) | apply Sys.msix_kept | apply Sys.setQP_kept)
theorem Sys.replyWrite_kept (s : Sys) (h_ q : Nat) (hs : s.Kept) : Sys.Kept (Sys.replyWrite s h_ q) := by
  unfold Sys.replyWrite
  with_reducible repeat' (first
    | assumption | (intro _)
    | (extract_lets +onlyGivenNames x; apply Kept.let (x := x); rotate_left; intro hx; clear_value x; rotate_left; subst x)
    | (extract_lets +onlyGivenNames x; clear_value x) | apply Kept.ite | split | apply Sys.hostWrite_kept
    | apply Sys.setQP_kept | apply Sys.raiseCQ_kept)
theorem Sys.coalesceTimeout_kept (s : Sys) (h_ q : Nat) (hs : s.Kept) : Sys.Kept (Sys.coalesceTimeout s h_ q) := by
  unfold Sys.coalesceTimeout
  with_reducible repeat' (first
    | assumption | (intro _) | (extract_lets +onlyGivenNames x; clear_value x) | apply Kept.ite
    | apply Sys.raiseCQ_kept)
theorem Sys.hubLinkReset_kept (s : Sys) (h_ : Nat) (down : Bool) (hs : s.Kept) : Sys.Kept (Sys.hubLinkReset s h_ down) := by
  unfold Sys.hubLinkReset
  with_reducible repeat' (first
    | assumption | (intro _) | (extract_lets +onlyGivenNames x; clear_value x) | apply Kept.ite | apply Sys.event_kept
    | apply Sys.setHub_kept)
theorem Sys.busMasterClear_kept (s : Sys) (h_ : Nat) (hs : s.Kept) : Sys.Kept (Sys.busMasterClear s h_) := by
  unfold Sys.busMasterClear
  with_reducible repeat' (first | assumption | apply Sys.modHub_kept)
theorem Sys.setBound_kept (s : Sys) (h_ : Nat) (b : Bool) (hs : s.Kept) : Sys.Kept (Sys.setBound s h_ b) := by
  unfold Sys.setBound
  with_reducible repeat' (first
    | assumption | (intro _) | apply Kept.ite | apply Sys.event_kept | apply Sys.modHub_kept)
theorem Sys.bindHi_kept (s : Sys) (h_ hi : Nat) (hs : s.Kept) : Sys.Kept (Sys.bindHi s h_ hi) := by
  unfold Sys.bindHi
  with_reducible repeat' (first
    | assumption | (intro _)
    | (extract_lets +onlyGivenNames x; apply Kept.let (x := x); rotate_left; intro hx; clear_value x; rotate_left; subst x)
    | (extract_lets +onlyGivenNames x; clear_value x) | apply Kept.ite | apply Kept.ite2 | split | apply Sys.setHub_kept
    | apply Sys.setBound_kept | apply Sys.disablePairs_kept | apply Sys.modHub_kept | apply Sys.log_kept
    | refine Kept.pair (by assumption) ?_ | refine Kept.ofSomeP (by assumption) ?_
    | refine Kept.ofSome (by assumption) ?_ | apply Kept.fold | apply Kept.fold2 | apply Kept.modLead | apply Kept.some_
    | exact Kept.none_ | apply Kept.someP | exact Kept.noneP | apply Kept.update | exact rfl)
theorem Sys.pcieTraining_kept (s : Sys) (h_ rate width : Nat) (hs : s.Kept)
    : Sys.Kept (Sys.pcieTraining s h_ rate width) := by
  unfold Sys.pcieTraining
  with_reducible repeat' (first
    | assumption | (intro _)
    | (extract_lets +onlyGivenNames x; apply Kept.let (x := x); rotate_left; intro hx; clear_value x; rotate_left; subst x)
    | (extract_lets +onlyGivenNames x; clear_value x) | apply Kept.ite | apply Sys.hubLinkReset_kept
    | apply Sys.setHub_kept | apply Sys.event_kept)
theorem Sys.msixUnmask_kept (s : Sys) (h_ v : Nat) (hs : s.Kept) : Sys.Kept (Sys.msixUnmask s h_ v) := by
  unfold Sys.msixUnmask
  with_reducible repeat' (first
    | assumption | (intro _)
    | (extract_lets +onlyGivenNames x; apply Kept.let (x := x); rotate_left; intro hx; clear_value x; rotate_left; subst x)
    | (extract_lets +onlyGivenNames x; clear_value x) | apply Kept.ite | apply Sys.setHub_kept | apply Sys.msix_kept)
theorem Sys.copyRegion_kept (s : Sys) (t a u b : Nat) (hs : s.Kept) : Sys.Kept (Sys.copyRegion s t a u b) := by
  unfold Sys.copyRegion
  with_reducible repeat' (first
    | assumption | split | apply Sys.askTile_kept | apply Sys.onTile_kept | refine Kept.pair (by assumption) ?_)
theorem Sys.placeShadow_kept (s : Sys) (o k : Nat) (hs : s.Kept) : Kept.Opt (Sys.placeShadow s o k) := by
  unfold Sys.placeShadow
  with_reducible repeat' (first
    | assumption
    | (extract_lets +onlyGivenNames x; apply Kept.let (x := x); rotate_left; intro hx; clear_value x; rotate_left; subst x)
    | (extract_lets +onlyGivenNames x; clear_value x) | split | apply Sys.modTile_kept | exact Kept.none_
    | apply Kept.some_)
theorem Sys.dropShadow_kept (s : Sys) (l m : Nat) (hs : s.Kept) : Sys.Kept (Sys.dropShadow s l m) := by
  unfold Sys.dropShadow
  with_reducible repeat' (first | assumption | split | apply Sys.modTile_kept)
theorem Sys.shadowRows_kept (s : Sys) (o k : Nat) (hs : s.Kept) : Sys.Kept (Sys.shadowRows s o k).2 := by
  unfold Sys.shadowRows
  with_reducible repeat' (first
    | assumption | (intro _) | apply Kept.ite2 | split | apply Sys.askTile_kept | refine Kept.pair (by assumption) ?_)
theorem Sys.moveShadow_kept (s : Sys) (o k : Nat) (hs : s.Kept) : Sys.Kept (Sys.moveShadow s o k) := by
  unfold Sys.moveShadow
  with_reducible repeat' (first
    | assumption | (intro _)
    | (extract_lets +onlyGivenNames x; apply Kept.let (x := x); rotate_left; intro hx; clear_value x; rotate_left; subst x)
    | (extract_lets +onlyGivenNames x; clear_value x) | (extract_lets +onlyGivenNames x; subst x) | apply Kept.ite
    | apply Kept.ite2 | split | apply Sys.askTile_kept | apply Sys.shadowRows_kept | apply Sys.dropShadow_kept
    | apply Sys.modTile_kept | apply Sys.placeShadow_kept | apply Sys.onTile_kept
    | refine Kept.pair (by assumption) ?_ | refine Kept.ofSome (by assumption) ?_)
theorem Sys.refreshShadows_kept (s : Sys) (hs : s.Kept) : Sys.Kept (Sys.refreshShadows s) := by
  unfold Sys.refreshShadows
  with_reducible repeat' (first
    | assumption | (intro _) | apply Kept.ite | apply Sys.moveShadow_kept | apply Kept.fold)
theorem Sys.ensureShadows_kept (s : Sys) (part : Nat) (hs : s.Kept) : Sys.Kept (Sys.ensureShadows s part) := by
  unfold Sys.ensureShadows
  with_reducible repeat' (first
    | assumption | (intro _) | (extract_lets +onlyGivenNames x; clear_value x) | apply Kept.ite
    | apply Sys.placeShadow_kept | apply Kept.fold | apply Kept.getD)
theorem Sys.coreCtrl_kept (s : Sys) (slots : List (Nat × Nat)) (code : Nat) (hs : s.Kept)
    : Sys.Kept (Sys.coreCtrl s slots code) := by
  unfold Sys.coreCtrl
  with_reducible repeat' (first
    | assumption | (extract_lets +onlyGivenNames x; clear_value x) | apply Sys.sendAll_kept)
theorem Sys.jobCtrl_kept (s : Sys) (n code : Nat) (hs : s.Kept) : Sys.Kept (Sys.jobCtrl s n code) := by
  unfold Sys.jobCtrl
  with_reducible repeat' (first | assumption | apply Sys.coreCtrl_kept)
theorem Sys.upJob_kept (s : Sys) (n : Nat) (f : Job → Job) (hs : s.Kept) : Sys.Kept (Sys.upJob s n f) := by
  unfold Sys.upJob
  with_reducible repeat' (first
    | assumption | (intro _)
    | (extract_lets +onlyGivenNames x; apply Kept.let (x := x); rotate_left; intro hx; clear_value x; rotate_left; subst x)
    | (extract_lets +onlyGivenNames x; clear_value x) | apply Kept.ite | split | apply Sys.setJob_kept
    | apply Sys.eventBoth_kept | apply Sys.hostWrite_kept)
theorem Sys.modJob_kept (s : Sys) (n : Nat) (f : Job → Job) (hs : s.Kept) : Sys.Kept (Sys.modJob s n f) := by
  unfold Sys.modJob
  with_reducible repeat' (first | assumption | apply Sys.setJob_kept)
theorem Sys.freezeJob_kept (s : Sys) (n : Nat) (hs : s.Kept) : Sys.Kept (Sys.freezeJob s n) := by
  unfold Sys.freezeJob
  with_reducible repeat' (first | assumption | apply Sys.jobCtrl_kept | apply Sys.modJob_kept)
theorem Sys.armJob_kept (s : Sys) (n : Nat) (hs : s.Kept) : Sys.Kept (Sys.armJob s n) := by
  unfold Sys.armJob
  with_reducible repeat' (first
    | assumption | (intro _) | (extract_lets +onlyGivenNames x; clear_value x) | apply Sys.setTileReg_kept
    | apply Kept.fold)
theorem Sys.writeStarts_kept (s : Sys) (n : Nat) (hs : s.Kept) : Sys.Kept (Sys.writeStarts s n) := by
  unfold Sys.writeStarts
  with_reducible repeat' (first
    | assumption | (intro _)
    | (extract_lets +onlyGivenNames x; apply Kept.let (x := x); rotate_left; intro hx; clear_value x; rotate_left; subst x)
    | (extract_lets +onlyGivenNames x; clear_value x) | apply Sys.modJob_kept | apply Sys.setTileReg_kept
    | apply Kept.fold)
theorem Sys.answerWaits_kept (s : Sys) (sel : WaitFor → Bool) (f : Reply → Reply) (hs : s.Kept)
    : Sys.Kept (Sys.answerWaits s sel f) := by
  unfold Sys.answerWaits
  with_reducible repeat' (first
    | assumption | (intro _)
    | (extract_lets +onlyGivenNames x; apply Kept.let (x := x); rotate_left; intro hx; clear_value x; rotate_left; subst x)
    | (extract_lets +onlyGivenNames x; clear_value x) | apply Sys.pushReply_kept | apply Kept.fold
    | apply Kept.modLead | exact rfl)
theorem Sys.applyOpp_kept (s : Sys) (g : List Nat) (op : Nat) (hs : s.Kept) : Sys.Kept (Sys.applyOpp s g op) := by
  unfold Sys.applyOpp
  with_reducible repeat' (first
    | assumption | (intro _)
    | (extract_lets +onlyGivenNames x; apply Kept.let (x := x); rotate_left; intro hx; clear_value x; rotate_left; subst x)
    | (extract_lets +onlyGivenNames x; clear_value x) | apply Sys.modTile_kept | apply Sys.modJob_kept
    | apply Kept.fold | apply Kept.update)
theorem Sys.thawOne_kept (s : Sys) (n : Nat) (hs : s.Kept) : Sys.Kept (Sys.thawOne s n) := by
  unfold Sys.thawOne
  with_reducible repeat' (first
    | assumption | (intro _)
    | (extract_lets +onlyGivenNames x; apply Kept.let (x := x); rotate_left; intro hx; clear_value x; rotate_left; subst x)
    | apply Kept.ite | apply Sys.upJob_kept | apply Sys.writeStarts_kept | apply Sys.jobCtrl_kept
    | apply Sys.answerWaits_kept)
theorem Sys.thawJob_kept (s : Sys) (n : Nat) (hs : s.Kept) : Sys.Kept (Sys.thawJob s n) := by
  unfold Sys.thawJob
  with_reducible repeat' (first
    | assumption | (intro _)
    | (extract_lets +onlyGivenNames x; apply Kept.let (x := x); rotate_left; intro hx; clear_value x; rotate_left; subst x)
    | (extract_lets +onlyGivenNames x; clear_value x) | apply Kept.ite | apply Kept.ite2 | split
    | apply Sys.thawOne_kept | apply Sys.applyOpp_kept | apply Sys.freezeJob_kept | apply Sys.upJob_kept
    | refine Kept.pair (by assumption) ?_ | refine Kept.ofSomeP (by assumption) ?_
    | refine Kept.ofSome (by assumption) ?_ | apply Kept.fold | apply Kept.fold2 | apply Kept.modLead | apply Kept.some_
    | exact Kept.none_ | apply Kept.someP | exact Kept.noneP | apply Kept.update | exact rfl)
theorem Sys.addWait_kept (s : Sys) (h_ q num : Nat) (w : WaitFor) (r : Reply) (hs : s.Kept)
    : Sys.Kept (Sys.addWait s h_ q num w r) := by
  unfold Sys.addWait
  with_reducible repeat' (first
    | assumption | (intro _)
    | (extract_lets +onlyGivenNames x; apply Kept.let (x := x); rotate_left; intro hx; clear_value x; rotate_left; subst x)
    | (extract_lets +onlyGivenNames x; clear_value x) | apply Kept.ite | apply Kept.ite2 | split
    | refine Kept.pair (by assumption) ?_ | refine Kept.ofSomeP (by assumption) ?_
    | refine Kept.ofSome (by assumption) ?_ | apply Kept.fold | apply Kept.fold2 | apply Kept.modLead | apply Kept.some_
    | exact Kept.none_ | apply Kept.someP | exact Kept.noneP | apply Kept.update | exact rfl)
theorem Sys.endJob_kept (s : Sys) (n fail : Nat) (hs : s.Kept) : Sys.Kept (Sys.endJob s n fail) := by
  unfold Sys.endJob
  with_reducible repeat' (first
    | assumption | (intro _)
    | (extract_lets +onlyGivenNames x; apply Kept.let (x := x); rotate_left; intro hx; clear_value x; rotate_left; subst x)
    | (extract_lets +onlyGivenNames x; clear_value x) | split | apply Sys.upJob_kept | apply Sys.modTile_kept
    | apply Sys.pushReply_kept | apply Sys.answerWaits_kept | apply Kept.fold)
theorem Sys.stopJob_kept (s : Sys) (n fail : Nat) (hs : s.Kept) : Sys.Kept (Sys.stopJob s n fail) := by
  unfold Sys.stopJob
  with_reducible repeat' (first | assumption | apply Sys.jobCtrl_kept | apply Sys.modJob_kept)
theorem Sys.failJob_kept (s : Sys) (n fail fault : Nat) (hs : s.Kept) : Sys.Kept (Sys.failJob s n fail fault) := by
  unfold Sys.failJob
  with_reducible repeat' (first
    | assumption | (intro _) | apply Kept.ite | apply Sys.endJob_kept | apply Sys.modJob_kept | apply Sys.jobCtrl_kept)
theorem Sys.laterJob_kept (s : Sys) (n : Nat) (hs : s.Kept) : Sys.Kept (Sys.laterJob s n) := by
  unfold Sys.laterJob
  with_reducible repeat' (first
    | assumption | (intro _)
    | (extract_lets +onlyGivenNames x; apply Kept.let (x := x); rotate_left; intro hx; clear_value x; rotate_left; subst x)
    | (extract_lets +onlyGivenNames x; clear_value x) | apply Kept.ite | apply Kept.ite2 | split
    | refine Kept.pair (by assumption) ?_ | refine Kept.ofSomeP (by assumption) ?_
    | refine Kept.ofSome (by assumption) ?_ | apply Kept.fold | apply Kept.fold2 | apply Kept.modLead | apply Kept.some_
    | exact Kept.none_ | apply Kept.someP | exact Kept.noneP | apply Kept.update | exact rfl)
theorem Sys.beginReplay_kept (s : Sys) (n : Nat) (hs : s.Kept) : Sys.Kept (Sys.beginReplay s n) := by
  unfold Sys.beginReplay
  with_reducible repeat' (first
    | assumption | (intro _)
    | (extract_lets +onlyGivenNames x; apply Kept.let (x := x); rotate_left; intro hx; clear_value x; rotate_left; subst x)
    | (extract_lets +onlyGivenNames x; clear_value x) | apply Kept.ite | apply Sys.failJob_kept | apply Sys.upJob_kept
    | apply Sys.answerWaits_kept | apply Sys.modTile_kept | apply Sys.freezeJob_kept | apply Kept.fold)
theorem Sys.finishCommit_kept (s : Sys) (n : Nat) (hs : s.Kept) : Sys.Kept (Sys.finishCommit s n) := by
  unfold Sys.finishCommit
  with_reducible repeat' (first
    | assumption | (intro _)
    | (extract_lets +onlyGivenNames x; apply Kept.let (x := x); rotate_left; intro hx; clear_value x; rotate_left; subst x)
    | (extract_lets +onlyGivenNames x; clear_value x) | apply Kept.ite | split | apply Sys.upJob_kept
    | apply Sys.modHub_kept | apply Sys.answerWaits_kept | apply Sys.endJob_kept | apply Sys.stopJob_kept
    | apply Sys.armJob_kept | apply Sys.thawJob_kept | apply Sys.modJob_kept | apply Kept.fold)
theorem Sys.beginCommit_kept (s : Sys) (n : Nat) (hs : s.Kept) : Sys.Kept (Sys.beginCommit s n) := by
  unfold Sys.beginCommit
  with_reducible repeat' (first
    | assumption | (intro _)
    | (extract_lets +onlyGivenNames x; apply Kept.let (x := x); rotate_left; intro hx; clear_value x; rotate_left; subst x)
    | (extract_lets +onlyGivenNames x; clear_value x) | apply Kept.ite | apply Sys.modJob_kept
    | apply Sys.modTile_kept | apply Kept.fold)
theorem Sys.decideCommit_kept (s : Sys) (n : Nat) (hs : s.Kept) : Sys.Kept (Sys.decideCommit s n) := by
  unfold Sys.decideCommit
  with_reducible repeat' (first
    | assumption | (intro _)
    | (extract_lets +onlyGivenNames x; apply Kept.let (x := x); rotate_left; intro hx; clear_value x; rotate_left; subst x)
    | (extract_lets +onlyGivenNames x; clear_value x) | apply Kept.ite | split | apply Sys.laterJob_kept
    | apply Sys.beginReplay_kept | apply Sys.upJob_kept | apply Sys.modJob_kept | apply Sys.answerWaits_kept
    | apply Sys.ensureShadows_kept | apply Sys.finishCommit_kept | apply Sys.onTile_kept | apply Kept.fold)
theorem Sys.commitSweepDone_kept (s : Sys) (n : Nat) (hs : s.Kept) : Sys.Kept (Sys.commitSweepDone s n) := by
  unfold Sys.commitSweepDone
  with_reducible repeat' (first
    | assumption | (intro _) | apply Kept.ite | split | apply Sys.beginCommit_kept | apply Sys.decideCommit_kept)
theorem Sys.copiesDone_kept (s : Sys) (hs : s.Kept) : Sys.Kept (Sys.copiesDone s) := by
  unfold Sys.copiesDone
  with_reducible repeat' (first
    | assumption | (intro _) | apply Kept.ite | split | apply Sys.beginCommit_kept | apply Sys.finishCommit_kept
    | apply Kept.fold)
theorem Sys.dropAnchor_kept (s : Sys) (n : Nat) (hs : s.Kept) : Sys.Kept (Sys.dropAnchor s n) := by
  unfold Sys.dropAnchor
  with_reducible repeat' (first
    | assumption | (intro _)
    | (extract_lets +onlyGivenNames x; apply Kept.let (x := x); rotate_left; intro hx; clear_value x; rotate_left; subst x)
    | (extract_lets +onlyGivenNames x; clear_value x) | apply Kept.ite | apply Kept.ite2 | split | apply Sys.modJob_kept
    | refine Kept.pair (by assumption) ?_ | refine Kept.ofSomeP (by assumption) ?_
    | refine Kept.ofSome (by assumption) ?_ | apply Kept.fold | apply Kept.fold2 | apply Kept.modLead | apply Kept.some_
    | exact Kept.none_ | apply Kept.someP | exact Kept.noneP | apply Kept.update | exact rfl)
theorem Sys.settleJob_kept (s : Sys) (n : Nat) (hs : s.Kept) : Sys.Kept (Sys.settleJob s n) := by
  unfold Sys.settleJob
  with_reducible repeat' (first
    | assumption | (intro _)
    | (extract_lets +onlyGivenNames x; apply Kept.let (x := x); rotate_left; intro hx; clear_value x; rotate_left; subst x)
    | (extract_lets +onlyGivenNames x; clear_value x) | apply Kept.ite | apply Kept.ite2 | split
    | apply Sys.dropAnchor_kept | apply Sys.endJob_kept | apply Sys.upJob_kept | refine Kept.pair (by assumption) ?_
    | refine Kept.ofSomeP (by assumption) ?_ | refine Kept.ofSome (by assumption) ?_ | apply Kept.fold
    | apply Kept.fold2 | apply Kept.modLead | apply Kept.some_ | exact Kept.none_ | apply Kept.someP | exact Kept.noneP
    | apply Kept.update | exact rfl)
theorem Sys.settleJobs_kept (s : Sys) (hs : s.Kept) : Sys.Kept (Sys.settleJobs s) := by
  unfold Sys.settleJobs
  with_reducible repeat' (first | assumption | (intro _) | apply Sys.settleJob_kept | apply Kept.fold)
theorem Sys.stepEnd_kept (s : Sys) (hs : s.Kept) : Sys.Kept (Sys.stepEnd s) := by
  unfold Sys.stepEnd
  with_reducible repeat' (first
    | assumption | (intro _)
    | (extract_lets +onlyGivenNames x; apply Kept.let (x := x); rotate_left; intro hx; clear_value x; rotate_left; subst x)
    | (extract_lets +onlyGivenNames x; clear_value x) | apply Kept.ite | split | apply Sys.takeMsg_kept
    | apply Sys.modJob_kept | apply Sys.beginCommit_kept | apply Sys.upJob_kept
    | refine Kept.ofSomeP (by assumption) ?_)
theorem Sys.reportMiss_kept (s : Sys) (n f late : Nat) (hs : s.Kept) : Sys.Kept (Sys.reportMiss s n f late) := by
  unfold Sys.reportMiss
  with_reducible repeat' (first
    | assumption | (intro _)
    | (extract_lets +onlyGivenNames x; apply Kept.let (x := x); rotate_left; intro hx; clear_value x; rotate_left; subst x)
    | apply Kept.ite | apply Sys.upJob_kept | apply Sys.stopJob_kept)
theorem Sys.frame_kept (s : Sys) (hs : s.Kept) : Sys.Kept (Sys.frame s) := by
  unfold Sys.frame
  with_reducible repeat' (first
    | assumption | (intro _)
    | (extract_lets +onlyGivenNames x; apply Kept.let (x := x); rotate_left; intro hx; clear_value x; rotate_left; subst x)
    | (extract_lets +onlyGivenNames x; clear_value x) | apply Kept.ite | split | apply Sys.takeMsg_kept
    | apply Sys.modJob_kept | apply Sys.reportMiss_kept | refine Kept.ofSomeP (by assumption) ?_)
theorem Sys.frameOverdue_kept (s : Sys) (n : Nat) (hs : s.Kept) : Sys.Kept (Sys.frameOverdue s n) := by
  unfold Sys.frameOverdue
  with_reducible repeat' (first
    | assumption | (intro _) | (extract_lets +onlyGivenNames x; clear_value x) | apply Kept.ite | split
    | apply Sys.reportMiss_kept)
theorem Sys.mapShed_kept (s : Sys) (kind wher sub state logical : Nat) (hs : s.Kept)
    : Sys.Kept (Sys.mapShed s kind wher sub state logical) := by
  unfold Sys.mapShed
  with_reducible repeat' (first | assumption | (extract_lets +onlyGivenNames x; clear_value x) | apply Kept.update)
theorem Sys.markShed_kept (s : Sys) (kind wher sub : Nat) (hard host : Bool) (hs : s.Kept)
    : Sys.Kept (Sys.markShed s kind wher sub hard host) := by
  unfold Sys.markShed
  with_reducible repeat' (first
    | assumption | (intro _)
    | (extract_lets +onlyGivenNames x; apply Kept.let (x := x); rotate_left; intro hx; clear_value x; rotate_left; subst x)
    | (extract_lets +onlyGivenNames x; clear_value x) | apply Kept.ite | apply Sys.modUnit_kept
    | apply Sys.eventBoth_kept | apply Sys.log_kept | apply Sys.mapShed_kept)
theorem Sys.hardEvent_kept (s : Sys) (key code : Nat) (hs : s.Kept) : Sys.Kept (Sys.hardEvent s key code) := by
  unfold Sys.hardEvent
  with_reducible repeat' (first | assumption | apply Sys.modUnit_kept)
theorem Sys.recoverPart_kept (s : Sys) (p : Nat) (hs : s.Kept) : Sys.Kept (Sys.recoverPart s p) := by
  unfold Sys.recoverPart
  with_reducible repeat' (first
    | assumption | (intro _) | (extract_lets +onlyGivenNames x; clear_value x) | apply Kept.ite
    | apply Sys.freezeJob_kept | apply Sys.laterJob_kept | apply Sys.beginReplay_kept | apply Kept.fold)
theorem Sys.failPart_kept (s : Sys) (p fail : Nat) (hs : s.Kept) : Sys.Kept (Sys.failPart s p fail) := by
  unfold Sys.failPart
  with_reducible repeat' (first
    | assumption | (intro _) | apply Kept.ite | apply Sys.failJob_kept | apply Kept.fold)
theorem Sys.settleLater_kept (s : Sys) (hs : s.Kept) : Sys.Kept (Sys.settleLater s) := by
  unfold Sys.settleLater
  with_reducible repeat' (first
    | assumption | (intro _) | (extract_lets +onlyGivenNames x; have q a := Sys.Kept (x a); subst x)
    | (extract_lets +onlyGivenNames x; clear_value x) | apply Kept.ite | apply Sys.beginReplay_kept | apply Kept.fold
    | apply Kept.modLead | exact rfl)
theorem Sys.recopy_kept (s : Sys) (lost : Nat) (hs : s.Kept) : Sys.Kept (Sys.recopy s lost) := by
  unfold Sys.recopy
  with_reducible repeat' (first
    | assumption | (intro _)
    | (extract_lets +onlyGivenNames x; apply Kept.let (x := x); rotate_left; intro hx; clear_value x; rotate_left; subst x)
    | (extract_lets +onlyGivenNames x; clear_value x) | split | apply Sys.modTile_kept | apply Sys.placeShadow_kept
    | apply Sys.onTile_kept | apply Kept.fold | refine Kept.ofSome (by assumption) ?_)
theorem Sys.shedTile_kept (s : Sys) (t : Nat) (hard host drain : Bool) (hs : s.Kept)
    : Sys.Kept (Sys.shedTile s t hard host drain).2 := by
  unfold Sys.shedTile
  with_reducible repeat' (first
    | assumption | (intro _)
    | (extract_lets +onlyGivenNames x; apply Kept.let (x := x); rotate_left; intro hx; clear_value x; rotate_left; subst x)
    | (extract_lets +onlyGivenNames x; clear_value x) | apply Kept.ite2 | split | apply Sys.markShed_kept
    | apply Sys.fenceTile_kept | apply Sys.log_kept | apply Sys.mapShed_kept | apply Kept.modLead | exact rfl)
theorem Sys.loseTiles_kept (s : Sys) (ts : List Nat) (hard host : Bool) (hs : s.Kept)
    : Sys.Kept (Sys.loseTiles s ts hard host) := by
  unfold Sys.loseTiles
  with_reducible repeat' (first
    | assumption | (intro _)
    | (extract_lets +onlyGivenNames x; apply Kept.let (x := x); rotate_left; intro hx; clear_value x; rotate_left; subst x)
    | (extract_lets +onlyGivenNames x; clear_value x) | apply Kept.ite | split | apply Sys.shedTile_kept
    | apply Sys.failJob_kept | apply Sys.recopy_kept | apply Sys.recoverPart_kept | apply Sys.failPart_kept
    | apply Kept.fold | apply Kept.fold2 | apply Kept.modLead | exact rfl | refine Kept.pair (by assumption) ?_)
theorem Sys.loseTile_kept (s : Sys) (t : Nat) (hs : s.Kept) : Sys.Kept (Sys.loseTile s t) := by
  unfold Sys.loseTile
  with_reducible repeat' (first | assumption | (intro _) | apply Kept.ite | apply Sys.loseTiles_kept)
theorem Sys.askSwitch_kept (s : Sys) (hs : s.Kept) : Sys.Kept (Sys.askSwitch s) := by
  unfold Sys.askSwitch
  with_reducible repeat' (first | assumption | (intro _) | apply Kept.ite | apply Kept.modLead | exact rfl)
theorem Sys.oldRows_kept (s : Sys) (old k : Nat) (hs : s.Kept) : Sys.Kept (Sys.oldRows s old k).2 := by
  unfold Sys.oldRows
  with_reducible repeat' (first
    | assumption | (intro _) | apply Kept.ite2 | split | apply Sys.askTile_kept | refine Kept.pair (by assumption) ?_)
theorem Sys.otherRows_kept (s : Sys) (l o k : Nat) (r : Region) (code : Bool) (hs : s.Kept)
    : Sys.Kept (Sys.otherRows s l o k r code).2 := by
  unfold Sys.otherRows
  with_reducible repeat' (first
    | assumption | (intro _)
    | (extract_lets +onlyGivenNames x; apply Kept.let (x := x); rotate_left; intro hx; clear_value x; rotate_left; subst x)
    | (extract_lets +onlyGivenNames x; clear_value x) | apply Kept.ite | apply Kept.ite2 | split
    | apply Sys.askTile_kept | apply Sys.shadowRows_kept | refine Kept.pair (by assumption) ?_
    | refine Kept.ofSomeP (by assumption) ?_ | refine Kept.ofSome (by assumption) ?_ | apply Kept.fold
    | apply Kept.fold2 | apply Kept.modLead | apply Kept.some_ | exact Kept.none_ | apply Kept.someP | exact Kept.noneP
    | apply Kept.update | exact rfl)
theorem Sys.rebuildRows_kept (s : Sys) (g : Regrown) (k : Nat) (r : Region) (code : Bool) (hs : s.Kept)
    : Sys.Kept (Sys.rebuildRows s g k r code).2 := by
  unfold Sys.rebuildRows
  with_reducible repeat' (first
    | assumption | (intro _)
    | (extract_lets +onlyGivenNames x; apply Kept.let (x := x); rotate_left; intro hx; clear_value x; rotate_left; subst x)
    | (extract_lets +onlyGivenNames x; clear_value x) | apply Kept.ite | apply Kept.ite2 | split
    | apply Sys.oldRows_kept | apply Sys.otherRows_kept | refine Kept.pair (by assumption) ?_
    | refine Kept.ofSomeP (by assumption) ?_ | refine Kept.ofSome (by assumption) ?_ | apply Kept.fold
    | apply Kept.fold2 | apply Kept.modLead | apply Kept.some_ | exact Kept.none_ | apply Kept.someP | exact Kept.noneP
    | apply Kept.update | exact rfl)
theorem Sys.loseShadow_kept (s : Sys) (shadows : NMap (Nat × Nat)) (t k : Nat) (hs : s.Kept)
    : Sys.Kept (Sys.loseShadow s shadows t k) := by
  unfold Sys.loseShadow
  with_reducible repeat' (first
    | assumption | (intro _)
    | (extract_lets +onlyGivenNames x; apply Kept.let (x := x); rotate_left; intro hx; clear_value x; rotate_left; subst x)
    | (extract_lets +onlyGivenNames x; clear_value x) | apply Kept.ite | apply Kept.ite2 | split
    | apply Sys.modTile_kept | refine Kept.pair (by assumption) ?_ | refine Kept.ofSomeP (by assumption) ?_
    | refine Kept.ofSome (by assumption) ?_ | apply Kept.fold | apply Kept.fold2 | apply Kept.modLead | apply Kept.some_
    | exact Kept.none_ | apply Kept.someP | exact Kept.noneP | apply Kept.update | exact rfl)
theorem Sys.reloadDamaged_kept (s : Sys) (p : Nat) (hs : s.Kept) : Sys.Kept (Sys.reloadDamaged s p).2 := by
  unfold Sys.reloadDamaged
  with_reducible repeat' (first
    | assumption | (intro _)
    | (extract_lets +onlyGivenNames x; apply Kept.let (x := x); rotate_left; intro hx; clear_value x; rotate_left; subst x)
    | (extract_lets +onlyGivenNames x; clear_value x) | apply Kept.ite | apply Kept.ite2 | split
    | apply Sys.otherRows_kept | apply Sys.onTile_kept | apply Sys.loseShadow_kept | refine Kept.pair (by assumption) ?_
    | refine Kept.ofSomeP (by assumption) ?_ | refine Kept.ofSome (by assumption) ?_ | apply Kept.fold
    | apply Kept.fold2 | apply Kept.modLead | apply Kept.some_ | exact Kept.none_ | apply Kept.someP | exact Kept.noneP
    | apply Kept.update | exact rfl)
theorem Sys.reloadSlot_kept (s : Sys) (t l src k : Nat) (hs : s.Kept) : Sys.Kept (Sys.reloadSlot s t l src k) := by
  unfold Sys.reloadSlot
  with_reducible repeat' (first
    | assumption | (intro _)
    | (extract_lets +onlyGivenNames x; apply Kept.let (x := x); rotate_left; intro hx; clear_value x; rotate_left; subst x)
    | (extract_lets +onlyGivenNames x; clear_value x) | apply Kept.ite | split | apply Sys.onTile_kept
    | apply Kept.modLead | exact rfl)
theorem Sys.tileRebuild_kept (s : Sys) (t : Nat) (hs : s.Kept) : Sys.Kept (Sys.tileRebuild s t) := by
  unfold Sys.tileRebuild
  with_reducible repeat' (first
    | assumption | (intro _)
    | (extract_lets +onlyGivenNames x; apply Kept.let (x := x); rotate_left; intro hx; clear_value x; rotate_left; subst x)
    | (extract_lets +onlyGivenNames x; clear_value x) | apply Kept.ite | apply Kept.ite2 | split
    | apply Sys.modTile_kept | apply Sys.setTileReg_kept | apply Sys.rebuildRows_kept | apply Sys.onTile_kept
    | apply Sys.loseShadow_kept | apply Sys.reloadSlot_kept | apply Sys.moveShadow_kept | apply Sys.failPart_kept
    | refine Kept.pair (by assumption) ?_ | refine Kept.ofSomeP (by assumption) ?_
    | refine Kept.ofSome (by assumption) ?_ | apply Kept.fold | apply Kept.fold2 | apply Kept.modLead | apply Kept.some_
    | exact Kept.none_ | apply Kept.someP | exact Kept.noneP | apply Kept.update | exact rfl)
theorem Sys.slotReadyTimeout_kept (s : Sys) (t k : Nat) (hs : s.Kept) : Sys.Kept (Sys.slotReadyTimeout s t k) := by
  unfold Sys.slotReadyTimeout
  with_reducible repeat' (first
    | assumption | (intro _)
    | (extract_lets +onlyGivenNames x; apply Kept.let (x := x); rotate_left; intro hx; clear_value x; rotate_left; subst x)
    | (extract_lets +onlyGivenNames x; clear_value x) | apply Kept.ite | split | apply Sys.failJob_kept
    | apply Kept.modLead | exact rfl)
theorem Sys.freezeTimeout_kept (s : Sys) (t k : Nat) (hs : s.Kept) : Sys.Kept (Sys.freezeTimeout s t k) := by
  unfold Sys.freezeTimeout
  with_reducible repeat' (first
    | assumption | (intro _) | (extract_lets +onlyGivenNames x; clear_value x) | apply Kept.ite | split
    | apply Sys.coreCtrl_kept | apply Sys.modJob_kept)
theorem Sys.writeSlot_kept (s : Sys) (j : Job) (t k : Nat) (e : JobEntry) (hs : s.Kept)
    : Sys.Kept (Sys.writeSlot s j t k e) := by
  unfold Sys.writeSlot
  with_reducible repeat' (first | assumption | split | apply Sys.modTile_kept)
theorem Sys.restoreMirrors_kept (s : Sys) (p : Nat) (hs : s.Kept) : Sys.Kept (Sys.restoreMirrors s p).2 := by
  unfold Sys.restoreMirrors
  with_reducible repeat' (first
    | assumption | (intro _) | (extract_lets +onlyGivenNames x; clear_value x) | apply Kept.ite2 | split
    | apply Sys.shadowRows_kept | apply Sys.onTile_kept | apply Sys.moveShadow_kept | apply Kept.fold2)
theorem Sys.purgePart_kept (s : Sys) (p : Nat) (hs : s.Kept) : Sys.Kept (Sys.purgePart s p) := by
  unfold Sys.purgePart
  with_reducible repeat' (first
    | assumption | (intro _)
    | (extract_lets +onlyGivenNames x; apply Kept.let (x := x); rotate_left; intro hx; clear_value x; rotate_left; subst x)
    | apply Kept.ite | apply Sys.onTile_kept | apply Sys.modHub_kept | apply Sys.sendAll_kept | apply Kept.fold
    | apply Kept.update)
theorem Sys.resendItems_kept (s : Sys) (p : Nat) (hs : s.Kept) : Sys.Kept (Sys.resendItems s p) := by
  unfold Sys.resendItems
  with_reducible repeat' (first | assumption | (intro _) | apply Sys.modHub_kept | apply Kept.fold)
theorem Sys.unlatchPart_kept (s : Sys) (p : Nat) (hs : s.Kept) : Sys.Kept (Sys.unlatchPart s p) := by
  unfold Sys.unlatchPart
  with_reducible repeat' (first
    | assumption | (intro _) | (extract_lets +onlyGivenNames x; clear_value x) | apply Sys.setStraight_kept
    | apply Kept.fold)
theorem Sys.replayRewind_kept (s : Sys) (n : Nat) (hs : s.Kept) : Sys.Kept (Sys.replayRewind s n) := by
  unfold Sys.replayRewind
  with_reducible repeat' (first
    | assumption | (intro _)
    | (extract_lets +onlyGivenNames x; apply Kept.let (x := x); rotate_left; intro hx; clear_value x; rotate_left; subst x)
    | (extract_lets +onlyGivenNames x; clear_value x) | apply Kept.ite | apply Kept.ite2 | split
    | apply Sys.purgePart_kept | apply Sys.modJob_kept | apply Sys.reloadDamaged_kept | apply Sys.restoreMirrors_kept
    | apply Sys.failJob_kept | apply Sys.writeSlot_kept | apply Sys.onTile_kept | apply Sys.unlatchPart_kept
    | apply Sys.resendItems_kept | apply Sys.modTile_kept | apply Sys.armJob_kept | apply Sys.thawJob_kept
    | apply Sys.answerWaits_kept | refine Kept.pair (by assumption) ?_ | refine Kept.ofSomeP (by assumption) ?_
    | refine Kept.ofSome (by assumption) ?_ | apply Kept.fold | apply Kept.fold2 | apply Kept.modLead | apply Kept.some_
    | exact Kept.none_ | apply Kept.someP | exact Kept.noneP | apply Kept.update | exact rfl)
theorem Sys.slotReadyNotice_kept (s : Sys) (t c : Nat) (hs : s.Kept) : Sys.Kept (Sys.slotReadyNotice s t c) := by
  unfold Sys.slotReadyNotice
  with_reducible repeat' (first
    | assumption | (intro _)
    | (extract_lets +onlyGivenNames x; apply Kept.let (x := x); rotate_left; intro hx; clear_value x; rotate_left; subst x)
    | (extract_lets +onlyGivenNames x; clear_value x) | apply Kept.ite | split | apply Sys.onTile_kept
    | apply Kept.modLead | exact rfl)
theorem Sys.coreLost_kept (s : Sys) (t c : Nat) (hs : s.Kept) : Sys.Kept (Sys.coreLost s t c) := by
  unfold Sys.coreLost
  with_reducible repeat' (first
    | assumption | (intro _)
    | (extract_lets +onlyGivenNames x; apply Kept.let (x := x); rotate_left; intro hx; clear_value x; rotate_left; subst x)
    | (extract_lets +onlyGivenNames x; clear_value x) | apply Kept.ite | split | apply Sys.markShed_kept
    | apply Sys.hardEvent_kept | apply Sys.loseTile_kept | apply Sys.log_kept | apply Sys.recoverPart_kept
    | apply Kept.fold | apply Kept.modLead | exact rfl)
theorem Sys.regRequest_kept (s : Sys) (h_ dst : Nat) (write : Bool) (off data : Nat) (hs : s.Kept)
    : Sys.Kept (Sys.regRequest s h_ dst write off data).2 := by
  unfold Sys.regRequest
  with_reducible repeat' (first
    | assumption | (extract_lets +onlyGivenNames x; clear_value x) | split | apply Sys.sendMsg_kept
    | apply Sys.modHub_kept)
theorem Sys.leadWrite_kept (s : Sys) (t off data : Nat) (hs : s.Kept) : Sys.Kept (Sys.leadWrite s t off data) := by
  unfold Sys.leadWrite
  with_reducible repeat' (first | assumption | apply Sys.regRequest_kept)
theorem Sys.regAnswer_kept (s : Sys) (n : Nat) (m : TMsg) (data status : Nat) (hs : s.Kept)
    : Sys.Kept (Sys.regAnswer s n m data status) := by
  unfold Sys.regAnswer
  with_reducible repeat' (first | assumption | apply Sys.sendMsg_kept)
theorem Sys.engineWrite_kept (s : Sys) (_e _off _v : Nat) (hs : s.Kept) : Sys.Kept (Sys.engineWrite s _e _off _v) := by
  unfold Sys.engineWrite
  (with_reducible repeat' assumption)
theorem Sys.tadRegRead_kept (s : Sys) (n : Nat) (hs : s.Kept) : Sys.Kept (Sys.tadRegRead s n) := by
  unfold Sys.tadRegRead
  with_reducible repeat' (first
    | assumption | (intro _) | (extract_lets +onlyGivenNames x; clear_value x) | apply Kept.ite | split
    | apply Sys.takeMsg_kept | apply Sys.regAnswer_kept | apply Sys.onTile_kept | apply Sys.modEngine_kept
    | refine Kept.ofSomeP (by assumption) ?_)
theorem Sys.tadRegWrite_kept (s : Sys) (n : Nat) (hs : s.Kept) : Sys.Kept (Sys.tadRegWrite s n) := by
  unfold Sys.tadRegWrite
  with_reducible repeat' (first
    | assumption | (intro _) | (extract_lets +onlyGivenNames x; clear_value x) | apply Kept.ite | split
    | apply Sys.takeMsg_kept | apply Sys.regAnswer_kept | apply Sys.askTile_kept | apply Sys.engineWrite_kept
    | refine Kept.pair (by assumption) ?_ | refine Kept.ofSomeP (by assumption) ?_)
theorem Sys.regEnd_kept (s : Sys) (w : Wait) (status field result : Nat) (hs : s.Kept)
    : Sys.Kept (Sys.regEnd s w status field result) := by
  unfold Sys.regEnd
  with_reducible repeat' (first
    | assumption | (intro _)
    | (extract_lets +onlyGivenNames x; apply Kept.let (x := x); rotate_left; intro hx; clear_value x; rotate_left; subst x)
    | (extract_lets +onlyGivenNames x; clear_value x) | apply Kept.ite | apply Kept.ite2 | split
    | apply Sys.pushReply_kept | refine Kept.pair (by assumption) ?_ | refine Kept.ofSomeP (by assumption) ?_
    | refine Kept.ofSome (by assumption) ?_ | apply Kept.fold | apply Kept.fold2 | apply Kept.modLead | apply Kept.some_
    | exact Kept.none_ | apply Kept.someP | exact Kept.noneP | apply Kept.update | exact rfl)
theorem Sys.regNext_kept (s : Sys) (h_ q num raw dst done : Nat) (hs : s.Kept)
    : Sys.Kept (Sys.regNext s h_ q num raw dst done) := by
  unfold Sys.regNext
  with_reducible repeat' (first
    | assumption | (intro _) | (extract_lets +onlyGivenNames x; clear_value x) | apply Kept.ite | split
    | apply Sys.pushReply_kept | apply Sys.regRequest_kept | apply Sys.addWait_kept
    | refine Kept.pair (by assumption) ?_)
theorem Sys.regReply_kept (s : Sys) (h_ : Nat) (hs : s.Kept) : Sys.Kept (Sys.regReply s h_) := by
  unfold Sys.regReply
  with_reducible repeat' (first
    | assumption | (intro _)
    | (extract_lets +onlyGivenNames x; apply Kept.let (x := x); rotate_left; intro hx; clear_value x; rotate_left; subst x)
    | (extract_lets +onlyGivenNames x; clear_value x) | apply Kept.ite | split | apply Sys.takeMsg_kept
    | apply Sys.setHub_kept | apply Sys.regEnd_kept | apply Sys.hostWrite_kept | apply Sys.regNext_kept
    | apply Kept.modLead | exact rfl | refine Kept.ofSomeP (by assumption) ?_)
theorem Sys.regReplyTimeout_kept (s : Sys) (h_ : Nat) (hs : s.Kept) : Sys.Kept (Sys.regReplyTimeout s h_) := by
  unfold Sys.regReplyTimeout
  with_reducible repeat' (first
    | assumption | (intro _)
    | (extract_lets +onlyGivenNames x; apply Kept.let (x := x); rotate_left; intro hx; clear_value x; rotate_left; subst x)
    | (extract_lets +onlyGivenNames x; clear_value x) | apply Kept.ite | split | apply Sys.sendMsg_kept
    | apply Sys.setHub_kept | apply Sys.regEnd_kept | apply Sys.loseTile_kept)
theorem Sys.ctrlMsg_kept (s : Sys) (t code : Nat) (f : TX → Nat → TX) (hs : s.Kept) : Sys.Kept (Sys.ctrlMsg s t code f) := by
  unfold Sys.ctrlMsg
  with_reducible repeat' (first
    | assumption | (intro _) | split | apply Sys.takeMsg_kept | apply Sys.onTile_kept | apply Kept.fold
    | refine Kept.ofSomeP (by assumption) ?_)
theorem Sys.ceilingMsg_kept (s : Sys) (t : Nat) (hs : s.Kept) : Sys.Kept (Sys.ceilingMsg s t) := by
  unfold Sys.ceilingMsg
  with_reducible repeat' (first
    | assumption | (extract_lets +onlyGivenNames x; clear_value x) | split | apply Sys.takeMsg_kept
    | apply Sys.modTile_kept | refine Kept.ofSomeP (by assumption) ?_)
theorem Sys.updateCap_kept (s : Sys) (hs : s.Kept) : Sys.Kept (Sys.updateCap s) := by
  unfold Sys.updateCap
  with_reducible repeat' (first
    | assumption | (intro _)
    | (extract_lets +onlyGivenNames x; apply Kept.let (x := x); rotate_left; intro hx; clear_value x; rotate_left; subst x)
    | (extract_lets +onlyGivenNames x; clear_value x) | apply Kept.ite | apply Sys.log_kept | apply Sys.eventBoth_kept
    | apply Kept.update)
theorem Sys.sendCeiling_kept (s : Sys) (t mask c : Nat) (hs : s.Kept) : Sys.Kept (Sys.sendCeiling s t mask c) := by
  unfold Sys.sendCeiling
  with_reducible repeat' (first | assumption | (intro _) | apply Kept.ite | apply Sys.sendMsg_kept)
theorem Sys.slotCeilings_kept (s : Sys) (t old ceil : Nat) (hs : s.Kept)
    : Sys.Kept (Sys.slotCeilings s t old ceil) := by
  unfold Sys.slotCeilings
  with_reducible repeat' (first
    | assumption | (intro _)
    | (extract_lets +onlyGivenNames x; apply Kept.let (x := x); rotate_left; intro hx; clear_value x; rotate_left; subst x)
    | (extract_lets +onlyGivenNames x; clear_value x) | apply Kept.ite | apply Kept.ite2 | split
    | apply Sys.sendCeiling_kept | refine Kept.pair (by assumption) ?_ | refine Kept.ofSomeP (by assumption) ?_
    | refine Kept.ofSome (by assumption) ?_ | apply Kept.fold | apply Kept.fold2 | apply Kept.modLead | apply Kept.some_
    | exact Kept.none_ | apply Kept.someP | exact Kept.noneP | apply Kept.update | exact rfl)
theorem Sys.allocate_kept (s : Sys) (r : TileReading) (num den : Nat) (hs : s.Kept)
    : Sys.Kept (Sys.allocate s r num den) := by
  unfold Sys.allocate
  with_reducible repeat' (first
    | assumption | (intro _)
    | (extract_lets +onlyGivenNames x; apply Kept.let (x := x); rotate_left; intro hx; clear_value x; rotate_left; subst x)
    | (extract_lets +onlyGivenNames x; clear_value x) | apply Kept.ite | apply Kept.ite2 | split
    | apply Sys.slotCeilings_kept | apply Sys.leadWrite_kept | refine Kept.pair (by assumption) ?_
    | refine Kept.ofSomeP (by assumption) ?_ | refine Kept.ofSome (by assumption) ?_ | apply Kept.fold
    | apply Kept.fold2 | apply Kept.modLead | apply Kept.some_ | exact Kept.none_ | apply Kept.someP | exact Kept.noneP
    | apply Kept.update | exact rfl)
theorem Sys.setBubble_kept (s : Sys) (n b : Nat) (hs : s.Kept) : Sys.Kept (Sys.setBubble s n b) := by
  unfold Sys.setBubble
  with_reducible repeat' (first
    | assumption | (intro _)
    | (extract_lets +onlyGivenNames x; apply Kept.let (x := x); rotate_left; intro hx; clear_value x; rotate_left; subst x)
    | (extract_lets +onlyGivenNames x; clear_value x) | apply Kept.ite | apply Sys.leadWrite_kept | apply Kept.fold
    | apply Kept.update)
theorem Sys.pmcAllocate_kept (s : Sys) (r : PmcReading) (hs : s.Kept) : Sys.Kept (Sys.pmcAllocate s r) := by
  unfold Sys.pmcAllocate
  with_reducible repeat' (first
    | assumption | (intro _)
    | (extract_lets +onlyGivenNames x; apply Kept.let (x := x); rotate_left; intro hx; clear_value x; rotate_left; subst x)
    | (extract_lets +onlyGivenNames x; clear_value x) | apply Kept.ite | apply Kept.ite2 | split
    | apply Sys.updateCap_kept | apply Sys.allocate_kept | apply Sys.setBubble_kept
    | refine Kept.pair (by assumption) ?_ | refine Kept.ofSomeP (by assumption) ?_
    | refine Kept.ofSome (by assumption) ?_ | apply Kept.fold | apply Kept.fold2 | apply Kept.modLead | apply Kept.some_
    | exact Kept.none_ | apply Kept.someP | exact Kept.noneP | apply Kept.update | exact rfl)
theorem Sys.crackStepJudge_kept (s : Sys) (t q di dv : Nat) (hs : s.Kept) : Sys.Kept (Sys.crackStepJudge s t q di dv) := by
  unfold Sys.crackStepJudge
  with_reducible repeat' (first | assumption | (intro _) | apply Kept.ite | split | apply Sys.onTile_kept)
theorem Sys.railsOff_kept (s : Sys) (t : Nat) (hs : s.Kept) : Sys.Kept (Sys.railsOff s t) := by
  unfold Sys.railsOff
  with_reducible repeat' (first
    | assumption | (intro _)
    | (extract_lets +onlyGivenNames x; apply Kept.let (x := x); rotate_left; intro hx; clear_value x; rotate_left; subst x)
    | (extract_lets +onlyGivenNames x; clear_value x) | apply Kept.ite | apply Kept.ite2 | split
    | apply Sys.modTile_kept | apply Sys.killRouter_kept | apply Sys.setTad_kept | refine Kept.pair (by assumption) ?_
    | refine Kept.ofSomeP (by assumption) ?_ | refine Kept.ofSome (by assumption) ?_ | apply Kept.fold
    | apply Kept.fold2 | apply Kept.modLead | apply Kept.some_ | exact Kept.none_ | apply Kept.someP | exact Kept.noneP
    | apply Kept.update | exact rfl)
theorem Sys.noteVia_kept (s : Sys) (t code : Nat) (hs : s.Kept) : Sys.Kept (Sys.noteVia s t code) := by
  unfold Sys.noteVia
  with_reducible repeat' (first | assumption | split | apply Sys.noteAt_kept)
theorem Sys.tileDown_kept (s : Sys) (t code : Nat) (hs : s.Kept) : Sys.Kept (Sys.tileDown s t code) := by
  unfold Sys.tileDown
  with_reducible repeat' (first
    | assumption | (intro _) | apply Kept.ite | apply Sys.noteVia_kept | apply Sys.railsOff_kept)
theorem Sys.feedQualify_kept (s : Sys) (f volts ns : Nat) (hs : s.Kept) : Sys.Kept (Sys.feedQualify s f volts ns) := by
  unfold Sys.feedQualify
  with_reducible repeat' (first
    | assumption | (intro _)
    | (extract_lets +onlyGivenNames x; apply Kept.let (x := x); rotate_left; intro hx; clear_value x; rotate_left; subst x)
    | (extract_lets +onlyGivenNames x; clear_value x) | apply Kept.ite | apply Sys.updateCap_kept | apply Kept.update)
theorem Sys.regionPowerUp_kept (s : Sys) (d : Nat) (hs : s.Kept) : Sys.Kept (Sys.regionPowerUp s d) := by
  unfold Sys.regionPowerUp
  with_reducible repeat' (first
    | assumption | (intro _) | (extract_lets +onlyGivenNames x; clear_value x) | apply Kept.ite | apply Kept.update)
theorem Sys.tadUp_kept (s : Sys) (n : Nat) (hs : s.Kept) : Sys.Kept (Sys.tadUp s n) := by
  unfold Sys.tadUp
  with_reducible repeat' (first
    | assumption | (intro _) | (extract_lets +onlyGivenNames x; have q a b c := Sys.Kept (x a b c); subst x)
    | apply Kept.ite | split | apply Sys.setTad_kept | apply Kept.fold)
theorem Sys.tileUp_kept (s : Sys) (t : Nat) (hs : s.Kept) : Sys.Kept (Sys.tileUp s t) := by
  unfold Sys.tileUp
  with_reducible repeat' (first
    | assumption | (intro _)
    | (extract_lets +onlyGivenNames x; apply Kept.let (x := x); rotate_left; intro hx; clear_value x; rotate_left; subst x)
    | (extract_lets +onlyGivenNames x; clear_value x) | apply Kept.ite | apply Kept.ite2 | split
    | apply Sys.setTile_kept | apply Sys.setRouter_kept | apply Sys.setReplica_kept | apply Sys.tadUp_kept
    | refine Kept.pair (by assumption) ?_ | refine Kept.ofSomeP (by assumption) ?_
    | refine Kept.ofSome (by assumption) ?_ | apply Kept.fold | apply Kept.fold2 | apply Kept.modLead | apply Kept.some_
    | exact Kept.none_ | apply Kept.someP | exact Kept.noneP | apply Kept.update | exact rfl)
theorem Sys.settlePower_kept (s : Sys) (hs : s.Kept) : Sys.Kept (Sys.settlePower s) := by
  unfold Sys.settlePower
  with_reducible repeat' (first
    | assumption | (intro _)
    | (extract_lets +onlyGivenNames x; apply Kept.let (x := x); rotate_left; intro hx; clear_value x; rotate_left; subst x)
    | (extract_lets +onlyGivenNames x; clear_value x) | apply Kept.ite | split | apply Sys.tileUp_kept
    | apply Kept.fold | apply Kept.update)
theorem Sys.powerupRelease_kept (s : Sys) (hs : s.Kept) : Sys.Kept (Sys.powerupRelease s) := by
  unfold Sys.powerupRelease
  with_reducible repeat' (first
    | assumption | (intro _)
    | (extract_lets +onlyGivenNames x; apply Kept.let (x := x); rotate_left; intro hx; clear_value x; rotate_left; subst x)
    | (extract_lets +onlyGivenNames x; clear_value x) | apply Kept.ite | split | apply Sys.settlePower_kept
    | apply Kept.update)
theorem Sys.mctpAnswer_kept (s : Sys) (v : Nat) (hs : s.Kept) : Sys.Kept (Sys.mctpAnswer s v) := by
  unfold Sys.mctpAnswer
  with_reducible repeat' (first | assumption | apply Sys.modHub_kept)
theorem Sys.contact_kept (s : Sys) (hs : s.Kept) : Sys.Kept (Sys.contact s) := by
  unfold Sys.contact
  with_reducible repeat' (first | assumption | (extract_lets +onlyGivenNames x; clear_value x) | apply Kept.update)
theorem Sys.setPowerCap_kept (s : Sys) (cap hb : Nat) (hs : s.Kept) : Sys.Kept (Sys.setPowerCap s cap hb) := by
  unfold Sys.setPowerCap
  with_reducible repeat' (first
    | assumption | (intro _)
    | (extract_lets +onlyGivenNames x; apply Kept.let (x := x); rotate_left; intro hx; clear_value x; rotate_left; subst x)
    | (extract_lets +onlyGivenNames x; clear_value x) | apply Kept.ite | apply Sys.mctpAnswer_kept
    | apply Sys.contact_kept | apply Sys.updateCap_kept | apply Kept.update)
theorem Sys.getPowerReading_kept (s : Sys) (hs : s.Kept) : Sys.Kept (Sys.getPowerReading s) := by
  unfold Sys.getPowerReading
  with_reducible repeat' (first
    | assumption | (intro _)
    | (extract_lets +onlyGivenNames x; apply Kept.let (x := x); rotate_left; intro hx; clear_value x; rotate_left; subst x)
    | (extract_lets +onlyGivenNames x; clear_value x) | apply Kept.ite | apply Kept.ite2 | split
    | apply Sys.contact_kept | apply Sys.updateCap_kept | apply Sys.mctpAnswer_kept
    | refine Kept.pair (by assumption) ?_ | refine Kept.ofSomeP (by assumption) ?_
    | refine Kept.ofSome (by assumption) ?_ | apply Kept.fold | apply Kept.fold2 | apply Kept.modLead | apply Kept.some_
    | exact Kept.none_ | apply Kept.someP | exact Kept.noneP | apply Kept.update | exact rfl)
theorem Sys.heartbeat_kept (s : Sys) (hs : s.Kept) : Sys.Kept (Sys.heartbeat s) := by
  unfold Sys.heartbeat
  with_reducible repeat' (first
    | assumption | apply Sys.mctpAnswer_kept | apply Sys.updateCap_kept | apply Sys.contact_kept)
theorem Sys.pldmBase_kept (s : Sys) (code : Nat) (hs : s.Kept) : Sys.Kept (Sys.pldmBase s code) := by
  unfold Sys.pldmBase
  with_reducible repeat' (first | assumption | apply Sys.mctpAnswer_kept)
theorem Sys.pldmUnsupported_kept (s : Sys) (hs : s.Kept) : Sys.Kept (Sys.pldmUnsupported s) := by
  unfold Sys.pldmUnsupported
  with_reducible repeat' (first | assumption | apply Sys.mctpAnswer_kept)
theorem Sys.contactLost_kept (s : Sys) (hs : s.Kept) : Sys.Kept (Sys.contactLost s) := by
  unfold Sys.contactLost
  with_reducible repeat' (first
    | assumption | (intro _) | (extract_lets +onlyGivenNames x; clear_value x) | apply Kept.ite | apply Kept.update)
theorem Sys.safeCapEntry_kept (s : Sys) (hs : s.Kept) : Sys.Kept (Sys.safeCapEntry s) := by
  unfold Sys.safeCapEntry
  with_reducible repeat' (first
    | assumption | (intro _)
    | (extract_lets +onlyGivenNames x; apply Kept.let (x := x); rotate_left; intro hx; clear_value x; rotate_left; subst x)
    | (extract_lets +onlyGivenNames x; clear_value x) | apply Kept.ite | apply Sys.updateCap_kept | apply Kept.update)
theorem Sys.askOpp_kept (s : Sys) (g : List Nat) (op : Nat) (hs : s.Kept) : Sys.Kept (Sys.askOpp s g op) := by
  unfold Sys.askOpp
  with_reducible repeat' (first
    | assumption | (intro _)
    | (extract_lets +onlyGivenNames x; apply Kept.let (x := x); rotate_left; intro hx; clear_value x; rotate_left; subst x)
    | (extract_lets +onlyGivenNames x; clear_value x) | apply Kept.ite | apply Sys.freezeJob_kept | apply Kept.fold
    | apply Kept.update)
theorem Sys.settleOpps_kept (s : Sys) (hs : s.Kept) : Sys.Kept (Sys.settleOpps s) := by
  unfold Sys.settleOpps
  with_reducible repeat' (first
    | assumption | (intro _)
    | (extract_lets +onlyGivenNames x; apply Kept.let (x := x); rotate_left; intro hx; clear_value x; rotate_left; subst x)
    | (extract_lets +onlyGivenNames x; clear_value x) | apply Kept.ite | apply Kept.ite2 | split
    | refine Kept.pair (by assumption) ?_ | refine Kept.ofSomeP (by assumption) ?_
    | refine Kept.ofSome (by assumption) ?_ | apply Kept.fold | apply Kept.fold2 | apply Kept.modLead | apply Kept.some_
    | exact Kept.none_ | apply Kept.someP | exact Kept.noneP | apply Kept.update | exact rfl)
theorem Sys.grantGroup_kept (s : Sys) (n : Nat) (hs : s.Kept) : Sys.Kept (Sys.grantGroup s n) := by
  unfold Sys.grantGroup
  with_reducible repeat' (first
    | assumption | (intro _) | (extract_lets +onlyGivenNames x; clear_value x) | apply Kept.ite | split
    | apply Sys.askOpp_kept)
theorem Sys.oppGrant_kept (s : Sys) (hs : s.Kept) : Sys.Kept (Sys.oppGrant s) := by
  unfold Sys.oppGrant
  with_reducible repeat' (first
    | assumption | (intro _) | (extract_lets +onlyGivenNames x; clear_value x) | apply Kept.ite2
    | apply Sys.grantGroup_kept | apply Kept.fold2)
theorem Sys.regrant_kept (s : Sys) (g : List Nat) (hs : s.Kept) : Sys.Kept (Sys.regrant s g) := by
  unfold Sys.regrant
  with_reducible repeat' (first
    | assumption | (intro _)
    | (extract_lets +onlyGivenNames x; apply Kept.let (x := x); rotate_left; intro hx; clear_value x; rotate_left; subst x)
    | (extract_lets +onlyGivenNames x; clear_value x) | apply Kept.ite | apply Kept.ite2 | split
    | apply Sys.applyOpp_kept | apply Sys.askOpp_kept | refine Kept.pair (by assumption) ?_
    | refine Kept.ofSomeP (by assumption) ?_ | refine Kept.ofSome (by assumption) ?_ | apply Kept.fold
    | apply Kept.fold2 | apply Kept.modLead | apply Kept.some_ | exact Kept.none_ | apply Kept.someP | exact Kept.noneP
    | apply Kept.update | exact rfl)
theorem Sys.oppChange_kept (s : Sys) (n : Nat) (hs : s.Kept) : Sys.Kept (Sys.oppChange s n) := by
  unfold Sys.oppChange
  with_reducible repeat' (first
    | assumption | (intro _) | (extract_lets +onlyGivenNames x; clear_value x) | apply Kept.ite | split
    | apply Sys.thawOne_kept | apply Sys.applyOpp_kept | apply Kept.fold)
theorem Sys.coolState_kept (s : Sys) (n : Nat) (hs : s.Kept) : Sys.Kept (Sys.coolState s n) := by
  unfold Sys.coolState
  with_reducible repeat' (first
    | assumption | (intro _)
    | (extract_lets +onlyGivenNames x; apply Kept.let (x := x); rotate_left; intro hx; clear_value x; rotate_left; subst x)
    | (extract_lets +onlyGivenNames x; clear_value x) | apply Kept.ite | split | apply Sys.eventBoth_kept
    | apply Kept.update)
theorem Sys.holdThermal_kept (s : Sys) (n : Nat) (hs : s.Kept) : Sys.Kept (Sys.holdThermal s n) := by
  unfold Sys.holdThermal
  with_reducible repeat' (first
    | assumption | (intro _)
    | (extract_lets +onlyGivenNames x; apply Kept.let (x := x); rotate_left; intro hx; clear_value x; rotate_left; subst x)
    | (extract_lets +onlyGivenNames x; clear_value x) | apply Kept.ite | apply Sys.laterJob_kept
    | apply Sys.freezeJob_kept | apply Sys.upJob_kept)
theorem Sys.thawThermal_kept (s : Sys) (n : Nat) (hs : s.Kept) : Sys.Kept (Sys.thawThermal s n) := by
  unfold Sys.thawThermal
  with_reducible repeat' (first
    | assumption | (intro _) | (extract_lets +onlyGivenNames x; clear_value x) | apply Kept.ite
    | apply Sys.thawJob_kept | apply Sys.upJob_kept)
theorem Sys.settleHold_kept (s : Sys) (t : Nat) (hs : s.Kept) : Sys.Kept (Sys.settleHold s t) := by
  unfold Sys.settleHold
  with_reducible repeat' (first
    | assumption | (intro _) | (extract_lets +onlyGivenNames x; clear_value x) | apply Kept.ite
    | apply Sys.setTile_kept)
theorem Sys.enterHold_kept (s : Sys) (cause : Nat) (hs : s.Kept) : Sys.Kept (Sys.enterHold s cause) := by
  unfold Sys.enterHold
  with_reducible repeat' (first
    | assumption | (intro _)
    | (extract_lets +onlyGivenNames x; apply Kept.let (x := x); rotate_left; intro hx; clear_value x; rotate_left; subst x)
    | (extract_lets +onlyGivenNames x; clear_value x) | apply Kept.ite | apply Sys.log_kept | apply Sys.coolState_kept
    | apply Sys.sendCeiling_kept | apply Sys.holdThermal_kept | apply Sys.settleHold_kept | apply Kept.fold
    | apply Kept.update)
theorem Sys.coolingCap_kept (s : Sys) (flow inlet : Nat) (hs : s.Kept) : Sys.Kept (Sys.coolingCap s flow inlet) := by
  unfold Sys.coolingCap
  with_reducible repeat' (first
    | assumption
    | (extract_lets +onlyGivenNames x; apply Kept.let (x := x); rotate_left; intro hx; clear_value x; rotate_left; subst x)
    | (extract_lets +onlyGivenNames x; clear_value x) | apply Sys.updateCap_kept | apply Kept.update)
theorem Sys.coolantFailed_kept (s : Sys) (hs : s.Kept) : Sys.Kept (Sys.coolantFailed s) := by
  unfold Sys.coolantFailed
  with_reducible repeat' (first
    | assumption | (intro _)
    | (extract_lets +onlyGivenNames x; apply Kept.let (x := x); rotate_left; intro hx; clear_value x; rotate_left; subst x)
    | (extract_lets +onlyGivenNames x; clear_value x) | apply Kept.ite | apply Sys.coolState_kept
    | apply Sys.coolingCap_kept | apply Kept.update)
theorem Sys.coolantSample_kept (s : Sys) (good : Bool) (inlet outlet flow status seq : Nat) (hs : s.Kept)
    : Sys.Kept (Sys.coolantSample s good inlet outlet flow status seq) := by
  unfold Sys.coolantSample
  with_reducible repeat' (first
    | assumption | (intro _)
    | (extract_lets +onlyGivenNames x; apply Kept.let (x := x); rotate_left; intro hx; clear_value x; rotate_left; subst x)
    | (extract_lets +onlyGivenNames x; clear_value x) | (extract_lets +onlyGivenNames x; subst x) | apply Kept.ite
    | split | apply Sys.coolantFailed_kept | apply Sys.log_kept | apply Sys.coolState_kept | apply Sys.coolingCap_kept
    | apply Sys.enterHold_kept | apply Kept.update)
theorem Sys.pumpFaultN_kept (s : Sys) (level : Bool) (hs : s.Kept) : Sys.Kept (Sys.pumpFaultN s level) := by
  unfold Sys.pumpFaultN
  with_reducible repeat' (first
    | assumption | (intro _)
    | (extract_lets +onlyGivenNames x; apply Kept.let (x := x); rotate_left; intro hx; clear_value x; rotate_left; subst x)
    | (extract_lets +onlyGivenNames x; clear_value x) | apply Kept.ite | apply Sys.enterHold_kept | apply Kept.update)
theorem Sys.slowFallAlert_kept (s : Sys) (rise : Int) (hs : s.Kept) : Sys.Kept (Sys.slowFallAlert s rise) := by
  unfold Sys.slowFallAlert
  with_reducible repeat' (first
    | assumption | (intro _)
    | (extract_lets +onlyGivenNames x; apply Kept.let (x := x); rotate_left; intro hx; clear_value x; rotate_left; subst x)
    | (extract_lets +onlyGivenNames x; clear_value x) | apply Kept.ite | apply Sys.log_kept | apply Kept.update)
theorem Sys.heatBalance_kept (s : Sys) (hs : s.Kept) : Sys.Kept (Sys.heatBalance s) := by
  unfold Sys.heatBalance
  with_reducible repeat' (first
    | assumption | (intro _)
    | (extract_lets +onlyGivenNames x; apply Kept.let (x := x); rotate_left; intro hx; clear_value x; rotate_left; subst x)
    | (extract_lets +onlyGivenNames x; clear_value x) | apply Kept.ite | apply Sys.log_kept | apply Kept.update)
theorem Sys.leapfrogPeriod_kept (s : Sys) (t : Nat) (est : List Nat) (hs : s.Kept)
    : Sys.Kept (Sys.leapfrogPeriod s t est) := by
  unfold Sys.leapfrogPeriod
  with_reducible repeat' (first
    | assumption | (intro _)
    | (extract_lets +onlyGivenNames x; apply Kept.let (x := x); rotate_left; intro hx; clear_value x; rotate_left; subst x)
    | (extract_lets +onlyGivenNames x; clear_value x) | apply Kept.ite | apply Kept.ite2 | split | apply Sys.onTile_kept
    | refine Kept.pair (by assumption) ?_ | refine Kept.ofSomeP (by assumption) ?_
    | refine Kept.ofSome (by assumption) ?_ | apply Kept.fold | apply Kept.fold2 | apply Kept.modLead | apply Kept.some_
    | exact Kept.none_ | apply Kept.someP | exact Kept.noneP | apply Kept.update | exact rfl)
theorem Sys.holdRestore_kept (s : Sys) (hs : s.Kept) : Sys.Kept (Sys.holdRestore s) := by
  unfold Sys.holdRestore
  with_reducible repeat' (first
    | assumption | (intro _)
    | (extract_lets +onlyGivenNames x; apply Kept.let (x := x); rotate_left; intro hx; clear_value x; rotate_left; subst x)
    | (extract_lets +onlyGivenNames x; clear_value x) | apply Kept.ite | apply Kept.ite2 | split
    | apply Sys.coolState_kept | apply Sys.modTile_kept | apply Sys.sendCeiling_kept | apply Sys.regrant_kept
    | apply Sys.thawThermal_kept | apply Kept.fold | apply Kept.fold2 | apply Kept.update)
theorem Sys.coldTile_kept (s : Sys) (t : Nat) (hs : s.Kept) : Sys.Kept (Sys.coldTile s t) := by
  unfold Sys.coldTile
  with_reducible repeat' (first
    | assumption | (intro _)
    | (extract_lets +onlyGivenNames x; apply Kept.let (x := x); rotate_left; intro hx; clear_value x; rotate_left; subst x)
    | (extract_lets +onlyGivenNames x; clear_value x) | apply Kept.ite | apply Kept.ite2 | split
    | apply Sys.setTile_kept | apply Sys.railsOff_kept | refine Kept.pair (by assumption) ?_
    | refine Kept.ofSomeP (by assumption) ?_ | refine Kept.ofSome (by assumption) ?_ | apply Kept.fold
    | apply Kept.fold2 | apply Kept.modLead | apply Kept.some_ | exact Kept.none_ | apply Kept.someP | exact Kept.noneP
    | apply Kept.update | exact rfl)
theorem Sys.coolingPowerDown_kept (s : Sys) (hs : s.Kept) : Sys.Kept (Sys.coolingPowerDown s) := by
  unfold Sys.coolingPowerDown
  with_reducible repeat' (first
    | assumption | (intro _)
    | (extract_lets +onlyGivenNames x; apply Kept.let (x := x); rotate_left; intro hx; clear_value x; rotate_left; subst x)
    | (extract_lets +onlyGivenNames x; clear_value x) | apply Kept.ite | apply Kept.ite2 | split | apply Sys.log_kept
    | apply Sys.failJob_kept | apply Sys.coolState_kept | apply Sys.coldTile_kept | apply Sys.modHub_kept
    | refine Kept.pair (by assumption) ?_ | refine Kept.ofSomeP (by assumption) ?_
    | refine Kept.ofSome (by assumption) ?_ | apply Kept.fold | apply Kept.fold2 | apply Kept.modLead | apply Kept.some_
    | exact Kept.none_ | apply Kept.someP | exact Kept.noneP | apply Kept.update | exact rfl)
theorem Sys.coolingPowerRestore_kept (s : Sys) (hs : s.Kept) : Sys.Kept (Sys.coolingPowerRestore s) := by
  unfold Sys.coolingPowerRestore
  with_reducible repeat' (first
    | assumption | (intro _)
    | (extract_lets +onlyGivenNames x; apply Kept.let (x := x); rotate_left; intro hx; clear_value x; rotate_left; subst x)
    | (extract_lets +onlyGivenNames x; clear_value x) | apply Kept.ite | split | apply Sys.coolState_kept
    | apply Sys.modBootHub_kept | apply Kept.update)
theorem Sys.bothEnds_kept (s : Sys) (t p : Nat) (f : MeshPort → MeshPort) (hs : s.Kept)
    : Sys.Kept (Sys.bothEnds s t p f) := by
  unfold Sys.bothEnds
  with_reducible repeat' (first
    | assumption
    | (extract_lets +onlyGivenNames x; apply Kept.let (x := x); rotate_left; intro hx; clear_value x; rotate_left; subst x)
    | split | apply Sys.setRouter_kept)
theorem Sys.beginTraining_kept (s : Sys) (t p cause : Nat) (full : Bool) (hs : s.Kept)
    : Sys.Kept (Sys.beginTraining s t p cause full) := by
  unfold Sys.beginTraining
  with_reducible repeat' (first
    | assumption | (intro _)
    | (extract_lets +onlyGivenNames x; apply Kept.let (x := x); rotate_left; intro hx; clear_value x; rotate_left; subst x)
    | (extract_lets +onlyGivenNames x; clear_value x) | split | apply Sys.setLink_kept | apply Sys.bumpTile_kept
    | apply Sys.setTileReg_kept | apply Sys.scored_kept | apply Kept.fold)
theorem Sys.takeTest_kept (s : Sys) (t p : Nat) (test : LaneTest) (far : Option LaneTest) (version : Nat) (hs : s.Kept)
    : Sys.Kept (Sys.takeTest s t p test far version) := by
  unfold Sys.takeTest
  with_reducible repeat' (first
    | assumption | (intro _)
    | (extract_lets +onlyGivenNames x; apply Kept.let (x := x); rotate_left; intro hx; clear_value x; rotate_left; subst x)
    | (extract_lets +onlyGivenNames x; clear_value x) | apply Kept.ite | apply Sys.bumpTile_kept
    | apply Sys.setLink_kept | apply Sys.scored_kept | apply Kept.fold)
theorem Sys.linkTraining_kept (s : Sys) (t p : Nat) (here there : LaneTest) (hs : s.Kept)
    : Sys.Kept (Sys.linkTraining s t p here there) := by
  unfold Sys.linkTraining
  with_reducible repeat' (first
    | assumption | (intro _)
    | (extract_lets +onlyGivenNames x; apply Kept.let (x := x); rotate_left; intro hx; clear_value x; rotate_left; subst x)
    | (extract_lets +onlyGivenNames x; clear_value x) | (extract_lets +onlyGivenNames x; subst x) | apply Kept.ite
    | split | apply Sys.bothEnds_kept | apply Sys.beginTraining_kept | apply Sys.takeTest_kept)
theorem Sys.laneLockLost_kept (s : Sys) (t p : Nat) (hs : s.Kept) : Sys.Kept (Sys.laneLockLost s t p) := by
  unfold Sys.laneLockLost
  with_reducible repeat' (first
    | assumption | (intro _) | (extract_lets +onlyGivenNames x; clear_value x) | apply Kept.ite
    | apply Sys.setLink_kept)
theorem Sys.retrain_kept (s : Sys) (t p : Nat) (hs : s.Kept) : Sys.Kept (Sys.retrain s t p) := by
  unfold Sys.retrain
  with_reducible repeat' (first
    | assumption | (intro _)
    | (extract_lets +onlyGivenNames x; apply Kept.let (x := x); rotate_left; intro hx; clear_value x; rotate_left; subst x)
    | (extract_lets +onlyGivenNames x; clear_value x) | apply Kept.ite | split | apply Sys.beginTraining_kept
    | apply Sys.linkFail_kept | apply Sys.bothEnds_kept)
theorem Sys.endUp_kept (s : Sys) (t p rx tx ns : Nat) (hs : s.Kept) : Sys.Kept (Sys.endUp s t p rx tx ns) := by
  unfold Sys.endUp
  with_reducible repeat' (first
    | assumption | (intro _)
    | (extract_lets +onlyGivenNames x; apply Kept.let (x := x); rotate_left; intro hx; clear_value x; rotate_left; subst x)
    | (extract_lets +onlyGivenNames x; clear_value x) | apply Kept.ite | apply Sys.setLink_kept
    | apply Sys.noteAt_kept)
theorem Sys.linkUp_kept (s : Sys) (t p ns : Nat) (hs : s.Kept) : Sys.Kept (Sys.linkUp s t p ns) := by
  unfold Sys.linkUp
  with_reducible repeat' (first
    | assumption | (intro _)
    | (extract_lets +onlyGivenNames x; apply Kept.let (x := x); rotate_left; intro hx; clear_value x; rotate_left; subst x)
    | (extract_lets +onlyGivenNames x; clear_value x) | apply Kept.ite | split | apply Sys.setLink_kept
    | apply Sys.linkFail_kept | apply Sys.endUp_kept | apply Sys.bothEnds_kept | apply Kept.fold)
theorem Sys.takeDown_kept (s : Sys) (kind wher sub : Nat) (hs : s.Kept) : Sys.Kept (Sys.takeDown s kind wher sub) := by
  unfold Sys.takeDown
  with_reducible repeat' (first
    | assumption | (intro _)
    | (extract_lets +onlyGivenNames x; apply Kept.let (x := x); rotate_left; intro hx; clear_value x; rotate_left; subst x)
    | (extract_lets +onlyGivenNames x; clear_value x) | apply Kept.ite | split | apply Sys.linkFail_kept
    | apply Sys.setTileReg_kept | apply Sys.calibrate_kept | apply Sys.modPort_kept | apply Sys.siluaDown_kept
    | apply Sys.siluaRetrain_kept | apply Kept.fold)
theorem Sys.shedNow_kept (s : Sys) (kind wher sub : Nat) (hard host : Bool) (hs : s.Kept)
    : Sys.Kept (Sys.shedNow s kind wher sub hard host) := by
  unfold Sys.shedNow
  with_reducible repeat' (first
    | assumption | (intro _)
    | (extract_lets +onlyGivenNames x; apply Kept.let (x := x); rotate_left; intro hx; clear_value x; rotate_left; subst x)
    | apply Kept.ite | apply Sys.loseTiles_kept | apply Sys.markShed_kept | apply Sys.onTile_kept
    | apply Sys.askSwitch_kept | apply Sys.takeDown_kept)
theorem Sys.armDrain_kept (s : Sys) (t : Nat) (hs : s.Kept) : Sys.Kept (Sys.armDrain s t) := by
  unfold Sys.armDrain
  with_reducible repeat' (first
    | assumption | (intro _) | (extract_lets +onlyGivenNames x; clear_value x) | apply Kept.ite
    | apply Sys.armJob_kept | apply Sys.modJob_kept | apply Kept.fold)
theorem Sys.startDrain_kept (s : Sys) (kind wher sub : Nat) (host : Bool) (hs : s.Kept)
    : Sys.Kept (Sys.startDrain s kind wher sub host) := by
  unfold Sys.startDrain
  with_reducible repeat' (first
    | assumption | (intro _)
    | (extract_lets +onlyGivenNames x; apply Kept.let (x := x); rotate_left; intro hx; clear_value x; rotate_left; subst x)
    | (extract_lets +onlyGivenNames x; clear_value x) | apply Kept.ite | split | apply Sys.modUnit_kept
    | apply Sys.eventBoth_kept | apply Sys.armDrain_kept | apply Sys.modTile_kept | apply Sys.askSwitch_kept)
theorem Sys.thawHeld_kept (s : Sys) (n : Nat) (hs : s.Kept) : Sys.Kept (Sys.thawHeld s n) := by
  unfold Sys.thawHeld
  with_reducible repeat' (first
    | assumption | (intro _)
    | (extract_lets +onlyGivenNames x; apply Kept.let (x := x); rotate_left; intro hx; clear_value x; rotate_left; subst x)
    | (extract_lets +onlyGivenNames x; clear_value x) | apply Kept.ite | apply Sys.onTile_kept
    | apply Sys.writeSlot_kept | apply Sys.thawJob_kept | apply Sys.armJob_kept | apply Sys.modJob_kept
    | apply Kept.fold | apply Kept.modLead | exact rfl)
theorem Sys.drainTile_kept (s : Sys) (key t : Nat) (hs : s.Kept) : Sys.Kept (Sys.drainTile s key t) := by
  unfold Sys.drainTile
  with_reducible repeat' (first
    | assumption | (intro _)
    | (extract_lets +onlyGivenNames x; apply Kept.let (x := x); rotate_left; intro hx; clear_value x; rotate_left; subst x)
    | (extract_lets +onlyGivenNames x; clear_value x) | apply Kept.ite | split | apply Sys.armDrain_kept
    | apply Sys.markShed_kept | apply Sys.shedTile_kept | apply Sys.failPart_kept | apply Kept.fold
    | apply Kept.modLead | exact rfl | refine Kept.pair (by assumption) ?_)
theorem Sys.drain_kept (s : Sys) (kind wher sub : Nat) (hs : s.Kept) : Sys.Kept (Sys.drain s kind wher sub) := by
  unfold Sys.drain
  with_reducible repeat' (first
    | assumption | (intro _)
    | (extract_lets +onlyGivenNames x; apply Kept.let (x := x); rotate_left; intro hx; clear_value x; rotate_left; subst x)
    | (extract_lets +onlyGivenNames x; clear_value x) | apply Kept.ite | split | apply Sys.drainTile_kept
    | apply Sys.markShed_kept | apply Sys.onTile_kept | apply Sys.modTile_kept | apply Sys.takeDown_kept
    | apply Sys.thawHeld_kept | apply Kept.fold)
theorem Sys.drainLimit_kept (s : Sys) (kind wher sub : Nat) (hs : s.Kept) : Sys.Kept (Sys.drainLimit s kind wher sub) := by
  unfold Sys.drainLimit
  with_reducible repeat' (first
    | assumption | (intro _)
    | (extract_lets +onlyGivenNames x; apply Kept.let (x := x); rotate_left; intro hx; clear_value x; rotate_left; subst x)
    | (extract_lets +onlyGivenNames x; clear_value x) | apply Kept.ite | split | apply Sys.modUnit_kept
    | apply Sys.shedNow_kept | apply Sys.modJob_kept | apply Kept.fold)
theorem Sys.judgeUnit_kept (s : Sys) (key : Nat) (fell : Bool) (hs : s.Kept) : Sys.Kept (Sys.judgeUnit s key fell) := by
  unfold Sys.judgeUnit
  with_reducible repeat' (first
    | assumption | (intro _)
    | (extract_lets +onlyGivenNames x; apply Kept.let (x := x); rotate_left; intro hx; clear_value x; rotate_left; subst x)
    | (extract_lets +onlyGivenNames x; clear_value x) | apply Kept.ite | apply Sys.shedNow_kept
    | apply Sys.eventBoth_kept | apply Sys.log_kept | apply Sys.modUnit_kept | apply Sys.startDrain_kept
    | apply Kept.update)
theorem Sys.healthSample_kept (s : Sys) (hs : s.Kept) : Sys.Kept (Sys.healthSample s) := by
  unfold Sys.healthSample
  with_reducible repeat' (first
    | assumption | (intro _)
    | (extract_lets +onlyGivenNames x; apply Kept.let (x := x); rotate_left; intro hx; clear_value x; rotate_left; subst x)
    | (extract_lets +onlyGivenNames x; clear_value x) | apply Kept.ite | apply Sys.eventBoth_kept | apply Sys.log_kept
    | apply Sys.judgeUnit_kept | apply Kept.fold | apply Kept.update)
theorem Sys.healthRing_kept (s : Sys) (hs : s.Kept) : Sys.Kept (Sys.healthRing s) := by
  unfold Sys.healthRing
  with_reducible repeat' (first | assumption | (extract_lets +onlyGivenNames x; clear_value x) | apply Kept.update)
theorem Sys.scoreFreezeEnd_kept (s : Sys) (hs : s.Kept) : Sys.Kept (Sys.scoreFreezeEnd s) := by
  unfold Sys.scoreFreezeEnd
  with_reducible repeat' (first
    | assumption | (intro _)
    | (extract_lets +onlyGivenNames x; apply Kept.let (x := x); rotate_left; intro hx; clear_value x; rotate_left; subst x)
    | (extract_lets +onlyGivenNames x; clear_value x) | apply Kept.ite | split | apply Sys.eventBoth_kept
    | apply Kept.update)
theorem Sys.loseRegion_kept (s : Sys) (d : Nat) (hs : s.Kept) : Sys.Kept (Sys.loseRegion s d) := by
  unfold Sys.loseRegion
  with_reducible repeat' (first
    | assumption | (intro _)
    | (extract_lets +onlyGivenNames x; apply Kept.let (x := x); rotate_left; intro hx; clear_value x; rotate_left; subst x)
    | (extract_lets +onlyGivenNames x; clear_value x) | apply Kept.ite | apply Sys.railsOff_kept
    | apply Sys.loseTiles_kept | apply Sys.mapShed_kept | apply Kept.fold | apply Kept.update)
theorem Sys.droopPause_kept (s : Sys) (t : Nat) (hs : s.Kept) : Sys.Kept (Sys.droopPause s t) := by
  unfold Sys.droopPause
  with_reducible repeat' (first
    | assumption | (intro _)
    | (extract_lets +onlyGivenNames x; apply Kept.let (x := x); rotate_left; intro hx; clear_value x; rotate_left; subst x)
    | (extract_lets +onlyGivenNames x; clear_value x) | apply Kept.ite | split | apply Sys.loseRegion_kept
    | apply Sys.log_kept | apply Kept.update)
theorem Sys.powerupResume_kept (s : Sys) (hs : s.Kept) : Sys.Kept (Sys.powerupResume s) := by
  unfold Sys.powerupResume
  with_reducible repeat' (first
    | assumption | (intro _) | (extract_lets +onlyGivenNames x; clear_value x) | apply Kept.ite | split
    | apply Kept.update)
theorem Sys.risingNotice_kept (s : Sys) (t : Nat) (hs : s.Kept) : Sys.Kept (Sys.risingNotice s t) := by
  unfold Sys.risingNotice
  with_reducible repeat' (first
    | assumption | (intro _)
    | (extract_lets +onlyGivenNames x; apply Kept.let (x := x); rotate_left; intro hx; clear_value x; rotate_left; subst x)
    | (extract_lets +onlyGivenNames x; clear_value x) | apply Kept.ite | apply Sys.enterHold_kept | apply Kept.update)
theorem Sys.tempLimit_kept (s : Sys) (t : Nat) (on : Bool) (hs : s.Kept) : Sys.Kept (Sys.tempLimit s t on) := by
  unfold Sys.tempLimit
  with_reducible repeat' (first
    | assumption | (intro _) | (extract_lets +onlyGivenNames x; clear_value x) | apply Kept.ite | split
    | apply Sys.holdThermal_kept | apply Sys.thawThermal_kept | apply Kept.fold)
theorem Sys.poisonNotice_kept (s : Sys) (eid lap : Nat) (hs : s.Kept) : Sys.Kept (Sys.poisonNotice s eid lap) := by
  unfold Sys.poisonNotice
  with_reducible repeat' (first
    | assumption | (intro _) | (extract_lets +onlyGivenNames x; clear_value x) | apply Kept.ite | split
    | apply Sys.modJob_kept)
theorem Sys.controlFailed_kept (s : Sys) (eid tag : Nat) (hs : s.Kept) : Sys.Kept (Sys.controlFailed s eid tag) := by
  unfold Sys.controlFailed
  with_reducible repeat' (first
    | assumption | (intro _) | apply Kept.ite | split | apply Sys.onTile_kept | apply Sys.recopy_kept)
theorem Sys.actOn_kept (s : Sys) (src code kind wher sub detail : Nat) (hs : s.Kept)
    : Sys.Kept (Sys.actOn s src code kind wher sub detail) := by
  unfold Sys.actOn
  with_reducible repeat' (first
    | assumption | (intro _)
    | (extract_lets +onlyGivenNames x; apply Kept.let (x := x); rotate_left; intro hx; clear_value x; rotate_left; subst x)
    | (extract_lets +onlyGivenNames x; clear_value x) | apply Kept.ite | apply Kept.ite2 | split
    | apply Sys.coreLost_kept | apply Sys.failJob_kept | apply Sys.poisonNotice_kept | apply Sys.controlFailed_kept
    | apply Sys.recoverPart_kept | apply Sys.askSwitch_kept | apply Sys.markShed_kept | apply Sys.hardEvent_kept
    | apply Sys.refreshPeers_kept | apply Sys.loseTile_kept | apply Sys.droopPause_kept | apply Sys.risingNotice_kept
    | apply Sys.slotReadyNotice_kept | apply Sys.tempLimit_kept | refine Kept.pair (by assumption) ?_
    | refine Kept.ofSomeP (by assumption) ?_ | refine Kept.ofSome (by assumption) ?_ | apply Kept.fold
    | apply Kept.fold2 | apply Kept.modLead | apply Kept.some_ | exact Kept.none_ | apply Kept.someP | exact Kept.noneP
    | apply Kept.update | exact rfl)
theorem Sys.notice_kept (s : Sys) (hs : s.Kept) : Sys.Kept (Sys.notice s) := by
  unfold Sys.notice
  with_reducible repeat' (first
    | assumption | (intro _)
    | (extract_lets +onlyGivenNames x; apply Kept.let (x := x); rotate_left; intro hx; clear_value x; rotate_left; subst x)
    | (extract_lets +onlyGivenNames x; clear_value x) | apply Kept.ite | split | apply Sys.takeMsg_kept
    | apply Sys.log_kept | apply Sys.actOn_kept | refine Kept.ofSomeP (by assumption) ?_)
theorem Sys.regrownIn_kept (s : Sys) (changes : List (Nat × Nat)) (t : Nat) (hs : s.Kept)
    : Sys.Kept (Sys.regrownIn s changes t) := by
  unfold Sys.regrownIn
  with_reducible repeat' (first
    | assumption | (intro _)
    | (extract_lets +onlyGivenNames x; apply Kept.let (x := x); rotate_left; intro hx; clear_value x; rotate_left; subst x)
    | (extract_lets +onlyGivenNames x; clear_value x) | apply Kept.ite | apply Sys.markShed_kept | apply Sys.log_kept
    | apply Sys.mapShed_kept | apply Sys.recoverPart_kept | apply Sys.failPart_kept | apply Kept.fold
    | apply Kept.modLead | exact rfl)
theorem Sys.prepareLost_kept (s : Sys) (n : Nat) (hs : s.Kept) : Sys.Kept (Sys.prepareLost s n) := by
  unfold Sys.prepareLost
  with_reducible repeat' (first
    | assumption | (intro _)
    | (extract_lets +onlyGivenNames x; apply Kept.let (x := x); rotate_left; intro hx; clear_value x; rotate_left; subst x)
    | (extract_lets +onlyGivenNames x; clear_value x) | apply Kept.ite | apply Sys.prepareAckTimeout_kept
    | apply Sys.regrownIn_kept)
theorem Sys.drainLost_kept (s : Sys) (n : Nat) (hs : s.Kept) : Sys.Kept (Sys.drainLost s n) := by
  unfold Sys.drainLost
  with_reducible repeat' (first
    | assumption | (intro _)
    | (extract_lets +onlyGivenNames x; apply Kept.let (x := x); rotate_left; intro hx; clear_value x; rotate_left; subst x)
    | (extract_lets +onlyGivenNames x; clear_value x) | apply Kept.ite | apply Kept.ite2 | split
    | apply Sys.killRouter_kept | apply Sys.setTad_kept | apply Sys.acked_kept | apply Sys.tryRetire_kept
    | apply Sys.refreshShadows_kept | apply Sys.loseTile_kept | refine Kept.pair (by assumption) ?_
    | refine Kept.ofSomeP (by assumption) ?_ | refine Kept.ofSome (by assumption) ?_ | apply Kept.fold
    | apply Kept.fold2 | apply Kept.modLead | apply Kept.some_ | exact Kept.none_ | apply Kept.someP | exact Kept.noneP
    | apply Kept.update | exact rfl)
theorem Sys.commitAcked_kept (s : Sys) (hs : s.Kept) : Sys.Kept (Sys.commitAcked s) := by
  unfold Sys.commitAcked
  with_reducible repeat' (first
    | assumption | (intro _)
    | (extract_lets +onlyGivenNames x; apply Kept.let (x := x); rotate_left; intro hx; clear_value x; rotate_left; subst x)
    | (extract_lets +onlyGivenNames x; clear_value x) | apply Kept.ite | apply Sys.commitAck_kept
    | apply Sys.refreshShadows_kept)
theorem Sys.ingestDecode_kept (s : Sys) (h_ n : Nat) (hs : s.Kept) : Sys.Kept (Sys.ingestDecode s h_ n) := by
  unfold Sys.ingestDecode
  with_reducible repeat' (first
    | assumption | (intro _) | (extract_lets +onlyGivenNames x; have q a b := Sys.Kept (x a b); subst x)
    | (extract_lets +onlyGivenNames x; clear_value x) | apply Kept.ite | split | apply Sys.modHub_kept
    | apply Sys.setHub_kept)
theorem Sys.sendItem_kept (s : Sys) (h_ n i rows : Nat) (poison : Bool) (hs : s.Kept)
    : Sys.Kept (Sys.sendItem s h_ n i rows poison) := by
  unfold Sys.sendItem
  with_reducible repeat' (first
    | assumption | (intro _)
    | (extract_lets +onlyGivenNames x; apply Kept.let (x := x); rotate_left; intro hx; clear_value x; rotate_left; subst x)
    | (extract_lets +onlyGivenNames x; clear_value x) | apply Sys.modHub_kept | apply Sys.toLocal_kept
    | apply Kept.fold)
theorem Sys.itemDelivery_kept (s : Sys) (h_ n : Nat) (hs : s.Kept) : Sys.Kept (Sys.itemDelivery s h_ n) := by
  unfold Sys.itemDelivery
  with_reducible repeat' (first
    | assumption | (intro _)
    | (extract_lets +onlyGivenNames x; apply Kept.let (x := x); rotate_left; intro hx; clear_value x; rotate_left; subst x)
    | (extract_lets +onlyGivenNames x; clear_value x) | apply Kept.ite | split | apply Sys.setHub_kept
    | apply Sys.sendItem_kept | apply Sys.hostWrite_kept)
theorem Sys.ethernetFrame_kept (s : Sys) (e p sub f len : Nat) (hs : s.Kept)
    : Sys.Kept (Sys.ethernetFrame s e p sub f len) := by
  unfold Sys.ethernetFrame
  with_reducible repeat' (first
    | assumption | (intro _)
    | (extract_lets +onlyGivenNames x; apply Kept.let (x := x); rotate_left; intro hx; clear_value x; rotate_left; subst x)
    | (extract_lets +onlyGivenNames x; clear_value x) | apply Kept.ite | split | apply Sys.modEngine_kept
    | apply Sys.modPort_kept | apply Sys.modHub_kept)
theorem Sys.hubSend_kept (s : Sys) (h_ : Nat) (p : Packet) (hs : s.Kept) : Sys.Kept (Sys.hubSend s h_ p) := by
  unfold Sys.hubSend
  with_reducible repeat' (first | assumption | apply Sys.toLocal_kept)
theorem Sys.egressEnd_kept (s : Sys) (h_ : Nat) (p : Packet) (bytes total status offset answers : Nat) (hs : s.Kept)
    : Sys.Kept (Sys.egressEnd s h_ p bytes total status offset answers) := by
  unfold Sys.egressEnd
  with_reducible repeat' (first
    | assumption
    | (extract_lets +onlyGivenNames x; apply Kept.let (x := x); rotate_left; intro hx; clear_value x; rotate_left; subst x)
    | (extract_lets +onlyGivenNames x; clear_value x) | split | apply Sys.setHub_kept | apply Sys.hubSend_kept)
theorem Sys.egressWrite_kept (s : Sys) (h_ : Nat) (p : Packet) (hs : s.Kept) : Sys.Kept (Sys.egressWrite s h_ p) := by
  unfold Sys.egressWrite
  with_reducible repeat' (first
    | assumption | (intro _) | (extract_lets +onlyGivenNames x; have q a := Sys.Kept (x a); subst x)
    | (extract_lets +onlyGivenNames x; clear_value x) | apply Kept.ite | split | apply Sys.hubSend_kept
    | apply Sys.egressEnd_kept | apply Sys.setHub_kept)
theorem Sys.egressShort_kept (s : Sys) (h_ : Nat) (p : Packet) (hs : s.Kept) : Sys.Kept (Sys.egressShort s h_ p) := by
  unfold Sys.egressShort
  with_reducible repeat' (first
    | assumption | (intro _)
    | (extract_lets +onlyGivenNames x; apply Kept.let (x := x); rotate_left; intro hx; clear_value x; rotate_left; subst x)
    | (extract_lets +onlyGivenNames x; clear_value x) | apply Kept.ite | apply Kept.ite2 | split
    | apply Sys.hubSend_kept | apply Sys.setHub_kept | apply Sys.egressEnd_kept | refine Kept.pair (by assumption) ?_
    | refine Kept.ofSomeP (by assumption) ?_ | refine Kept.ofSome (by assumption) ?_ | apply Kept.fold
    | apply Kept.fold2 | apply Kept.modLead | apply Kept.some_ | exact Kept.none_ | apply Kept.someP | exact Kept.noneP
    | apply Kept.update | exact rfl)
theorem Sys.egressRead_kept (s : Sys) (h_ : Nat) (p : Packet) (hs : s.Kept) : Sys.Kept (Sys.egressRead s h_ p) := by
  unfold Sys.egressRead
  with_reducible repeat' (first
    | assumption | (intro _) | (extract_lets +onlyGivenNames x; clear_value x) | apply Kept.ite
    | apply Sys.hubSend_kept)
theorem Sys.egressClose_kept (s : Sys) (h_ n : Nat) (hs : s.Kept) : Sys.Kept (Sys.egressClose s h_ n) := by
  unfold Sys.egressClose
  with_reducible repeat' (first
    | assumption | (intro _)
    | (extract_lets +onlyGivenNames x; apply Kept.let (x := x); rotate_left; intro hx; clear_value x; rotate_left; subst x)
    | (extract_lets +onlyGivenNames x; clear_value x) | split | apply Sys.setHub_kept | apply Sys.egressEnd_kept
    | apply Sys.modHub_kept | apply Kept.fold)
theorem Sys.hubAnswer_kept (s : Sys) (h_ : Nat) (p : Packet) (hs : s.Kept) : Sys.Kept (Sys.hubAnswer s h_ p) := by
  unfold Sys.hubAnswer
  with_reducible repeat' (first
    | assumption | (intro _)
    | (extract_lets +onlyGivenNames x; apply Kept.let (x := x); rotate_left; intro hx; clear_value x; rotate_left; subst x)
    | (extract_lets +onlyGivenNames x; clear_value x) | apply Kept.ite | split | apply Sys.setHub_kept
    | apply Sys.setTad_kept | apply Sys.hubSend_kept)
theorem Sys.egressHost_kept (s : Sys) (h_ n : Nat) (i : EgItem) (hs : s.Kept) : Sys.Kept (Sys.egressHost s h_ n i) := by
  unfold Sys.egressHost
  with_reducible repeat' (first
    | assumption | (intro _)
    | (extract_lets +onlyGivenNames x; apply Kept.let (x := x); rotate_left; intro hx; clear_value x; rotate_left; subst x)
    | (extract_lets +onlyGivenNames x; clear_value x) | apply Kept.ite | split | apply Sys.hostWrite_kept
    | apply Sys.hubSend_kept | apply Sys.setHub_kept)
theorem Sys.egressPeer_kept (s : Sys) (h_ n : Nat) (i : EgItem) (hs : s.Kept) : Sys.Kept (Sys.egressPeer s h_ n i) := by
  unfold Sys.egressPeer
  with_reducible repeat' (first
    | assumption | (intro _)
    | (extract_lets +onlyGivenNames x; apply Kept.let (x := x); rotate_left; intro hx; clear_value x; rotate_left; subst x)
    | (extract_lets +onlyGivenNames x; clear_value x) | split | apply Sys.setHub_kept | apply Sys.hubSend_kept
    | apply Kept.fold)
theorem Sys.egressItem_kept (s : Sys) (h_ n : Nat) (hs : s.Kept) : Sys.Kept (Sys.egressItem s h_ n) := by
  unfold Sys.egressItem
  with_reducible repeat' (first
    | assumption | (intro _) | (extract_lets +onlyGivenNames x; clear_value x) | apply Kept.ite | split
    | apply Sys.egressPeer_kept | apply Sys.egressHost_kept | apply Sys.setHub_kept)
theorem Sys.hubPacket_kept (s : Sys) (h_ : Nat) (p : Packet) (hs : s.Kept) : Sys.Kept (Sys.hubPacket s h_ p) := by
  unfold Sys.hubPacket
  with_reducible repeat' (first
    | assumption | (intro _) | apply Kept.ite | apply Sys.egressWrite_kept | apply Sys.egressShort_kept
    | apply Sys.egressRead_kept | apply Sys.hubAnswer_kept)
theorem Sys.coldState_kept (boot : Boot) : Sys.Kept (Sys.coldState boot) := by
  exact ⟨PartitionsApart.nil, rfl⟩
theorem Sys.coldReset_kept (s : Sys) (hs : s.Kept) : Sys.Kept (Sys.coldReset s) := by
  unfold Sys.coldReset
  split
  · exact hs
  · exact ⟨(Sys.coldState_kept s.boot).1, hs.2⟩
theorem Sys.standbyLoss_kept (s : Sys) (hs : s.Kept) : Sys.Kept (Sys.standbyLoss s) := by
  unfold Sys.standbyLoss
  exact ⟨(Sys.coldState_kept s.boot).1, hs.2⟩
theorem Sys.restart_kept (s : Sys) (hs : s.Kept) : Sys.Kept (Sys.restart s) := by
  unfold Sys.restart
  exact ⟨(Sys.coldState_kept s.boot).1, hs.2⟩
theorem Sys.panelReset_kept (s : Sys) (h_ : Nat) (hs : s.Kept) : Sys.Kept (Sys.panelReset s h_) := by
  unfold Sys.panelReset
  with_reducible repeat' (first
    | assumption | (intro _) | apply Kept.ite | apply Sys.restart_kept | apply Sys.log_kept)
theorem Sys.setFlash_kept (s : Sys) (h_ : Nat) (f : Flash) (hs : s.Kept) : Sys.Kept (Sys.setFlash s h_ f) := by
  unfold Sys.setFlash
  with_reducible repeat' (first | assumption | (extract_lets +onlyGivenNames x; clear_value x) | apply Kept.update)
theorem Sys.modFlash_kept (s : Sys) (h_ : Nat) (f : Flash → Flash) (hs : s.Kept) : Sys.Kept (Sys.modFlash s h_ f) := by
  unfold Sys.modFlash
  with_reducible repeat' (first | assumption | apply Sys.setFlash_kept)
theorem Sys.reconcile_kept (s : Sys) (hs : s.Kept) : Sys.Kept (Sys.reconcile s) := by
  unfold Sys.reconcile
  with_reducible repeat' (first
    | assumption | (extract_lets +onlyGivenNames x; clear_value x) | apply Sys.setFlash_kept)
theorem Sys.fieldRowMapUpdate_kept (s : Sys) (t : Nat) (hs : s.Kept) : Sys.Kept (Sys.fieldRowMapUpdate s t) := by
  unfold Sys.fieldRowMapUpdate
  with_reducible repeat' (first
    | assumption | (intro _)
    | (extract_lets +onlyGivenNames x; apply Kept.let (x := x); rotate_left; intro hx; clear_value x; rotate_left; subst x)
    | (extract_lets +onlyGivenNames x; clear_value x) | apply Kept.ite | split | apply Sys.setTile_kept
    | apply Sys.modFlash_kept | apply Kept.fold)
theorem Sys.recoveryGo_kept (s : Sys) (h_ : Nat) (hs : s.Kept) : Sys.Kept (Sys.recoveryGo s h_) := by
  unfold Sys.recoveryGo
  with_reducible repeat' (first
    | assumption | (intro _) | (extract_lets +onlyGivenNames x; have q a := Sys.Kept (x a); subst x)
    | (extract_lets +onlyGivenNames x; clear_value x) | apply Kept.ite | split | apply Sys.setBootHub_kept
    | apply Sys.restart_kept | apply Sys.modFlash_kept)
theorem Sys.setMissing_kept (s : Sys) (h_ code : Nat) (hs : s.Kept) : Sys.Kept (Sys.setMissing s h_ code) := by
  unfold Sys.setMissing
  with_reducible repeat' (first | assumption | apply Sys.modHub_kept)
theorem Sys.stepDone_kept (s : Sys) (h_ n : Nat) (hs : s.Kept) : Sys.Kept (Sys.stepDone s h_ n) := by
  unfold Sys.stepDone
  with_reducible repeat' (first
    | assumption | (intro _)
    | (extract_lets +onlyGivenNames x; apply Kept.let (x := x); rotate_left; intro hx; clear_value x; rotate_left; subst x)
    | (extract_lets +onlyGivenNames x; clear_value x) | apply Kept.ite | apply Sys.modBootHub_kept | apply Kept.update)
theorem Sys.edgeUp_kept (s : Sys) (h_ : Nat) (hs : s.Kept) : Sys.Kept (Sys.edgeUp s h_) := by
  unfold Sys.edgeUp
  with_reducible repeat' (first
    | assumption | (intro _)
    | (extract_lets +onlyGivenNames x; apply Kept.let (x := x); rotate_left; intro hx; clear_value x; rotate_left; subst x)
    | (extract_lets +onlyGivenNames x; clear_value x) | apply Kept.ite | apply Kept.ite2 | split
    | apply Sys.modBootHub_kept | apply Sys.setMissing_kept | apply Sys.modHub_kept | apply Sys.setRouter_kept
    | apply Sys.setReplica_kept | apply Sys.modEngine_kept | apply Sys.tadUp_kept | apply Sys.stepDone_kept
    | refine Kept.pair (by assumption) ?_ | refine Kept.ofSomeP (by assumption) ?_
    | refine Kept.ofSome (by assumption) ?_ | apply Kept.fold | apply Kept.fold2 | apply Kept.modLead | apply Kept.some_
    | exact Kept.none_ | apply Kept.someP | exact Kept.noneP | apply Kept.update | exact rfl)
theorem Sys.loadRoles_kept (s : Sys) (hs : s.Kept) : Sys.Kept (Sys.loadRoles s) := by
  unfold Sys.loadRoles
  with_reducible repeat' (first
    | assumption | (intro _)
    | (extract_lets +onlyGivenNames x; apply Kept.let (x := x); rotate_left; intro hx; clear_value x; rotate_left; subst x)
    | (extract_lets +onlyGivenNames x; clear_value x) | split | apply Sys.modPort_kept | apply Kept.fold
    | apply Kept.update)
theorem Sys.goradStarts_kept (s : Sys) (h_ : Nat) (hs : s.Kept) : Sys.Kept (Sys.goradStarts s h_) := by
  unfold Sys.goradStarts
  with_reducible repeat' (first
    | assumption | (intro _)
    | (extract_lets +onlyGivenNames x; apply Kept.let (x := x); rotate_left; intro hx; clear_value x; rotate_left; subst x)
    | (extract_lets +onlyGivenNames x; clear_value x) | apply Kept.ite | apply Sys.loadRoles_kept
    | apply Sys.updateCap_kept | apply Sys.log_kept
    | apply Kept.update | refine Kept.updateN ?_ rfl)
theorem Sys.followLead_kept (s : Sys) (h_ : Nat) (hs : s.Kept) : Sys.Kept (Sys.followLead s h_) := by
  unfold Sys.followLead
  with_reducible repeat' (first
    | assumption
    | (extract_lets +onlyGivenNames x; apply Kept.let (x := x); rotate_left; intro hx; clear_value x; rotate_left; subst x)
    | (extract_lets +onlyGivenNames x; clear_value x) | split | apply Sys.setBootHub_kept | apply Sys.reconcile_kept
    | apply Sys.modBootHub_kept | apply Sys.log_kept | apply Sys.setMissing_kept | apply Sys.modHub_kept)
theorem Sys.claimLead_kept (s : Sys) (h_ : Nat) (hs : s.Kept) : Sys.Kept (Sys.claimLead s h_) := by
  unfold Sys.claimLead
  with_reducible repeat' (first
    | assumption | (intro _)
    | (extract_lets +onlyGivenNames x; apply Kept.let (x := x); rotate_left; intro hx; clear_value x; rotate_left; subst x)
    | (extract_lets +onlyGivenNames x; clear_value x) | apply Kept.ite | apply Kept.ite2 | split
    | apply Sys.modBootHub_kept | apply Sys.reconcile_kept | apply Sys.goradStarts_kept | apply Sys.stepDone_kept
    | refine Kept.pair (by assumption) ?_ | refine Kept.ofSomeP (by assumption) ?_
    | refine Kept.ofSome (by assumption) ?_ | apply Kept.fold | apply Kept.fold2 | apply Kept.modLead | apply Kept.some_
    | exact Kept.none_ | apply Kept.someP | exact Kept.noneP | apply Kept.update | exact rfl)
theorem Sys.bootImage_kept (s : Sys) (h_ : Nat) (hs : s.Kept) : Sys.Kept (Sys.bootImage s h_) := by
  unfold Sys.bootImage
  with_reducible repeat' (first
    | assumption | (intro _)
    | (extract_lets +onlyGivenNames x; apply Kept.let (x := x); rotate_left; intro hx; clear_value x; rotate_left; subst x)
    | apply Kept.ite | split | apply Sys.setFlash_kept | apply Sys.log_kept | apply Sys.modHub_kept
    | apply Sys.setMissing_kept | apply Sys.modBootHub_kept | apply Sys.followLead_kept | apply Sys.claimLead_kept)
theorem Sys.leadClaim_kept (s : Sys) (h_ : Nat) (hs : s.Kept) : Sys.Kept (Sys.leadClaim s h_) := by
  unfold Sys.leadClaim
  with_reducible repeat' (first
    | assumption | (intro _) | (extract_lets +onlyGivenNames x; clear_value x) | apply Kept.ite
    | apply Sys.followLead_kept)
theorem Sys.leadClaimTimeout_kept (s : Sys) (hs : s.Kept) : Sys.Kept (Sys.leadClaimTimeout s) := by
  unfold Sys.leadClaimTimeout
  with_reducible repeat' (first | assumption | (intro _) | apply Kept.ite | split | apply Sys.claimLead_kept)
theorem Sys.staysShed_kept (s : Sys) (u : Nat × Nat × Nat) (hs : s.Kept) : Sys.Kept (Sys.staysShed s u) := by
  unfold Sys.staysShed
  with_reducible repeat' (first
    | assumption | (intro _)
    | (extract_lets +onlyGivenNames x; apply Kept.let (x := x); rotate_left; intro hx; clear_value x; rotate_left; subst x)
    | (extract_lets +onlyGivenNames x; clear_value x) | apply Kept.ite | apply Kept.ite2 | split
    | apply Sys.modUnit_kept | apply Sys.bothEnds_kept | apply Sys.modEngine_kept | refine Kept.pair (by assumption) ?_
    | refine Kept.ofSomeP (by assumption) ?_ | refine Kept.ofSome (by assumption) ?_ | apply Kept.fold
    | apply Kept.fold2 | apply Kept.modLead | apply Kept.some_ | exact Kept.none_ | apply Kept.someP | exact Kept.noneP
    | apply Kept.update | exact rfl)
theorem Sys.bootTiles_kept (s : Sys) (res : BootRes) (hs : s.Kept) : Sys.Kept (Sys.bootTiles s res) := by
  unfold Sys.bootTiles
  with_reducible repeat' (first
    | assumption | (intro _)
    | (extract_lets +onlyGivenNames x; apply Kept.let (x := x); rotate_left; intro hx; clear_value x; rotate_left; subst x)
    | (extract_lets +onlyGivenNames x; clear_value x) | apply Kept.ite | apply Kept.ite2 | split
    | apply Sys.staysShed_kept | apply Sys.setTile_kept | apply Sys.markShed_kept | apply Sys.modUnit_kept
    | apply Sys.hardEvent_kept | apply Sys.mapShed_kept | apply Sys.modTile_kept | refine Kept.pair (by assumption) ?_
    | refine Kept.ofSomeP (by assumption) ?_ | refine Kept.ofSome (by assumption) ?_ | apply Kept.fold
    | apply Kept.fold2 | apply Kept.modLead | apply Kept.some_ | exact Kept.none_ | apply Kept.someP | exact Kept.noneP
    | apply Kept.update | exact rfl)
theorem Sys.bootFeature_kept (s : Sys) (hs : s.Kept) : Sys.Kept (Sys.bootFeature s) := by
  unfold Sys.bootFeature
  with_reducible repeat' (first
    | assumption | (intro _)
    | (extract_lets +onlyGivenNames x; apply Kept.let (x := x); rotate_left; intro hx; clear_value x; rotate_left; subst x)
    | (extract_lets +onlyGivenNames x; clear_value x) | apply Sys.setTileReg_kept | apply Kept.fold
    | apply Kept.update)
theorem Sys.bootTables_kept (s : Sys) (hs : s.Kept) : Sys.Kept (Sys.bootTables s) := by
  unfold Sys.bootTables
  with_reducible repeat' (first
    | assumption | (intro _)
    | (extract_lets +onlyGivenNames x; apply Kept.let (x := x); rotate_left; intro hx; clear_value x; rotate_left; subst x)
    | (extract_lets +onlyGivenNames x; clear_value x) | apply Sys.setReplica_kept | apply Sys.setTad_kept
    | apply Kept.fold | apply Kept.modLead | exact rfl)
theorem Sys.raiseReady_kept (s : Sys) (h_ : Nat) (hs : s.Kept) : Sys.Kept (Sys.raiseReady s h_) := by
  unfold Sys.raiseReady
  with_reducible repeat' (first
    | assumption | (intro _) | apply Kept.ite | apply Sys.event_kept | apply Sys.modHub_kept)
theorem Sys.bootEnd_kept (s : Sys) (hs : s.Kept) : Sys.Kept (Sys.bootEnd s) := by
  unfold Sys.bootEnd
  with_reducible repeat' (first
    | assumption | (intro _)
    | (extract_lets +onlyGivenNames x; apply Kept.let (x := x); rotate_left; intro hx; clear_value x; rotate_left; subst x)
    | (extract_lets +onlyGivenNames x; clear_value x) | apply Kept.ite | apply Sys.stepDone_kept
    | apply Sys.setMissing_kept | apply Sys.modFlash_kept | apply Sys.setBootHub_kept | apply Sys.raiseReady_kept
    | apply Kept.fold | apply Kept.update)
theorem Sys.settleBoot_kept (s : Sys) (hs : s.Kept) : Sys.Kept (Sys.settleBoot s) := by
  unfold Sys.settleBoot
  with_reducible repeat' (first
    | assumption | (intro _) | (extract_lets +onlyGivenNames x; clear_value x)
    | (extract_lets +onlyGivenNames x; subst x) | apply Kept.ite | apply Sys.stepDone_kept | apply Sys.raiseReady_kept)
theorem Sys.bootStep_kept (s : Sys) (h_ : Nat) (res : BootRes) (hs : s.Kept) : Sys.Kept (Sys.bootStep s h_ res) := by
  unfold Sys.bootStep
  with_reducible repeat' (first
    | assumption | (intro _)
    | (extract_lets +onlyGivenNames x; apply Kept.let (x := x); rotate_left; intro hx; clear_value x; rotate_left; subst x)
    | (extract_lets +onlyGivenNames x; have q a b := Sys.Kept (x a b); subst x)
    | (extract_lets +onlyGivenNames x; clear_value x) | apply Kept.ite | split | apply Sys.settleBoot_kept
    | apply Sys.stepDone_kept | apply Sys.edgeUp_kept
    | apply Sys.noteStraights_kept | apply Sys.setMissing_kept | apply Sys.setBootHub_kept
    | apply Sys.bootImage_kept | apply Sys.bootTiles_kept | apply Sys.bootFeature_kept | apply Sys.bootTables_kept
    | apply Sys.calibrate_kept | apply Sys.modPort_kept | apply Sys.bootEnd_kept | apply Kept.fold | dsimp -zeta only
    | apply Kept.update)
theorem Sys.bootStepTimeout_kept (s : Sys) (h_ : Nat) (hs : s.Kept) : Sys.Kept (Sys.bootStepTimeout s h_) := by
  unfold Sys.bootStepTimeout
  with_reducible repeat' (first
    | assumption | (intro _)
    | (extract_lets +onlyGivenNames x; apply Kept.let (x := x); rotate_left; intro hx; clear_value x; rotate_left; subst x)
    | (extract_lets +onlyGivenNames x; have q a b := Sys.Kept (x a b); subst x)
    | (extract_lets +onlyGivenNames x; clear_value x) | apply Kept.ite | split | apply Sys.settleBoot_kept
    | apply Sys.setMissing_kept | apply Sys.setBootHub_kept | apply Sys.loseRegion_kept | apply Sys.log_kept
    | apply Sys.markShed_kept | apply Sys.linkFail_kept | apply Sys.modPort_kept | apply Kept.fold)
theorem Sys.bootWatchdog_kept (s : Sys) (h_ : Nat) (hs : s.Kept) : Sys.Kept (Sys.bootWatchdog s h_) := by
  unfold Sys.bootWatchdog
  with_reducible repeat' (first | assumption | (intro _) | apply Kept.ite | split | apply Sys.restart_kept)
theorem Sys.hubJoin_kept (s : Sys) (h_ : Nat) (hs : s.Kept) : Sys.Kept (Sys.hubJoin s h_) := by
  unfold Sys.hubJoin
  with_reducible repeat' (first
    | assumption | (intro _)
    | (extract_lets +onlyGivenNames x; apply Kept.let (x := x); rotate_left; intro hx; clear_value x; rotate_left; subst x)
    | (extract_lets +onlyGivenNames x; clear_value x) | apply Kept.ite | apply Kept.ite2 | split
    | apply Sys.modBootHub_kept | apply Sys.reconcile_kept | apply Sys.askSwitch_kept | apply Sys.raiseReady_kept
    | refine Kept.pair (by assumption) ?_ | refine Kept.ofSomeP (by assumption) ?_
    | refine Kept.ofSome (by assumption) ?_ | apply Kept.fold | apply Kept.fold2 | apply Kept.modLead | apply Kept.some_
    | exact Kept.none_ | apply Kept.someP | exact Kept.noneP | apply Kept.update | exact rfl)
theorem Sys.debugChallenge_kept (s : Sys) (h_ : Nat) (hs : s.Kept) : Sys.Kept (Sys.debugChallenge s h_) := by
  unfold Sys.debugChallenge
  with_reducible repeat' (first
    | assumption | (intro _)
    | (extract_lets +onlyGivenNames x; apply Kept.let (x := x); rotate_left; intro hx; clear_value x; rotate_left; subst x)
    | (extract_lets +onlyGivenNames x; clear_value x) | apply Kept.ite | apply Sys.setBootHub_kept | apply Kept.update)
theorem Sys.debugToken_kept (s : Sys) (h_ r t : Nat) (hs : s.Kept) : Sys.Kept (Sys.debugToken s h_ r t) := by
  unfold Sys.debugToken
  with_reducible repeat' (first
    | assumption | (intro _) | (extract_lets +onlyGivenNames x; clear_value x) | apply Kept.ite | split
    | apply Sys.log_kept | apply Sys.setBootHub_kept)
theorem Sys.hubGone_kept (s : Sys) (n : Nat) (hs : s.Kept) : Sys.Kept (Sys.hubGone s n) := by
  unfold Sys.hubGone
  with_reducible repeat' (first
    | assumption | (intro _)
    | (extract_lets +onlyGivenNames x; apply Kept.let (x := x); rotate_left; intro hx; clear_value x; rotate_left; subst x)
    | (extract_lets +onlyGivenNames x; clear_value x) | apply Kept.ite | apply Kept.ite2 | split | apply Sys.setHub_kept
    | apply Sys.killRouter_kept | apply Sys.setTad_kept | apply Sys.modEngine_kept | apply Sys.refreshPeers_kept
    | apply Sys.log_kept | apply Sys.event_kept | apply Sys.failPart_kept | refine Kept.pair (by assumption) ?_
    | refine Kept.ofSomeP (by assumption) ?_ | refine Kept.ofSome (by assumption) ?_ | apply Kept.fold
    | apply Kept.fold2 | apply Kept.modLead | apply Kept.some_ | exact Kept.none_ | apply Kept.someP | exact Kept.noneP
    | apply Kept.update | exact rfl)
theorem Sys.takeLead_kept (s : Sys) (o : Nat) (hs : s.Kept) : Sys.Kept (Sys.takeLead s o) := by
  unfold Sys.takeLead
  extract_lets +onlyGivenNames t d l
  subst l
  with_reducible repeat' (first
    | assumption | (intro _)
    | (extract_lets +onlyGivenNames x; apply Kept.let (x := x); rotate_left; intro hx; clear_value x; rotate_left; subst x)
    | (extract_lets +onlyGivenNames x; clear_value x) | apply Kept.ite | split | apply Sys.modHub_kept
    | apply Sys.event_kept | apply Sys.sendCommit_kept | apply Sys.setReplica_kept | apply Sys.askSwitch_kept
    | apply Sys.recoverPart_kept | exact Kept.updateL (x := s) hs rfl | apply Kept.fold | apply Kept.modLead
    | exact rfl)
theorem Sys.hubHeartbeat_kept (s : Sys) (h_ : Nat) (hs : s.Kept) : Sys.Kept (Sys.hubHeartbeat s h_) := by
  unfold Sys.hubHeartbeat
  with_reducible repeat' (first | assumption | (intro _) | apply Kept.ite | apply Sys.modHub_kept)
theorem Sys.hubLost_kept (s : Sys) (n : Nat) (hs : s.Kept) : Sys.Kept (Sys.hubLost s n) := by
  unfold Sys.hubLost
  with_reducible repeat' (first
    | assumption | (intro _)
    | (extract_lets +onlyGivenNames x; apply Kept.let (x := x); rotate_left; intro hx; clear_value x; rotate_left; subst x)
    | (extract_lets +onlyGivenNames x; clear_value x) | apply Kept.ite | apply Kept.ite2 | split
    | apply Sys.hubGone_kept | apply Sys.takeLead_kept | refine Kept.pair (by assumption) ?_
    | refine Kept.ofSomeP (by assumption) ?_ | refine Kept.ofSome (by assumption) ?_ | apply Kept.fold
    | apply Kept.fold2 | apply Kept.modLead | apply Kept.some_ | exact Kept.none_ | apply Kept.someP | exact Kept.noneP
    | apply Kept.update | exact rfl)
theorem Sys.domainShort_kept (s : Sys) (d : Nat) (hs : s.Kept) : Sys.Kept (Sys.domainShort s d) := by
  unfold Sys.domainShort
  with_reducible repeat' (first
    | assumption | (intro _)
    | (extract_lets +onlyGivenNames x; apply Kept.let (x := x); rotate_left; intro hx; clear_value x; rotate_left; subst x)
    | (extract_lets +onlyGivenNames x; clear_value x) | apply Kept.ite | apply Kept.ite2 | split
    | apply Sys.loseRegion_kept | apply Sys.hubGone_kept | apply Sys.mapShed_kept | apply Sys.takeLead_kept
    | refine Kept.pair (by assumption) ?_ | refine Kept.ofSomeP (by assumption) ?_
    | refine Kept.ofSome (by assumption) ?_ | apply Kept.fold | apply Kept.fold2 | apply Kept.modLead | apply Kept.some_
    | exact Kept.none_ | apply Kept.someP | exact Kept.noneP | apply Kept.update | exact rfl)
theorem Sys.ibcFault_kept (s : Sys) (n : Nat) (hs : s.Kept) : Sys.Kept (Sys.ibcFault s n) := by
  unfold Sys.ibcFault
  with_reducible repeat' (first
    | assumption | (intro _)
    | (extract_lets +onlyGivenNames x; apply Kept.let (x := x); rotate_left; intro hx; clear_value x; rotate_left; subst x)
    | (extract_lets +onlyGivenNames x; clear_value x) | apply Kept.ite | apply Sys.setTad_kept
    | apply Sys.domainShort_kept | apply Kept.update)
theorem Sys.loseUnfed_kept (s : Sys) (hs : s.Kept) : Sys.Kept (Sys.loseUnfed s) := by
  unfold Sys.loseUnfed
  with_reducible repeat' (first
    | assumption | (intro _)
    | (extract_lets +onlyGivenNames x; apply Kept.let (x := x); rotate_left; intro hx; clear_value x; rotate_left; subst x)
    | (extract_lets +onlyGivenNames x; clear_value x) | apply Kept.ite | apply Kept.ite2 | split
    | apply Sys.domainShort_kept | refine Kept.pair (by assumption) ?_ | refine Kept.ofSomeP (by assumption) ?_
    | refine Kept.ofSome (by assumption) ?_ | apply Kept.fold | apply Kept.fold2 | apply Kept.modLead | apply Kept.some_
    | exact Kept.none_ | apply Kept.someP | exact Kept.noneP | apply Kept.update | exact rfl)
theorem Sys.feedDrop_kept (s : Sys) (f volts ns : Nat) (hs : s.Kept) : Sys.Kept (Sys.feedDrop s f volts ns) := by
  unfold Sys.feedDrop
  with_reducible repeat' (first
    | assumption | (intro _)
    | (extract_lets +onlyGivenNames x; apply Kept.let (x := x); rotate_left; intro hx; clear_value x; rotate_left; subst x)
    | (extract_lets +onlyGivenNames x; clear_value x) | apply Kept.ite | apply Kept.ite2 | split | apply Sys.log_kept
    | apply Sys.updateCap_kept | apply Sys.loseUnfed_kept | apply Sys.restart_kept | refine Kept.pair (by assumption) ?_
    | refine Kept.ofSomeP (by assumption) ?_ | refine Kept.ofSome (by assumption) ?_ | apply Kept.fold
    | apply Kept.fold2 | apply Kept.modLead | apply Kept.some_ | exact Kept.none_ | apply Kept.someP | exact Kept.noneP
    | apply Kept.update | exact rfl)
theorem Sys.referenceLoss_kept (s : Sys) (n : Nat) (hs : s.Kept) : Sys.Kept (Sys.referenceLoss s n) := by
  unfold Sys.referenceLoss
  with_reducible repeat' (first
    | assumption | (intro _)
    | (extract_lets +onlyGivenNames x; apply Kept.let (x := x); rotate_left; intro hx; clear_value x; rotate_left; subst x)
    | (extract_lets +onlyGivenNames x; clear_value x) | apply Kept.ite | apply Kept.ite2 | split
    | apply Sys.killRouter_kept | apply Sys.setTad_kept | apply Sys.loseTile_kept | apply Sys.modBootHub_kept
    | refine Kept.pair (by assumption) ?_ | refine Kept.ofSomeP (by assumption) ?_
    | refine Kept.ofSome (by assumption) ?_ | apply Kept.fold | apply Kept.fold2 | apply Kept.modLead | apply Kept.some_
    | exact Kept.none_ | apply Kept.someP | exact Kept.noneP | apply Kept.update | exact rfl)
theorem Sys.settleRestart_kept (s : Sys) (hs : s.Kept) : Sys.Kept (Sys.settleRestart s) := by
  unfold Sys.settleRestart
  with_reducible repeat' (first | assumption | (intro _) | apply Kept.ite | split | apply Sys.restart_kept)
theorem Sys.eventStatusWrite_kept (s : Sys) (h_ v : Nat) (hs : s.Kept) : Sys.Kept (Sys.eventStatusWrite s h_ v) := by
  unfold Sys.eventStatusWrite
  with_reducible repeat' (first
    | assumption | (intro _)
    | (extract_lets +onlyGivenNames x; apply Kept.let (x := x); rotate_left; intro hx; clear_value x; rotate_left; subst x)
    | (extract_lets +onlyGivenNames x; clear_value x) | apply Kept.ite | apply Sys.setHub_kept
    | apply Sys.eventMsg_kept)
theorem Sys.eventMaskWrite_kept (s : Sys) (h_ v : Nat) (hs : s.Kept) : Sys.Kept (Sys.eventMaskWrite s h_ v) := by
  unfold Sys.eventMaskWrite
  with_reducible repeat' (first
    | assumption | (intro _)
    | (extract_lets +onlyGivenNames x; apply Kept.let (x := x); rotate_left; intro hx; clear_value x; rotate_left; subst x)
    | (extract_lets +onlyGivenNames x; clear_value x) | apply Kept.ite | apply Sys.setHub_kept
    | apply Sys.eventMsg_kept)
theorem Sys.eventCfgWrite_kept (s : Sys) (h_ v : Nat) (hs : s.Kept) : Sys.Kept (Sys.eventCfgWrite s h_ v) := by
  unfold Sys.eventCfgWrite
  with_reducible repeat' (first
    | assumption | (intro _)
    | (extract_lets +onlyGivenNames x; apply Kept.let (x := x); rotate_left; intro hx; clear_value x; rotate_left; subst x)
    | (extract_lets +onlyGivenNames x; clear_value x) | apply Kept.ite | apply Sys.setHub_kept
    | apply Sys.eventMsg_kept)
theorem Sys.tableWrite_kept (s : Sys) (h_ off v : Nat) (t : Nat × Nat × Nat × Nat) (hs : s.Kept)
    : Sys.Kept (Sys.tableWrite s h_ off v t).2 := by
  unfold Sys.tableWrite
  with_reducible repeat' (first
    | assumption | (intro _) | (extract_lets +onlyGivenNames x; clear_value x) | apply Kept.ite2
    | apply Sys.setHub_kept)
theorem Sys.qpWrite_kept (s : Sys) (h_ off v : Nat) (hs : s.Kept) : Sys.Kept (Sys.qpWrite s h_ off v).2 := by
  unfold Sys.qpWrite
  with_reducible repeat' (first
    | assumption | (intro _) | (extract_lets +onlyGivenNames x; clear_value x)
    | (extract_lets +onlyGivenNames x; subst x) | apply Kept.ite | apply Kept.ite2 | split | apply Sys.qpEnable_kept
    | apply Sys.qpDisable_kept | apply Sys.log_kept | apply Sys.setHub_kept)
theorem Sys.msixWrite_kept (s : Sys) (h_ off v : Nat) (hs : s.Kept) : Sys.Kept (Sys.msixWrite s h_ off v) := by
  unfold Sys.msixWrite
  with_reducible repeat' (first
    | assumption | (intro _) | (extract_lets +onlyGivenNames x; have q a := Sys.Kept (x a); subst x)
    | (extract_lets +onlyGivenNames x; clear_value x) | (extract_lets +onlyGivenNames x; subst x) | apply Kept.ite
    | apply Sys.setHub_kept | apply Sys.msixUnmask_kept)
theorem Sys.hubRegWrite_kept (s : Sys) (h_ off v : Nat) (hs : s.Kept) : Sys.Kept (Sys.hubRegWrite s h_ off v).2 := by
  unfold Sys.hubRegWrite
  with_reducible repeat' (first
    | assumption | (intro _) | (extract_lets +onlyGivenNames x; clear_value x) | apply Kept.ite | apply Kept.ite2
    | split | apply Sys.setHub_kept | apply Sys.bindHi_kept | apply Sys.eventCfgWrite_kept
    | apply Sys.eventStatusWrite_kept | apply Sys.eventMaskWrite_kept | apply Sys.qpWrite_kept
    | apply Sys.msixWrite_kept | apply Sys.panelReset_kept | apply Sys.recoveryGo_kept | apply Sys.tableWrite_kept)
theorem Sys.streamFreed_kept (s : Sys) (h_ n v : Nat) (hs : s.Kept) : Sys.Kept (Sys.streamFreed s h_ n v) := by
  unfold Sys.streamFreed
  with_reducible repeat' (first
    | assumption | (intro _) | (extract_lets +onlyGivenNames x; clear_value x) | apply Kept.ite | apply Sys.log_kept
    | apply Sys.setHub_kept)
theorem Sys.barRead_kept (s : Sys) (h_ bar off : Nat) (hs : s.Kept) : Sys.Kept (Sys.barRead s h_ bar off).2 := by
  unfold Sys.barRead
  with_reducible repeat' (first | assumption | (intro _) | apply Kept.ite2 | apply Sys.hubReadEffect_kept)
theorem Sys.barWrite_kept (s : Sys) (h_ bar off v : Nat) (hs : s.Kept) : Sys.Kept (Sys.barWrite s h_ bar off v) := by
  unfold Sys.barWrite
  with_reducible repeat' (first
    | assumption | (intro _) | apply Kept.ite | apply Sys.hubRegWrite_kept | apply Sys.sqTail_kept
    | apply Sys.cqHead_kept | apply Sys.streamFreed_kept)
theorem Sys.barAccess_kept (s : Sys) (h_ bar off n : Nat) (write : Bool) (v : Nat) (hs : s.Kept)
    : Sys.Kept (Sys.barAccess s h_ bar off n write v) := by
  unfold Sys.barAccess
  with_reducible repeat' (first
    | assumption | (intro _)
    | (extract_lets +onlyGivenNames x; apply Kept.let (x := x); rotate_left; intro hx; clear_value x; rotate_left; subst x)
    | (extract_lets +onlyGivenNames x; clear_value x) | apply Kept.ite | split | apply Sys.log_kept
    | apply Sys.barWrite_kept | apply Sys.barRead_kept | refine Kept.pair (by assumption) ?_ | apply Kept.update)
theorem Sys.command_kept (s : Sys) (h_ q op : Nat) (bad : Sys → Cmd → List (Nat × Nat))
    (run : Sys → Cmd → Option Reply × Sys) (hs : s.Kept) (hrun : ∀ u0 u1, Sys.Kept u0 → Sys.Kept (run u0 u1).2) : Sys.Kept (Sys.command s h_ q op bad run) := by
  unfold Sys.command
  with_reducible repeat' (first
    | assumption | (intro _)
    | (extract_lets +onlyGivenNames x; apply Kept.let (x := x); rotate_left; intro hx; clear_value x; rotate_left; subst x)
    | (extract_lets +onlyGivenNames x; have q a b := Sys.Kept (x a b); subst x)
    | (extract_lets +onlyGivenNames x; clear_value x) | apply Kept.ite | split | apply Sys.markStarted_kept
    | apply Sys.pushReply_kept | apply hrun | refine Kept.pair (by assumption) ?_)
theorem now__kept (f : Sys → Cmd → Reply × Sys) (a1 : Sys) (a2 : Cmd)
    (hf : ∀ u0 u1, Sys.Kept u0 → Sys.Kept (f u0 u1).2) (ha1 : a1.Kept) : Sys.Kept (now_ f a1 a2).2 := by
  unfold now_
  with_reducible repeat' (first | assumption | apply hf)
theorem Sys.cutRecord_kept (s : Sys) (addr len size v : Nat) (hs : s.Kept)
    : Sys.Kept (Sys.cutRecord s addr len size v).2 := by
  unfold Sys.cutRecord
  with_reducible repeat' (first | assumption | (intro _) | apply Kept.ite2 | split | apply Sys.hostWrite_kept)
theorem Sys.runIdentify_kept (a0 : Sys) (a1 : Cmd) (ha0 : a0.Kept) : Sys.Kept (Sys.runIdentify a0 a1).2 := by
  unfold Sys.runIdentify
  with_reducible repeat' (first
    | assumption | (extract_lets +onlyGivenNames x; clear_value x) | apply Sys.hostWrite_kept)
theorem Sys.runGetFeature_kept (a0 : Sys) (a1 : Cmd) (ha0 : a0.Kept) : Sys.Kept (Sys.runGetFeature a0 a1).2 := by
  unfold Sys.runGetFeature
  with_reducible repeat' (first
    | assumption | split | apply Sys.cutRecord_kept | refine Kept.pair (by assumption) ?_)
theorem Sys.runSetFeature_kept (a0 : Sys) (a1 : Cmd) (ha0 : a0.Kept) : Sys.Kept (Sys.runSetFeature a0 a1).2 := by
  unfold Sys.runSetFeature
  with_reducible repeat' (first
    | assumption | (intro _)
    | (extract_lets +onlyGivenNames x; apply Kept.let (x := x); rotate_left; intro hx; clear_value x; rotate_left; subst x)
    | (extract_lets +onlyGivenNames x; clear_value x) | apply Kept.ite2 | split | apply Sys.updateCap_kept
    | apply Kept.modLead | exact rfl | apply Kept.update)
theorem Sys.hubWord_kept (s : Sys) (h_ off : Nat) (write : Bool) (v : Nat) (hs : s.Kept)
    : Sys.Kept (Sys.hubWord s h_ off write v).2 := by
  unfold Sys.hubWord
  with_reducible repeat' (first
    | assumption | (intro _) | apply Kept.ite2 | split | apply Sys.hubRegWrite_kept | apply Sys.hubReadEffect_kept
    | refine Kept.pair (by assumption) ?_)
theorem Sys.hubWords_kept (s : Sys) (h_ : Nat) (c : Cmd) (fuel done : Nat) (hs : s.Kept)
    : Sys.Kept (Sys.hubWords s h_ c fuel done).2 := by
  induction fuel generalizing s done with
  | zero => exact hs
  | succ n ih =>
    unfold Sys.hubWords
    with_reducible repeat' (first
    | assumption | (intro _) | (extract_lets +onlyGivenNames x; clear_value x)
    | (extract_lets +onlyGivenNames x; subst x) | apply Kept.ite2 | split | apply Sys.hubWord_kept
    | apply Sys.hostWrite_kept | apply ih | refine Kept.pair (by assumption) ?_)
theorem Sys.runRegs_kept (h_ q : Nat) (a2 : Sys) (a3 : Cmd) (ha2 : a2.Kept) : Sys.Kept (Sys.runRegs h_ q a2 a3).2 := by
  unfold Sys.runRegs
  with_reducible repeat' (first
    | assumption | (intro _) | (extract_lets +onlyGivenNames x; clear_value x) | apply Kept.ite2 | split
    | apply Sys.hubWords_kept | apply Sys.regNext_kept | refine Kept.pair (by assumption) ?_)
theorem Sys.runPowerQuery_kept (a0 : Sys) (a1 : Cmd) (ha0 : a0.Kept) : Sys.Kept (Sys.runPowerQuery a0 a1).2 := by
  unfold Sys.runPowerQuery
  with_reducible repeat' (first
    | assumption | split | apply Sys.cutRecord_kept | refine Kept.pair (by assumption) ?_)
theorem Sys.runLogRead_kept (a0 : Sys) (a1 : Cmd) (ha0 : a0.Kept) : Sys.Kept (Sys.runLogRead a0 a1).2 := by
  unfold Sys.runLogRead
  with_reducible repeat' (first
    | assumption | (intro _) | (extract_lets +onlyGivenNames x; clear_value x) | apply Kept.ite2 | split
    | apply Sys.hostWrite_kept)
theorem Sys.runTimeSync_kept (a0 : Sys) (a1 : Cmd) (ha0 : a0.Kept) : Sys.Kept (Sys.runTimeSync a0 a1).2 := by
  unfold Sys.runTimeSync
  (with_reducible repeat' assumption)
theorem Sys.runConfigRead_kept (a0 : Sys) (a1 : Cmd) (ha0 : a0.Kept) : Sys.Kept (Sys.runConfigRead a0 a1).2 := by
  unfold Sys.runConfigRead
  with_reducible repeat' (first
    | assumption | split | apply Sys.cutRecord_kept | refine Kept.pair (by assumption) ?_)
theorem Sys.putConf_kept (s : Sys) (ty len v : Nat) (hs : s.Kept) : Sys.Kept (Sys.putConf s ty len v) := by
  unfold Sys.putConf
  with_reducible repeat' (first
    | assumption | (intro _) | (extract_lets +onlyGivenNames x; clear_value x) | apply Kept.ite
    | apply Sys.modFlash_kept | apply Kept.fold)
theorem Sys.confEffect_kept (s : Sys) (ty : Nat) (hs : s.Kept) : Sys.Kept (Sys.confEffect s ty) := by
  unfold Sys.confEffect
  with_reducible repeat' (first
    | assumption | (intro _) | (extract_lets +onlyGivenNames x; clear_value x) | apply Kept.ite
    | apply Sys.updateCap_kept | apply Sys.askSwitch_kept | apply Sys.refreshPeers_kept | apply Kept.update)
theorem Sys.runConfigWrite_kept (a0 : Sys) (a1 : Cmd) (ha0 : a0.Kept) : Sys.Kept (Sys.runConfigWrite a0 a1).2 := by
  unfold Sys.runConfigWrite
  with_reducible repeat' (first
    | assumption | (intro _) | (extract_lets +onlyGivenNames x; clear_value x) | apply Kept.ite2 | split
    | apply Sys.confEffect_kept | apply Sys.putConf_kept)
theorem Sys.runStage_kept (a0 : Sys) (a1 : Cmd) (ha0 : a0.Kept) : Sys.Kept (Sys.runStage a0 a1).2 := by
  unfold Sys.runStage
  with_reducible repeat' (first
    | assumption | (intro _)
    | (extract_lets +onlyGivenNames x; apply Kept.let (x := x); rotate_left; intro hx; clear_value x; rotate_left; subst x)
    | (extract_lets +onlyGivenNames x; clear_value x) | split | apply Sys.modFlash_kept | apply Sys.modBootHub_kept
    | apply Kept.fold)
theorem Sys.runActivate_kept (a0 : Sys) (a1 : Cmd) (ha0 : a0.Kept) : Sys.Kept (Sys.runActivate a0 a1).2 := by
  unfold Sys.runActivate
  with_reducible repeat' (first
    | assumption | (intro _)
    | (extract_lets +onlyGivenNames x; apply Kept.let (x := x); rotate_left; intro hx; clear_value x; rotate_left; subst x)
    | (extract_lets +onlyGivenNames x; clear_value x) | apply Kept.ite2 | apply Sys.modFlash_kept
    | apply Sys.event_kept | apply Sys.modHub_kept | apply Kept.fold | dsimp -zeta only | apply Kept.update)
theorem Sys.runHealthQuery_kept (a0 : Sys) (a1 : Cmd) (ha0 : a0.Kept) : Sys.Kept (Sys.runHealthQuery a0 a1).2 := by
  unfold Sys.runHealthQuery
  with_reducible repeat' (first
    | assumption | split | apply Sys.cutRecord_kept | refine Kept.pair (by assumption) ?_)
theorem Sys.runLinkQuery_kept (a0 : Sys) (a1 : Cmd) (ha0 : a0.Kept) : Sys.Kept (Sys.runLinkQuery a0 a1).2 := by
  unfold Sys.runLinkQuery
  with_reducible repeat' (first
    | assumption | (extract_lets +onlyGivenNames x; clear_value x) | split | apply Sys.cutRecord_kept
    | refine Kept.pair (by assumption) ?_)
theorem Sys.runUnitShed_kept (h_ q : Nat) (a2 : Sys) (a3 : Cmd) (ha2 : a2.Kept)
    : Sys.Kept (Sys.runUnitShed h_ q a2 a3).2 := by
  unfold Sys.runUnitShed
  with_reducible repeat' (first
    | assumption | (intro _)
    | (extract_lets +onlyGivenNames x; apply Kept.let (x := x); rotate_left; intro hx; clear_value x; rotate_left; subst x)
    | (extract_lets +onlyGivenNames x; clear_value x) | apply Kept.ite | apply Kept.ite2 | apply Sys.eventBoth_kept
    | apply Sys.log_kept | apply Sys.modUnit_kept | apply Sys.startDrain_kept | apply Sys.addWait_kept)
theorem Sys.settleSheds_kept (s : Sys) (hs : s.Kept) : Sys.Kept (Sys.settleSheds s) := by
  unfold Sys.settleSheds
  with_reducible repeat' (first
    | assumption | (intro _) | (extract_lets +onlyGivenNames x; clear_value x) | split | apply Sys.answerWaits_kept
    | apply Kept.fold)
theorem Sys.unfence_kept (s : Sys) (t : Nat) (hs : s.Kept) : Sys.Kept (Sys.unfence s t) := by
  unfold Sys.unfence
  with_reducible repeat' (first
    | assumption | (intro _) | (extract_lets +onlyGivenNames x; clear_value x) | apply Sys.setStraight_kept
    | apply Kept.fold)
theorem Sys.portBack_kept (s : Sys) (e p lanes : Nat) (hs : s.Kept) : Sys.Kept (Sys.portBack s e p lanes) := by
  unfold Sys.portBack
  with_reducible repeat' (first
    | assumption | (intro _)
    | (extract_lets +onlyGivenNames x; apply Kept.let (x := x); rotate_left; intro hx; clear_value x; rotate_left; subst x)
    | (extract_lets +onlyGivenNames x; clear_value x) | apply Kept.ite | apply Kept.ite2 | split
    | apply Sys.modPort_kept | refine Kept.pair (by assumption) ?_ | refine Kept.ofSomeP (by assumption) ?_
    | refine Kept.ofSome (by assumption) ?_ | apply Kept.fold | apply Kept.fold2 | apply Kept.modLead | apply Kept.some_
    | exact Kept.none_ | apply Kept.someP | exact Kept.noneP | apply Kept.update | exact rfl)
theorem Sys.unitBack_kept (s : Sys) (kind wher sub : Nat) (hs : s.Kept) : Sys.Kept (Sys.unitBack s kind wher sub) := by
  unfold Sys.unitBack
  with_reducible repeat' (first
    | assumption | (intro _)
    | (extract_lets +onlyGivenNames x; apply Kept.let (x := x); rotate_left; intro hx; clear_value x; rotate_left; subst x)
    | (extract_lets +onlyGivenNames x; have q a b := Sys.Kept (x a b); subst x)
    | (extract_lets +onlyGivenNames x; clear_value x) | apply Kept.ite | split | apply Sys.modUnit_kept
    | apply Sys.mapShed_kept | apply Sys.bothEnds_kept | apply Sys.tileUp_kept
    | apply Sys.portBack_kept | apply Sys.modTile_kept
    | apply Sys.askSwitch_kept | apply Sys.unfence_kept | apply Sys.calibrate_kept | apply Sys.modPort_kept
    | apply Sys.modEngine_kept | apply Kept.fold)
theorem Sys.runUnitRegrow_kept (pass : Bool) (a1 : Sys) (a2 : Cmd) (ha1 : a1.Kept)
    : Sys.Kept (Sys.runUnitRegrow pass a1 a2).2 := by
  unfold Sys.runUnitRegrow
  with_reducible repeat' (first | assumption | (intro _) | apply Kept.ite2 | split | apply Sys.unitBack_kept | apply Sys.askSwitch_kept)
theorem Sys.runWatchClear_kept (a0 : Sys) (a1 : Cmd) (ha0 : a0.Kept) : Sys.Kept (Sys.runWatchClear a0 a1).2 := by
  unfold Sys.runWatchClear
  with_reducible repeat' (first
    | assumption | (intro _)
    | (extract_lets +onlyGivenNames x; apply Kept.let (x := x); rotate_left; intro hx; clear_value x; rotate_left; subst x)
    | (extract_lets +onlyGivenNames x; clear_value x) | apply Kept.ite | apply Kept.ite2 | apply Sys.eventBoth_kept
    | apply Sys.modUnit_kept)
theorem Sys.mcClear_kept (s : Sys) (holder n : Nat) (hs : s.Kept) : Sys.Kept (Sys.mcClear s holder n) := by
  unfold Sys.mcClear
  with_reducible repeat' (first
    | assumption | (intro _)
    | (extract_lets +onlyGivenNames x; apply Kept.let (x := x); rotate_left; intro hx; clear_value x; rotate_left; subst x)
    | (extract_lets +onlyGivenNames x; clear_value x) | split | apply Sys.setReplica_kept | apply Kept.fold
    | apply Kept.modLead | exact rfl)
theorem Sys.rgClear_kept (s : Sys) (n : Nat) (hs : s.Kept) : Sys.Kept (Sys.rgClear s n) := by
  unfold Sys.rgClear
  with_reducible repeat' (first
    | assumption | (intro _)
    | (extract_lets +onlyGivenNames x; apply Kept.let (x := x); rotate_left; intro hx; clear_value x; rotate_left; subst x)
    | (extract_lets +onlyGivenNames x; clear_value x) | split | apply Sys.setReplica_kept | apply Kept.fold
    | apply Kept.modLead | exact rfl)
theorem Sys.partTearDown_kept (s : Sys) (p : Nat) (hs : s.Kept) : Sys.Kept (Sys.partTearDown s p) := by
  unfold Sys.partTearDown
  with_reducible repeat' (first
    | assumption | (intro _)
    | (extract_lets +onlyGivenNames x; apply Kept.let (x := x); rotate_left; intro hx; clear_value x; rotate_left; subst x)
    | (extract_lets +onlyGivenNames x; clear_value x) | apply Sys.modHub_kept | apply Sys.egressClose_kept
    | apply Sys.mcClear_kept | apply Sys.rgClear_kept | apply Sys.dropShadow_kept | apply Sys.onTile_kept
    | apply Sys.modTile_kept | apply Sys.answerWaits_kept | apply Kept.fold)
theorem Sys.runPartDestroy_kept (a0 : Sys) (a1 : Cmd) (ha0 : a0.Kept) : Sys.Kept (Sys.runPartDestroy a0 a1).2 := by
  unfold Sys.runPartDestroy
  with_reducible repeat' (first
    | assumption | (intro _)
    | (extract_lets +onlyGivenNames x; apply Kept.let (x := x); rotate_left; intro hx; clear_value x; rotate_left; subst x)
    | (extract_lets +onlyGivenNames x; clear_value x) | apply Kept.ite2 | apply Sys.partTearDown_kept
    | apply Sys.disablePairs_kept | exact Kept.dropPart (by assumption))
theorem Sys.settleResets_kept (s : Sys) (hs : s.Kept) : Sys.Kept (Sys.settleResets s) := by
  unfold Sys.settleResets
  with_reducible repeat' (first
    | assumption | (intro _)
    | (extract_lets +onlyGivenNames x; apply Kept.let (x := x); rotate_left; intro hx; clear_value x; rotate_left; subst x)
    | apply Kept.ite | split | apply Sys.partTearDown_kept | apply Sys.disablePairs_kept | apply Sys.answerWaits_kept
    | apply Kept.fold)
theorem Sys.runPartReset_kept (h_ q : Nat) (a2 : Sys) (a3 : Cmd) (ha2 : a2.Kept)
    : Sys.Kept (Sys.runPartReset h_ q a2 a3).2 := by
  unfold Sys.runPartReset
  with_reducible repeat' (first
    | assumption | (intro _)
    | (extract_lets +onlyGivenNames x; apply Kept.let (x := x); rotate_left; intro hx; clear_value x; rotate_left; subst x)
    | (extract_lets +onlyGivenNames x; clear_value x) | apply Sys.stopJob_kept | apply Sys.settleResets_kept
    | apply Sys.addWait_kept | apply Kept.fold)
theorem Sys.defineRegion_kept (s : Sys) (c : Cmd) (hs : s.Kept) : Kept.Opt (Sys.defineRegion s c) := by
  unfold Sys.defineRegion
  with_reducible repeat' (first
    | assumption
    | (extract_lets +onlyGivenNames x; apply Kept.let (x := x); rotate_left; intro hx; clear_value x; rotate_left; subst x)
    | (extract_lets +onlyGivenNames x; clear_value x) | split | apply Sys.onTile_kept | apply Sys.placeShadow_kept
    | apply Kept.some_)
theorem Sys.runRegionDefine_kept (h_ q : Nat) (a2 : Sys) (a3 : Cmd) (ha2 : a2.Kept)
    : Sys.Kept (Sys.runRegionDefine h_ q a2 a3).2 := by
  unfold Sys.runRegionDefine
  with_reducible repeat' (first
    | assumption | (intro _) | apply Kept.ite2 | split | apply Sys.defineRegion_kept | apply Sys.addWait_kept
    | refine Kept.ofSome (by assumption) ?_)
theorem Sys.runRegionRelease_kept (h_ q : Nat) (a2 : Sys) (a3 : Cmd) (ha2 : a2.Kept)
    : Sys.Kept (Sys.runRegionRelease h_ q a2 a3).2 := by
  unfold Sys.runRegionRelease
  with_reducible repeat' (first
    | assumption | (intro _) | (extract_lets +onlyGivenNames x; clear_value x) | apply Kept.ite2
    | apply Sys.askTile_kept | apply Sys.addWait_kept)
theorem Sys.runStoreFill_kept (h_ q : Nat) (a2 : Sys) (a3 : Cmd) (ha2 : a2.Kept)
    : Sys.Kept (Sys.runStoreFill h_ q a2 a3).2 := by
  unfold Sys.runStoreFill
  with_reducible repeat' (first
    | assumption | (intro _)
    | (extract_lets +onlyGivenNames x; apply Kept.let (x := x); rotate_left; intro hx; clear_value x; rotate_left; subst x)
    | (extract_lets +onlyGivenNames x; clear_value x) | apply Kept.ite2 | apply Sys.onTile_kept
    | apply Sys.addWait_kept)
theorem Sys.runStoreWrite_kept (a0 : Sys) (a1 : Cmd) (ha0 : a0.Kept) : Sys.Kept (Sys.runStoreWrite a0 a1).2 := by
  unfold Sys.runStoreWrite
  with_reducible repeat' (first
    | assumption | (intro _)
    | (extract_lets +onlyGivenNames x; apply Kept.let (x := x); rotate_left; intro hx; clear_value x; rotate_left; subst x)
    | (extract_lets +onlyGivenNames x; clear_value x) | apply Kept.ite2 | apply Sys.onTile_kept)
theorem Sys.runStoreRead_kept (a0 : Sys) (a1 : Cmd) (ha0 : a0.Kept) : Sys.Kept (Sys.runStoreRead a0 a1).2 := by
  unfold Sys.runStoreRead
  with_reducible repeat' (first
    | assumption | (intro _)
    | (extract_lets +onlyGivenNames x; apply Kept.let (x := x); rotate_left; intro hx; clear_value x; rotate_left; subst x)
    | (extract_lets +onlyGivenNames x; clear_value x) | apply Kept.ite2 | split | apply Sys.askTile_kept
    | apply Sys.hostWrite_kept | apply Kept.fold | refine Kept.pair (by assumption) ?_)
theorem Sys.storeFillDone_kept (s : Sys) (t : Nat) (hs : s.Kept) : Sys.Kept (Sys.storeFillDone s t) := by
  unfold Sys.storeFillDone
  with_reducible repeat' (first
    | assumption | (intro _)
    | (extract_lets +onlyGivenNames x; apply Kept.let (x := x); rotate_left; intro hx; clear_value x; rotate_left; subst x)
    | apply Kept.ite | split | apply Sys.onTile_kept | apply Sys.pushReply_kept | apply Kept.modLead | exact rfl)
theorem Sys.regionReleaseDone_kept (s : Sys) (t n : Nat) (hs : s.Kept) : Sys.Kept (Sys.regionReleaseDone s t n) := by
  unfold Sys.regionReleaseDone
  with_reducible repeat' (first
    | assumption | (intro _)
    | (extract_lets +onlyGivenNames x; apply Kept.let (x := x); rotate_left; intro hx; clear_value x; rotate_left; subst x)
    | apply Kept.ite | split | apply Sys.onTile_kept | apply Sys.modTile_kept | apply Sys.dropShadow_kept
    | apply Sys.answerWaits_kept)
theorem Sys.runCodeLoad_kept (a0 : Sys) (a1 : Cmd) (ha0 : a0.Kept) : Sys.Kept (Sys.runCodeLoad a0 a1).2 := by
  unfold Sys.runCodeLoad
  with_reducible repeat' (first | assumption | split | apply Sys.askTile_kept | refine Kept.pair (by assumption) ?_)
theorem Sys.runWeightLoad_kept (a0 : Sys) (a1 : Cmd) (ha0 : a0.Kept) : Sys.Kept (Sys.runWeightLoad a0 a1).2 := by
  unfold Sys.runWeightLoad
  with_reducible repeat' (first
    | assumption | (intro _) | (extract_lets +onlyGivenNames x; clear_value x) | apply Kept.ite | apply Kept.ite2
    | split | apply Sys.askTile_kept | apply Kept.modLead | exact rfl)
theorem Sys.runWindowOpen_kept (a0 : Sys) (a1 : Cmd) (ha0 : a0.Kept) : Sys.Kept (Sys.runWindowOpen a0 a1).2 := by
  unfold Sys.runWindowOpen
  with_reducible repeat' (first
    | assumption | (intro _) | (extract_lets +onlyGivenNames x; clear_value x) | apply Kept.ite2 | split
    | apply Sys.setHub_kept | apply Sys.askTile_kept | apply Sys.onTile_kept | apply Kept.fold
    | refine Kept.pair (by assumption) ?_)
theorem Sys.runWindowClose_kept (h_ q : Nat) (a2 : Sys) (a3 : Cmd) (ha2 : a2.Kept)
    : Sys.Kept (Sys.runWindowClose h_ q a2 a3).2 := by
  unfold Sys.runWindowClose
  with_reducible repeat' (first
    | assumption | (intro _)
    | (extract_lets +onlyGivenNames x; apply Kept.let (x := x); rotate_left; intro hx; clear_value x; rotate_left; subst x)
    | (extract_lets +onlyGivenNames x; clear_value x) | (extract_lets +onlyGivenNames x; subst x) | apply Kept.ite
    | apply Kept.ite2 | apply Sys.modHub_kept | apply Sys.onTile_kept | apply Sys.addWait_kept
    | apply Sys.sendInvalidate_kept | apply Sys.egressClose_kept)
theorem Sys.invalAnswered_kept (s : Sys) (eid win gen t : Nat) (hs : s.Kept)
    : Sys.Kept (Sys.invalAnswered s eid win gen t) := by
  unfold Sys.invalAnswered
  with_reducible repeat' (first
    | assumption | (intro _)
    | (extract_lets +onlyGivenNames x; apply Kept.let (x := x); rotate_left; intro hx; clear_value x; rotate_left; subst x)
    | apply Kept.ite | split | apply Sys.invalDone_kept | apply Sys.egressClose_kept | apply Sys.onTile_kept
    | apply Sys.answerWaits_kept)
theorem Sys.invalidateAck_kept (s : Sys) (hs : s.Kept) : Sys.Kept (Sys.invalidateAck s) := by
  unfold Sys.invalidateAck
  with_reducible repeat' (first
    | assumption | split | apply Sys.takeMsg_kept | apply Sys.invalAnswered_kept
    | refine Kept.ofSomeP (by assumption) ?_)
theorem Sys.invalidateTimeout_kept (s : Sys) (t : Nat) (hs : s.Kept) : Sys.Kept (Sys.invalidateTimeout s t) := by
  unfold Sys.invalidateTimeout
  with_reducible repeat' (first | assumption | split | apply Sys.loseTile_kept | apply Sys.invalAnswered_kept)
theorem Sys.runMcast_kept (a0 : Sys) (a1 : Cmd) (ha0 : a0.Kept) : Sys.Kept (Sys.runMcast a0 a1).2 := by
  unfold Sys.runMcast
  with_reducible repeat' (first
    | assumption | (intro _)
    | (extract_lets +onlyGivenNames x; apply Kept.let (x := x); rotate_left; intro hx; clear_value x; rotate_left; subst x)
    | (extract_lets +onlyGivenNames x; clear_value x) | apply Kept.ite2 | split | apply Sys.mcClear_kept
    | apply Sys.setReplica_kept | apply Kept.fold | apply Kept.modLead | exact rfl)
theorem Sys.runRgroup_kept (a0 : Sys) (a1 : Cmd) (ha0 : a0.Kept) : Sys.Kept (Sys.runRgroup a0 a1).2 := by
  unfold Sys.runRgroup
  with_reducible repeat' (first
    | assumption | (intro _)
    | (extract_lets +onlyGivenNames x; apply Kept.let (x := x); rotate_left; intro hx; clear_value x; rotate_left; subst x)
    | (extract_lets +onlyGivenNames x; clear_value x) | apply Kept.ite2 | split | apply Sys.rgClear_kept
    | apply Sys.setReplica_kept | apply Kept.fold | apply Kept.modLead | exact rfl)
theorem Sys.runStreamOpen_kept (a0 : Sys) (a1 : Cmd) (ha0 : a0.Kept) : Sys.Kept (Sys.runStreamOpen a0 a1).2 := by
  unfold Sys.runStreamOpen
  with_reducible repeat' (first
    | assumption | (intro _) | (extract_lets +onlyGivenNames x; clear_value x) | apply Kept.ite2 | split
    | apply Sys.modHub_kept)
theorem Sys.runStreamClose_kept (a0 : Sys) (a1 : Cmd) (ha0 : a0.Kept) : Sys.Kept (Sys.runStreamClose a0 a1).2 := by
  unfold Sys.runStreamClose
  with_reducible repeat' (first
    | assumption | (extract_lets +onlyGivenNames x; clear_value x) | apply Sys.modHub_kept)
theorem Sys.runJobFeed_kept (a0 : Sys) (a1 : Cmd) (ha0 : a0.Kept) : Sys.Kept (Sys.runJobFeed a0 a1).2 := by
  unfold Sys.runJobFeed
  with_reducible repeat' (first
    | assumption | (intro _) | (extract_lets +onlyGivenNames x; clear_value x) | apply Kept.ite2
    | apply Sys.modHub_kept)
theorem Sys.runJobStart_kept (h_ q : Nat) (a2 : Sys) (a3 : Cmd) (ha2 : a2.Kept)
    : Sys.Kept (Sys.runJobStart h_ q a2 a3).2 := by
  unfold Sys.runJobStart
  with_reducible repeat' (first
    | assumption | (intro _)
    | (extract_lets +onlyGivenNames x; apply Kept.let (x := x); rotate_left; intro hx; clear_value x; rotate_left; subst x)
    | (extract_lets +onlyGivenNames x; clear_value x) | apply Kept.ite | apply Kept.ite2 | split
    | apply Sys.setJob_kept | apply Sys.modTile_kept | apply Sys.applyOpp_kept | apply Sys.pushReply_kept | apply Sys.writeSlot_kept
    | apply Sys.upJob_kept | apply Sys.writeStarts_kept | apply Sys.armJob_kept | apply Sys.jobCtrl_kept
    | apply Sys.askOpp_kept
    | apply Kept.fold | apply Kept.modLead | exact rfl | apply Kept.update)
theorem Sys.runStepCommit_kept (h_ q : Nat) (a2 : Sys) (a3 : Cmd) (ha2 : a2.Kept)
    : Sys.Kept (Sys.runStepCommit h_ q a2 a3).2 := by
  unfold Sys.runStepCommit
  with_reducible repeat' (first
    | assumption | (intro _)
    | (extract_lets +onlyGivenNames x; apply Kept.let (x := x); rotate_left; intro hx; clear_value x; rotate_left; subst x)
    | (extract_lets +onlyGivenNames x; have q a := Sys.Kept (x a).2; subst x)
    | (extract_lets +onlyGivenNames x; clear_value x) | apply Kept.ite2 | apply Sys.modJob_kept
    | apply Sys.addWait_kept | apply Sys.beginCommit_kept | apply Sys.commitSweepDone_kept)
theorem Sys.runStepReplay_kept (h_ q : Nat) (a2 : Sys) (a3 : Cmd) (ha2 : a2.Kept)
    : Sys.Kept (Sys.runStepReplay h_ q a2 a3).2 := by
  unfold Sys.runStepReplay
  with_reducible repeat' (first
    | assumption | (intro _)
    | (extract_lets +onlyGivenNames x; apply Kept.let (x := x); rotate_left; intro hx; clear_value x; rotate_left; subst x)
    | (extract_lets +onlyGivenNames x; clear_value x) | apply Kept.ite | apply Kept.ite2 | apply Sys.addWait_kept
    | apply Sys.laterJob_kept | apply Sys.beginReplay_kept)
theorem Sys.runJobStatus_kept (a0 : Sys) (a1 : Cmd) (ha0 : a0.Kept) : Sys.Kept (Sys.runJobStatus a0 a1).2 := by
  unfold Sys.runJobStatus
  with_reducible repeat' (first
    | assumption | (intro _) | (extract_lets +onlyGivenNames x; clear_value x) | apply Kept.ite
    | apply Sys.hostWrite_kept)
theorem Sys.runJobStop_kept (h_ q : Nat) (a2 : Sys) (a3 : Cmd) (ha2 : a2.Kept) : Sys.Kept (Sys.runJobStop h_ q a2 a3).2 := by
  unfold Sys.runJobStop
  with_reducible repeat' (first
    | assumption | (intro _)
    | (extract_lets +onlyGivenNames x; apply Kept.let (x := x); rotate_left; intro hx; clear_value x; rotate_left; subst x)
    | (extract_lets +onlyGivenNames x; clear_value x) | apply Kept.ite | apply Kept.ite2 | apply Sys.addWait_kept
    | apply Sys.modJob_kept | apply Sys.armJob_kept | apply Sys.stopJob_kept)
theorem Sys.runPhaseSet_kept (h_ q : Nat) (a2 : Sys) (a3 : Cmd) (ha2 : a2.Kept)
    : Sys.Kept (Sys.runPhaseSet h_ q a2 a3).2 := by
  unfold Sys.runPhaseSet
  with_reducible repeat' (first
    | assumption | (intro _)
    | (extract_lets +onlyGivenNames x; apply Kept.let (x := x); rotate_left; intro hx; clear_value x; rotate_left; subst x)
    | (extract_lets +onlyGivenNames x; clear_value x) | apply Kept.ite2 | apply Sys.modJob_kept
    | apply Sys.askOpp_kept | apply Sys.addWait_kept)
theorem Sys.idle_kept (s : Sys) (hs : s.Kept) : Sys.Kept (Sys.idle s) := by
  unfold Sys.idle
  with_reducible repeat' (first
    | assumption | (intro _)
    | (extract_lets +onlyGivenNames x; apply Kept.let (x := x); rotate_left; intro hx; clear_value x; rotate_left; subst x)
    | (extract_lets +onlyGivenNames x; clear_value x) | apply Kept.ite | apply Kept.ite2 | split
    | apply Sys.settleJobs_kept | apply Sys.settleOpps_kept | apply Sys.settleLater_kept | apply Sys.settlePower_kept
    | apply Sys.settleBoot_kept | apply Sys.settleResets_kept | apply Sys.settleSheds_kept
    | apply Sys.settleRestart_kept | refine Kept.pair (by assumption) ?_ | refine Kept.ofSomeP (by assumption) ?_
    | refine Kept.ofSome (by assumption) ?_ | apply Kept.fold | apply Kept.fold2 | apply Kept.modLead | apply Kept.some_
    | exact Kept.none_ | apply Kept.someP | exact Kept.noneP | apply Kept.update | exact rfl)
theorem Sys.takeEject_kept (s : Sys) (n : Nat) (f : Packet → Bool) (hs : s.Kept) : Kept.OptP (Sys.takeEject s n f) := by
  unfold Sys.takeEject
  with_reducible repeat' (first
    | assumption | (extract_lets +onlyGivenNames x; clear_value x) | split | apply Sys.setRouter_kept
    | exact Kept.noneP | apply Kept.map)
theorem Sys.atEndpoint_kept (s : Sys) (n : Nat) (kind : Packet → Bool) (f : TX → Packet → TX) (hs : s.Kept)
    : Sys.Kept (Sys.atEndpoint s n kind f) := by
  unfold Sys.atEndpoint
  with_reducible repeat' (first
    | assumption | (intro _) | apply Kept.ite | split | apply Sys.takeEject_kept | apply Sys.onTile_kept
    | apply Sys.hubPacket_kept | refine Kept.ofSomeP (by assumption) ?_)
theorem Sys.writeRow_kept (s : Sys) (n src : Nat) (hs : s.Kept) : Sys.Kept (Sys.writeRow s n src) := by
  unfold Sys.writeRow
  with_reducible repeat' (first
    | assumption | (intro _)
    | (extract_lets +onlyGivenNames x; apply Kept.let (x := x); rotate_left; intro hx; clear_value x; rotate_left; subst x)
    | (extract_lets +onlyGivenNames x; clear_value x) | apply Kept.ite | apply Kept.ite2 | split
    | apply Sys.atEndpoint_kept | apply Sys.setStraight_kept | apply Sys.onTile_kept | apply Sys.hubPacket_kept
    | refine Kept.pair (by assumption) ?_ | refine Kept.ofSomeP (by assumption) ?_
    | refine Kept.ofSome (by assumption) ?_ | apply Kept.fold | apply Kept.fold2 | apply Kept.modLead | apply Kept.some_
    | exact Kept.none_ | apply Kept.someP | exact Kept.noneP | apply Kept.update | exact rfl)
theorem Sys.shortWriteRow_kept (s : Sys) (n : Nat) (hs : s.Kept) : Sys.Kept (Sys.shortWriteRow s n) := by
  unfold Sys.shortWriteRow
  with_reducible repeat' (first | assumption | apply Sys.atEndpoint_kept)
theorem Sys.readReqRow_kept (s : Sys) (n : Nat) (hs : s.Kept) : Sys.Kept (Sys.readReqRow s n) := by
  unfold Sys.readReqRow
  with_reducible repeat' (first | assumption | apply Sys.atEndpoint_kept)
theorem Sys.readRespRow_kept (s : Sys) (n : Nat) (hs : s.Kept) : Sys.Kept (Sys.readRespRow s n) := by
  unfold Sys.readRespRow
  with_reducible repeat' (first | assumption | apply Sys.atEndpoint_kept)
theorem Sys.controlWriteRow_kept (s : Sys) (n : Nat) (hs : s.Kept) : Sys.Kept (Sys.controlWriteRow s n) := by
  unfold Sys.controlWriteRow
  with_reducible repeat' (first | assumption | apply Sys.atEndpoint_kept)
theorem Sys.ackRow_kept (s : Sys) (n : Nat) (hs : s.Kept) : Sys.Kept (Sys.ackRow s n) := by
  unfold Sys.ackRow
  with_reducible repeat' (first | assumption | apply Sys.copiesDone_kept | apply Sys.atEndpoint_kept)
theorem Sys.nackRow_kept (s : Sys) (n : Nat) (hs : s.Kept) : Sys.Kept (Sys.nackRow s n) := by
  unfold Sys.nackRow
  with_reducible repeat' (first | assumption | apply Sys.atEndpoint_kept)
theorem Sys.onSlot_kept (s : Sys) (t k : Nat) (f : TX → TX) (hs : s.Kept) : Sys.Kept (Sys.onSlot s t k f) := by
  unfold Sys.onSlot
  with_reducible repeat' (first | assumption | (intro _) | apply Kept.ite | apply Sys.onTile_kept)
theorem Sys.onPowered_kept (s : Sys) (t : Nat) (f : TX → TX) (hs : s.Kept) : Sys.Kept (Sys.onPowered s t f) := by
  unfold Sys.onPowered
  with_reducible repeat' (first | assumption | (intro _) | apply Kept.ite | apply Sys.onTile_kept)
theorem Sys.coreRequest_kept (s : Sys) (t k : Nat) (msg : Bool) (code : Nat) (f : TX → Nat → TX) (hs : s.Kept)
    : Sys.Kept (Sys.coreRequest s t k msg code f) := by
  unfold Sys.coreRequest
  with_reducible repeat' (first
    | assumption | (intro _) | apply Kept.ite | apply Sys.ctrlMsg_kept | apply Sys.onSlot_kept)
theorem Sys.scalarRow_kept (s : Sys) (t k cc w : Nat) (hs : s.Kept) : Sys.Kept (Sys.scalarRow s t k cc w) := by
  unfold Sys.scalarRow
  with_reducible repeat' (first | assumption | apply Sys.onSlot_kept)
theorem Sys.narrowRowAt_kept (s : Sys) (t k cc rs1 imm w : Nat) (hs : s.Kept)
    : Sys.Kept (Sys.narrowRowAt s t k cc rs1 imm w) := by
  unfold Sys.narrowRowAt
  with_reducible repeat' (first | assumption | apply Sys.onSlot_kept)
theorem Sys.pcieConfWrite_kept (s : Sys) (h_ off v : Nat) (hs : s.Kept) : Sys.Kept (Sys.pcieConfWrite s h_ off v) := by
  unfold Sys.pcieConfWrite
  with_reducible repeat' (first
    | assumption | (intro _)
    | (extract_lets +onlyGivenNames x; apply Kept.let (x := x); rotate_left; intro hx; clear_value x; rotate_left; subst x)
    | (extract_lets +onlyGivenNames x; clear_value x) | apply Kept.ite | apply Sys.modHub_kept
    | apply Sys.busMasterClear_kept | apply Sys.msixUnmask_kept | apply Kept.fold)
theorem Sys.readClear_kept (s : Sys) (space unit_ off : Nat) (hs : s.Kept) : Sys.Kept (Sys.readClear s space unit_ off) := by
  unfold Sys.readClear
  with_reducible repeat' (first
    | assumption | (intro _)
    | (extract_lets +onlyGivenNames x; apply Kept.let (x := x); rotate_left; intro hx; clear_value x; rotate_left; subst x)
    | (extract_lets +onlyGivenNames x; clear_value x) | apply Kept.ite | apply Sys.onTile_kept
    | apply Sys.hubReadEffect_kept | apply Sys.modEngine_kept | apply Kept.update)
theorem Sys.registerWrite_kept (s : Sys) (space unit_ off v : Nat) (hs : s.Kept)
    : Sys.Kept (Sys.registerWrite s space unit_ off v) := by
  unfold Sys.registerWrite
  with_reducible repeat' (first
    | assumption | (intro _) | apply Kept.ite | apply Sys.onTile_kept | apply Sys.hubRegWrite_kept
    | apply Sys.engineWrite_kept | apply Sys.pcieConfWrite_kept)
theorem Sys.doorbellHi_kept (s : Sys) (t k : Nat) (hs : s.Kept) : Sys.Kept (Sys.doorbellHi s t k) := by
  unfold Sys.doorbellHi
  with_reducible repeat' (first | assumption | (intro _) | apply Kept.ite | apply Sys.readClear_kept)
theorem Sys.debugAccess_kept (s : Sys) (h_ kind a b v : Nat) (hs : s.Kept) : Sys.Kept (Sys.debugAccess s h_ kind a b v) := by
  unfold Sys.debugAccess
  with_reducible repeat' (first
    | assumption | (intro _) | apply Kept.ite | apply Sys.modBootHub_kept | apply Sys.onSlot_kept
    | apply Sys.modHub_kept | apply Sys.readClear_kept | apply Sys.registerWrite_kept | apply Kept.update)
theorem Sys.hostSets_kept (s : Sys) (mem : List (Nat × Nat × Nat)) (bad : List (Nat × Nat)) (hs : s.Kept)
    : Sys.Kept (Sys.hostSets s mem bad) := by
  unfold Sys.hostSets
  with_reducible repeat' (first
    | assumption | (intro _) | apply Sys.hostWrite_kept | apply Kept.fold | apply Kept.update)
theorem Sys.replyRow_kept (s : Sys) (h_ q : Nat) (hs : s.Kept) : Sys.Kept (Sys.replyRow s h_ q) := by
  unfold Sys.replyRow
  with_reducible repeat' (first
    | assumption | (intro _)
    | (extract_lets +onlyGivenNames x; apply Kept.let (x := x); rotate_left; intro hx; clear_value x; rotate_left; subst x)
    | apply Kept.ite | apply Sys.replyWrite_kept | apply Sys.restart_kept)
theorem Sys.groupCommand_kept (s : Sys) (h_ q op : Nat) (bad : Sys → Cmd → List (Nat × Nat))
    (run : Sys → Cmd → Option Reply × Sys) (hs : s.Kept) (hrun : ∀ u0 u1, Sys.Kept u0 → Sys.Kept (run u0 u1).2) : Sys.Kept (Sys.groupCommand s h_ q op bad run) := by
  unfold Sys.groupCommand
  with_reducible repeat' (first | assumption | (intro _) | apply Kept.ite | split | apply Sys.command_kept)
theorem Sys.hostWord_kept (s : Sys) (h_ bar off v : Nat) (hs : s.Kept) : Sys.Kept (Sys.hostWord s h_ bar off v) := by
  unfold Sys.hostWord
  with_reducible repeat' (first | assumption | apply Sys.barAccess_kept)
theorem Sys.pldmOther_kept (s : Sys) (code : Nat) (hs : s.Kept) : Sys.Kept (Sys.pldmOther s code) := by
  unfold Sys.pldmOther
  with_reducible repeat' (first | assumption | (intro _) | apply Kept.ite | apply Sys.pldmUnsupported_kept)

end Sys2Proof.Machine
end

