-- ==== Sys2Proof/Laws/State.lean ====
section
/-! SUPPORT. Laws of the state: what each update of a part changes and leaves, what a row of the command table does to the
state around its effect, and what a tile command changes outside its tile. -/

namespace Sys2Proof.Machine

@[simp] theorem Sys.setTile_now (s : Sys) (t : Nat) (v : Tile) : (s.setTile t v).now = s.now := rfl
@[simp] theorem Sys.setTile_fresh (s : Sys) (t : Nat) (v : Tile) : (s.setTile t v).fresh = s.fresh := rfl
@[simp] theorem Sys.setTile_replicas (s : Sys) (t : Nat) (v : Tile) : (s.setTile t v).replicas = s.replicas := rfl
@[simp] theorem Sys.setTile_mesh (s : Sys) (t : Nat) (v : Tile) : (s.setTile t v).mesh = s.mesh := rfl
@[simp] theorem Sys.setTile_straights (s : Sys) (t : Nat) (v : Tile) : (s.setTile t v).straights = s.straights := rfl
@[simp] theorem Sys.setTile_tads (s : Sys) (t : Nat) (v : Tile) : (s.setTile t v).tads = s.tads := rfl
@[simp] theorem Sys.setTile_links (s : Sys) (t : Nat) (v : Tile) : (s.setTile t v).links = s.links := rfl
@[simp] theorem Sys.setTile_hubs (s : Sys) (t : Nat) (v : Tile) : (s.setTile t v).hubs = s.hubs := rfl
@[simp] theorem Sys.setTile_engines (s : Sys) (t : Nat) (v : Tile) : (s.setTile t v).engines = s.engines := rfl
@[simp] theorem Sys.setTile_lead (s : Sys) (t : Nat) (v : Tile) : (s.setTile t v).lead = s.lead := rfl
@[simp] theorem Sys.setTile_power (s : Sys) (t : Nat) (v : Tile) : (s.setTile t v).power = s.power := rfl
@[simp] theorem Sys.setTile_cool (s : Sys) (t : Nat) (v : Tile) : (s.setTile t v).cool = s.cool := rfl
@[simp] theorem Sys.setTile_health (s : Sys) (t : Nat) (v : Tile) : (s.setTile t v).health = s.health := rfl
@[simp] theorem Sys.setTile_boot (s : Sys) (t : Nat) (v : Tile) : (s.setTile t v).boot = s.boot := rfl
@[simp] theorem Sys.setTile_host (s : Sys) (t : Nat) (v : Tile) : (s.setTile t v).host = s.host := rfl
@[simp] theorem Sys.setTile_hostBad (s : Sys) (t : Nat) (v : Tile) : (s.setTile t v).hostBad = s.hostBad := rfl
@[simp] theorem Sys.setTile_answer (s : Sys) (t : Nat) (v : Tile) : (s.setTile t v).answer = s.answer := rfl
@[simp] theorem Sys.setTile_irqs (s : Sys) (t : Nat) (v : Tile) : (s.setTile t v).irqs = s.irqs := rfl
@[simp] theorem Sys.router_setTile (s : Sys) (t : Nat) (v : Tile) (i : Nat) : (s.setTile t v).router i = s.router i := rfl
@[simp] theorem Sys.straight_setTile (s : Sys) (t : Nat) (v : Tile) (i : Nat) : (s.setTile t v).straight i = s.straight i := rfl
@[simp] theorem Sys.tad_setTile (s : Sys) (t : Nat) (v : Tile) (i : Nat) : (s.setTile t v).tad i = s.tad i := rfl
@[simp] theorem Sys.replica_setTile (s : Sys) (t : Nat) (v : Tile) (i : Nat) : (s.setTile t v).replica i = s.replica i := rfl
@[simp] theorem Sys.hub_setTile (s : Sys) (t : Nat) (v : Tile) (i : Nat) : (s.setTile t v).hub i = s.hub i := rfl
@[simp] theorem Sys.engine_setTile (s : Sys) (t : Nat) (v : Tile) (i : Nat) : (s.setTile t v).engine i = s.engine i := rfl
@[simp] theorem Sys.tile_setTile_same (s : Sys) (t : Nat) (v : Tile) : (s.setTile t v).tile t = v := by simp [Sys.tile, Sys.setTile]
theorem Sys.tile_setTile_other (s : Sys) (t : Nat) (v : Tile) (i : Nat) (hne : i ≠ t) : (s.setTile t v).tile i = s.tile i := by
  simp [Sys.tile, Sys.setTile, NMap.get_put_other, hne]
@[simp] theorem Sys.setTile_setTile (s : Sys) (t : Nat) (v : Tile) (w : Tile) : (s.setTile t v).setTile t w = s.setTile t w := by simp [Sys.setTile]
@[simp] theorem Sys.setRouter_now (s : Sys) (n : Nat) (v : Router) : (s.setRouter n v).now = s.now := rfl
@[simp] theorem Sys.setRouter_fresh (s : Sys) (n : Nat) (v : Router) : (s.setRouter n v).fresh = s.fresh := rfl
@[simp] theorem Sys.setRouter_tiles (s : Sys) (n : Nat) (v : Router) : (s.setRouter n v).tiles = s.tiles := rfl
@[simp] theorem Sys.setRouter_replicas (s : Sys) (n : Nat) (v : Router) : (s.setRouter n v).replicas = s.replicas := rfl
@[simp] theorem Sys.setRouter_straights (s : Sys) (n : Nat) (v : Router) : (s.setRouter n v).straights = s.straights := rfl
@[simp] theorem Sys.setRouter_tads (s : Sys) (n : Nat) (v : Router) : (s.setRouter n v).tads = s.tads := rfl
@[simp] theorem Sys.setRouter_links (s : Sys) (n : Nat) (v : Router) : (s.setRouter n v).links = s.links := rfl
@[simp] theorem Sys.setRouter_hubs (s : Sys) (n : Nat) (v : Router) : (s.setRouter n v).hubs = s.hubs := rfl
@[simp] theorem Sys.setRouter_engines (s : Sys) (n : Nat) (v : Router) : (s.setRouter n v).engines = s.engines := rfl
@[simp] theorem Sys.setRouter_lead (s : Sys) (n : Nat) (v : Router) : (s.setRouter n v).lead = s.lead := rfl
@[simp] theorem Sys.setRouter_power (s : Sys) (n : Nat) (v : Router) : (s.setRouter n v).power = s.power := rfl
@[simp] theorem Sys.setRouter_cool (s : Sys) (n : Nat) (v : Router) : (s.setRouter n v).cool = s.cool := rfl
@[simp] theorem Sys.setRouter_health (s : Sys) (n : Nat) (v : Router) : (s.setRouter n v).health = s.health := rfl
@[simp] theorem Sys.setRouter_boot (s : Sys) (n : Nat) (v : Router) : (s.setRouter n v).boot = s.boot := rfl
@[simp] theorem Sys.setRouter_host (s : Sys) (n : Nat) (v : Router) : (s.setRouter n v).host = s.host := rfl
@[simp] theorem Sys.setRouter_hostBad (s : Sys) (n : Nat) (v : Router) : (s.setRouter n v).hostBad = s.hostBad := rfl
@[simp] theorem Sys.setRouter_answer (s : Sys) (n : Nat) (v : Router) : (s.setRouter n v).answer = s.answer := rfl
@[simp] theorem Sys.setRouter_irqs (s : Sys) (n : Nat) (v : Router) : (s.setRouter n v).irqs = s.irqs := rfl
@[simp] theorem Sys.tile_setRouter (s : Sys) (n : Nat) (v : Router) (i : Nat) : (s.setRouter n v).tile i = s.tile i := rfl
@[simp] theorem Sys.straight_setRouter (s : Sys) (n : Nat) (v : Router) (i : Nat) : (s.setRouter n v).straight i = s.straight i := rfl
@[simp] theorem Sys.tad_setRouter (s : Sys) (n : Nat) (v : Router) (i : Nat) : (s.setRouter n v).tad i = s.tad i := rfl
@[simp] theorem Sys.replica_setRouter (s : Sys) (n : Nat) (v : Router) (i : Nat) : (s.setRouter n v).replica i = s.replica i := rfl
@[simp] theorem Sys.hub_setRouter (s : Sys) (n : Nat) (v : Router) (i : Nat) : (s.setRouter n v).hub i = s.hub i := rfl
@[simp] theorem Sys.engine_setRouter (s : Sys) (n : Nat) (v : Router) (i : Nat) : (s.setRouter n v).engine i = s.engine i := rfl
@[simp] theorem Sys.router_setRouter_same (s : Sys) (n : Nat) (v : Router) : (s.setRouter n v).router n = v := by simp [Sys.router, Sys.setRouter]
theorem Sys.router_setRouter_other (s : Sys) (n : Nat) (v : Router) (i : Nat) (hne : i ≠ n) : (s.setRouter n v).router i = s.router i := by
  simp [Sys.router, Sys.setRouter, NMap.get_put_other, hne]
@[simp] theorem Sys.setRouter_setRouter (s : Sys) (n : Nat) (v : Router) (w : Router) : (s.setRouter n v).setRouter n w = s.setRouter n w := by simp [Sys.setRouter]
@[simp] theorem Sys.setStraight_now (s : Sys) (n : Nat) (v : Straight) : (s.setStraight n v).now = s.now := rfl
@[simp] theorem Sys.setStraight_fresh (s : Sys) (n : Nat) (v : Straight) : (s.setStraight n v).fresh = s.fresh := rfl
@[simp] theorem Sys.setStraight_tiles (s : Sys) (n : Nat) (v : Straight) : (s.setStraight n v).tiles = s.tiles := rfl
@[simp] theorem Sys.setStraight_replicas (s : Sys) (n : Nat) (v : Straight) : (s.setStraight n v).replicas = s.replicas := rfl
@[simp] theorem Sys.setStraight_mesh (s : Sys) (n : Nat) (v : Straight) : (s.setStraight n v).mesh = s.mesh := rfl
@[simp] theorem Sys.setStraight_tads (s : Sys) (n : Nat) (v : Straight) : (s.setStraight n v).tads = s.tads := rfl
@[simp] theorem Sys.setStraight_links (s : Sys) (n : Nat) (v : Straight) : (s.setStraight n v).links = s.links := rfl
@[simp] theorem Sys.setStraight_hubs (s : Sys) (n : Nat) (v : Straight) : (s.setStraight n v).hubs = s.hubs := rfl
@[simp] theorem Sys.setStraight_engines (s : Sys) (n : Nat) (v : Straight) : (s.setStraight n v).engines = s.engines := rfl
@[simp] theorem Sys.setStraight_lead (s : Sys) (n : Nat) (v : Straight) : (s.setStraight n v).lead = s.lead := rfl
@[simp] theorem Sys.setStraight_power (s : Sys) (n : Nat) (v : Straight) : (s.setStraight n v).power = s.power := rfl
@[simp] theorem Sys.setStraight_cool (s : Sys) (n : Nat) (v : Straight) : (s.setStraight n v).cool = s.cool := rfl
@[simp] theorem Sys.setStraight_health (s : Sys) (n : Nat) (v : Straight) : (s.setStraight n v).health = s.health := rfl
@[simp] theorem Sys.setStraight_boot (s : Sys) (n : Nat) (v : Straight) : (s.setStraight n v).boot = s.boot := rfl
@[simp] theorem Sys.setStraight_host (s : Sys) (n : Nat) (v : Straight) : (s.setStraight n v).host = s.host := rfl
@[simp] theorem Sys.setStraight_hostBad (s : Sys) (n : Nat) (v : Straight) : (s.setStraight n v).hostBad = s.hostBad := rfl
@[simp] theorem Sys.setStraight_answer (s : Sys) (n : Nat) (v : Straight) : (s.setStraight n v).answer = s.answer := rfl
@[simp] theorem Sys.setStraight_irqs (s : Sys) (n : Nat) (v : Straight) : (s.setStraight n v).irqs = s.irqs := rfl
@[simp] theorem Sys.tile_setStraight (s : Sys) (n : Nat) (v : Straight) (i : Nat) : (s.setStraight n v).tile i = s.tile i := rfl
@[simp] theorem Sys.router_setStraight (s : Sys) (n : Nat) (v : Straight) (i : Nat) : (s.setStraight n v).router i = s.router i := rfl
@[simp] theorem Sys.tad_setStraight (s : Sys) (n : Nat) (v : Straight) (i : Nat) : (s.setStraight n v).tad i = s.tad i := rfl
@[simp] theorem Sys.replica_setStraight (s : Sys) (n : Nat) (v : Straight) (i : Nat) : (s.setStraight n v).replica i = s.replica i := rfl
@[simp] theorem Sys.hub_setStraight (s : Sys) (n : Nat) (v : Straight) (i : Nat) : (s.setStraight n v).hub i = s.hub i := rfl
@[simp] theorem Sys.engine_setStraight (s : Sys) (n : Nat) (v : Straight) (i : Nat) : (s.setStraight n v).engine i = s.engine i := rfl
@[simp] theorem Sys.straight_setStraight_same (s : Sys) (n : Nat) (v : Straight) : (s.setStraight n v).straight n = v := by simp [Sys.straight, Sys.setStraight]
theorem Sys.straight_setStraight_other (s : Sys) (n : Nat) (v : Straight) (i : Nat) (hne : i ≠ n) : (s.setStraight n v).straight i = s.straight i := by
  simp [Sys.straight, Sys.setStraight, NMap.get_put_other, hne]
@[simp] theorem Sys.setStraight_setStraight (s : Sys) (n : Nat) (v : Straight) (w : Straight) : (s.setStraight n v).setStraight n w = s.setStraight n w := by simp [Sys.setStraight]
@[simp] theorem Sys.setTad_now (s : Sys) (n : Nat) (v : TRouter) : (s.setTad n v).now = s.now := rfl
@[simp] theorem Sys.setTad_fresh (s : Sys) (n : Nat) (v : TRouter) : (s.setTad n v).fresh = s.fresh := rfl
@[simp] theorem Sys.setTad_tiles (s : Sys) (n : Nat) (v : TRouter) : (s.setTad n v).tiles = s.tiles := rfl
@[simp] theorem Sys.setTad_replicas (s : Sys) (n : Nat) (v : TRouter) : (s.setTad n v).replicas = s.replicas := rfl
@[simp] theorem Sys.setTad_mesh (s : Sys) (n : Nat) (v : TRouter) : (s.setTad n v).mesh = s.mesh := rfl
@[simp] theorem Sys.setTad_straights (s : Sys) (n : Nat) (v : TRouter) : (s.setTad n v).straights = s.straights := rfl
@[simp] theorem Sys.setTad_links (s : Sys) (n : Nat) (v : TRouter) : (s.setTad n v).links = s.links := rfl
@[simp] theorem Sys.setTad_hubs (s : Sys) (n : Nat) (v : TRouter) : (s.setTad n v).hubs = s.hubs := rfl
@[simp] theorem Sys.setTad_engines (s : Sys) (n : Nat) (v : TRouter) : (s.setTad n v).engines = s.engines := rfl
@[simp] theorem Sys.setTad_lead (s : Sys) (n : Nat) (v : TRouter) : (s.setTad n v).lead = s.lead := rfl
@[simp] theorem Sys.setTad_power (s : Sys) (n : Nat) (v : TRouter) : (s.setTad n v).power = s.power := rfl
@[simp] theorem Sys.setTad_cool (s : Sys) (n : Nat) (v : TRouter) : (s.setTad n v).cool = s.cool := rfl
@[simp] theorem Sys.setTad_health (s : Sys) (n : Nat) (v : TRouter) : (s.setTad n v).health = s.health := rfl
@[simp] theorem Sys.setTad_boot (s : Sys) (n : Nat) (v : TRouter) : (s.setTad n v).boot = s.boot := rfl
@[simp] theorem Sys.setTad_host (s : Sys) (n : Nat) (v : TRouter) : (s.setTad n v).host = s.host := rfl
@[simp] theorem Sys.setTad_hostBad (s : Sys) (n : Nat) (v : TRouter) : (s.setTad n v).hostBad = s.hostBad := rfl
@[simp] theorem Sys.setTad_answer (s : Sys) (n : Nat) (v : TRouter) : (s.setTad n v).answer = s.answer := rfl
@[simp] theorem Sys.setTad_irqs (s : Sys) (n : Nat) (v : TRouter) : (s.setTad n v).irqs = s.irqs := rfl
@[simp] theorem Sys.tile_setTad (s : Sys) (n : Nat) (v : TRouter) (i : Nat) : (s.setTad n v).tile i = s.tile i := rfl
@[simp] theorem Sys.router_setTad (s : Sys) (n : Nat) (v : TRouter) (i : Nat) : (s.setTad n v).router i = s.router i := rfl
@[simp] theorem Sys.straight_setTad (s : Sys) (n : Nat) (v : TRouter) (i : Nat) : (s.setTad n v).straight i = s.straight i := rfl
@[simp] theorem Sys.replica_setTad (s : Sys) (n : Nat) (v : TRouter) (i : Nat) : (s.setTad n v).replica i = s.replica i := rfl
@[simp] theorem Sys.hub_setTad (s : Sys) (n : Nat) (v : TRouter) (i : Nat) : (s.setTad n v).hub i = s.hub i := rfl
@[simp] theorem Sys.engine_setTad (s : Sys) (n : Nat) (v : TRouter) (i : Nat) : (s.setTad n v).engine i = s.engine i := rfl
@[simp] theorem Sys.tad_setTad_same (s : Sys) (n : Nat) (v : TRouter) : (s.setTad n v).tad n = v := by simp [Sys.tad, Sys.setTad]
theorem Sys.tad_setTad_other (s : Sys) (n : Nat) (v : TRouter) (i : Nat) (hne : i ≠ n) : (s.setTad n v).tad i = s.tad i := by
  simp [Sys.tad, Sys.setTad, NMap.get_put_other, hne]
@[simp] theorem Sys.setTad_setTad (s : Sys) (n : Nat) (v : TRouter) (w : TRouter) : (s.setTad n v).setTad n w = s.setTad n w := by simp [Sys.setTad]
@[simp] theorem Sys.setReplica_now (s : Sys) (n : Nat) (v : Replica) : (s.setReplica n v).now = s.now := rfl
@[simp] theorem Sys.setReplica_fresh (s : Sys) (n : Nat) (v : Replica) : (s.setReplica n v).fresh = s.fresh := rfl
@[simp] theorem Sys.setReplica_tiles (s : Sys) (n : Nat) (v : Replica) : (s.setReplica n v).tiles = s.tiles := rfl
@[simp] theorem Sys.setReplica_mesh (s : Sys) (n : Nat) (v : Replica) : (s.setReplica n v).mesh = s.mesh := rfl
@[simp] theorem Sys.setReplica_straights (s : Sys) (n : Nat) (v : Replica) : (s.setReplica n v).straights = s.straights := rfl
@[simp] theorem Sys.setReplica_tads (s : Sys) (n : Nat) (v : Replica) : (s.setReplica n v).tads = s.tads := rfl
@[simp] theorem Sys.setReplica_links (s : Sys) (n : Nat) (v : Replica) : (s.setReplica n v).links = s.links := rfl
@[simp] theorem Sys.setReplica_hubs (s : Sys) (n : Nat) (v : Replica) : (s.setReplica n v).hubs = s.hubs := rfl
@[simp] theorem Sys.setReplica_engines (s : Sys) (n : Nat) (v : Replica) : (s.setReplica n v).engines = s.engines := rfl
@[simp] theorem Sys.setReplica_lead (s : Sys) (n : Nat) (v : Replica) : (s.setReplica n v).lead = s.lead := rfl
@[simp] theorem Sys.setReplica_power (s : Sys) (n : Nat) (v : Replica) : (s.setReplica n v).power = s.power := rfl
@[simp] theorem Sys.setReplica_cool (s : Sys) (n : Nat) (v : Replica) : (s.setReplica n v).cool = s.cool := rfl
@[simp] theorem Sys.setReplica_health (s : Sys) (n : Nat) (v : Replica) : (s.setReplica n v).health = s.health := rfl
@[simp] theorem Sys.setReplica_boot (s : Sys) (n : Nat) (v : Replica) : (s.setReplica n v).boot = s.boot := rfl
@[simp] theorem Sys.setReplica_host (s : Sys) (n : Nat) (v : Replica) : (s.setReplica n v).host = s.host := rfl
@[simp] theorem Sys.setReplica_hostBad (s : Sys) (n : Nat) (v : Replica) : (s.setReplica n v).hostBad = s.hostBad := rfl
@[simp] theorem Sys.setReplica_answer (s : Sys) (n : Nat) (v : Replica) : (s.setReplica n v).answer = s.answer := rfl
@[simp] theorem Sys.setReplica_irqs (s : Sys) (n : Nat) (v : Replica) : (s.setReplica n v).irqs = s.irqs := rfl
@[simp] theorem Sys.tile_setReplica (s : Sys) (n : Nat) (v : Replica) (i : Nat) : (s.setReplica n v).tile i = s.tile i := rfl
@[simp] theorem Sys.router_setReplica (s : Sys) (n : Nat) (v : Replica) (i : Nat) : (s.setReplica n v).router i = s.router i := rfl
@[simp] theorem Sys.straight_setReplica (s : Sys) (n : Nat) (v : Replica) (i : Nat) : (s.setReplica n v).straight i = s.straight i := rfl
@[simp] theorem Sys.tad_setReplica (s : Sys) (n : Nat) (v : Replica) (i : Nat) : (s.setReplica n v).tad i = s.tad i := rfl
@[simp] theorem Sys.hub_setReplica (s : Sys) (n : Nat) (v : Replica) (i : Nat) : (s.setReplica n v).hub i = s.hub i := rfl
@[simp] theorem Sys.engine_setReplica (s : Sys) (n : Nat) (v : Replica) (i : Nat) : (s.setReplica n v).engine i = s.engine i := rfl
@[simp] theorem Sys.replica_setReplica_same (s : Sys) (n : Nat) (v : Replica) : (s.setReplica n v).replica n = v := by simp [Sys.replica, Sys.setReplica]
theorem Sys.replica_setReplica_other (s : Sys) (n : Nat) (v : Replica) (i : Nat) (hne : i ≠ n) : (s.setReplica n v).replica i = s.replica i := by
  simp [Sys.replica, Sys.setReplica, NMap.get_put_other, hne]
@[simp] theorem Sys.setReplica_setReplica (s : Sys) (n : Nat) (v : Replica) (w : Replica) : (s.setReplica n v).setReplica n w = s.setReplica n w := by simp [Sys.setReplica]
@[simp] theorem Sys.setHub_now (s : Sys) (h : Nat) (v : Hub) : (s.setHub h v).now = s.now := rfl
@[simp] theorem Sys.setHub_fresh (s : Sys) (h : Nat) (v : Hub) : (s.setHub h v).fresh = s.fresh := rfl
@[simp] theorem Sys.setHub_tiles (s : Sys) (h : Nat) (v : Hub) : (s.setHub h v).tiles = s.tiles := rfl
@[simp] theorem Sys.setHub_replicas (s : Sys) (h : Nat) (v : Hub) : (s.setHub h v).replicas = s.replicas := rfl
@[simp] theorem Sys.setHub_mesh (s : Sys) (h : Nat) (v : Hub) : (s.setHub h v).mesh = s.mesh := rfl
@[simp] theorem Sys.setHub_straights (s : Sys) (h : Nat) (v : Hub) : (s.setHub h v).straights = s.straights := rfl
@[simp] theorem Sys.setHub_tads (s : Sys) (h : Nat) (v : Hub) : (s.setHub h v).tads = s.tads := rfl
@[simp] theorem Sys.setHub_links (s : Sys) (h : Nat) (v : Hub) : (s.setHub h v).links = s.links := rfl
@[simp] theorem Sys.setHub_engines (s : Sys) (h : Nat) (v : Hub) : (s.setHub h v).engines = s.engines := rfl
@[simp] theorem Sys.setHub_lead (s : Sys) (h : Nat) (v : Hub) : (s.setHub h v).lead = s.lead := rfl
@[simp] theorem Sys.setHub_power (s : Sys) (h : Nat) (v : Hub) : (s.setHub h v).power = s.power := rfl
@[simp] theorem Sys.setHub_cool (s : Sys) (h : Nat) (v : Hub) : (s.setHub h v).cool = s.cool := rfl
@[simp] theorem Sys.setHub_health (s : Sys) (h : Nat) (v : Hub) : (s.setHub h v).health = s.health := rfl
@[simp] theorem Sys.setHub_boot (s : Sys) (h : Nat) (v : Hub) : (s.setHub h v).boot = s.boot := rfl
@[simp] theorem Sys.setHub_host (s : Sys) (h : Nat) (v : Hub) : (s.setHub h v).host = s.host := rfl
@[simp] theorem Sys.setHub_hostBad (s : Sys) (h : Nat) (v : Hub) : (s.setHub h v).hostBad = s.hostBad := rfl
@[simp] theorem Sys.setHub_answer (s : Sys) (h : Nat) (v : Hub) : (s.setHub h v).answer = s.answer := rfl
@[simp] theorem Sys.setHub_irqs (s : Sys) (h : Nat) (v : Hub) : (s.setHub h v).irqs = s.irqs := rfl
@[simp] theorem Sys.tile_setHub (s : Sys) (h : Nat) (v : Hub) (i : Nat) : (s.setHub h v).tile i = s.tile i := rfl
@[simp] theorem Sys.router_setHub (s : Sys) (h : Nat) (v : Hub) (i : Nat) : (s.setHub h v).router i = s.router i := rfl
@[simp] theorem Sys.straight_setHub (s : Sys) (h : Nat) (v : Hub) (i : Nat) : (s.setHub h v).straight i = s.straight i := rfl
@[simp] theorem Sys.tad_setHub (s : Sys) (h : Nat) (v : Hub) (i : Nat) : (s.setHub h v).tad i = s.tad i := rfl
@[simp] theorem Sys.replica_setHub (s : Sys) (h : Nat) (v : Hub) (i : Nat) : (s.setHub h v).replica i = s.replica i := rfl
@[simp] theorem Sys.engine_setHub (s : Sys) (h : Nat) (v : Hub) (i : Nat) : (s.setHub h v).engine i = s.engine i := rfl
@[simp] theorem Sys.hub_setHub_same (s : Sys) (h : Nat) (v : Hub) : (s.setHub h v).hub h = v := by simp [Sys.hub, Sys.setHub]
theorem Sys.hub_setHub_other (s : Sys) (h : Nat) (v : Hub) (i : Nat) (hne : i ≠ h) : (s.setHub h v).hub i = s.hub i := by
  simp [Sys.hub, Sys.setHub, NMap.get_put_other, hne]
@[simp] theorem Sys.setHub_setHub (s : Sys) (h : Nat) (v : Hub) (w : Hub) : (s.setHub h v).setHub h w = s.setHub h w := by simp [Sys.setHub]
@[simp] theorem Sys.setEngine_now (s : Sys) (e : Nat) (v : Engine) : (s.setEngine e v).now = s.now := rfl
@[simp] theorem Sys.setEngine_fresh (s : Sys) (e : Nat) (v : Engine) : (s.setEngine e v).fresh = s.fresh := rfl
@[simp] theorem Sys.setEngine_tiles (s : Sys) (e : Nat) (v : Engine) : (s.setEngine e v).tiles = s.tiles := rfl
@[simp] theorem Sys.setEngine_replicas (s : Sys) (e : Nat) (v : Engine) : (s.setEngine e v).replicas = s.replicas := rfl
@[simp] theorem Sys.setEngine_mesh (s : Sys) (e : Nat) (v : Engine) : (s.setEngine e v).mesh = s.mesh := rfl
@[simp] theorem Sys.setEngine_straights (s : Sys) (e : Nat) (v : Engine) : (s.setEngine e v).straights = s.straights := rfl
@[simp] theorem Sys.setEngine_tads (s : Sys) (e : Nat) (v : Engine) : (s.setEngine e v).tads = s.tads := rfl
@[simp] theorem Sys.setEngine_links (s : Sys) (e : Nat) (v : Engine) : (s.setEngine e v).links = s.links := rfl
@[simp] theorem Sys.setEngine_hubs (s : Sys) (e : Nat) (v : Engine) : (s.setEngine e v).hubs = s.hubs := rfl
@[simp] theorem Sys.setEngine_lead (s : Sys) (e : Nat) (v : Engine) : (s.setEngine e v).lead = s.lead := rfl
@[simp] theorem Sys.setEngine_power (s : Sys) (e : Nat) (v : Engine) : (s.setEngine e v).power = s.power := rfl
@[simp] theorem Sys.setEngine_cool (s : Sys) (e : Nat) (v : Engine) : (s.setEngine e v).cool = s.cool := rfl
@[simp] theorem Sys.setEngine_health (s : Sys) (e : Nat) (v : Engine) : (s.setEngine e v).health = s.health := rfl
@[simp] theorem Sys.setEngine_boot (s : Sys) (e : Nat) (v : Engine) : (s.setEngine e v).boot = s.boot := rfl
@[simp] theorem Sys.setEngine_host (s : Sys) (e : Nat) (v : Engine) : (s.setEngine e v).host = s.host := rfl
@[simp] theorem Sys.setEngine_hostBad (s : Sys) (e : Nat) (v : Engine) : (s.setEngine e v).hostBad = s.hostBad := rfl
@[simp] theorem Sys.setEngine_answer (s : Sys) (e : Nat) (v : Engine) : (s.setEngine e v).answer = s.answer := rfl
@[simp] theorem Sys.setEngine_irqs (s : Sys) (e : Nat) (v : Engine) : (s.setEngine e v).irqs = s.irqs := rfl
@[simp] theorem Sys.tile_setEngine (s : Sys) (e : Nat) (v : Engine) (i : Nat) : (s.setEngine e v).tile i = s.tile i := rfl
@[simp] theorem Sys.router_setEngine (s : Sys) (e : Nat) (v : Engine) (i : Nat) : (s.setEngine e v).router i = s.router i := rfl
@[simp] theorem Sys.straight_setEngine (s : Sys) (e : Nat) (v : Engine) (i : Nat) : (s.setEngine e v).straight i = s.straight i := rfl
@[simp] theorem Sys.tad_setEngine (s : Sys) (e : Nat) (v : Engine) (i : Nat) : (s.setEngine e v).tad i = s.tad i := rfl
@[simp] theorem Sys.replica_setEngine (s : Sys) (e : Nat) (v : Engine) (i : Nat) : (s.setEngine e v).replica i = s.replica i := rfl
@[simp] theorem Sys.hub_setEngine (s : Sys) (e : Nat) (v : Engine) (i : Nat) : (s.setEngine e v).hub i = s.hub i := rfl
@[simp] theorem Sys.engine_setEngine_same (s : Sys) (e : Nat) (v : Engine) : (s.setEngine e v).engine e = v := by simp [Sys.engine, Sys.setEngine]
theorem Sys.engine_setEngine_other (s : Sys) (e : Nat) (v : Engine) (i : Nat) (hne : i ≠ e) : (s.setEngine e v).engine i = s.engine i := by
  simp [Sys.engine, Sys.setEngine, NMap.get_put_other, hne]
@[simp] theorem Sys.setEngine_setEngine (s : Sys) (e : Nat) (v : Engine) (w : Engine) : (s.setEngine e v).setEngine e w = s.setEngine e w := by simp [Sys.setEngine]
@[simp] theorem Sys.setLead_now (s : Sys) (l : Lead) : (s.setLead l).now = s.now := rfl
@[simp] theorem Sys.setLead_fresh (s : Sys) (l : Lead) : (s.setLead l).fresh = s.fresh := rfl
@[simp] theorem Sys.setLead_tiles (s : Sys) (l : Lead) : (s.setLead l).tiles = s.tiles := rfl
@[simp] theorem Sys.setLead_replicas (s : Sys) (l : Lead) : (s.setLead l).replicas = s.replicas := rfl
@[simp] theorem Sys.setLead_mesh (s : Sys) (l : Lead) : (s.setLead l).mesh = s.mesh := rfl
@[simp] theorem Sys.setLead_straights (s : Sys) (l : Lead) : (s.setLead l).straights = s.straights := rfl
@[simp] theorem Sys.setLead_tads (s : Sys) (l : Lead) : (s.setLead l).tads = s.tads := rfl
@[simp] theorem Sys.setLead_links (s : Sys) (l : Lead) : (s.setLead l).links = s.links := rfl
@[simp] theorem Sys.setLead_hubs (s : Sys) (l : Lead) : (s.setLead l).hubs = s.hubs := rfl
@[simp] theorem Sys.setLead_engines (s : Sys) (l : Lead) : (s.setLead l).engines = s.engines := rfl
@[simp] theorem Sys.setLead_power (s : Sys) (l : Lead) : (s.setLead l).power = s.power := rfl
@[simp] theorem Sys.setLead_cool (s : Sys) (l : Lead) : (s.setLead l).cool = s.cool := rfl
@[simp] theorem Sys.setLead_health (s : Sys) (l : Lead) : (s.setLead l).health = s.health := rfl
@[simp] theorem Sys.setLead_boot (s : Sys) (l : Lead) : (s.setLead l).boot = s.boot := rfl
@[simp] theorem Sys.setLead_host (s : Sys) (l : Lead) : (s.setLead l).host = s.host := rfl
@[simp] theorem Sys.setLead_hostBad (s : Sys) (l : Lead) : (s.setLead l).hostBad = s.hostBad := rfl
@[simp] theorem Sys.setLead_answer (s : Sys) (l : Lead) : (s.setLead l).answer = s.answer := rfl
@[simp] theorem Sys.setLead_irqs (s : Sys) (l : Lead) : (s.setLead l).irqs = s.irqs := rfl
@[simp] theorem Sys.tile_setLead (s : Sys) (l : Lead) (i : Nat) : (s.setLead l).tile i = s.tile i := rfl
@[simp] theorem Sys.router_setLead (s : Sys) (l : Lead) (i : Nat) : (s.setLead l).router i = s.router i := rfl
@[simp] theorem Sys.straight_setLead (s : Sys) (l : Lead) (i : Nat) : (s.setLead l).straight i = s.straight i := rfl
@[simp] theorem Sys.tad_setLead (s : Sys) (l : Lead) (i : Nat) : (s.setLead l).tad i = s.tad i := rfl
@[simp] theorem Sys.replica_setLead (s : Sys) (l : Lead) (i : Nat) : (s.setLead l).replica i = s.replica i := rfl
@[simp] theorem Sys.hub_setLead (s : Sys) (l : Lead) (i : Nat) : (s.setLead l).hub i = s.hub i := rfl
@[simp] theorem Sys.engine_setLead (s : Sys) (l : Lead) (i : Nat) : (s.setLead l).engine i = s.engine i := rfl

/-- What a row of the command table does: the effect on the panel where the command is well formed, nothing where it is
not; the queue stays as it is, and a next state always answers. -/
@[simp] theorem State.act_true (s : State) (f : Sys → Sys) : s.act true f = .next { s with sys := f s.sys } := rfl
@[simp] theorem State.act_false (s : State) (f : Sys → Sys) : s.act false f = .next s := rfl
theorem State.act_next (s : State) (ok : Bool) (f : Sys → Sys) :
    ∃ t, s.act ok f = .next t ∧ t.pending = s.pending := by
  cases ok <;> simp

/-- A tile command that sends nothing out changes its tile alone. -/
theorem Sys.onTile_quiet (s : Sys) (t : Nat) (f : TX → TX) (h : t < 256) (ho : (f (s.tx t)).out = []) :
    s.onTile t f = s.setTile t (f (s.tx t)).tile := by
  simp only [Sys.onTile, h, if_true, Sys.putTX, ho, List.foldl_nil]
/-- A number that names no tile does nothing. -/
theorem Sys.onTile_none (s : Sys) (t : Nat) (f : TX → TX) (h : ¬ t < 256) : s.onTile t f = s := by
  simp [Sys.onTile, h]

@[simp] theorem TX.slot_setSlot (x : TX) (k : Nat) (v : Slot) : (x.setSlot k v).slot k = v := by simp [TX.slot, TX.setSlot]
theorem TX.slot_setSlot_other (x : TX) (k j : Nat) (v : Slot) (h : j ≠ k) : (x.setSlot k v).slot j = x.slot j := by
  simp [TX.slot, TX.setSlot, NMap.get_put_other, h]
@[simp] theorem TX.setSlot_setSlot (x : TX) (k : Nat) (v w : Slot) : (x.setSlot k v).setSlot k w = x.setSlot k w := by
  simp [TX.setSlot]
@[simp] theorem TX.setSlot_rep (x : TX) (k : Nat) (v : Slot) : (x.setSlot k v).rep = x.rep := rfl
@[simp] theorem TX.setSlot_peers (x : TX) (k : Nat) (v : Slot) : (x.setSlot k v).peers = x.peers := rfl
@[simp] theorem TX.setSlot_ownPanel (x : TX) (k : Nat) (v : Slot) : (x.setSlot k v).ownPanel = x.ownPanel := rfl
@[simp] theorem TX.setSlot_meshOut (x : TX) (k : Nat) (v : Slot) : (x.setSlot k v).meshOut = x.meshOut := rfl
@[simp] theorem TX.setSlot_rowOut (x : TX) (k : Nat) (v : Slot) : (x.setSlot k v).rowOut = x.rowOut := rfl
@[simp] theorem TX.setSlot_colOut (x : TX) (k : Nat) (v : Slot) : (x.setSlot k v).colOut = x.colOut := rfl
@[simp] theorem TX.setSlot_phys (x : TX) (k : Nat) (v : Slot) : (x.setSlot k v).phys = x.phys := rfl
@[simp] theorem TX.setSlot_now (x : TX) (k : Nat) (v : Slot) : (x.setSlot k v).now = x.now := rfl
@[simp] theorem TX.setSlot_out (x : TX) (k : Nat) (v : Slot) : (x.setSlot k v).out = x.out := rfl
@[simp] theorem TX.setSlot_partTiles (x : TX) (k : Nat) (v : Slot) : (x.setSlot k v).partTiles = x.partTiles := rfl
@[simp] theorem TX.setSlot_netReg (x : TX) (k : Nat) (v : Slot) : (x.setSlot k v).netReg = x.netReg := rfl
@[simp] theorem TX.setSlot_tile_slotMap (x : TX) (k : Nat) (v : Slot) : (x.setSlot k v).tile.slotMap = x.tile.slotMap := rfl
@[simp] theorem TX.setSlot_tile_rest (x : TX) (k : Nat) (v : Slot) : (x.setSlot k v).tile.rest = x.tile.rest := rfl
@[simp] theorem TX.setSlot_tile_restState (x : TX) (k : Nat) (v : Slot) : (x.setSlot k v).tile.restState = x.tile.restState := rfl
@[simp] theorem TX.setSlot_tile_restValid (x : TX) (k : Nat) (v : Slot) : (x.setSlot k v).tile.restValid = x.tile.restValid := rfl
@[simp] theorem TX.setSlot_tile_shedMask (x : TX) (k : Nat) (v : Slot) : (x.setSlot k v).tile.shedMask = x.tile.shedMask := rfl
@[simp] theorem TX.setSlot_tile_preload (x : TX) (k : Nat) (v : Slot) : (x.setSlot k v).tile.preload = x.tile.preload := rfl
@[simp] theorem TX.setSlot_tile_leapSince (x : TX) (k : Nat) (v : Slot) : (x.setSlot k v).tile.leapSince = x.tile.leapSince := rfl
@[simp] theorem TX.setSlot_tile_leapDone (x : TX) (k : Nat) (v : Slot) : (x.setSlot k v).tile.leapDone = x.tile.leapDone := rfl
@[simp] theorem TX.setSlot_tile_leapSkipped (x : TX) (k : Nat) (v : Slot) : (x.setSlot k v).tile.leapSkipped = x.tile.leapSkipped := rfl
@[simp] theorem TX.setSlot_tile_leapStopped (x : TX) (k : Nat) (v : Slot) : (x.setSlot k v).tile.leapStopped = x.tile.leapStopped := rfl
@[simp] theorem TX.setSlot_tile_leapDue (x : TX) (k : Nat) (v : Slot) : (x.setSlot k v).tile.leapDue = x.tile.leapDue := rfl
@[simp] theorem TX.setSlot_tile_store (x : TX) (k : Nat) (v : Slot) : (x.setSlot k v).tile.store = x.tile.store := rfl
@[simp] theorem TX.setSlot_tile_audit (x : TX) (k : Nat) (v : Slot) : (x.setSlot k v).tile.audit = x.tile.audit := rfl
@[simp] theorem TX.setSlot_tile_wins (x : TX) (k : Nat) (v : Slot) : (x.setSlot k v).tile.wins = x.tile.wins := rfl
@[simp] theorem TX.setSlot_tile_regs (x : TX) (k : Nat) (v : Slot) : (x.setSlot k v).tile.regs = x.tile.regs := rfl
@[simp] theorem TX.setSlot_tile_mirror (x : TX) (k : Nat) (v : Slot) : (x.setSlot k v).tile.mirror = x.tile.mirror := rfl
@[simp] theorem TX.setSlot_tile_logical (x : TX) (k : Nat) (v : Slot) : (x.setSlot k v).tile.logical = x.tile.logical := rfl
@[simp] theorem TX.setSlot_tile_shed (x : TX) (k : Nat) (v : Slot) : (x.setSlot k v).tile.shed = x.tile.shed := rfl
@[simp] theorem TX.setSlot_tile_rebuild (x : TX) (k : Nat) (v : Slot) : (x.setSlot k v).tile.rebuild = x.tile.rebuild := rfl
@[simp] theorem TX.setSlot_tile_shadowOf (x : TX) (k : Nat) (v : Slot) : (x.setSlot k v).tile.shadowOf = x.tile.shadowOf := rfl
@[simp] theorem TX.setSlot_tile_mirrorAt (x : TX) (k : Nat) (v : Slot) : (x.setSlot k v).tile.mirrorAt = x.tile.mirrorAt := rfl
@[simp] theorem TX.setSlot_tile_replaying (x : TX) (k : Nat) (v : Slot) : (x.setSlot k v).tile.replaying = x.tile.replaying := rfl
@[simp] theorem TX.setSlot_tile_pwr (x : TX) (k : Nat) (v : Slot) : (x.setSlot k v).tile.pwr = x.tile.pwr := rfl
@[simp] theorem TX.setStore_rep (x : TX) (v : Store) : (x.setStore v).rep = x.rep := rfl
@[simp] theorem TX.setStore_peers (x : TX) (v : Store) : (x.setStore v).peers = x.peers := rfl
@[simp] theorem TX.setStore_ownPanel (x : TX) (v : Store) : (x.setStore v).ownPanel = x.ownPanel := rfl
@[simp] theorem TX.setStore_meshOut (x : TX) (v : Store) : (x.setStore v).meshOut = x.meshOut := rfl
@[simp] theorem TX.setStore_rowOut (x : TX) (v : Store) : (x.setStore v).rowOut = x.rowOut := rfl
@[simp] theorem TX.setStore_colOut (x : TX) (v : Store) : (x.setStore v).colOut = x.colOut := rfl
@[simp] theorem TX.setStore_phys (x : TX) (v : Store) : (x.setStore v).phys = x.phys := rfl
@[simp] theorem TX.setStore_now (x : TX) (v : Store) : (x.setStore v).now = x.now := rfl
@[simp] theorem TX.setStore_out (x : TX) (v : Store) : (x.setStore v).out = x.out := rfl
@[simp] theorem TX.setStore_partTiles (x : TX) (v : Store) : (x.setStore v).partTiles = x.partTiles := rfl
@[simp] theorem TX.setStore_netReg (x : TX) (v : Store) : (x.setStore v).netReg = x.netReg := rfl
@[simp] theorem TX.setStore_tile_slotMap (x : TX) (v : Store) : (x.setStore v).tile.slotMap = x.tile.slotMap := rfl
@[simp] theorem TX.setStore_tile_rest (x : TX) (v : Store) : (x.setStore v).tile.rest = x.tile.rest := rfl
@[simp] theorem TX.setStore_tile_restState (x : TX) (v : Store) : (x.setStore v).tile.restState = x.tile.restState := rfl
@[simp] theorem TX.setStore_tile_restValid (x : TX) (v : Store) : (x.setStore v).tile.restValid = x.tile.restValid := rfl
@[simp] theorem TX.setStore_tile_shedMask (x : TX) (v : Store) : (x.setStore v).tile.shedMask = x.tile.shedMask := rfl
@[simp] theorem TX.setStore_tile_preload (x : TX) (v : Store) : (x.setStore v).tile.preload = x.tile.preload := rfl
@[simp] theorem TX.setStore_tile_leapSince (x : TX) (v : Store) : (x.setStore v).tile.leapSince = x.tile.leapSince := rfl
@[simp] theorem TX.setStore_tile_leapDone (x : TX) (v : Store) : (x.setStore v).tile.leapDone = x.tile.leapDone := rfl
@[simp] theorem TX.setStore_tile_leapSkipped (x : TX) (v : Store) : (x.setStore v).tile.leapSkipped = x.tile.leapSkipped := rfl
@[simp] theorem TX.setStore_tile_leapStopped (x : TX) (v : Store) : (x.setStore v).tile.leapStopped = x.tile.leapStopped := rfl
@[simp] theorem TX.setStore_tile_leapDue (x : TX) (v : Store) : (x.setStore v).tile.leapDue = x.tile.leapDue := rfl
@[simp] theorem TX.setStore_tile_slots (x : TX) (v : Store) : (x.setStore v).tile.slots = x.tile.slots := rfl
@[simp] theorem TX.setStore_tile_audit (x : TX) (v : Store) : (x.setStore v).tile.audit = x.tile.audit := rfl
@[simp] theorem TX.setStore_tile_wins (x : TX) (v : Store) : (x.setStore v).tile.wins = x.tile.wins := rfl
@[simp] theorem TX.setStore_tile_regs (x : TX) (v : Store) : (x.setStore v).tile.regs = x.tile.regs := rfl
@[simp] theorem TX.setStore_tile_mirror (x : TX) (v : Store) : (x.setStore v).tile.mirror = x.tile.mirror := rfl
@[simp] theorem TX.setStore_tile_logical (x : TX) (v : Store) : (x.setStore v).tile.logical = x.tile.logical := rfl
@[simp] theorem TX.setStore_tile_shed (x : TX) (v : Store) : (x.setStore v).tile.shed = x.tile.shed := rfl
@[simp] theorem TX.setStore_tile_rebuild (x : TX) (v : Store) : (x.setStore v).tile.rebuild = x.tile.rebuild := rfl
@[simp] theorem TX.setStore_tile_shadowOf (x : TX) (v : Store) : (x.setStore v).tile.shadowOf = x.tile.shadowOf := rfl
@[simp] theorem TX.setStore_tile_mirrorAt (x : TX) (v : Store) : (x.setStore v).tile.mirrorAt = x.tile.mirrorAt := rfl
@[simp] theorem TX.setStore_tile_replaying (x : TX) (v : Store) : (x.setStore v).tile.replaying = x.tile.replaying := rfl
@[simp] theorem TX.setStore_tile_pwr (x : TX) (v : Store) : (x.setStore v).tile.pwr = x.tile.pwr := rfl
@[simp] theorem TX.setWins_rep (x : TX) (v : Wins) : (x.setWins v).rep = x.rep := rfl
@[simp] theorem TX.setWins_peers (x : TX) (v : Wins) : (x.setWins v).peers = x.peers := rfl
@[simp] theorem TX.setWins_ownPanel (x : TX) (v : Wins) : (x.setWins v).ownPanel = x.ownPanel := rfl
@[simp] theorem TX.setWins_meshOut (x : TX) (v : Wins) : (x.setWins v).meshOut = x.meshOut := rfl
@[simp] theorem TX.setWins_rowOut (x : TX) (v : Wins) : (x.setWins v).rowOut = x.rowOut := rfl
@[simp] theorem TX.setWins_colOut (x : TX) (v : Wins) : (x.setWins v).colOut = x.colOut := rfl
@[simp] theorem TX.setWins_phys (x : TX) (v : Wins) : (x.setWins v).phys = x.phys := rfl
@[simp] theorem TX.setWins_now (x : TX) (v : Wins) : (x.setWins v).now = x.now := rfl
@[simp] theorem TX.setWins_out (x : TX) (v : Wins) : (x.setWins v).out = x.out := rfl
@[simp] theorem TX.setWins_partTiles (x : TX) (v : Wins) : (x.setWins v).partTiles = x.partTiles := rfl
@[simp] theorem TX.setWins_netReg (x : TX) (v : Wins) : (x.setWins v).netReg = x.netReg := rfl
@[simp] theorem TX.setWins_tile_slotMap (x : TX) (v : Wins) : (x.setWins v).tile.slotMap = x.tile.slotMap := rfl
@[simp] theorem TX.setWins_tile_rest (x : TX) (v : Wins) : (x.setWins v).tile.rest = x.tile.rest := rfl
@[simp] theorem TX.setWins_tile_restState (x : TX) (v : Wins) : (x.setWins v).tile.restState = x.tile.restState := rfl
@[simp] theorem TX.setWins_tile_restValid (x : TX) (v : Wins) : (x.setWins v).tile.restValid = x.tile.restValid := rfl
@[simp] theorem TX.setWins_tile_shedMask (x : TX) (v : Wins) : (x.setWins v).tile.shedMask = x.tile.shedMask := rfl
@[simp] theorem TX.setWins_tile_preload (x : TX) (v : Wins) : (x.setWins v).tile.preload = x.tile.preload := rfl
@[simp] theorem TX.setWins_tile_leapSince (x : TX) (v : Wins) : (x.setWins v).tile.leapSince = x.tile.leapSince := rfl
@[simp] theorem TX.setWins_tile_leapDone (x : TX) (v : Wins) : (x.setWins v).tile.leapDone = x.tile.leapDone := rfl
@[simp] theorem TX.setWins_tile_leapSkipped (x : TX) (v : Wins) : (x.setWins v).tile.leapSkipped = x.tile.leapSkipped := rfl
@[simp] theorem TX.setWins_tile_leapStopped (x : TX) (v : Wins) : (x.setWins v).tile.leapStopped = x.tile.leapStopped := rfl
@[simp] theorem TX.setWins_tile_leapDue (x : TX) (v : Wins) : (x.setWins v).tile.leapDue = x.tile.leapDue := rfl
@[simp] theorem TX.setWins_tile_slots (x : TX) (v : Wins) : (x.setWins v).tile.slots = x.tile.slots := rfl
@[simp] theorem TX.setWins_tile_store (x : TX) (v : Wins) : (x.setWins v).tile.store = x.tile.store := rfl
@[simp] theorem TX.setWins_tile_audit (x : TX) (v : Wins) : (x.setWins v).tile.audit = x.tile.audit := rfl
@[simp] theorem TX.setWins_tile_regs (x : TX) (v : Wins) : (x.setWins v).tile.regs = x.tile.regs := rfl
@[simp] theorem TX.setWins_tile_mirror (x : TX) (v : Wins) : (x.setWins v).tile.mirror = x.tile.mirror := rfl
@[simp] theorem TX.setWins_tile_logical (x : TX) (v : Wins) : (x.setWins v).tile.logical = x.tile.logical := rfl
@[simp] theorem TX.setWins_tile_shed (x : TX) (v : Wins) : (x.setWins v).tile.shed = x.tile.shed := rfl
@[simp] theorem TX.setWins_tile_rebuild (x : TX) (v : Wins) : (x.setWins v).tile.rebuild = x.tile.rebuild := rfl
@[simp] theorem TX.setWins_tile_shadowOf (x : TX) (v : Wins) : (x.setWins v).tile.shadowOf = x.tile.shadowOf := rfl
@[simp] theorem TX.setWins_tile_mirrorAt (x : TX) (v : Wins) : (x.setWins v).tile.mirrorAt = x.tile.mirrorAt := rfl
@[simp] theorem TX.setWins_tile_replaying (x : TX) (v : Wins) : (x.setWins v).tile.replaying = x.tile.replaying := rfl
@[simp] theorem TX.setWins_tile_pwr (x : TX) (v : Wins) : (x.setWins v).tile.pwr = x.tile.pwr := rfl
@[simp] theorem TX.setPwr_rep (x : TX) (v : TilePower) : (x.setPwr v).rep = x.rep := rfl
@[simp] theorem TX.setPwr_peers (x : TX) (v : TilePower) : (x.setPwr v).peers = x.peers := rfl
@[simp] theorem TX.setPwr_ownPanel (x : TX) (v : TilePower) : (x.setPwr v).ownPanel = x.ownPanel := rfl
@[simp] theorem TX.setPwr_meshOut (x : TX) (v : TilePower) : (x.setPwr v).meshOut = x.meshOut := rfl
@[simp] theorem TX.setPwr_rowOut (x : TX) (v : TilePower) : (x.setPwr v).rowOut = x.rowOut := rfl
@[simp] theorem TX.setPwr_colOut (x : TX) (v : TilePower) : (x.setPwr v).colOut = x.colOut := rfl
@[simp] theorem TX.setPwr_phys (x : TX) (v : TilePower) : (x.setPwr v).phys = x.phys := rfl
@[simp] theorem TX.setPwr_now (x : TX) (v : TilePower) : (x.setPwr v).now = x.now := rfl
@[simp] theorem TX.setPwr_out (x : TX) (v : TilePower) : (x.setPwr v).out = x.out := rfl
@[simp] theorem TX.setPwr_partTiles (x : TX) (v : TilePower) : (x.setPwr v).partTiles = x.partTiles := rfl
@[simp] theorem TX.setPwr_netReg (x : TX) (v : TilePower) : (x.setPwr v).netReg = x.netReg := rfl
@[simp] theorem TX.setPwr_tile_slotMap (x : TX) (v : TilePower) : (x.setPwr v).tile.slotMap = x.tile.slotMap := rfl
@[simp] theorem TX.setPwr_tile_rest (x : TX) (v : TilePower) : (x.setPwr v).tile.rest = x.tile.rest := rfl
@[simp] theorem TX.setPwr_tile_restState (x : TX) (v : TilePower) : (x.setPwr v).tile.restState = x.tile.restState := rfl
@[simp] theorem TX.setPwr_tile_restValid (x : TX) (v : TilePower) : (x.setPwr v).tile.restValid = x.tile.restValid := rfl
@[simp] theorem TX.setPwr_tile_shedMask (x : TX) (v : TilePower) : (x.setPwr v).tile.shedMask = x.tile.shedMask := rfl
@[simp] theorem TX.setPwr_tile_preload (x : TX) (v : TilePower) : (x.setPwr v).tile.preload = x.tile.preload := rfl
@[simp] theorem TX.setPwr_tile_leapSince (x : TX) (v : TilePower) : (x.setPwr v).tile.leapSince = x.tile.leapSince := rfl
@[simp] theorem TX.setPwr_tile_leapDone (x : TX) (v : TilePower) : (x.setPwr v).tile.leapDone = x.tile.leapDone := rfl
@[simp] theorem TX.setPwr_tile_leapSkipped (x : TX) (v : TilePower) : (x.setPwr v).tile.leapSkipped = x.tile.leapSkipped := rfl
@[simp] theorem TX.setPwr_tile_leapStopped (x : TX) (v : TilePower) : (x.setPwr v).tile.leapStopped = x.tile.leapStopped := rfl
@[simp] theorem TX.setPwr_tile_leapDue (x : TX) (v : TilePower) : (x.setPwr v).tile.leapDue = x.tile.leapDue := rfl
@[simp] theorem TX.setPwr_tile_slots (x : TX) (v : TilePower) : (x.setPwr v).tile.slots = x.tile.slots := rfl
@[simp] theorem TX.setPwr_tile_store (x : TX) (v : TilePower) : (x.setPwr v).tile.store = x.tile.store := rfl
@[simp] theorem TX.setPwr_tile_audit (x : TX) (v : TilePower) : (x.setPwr v).tile.audit = x.tile.audit := rfl
@[simp] theorem TX.setPwr_tile_wins (x : TX) (v : TilePower) : (x.setPwr v).tile.wins = x.tile.wins := rfl
@[simp] theorem TX.setPwr_tile_regs (x : TX) (v : TilePower) : (x.setPwr v).tile.regs = x.tile.regs := rfl
@[simp] theorem TX.setPwr_tile_mirror (x : TX) (v : TilePower) : (x.setPwr v).tile.mirror = x.tile.mirror := rfl
@[simp] theorem TX.setPwr_tile_logical (x : TX) (v : TilePower) : (x.setPwr v).tile.logical = x.tile.logical := rfl
@[simp] theorem TX.setPwr_tile_shed (x : TX) (v : TilePower) : (x.setPwr v).tile.shed = x.tile.shed := rfl
@[simp] theorem TX.setPwr_tile_rebuild (x : TX) (v : TilePower) : (x.setPwr v).tile.rebuild = x.tile.rebuild := rfl
@[simp] theorem TX.setPwr_tile_shadowOf (x : TX) (v : TilePower) : (x.setPwr v).tile.shadowOf = x.tile.shadowOf := rfl
@[simp] theorem TX.setPwr_tile_mirrorAt (x : TX) (v : TilePower) : (x.setPwr v).tile.mirrorAt = x.tile.mirrorAt := rfl
@[simp] theorem TX.setPwr_tile_replaying (x : TX) (v : TilePower) : (x.setPwr v).tile.replaying = x.tile.replaying := rfl
@[simp] theorem TX.setReg_rep (x : TX) (o v : Nat) : (x.setReg o v).rep = x.rep := rfl
@[simp] theorem TX.setReg_peers (x : TX) (o v : Nat) : (x.setReg o v).peers = x.peers := rfl
@[simp] theorem TX.setReg_ownPanel (x : TX) (o v : Nat) : (x.setReg o v).ownPanel = x.ownPanel := rfl
@[simp] theorem TX.setReg_meshOut (x : TX) (o v : Nat) : (x.setReg o v).meshOut = x.meshOut := rfl
@[simp] theorem TX.setReg_rowOut (x : TX) (o v : Nat) : (x.setReg o v).rowOut = x.rowOut := rfl
@[simp] theorem TX.setReg_colOut (x : TX) (o v : Nat) : (x.setReg o v).colOut = x.colOut := rfl
@[simp] theorem TX.setReg_phys (x : TX) (o v : Nat) : (x.setReg o v).phys = x.phys := rfl
@[simp] theorem TX.setReg_now (x : TX) (o v : Nat) : (x.setReg o v).now = x.now := rfl
@[simp] theorem TX.setReg_out (x : TX) (o v : Nat) : (x.setReg o v).out = x.out := rfl
@[simp] theorem TX.setReg_partTiles (x : TX) (o v : Nat) : (x.setReg o v).partTiles = x.partTiles := rfl
@[simp] theorem TX.setReg_netReg (x : TX) (o v : Nat) : (x.setReg o v).netReg = x.netReg := rfl
@[simp] theorem TX.setReg_tile_slotMap (x : TX) (o v : Nat) : (x.setReg o v).tile.slotMap = x.tile.slotMap := rfl
@[simp] theorem TX.setReg_tile_rest (x : TX) (o v : Nat) : (x.setReg o v).tile.rest = x.tile.rest := rfl
@[simp] theorem TX.setReg_tile_restState (x : TX) (o v : Nat) : (x.setReg o v).tile.restState = x.tile.restState := rfl
@[simp] theorem TX.setReg_tile_restValid (x : TX) (o v : Nat) : (x.setReg o v).tile.restValid = x.tile.restValid := rfl
@[simp] theorem TX.setReg_tile_shedMask (x : TX) (o v : Nat) : (x.setReg o v).tile.shedMask = x.tile.shedMask := rfl
@[simp] theorem TX.setReg_tile_preload (x : TX) (o v : Nat) : (x.setReg o v).tile.preload = x.tile.preload := rfl
@[simp] theorem TX.setReg_tile_leapSince (x : TX) (o v : Nat) : (x.setReg o v).tile.leapSince = x.tile.leapSince := rfl
@[simp] theorem TX.setReg_tile_leapDone (x : TX) (o v : Nat) : (x.setReg o v).tile.leapDone = x.tile.leapDone := rfl
@[simp] theorem TX.setReg_tile_leapSkipped (x : TX) (o v : Nat) : (x.setReg o v).tile.leapSkipped = x.tile.leapSkipped := rfl
@[simp] theorem TX.setReg_tile_leapStopped (x : TX) (o v : Nat) : (x.setReg o v).tile.leapStopped = x.tile.leapStopped := rfl
@[simp] theorem TX.setReg_tile_leapDue (x : TX) (o v : Nat) : (x.setReg o v).tile.leapDue = x.tile.leapDue := rfl
@[simp] theorem TX.setReg_tile_slots (x : TX) (o v : Nat) : (x.setReg o v).tile.slots = x.tile.slots := rfl
@[simp] theorem TX.setReg_tile_store (x : TX) (o v : Nat) : (x.setReg o v).tile.store = x.tile.store := rfl
@[simp] theorem TX.setReg_tile_audit (x : TX) (o v : Nat) : (x.setReg o v).tile.audit = x.tile.audit := rfl
@[simp] theorem TX.setReg_tile_wins (x : TX) (o v : Nat) : (x.setReg o v).tile.wins = x.tile.wins := rfl
@[simp] theorem TX.setReg_tile_mirror (x : TX) (o v : Nat) : (x.setReg o v).tile.mirror = x.tile.mirror := rfl
@[simp] theorem TX.setReg_tile_logical (x : TX) (o v : Nat) : (x.setReg o v).tile.logical = x.tile.logical := rfl
@[simp] theorem TX.setReg_tile_shed (x : TX) (o v : Nat) : (x.setReg o v).tile.shed = x.tile.shed := rfl
@[simp] theorem TX.setReg_tile_rebuild (x : TX) (o v : Nat) : (x.setReg o v).tile.rebuild = x.tile.rebuild := rfl
@[simp] theorem TX.setReg_tile_shadowOf (x : TX) (o v : Nat) : (x.setReg o v).tile.shadowOf = x.tile.shadowOf := rfl
@[simp] theorem TX.setReg_tile_mirrorAt (x : TX) (o v : Nat) : (x.setReg o v).tile.mirrorAt = x.tile.mirrorAt := rfl
@[simp] theorem TX.setReg_tile_replaying (x : TX) (o v : Nat) : (x.setReg o v).tile.replaying = x.tile.replaying := rfl
@[simp] theorem TX.setReg_tile_pwr (x : TX) (o v : Nat) : (x.setReg o v).tile.pwr = x.tile.pwr := rfl
@[simp] theorem TX.emit_tile (x : TX) (o : Out) : (x.emit o).tile = x.tile := rfl
@[simp] theorem TX.emit_rep (x : TX) (o : Out) : (x.emit o).rep = x.rep := rfl
@[simp] theorem TX.emit_peers (x : TX) (o : Out) : (x.emit o).peers = x.peers := rfl
@[simp] theorem TX.emit_ownPanel (x : TX) (o : Out) : (x.emit o).ownPanel = x.ownPanel := rfl
@[simp] theorem TX.emit_meshOut (x : TX) (o : Out) : (x.emit o).meshOut = x.meshOut := rfl
@[simp] theorem TX.emit_rowOut (x : TX) (o : Out) : (x.emit o).rowOut = x.rowOut := rfl
@[simp] theorem TX.emit_colOut (x : TX) (o : Out) : (x.emit o).colOut = x.colOut := rfl
@[simp] theorem TX.emit_phys (x : TX) (o : Out) : (x.emit o).phys = x.phys := rfl
@[simp] theorem TX.emit_now (x : TX) (o : Out) : (x.emit o).now = x.now := rfl
@[simp] theorem TX.emit_partTiles (x : TX) (o : Out) : (x.emit o).partTiles = x.partTiles := rfl
@[simp] theorem TX.emit_netReg (x : TX) (o : Out) : (x.emit o).netReg = x.netReg := rfl
@[simp] theorem TX.setStore_slot (x : TX) (v : Store) (k : Nat) : (x.setStore v).slot k = x.slot k := rfl
@[simp] theorem TX.setWins_slot (x : TX) (v : Wins) (k : Nat) : (x.setWins v).slot k = x.slot k := rfl
@[simp] theorem TX.setPwr_slot (x : TX) (v : TilePower) (k : Nat) : (x.setPwr v).slot k = x.slot k := rfl
@[simp] theorem TX.setReg_slot (x : TX) (o v k : Nat) : (x.setReg o v).slot k = x.slot k := rfl
@[simp] theorem TX.emit_slot (x : TX) (o : Out) (k : Nat) : (x.emit o).slot k = x.slot k := rfl
@[simp] theorem TX.emit_out (x : TX) (o : Out) : (x.emit o).out = x.out ++ [o] := rfl
@[simp] theorem Sys.tx_tile (s : Sys) (t : Nat) : (s.tx t).tile = s.tile t := rfl
@[simp] theorem Sys.tx_out (s : Sys) (t : Nat) : (s.tx t).out = [] := rfl
@[simp] theorem Sys.tx_phys (s : Sys) (t : Nat) : (s.tx t).phys = t := rfl
@[simp] theorem Sys.tx_now (s : Sys) (t : Nat) : (s.tx t).now = s.mirror t := rfl

end Sys2Proof.Machine
end

