-- ==== Sys2Proof/Laws/Rows.lean ====
section
/-! SUPPORT. One law per row of the command table: exec of the command is its effect on the panel, where it is well formed
(a copy of the row's meaning, for rewriting). -/

namespace Sys2Proof.Machine

theorem exec_scalarInstruction (t : Nat) (k : Nat) (cc : Nat) (ram : RamCheck) (s : State) : exec (.scalarInstruction t k cc ram) s =
    s.act (Instr.scalarInstruction t k cc ram).wf (fun y => y.onTile t (fun x => x.scalarInstruction k cc ram)) := rfl
theorem exec_narrowLoad (t : Nat) (k : Nat) (cc : Nat) (f3 : Nat) (rd : Nat) (rs1 : Nat) (imm : Nat) (s : State) : exec (.narrowLoad t k cc f3 rd rs1 imm) s =
    s.act (Instr.narrowLoad t k cc f3 rd rs1 imm).wf (fun y => y.narrowRowAt t k cc rs1 imm (encI imm rs1 f3 rd 0x03)) := rfl
theorem exec_narrowStore (t : Nat) (k : Nat) (cc : Nat) (f3 : Nat) (rs2 : Nat) (rs1 : Nat) (imm : Nat) (s : State) : exec (.narrowStore t k cc f3 rs2 rs1 imm) s =
    s.act (Instr.narrowStore t k cc f3 rs2 rs1 imm).wf (fun y => y.narrowRowAt t k cc rs1 imm (encS imm rs2 rs1 f3 0x23)) := rfl
theorem exec_narrowStoreSend (t : Nat) (k : Nat) (s : State) : exec (.narrowStoreSend t k) s =
    s.act (Instr.narrowStoreSend t k).wf (fun y => y.onTile t (fun x => x.narrowSend k)) := rfl
theorem exec_interruptTaken (t : Nat) (k : Nat) (s : State) : exec (.interruptTaken t k) s =
    s.act (Instr.interruptTaken t k).wf (fun y => y.onTile t (fun x => x.interruptTaken k)) := rfl
theorem exec_machineTimer (t : Nat) (k : Nat) (s : State) : exec (.machineTimer t k) s =
    s.act (Instr.machineTimer t k).wf (fun y => y.onTile t (fun x => x.machineTimer k)) := rfl
theorem exec_enq (t : Nat) (k : Nat) (cc : Nat) (rd : Nat) (rs1 : Nat) (eq : Nat) (s : State) : exec (.enq t k cc rd rs1 eq) s =
    s.act (Instr.enq t k cc rd rs1 eq).wf (fun y => y.scalarRow t k cc (encR eq 0 rs1 0 rd 0x0B)) := rfl
theorem exec_enql (t : Nat) (k : Nat) (cc : Nat) (rd : Nat) (rs1 : Nat) (rs2 : Nat) (eq : Nat) (s : State) : exec (.enql t k cc rd rs1 rs2 eq) s =
    s.act (Instr.enql t k cc rd rs1 rs2 eq).wf (fun y => y.scalarRow t k cc (encR eq rs2 rs1 1 rd 0x0B)) := rfl
theorem exec_qfree (t : Nat) (k : Nat) (cc : Nat) (rd : Nat) (eq : Nat) (s : State) : exec (.qfree t k cc rd eq) s =
    s.act (Instr.qfree t k cc rd eq).wf (fun y => y.scalarRow t k cc (encR eq 0 0 2 rd 0x0B)) := rfl
theorem exec_tokrd (t : Nat) (k : Nat) (cc : Nat) (rd : Nat) (rs1 : Nat) (s : State) : exec (.tokrd t k cc rd rs1) s =
    s.act (Instr.tokrd t k cc rd rs1).wf (fun y => y.scalarRow t k cc (encR 0 0 rs1 0 rd 0x2B)) := rfl
theorem exec_tokinc (t : Nat) (k : Nat) (cc : Nat) (rs1 : Nat) (rs2 : Nat) (s : State) : exec (.tokinc t k cc rs1 rs2) s =
    s.act (Instr.tokinc t k cc rs1 rs2).wf (fun y => y.scalarRow t k cc (encR 0 rs2 rs1 1 0 0x2B)) := rfl
theorem exec_toktry (t : Nat) (k : Nat) (cc : Nat) (rd : Nat) (rs1 : Nat) (rs2 : Nat) (s : State) : exec (.toktry t k cc rd rs1 rs2) s =
    s.act (Instr.toktry t k cc rd rs1 rs2).wf (fun y => y.scalarRow t k cc (encR 0 rs2 rs1 2 rd 0x2B)) := rfl
theorem exec_lapidx (t : Nat) (k : Nat) (cc : Nat) (rd : Nat) (s : State) : exec (.lapidx t k cc rd) s =
    s.act (Instr.lapidx t k cc rd).wf (fun y => y.scalarRow t k cc (encR 0 0 0 3 rd 0x2B)) := rfl
theorem exec_sequencerIssue (t : Nat) (k : Nat) (s : State) : exec (.sequencerIssue t k) s =
    s.act (Instr.sequencerIssue t k).wf (fun y => y.onTile t (fun x => x.sequencerIssue k)) := rfl
theorem exec_run (t : Nat) (k : Nat) (s : State) : exec (.run t k) s =
    s.act (Instr.run t k).wf (fun y => y.onTile t (fun x => x.runCore k)) := rfl
theorem exec_halt (t : Nat) (k : Nat) (s : State) : exec (.halt t k) s =
    s.act (Instr.halt t k).wf (fun y => y.onTile t (fun x => x.haltCore k)) := rfl
theorem exec_lapStart (t : Nat) (k : Nat) (msg : Bool) (s : State) : exec (.lapStart t k msg) s =
    s.act (Instr.lapStart t k msg).wf (fun y => y.coreRequest t k msg 4 (fun x i => (x.lapStart i).2)) := rfl
theorem exec_lapStop (t : Nat) (k : Nat) (msg : Bool) (s : State) : exec (.lapStop t k msg) s =
    s.act (Instr.lapStop t k msg).wf (fun y => y.coreRequest t k msg 3 (fun x i => x.lapStop i)) := rfl
theorem exec_freeze (t : Nat) (k : Nat) (msg : Bool) (s : State) : exec (.freeze t k msg) s =
    s.act (Instr.freeze t k msg).wf (fun y => y.coreRequest t k msg 1 (fun x i => x.freeze i)) := rfl
theorem exec_thaw (t : Nat) (k : Nat) (msg : Bool) (s : State) : exec (.thaw t k msg) s =
    s.act (Instr.thaw t k msg).wf (fun y => y.coreRequest t k msg 2 (fun x i => x.thaw i)) := rfl
theorem exec_lapZeroBegin (t : Nat) (k : Nat) (s : State) : exec (.lapZeroBegin t k) s =
    s.act (Instr.lapZeroBegin t k).wf (fun y => y.onTile t (fun x => x.lapZeroBegin k)) := rfl
theorem exec_lapBoundary (t : Nat) (k : Nat) (timing : LapTiming) (s : State) : exec (.lapBoundary t k timing) s =
    s.act (Instr.lapBoundary t k timing).wf (fun y => (y.onTile t (fun x => x.lapBoundary k timing)).settleHold t) := rfl
theorem exec_doorbellHi (t : Nat) (k : Nat) (s : State) : exec (.doorbellHi t k) s =
    s.act (Instr.doorbellHi t k).wf (fun y => y.doorbellHi t k) := rfl
theorem exec_readClear (space : Nat) (unit : Nat) (off : Nat) (s : State) : exec (.readClear space unit off) s =
    s.act (Instr.readClear space unit off).wf (fun y => y.readClear space unit off) := rfl
theorem exec_registerWrite (space : Nat) (unit : Nat) (off : Nat) (v : Nat) (s : State) : exec (.registerWrite space unit off v) s =
    s.act (Instr.registerWrite space unit off v).wf (fun y => y.registerWrite space unit off v) := rfl
theorem exec_tokenDeadlock (t : Nat) (k : Nat) (s : State) : exec (.tokenDeadlock t k) s =
    s.act (Instr.tokenDeadlock t k).wf (fun y => y.onTile t (fun x => x.tokenDeadlock k)) := rfl
theorem exec_mm (t : Nat) (k : Nat) (starved : Nat) (s : State) : exec (.mm t k starved) s =
    s.act (Instr.mm t k starved).wf (fun y => y.onTile t (fun x => x.mm k starved)) := rfl
theorem exec_accClear (t : Nat) (k : Nat) (s : State) : exec (.accClear t k) s =
    s.act (Instr.accClear t k).wf (fun y => y.onTile t (fun x => x.accClear k)) := rfl
theorem exec_accOut (t : Nat) (k : Nat) (s : State) : exec (.accOut t k) s =
    s.act (Instr.accOut t k).wf (fun y => y.onTile t (fun x => x.accOut k)) := rfl
theorem exec_macroLoad (t : Nat) (k : Nat) (s : State) : exec (.macroLoad t k) s =
    s.act (Instr.macroLoad t k).wf (fun y => y.onTile t (fun x => x.macroLoad k)) := rfl
theorem exec_convert (t : Nat) (k : Nat) (starved : Nat) (s : State) : exec (.convert t k starved) s =
    s.act (Instr.convert t k starved).wf (fun y => y.onTile t (fun x => x.vector k 1 starved)) := rfl
theorem exec_binary (t : Nat) (k : Nat) (starved : Nat) (s : State) : exec (.binary t k starved) s =
    s.act (Instr.binary t k starved).wf (fun y => y.onTile t (fun x => x.vector k 2 starved)) := rfl
theorem exec_unary (t : Nat) (k : Nat) (starved : Nat) (s : State) : exec (.unary t k starved) s =
    s.act (Instr.unary t k starved).wf (fun y => y.onTile t (fun x => x.vector k 3 starved)) := rfl
theorem exec_reduce (t : Nat) (k : Nat) (starved : Nat) (s : State) : exec (.reduce t k starved) s =
    s.act (Instr.reduce t k starved).wf (fun y => y.onTile t (fun x => x.vector k 4 starved)) := rfl
theorem exec_softmaxStats (t : Nat) (k : Nat) (starved : Nat) (s : State) : exec (.softmaxStats t k starved) s =
    s.act (Instr.softmaxStats t k starved).wf (fun y => y.onTile t (fun x => x.vector k 5 starved)) := rfl
theorem exec_softmaxApply (t : Nat) (k : Nat) (starved : Nat) (s : State) : exec (.softmaxApply t k starved) s =
    s.act (Instr.softmaxApply t k starved).wf (fun y => y.onTile t (fun x => x.vector k 6 starved)) := rfl
theorem exec_normStats (t : Nat) (k : Nat) (starved : Nat) (s : State) : exec (.normStats t k starved) s =
    s.act (Instr.normStats t k starved).wf (fun y => y.onTile t (fun x => x.vector k 7 starved)) := rfl
theorem exec_normApply (t : Nat) (k : Nat) (starved : Nat) (s : State) : exec (.normApply t k starved) s =
    s.act (Instr.normApply t k starved).wf (fun y => y.onTile t (fun x => x.vector k 8 starved)) := rfl
theorem exec_pool (t : Nat) (k : Nat) (starved : Nat) (s : State) : exec (.pool t k starved) s =
    s.act (Instr.pool t k starved).wf (fun y => y.onTile t (fun x => x.vector k 9 starved)) := rfl
theorem exec_transpose (t : Nat) (k : Nat) (starved : Nat) (s : State) : exec (.transpose t k starved) s =
    s.act (Instr.transpose t k starved).wf (fun y => y.onTile t (fun x => x.vector k 10 starved)) := rfl
theorem exec_gather (t : Nat) (k : Nat) (starved : Nat) (s : State) : exec (.gather t k starved) s =
    s.act (Instr.gather t k starved).wf (fun y => y.onTile t (fun x => x.vector k 11 starved)) := rfl
theorem exec_scatter (t : Nat) (k : Nat) (starved : Nat) (s : State) : exec (.scatter t k starved) s =
    s.act (Instr.scatter t k starved).wf (fun y => y.onTile t (fun x => x.vector k 12 starved)) := rfl
theorem exec_copy (t : Nat) (k : StoreTurn) (s : State) : exec (.copy t k) s =
    s.act (Instr.copy t k).wf (fun y => y.onTile t (fun x => x.copy k.core k.starved)) := rfl
theorem exec_send (t : Nat) (k : StoreTurn) (s : State) : exec (.send t k) s =
    s.act (Instr.send t k).wf (fun y => y.onTile t (fun x => x.send k.core k.starved)) := rfl
theorem exec_mcast (t : Nat) (k : StoreTurn) (s : State) : exec (.mcast t k) s =
    s.act (Instr.mcast t k).wf (fun y => y.onTile t (fun x => x.mcast k.core k.starved)) := rfl
theorem exec_reduceSend (t : Nat) (k : StoreTurn) (s : State) : exec (.reduceSend t k) s =
    s.act (Instr.reduceSend t k).wf (fun y => y.onTile t (fun x => x.reduceSend k.core k.starved)) := rfl
theorem exec_streamSet (t : Nat) (k : Nat) (s : State) : exec (.streamSet t k) s =
    s.act (Instr.streamSet t k).wf (fun y => y.onTile t (fun x => x.streamSet k)) := rfl
theorem exec_streamLoop (t : Nat) (k : Nat) (s : State) : exec (.streamLoop t k) s =
    s.act (Instr.streamLoop t k).wf (fun y => y.onTile t (fun x => x.streamLoop k)) := rfl
theorem exec_streamGo (t : Nat) (k : Nat) (s : State) : exec (.streamGo t k) s =
    s.act (Instr.streamGo t k).wf (fun y => y.onTile t (fun x => x.streamGo k)) := rfl
theorem exec_streamStop (t : Nat) (k : Nat) (s : State) : exec (.streamStop t k) s =
    s.act (Instr.streamStop t k).wf (fun y => y.onTile t (fun x => x.streamStop k)) := rfl
theorem exec_descriptorCompletion (t : Nat) (k : Nat) (which : Nat) (s : State) : exec (.descriptorCompletion t k which) s =
    s.act (Instr.descriptorCompletion t k which).wf (fun y => y.onTile t (fun x => x.complete k which)) := rfl
theorem exec_streamFetchLap (t : Nat) (k : Nat) (st : Nat) (n : FetchTurn) (s : State) : exec (.streamFetchLap t k st n) s =
    s.act (Instr.streamFetchLap t k st n).wf (fun y => y.onTile t (fun x => x.fetchRows k st n.rows n.drops)) := rfl
theorem exec_pacerRowLand (t : Nat) (k : Nat) (st : Nat) (f : Nat) (src : Nat) (s : State) : exec (.pacerRowLand t k st f src) s =
    s.act (Instr.pacerRowLand t k st f src).wf (fun y =>
    (if src = 0 then y.onTile t (fun x => x.localLand k st f) else y.streamDeliver t (src - 1))) := rfl
theorem exec_leapfrogPeriod (t : Nat) (est : List Nat) (s : State) : exec (.leapfrogPeriod t est) s =
    s.act (Instr.leapfrogPeriod t est).wf (fun y => y.leapfrogPeriod t est) := rfl
theorem exec_preloadComplete (t : Nat) (flips : List (Nat × List (List (Nat × Nat)))) (s : State) : exec (.preloadComplete t flips) s =
    s.act (Instr.preloadComplete t flips).wf (fun y => y.onTile t (fun x => x.preloadComplete (mapOf flips))) := rfl
theorem exec_leapfrogAbandon (t : Nat) (s : State) : exec (.leapfrogAbandon t) s =
    s.act (Instr.leapfrogAbandon t).wf (fun y => y.onTile t (fun x => x.leapfrogAbandon)) := rfl
theorem exec_coreUnitFault (t : Nat) (c : Nat) (cause : FaultCause) (s : State) : exec (.coreUnitFault t c cause) s =
    s.act (Instr.coreUnitFault t c cause).wf (fun y => y.onTile t (fun x => x.coreUnitFault c cause)) := rfl
theorem exec_takeoverReady (t : Nat) (flips : List (Nat × List (List (Nat × Nat)))) (s : State) : exec (.takeoverReady t flips) s =
    s.act (Instr.takeoverReady t flips).wf (fun y => y.onTile t (fun x => x.takeoverReady (mapOf flips))) := rfl
theorem exec_auditSweep (t : Nat) (s : State) : exec (.auditSweep t) s =
    s.act (Instr.auditSweep t).wf (fun y => y.onTile t (fun x => x.auditSweep)) := rfl
theorem exec_macroAudit (t : Nat) (flips : List (Nat × Nat)) (s : State) : exec (.macroAudit t flips) s =
    s.act (Instr.macroAudit t flips).wf (fun y => y.onTile t (fun x => x.macroAudit flips)) := rfl
theorem exec_auditReload (t : Nat) (flips : List (Nat × Nat)) (s : State) : exec (.auditReload t flips) s =
    s.act (Instr.auditReload t flips).wf (fun y => y.onTile t (fun x => x.auditReload flips)) := rfl
theorem exec_correctionWriteBack (t : Nat) (bank : Nat) (s : State) : exec (.correctionWriteBack t bank) s =
    s.act (Instr.correctionWriteBack t bank).wf (fun y => y.onTile t (fun x => x.correctionWriteBack bank)) := rfl
theorem exec_reconstruction (t : Nat) (s : State) : exec (.reconstruction t) s =
    s.act (Instr.reconstruction t).wf (fun y => y.onTile t (fun x => x.reconstruction)) := rfl
theorem exec_parityLatchCommit (t : Nat) (bank : Nat) (s : State) : exec (.parityLatchCommit t bank) s =
    s.act (Instr.parityLatchCommit t bank).wf (fun y => y.onTile t (fun x => x.commitLatch bank)) := rfl
theorem exec_storeFillDone (t : Nat) (s : State) : exec (.storeFillDone t) s =
    s.act (Instr.storeFillDone t).wf (fun y => y.storeFillDone t) := rfl
theorem exec_regionReleaseDone (t : Nat) (n : Nat) (s : State) : exec (.regionReleaseDone t n) s =
    s.act (Instr.regionReleaseDone t n).wf (fun y => y.regionReleaseDone t n) := rfl
theorem exec_scrubPassStart (t : Nat) (s : State) : exec (.scrubPassStart t) s =
    s.act (Instr.scrubPassStart t).wf (fun y => y.onTile t (fun x => x.scrubPassStart)) := rfl
theorem exec_scrubRead (t : Nat) (ups : List (Nat × Nat × Nat)) (s : State) : exec (.scrubRead t ups) s =
    s.act (Instr.scrubRead t ups).wf (fun y => y.onTile t (fun x => x.scrubRead ups)) := rfl
theorem exec_liveRemap (t : Nat) (s : State) : exec (.liveRemap t) s =
    s.act (Instr.liveRemap t).wf (fun y => y.onTile t (fun x => x.liveRemap)) := rfl
theorem exec_fieldRowMapUpdate (t : Nat) (s : State) : exec (.fieldRowMapUpdate t) s =
    s.act (Instr.fieldRowMapUpdate t).wf (fun y => y.fieldRowMapUpdate t) := rfl
theorem exec_watchEntryExpiry (t : Nat) (bank : Nat) (s : State) : exec (.watchEntryExpiry t bank) s =
    s.act (Instr.watchEntryExpiry t bank).wf (fun y => y.onTile t (fun x => x.watchExpiry bank)) := rfl
theorem exec_tileProtInjectArm (t : Nat) (v : Nat) (s : State) : exec (.tileProtInjectArm t v) s =
    s.act (Instr.tileProtInjectArm t v).wf (fun y => y.onTile t (fun x => (x.writeReg 0x260 (v ||| 2 ^ 16) false).2)) := rfl
theorem exec_routerReceive (n : Nat) (p : Nat) (bad : Bool) (s : State) : exec (.routerReceive n p bad) s =
    s.act (Instr.routerReceive n p bad).wf (fun y => y.receiveRow n p bad) := rfl
theorem exec_routerForward (n : Nat) (o : Nat) (ecc : SlotEcc) (s : State) : exec (.routerForward n o ecc) s =
    s.act (Instr.routerForward n o ecc).wf (fun y => y.routerForward n o ecc) := rfl
theorem exec_escapeEntry (n : Nat) (p : Nat) (c : Nat) (nc : Nat) (s : State) : exec (.escapeEntry n p c nc) s =
    s.act (Instr.escapeEntry n p c nc).wf (fun y => y.escapeEntry n p c nc) := rfl
theorem exec_controlWord (n : Nat) (p : Nat) (good : Bool) (begins : Bool) (s : State) : exec (.controlWord n p good begins) s =
    s.act (Instr.controlWord n p good begins).wf (fun y => y.controlWord n p good begins) := rfl
theorem exec_linkFail (n : Nat) (p : Nat) (s : State) : exec (.linkFail n p) s =
    s.act (Instr.linkFail n p).wf (fun y => y.linkFail n p) := rfl
theorem exec_drainCountZero (n : Nat) (s : State) : exec (.drainCountZero n) s =
    s.act (Instr.drainCountZero n).wf (fun y => y.drainCountZero n) := rfl
theorem exec_write (n : Nat) (src : Nat) (s : State) : exec (.write n src) s =
    s.act (Instr.write n src).wf (fun y => y.writeRow n src) := rfl
theorem exec_shortWrite (n : Nat) (s : State) : exec (.shortWrite n) s =
    s.act (Instr.shortWrite n).wf (fun y => y.shortWriteRow n) := rfl
theorem exec_readReq (n : Nat) (s : State) : exec (.readReq n) s =
    s.act (Instr.readReq n).wf (fun y => y.readReqRow n) := rfl
theorem exec_readResp (n : Nat) (s : State) : exec (.readResp n) s =
    s.act (Instr.readResp n).wf (fun y => y.readRespRow n) := rfl
theorem exec_controlWrite (n : Nat) (s : State) : exec (.controlWrite n) s =
    s.act (Instr.controlWrite n).wf (fun y => y.controlWriteRow n) := rfl
theorem exec_ack (n : Nat) (s : State) : exec (.ack n) s =
    s.act (Instr.ack n).wf (fun y => y.ackRow n) := rfl
theorem exec_nack (n : Nat) (s : State) : exec (.nack n) s =
    s.act (Instr.nack n).wf (fun y => y.nackRow n) := rfl
theorem exec_reducePacket (n : Nat) (p : SlotRead) (s : State) : exec (.reducePacket n p) s =
    s.act (Instr.reducePacket n p).wf (fun y => y.reducePacket n p.port p.ecc) := rfl
theorem exec_reduceStall (n : Nat) (p : Nat) (nc : Nat) (s : State) : exec (.reduceStall n p nc) s =
    s.act (Instr.reduceStall n p nc).wf (fun y => y.reduceStall n p nc) := rfl
theorem exec_frameLaunch (n : Nat) (k : Nat) (s : State) : exec (.frameLaunch n k) s =
    s.act (Instr.frameLaunch n k).wf (fun y => y.frameLaunch n k) := rfl
theorem exec_mcastFrame (n : Nat) (k : Nat) (sender : Nat) (bad : Bool) (s : State) : exec (.mcastFrame n k sender bad) s =
    s.act (Instr.mcastFrame n k sender bad).wf (fun y => y.mcastFrame n k sender bad) := rfl
theorem exec_carriedFrame (n : Nat) (k : Nat) (sender : Nat) (bad : Bool) (s : State) : exec (.carriedFrame n k sender bad) s =
    s.act (Instr.carriedFrame n k sender bad).wf (fun y => y.carriedFrame n k sender bad) := rfl
theorem exec_relayForward (n : Nat) (k : Nat) (s : State) : exec (.relayForward n k) s =
    s.act (Instr.relayForward n k).wf (fun y => y.relayForward n k) := rfl
theorem exec_statusSlot (n : Nat) (k : Nat) (good : Bool) (s : State) : exec (.statusSlot n k good) s =
    s.act (Instr.statusSlot n k good).wf (fun y => y.statusSlot n k good) := rfl
theorem exec_retransmission (n : Nat) (k : Nat) (s : State) : exec (.retransmission n k) s =
    s.act (Instr.retransmission n k).wf (fun y => y.retransmission n k) := rfl
theorem exec_portAbsent (n : Nat) (k : Nat) (s : State) : exec (.portAbsent n k) s =
    s.act (Instr.portAbsent n k).wf (fun y => y.portAbsent n k) := rfl
theorem exec_tadpoleForward (n : Nat) (o : Nat) (bad : Bool) (s : State) : exec (.tadpoleForward n o bad) s =
    s.act (Instr.tadpoleForward n o bad).wf (fun y => y.tadpoleForward n o bad) := rfl
theorem exec_tadpoleRegRead (n : Nat) (s : State) : exec (.tadpoleRegRead n) s =
    s.act (Instr.tadpoleRegRead n).wf (fun y => y.tadRegRead n) := rfl
theorem exec_tadpoleRegWrite (n : Nat) (s : State) : exec (.tadpoleRegWrite n) s =
    s.act (Instr.tadpoleRegWrite n).wf (fun y => y.tadRegWrite n) := rfl
theorem exec_regReply (h : Nat) (s : State) : exec (.regReply h) s =
    s.act (Instr.regReply h).wf (fun y => y.regReply h) := rfl
theorem exec_regReplyTimeout (h : Nat) (s : State) : exec (.regReplyTimeout h) s =
    s.act (Instr.regReplyTimeout h).wf (fun y => y.regReplyTimeout h) := rfl
theorem exec_doorbell (t : Nat) (s : State) : exec (.doorbell t) s =
    s.act (Instr.doorbell t).wf (fun y => y.doorbellMsg t) := rfl
theorem exec_cut (t : Nat) (s : State) : exec (.cut t) s =
    s.act (Instr.cut t).wf (fun y => y.ctrlMsg t 5 (fun x i => x.cut i)) := rfl
theorem exec_ceiling (t : Nat) (s : State) : exec (.ceiling t) s =
    s.act (Instr.ceiling t).wf (fun y => y.ceilingMsg t) := rfl
theorem exec_issueWindow (t : Nat) (wants : List Nat) (s : State) : exec (.issueWindow t wants) s =
    s.act (Instr.issueWindow t wants).wf (fun y => y.onPowered t (fun x => x.issueWindow wants)) := rfl
theorem exec_notice (s : State) : exec (.notice) s =
    s.act Instr.notice.wf (fun y => y.notice) := rfl
theorem exec_stepEnd (s : State) : exec (.stepEnd) s =
    s.act Instr.stepEnd.wf (fun y => y.stepEnd) := rfl
theorem exec_noticeQueueSend (n : Nat) (s : State) : exec (.noticeQueueSend n) s =
    s.act (Instr.noticeQueueSend n).wf (fun y => y.noticeQueueSend n) := rfl
theorem exec_frame (s : State) : exec (.frame) s =
    s.act Instr.frame.wf (fun y => y.frame) := rfl
theorem exec_frameOverdue (j : Nat) (s : State) : exec (.frameOverdue j) s =
    s.act (Instr.frameOverdue j).wf (fun y => y.frameOverdue j) := rfl
theorem exec_epochSwitchStart (s : State) : exec (.epochSwitchStart) s =
    s.act Instr.epochSwitchStart.wf (fun y => y.epochSwitchStart) := rfl
theorem exec_prepare (n : Nat) (s : State) : exec (.prepare n) s =
    s.act (Instr.prepare n).wf (fun y => y.prepare n) := rfl
theorem exec_route (n : Nat) (s : State) : exec (.route n) s =
    s.act (Instr.route n).wf (fun y => y.routeMsg n) := rfl
theorem exec_prepareAck (s : State) : exec (.prepareAck) s =
    s.act Instr.prepareAck.wf (fun y => y.prepareAck) := rfl
theorem exec_prepareAckTimeout (n : Nat) (s : State) : exec (.prepareAckTimeout n) s =
    s.act (Instr.prepareAckTimeout n).wf (fun y => y.prepareLost n) := rfl
theorem exec_commit (n : Nat) (s : State) : exec (.commit n) s =
    s.act (Instr.commit n).wf (fun y => y.commitMsg n) := rfl
theorem exec_commitAck (s : State) : exec (.commitAck) s =
    s.act Instr.commitAck.wf (fun y => y.commitAcked) := rfl
theorem exec_epochDrained (s : State) : exec (.epochDrained) s =
    s.act Instr.epochDrained.wf (fun y => y.epochDrained) := rfl
theorem exec_drainTimeout (n : Nat) (s : State) : exec (.drainTimeout n) s =
    s.act (Instr.drainTimeout n).wf (fun y => y.drainLost n) := rfl
theorem exec_retire (n : Nat) (s : State) : exec (.retire n) s =
    s.act (Instr.retire n).wf (fun y => y.retireMsg n) := rfl
theorem exec_groupPurge (n : Nat) (s : State) : exec (.groupPurge n) s =
    s.act (Instr.groupPurge n).wf (fun y => y.groupPurge n) := rfl
theorem exec_invalidate (t : Nat) (s : State) : exec (.invalidate t) s =
    s.act (Instr.invalidate t).wf (fun y => y.invalidateMsg t) := rfl
theorem exec_invalidateSweepDone (t : Nat) (s : State) : exec (.invalidateSweepDone t) s =
    s.act (Instr.invalidateSweepDone t).wf (fun y => y.invalidateSweepDone t) := rfl
theorem exec_invalidateAck (s : State) : exec (.invalidateAck) s =
    s.act Instr.invalidateAck.wf (fun y => y.invalidateAck) := rfl
theorem exec_invalidateTimeout (t : Nat) (s : State) : exec (.invalidateTimeout t) s =
    s.act (Instr.invalidateTimeout t).wf (fun y => y.invalidateTimeout t) := rfl
theorem exec_syncBroadcast (s : State) : exec (.syncBroadcast) s =
    s.act Instr.syncBroadcast.wf (fun y => y.syncBroadcast) := rfl
theorem exec_sync (n : Nat) (res : Nat) (s : State) : exec (.sync n res) s =
    s.act (Instr.sync n res).wf (fun y => y.sync n res) := rfl
theorem exec_syncMissed (t : Nat) (s : State) : exec (.syncMissed t) s =
    s.act (Instr.syncMissed t).wf (fun y => y.syncMissed t) := rfl
theorem exec_mirrorSlew (n : Nat) (s : State) : exec (.mirrorSlew n) s =
    s.act (Instr.mirrorSlew n).wf (fun y => y.mirrorSlew n) := rfl
theorem exec_delayReq (n : Nat) (p : Nat) (s : State) : exec (.delayReq n p) s =
    s.act (Instr.delayReq n p).wf (fun y => y.delayReq n p) := rfl
theorem exec_delayResp (n : Nat) (p : Nat) (trip : Nat) (s : State) : exec (.delayResp n p trip) s =
    s.act (Instr.delayResp n p trip).wf (fun y => y.delayResp n p trip) := rfl
theorem exec_neighbourSilent (n : Nat) (p : Nat) (s : State) : exec (.neighbourSilent n p) s =
    s.act (Instr.neighbourSilent n p).wf (fun y => y.neighbourSilent n p) := rfl
theorem exec_sendTrackerTimeout (t : Nat) (k : Nat) (s : State) : exec (.sendTrackerTimeout t k) s =
    s.act (Instr.sendTrackerTimeout t k).wf (fun y => y.onTile t (fun x => x.trackerTimeout k)) := rfl
theorem exec_controlWriteTimeout (t : Nat) (s : State) : exec (.controlWriteTimeout t) s =
    s.act (Instr.controlWriteTimeout t).wf (fun y => y.onTile t (fun x => x.controlTimeout)) := rfl
theorem exec_tileXferPurge (t : Nat) (part : Nat) (s : State) : exec (.tileXferPurge t part) s =
    s.act (Instr.tileXferPurge t part).wf (fun y => y.onTile t (fun x => x.purge part)) := rfl
theorem exec_ingestDecode (h : Nat) (n : Nat) (s : State) : exec (.ingestDecode h n) s =
    s.act (Instr.ingestDecode h n).wf (fun y => y.ingestDecode h n) := rfl
theorem exec_itemDelivery (h : Nat) (n : Nat) (s : State) : exec (.itemDelivery h n) s =
    s.act (Instr.itemDelivery h n).wf (fun y => y.itemDelivery h n) := rfl
theorem exec_ethernetFrame (e : Nat) (p : Nat) (sub : Nat) (f : Nat) (len : Nat) (s : State) : exec (.ethernetFrame e p sub f len) s =
    s.act (Instr.ethernetFrame e p sub f len).wf (fun y => y.ethernetFrame e p sub f len) := rfl
theorem exec_egressItem (h : Nat) (n : Nat) (s : State) : exec (.egressItem h n) s =
    s.act (Instr.egressItem h n).wf (fun y => y.egressItem h n) := rfl
theorem exec_hubSqTail (h : Nat) (q : Nat) (tail : Nat) (mem : List (Nat × Nat × Nat)) (bad : List (Nat × Nat)) (s : State) : exec (.hubSqTail h q tail mem bad) s =
    s.act (Instr.hubSqTail h q tail mem bad).wf (fun y => (y.hostSets mem bad).hostWord h 2 (8 * q) tail) := rfl
theorem exec_hubCqHead (h : Nat) (q : Nat) (head : Nat) (s : State) : exec (.hubCqHead h q head) s =
    s.act (Instr.hubCqHead h q head).wf (fun y => y.hostWord h 2 (8 * q + 4) head) := rfl
theorem exec_hubQpCtrlEnable (h : Nat) (q : Nat) (s : State) : exec (.hubQpCtrlEnable h q) s =
    s.act (Instr.hubQpCtrlEnable h q).wf (fun y => y.hostWord h 0 (0x10000 + 0x40 * q + 0x1C) 1) := rfl
theorem exec_hubQpCtrlDisable (h : Nat) (q : Nat) (s : State) : exec (.hubQpCtrlDisable h q) s =
    s.act (Instr.hubQpCtrlDisable h q).wf (fun y => y.hostWord h 0 (0x10000 + 0x40 * q + 0x1C) 2) := rfl
theorem exec_commandFetch (h : Nat) (s : State) : exec (.commandFetch h) s =
    s.act (Instr.commandFetch h).wf (fun y => y.commandFetch h) := rfl
theorem exec_replyWrite (h : Nat) (q : Nat) (s : State) : exec (.replyWrite h q) s =
    s.act (Instr.replyWrite h q).wf (fun y => y.replyRow h q) := rfl
theorem exec_coalesceTimeout (h : Nat) (q : Nat) (s : State) : exec (.coalesceTimeout h q) s =
    s.act (Instr.coalesceTimeout h q).wf (fun y => y.coalesceTimeout h q) := rfl
theorem exec_hubLinkReset (h : Nat) (down : Bool) (s : State) : exec (.hubLinkReset h down) s =
    s.act (Instr.hubLinkReset h down).wf (fun y => y.hubLinkReset h down) := rfl
theorem exec_busMasterClear (h : Nat) (s : State) : exec (.busMasterClear h) s =
    s.act (Instr.busMasterClear h).wf (fun y => y.busMasterClear h) := rfl
theorem exec_hubHostBindHi (h : Nat) (v : Nat) (s : State) : exec (.hubHostBindHi h v) s =
    s.act (Instr.hubHostBindHi h v).wf (fun y => y.hostWord h 0 0x4C v) := rfl
theorem exec_hubStreamFreed (h : Nat) (n : Nat) (v : Nat) (s : State) : exec (.hubStreamFreed h n v) s =
    s.act (Instr.hubStreamFreed h n v).wf (fun y => y.hostWord h 2 (0x100000 + 8 * n + 4) v) := rfl
theorem exec_nop (h : Nat) (q : Nat) (s : State) : exec (.nop h q) s =
    s.act (Instr.nop h q).wf (fun y => y.command h q 0x00 noChecks (now_ (fun s _ => (Reply.ok 0, s)))) := rfl
theorem exec_identify (h : Nat) (q : Nat) (s : State) : exec (.identify h q) s =
    s.act (Instr.identify h q).wf (fun y => y.command h q 0x01 badIdentify (now_ Sys.runIdentify)) := rfl
theorem exec_getFeature (h : Nat) (q : Nat) (s : State) : exec (.getFeature h q) s =
    s.act (Instr.getFeature h q).wf (fun y => y.command h q 0x02 badFeature (now_ Sys.runGetFeature)) := rfl
theorem exec_setFeature (h : Nat) (q : Nat) (s : State) : exec (.setFeature h q) s =
    s.act (Instr.setFeature h q).wf (fun y => y.command h q 0x03 badSetFeature (now_ Sys.runSetFeature)) := rfl
theorem exec_regRead (h : Nat) (q : Nat) (s : State) : exec (.regRead h q) s =
    s.act (Instr.regRead h q).wf (fun y => y.command h q 0x04 (badRegsOn h q) (Sys.runRegs h q)) := rfl
theorem exec_regWrite (h : Nat) (q : Nat) (s : State) : exec (.regWrite h q) s =
    s.act (Instr.regWrite h q).wf (fun y => y.command h q 0x05 (badRegsOn h q) (Sys.runRegs h q)) := rfl
theorem exec_partitionCreate (h : Nat) (q : Nat) (s : State) : exec (.partitionCreate h q) s =
    s.act (Instr.partitionCreate h q).wf (fun y => y.command h q 0x08 badPartCreate (now_ Sys.runPartCreate)) := rfl
theorem exec_partitionDestroy (h : Nat) (q : Nat) (s : State) : exec (.partitionDestroy h q) s =
    s.act (Instr.partitionDestroy h q).wf (fun y => y.command h q 0x09 noChecks (now_ Sys.runPartDestroy)) := rfl
theorem exec_partitionReset (h : Nat) (q : Nat) (s : State) : exec (.partitionReset h q) s =
    s.act (Instr.partitionReset h q).wf (fun y => y.command h q 0x0A noChecks (Sys.runPartReset h q)) := rfl
theorem exec_regionDefine (h : Nat) (q : Nat) (s : State) : exec (.regionDefine h q) s =
    s.act (Instr.regionDefine h q).wf (fun y => y.command h q 0x10 badRegionDefine (Sys.runRegionDefine h q)) := rfl
theorem exec_regionRelease (h : Nat) (q : Nat) (s : State) : exec (.regionRelease h q) s =
    s.act (Instr.regionRelease h q).wf (fun y => y.command h q 0x11 badRegionNumber (Sys.runRegionRelease h q)) := rfl
theorem exec_storeFill (h : Nat) (q : Nat) (s : State) : exec (.storeFill h q) s =
    s.act (Instr.storeFill h q).wf (fun y => y.command h q 0x12 (badStore true) (Sys.runStoreFill h q)) := rfl
theorem exec_storeWrite (h : Nat) (q : Nat) (s : State) : exec (.storeWrite h q) s =
    s.act (Instr.storeWrite h q).wf (fun y => y.command h q 0x13 (badStore false) (now_ Sys.runStoreWrite)) := rfl
theorem exec_storeRead (h : Nat) (q : Nat) (s : State) : exec (.storeRead h q) s =
    s.act (Instr.storeRead h q).wf (fun y => y.command h q 0x14 (badStore false) (now_ Sys.runStoreRead)) := rfl
theorem exec_weightLoad (h : Nat) (q : Nat) (s : State) : exec (.weightLoad h q) s =
    s.act (Instr.weightLoad h q).wf (fun y => y.command h q 0x15 badWeightLoad (now_ Sys.runWeightLoad)) := rfl
theorem exec_codeLoad (h : Nat) (q : Nat) (s : State) : exec (.codeLoad h q) s =
    s.act (Instr.codeLoad h q).wf (fun y => y.command h q 0x18 badCodeLoad (now_ Sys.runCodeLoad)) := rfl
theorem exec_windowOpen (h : Nat) (q : Nat) (s : State) : exec (.windowOpen h q) s =
    s.act (Instr.windowOpen h q).wf (fun y => y.command h q 0x20 badWindowOpen (now_ Sys.runWindowOpen)) := rfl
theorem exec_windowClose (h : Nat) (q : Nat) (s : State) : exec (.windowClose h q) s =
    s.act (Instr.windowClose h q).wf (fun y => y.command h q 0x21 badWindowClose (Sys.runWindowClose h q)) := rfl
theorem exec_mcastGroupSet (h : Nat) (q : Nat) (s : State) : exec (.mcastGroupSet h q) s =
    s.act (Instr.mcastGroupSet h q).wf (fun y => y.groupCommand h q 0x22 badMcast (now_ Sys.runMcast)) := rfl
theorem exec_rgroupSet (h : Nat) (q : Nat) (s : State) : exec (.rgroupSet h q) s =
    s.act (Instr.rgroupSet h q).wf (fun y => y.groupCommand h q 0x23 badRgroup (now_ Sys.runRgroup)) := rfl
theorem exec_streamOpen (h : Nat) (q : Nat) (s : State) : exec (.streamOpen h q) s =
    s.act (Instr.streamOpen h q).wf (fun y => y.command h q 0x28 badStreamOpen (now_ Sys.runStreamOpen)) := rfl
theorem exec_streamClose (h : Nat) (q : Nat) (s : State) : exec (.streamClose h q) s =
    s.act (Instr.streamClose h q).wf (fun y => y.command h q 0x29 badStreamClose (now_ Sys.runStreamClose)) := rfl
theorem exec_jobStart (h : Nat) (q : Nat) (s : State) : exec (.jobStart h q) s =
    s.act (Instr.jobStart h q).wf (fun y => y.command h q 0x30 badJobStart (Sys.runJobStart h q)) := rfl
theorem exec_jobFeed (h : Nat) (q : Nat) (s : State) : exec (.jobFeed h q) s =
    s.act (Instr.jobFeed h q).wf (fun y => y.command h q 0x31 badJobFeed (now_ Sys.runJobFeed)) := rfl
theorem exec_stepCommit (h : Nat) (q : Nat) (s : State) : exec (.stepCommit h q) s =
    s.act (Instr.stepCommit h q).wf (fun y => y.command h q 0x32 badStepCommit (Sys.runStepCommit h q)) := rfl
theorem exec_stepReplay (h : Nat) (q : Nat) (s : State) : exec (.stepReplay h q) s =
    s.act (Instr.stepReplay h q).wf (fun y => y.command h q 0x33 badHandle (Sys.runStepReplay h q)) := rfl
theorem exec_jobStatus (h : Nat) (q : Nat) (s : State) : exec (.jobStatus h q) s =
    s.act (Instr.jobStatus h q).wf (fun y => y.command h q 0x34 badJobStatus (now_ Sys.runJobStatus)) := rfl
theorem exec_jobStop (h : Nat) (q : Nat) (s : State) : exec (.jobStop h q) s =
    s.act (Instr.jobStop h q).wf (fun y => y.command h q 0x35 badHandle (Sys.runJobStop h q)) := rfl
theorem exec_phaseSet (h : Nat) (q : Nat) (s : State) : exec (.phaseSet h q) s =
    s.act (Instr.phaseSet h q).wf (fun y => y.command h q 0x38 badPhaseSet (Sys.runPhaseSet h q)) := rfl
theorem exec_powerQuery (h : Nat) (q : Nat) (s : State) : exec (.powerQuery h q) s =
    s.act (Instr.powerQuery h q).wf (fun y => y.command h q 0x39 badPowerQuery (now_ Sys.runPowerQuery)) := rfl
theorem exec_healthQuery (h : Nat) (q : Nat) (s : State) : exec (.healthQuery h q) s =
    s.act (Instr.healthQuery h q).wf (fun y => y.command h q 0x40 badUnitBuffer (now_ Sys.runHealthQuery)) := rfl
theorem exec_unitShed (h : Nat) (q : Nat) (s : State) : exec (.unitShed h q) s =
    s.act (Instr.unitShed h q).wf (fun y => y.command h q 0x41 badUnit (Sys.runUnitShed h q)) := rfl
theorem exec_unitRegrow (h : Nat) (q : Nat) (pass : Bool) (s : State) : exec (.unitRegrow h q pass) s =
    s.act (Instr.unitRegrow h q pass).wf (fun y => y.command h q 0x42 badRegrow (now_ (Sys.runUnitRegrow pass))) := rfl
theorem exec_unitWatchClear (h : Nat) (q : Nat) (s : State) : exec (.unitWatchClear h q) s =
    s.act (Instr.unitWatchClear h q).wf (fun y => y.command h q 0x43 badUnit (now_ Sys.runWatchClear)) := rfl
theorem exec_logRead (h : Nat) (q : Nat) (s : State) : exec (.logRead h q) s =
    s.act (Instr.logRead h q).wf (fun y => y.command h q 0x48 badLogRead (now_ Sys.runLogRead)) := rfl
theorem exec_timeSync (h : Nat) (q : Nat) (s : State) : exec (.timeSync h q) s =
    s.act (Instr.timeSync h q).wf (fun y => y.command h q 0x49 noChecks (now_ Sys.runTimeSync)) := rfl
theorem exec_configRead (h : Nat) (q : FlashPair) (s : State) : exec (.configRead h q) s =
    s.act (Instr.configRead h q).wf (fun y => y.command h q.pair 0x50 badConfigRead (now_ (flashed q.fail Sys.runConfigRead))) := rfl
theorem exec_configWrite (h : Nat) (q : FlashPair) (s : State) : exec (.configWrite h q) s =
    s.act (Instr.configWrite h q).wf (fun y =>
    y.command h q.pair 0x51 badConfigWrite (now_ (flashed q.fail Sys.runConfigWrite))) := rfl
theorem exec_firmwareStage (h : Nat) (q : FlashPair) (s : State) : exec (.firmwareStage h q) s =
    s.act (Instr.firmwareStage h q).wf (fun y => y.command h q.pair 0x52 badStage (now_ (flashed q.fail Sys.runStage))) := rfl
theorem exec_firmwareActivate (h : Nat) (q : FlashPair) (s : State) : exec (.firmwareActivate h q) s =
    s.act (Instr.firmwareActivate h q).wf (fun y => y.command h q.pair 0x53 noChecks (now_ (flashed q.fail Sys.runActivate))) := rfl
theorem exec_linkQuery (h : Nat) (q : Nat) (s : State) : exec (.linkQuery h q) s =
    s.act (Instr.linkQuery h q).wf (fun y => y.command h q 0x58 badLinkQuery (now_ Sys.runLinkQuery)) := rfl
theorem exec_commitSweepDone (j : Nat) (s : State) : exec (.commitSweepDone j) s =
    s.act (Instr.commitSweepDone j).wf (fun y => y.commitSweepDone j) := rfl
theorem exec_freezeTimeout (t : Nat) (k : Nat) (s : State) : exec (.freezeTimeout t k) s =
    s.act (Instr.freezeTimeout t k).wf (fun y => y.freezeTimeout t k) := rfl
theorem exec_tileRebuild (t : Nat) (s : State) : exec (.tileRebuild t) s =
    s.act (Instr.tileRebuild t).wf (fun y => y.tileRebuild t) := rfl
theorem exec_slotReadyTimeout (t : Nat) (k : Nat) (s : State) : exec (.slotReadyTimeout t k) s =
    s.act (Instr.slotReadyTimeout t k).wf (fun y => y.slotReadyTimeout t k) := rfl
theorem exec_drain (kind : Nat) (wher : Nat) (sub : Nat) (s : State) : exec (.drain kind wher sub) s =
    s.act (Instr.drain kind wher sub).wf (fun y => y.drain kind wher sub) := rfl
theorem exec_drainLimit (kind : Nat) (wher : Nat) (sub : Nat) (s : State) : exec (.drainLimit kind wher sub) s =
    s.act (Instr.drainLimit kind wher sub).wf (fun y => y.drainLimit kind wher sub) := rfl
theorem exec_healthSample (s : State) : exec (.healthSample) s =
    s.act Instr.healthSample.wf (fun y => y.healthSample) := rfl
theorem exec_healthRingWrite (s : State) : exec (.healthRingWrite) s =
    s.act Instr.healthRingWrite.wf (fun y => y.healthRing) := rfl
theorem exec_scoreFreezeEnd (s : State) : exec (.scoreFreezeEnd) s =
    s.act Instr.scoreFreezeEnd.wf (fun y => y.scoreFreezeEnd) := rfl
theorem exec_hubHeartbeat (h : Nat) (s : State) : exec (.hubHeartbeat h) s =
    s.act (Instr.hubHeartbeat h).wf (fun y => y.hubHeartbeat h) := rfl
theorem exec_hubLost (h : Nat) (s : State) : exec (.hubLost h) s =
    s.act (Instr.hubLost h).wf (fun y => y.hubLost h) := rfl
theorem exec_feedQualify (f : Nat) (volts : Nat) (ns : Nat) (s : State) : exec (.feedQualify f volts ns) s =
    s.act (Instr.feedQualify f volts ns).wf (fun y => y.feedQualify f volts ns) := rfl
theorem exec_feedDrop (f : Nat) (volts : Nat) (ns : Nat) (s : State) : exec (.feedDrop f volts ns) s =
    s.act (Instr.feedDrop f volts ns).wf (fun y => y.feedDrop f volts ns) := rfl
theorem exec_ibcFault (n : Nat) (s : State) : exec (.ibcFault n) s =
    s.act (Instr.ibcFault n).wf (fun y => y.ibcFault n) := rfl
theorem exec_domainShort (d : Nat) (s : State) : exec (.domainShort d) s =
    s.act (Instr.domainShort d).wf (fun y => y.domainShort d) := rfl
theorem exec_pmcAllocate (r : PmcReading) (s : State) : exec (.pmcAllocate r) s =
    s.act (Instr.pmcAllocate r).wf (fun y => y.pmcAllocate r) := rfl
theorem exec_tileShort (t : Nat) (s : State) : exec (.tileShort t) s =
    s.act (Instr.tileShort t).wf (fun y => y.tileDown t ncTileShort) := rfl
theorem exec_thermalTrip (t : Nat) (s : State) : exec (.thermalTrip t) s =
    s.act (Instr.thermalTrip t).wf (fun y => y.tileDown t ncThermalTrip) := rfl
theorem exec_droopAlarm (t : Nat) (m : Nat) (sample : Nat) (s : State) : exec (.droopAlarm t m sample) s =
    s.act (Instr.droopAlarm t m sample).wf (fun y => y.onPowered t (fun x => x.droopSample m sample)) := rfl
theorem exec_tileDroopRearm (t : Nat) (m : Nat) (sample : Nat) (s : State) : exec (.tileDroopRearm t m sample) s =
    s.act (Instr.tileDroopRearm t m sample).wf (fun y => y.onPowered t (fun x => x.droopRearm m sample)) := rfl
theorem exec_crackStepJudge (t : Nat) (qd : Nat) (di : Nat) (dv : Nat) (s : State) : exec (.crackStepJudge t qd di dv) s =
    s.act (Instr.crackStepJudge t qd di dv).wf (fun y => y.crackStepJudge t qd di dv) := rfl
theorem exec_crackPhaseCheck (t : Nat) (phases : List Nat) (s : State) : exec (.crackPhaseCheck t phases) s =
    s.act (Instr.crackPhaseCheck t phases).wf (fun y => y.onPowered t (fun x => x.crackPhases phases)) := rfl
theorem exec_regionPowerUp (d : Nat) (s : State) : exec (.regionPowerUp d) s =
    s.act (Instr.regionPowerUp d).wf (fun y => y.regionPowerUp d) := rfl
theorem exec_powerupResume (s : State) : exec (.powerupResume) s =
    s.act Instr.powerupResume.wf (fun y => y.powerupResume) := rfl
theorem exec_powerupRelease (s : State) : exec (.powerupRelease) s =
    s.act Instr.powerupRelease.wf (fun y => y.powerupRelease) := rfl
theorem exec_currentTrip (t : Nat) (amps : Nat) (s : State) : exec (.currentTrip t amps) s =
    s.act (Instr.currentTrip t amps).wf (fun y => y.onPowered t (fun x => x.currentTrip amps)) := rfl
theorem exec_tripClear (t : Nat) (ns : Nat) (s : State) : exec (.tripClear t ns) s =
    s.act (Instr.tripClear t ns).wf (fun y => y.onPowered t (fun x => x.tripClear ns)) := rfl
theorem exec_oppGrant (s : State) : exec (.oppGrant) s =
    s.act Instr.oppGrant.wf (fun y => y.oppGrant) := rfl
theorem exec_oppChange (j : Nat) (s : State) : exec (.oppChange j) s =
    s.act (Instr.oppChange j).wf (fun y => y.oppChange j) := rfl
theorem exec_setPowerCap (cap : Nat) (hb : Nat) (s : State) : exec (.setPowerCap cap hb) s =
    s.act (Instr.setPowerCap cap hb).wf (fun y => y.setPowerCap cap hb) := rfl
theorem exec_getPowerReading (s : State) : exec (.getPowerReading) s =
    s.act Instr.getPowerReading.wf (fun y => y.getPowerReading) := rfl
theorem exec_heartbeat (s : State) : exec (.heartbeat) s =
    s.act Instr.heartbeat.wf (fun y => y.heartbeat) := rfl
theorem exec_getTid (s : State) : exec (.getTid) s =
    s.act Instr.getTid.wf (fun y => y.pldmBase 2) := rfl
theorem exec_getPldmVersion (s : State) : exec (.getPldmVersion) s =
    s.act Instr.getPldmVersion.wf (fun y => y.pldmBase 3) := rfl
theorem exec_getPldmTypes (s : State) : exec (.getPldmTypes) s =
    s.act Instr.getPldmTypes.wf (fun y => y.pldmBase 4) := rfl
theorem exec_getPldmCommands (s : State) : exec (.getPldmCommands) s =
    s.act Instr.getPldmCommands.wf (fun y => y.pldmBase 5) := rfl
theorem exec_contactLost (s : State) : exec (.contactLost) s =
    s.act Instr.contactLost.wf (fun y => y.contactLost) := rfl
theorem exec_safeCapEntry (s : State) : exec (.safeCapEntry) s =
    s.act Instr.safeCapEntry.wf (fun y => y.safeCapEntry) := rfl
theorem exec_coolantSample (good : Bool) (inlet : Nat) (outlet : Nat) (flow : Nat) (status : Nat) (sq : Nat) (s : State) : exec (.coolantSample good inlet outlet flow status sq) s =
    s.act (Instr.coolantSample good inlet outlet flow status sq).wf (fun y => y.coolantSample good inlet outlet flow status sq) := rfl
theorem exec_pumpFaultN (level : Bool) (s : State) : exec (.pumpFaultN level) s =
    s.act (Instr.pumpFaultN level).wf (fun y => y.pumpFaultN level) := rfl
theorem exec_slowFallAlert (rise : Int) (s : State) : exec (.slowFallAlert rise) s =
    s.act (Instr.slowFallAlert rise).wf (fun y => y.slowFallAlert rise) := rfl
theorem exec_heatBalanceCheck (s : State) : exec (.heatBalanceCheck) s =
    s.act Instr.heatBalanceCheck.wf (fun y => y.heatBalance) := rfl
theorem exec_tileTempSample (t : Nat) (temps : List Nat) (rise : Int) (s : State) : exec (.tileTempSample t temps rise) s =
    s.act (Instr.tileTempSample t temps rise).wf (fun y => y.onPowered t (fun x => x.tempSample temps rise)) := rfl
theorem exec_thermalLimit (t : Nat) (s : State) : exec (.thermalLimit t) s =
    s.act (Instr.thermalLimit t).wf (fun y => y.onPowered t (fun x => x.thermalLimit)) := rfl
theorem exec_holdRestore (s : State) : exec (.holdRestore) s =
    s.act Instr.holdRestore.wf (fun y => y.holdRestore) := rfl
theorem exec_coolingPowerDown (s : State) : exec (.coolingPowerDown) s =
    s.act Instr.coolingPowerDown.wf (fun y => y.coolingPowerDown) := rfl
theorem exec_coolingPowerRestore (s : State) : exec (.coolingPowerRestore) s =
    s.act Instr.coolingPowerRestore.wf (fun y => y.coolingPowerRestore) := rfl
theorem exec_laserSample (e : Nat) (las : Nat) (power : Nat) (ok : Bool) (s : State) : exec (.laserSample e las power ok) s =
    s.act (Instr.laserSample e las power ok).wf (fun y => y.laserSample e las power ok) := rfl
theorem exec_linkTraining (t : Nat) (p : Nat) (here : LaneTest) (there : LaneTest) (s : State) : exec (.linkTraining t p here there) s =
    s.act (Instr.linkTraining t p here there).wf (fun y => y.linkTraining t p here there) := rfl
theorem exec_retrain (t : Nat) (p : Nat) (s : State) : exec (.retrain t p) s =
    s.act (Instr.retrain t p).wf (fun y => y.retrain t p) := rfl
theorem exec_linkUp (t : Nat) (p : Nat) (ns : Nat) (s : State) : exec (.linkUp t p ns) s =
    s.act (Instr.linkUp t p ns).wf (fun y => y.linkUp t p ns) := rfl
theorem exec_laneLockLost (t : Nat) (p : Nat) (s : State) : exec (.laneLockLost t p) s =
    s.act (Instr.laneLockLost t p).wf (fun y => y.laneLockLost t p) := rfl
theorem exec_siluaTraining (e : Nat) (p : Nat) (lanes : Nat) (partner : Nat) (version : Nat) (s : State) : exec (.siluaTraining e p lanes partner version) s =
    s.act (Instr.siluaTraining e p lanes partner version).wf (fun y => y.siluaTraining e p lanes partner version) := rfl
theorem exec_cell (e : Nat) (p : Nat) (c : Cell) (sym : Nat) (s : State) : exec (.cell e p c sym) s =
    s.act (Instr.cell e p c sym).wf (fun y => y.cellIn e p c sym) := rfl
theorem exec_returnMapExpiry (e : Nat) (s : State) : exec (.returnMapExpiry e) s =
    s.act (Instr.returnMapExpiry e).wf (fun y => y.returnExpiry e) := rfl
theorem exec_coldReset (s : State) : exec (.coldReset) s =
    s.act Instr.coldReset.wf (fun y => y.coldReset) := rfl
theorem exec_bootStep (h : Nat) (res : BootRes) (s : State) : exec (.bootStep h res) s =
    s.act (Instr.bootStep h res).wf (fun y => y.bootStep h res) := rfl
theorem exec_bootStepTimeout (h : Nat) (s : State) : exec (.bootStepTimeout h) s =
    s.act (Instr.bootStepTimeout h).wf (fun y => y.bootStepTimeout h) := rfl
theorem exec_panelReset (h : Nat) (s : State) : exec (.panelReset h) s =
    s.act (Instr.panelReset h).wf (fun y => y.hostWord h 0 0x50808 1) := rfl
theorem exec_bootWatchdog (h : Nat) (s : State) : exec (.bootWatchdog h) s =
    s.act (Instr.bootWatchdog h).wf (fun y => y.bootWatchdog h) := rfl
theorem exec_leadClaim (h : Nat) (s : State) : exec (.leadClaim h) s =
    s.act (Instr.leadClaim h).wf (fun y => y.leadClaim h) := rfl
theorem exec_leadClaimTimeout (s : State) : exec (.leadClaimTimeout) s =
    s.act Instr.leadClaimTimeout.wf (fun y => y.leadClaimTimeout) := rfl
theorem exec_hubJoin (h : Nat) (s : State) : exec (.hubJoin h) s =
    s.act (Instr.hubJoin h).wf (fun y => y.hubJoin h) := rfl
theorem exec_hubBootRecoveryGo (h : Nat) (s : State) : exec (.hubBootRecoveryGo h) s =
    s.act (Instr.hubBootRecoveryGo h).wf (fun y => y.hostWord h 0 0x5081C 1) := rfl
theorem exec_referenceLoss (n : Nat) (s : State) : exec (.referenceLoss n) s =
    s.act (Instr.referenceLoss n).wf (fun y => y.referenceLoss n) := rfl
theorem exec_debugChallenge (h : Nat) (s : State) : exec (.debugChallenge h) s =
    s.act (Instr.debugChallenge h).wf (fun y => y.debugChallenge h) := rfl
theorem exec_debugToken (h : Nat) (sr : Nat) (st : Nat) (s : State) : exec (.debugToken h sr st) s =
    s.act (Instr.debugToken h sr st).wf (fun y => y.debugToken h sr st) := rfl
theorem exec_panelTimeLo (h : Nat) (s : State) : exec (.panelTimeLo h) s =
    s.act (Instr.panelTimeLo h).wf (fun y => y.readClear 1 h 0x18) := rfl
theorem exec_hubEventStatus (h : Nat) (v : Nat) (s : State) : exec (.hubEventStatus h v) s =
    s.act (Instr.hubEventStatus h v).wf (fun y => y.hostWord h 0 0x104 v) := rfl
theorem exec_hubEventMask (h : Nat) (v : Nat) (s : State) : exec (.hubEventMask h v) s =
    s.act (Instr.hubEventMask h v).wf (fun y => y.hostWord h 0 0x108 v) := rfl
theorem exec_hubEventCfg (h : Nat) (v : Nat) (s : State) : exec (.hubEventCfg h v) s =
    s.act (Instr.hubEventCfg h v).wf (fun y => y.hostWord h 0 0x100 v) := rfl
theorem exec_hubEvent (h : Nat) (bit : Nat) (s : State) : exec (.hubEvent h bit) s =
    s.act (Instr.hubEvent h bit).wf (fun y => y.event h bit) := rfl
theorem exec_straightRecalibration (n : Nat) (wg : Calibration) (s : State) : exec (.straightRecalibration n wg) s =
    s.act (Instr.straightRecalibration n wg).wf (fun y => y.recalibration n wg.live wg.ends) := rfl
theorem exec_replayRewind (j : Nat) (s : State) : exec (.replayRewind j) s =
    s.act (Instr.replayRewind j).wf (fun y => y.replayRewind j) := rfl
theorem exec_pcieLinkTraining (h : Nat) (rate : Nat) (width : Nat) (s : State) : exec (.pcieLinkTraining h rate width) s =
    s.act (Instr.pcieLinkTraining h rate width).wf (fun y => y.pcieTraining h rate width) := rfl
theorem exec_msixVectorUnmask (h : Nat) (v : Nat) (s : State) : exec (.msixVectorUnmask h v) s =
    s.act (Instr.msixVectorUnmask h v).wf (fun y => y.msixUnmask h v) := rfl
theorem exec_barAccess (h : Nat) (bar : Nat) (off : Nat) (n : Nat) (wr : Bool) (v : Nat) (s : State) : exec (.barAccess h bar off n wr v) s =
    s.act (Instr.barAccess h bar off n wr v).wf (fun y => y.barAccess h bar off n wr v) := rfl
theorem exec_debugAccess (h : Nat) (kind : Nat) (a : Nat) (b : Nat) (v : Nat) (s : State) : exec (.debugAccess h kind a b v) s =
    s.act (Instr.debugAccess h kind a b v).wf (fun y => y.debugAccess h kind a b v) := rfl
theorem exec_standbyRailLoss (s : State) : exec (.standbyRailLoss) s =
    s.act Instr.standbyRailLoss.wf (fun y => y.standbyLoss) := rfl
theorem exec_unsupportedPldmCmd (code : Nat) (s : State) : exec (.unsupportedPldmCmd code) s =
    s.act (Instr.unsupportedPldmCmd code).wf (fun y => y.pldmOther code) := rfl

/-- Every row of the command table is one effect on the panel, done where the command is well formed. -/
theorem exec_act (i : Instr) (s : State) : ∃ f, exec i s = s.act i.wf f := by
  cases i with
  | scalarInstruction t k cc ram => exact ⟨_, exec_scalarInstruction t k cc ram s⟩
  | narrowLoad t k cc f3 rd rs1 imm => exact ⟨_, exec_narrowLoad t k cc f3 rd rs1 imm s⟩
  | narrowStore t k cc f3 rs2 rs1 imm => exact ⟨_, exec_narrowStore t k cc f3 rs2 rs1 imm s⟩
  | narrowStoreSend t k => exact ⟨_, exec_narrowStoreSend t k s⟩
  | interruptTaken t k => exact ⟨_, exec_interruptTaken t k s⟩
  | machineTimer t k => exact ⟨_, exec_machineTimer t k s⟩
  | enq t k cc rd rs1 eq => exact ⟨_, exec_enq t k cc rd rs1 eq s⟩
  | enql t k cc rd rs1 rs2 eq => exact ⟨_, exec_enql t k cc rd rs1 rs2 eq s⟩
  | qfree t k cc rd eq => exact ⟨_, exec_qfree t k cc rd eq s⟩
  | tokrd t k cc rd rs1 => exact ⟨_, exec_tokrd t k cc rd rs1 s⟩
  | tokinc t k cc rs1 rs2 => exact ⟨_, exec_tokinc t k cc rs1 rs2 s⟩
  | toktry t k cc rd rs1 rs2 => exact ⟨_, exec_toktry t k cc rd rs1 rs2 s⟩
  | lapidx t k cc rd => exact ⟨_, exec_lapidx t k cc rd s⟩
  | sequencerIssue t k => exact ⟨_, exec_sequencerIssue t k s⟩
  | run t k => exact ⟨_, exec_run t k s⟩
  | halt t k => exact ⟨_, exec_halt t k s⟩
  | lapStart t k msg => exact ⟨_, exec_lapStart t k msg s⟩
  | lapStop t k msg => exact ⟨_, exec_lapStop t k msg s⟩
  | freeze t k msg => exact ⟨_, exec_freeze t k msg s⟩
  | thaw t k msg => exact ⟨_, exec_thaw t k msg s⟩
  | lapZeroBegin t k => exact ⟨_, exec_lapZeroBegin t k s⟩
  | lapBoundary t k timing => exact ⟨_, exec_lapBoundary t k timing s⟩
  | doorbellHi t k => exact ⟨_, exec_doorbellHi t k s⟩
  | readClear space unit off => exact ⟨_, exec_readClear space unit off s⟩
  | registerWrite space unit off v => exact ⟨_, exec_registerWrite space unit off v s⟩
  | tokenDeadlock t k => exact ⟨_, exec_tokenDeadlock t k s⟩
  | mm t k starved => exact ⟨_, exec_mm t k starved s⟩
  | accClear t k => exact ⟨_, exec_accClear t k s⟩
  | accOut t k => exact ⟨_, exec_accOut t k s⟩
  | macroLoad t k => exact ⟨_, exec_macroLoad t k s⟩
  | convert t k starved => exact ⟨_, exec_convert t k starved s⟩
  | binary t k starved => exact ⟨_, exec_binary t k starved s⟩
  | unary t k starved => exact ⟨_, exec_unary t k starved s⟩
  | reduce t k starved => exact ⟨_, exec_reduce t k starved s⟩
  | softmaxStats t k starved => exact ⟨_, exec_softmaxStats t k starved s⟩
  | softmaxApply t k starved => exact ⟨_, exec_softmaxApply t k starved s⟩
  | normStats t k starved => exact ⟨_, exec_normStats t k starved s⟩
  | normApply t k starved => exact ⟨_, exec_normApply t k starved s⟩
  | pool t k starved => exact ⟨_, exec_pool t k starved s⟩
  | transpose t k starved => exact ⟨_, exec_transpose t k starved s⟩
  | gather t k starved => exact ⟨_, exec_gather t k starved s⟩
  | scatter t k starved => exact ⟨_, exec_scatter t k starved s⟩
  | copy t k => exact ⟨_, exec_copy t k s⟩
  | send t k => exact ⟨_, exec_send t k s⟩
  | mcast t k => exact ⟨_, exec_mcast t k s⟩
  | reduceSend t k => exact ⟨_, exec_reduceSend t k s⟩
  | streamSet t k => exact ⟨_, exec_streamSet t k s⟩
  | streamLoop t k => exact ⟨_, exec_streamLoop t k s⟩
  | streamGo t k => exact ⟨_, exec_streamGo t k s⟩
  | streamStop t k => exact ⟨_, exec_streamStop t k s⟩
  | descriptorCompletion t k which => exact ⟨_, exec_descriptorCompletion t k which s⟩
  | streamFetchLap t k st n => exact ⟨_, exec_streamFetchLap t k st n s⟩
  | pacerRowLand t k st f src => exact ⟨_, exec_pacerRowLand t k st f src s⟩
  | leapfrogPeriod t est => exact ⟨_, exec_leapfrogPeriod t est s⟩
  | preloadComplete t flips => exact ⟨_, exec_preloadComplete t flips s⟩
  | leapfrogAbandon t => exact ⟨_, exec_leapfrogAbandon t s⟩
  | coreUnitFault t c cause => exact ⟨_, exec_coreUnitFault t c cause s⟩
  | takeoverReady t flips => exact ⟨_, exec_takeoverReady t flips s⟩
  | auditSweep t => exact ⟨_, exec_auditSweep t s⟩
  | macroAudit t flips => exact ⟨_, exec_macroAudit t flips s⟩
  | auditReload t flips => exact ⟨_, exec_auditReload t flips s⟩
  | correctionWriteBack t bank => exact ⟨_, exec_correctionWriteBack t bank s⟩
  | reconstruction t => exact ⟨_, exec_reconstruction t s⟩
  | parityLatchCommit t bank => exact ⟨_, exec_parityLatchCommit t bank s⟩
  | storeFillDone t => exact ⟨_, exec_storeFillDone t s⟩
  | regionReleaseDone t n => exact ⟨_, exec_regionReleaseDone t n s⟩
  | scrubPassStart t => exact ⟨_, exec_scrubPassStart t s⟩
  | scrubRead t ups => exact ⟨_, exec_scrubRead t ups s⟩
  | liveRemap t => exact ⟨_, exec_liveRemap t s⟩
  | fieldRowMapUpdate t => exact ⟨_, exec_fieldRowMapUpdate t s⟩
  | watchEntryExpiry t bank => exact ⟨_, exec_watchEntryExpiry t bank s⟩
  | tileProtInjectArm t v => exact ⟨_, exec_tileProtInjectArm t v s⟩
  | routerReceive n p bad => exact ⟨_, exec_routerReceive n p bad s⟩
  | routerForward n o ecc => exact ⟨_, exec_routerForward n o ecc s⟩
  | escapeEntry n p c nc => exact ⟨_, exec_escapeEntry n p c nc s⟩
  | controlWord n p good begins => exact ⟨_, exec_controlWord n p good begins s⟩
  | linkFail n p => exact ⟨_, exec_linkFail n p s⟩
  | drainCountZero n => exact ⟨_, exec_drainCountZero n s⟩
  | write n src => exact ⟨_, exec_write n src s⟩
  | shortWrite n => exact ⟨_, exec_shortWrite n s⟩
  | readReq n => exact ⟨_, exec_readReq n s⟩
  | readResp n => exact ⟨_, exec_readResp n s⟩
  | controlWrite n => exact ⟨_, exec_controlWrite n s⟩
  | ack n => exact ⟨_, exec_ack n s⟩
  | nack n => exact ⟨_, exec_nack n s⟩
  | reducePacket n p => exact ⟨_, exec_reducePacket n p s⟩
  | reduceStall n p nc => exact ⟨_, exec_reduceStall n p nc s⟩
  | frameLaunch n k => exact ⟨_, exec_frameLaunch n k s⟩
  | mcastFrame n k sender bad => exact ⟨_, exec_mcastFrame n k sender bad s⟩
  | carriedFrame n k sender bad => exact ⟨_, exec_carriedFrame n k sender bad s⟩
  | relayForward n k => exact ⟨_, exec_relayForward n k s⟩
  | statusSlot n k good => exact ⟨_, exec_statusSlot n k good s⟩
  | retransmission n k => exact ⟨_, exec_retransmission n k s⟩
  | portAbsent n k => exact ⟨_, exec_portAbsent n k s⟩
  | tadpoleForward n o bad => exact ⟨_, exec_tadpoleForward n o bad s⟩
  | tadpoleRegRead n => exact ⟨_, exec_tadpoleRegRead n s⟩
  | tadpoleRegWrite n => exact ⟨_, exec_tadpoleRegWrite n s⟩
  | regReply h => exact ⟨_, exec_regReply h s⟩
  | regReplyTimeout h => exact ⟨_, exec_regReplyTimeout h s⟩
  | doorbell t => exact ⟨_, exec_doorbell t s⟩
  | cut t => exact ⟨_, exec_cut t s⟩
  | ceiling t => exact ⟨_, exec_ceiling t s⟩
  | issueWindow t wants => exact ⟨_, exec_issueWindow t wants s⟩
  | notice => exact ⟨_, exec_notice s⟩
  | stepEnd => exact ⟨_, exec_stepEnd s⟩
  | noticeQueueSend n => exact ⟨_, exec_noticeQueueSend n s⟩
  | frame => exact ⟨_, exec_frame s⟩
  | frameOverdue j => exact ⟨_, exec_frameOverdue j s⟩
  | epochSwitchStart => exact ⟨_, exec_epochSwitchStart s⟩
  | prepare n => exact ⟨_, exec_prepare n s⟩
  | route n => exact ⟨_, exec_route n s⟩
  | prepareAck => exact ⟨_, exec_prepareAck s⟩
  | prepareAckTimeout n => exact ⟨_, exec_prepareAckTimeout n s⟩
  | commit n => exact ⟨_, exec_commit n s⟩
  | commitAck => exact ⟨_, exec_commitAck s⟩
  | epochDrained => exact ⟨_, exec_epochDrained s⟩
  | drainTimeout n => exact ⟨_, exec_drainTimeout n s⟩
  | retire n => exact ⟨_, exec_retire n s⟩
  | groupPurge n => exact ⟨_, exec_groupPurge n s⟩
  | invalidate t => exact ⟨_, exec_invalidate t s⟩
  | invalidateSweepDone t => exact ⟨_, exec_invalidateSweepDone t s⟩
  | invalidateAck => exact ⟨_, exec_invalidateAck s⟩
  | invalidateTimeout t => exact ⟨_, exec_invalidateTimeout t s⟩
  | syncBroadcast => exact ⟨_, exec_syncBroadcast s⟩
  | sync n res => exact ⟨_, exec_sync n res s⟩
  | syncMissed t => exact ⟨_, exec_syncMissed t s⟩
  | mirrorSlew n => exact ⟨_, exec_mirrorSlew n s⟩
  | delayReq n p => exact ⟨_, exec_delayReq n p s⟩
  | delayResp n p trip => exact ⟨_, exec_delayResp n p trip s⟩
  | neighbourSilent n p => exact ⟨_, exec_neighbourSilent n p s⟩
  | sendTrackerTimeout t k => exact ⟨_, exec_sendTrackerTimeout t k s⟩
  | controlWriteTimeout t => exact ⟨_, exec_controlWriteTimeout t s⟩
  | tileXferPurge t part => exact ⟨_, exec_tileXferPurge t part s⟩
  | ingestDecode h n => exact ⟨_, exec_ingestDecode h n s⟩
  | itemDelivery h n => exact ⟨_, exec_itemDelivery h n s⟩
  | ethernetFrame e p sub f len => exact ⟨_, exec_ethernetFrame e p sub f len s⟩
  | egressItem h n => exact ⟨_, exec_egressItem h n s⟩
  | hubSqTail h q tail mem bad => exact ⟨_, exec_hubSqTail h q tail mem bad s⟩
  | hubCqHead h q head => exact ⟨_, exec_hubCqHead h q head s⟩
  | hubQpCtrlEnable h q => exact ⟨_, exec_hubQpCtrlEnable h q s⟩
  | hubQpCtrlDisable h q => exact ⟨_, exec_hubQpCtrlDisable h q s⟩
  | commandFetch h => exact ⟨_, exec_commandFetch h s⟩
  | replyWrite h q => exact ⟨_, exec_replyWrite h q s⟩
  | coalesceTimeout h q => exact ⟨_, exec_coalesceTimeout h q s⟩
  | hubLinkReset h down => exact ⟨_, exec_hubLinkReset h down s⟩
  | busMasterClear h => exact ⟨_, exec_busMasterClear h s⟩
  | hubHostBindHi h v => exact ⟨_, exec_hubHostBindHi h v s⟩
  | hubStreamFreed h n v => exact ⟨_, exec_hubStreamFreed h n v s⟩
  | nop h q => exact ⟨_, exec_nop h q s⟩
  | identify h q => exact ⟨_, exec_identify h q s⟩
  | getFeature h q => exact ⟨_, exec_getFeature h q s⟩
  | setFeature h q => exact ⟨_, exec_setFeature h q s⟩
  | regRead h q => exact ⟨_, exec_regRead h q s⟩
  | regWrite h q => exact ⟨_, exec_regWrite h q s⟩
  | partitionCreate h q => exact ⟨_, exec_partitionCreate h q s⟩
  | partitionDestroy h q => exact ⟨_, exec_partitionDestroy h q s⟩
  | partitionReset h q => exact ⟨_, exec_partitionReset h q s⟩
  | regionDefine h q => exact ⟨_, exec_regionDefine h q s⟩
  | regionRelease h q => exact ⟨_, exec_regionRelease h q s⟩
  | storeFill h q => exact ⟨_, exec_storeFill h q s⟩
  | storeWrite h q => exact ⟨_, exec_storeWrite h q s⟩
  | storeRead h q => exact ⟨_, exec_storeRead h q s⟩
  | weightLoad h q => exact ⟨_, exec_weightLoad h q s⟩
  | codeLoad h q => exact ⟨_, exec_codeLoad h q s⟩
  | windowOpen h q => exact ⟨_, exec_windowOpen h q s⟩
  | windowClose h q => exact ⟨_, exec_windowClose h q s⟩
  | mcastGroupSet h q => exact ⟨_, exec_mcastGroupSet h q s⟩
  | rgroupSet h q => exact ⟨_, exec_rgroupSet h q s⟩
  | streamOpen h q => exact ⟨_, exec_streamOpen h q s⟩
  | streamClose h q => exact ⟨_, exec_streamClose h q s⟩
  | jobStart h q => exact ⟨_, exec_jobStart h q s⟩
  | jobFeed h q => exact ⟨_, exec_jobFeed h q s⟩
  | stepCommit h q => exact ⟨_, exec_stepCommit h q s⟩
  | stepReplay h q => exact ⟨_, exec_stepReplay h q s⟩
  | jobStatus h q => exact ⟨_, exec_jobStatus h q s⟩
  | jobStop h q => exact ⟨_, exec_jobStop h q s⟩
  | phaseSet h q => exact ⟨_, exec_phaseSet h q s⟩
  | powerQuery h q => exact ⟨_, exec_powerQuery h q s⟩
  | healthQuery h q => exact ⟨_, exec_healthQuery h q s⟩
  | unitShed h q => exact ⟨_, exec_unitShed h q s⟩
  | unitRegrow h q pass => exact ⟨_, exec_unitRegrow h q pass s⟩
  | unitWatchClear h q => exact ⟨_, exec_unitWatchClear h q s⟩
  | logRead h q => exact ⟨_, exec_logRead h q s⟩
  | timeSync h q => exact ⟨_, exec_timeSync h q s⟩
  | configRead h q => exact ⟨_, exec_configRead h q s⟩
  | configWrite h q => exact ⟨_, exec_configWrite h q s⟩
  | firmwareStage h q => exact ⟨_, exec_firmwareStage h q s⟩
  | firmwareActivate h q => exact ⟨_, exec_firmwareActivate h q s⟩
  | linkQuery h q => exact ⟨_, exec_linkQuery h q s⟩
  | commitSweepDone j => exact ⟨_, exec_commitSweepDone j s⟩
  | freezeTimeout t k => exact ⟨_, exec_freezeTimeout t k s⟩
  | tileRebuild t => exact ⟨_, exec_tileRebuild t s⟩
  | slotReadyTimeout t k => exact ⟨_, exec_slotReadyTimeout t k s⟩
  | drain kind wher sub => exact ⟨_, exec_drain kind wher sub s⟩
  | drainLimit kind wher sub => exact ⟨_, exec_drainLimit kind wher sub s⟩
  | healthSample => exact ⟨_, exec_healthSample s⟩
  | healthRingWrite => exact ⟨_, exec_healthRingWrite s⟩
  | scoreFreezeEnd => exact ⟨_, exec_scoreFreezeEnd s⟩
  | hubHeartbeat h => exact ⟨_, exec_hubHeartbeat h s⟩
  | hubLost h => exact ⟨_, exec_hubLost h s⟩
  | feedQualify f volts ns => exact ⟨_, exec_feedQualify f volts ns s⟩
  | feedDrop f volts ns => exact ⟨_, exec_feedDrop f volts ns s⟩
  | ibcFault n => exact ⟨_, exec_ibcFault n s⟩
  | domainShort d => exact ⟨_, exec_domainShort d s⟩
  | pmcAllocate r => exact ⟨_, exec_pmcAllocate r s⟩
  | tileShort t => exact ⟨_, exec_tileShort t s⟩
  | thermalTrip t => exact ⟨_, exec_thermalTrip t s⟩
  | droopAlarm t m sample => exact ⟨_, exec_droopAlarm t m sample s⟩
  | tileDroopRearm t m sample => exact ⟨_, exec_tileDroopRearm t m sample s⟩
  | crackStepJudge t qd di dv => exact ⟨_, exec_crackStepJudge t qd di dv s⟩
  | crackPhaseCheck t phases => exact ⟨_, exec_crackPhaseCheck t phases s⟩
  | regionPowerUp d => exact ⟨_, exec_regionPowerUp d s⟩
  | powerupResume => exact ⟨_, exec_powerupResume s⟩
  | powerupRelease => exact ⟨_, exec_powerupRelease s⟩
  | currentTrip t amps => exact ⟨_, exec_currentTrip t amps s⟩
  | tripClear t ns => exact ⟨_, exec_tripClear t ns s⟩
  | oppGrant => exact ⟨_, exec_oppGrant s⟩
  | oppChange j => exact ⟨_, exec_oppChange j s⟩
  | setPowerCap cap hb => exact ⟨_, exec_setPowerCap cap hb s⟩
  | getPowerReading => exact ⟨_, exec_getPowerReading s⟩
  | heartbeat => exact ⟨_, exec_heartbeat s⟩
  | getTid => exact ⟨_, exec_getTid s⟩
  | getPldmVersion => exact ⟨_, exec_getPldmVersion s⟩
  | getPldmTypes => exact ⟨_, exec_getPldmTypes s⟩
  | getPldmCommands => exact ⟨_, exec_getPldmCommands s⟩
  | contactLost => exact ⟨_, exec_contactLost s⟩
  | safeCapEntry => exact ⟨_, exec_safeCapEntry s⟩
  | coolantSample good inlet outlet flow status sq => exact ⟨_, exec_coolantSample good inlet outlet flow status sq s⟩
  | pumpFaultN level => exact ⟨_, exec_pumpFaultN level s⟩
  | slowFallAlert rise => exact ⟨_, exec_slowFallAlert rise s⟩
  | heatBalanceCheck => exact ⟨_, exec_heatBalanceCheck s⟩
  | tileTempSample t temps rise => exact ⟨_, exec_tileTempSample t temps rise s⟩
  | thermalLimit t => exact ⟨_, exec_thermalLimit t s⟩
  | holdRestore => exact ⟨_, exec_holdRestore s⟩
  | coolingPowerDown => exact ⟨_, exec_coolingPowerDown s⟩
  | coolingPowerRestore => exact ⟨_, exec_coolingPowerRestore s⟩
  | laserSample e las power ok => exact ⟨_, exec_laserSample e las power ok s⟩
  | linkTraining t p here there => exact ⟨_, exec_linkTraining t p here there s⟩
  | retrain t p => exact ⟨_, exec_retrain t p s⟩
  | linkUp t p ns => exact ⟨_, exec_linkUp t p ns s⟩
  | laneLockLost t p => exact ⟨_, exec_laneLockLost t p s⟩
  | siluaTraining e p lanes partner version => exact ⟨_, exec_siluaTraining e p lanes partner version s⟩
  | cell e p c sym => exact ⟨_, exec_cell e p c sym s⟩
  | returnMapExpiry e => exact ⟨_, exec_returnMapExpiry e s⟩
  | coldReset => exact ⟨_, exec_coldReset s⟩
  | bootStep h res => exact ⟨_, exec_bootStep h res s⟩
  | bootStepTimeout h => exact ⟨_, exec_bootStepTimeout h s⟩
  | panelReset h => exact ⟨_, exec_panelReset h s⟩
  | bootWatchdog h => exact ⟨_, exec_bootWatchdog h s⟩
  | leadClaim h => exact ⟨_, exec_leadClaim h s⟩
  | leadClaimTimeout => exact ⟨_, exec_leadClaimTimeout s⟩
  | hubJoin h => exact ⟨_, exec_hubJoin h s⟩
  | hubBootRecoveryGo h => exact ⟨_, exec_hubBootRecoveryGo h s⟩
  | referenceLoss n => exact ⟨_, exec_referenceLoss n s⟩
  | debugChallenge h => exact ⟨_, exec_debugChallenge h s⟩
  | debugToken h sr st => exact ⟨_, exec_debugToken h sr st s⟩
  | panelTimeLo h => exact ⟨_, exec_panelTimeLo h s⟩
  | hubEventStatus h v => exact ⟨_, exec_hubEventStatus h v s⟩
  | hubEventMask h v => exact ⟨_, exec_hubEventMask h v s⟩
  | hubEventCfg h v => exact ⟨_, exec_hubEventCfg h v s⟩
  | hubEvent h bit => exact ⟨_, exec_hubEvent h bit s⟩
  | straightRecalibration n wg => exact ⟨_, exec_straightRecalibration n wg s⟩
  | replayRewind j => exact ⟨_, exec_replayRewind j s⟩
  | pcieLinkTraining h rate width => exact ⟨_, exec_pcieLinkTraining h rate width s⟩
  | msixVectorUnmask h v => exact ⟨_, exec_msixVectorUnmask h v s⟩
  | barAccess h bar off n wr v => exact ⟨_, exec_barAccess h bar off n wr v s⟩
  | debugAccess h kind a b v => exact ⟨_, exec_debugAccess h kind a b v s⟩
  | standbyRailLoss => exact ⟨_, exec_standbyRailLoss s⟩
  | unsupportedPldmCmd code => exact ⟨_, exec_unsupportedPldmCmd code s⟩

/-- The command at the front of the queue is what a step runs. -/
theorem step_cons (c : Instr) (r : List Instr) (y : Sys) : step ⟨c :: r, y⟩ = exec c ⟨r, y⟩ := rfl

end Sys2Proof.Machine
end

