-- ==== Sys2Proof/Laws/Scalar.lean ====
section
/-! SUPPORT. Laws of the scalar core: the fields of an encoded instruction, retirement, and tile commands that leave the
state with one slot changed. -/

namespace Sys2Proof.Machine

/-- The fields of an R-format instruction word. -/
theorem encR_fields (f7 rs2 rs1 f3 rd op : Nat) (h2 : rs2 < 32) (h1 : rs1 < 32) (h3 : f3 < 8) (hd : rd < 32)
    (ho : op < 128) :
    encR f7 rs2 rs1 f3 rd op % 128 = op ∧ bitsOf (encR f7 rs2 rs1 f3 rd op) 11 7 = rd ∧
    bitsOf (encR f7 rs2 rs1 f3 rd op) 14 12 = f3 ∧ bitsOf (encR f7 rs2 rs1 f3 rd op) 19 15 = rs1 ∧
    bitsOf (encR f7 rs2 rs1 f3 rd op) 24 20 = rs2 ∧ bitsOf (encR f7 rs2 rs1 f3 rd op) 31 25 = f7 % 128 := by
  simp only [encR, bitsOf]
  refine ⟨?_, ?_, ?_, ?_, ?_, ?_⟩ <;> omega

/-- A custom instruction word goes to the engine-issue instructions. -/
theorem TX.exec32_custom (x : TX) (k w pc len : Nat) (h : w % 128 = 0x0B ∨ w % 128 = 0x2B) :
    x.exec32 k w pc len = x.execCustom k w pc := by
  unfold TX.exec32
  rcases h with h | h <;> simp [h]

/-- The slot as TX.clock leaves it. -/
theorem TX.clock_slot (x : TX) (k cc : Nat) : (x.clock k cc).slot k =
    { x.slot k with sc := { (x.slot k).sc with mcycle := (x.slot k).sc.mcycle + BitVec.ofNat 64 cc, wfi := false } } := by
  simp [TX.clock, TX.modSlot]

/-- With no preload running there is no handover. -/
theorem TX.tryHandover_none (x : TX) (k : Nat) (h : x.tile.preload = none) : x.tryHandover k = x := by
  simp [TX.tryHandover, h]

theorem TX.instantHandover_none (x : TX) (k : Nat) (h : x.tile.preload = none) : x.instantHandover k = x := by
  simp [TX.instantHandover, TX.tryHandover_none x k h]

/-- A command on a tile that ends in that tile with one slot replaced. -/
theorem State.onTile_slot (s : State) (t k : Nat) (f : TX → TX) (v : Slot) (h : t < 256)
    (hf : f (s.sys.tx t) = (s.sys.tx t).setSlot k v) : { s with sys := s.sys.onTile t f } = s.withSlot t k v := by
  have := Sys.onTile_quiet s.sys t f h (by simp [hf])
  simp [State.withSlot, this, hf]

/-- A custom instruction word of a live core, run. -/
theorem TX.scalarWord_custom (x : TX) (k cc w : Nat) (hl : (x.slot k).scalarLive = true)
    (hw : w % 128 = 0x0B ∨ w % 128 = 0x2B) :
    x.scalarWord k cc w =
      ((x.clock k cc).execCustom k w (x.slot k).sc.pc.toNat).retire k (x.slot k).sc.minstret (x.slot k).sc.pc.toNat := by
  simp [TX.scalarWord, hl, TX.clock_slot, TX.exec32_custom _ _ _ _ _ hw]

/-- The clock leaves the registers, the pc and what belongs to the slot outside the core alone. -/
theorem Scalar.get_clock (c : Scalar) (m : W64) (b : Bool) (r : Nat) :
    Scalar.get { c with mcycle := m, wfi := b } r = c.get r := rfl

/-- An instruction that retires after the clock, on a slot `v` otherwise unchanged or with `v'` in its place. -/
theorem TX.retire_after (x : TX) (k cc rd val pc : Nat) (v' : Slot) (hp : x.tile.preload = none)
    (hv : v'.sc = { (x.slot k).sc with mcycle := (x.slot k).sc.mcycle + BitVec.ofNat 64 cc, wfi := false }) (p0 : Nat) :
    (ScalarRes.ok (x.setSlot k v') rd val pc).retire k (x.slot k).sc.minstret p0 =
      x.setSlot k { v' with sc := (x.slot k).sc.after cc rd val pc } := by
  simp only [ScalarRes.retire, TX.slot_setSlot, hv]
  rw [TX.instantHandover_none _ _ (by simpa using hp)]
  simp only [TX.setSlot_setSlot]
  congr 1
  by_cases hr : rd = 0
  · simp [Scalar.put, Scalar.after, hr]
  · simp [Scalar.put, Scalar.after, hr]

end Sys2Proof.Machine
end

