-- ==== Sys2Proof/Tests/Slice0.lean ====
section
/-! SUPPORT. Tests of the model on small states, the refusals of WellFormed, and for each statement with hypotheses the
states that meet them. -/

namespace Sys2Proof.Tests

open Sys2Proof.Machine

/- One test at a time: each waits for the kernel, and hundreds of waiting threads take too much memory. -/
set_option Elab.async false

/-- The reset state with `v` as slot 0 of tile 0. -/
def withV (v : Slot) : State := State.reset.withSlot 0 0 v
/-- The reset state with `p` as tile 0. -/
def withP (p : Tile) : State := State.reset.withTile 0 p
/-- The reset state with its panel changed by `f`. -/
def withSys (f : Sys → Sys) : State := { State.reset with sys := f State.reset.sys }
/-- A descriptor from its fields: byte offset and value. -/
def mkD (l : List (Nat × Nat)) : Desc := BitVec.ofNat 256 (l.foldl (fun a p => a + p.2 * 2 ^ (8 * p.1)) 0)
/-- A region of 64 rows at `base`, with rows initialised and every slot its owner. -/
def reg64 (base : Nat) : Region := { base := base, valid := true, init := true, size := 64, owner := 0xFFFF }
/-- A tile whose slot 0 is `v` and whose regions 0 and 1 are ACTIVATION regions of 64 rows. -/
def tileR (v : Slot) : Tile :=
  { slots := [(0, v)], store := { regions := [(0, reg64 0), (1, reg64 64)] } }

/-- CustomScalarInstructions: a live core, a token that is there and one that is not, a well-formed descriptor with room
and without, and a malformed one. -/
def core1 (x1 x2 : Nat) : Scalar := { halted := false, x := [(1, BitVec.ofNat 32 x1), (2, BitVec.ofNat 32 x2)] }
def slot1 (x1 x2 : Nat) : Slot :=
  { state := .scalar, sc := core1 x1 x2, tokens := [(1, 3)]
    dram := Mem.write (Mem.write [] 0 32 (mkD [(0, 4), (12, 4), (14, 1), (15, 1)]).toNat) 32 32 0xFC }
theorem test_met_CustomScalarInstructions :
    (∀ p ∈ [(1, 3), (1, 4), (1, 0), (0x10000000, 255), (0x10000020, 255)],
      let s := withV (slot1 p.1 p.2)
      (s.slot 0 0).scalarLive = true ∧ (s.sys.tile 0).preload = none ∧ (s.sys.tile 0).shed = false ∧
        (s.slot 0 0).narrow = []) ∧
    (let v := slot1 1 3
     v.sc.get 2 % 256 ≤ NMap.get 0 v.tokens (v.sc.get 1 % 16) ∧ v.sc.get 2 % 256 ≠ 0 ∧
       NMap.get 0 v.tokens (v.sc.get 1 % 16) + v.sc.get 2 % 256 ≤ 255) ∧
    (let v := slot1 1 4
     NMap.get 0 v.tokens (v.sc.get 1 % 16) < v.sc.get 2 % 256) ∧
    (slot1 1 0).sc.get 2 % 256 = 0 ∧
    (let v := slot1 0x10000000 255
     let d := v.descAt (v.sc.get 1 - 0x10000000)
     descCheck d 0 = none ∧ 0 < v.qfree 0 ∧
       Slot.qfree { v with queues := { matrix := List.replicate 16 {} } } 0 = 0) ∧
    (let v := slot1 0x10000020 255
     descCheck (v.descAt (v.sc.get 1 - 0x10000000)) 0 = some 0) := by decide +kernel

theorem test_met_TrapSavesAndReturns : (7 : Nat) < 2 ^ 32 ∧ 24 < 32 := by decide

/-- FetchedScalarInstructions: `add x3, x1, x2`, `ecall`, `mret`, a misaligned `lw x3, 1(x0)` and `sw x3, 1(x0)`, and
misaligned addresses of the narrow view. -/
def fetched (w : Nat) (v : Slot) : Slot := { v with fetchView := Mem.write [] 0 4 w }
theorem test_met_FetchedScalarInstructions :
    (∀ w ∈ [0x002081B3, 0x73, 0x30200073, 0x00102183, 0x003020A3],
      let s := withV (fetched w (slot1 0x20000001 2))
      (s.slot 0 0).scalarLive = true ∧ (s.sys.tile 0).preload = none ∧ (s.slot 0 0).sc.pc.toNat + 4 ≤ 0x10000 ∧
        Mem.read (s.slot 0 0).fetchView 0 4 = w) ∧
    aluR (bitsOf 0x002081B3 31 25) (bitsOf 0x002081B3 14 12) (bitsOf 0x002081B3 24 20) 5 2 = some 7 ∧
    (let w := 0x00102183
     w % 4 = 3 ∧ w % 128 = 0x03 ∧ isLoad (bitsOf w 14 12) = true ∧ w32 (0 + immI w) % 2 ^ (bitsOf w 14 12 % 4) ≠ 0) ∧
    (let w := 0x003020A3
     w % 4 = 3 ∧ w % 128 = 0x23 ∧ isStore (bitsOf w 14 12) = true ∧ w32 (0 + immS w) % 2 ^ bitsOf w 14 12 ≠ 0) ∧
    (let a := w32 ((slot1 0x20000001 2).sc.get 1 + sext 12 0)
     narrowAddr a = true ∧ a % 2 ^ (2 % 4) ≠ 0 ∧ isLoad 2 = true ∧ isStore 2 = true) := by decide +kernel

/-- NarrowViewAccesses: a word of region 0, its row clean, an empty queue; one store in the queue. -/
def narrowP : Tile :=
  tileR { slot1 0x20000000 2 with narrow := [{ word := 3, mask := 0x0F, data := 0x11223344 }] }
theorem test_met_NarrowViewAccesses :
    (let s := withP (tileR (slot1 0x20000000 2))
     let v := s.slot 0 0
     let a := w32 (v.sc.get 1 + sext 12 4)
     v.scalarLive = true ∧ (s.sys.tile 0).preload = none ∧ narrowAddr a = true ∧ a % 4 = 0 ∧ isLoad 2 = true ∧ v.narrow = [] ∧
       (s.sys.tx 0).narrowRow 0 ((a - 0x20000000) / 512) false = true ∧
       (s.sys.tx 0).narrowRow 0 ((a - 0x20000000) / 512) true = true ∧
       (s.sys.tile 0).store.badWords ((a - 0x20000000) / 512) = []) ∧
    (let s := withP narrowP
     (s.sys.tile 0).preload = none ∧ (s.slot 0 0).narrow = [{ word := 3, mask := 0x0F, data := 0x11223344 }]) := by
  decide +kernel

/-- InterruptTimerRunHalt: an enabled doorbell interrupt, a compare value of 0, a halted core and a running one. -/
theorem test_met_InterruptTimerRunHalt :
    (let v : Slot := { slot1 0 0 with sc := { core1 0 0 with mstatus := 0x1808, mie := 0x10000 }, regs := [(0x24, 1)] }
     let s := withV v
     (s.sys.tile 0).preload = none ∧ (s.slot 0 0).scalarLive = true ∧ bitOf (s.slot 0 0).sc.mstatus.toNat 3 = true ∧
       topInterrupt (s.slot 0 0).pendEnabled = some 16) ∧
    (let s := withV { slot1 0 0 with regs := [(0x30, 0), (0x34, 0)] }
     (s.slot 0 0).reg 0x30 + 2 ^ 32 * (s.slot 0 0).reg 0x34 ≤ s.sys.mirror 0) ∧
    (let v : Slot := { state := .halted }
     v.state = .halted ∧ v.sc.halted = true) ∧ (slot1 0 0).state = .scalar := by decide +kernel

/-- A slot in state `st` whose lap program is one MM descriptor, L = 64 cc, one run. -/
def slot2 (st : CoreState) : Slot :=
  { slot1 0x10000000 255 with state := st, regs := [(0x08, 0x10000), (0x0C, 64), (0x10, 1)] }
/-- Tile 0 with slot 0 of it `v`, the slot assigned to a partition (bit 6 of TILE_SLOT_SOURCE). -/
def tile2 (v : Slot) : Tile := { tileR v with regs := [(0x120, 64)] }
/-- The state in which tile 0 holds a CORE_CTRL message with code `op` for slot 0. -/
def ctl2 (st : CoreState) (op : Nat) : State :=
  let s := withP (tile2 (slot2 st))
  { s with sys := s.sys.setTad 0 { inbox := [{ type := 9, payload := 1 + op * 2 ^ 16 }] } }
theorem test_met_LapRequestsTakeEffect :
    (∀ st ∈ [CoreState.scalar, CoreState.halted],
      let s := withP (tile2 (slot2 st))
      let v := s.slot 0 0
      (v.state = .scalar ∨ v.state = .halted) ∧ bitOf ((s.sys.tx 0).source 0) 6 = true ∧ v.lapOk = true ∧ v.reg 0x10 ≠ 0 ∧
        v.firstInvalid v.lapLen 0 = none ∧ v.programLoads = false) ∧
    (∀ st ∈ [CoreState.lapRunning, CoreState.lapFrozen], ((withV (slot2 st)).slot 0 0).state = st) ∧
    (let s := withV { slot2 .lapRunning with lap := { waitStart := true } }
     (s.slot 0 0).lap.waitStart = true ∧ (s.slot 0 0).lap.startAt ≤ s.sys.mirror 0 ∧ (s.sys.tile 0).preload = none) ∧
    (∀ op ∈ [1, 2, 3, 4, 5],
      let s := ctl2 .lapRunning op
      let m : TMsg := { type := 9, payload := 1 + op * 2 ^ 16 }
      s.mail 0 = some m ∧ m.type = 9 ∧ bitsOf m.payload 15 0 = 2 ^ 0 ∧ bitsOf m.payload 18 16 = op ∧
        (s.slot 0 0).state = .lapRunning) := by decide +kernel

/-- LapBoundaryOutcomes: a lap that has issued all of its program, with its tokens at the baseline and off it, on its last
run and with one more to come; a bubble lap. -/
def slot3 (runs tok : Nat) : Slot :=
  { slot2 .lapRunning with
    tokens := [(1, tok)]
    lap := { begun := true, next := 1, runsLeft := some runs, baseline := 0 :: 3 :: List.replicate 14 0 } }
theorem test_met_LapBoundaryOutcomes :
    (∀ p ∈ [(1, 3), (2, 3), (2, 4)],
      let s := withP (tile2 (slot3 p.1 p.2))
      let v := s.slot 0 0
      let tm : LapTiming := { elapsed := 64 }
      s.sys.cool.hold = none ∧ (s.sys.tile 0).preload = none ∧ v.state = .lapRunning ∧ v.lap.waitStart = false ∧
        v.lap.begun = true ∧ v.lapLen ≤ v.lap.next ∧ v.quiet = true ∧ v.lapL ≤ tm.elapsed ∧ tm.elapsed = v.lapL ∧
        v.lap.poisonLap = false ∧ v.lap.frameLaps = 0 ∧ v.lap.stepLaps = 0 ∧
        bitOf ((s.sys.tx 0).reg 0x1A44) 0 = false) ∧
    (List.range 16).map (fun i => NMap.get 0 (slot3 1 3).tokens i) = (slot3 1 3).lap.baseline ∧
    (List.range 16).map (fun i => NMap.get 0 (slot3 1 4).tokens i) ≠ (slot3 1 4).lap.baseline ∧
    (slot3 1 3).lap.runsLeft = some 1 ∧ (slot3 1 3).lap.runsLeft.map (fun r => r - 1) = some 0 ∧
    (slot3 2 3).lap.runsLeft.map (fun r => r - 1) ≠ some 0 := by decide +kernel

/-- IssueCompletionDeadlock: a lap with a descriptor to issue, a finished vector descriptor with its signal and interrupt
bits, a queue whose head waits for a token that is 0. -/
theorem test_met_IssueCompletionDeadlock :
    (let v := { slot2 .lapRunning with lap := { begun := true } }
     let s := withV v
     let d := v.descAt (32 * (v.lapBase + v.lap.next))
     (s.sys.tile 0).preload = none ∧ (s.sys.tile 0).shed = false ∧ (s.slot 0 0).state = .lapRunning ∧ v.lap.begun = true ∧
       v.lap.next < v.lapLen ∧ 0 < v.qfree (descEngine d)) ∧
    (let r : Running := { q := { desc := mkD [(0, 5), (3, 0xC2)] } }
     r.release = [] ∧ descIrq r.q.desc = true ∧ descSignal r.q.desc = some 2 ∧ NMap.get 0 (slot2 .scalar).tokens 2 < 255) ∧
    (let v : Slot := { state := .lapRunning, queues := { matrix := [{ desc := mkD [(0, 4), (1, 0x80)] }] } }
     v.state = .lapRunning ∧ ((withV v).sys.tx 0).onlyTokens 0 = true ∧ v.eng = {} ∧ v.sc.halted = true ∧ v.lapLen ≤ v.lap.next) := by
  decide +kernel

theorem test_met_DoorbellsAndRegisterAccess :
    (let s := withV (slot1 0 0)
     let s : State := { s with sys := s.sys.setTad 0 { inbox := [{ type := 8, sub := 0, payload := 5 }] } }
     s.mail 0 = some { type := 8, sub := 0, payload := 5 } ∧ (s.slot 0 0).state = .scalar ∧
       bitOf ((s.slot 0 0).reg 0x24) 0 = false ∧ (s.slot 0 0).reg 0x18 < 2 ^ 32 ∧ (s.slot 0 0).reg 0x0C < 2 ^ 24) ∧
    (63 : Nat) < 64 ∧ (64 : Nat) < 2 ^ 24 ∧ 2 ^ 24 - 1 < (2 : Nat) ^ 24 := by decide +kernel

/-- AccumulatorAddsExactly: the largest sum that the window holds, with counts on either side of the limit. -/
theorem test_met_AccumulatorAddsExactly :
    (let e : AccEntry := { w := -3, count := 65534 }
     e.w ≤ 0 ∧ (((2 ^ 44 - 1 : Int)) * 2 ^ ((0 : Int) - e.w).toNat).natAbs ≤ 2 ^ 47 - 1 ∧ e.count < 65535) ∧
    ({ count := 65535 } : AccEntry).count = 65535 := by decide +kernel

/-- A slot with `d` in the queue of engine `q`. -/
def queued (q : Nat) (d : Desc) : Slot := { state := .scalar, queues := Queues.put {} q [{ desc := d }] }
/-- Macro 0 of one column in INT8, segment 0. -/
def mac1 : Macro := { loaded := true, fmt := 1, ncol := 1 }
def mm1 (nv : Nat) : Desc := mkD [(0, 4), (4, 1), (6, nv), (12, 1), (14, 1), (15, 1)]
/-- What the store engine's and vector unit's descriptors of the witnesses read and write: rows 0 of regions 0 and 1. -/
def accD (op : Nat) : Desc := mkD [(0, 4 * op), (6, 1), (10, if op = 3 then 1 else 0), (16, 2 ^ 18), (20, 2 ^ 18)]
def loadD : Desc := mkD [(0, 16), (5, 1), (12, 1)]
theorem test_met_MatrixDescriptorsRun :
    (∀ nv ∈ [0, 1],
      let s := withP (tileR { queued 0 (mm1 nv) with macros := [(0, mac1)] })
      let v := s.slot 0 0
      v.readyHead 0 1 = some { desc := mm1 nv } ∧ v.eng.mm = none ∧ (s.sys.tx 0).mmMayStart 0 (mm1 nv) = true ∧
        mmNv (mm1 nv) = nv ∧ mmMask (mm1 nv) ≠ 0 ∧ mmStream (mm1 nv) = false) ∧
    (let s := withP (tileR { queued 0 (mm1 1) with macros := [(0, mac1)] })
     (s.sys.tx 0).mmCheck 0 { desc := mm1 1 } = none ∧ descCheck (mm1 1) 0 = none) ∧
    (∀ op ∈ [2, 3],
      let s := withP (tileR (queued 0 (accD op)))
      let v := s.slot 0 0
      v.readyHead 0 op = some { desc := accD op } ∧ v.accMayStart (accD op) = true ∧ descCheck (accD op) 0 = none) ∧
    (let s := withP (tileR (queued 0 (accD 3)))
     let x := s.sys.tx 0
     (accOutRows (accD 3) [{}]).1.length = 1 ∧ (accOutRows (accD 3) [{}]).2.1 = [] ∧
       x.effRow (descField (accD 3) 16 4) (inc24 (descField (accD 3) 24 4)) 0 = (1, 0) ∧
       x.tile.engineMayWrite 0 1 0 false = true) ∧
    (let s := withP (tileR (queued 0 loadD))
     let v := s.slot 0 0
     let x := s.sys.tx 0
     v.readyHead 0 4 = some { desc := loadD } ∧ v.eng.load = none ∧ v.eng.mm = none ∧ (s.sys.tile 0).audit.reloads = [] ∧
       descCheck loadD 0 = none ∧ imageRows 1 1 ≤ 64 ∧
       x.effRow (descField loadD 8 4) (inc24 (descField loadD 24 4)) 0 = (0, 0) ∧
       x.tile.engineMayRead 0 0 0 = true ∧ x.tile.engineMayRead 0 0 (0 + imageRows 1 1 - 1) = true ∧ fmtIsMx 1 = false) := by
  decide +kernel
/-- MatrixDescriptorsRun: rows that read clean leave the tile as it was. -/
theorem test_met_MatrixDescriptorsRun_reads :
    (let y := (withP (tileR { queued 0 (mm1 1) with macros := [(0, mac1)] })).sys.tx 0
     (y.mmSegments 0 { desc := mm1 1 } 0).2 = y) ∧
    (let y := (withP (tileR (queued 0 loadD))).sys.tx 0
     (y.readImage 0 1 1 0 0 0 0).2.2.2 = y) := ⟨rfl, rfl⟩

/-- A well-formed descriptor of vector operation `op`: A is row 0 of region 0, D row 0 of region 1, one block. -/
def vecD (op : Nat) : Desc :=
  let seg := decide (4 ≤ op) && decide (op ≤ 8)
  let stats := op = 6 || op = 8
  mkD [(0, 1 + 4 * op), (8, if op = 2 then 1 else if op = 9 then 0x10001 else if op = 11 || op = 12 then 1 else 0), (12, 2 ^ 18),
    (16, if stats then 2 else 0), (20, if op = 10 then 8 else if op = 11 || op = 12 then 8 else 1), (22, bitNat seg),
    (24, 0xA + 0xA * 2 ^ 8 + bitNat (op = 7) * 2 ^ 14)]
theorem test_met_VectorOperationsRun :
    ∀ op ∈ [1, 2, 3, 4, 5, 6, 7, 8, 9, 10, 11, 12],
      let s := withP (tileR (queued 1 (vecD op)))
      let v := s.slot 0 0
      v.eng.vector = none ∧ vNb (vecD op) ≠ 0 ∧ vStream (vecD op) = false ∧
        (s.sys.tx 0).vecCheck 0 { desc := vecD op } = none ∧ v.readyHead 1 op = some { desc := vecD op } ∧
        descCheck (vecD op) 1 = none := by decide +kernel
/-- Reading the operands of `vecD op`, rows that are clean, leaves the tile as it was. -/
def vecClean (op : Nat) : Prop :=
  let x := (withP (tileR (queued 1 (vecD op)))).sys.tx 0
  (x.vectorInputs 0 { desc := vecD op }).2 = x
theorem test_met_VectorOperationsRun_reads :
    vecClean 1 ∧ vecClean 2 ∧ vecClean 3 ∧ vecClean 4 ∧ vecClean 5 ∧ vecClean 6 ∧ vecClean 7 ∧ vecClean 8 ∧ vecClean 9 ∧
      vecClean 10 ∧ vecClean 11 ∧ vecClean 12 := ⟨rfl, rfl, rfl, rfl, rfl, rfl, rfl, rfl, rfl, rfl, rfl, rfl⟩

theorem test_met_RowWriteAndFrame : (16 : Nat) ≠ 19 := by decide

/-- A descriptor of store operation `op`: one row from row 0 of region 0; COPY to row 0 of region 1, the others to
target 0. -/
def stoD (op : Nat) : Desc :=
  mkD [(0, 2 + 4 * op), (12, if op = 1 then 2 ^ 18 else 0), (16, 1), (20, if op = 2 || op = 3 then 512 else 0)]
theorem test_met_StoreDescriptorsRun :
    (∀ op ∈ [1, 2, 3, 4],
      let s := withP (tileR (queued 2 (stoD op)))
      let v := s.slot 0 0
      let x := s.sys.tx 0
      v.eng.store = none ∧ sRows (stoD op) ≠ 0 ∧ sStream (stoD op) = false ∧ x.storeSourceOk 0 { desc := stoD op } = true ∧
        x.effRow (sSrc (stoD op)) 0 0 = (0, 0) ∧ x.tile.store.region 0 = some (reg64 0) ∧
        x.tile.store.badWords 0 = [] ∧ v.readyHead 2 op = some { desc := stoD op } ∧ descCheck (stoD op) 2 = none) ∧
    (let x := (withP (tileR (queued 2 (stoD 1)))).sys.tx 0
     x.tile.runWritable 0 1 0 1 true = true ∧ overlap 1 0 1 0 0 1 = false) ∧
    (trackSend [] false 0 0 0 0 0 1 0).isSome = true ∧ (trackSend [] true 0 0 0 0 0 3 0).isSome = true ∧
    (let r : Replica := { ett := [(0, 0x101)], mesh := [(1, 0x7701)], mcast := [(0, 2 ^ 23)]
                          rgW0 := [(0, 2 ^ 18)], rgW1 := [(0, 1)], rgRoot := [(0, (0, 0, 0))] }
     let x : TX := { rep := r }
     (sendPackets (stoD 2) 0 1 0 0 [(0, false)]).all (fun p => x.injectable p) = true ∧
       mgValid (NMap.get 0 r.mcast 0) = true ∧ mgStream (NMap.get 0 r.mcast 0) = false ∧
       rgroupFor r 0 (sTarget (stoD 4)) = some 0 ∧ x.injectable { type := 4, long := true } = true) := by decide +kernel

/-- A slot with pacer operation `op` for stream 0 queued and stream 0 as `z`. -/
def pacD (op : Nat) : Desc :=
  if op = 1 then mkD [(0, 7), (14, 1), (16, 2 ^ 18), (20, 2)]
  else if op = 2 then mkD [(0, 11), (8, 2), (10, 1), (12, 1), (14, 1), (16, 1)]
  else mkD [(0, 3 + 4 * op)]
def set1 : Stream := { setDesc := some (pacD 1), loopDesc := some (pacD 2) }
def run1 : Stream := { set1 with state := .running }
def slotP (op : Nat) (z : Stream) : Slot := { queued 3 (pacD op) with streams := [(0, z)] }
theorem test_met_StreamDescriptorsRun :
    (∀ op ∈ [1, 2, 3, 4],
      let z := if op = 4 then run1 else set1
      let s := withP (tileR (slotP op z))
      let v := s.slot 0 0
      v.eng.pacer = none ∧ v.readyHead 3 op = some { desc := pacD op } ∧ pStream (pacD op) = 0 ∧ v.stream 0 = z ∧
        z.busy = decide (op = 4) ∧ descCheck (pacD op) 3 = none) ∧
    (let x := (withP (tileR (slotP 3 set1))).sys.tx 0
     x.streamGoOk 0 0 = true ∧ pKind (pacD 1) ≠ 2 ∧ x.isLanding (pacD 1) = false ∧
       x.tile.store.region (x.ringOf (pacD 1)).1 = some (reg64 64)) := by decide +kernel

theorem test_met_StreamRowsFetchedAndLanded :
    (let z := { run1 with nextRow := 0 }
     let c := mkD [(0, 7), (14, 2), (16, 2 ^ 18), (20, 2)]
     let z := { z with setDesc := some c, nextRow := 1 }
     let s := withP (tileR { slot1 0 0 with streams := [(0, z)], regs := [(0x10, 0xFFFFFFFF)] })
     let v := s.slot 0 0
     let x := s.sys.tx 0
     (v.stream 0).setDesc = some c ∧ (v.stream 0).loopDesc = some (pacD 2) ∧ pKind c = 0 ∧ (v.stream 0).state = .running ∧
       (v.stream 0).landing = false ∧ bitOf z.full z.fill = false ∧ z.nextRow % pSlotRows c ≠ 0 ∧ v.fetchRoom 0 0 = true ∧
       z.fetchLap ≤ v.lap.index + pLook c ∧ v.reg 0x10 = 0xFFFFFFFF ∧
       (let p := x.effRow (pSrc c) (pSrcInc c) z.fetchLap
        let o := (p.2 : Int) + loopOffset (pacD 2) z.nextRow
        x.tile.store.region p.1 = some (reg64 0) ∧ 0 ≤ o ∧ o < (reg64 0).size ∧ bitOf (reg64 0).owner 0 = true)) ∧
    (let z := { run1 with flight := [{ tag := 3 }] }
     let s := withP (tileR { slot1 0 0 with streams := [(0, z)] })
     let x := s.sys.tx 0
     z.flight[0]? = some { tag := 3 } ∧ x.tile.store.badWords 3 = [] ∧
       x.tile.store.region (x.ringOf (pacD 1)).1 = some (reg64 64) ∧ (reg64 64).mirror = false) := by decide +kernel

/-- Tile 0 with leapfrog on at period `ms` (0: due at each lap boundary), resting core 16 in retention, slot 0 as `v`, a
preload as `l`. -/
def leapQ (ms : Nat) (due : Bool) (v : Slot) (l : Option Preload) : Tile :=
  { slots := [(0, v)], regs := [(0x114, 0x10000 + ms)], restValid := true, rest := 16, restState := .retention, preload := l
    leapDue := due }
def leapP : Slot → Option Preload → Tile := leapQ 0 true
theorem test_met_LeapfrogAndTakeover :
    (∀ ms ∈ [0, 1],
      let s := withP (leapQ ms (ms == 0) (slot1 0 0) none)
      let s : State := { s with sys := { s.sys with now := 1000000 * ms } }
      let p := s.sys.tile 0
      bitOf ((s.sys.tx 0).reg 0x114) 16 = true ∧ p.restValid = true ∧ p.preload = none ∧ p.leapStopped = false ∧
        s.sys.cool.hold = none ∧ (s.sys.tx 0).reg 0x114 % 2 ^ 16 = ms ∧ (ms = 0 → p.leapDue = true) ∧
        p.leapSince + 1000000 * ms ≤ s.sys.mirror 0 ∧ bitOf ((s.sys.tx 0).source 0) 15 = false ∧
        (s.slot 0 0).state = .scalar ∧ (∀ j < 16, j ≠ 0 → (s.slot 0 j).state = .off)) ∧
    (∀ rv ∈ [true, false],
      let s := withP { leapP (slot1 0 0) none with restValid := rv }
      let p := s.sys.tile 0
      bitOf p.shedMask 0 = false ∧ p.physOf 0 = 0 ∧ p.restValid = rv ∧ p.preload = none ∧
        (s.sys.tx 0).takingOver = false ∧ (s.slot 0 0).state = .scalar) ∧
    (∀ v ∈ [{ slot1 0 0 with state := .lapRunning, lap := { begun := true } }, { state := .halted }],
      let s := withP (leapP v (some {}))
      (s.sys.tile 0).preload = some {} ∧ (({} : Preload).slot = 0 ∧ ({} : Preload).takeover = false ∧
        ({} : Preload).done = false) ∧ (s.slot 0 0) = v ∧ v.quiet = true ∧ (v.state = .halted → v.sc.halted = true)) ∧
    (let v : Slot := { state := .lapRunning, lap := { boundaries := 64 } }
     let s := withP (leapP v (some { done := true }))
     (s.sys.tile 0).preload = some { done := true } ∧ 64 ≤ (s.slot 0 0).lap.boundaries) ∧
    (let s := withP (leapP { state := .preload } (some { takeover := true }))
     (s.sys.tile 0).preload = some { takeover := true } ∧ (s.slot 0 0).heldInc = [] ∧ (s.slot 0 0).bell = none) := by
  decide +kernel
set_option maxRecDepth 4000 in
/-- LeapfrogAndTakeover: a code image whose region is absent, and no macros, leave the tile as it was. -/
theorem test_met_LeapfrogAndTakeover_reads :
    let x := (withP (leapP { state := .halted } (some {}))).sys.tx 0
    (x.codeImage 0).2.2 = x ∧ x.preloadMacros 0 x.tile.rest (mapOf []) = (some [], x) ∧
      x.preloadMacros 0 (x.tile.physOf 0) (mapOf []) = (some [], x) := ⟨rfl, rfl, rfl⟩

/-- WeightAudit: a commit asked, a period of 0 ms that has passed, a loaded macro with reference CRC `c`, a queued
reload. -/
def audP (a : Audit) (c : Nat) : Tile :=
  { slots := [(0, { state := .scalar, macros := [(0, { loaded := true, crc := c })] })], regs := [(0x160, 0x10000)], audit := a }
theorem test_met_WeightAudit :
    (({ commitAsked := true } : Audit).active = false ∧ ({ commitAsked := true } : Audit).commitAsked = true) ∧
    (let s := withP (audP {} 0)
     (s.sys.tile 0).audit.active = false ∧ (s.sys.tile 0).audit.commitAsked = false ∧
       bitOf ((s.sys.tx 0).reg 0x160) 16 = true ∧
       (s.sys.tile 0).audit.started + 1000 * ((s.sys.tx 0).reg 0x160 % 2 ^ 16) ≤ s.sys.mirror 0) := by decide +kernel
theorem test_met_WeightAudit_macro (c : Nat) :
    let s := withP (audP { active := true } c)
    let m := (s.slot 0 0).macroAt 0
    (s.sys.tile 0).audit.active = true ∧ m.loaded = true ∧ m.loading = false ∧ m.crc = c ∧
      (∀ j, 0 ≤ j → j < 16 * 0 + 0 → ((s.slot 0 (j / 16)).macroAt (j % 16)).loaded = false) :=
  ⟨rfl, rfl, rfl, rfl, fun _ _ h => absurd h (Nat.not_lt_zero _)⟩
theorem reload_matches (x : TX) (k e : Nat) (m : Macro) (c : NMap Nat) (n : Nat)
    (hc : (x.readImage e m.fmt m.ncol m.srcRegion m.srcRow m.scaleRegion m.scaleRow).1 = c)
    (hn : (x.readImage e m.fmt m.ncol m.srcRegion m.srcRow m.scaleRegion m.scaleRow).2.1 = n)
    (h : m.crc = macroCrc c m.fmt n) : (x.reloadMacro k e m []).1.mismatch = false := by
  simp [TX.reloadMacro, hc, hn, h]
theorem test_met_WeightAudit_reload (c : Nat) (h : c = macroCrc [] 0 0) :
    let s := withP (audP { reloads := [(0, 0)] } c)
    let p := s.sys.tile 0
    let y : TX := { s.sys.tx 0 with tile := { p with audit := { p.audit with reloads := [] } } }
    let r := y.reloadMacro 0 0 ((s.slot 0 0).macroAt 0) []
    p.audit.reloads = [(0, 0)] ∧ ((s.slot 0 0).macroAt 0).loaded = true ∧ (s.slot 0 0).eng.load = none ∧ r.2 = y ∧
      r.1.mismatch = false :=
  ⟨rfl, rfl, rfl, rfl, reload_matches _ _ _ _ [] 0 rfl rfl h⟩

/-- A tile with store `st` over regions 0 and 1, a WEIGHT region 2 of 8 rows and a releasing region 3. -/
def stoP (st : Store) : Tile :=
  { store := { st with regions := [(0, reg64 0), (1, reg64 64), (2, { reg64 128 with cls := 1, size := 8 }),
      (3, { reg64 256 with releasing := true })] } }
theorem test_met_StoreMaintenance :
    (let s := withP (stoP { dev := [(64, 7)], wb := [(0, [{ row := 1 }])], latches := [(8, { row := 136, delta := 5 })]
                            fills := [{ count := 2, pattern := 9 }], remapQ := [{ row := 3 }], fieldMapTodo := [4] })
     let x := s.sys.tx 0
     let st := (s.sys.tile 0).store
     NMap.get [] st.wb 0 = [{ row := 1 }] ∧ st.latchOrRemap 0 = false ∧ st.badWords 1 = [(0, 7)] ∧ synClass 7 ≠ .poison ∧ synClass 7 ≠ .uncorrectable ∧
       NMap.find st.latches 8 = some { row := 136, delta := 5 } ∧ st.badWords 136 = [] ∧
       st.fills = [{ count := 2, pattern := 9 }] ∧ st.region 0 = some (reg64 0) ∧ (reg64 0).cls ≠ 1 ∧
       (reg64 0).mirror = false ∧ (2 : Nat) ≠ (reg64 0).size ∧ s.sys.lead.waits = [] ∧
       x.reg 0x260 < 2 ^ 14 ∧ (NMap.get {} st.regions 3).valid = true ∧ (NMap.get {} st.regions 3).releasing = true ∧
       NMap.find (s.sys.tile 0).mirrorAt 3 = none ∧ st.holes = [] ∧ st.fills.any (fun f => f.region = 3) = false ∧
       st.remapQ = [{ row := 3 }] ∧ st.recon.contains 3 = false ∧ NMap.find st.latches 3 = none ∧
       st.holes.length < 256 ∧ st.nextSpare 3 = some 0 ∧ st.fieldMapTodo = [4]) ∧
    ((withSys (fun s => s.setHub 0 { live := true })).sys.hub 0).live = true ∧
    (let st : Store := { sparesUsed := [(3, 2 ^ 32 - 1)], remapQ := [{ row := 3 }] }
     st.nextSpare (3 % 64) = none ∧ st.holes.any (fun h => h.row = 3) = false) ∧
    (let s := withP { stoP {} with regs := [(0x254, 0x10000)] }
     bitOf ((s.sys.tx 0).reg 0x254) 16 = true ∧ (s.sys.tile 0).store.scrub.active = false ∧
       (s.sys.tile 0).store.scrub.passStart + 1000000 * ((s.sys.tx 0).reg 0x254 % 2 ^ 16) ≤ s.sys.mirror 0) ∧
    (let s := withP { stoP { scrub := { active := true, spans := [(0, 64)] } } with regs := [(0x254, 0x10000)] }
     let st := (s.sys.tile 0).store
     bitOf ((s.sys.tx 0).reg 0x254) 16 = true ∧ st.scrub.active = true ∧ st.nextInit st.scrub.pos = some 0 ∧ st.regionOf 0 = some (0, reg64 0) ∧ st.badWords 0 = [] ∧
       st.nextInit 1 ≠ none) := by decide +kernel

theorem test_met_ReconstructionRebuilds :
    let s := withP (stoP { recon := [128], dev := [(64 * 128 + 63, 0x07 ^^^ 0x38)] })
    let st := (s.sys.tile 0).store
    let r := { reg64 128 with cls := 1, size := 8 }
    st.recon = [128] ∧ st.regionOf 128 = some (2, r) ∧ r.init = true ∧ synClass (0x07 ^^^ 0x38) = .uncorrectable ∧
      st.badWords 128 = [(63, 0x07 ^^^ 0x38)] ∧ (∀ o ∈ r.groupRows 128, o ≠ 128 → st.badWords o = []) ∧ st.latches = [] ∧
      r.cls = 1 ∧ NMap.get [] st.wb (128 % 64) = [] ∧ st.remapQ = [] := by decide +kernel

/-- Router 17 with port 1 as `q` and the local port as `l`, its replica sending tile 1's packets (EID 0x1001, physical
tile 1) to the ports of route entry `e`. -/
def netS (q l : MeshPort) (e : Nat) : State :=
  withSys (fun s => (s.setRouter 17 { alive := true, ports := [(1, q), (4, l)] }).setReplica 17
    { ett := [(1, 0x101)], mesh := [(1, e)] })
/-- A long WRITE to tile store 1 on channel `vc`. -/
def wrP (vc : Nat) (ordered : Bool) : Packet := { dst := 0x1001, type := 1, vc := vc, long := true, ordered := ordered, total := 512 }
theorem test_met_RouterSteps :
    (∀ ordered ∈ [false, true],
      let l : LinkPkt := { pkt := wrP 1 ordered }
      let q : MeshPort := { link := 3, wire := [l] }
      let s := netS q {} 0x7108
      let pkt : Packet := { l.pkt with hops := l.pkt.hops + 1 }
      (s.sys.router 17).alive = true ∧ (s.sys.router 17).port 1 = q ∧ l.seq = q.recvSeq ∧ l.pkt.legal = true ∧
        l.pkt.hops < 255 ∧ l.pkt.type ≠ 4 ∧ s.sys.routeOf 17 pkt = some 0x7108 ∧ pkt.adaptive = !ordered ∧
        minPorts 17 0x7108 ≠ [] ∧ safePort 17 0x7101 pkt.down = some 1 ∧ safePort 17 0x7208 pkt.down = some 2 ∧
        (2 : Nat) ≠ 1 ∧ ((s.sys.router 17).port 2).dead = false) := by decide +kernel
theorem test_met_RouterSteps_forward :
    (let h : Held := { pkt := { dst := 0x1001, type := 6 }, out := some 1 }
     let q : MeshPort := { link := 3, onBits := 1 }
     let s := netS q { chans := [(0, [h])] } 0x7102
     let r := s.sys.router 17
     r.alive = true ∧ (r.port 1).dead = false ∧ bitOf (r.port 1).onBits 0 = true ∧ (r.port 1).replay.length < 32 ∧
       (r.port 1).vc0Recent = [] ∧ (r.port 4).chan 0 = [h] ∧ h.out = some 1 ∧ h.pkt.type ≠ 4 ∧ h.pkt.vc = 0 ∧
       h.pkt.escape = false ∧ neighbour 17 1 = some (18, 3) ∧ s.sys.routeOf 17 h.pkt = some 0x7102 ∧
       (r.port 4).chans = [(0, [h])] ∧ (r.port 1).chans = [] ∧ r.ports.length = 2) ∧
    (let q : MeshPort := { link := 3, chans := [(2, [{ pkt := wrP 2 false }])] }
     q.chan 2 = [{ pkt := wrP 2 false }] ∧ (wrP 2 false).adaptive = true) ∧
    (let s := netS { link := 3 } {} 0
     ((s.sys.router 18).port 3).failing = false ∧ ((s.sys.router 18).port 3).dead = false) := by decide +kernel

/-- RouterReductions: a group of one neighbour input and one local slot, reserving one sequence, empty and half full. -/
def redW0 : Nat := 7 + 2 ^ 18 + 2 * 2 ^ 20 + 2 * 2 ^ 23 + 2 ^ 27
def redS (d : List RedSlot) (w0 : Nat) : State :=
  withSys (fun s => (s.setRouter 17 { alive := true, red := d
                                      ports := [(1, { link := 3, chans := [(3, [{ pkt := { group := 7, type := 4 } }])] })] }).setReplica 17
    { rgW0 := [(0, w0)], rgW1 := [(0, 2 ^ 16)] })
theorem test_met_RouterReductions :
    (∀ d ∈ [[], [({ group := 7, local_ := 1 } : RedSlot)]],
      let s := redS d redW0
      ((s.sys.router 17).port 1).chan 3 = [{ pkt := { group := 7, type := 4 } }] ∧ (s.sys.router 17).red = d ∧
        (s.sys.replica 17).rgroup 0 7 = some (0, redW0, 2 ^ 16)) ∧
    0 < rgReserve (2 ^ 16) ∧ bitOf (rgInMask redW0) 1 = true ∧ rgLocal redW0 ≠ 0 ∧ 0 ||| 2 ^ 1 = rgInMask redW0 ∧
    1 = rgLocal redW0 ∧ rgRootBit redW0 = false ∧ rgOut redW0 ≠ 1 ∧
    (let s := redS [{ group := 7, seq := 1 }] redW0
     s.sys.canTake 17 { group := 7, type := 4 } = false ∧ (0 : Nat) + 1 < 4096 ∧ 4096 ≤ 0 + (4096 : Nat)) ∧
    (let s := withSys (fun s => s.setTad 17 { inbox := [{ type := 0x18, sub := 8, payload := 7 + 2 ^ 48 }] })
     s.mail 17 = some { type := 0x18, sub := 8, payload := 7 + 2 ^ 48 }) := by decide +kernel

/-- A packet at the endpoint of tile 0, which holds window 5 on region 0: writable and readable, sources by EID range. -/
def winT : Tile :=
  { tileR {} with
    logical := some 0
    wins := { table := [(5, { isOpen := true, write := true, read := true, rows := 8, srcKind := 1, lo0 := 0, hi0 := 0x2000 })] } }
def winS (p : Packet) : State :=
  withSys (fun s => ((s.setTile 0 winT).setReplica 0 { ett := [(1, 0x101)], mesh := [(1, 0x7701)] }).setRouter 0 { eject := [(p.vc, p)] })
def winP (type : Nat) (long : Bool) (gen total : Nat) : Packet :=
  { dst := 0x1000, src := 0x1001, type := type, long := long, baton := true, window := 5, gen := gen, total := total
    misc := if type = 2 then 0 else 3 }
theorem test_met_WindowPackets :
    (∀ p ∈ [winP 1 true 0 512, winP 1 true 0 1024, winP 1 true 1 512, winP 1 false 0 512, winP 2 false 0 512],
      let s := winS p
      let x := (s.packetTaken 0).sys.tx 0
      let w := NMap.get {} x.tile.wins.table p.window
      s.packet 0 = some p ∧ x.tile.store.region w.region = some (reg64 0) ∧ (reg64 0).cls ≠ 1 ∧ (reg64 0).mirror = false ∧
        w.landing = false ∧ w.notify = false ∧ x.tile.wins.xfers = [] ∧ p.toControl = false ∧
        (x.windowStatus p = 0 ↔ p.gen = 0) ∧ p.offset % 512 / 8 ≤ 60 ∧ x.tile.store.badWords 0 = []) := by decide +kernel
/-- WindowPackets: whatever answers this sender is routable. -/
theorem test_met_WindowPackets_routable (c : Packet) (hd : c.dst = 0x1001) :
    (((winS (winP 1 true 0 512)).packetTaken 0).sys.tx 0).injectable c = true := by
  have h1 : routeIndex [(1, 0x101)] [] 0 0x1001 = some 1 := by decide +kernel
  have h2 : rtMin (NMap.get rtNone [(1, 0x7701)] 1) = 1 := by decide +kernel
  show (match routeIndex [(1, 0x101)] [] 0 c.dst with
    | none => false
    | some i =>
      (rtMin (NMap.get rtNone [(1, 0x7701)] i) ≠ 0 || (rtSafe (NMap.get rtNone [(1, 0x7701)] i) false).isSome) &&
        !(c.type = 1 && !c.long && decide (258 ≤ i))) = true
  rw [hd, h1]
  simp [h2]
theorem test_met_ControlWriteLands :
    let p : Packet := { dst := 0x1100, src := 0x1200, type := 1, long := true, baton := true, total := 512 }
    let s := withSys (fun s => ((s.setTile 0 { winT with rebuild := true }).setReplica 0 { mesh := [(256, 0x7701)] }).setRouter 0
      { eject := [(p.vc, p)] })
    let x := (s.packetTaken 0).sys.tx 0
    let r := NMap.get {} x.tile.store.regions p.window
    s.packet 0 = some p ∧ p.toControl = true ∧ x.tile.rebuild = true ∧ r.valid = true ∧ r.cls ≠ 1 ∧ p.offset / 512 < r.size ∧
      x.tile.wins.xfers = [] ∧ bitOf (x.reg 0x260) 16 = false ∧
      x.injectable { replyPacket x.ctrlEid p 512 0 p.offset 1 with epoch := x.rep.cur } = true := by decide +kernel

/-- The state in which tadpole endpoint `n` holds message `m`. -/
def mailS (n : Nat) (m : TMsg) (f : Sys → Sys) : State := withSys (fun s => (f s).setTad n { alive := true, inbox := [m] })

theorem test_met_RepliesAndTimeouts :
    (let c := mkD [(0, 7), (5, 1), (14, 1), (20, 1)]
     let f : Fetch := { tag := 9 }
     let v : Slot := { streams := [(2, { setDesc := some c, flight := [f] })] }
     let p : Packet := { dst := 0, type := 3, tag := 9 }
     let s := withSys (fun s => (s.setTile 0 (tileR v)).setRouter 0 { eject := [(p.vc, p)] })
     s.packet 0 = some p ∧ p.dst % 16 = 0 ∧ (s.slot 0 0).fetchOf p.tag = some (2, f) ∧ bitOf p.misc 0 = false ∧
       ((s.slot 0 0).stream 2).setDesc = some c) ∧
    (∀ ty ∈ [6, 7],
      let e : Track := { target := 0x1001, window := 5, tag := 3 }
      let p : Packet := { dst := 0, src := 0x1001, type := ty, tag := 3, window := 5, answers := 1 }
      let s := withSys (fun s => (s.setTile 0 (tileR { tracker := [e] })).setRouter 0 { eject := [(p.vc, p)] })
      s.packet 0 = some p ∧ p.dst < 0x1100 ∧ p.answers ≠ 2 ∧ s.sys.lead.jobs = [] ∧
        (s.slot 0 0).tracker.any (fun e => !e.mcast && decide (e.target = p.src) && decide (e.window = p.window) &&
          decide (e.tag = p.tag)) = true) := by decide +kernel

theorem test_met_TransferTimeoutsAndPurge :
    let s := withSys (fun s => (s.setTile 0 { tileR { tracker := [{ tag := 3 }] } with
      wins := { ctrlSent := [{ tag := 4 }] } }) |> fun s => { s with now := 10 ^ 9 })
    let us := bitsOf ((s.sys.tx 0).reg 0xB008) 15 0
    (s.slot 0 0).tracker = [{ tag := 3 }] ∧ 0 + 1000 * us ≤ s.sys.mirror 0 ∧
      (s.sys.tile 0).wins.ctrlSent = [{ tag := 4 }] ∧ ({ tag := 4 } : CtrlSent).waiting = true ∧
      (s.sys.tile 0).store.regionOf 5 = some (0, reg64 0) ∧ (reg64 0).partition = 0 := by decide +kernel

def invS : State :=
  mailS 256 { type := 0x1D, src := 0, payload := 0x1000 + 5 * 2 ^ 16 }
    (fun s => { s.setLead { invals := [(0x1000, 5, 0, [0], 0)], place := [(0, 0)] } with now := 50000 })
theorem test_met_FarCacheInvalidation :
    (mailS 0 { type := 0x1C, payload := 0x1001 } id).mail 0 = some { type := 0x1C, payload := 0x1001 } ∧
    ((withP { wins := { farSweeps := [(0x1001, 5, 0, 7)] } }).sys.tile 0).wins.farSweeps = [(0x1001, 5, 0, 7)] ∧
    invS.mail (256 + invS.sys.lead.hub) = some { type := 0x1D, src := 0, payload := 0x1000 + 5 * 2 ^ 16 } ∧
    invS.sys.lead.invals = [(0x1000, 5, 0, [0], 0)] ∧ invS.sys.lead.waits = [] ∧ invS.sys.physOf 0 = some 0 ∧
    ((withP { shed := true }).sys.tile 0).shed = true := ⟨rfl, rfl, rfl, rfl, rfl, rfl, rfl⟩

/-- Straight 0 with port 0 as `p`, port 1 as `p1` and frames `air` in flight. -/
def strS (p p1 : StraightPort) (air : List Frame) (missed : Nat) : State :=
  withSys (fun s => (s.setStraight 0 { state := 3, ports := [(0, { p with missed := missed }), (1, p1)], air := air }).setStraight 16
    { state := 3, ports := [(0, { heard := true }), (1, { heard := true })] })
theorem test_met_StraightFrames :
    (let f : Frame := { pkt := { group := 2 } }
     let s := strS { ownQ := [f] } { heard := true } [] 0
     let st := s.sys.straight 0
     st.up = true ∧ (st.port 0).resend = [] ∧ (st.port 0).fenced = false ∧ st.ownPick 0 = some (0, f) ∧
       portTile 0 0 = some 0 ∧ ((s.sys.straight 16).port 0).first = []) ∧
    (let f : Frame := { sender := 1, pkt := { group := 1 }, pending := [0] }
     let s := strS { retries := [(1, 0)] } { heard := true, replay := [{}] } [f] 8
     let st := s.sys.straight 0
     let p := st.port 0
     st.nextFor 1 0 = some (0, f) ∧ f.carried = false ∧ f.retry = false ∧ p.fenced = false ∧ f.forPort 0 = true ∧
       bitsOf f.pkt.group 18 18 = axisOf 0 ∧ bitsOf f.pkt.group 22 19 = 0 ∧ f.pkt.relay = false ∧ f.forwarded = false ∧
       f.pkt.reserved = false ∧ NMap.get 0 f.tries 0 < 3 ∧ st.state = 3 ∧ p.absent = false ∧ p.retries = [(1, 0)] ∧
       (st.port 1).replay.find? (fun f => f.sseq = 0) = some {} ∧ 8 ≤ p.missed ∧ portTile 0 0 = some 0) ∧
    (let f : Frame := { forward := true }
     let s := strS { first := [f], resend := [f] } { heard := true } [] 0
     let st := s.sys.straight 0
     let p := st.port 0
     p.first.findIdx? (fun g => g.forward) = some 0 ∧ p.first[0]? = some f ∧ st.up = true ∧ p.fenced = false ∧
       (s.sys.straight 16).up = true ∧ p.resend = [f] ∧ st.targetsOn f = true ∧ (s.sys.straight 16).resendReady 0 = false ∧
       (s.sys.straight 16).targetsOn (relayFrame (s.sys.replica 0) 0 f 0) = true) := by decide +kernel
/-- StraightFrames: a carried frame for tile 0 on column straight 16, its epoch held (and leading here) or not, the place
ahead of the router free or taken. -/
theorem test_met_StraightFrames_carried :
    ∀ e ∈ [0, 7], ∀ w ∈ [[], [({ seq := 1 } : LinkPkt)]],
      let f : Frame := { sender := 1, carried := true, ctarget := 0, pending := [0], pkt := { dst := 0x1000, epoch := e } }
      let s := withSys (fun s => ((s.setStraight 16 { state := 3, air := [f] }).setReplica 0 { ett := [(0, 0x100)] }).setRouter 0
        { ports := [(localPort 0, { wire := w })] })
      let p := (s.sys.straight 16).port 0
      (s.sys.straight 16).nextFor 1 0 = some (0, f) ∧ f.retry = false ∧ p.fenced = false ∧ portTile 16 0 = some 0 ∧
        f.ctarget = 0 ∧ f.pkt.reserved = false ∧ p.first ++ p.relayed = [] ∧ NMap.get 0 f.tries 0 < 3 ∧ f.pkt.type ≠ 4 ∧
        ((s.sys.replica 0).bank f.pkt.epoch = none ↔ e = 7) ∧ s.localWire 0 = w ∧
        (e = 0 → routeIndex (s.sys.replica 0).ett s.sys.lead.peers s.sys.boot.panelId f.pkt.dst = some 0) := by decide +kernel

/-- Tadpole router 17 with port 1 as `q`. -/
def tadS (q : TPort) (f : Sys → Sys) : State := withSys (fun s => f (s.setTad 17 { alive := true, ports := [(1, q)] }))
theorem test_met_TadpoleNetwork :
    (let m : TMsg := { dst := 17, src := 256, type := 0x09, urgent := true, outs := 2 ^ 4 }
     let s := tadS { urgentQ := [m] } id
     let r := s.sys.tad 17
     r.alive = true ∧ r.outUrgent ++ r.outNormal = [] ∧ s.sys.tadHeads 17 4 true = [(1, m)] ∧ s.sys.tadHeads 17 4 false = [] ∧
       4 = tadLocal 17 ∧ (r.port 4).replay = []) ∧
    (let m : TMsg := { dst := 18, src := 256, type := 0x09, urgent := true, payload := 2 ^ 16, outs := 2 ^ 1 }
     let s := withSys (fun s => (s.setTad 17 { alive := true, ports := [(1, { link := 3 }), (3, { urgentQ := [m] })] }).setTad 18
       { alive := true })
     s.sys.tadHeads 17 1 true = [(3, m)] ∧ s.sys.tadHeads 17 1 false = [] ∧ tadNeighbour 17 1 = some (18, 3) ∧
       ((s.sys.tad 17).port 1).dead = false ∧ ((s.sys.tad 17).port 1).link = 3 ∧ s.sys.tadRoom 17 1 true = true ∧
       m.legal = true ∧ s.sys.tadMask 18 3 m = 2 ^ tadLocal 18 ∧ ((s.sys.tad 18).port (tadLocal 18)).dead = false ∧
       (within s.sys.now 1000000 ((s.sys.tad 17).port 1).replayTimes).length < 15) ∧
    (let m : TMsg := { dst := 18, src := 256, type := 0x09, urgent := true, payload := 2 ^ 16 }
     let s := tadS { link := 3, replay := [m] } (fun s => s.setTad 18 { alive := true })
     (s.sys.tad 17).alive = true ∧ ((s.sys.tad 17).port 1).dead = false ∧ ((s.sys.tad 17).port 1).link = 3 ∧
       ((s.sys.tad 17).port 1).replay = [m] ∧ m.legal = true ∧ s.sys.tadMask 18 3 m = 2 ^ tadLocal 18) ∧
    (∀ n ∈ [17, 256, 257],
      let s := withSys (fun s => s.setTad n { notices := [{ type := 0x10, urgent := true }], lostFlag := true })
      (s.sys.tad n).notices = [{ type := 0x10, urgent := true }] ∧
        (s.sys.injected n true).length + (s.sys.tad n).outUrgent.length < 2) ∧
    (tadNeighbour 17 1 = some (18, 3) ∧ ((withSys id).sys.tad 17).port 1 = {} ∧ ({} : TPort).dead = false) := by decide +kernel

theorem test_met_TadpoleRegisterAccess :
    (∀ ty ∈ [1, 2, 0x0A],
      let m : TMsg := { type := ty, payload := 0x114 }
      (mailS 0 m id).mail 0 = some m ∧ bitsOf m.payload 23 0 < 0x10000) ∧
    (((mailS 0 { type := 2, payload := 0x114 } id).mailTaken 0).sys.tx 0 |>.writeReg 0x114 0 false).2.out = [] ∧
    (let r : RegReq := { dst := 3, tag := 1 }
     let s := mailS 256 { type := 3, src := 3, tag := 1 } (fun s => { s.setHub 0 { reqs := [r] } with now := 20000 })
     s.mail 256 = some { type := 3, src := 3, tag := 1 } ∧ (s.sys.hub 0).reqs = [r] ∧ s.sys.lead.waits = [] ∧
       r.since + 20000 ≤ s.sys.now) := by decide +kernel

/-- NoticesAtTheLeadHub: a COUNTED and a STEP notice, and a POISON notice of slot 0 of a running job of two laps a step. -/
def jobL (j : Job) : Lead := { jobs := [(0, { j with spec := { j.spec with table := [{ slot := 0 }] } })] }
theorem test_met_NoticesAtTheLeadHub :
    (∀ c ∈ [0x0A, 0x12, 0x13, 0x19, 0x06, 0x08, 0x0D, 0x03],
      let s := mailS 256 { type := 0x10, sub := c } (fun s => s.setLead (jobL { state := .running, spec := { stepLaps := 2 } }))
      s.mail (256 + s.sys.lead.hub) = some { type := 0x10, sub := c } ∧ s.sys.lead.partitions = [] ∧ s.sys.hubs = [] ∧
        s.sys.jobOfSlot 0 = some 0 ∧ (NMap.get {} s.sys.lead.jobs 0).oldest ≤ 0 ∧
        (NMap.get {} s.sys.lead.jobs 0).poison.contains 0 = false) := by decide +kernel

theorem test_met_EpochSwitchAtTheLead :
    (let s := withSys (fun s => s.setLead { swQueue := [[(0, 1)]] })
     s.sys.lead.swQueue = [[(0, 1)]] ∧ s.sys.lead.sw = none ∧ s.sys.partsOf [0] = []) ∧
    (∀ p ∈ [(2, 1), (4, 2), (5, 3)],
      let sw : Switch := { epoch := 1, phase := p.2, wait := [3, 300], sent := [(3, 2)] }
      let m : TMsg := { type := 0x18, sub := p.1, src := 3, tag := if p.1 = 5 then 0 else 1, payload := 2 }
      let s := mailS 256 m (fun s => { s.setLead { sw := some sw } with now := 50000 })
      s.sys.lead.sw = some sw ∧ s.mail 256 = some m ∧ (p.1 = 5 → (sw.epoch + 255) % 256 = m.tag) ∧
        (p.1 ≠ 5 → sw.epoch = m.tag) ∧ bitsOf m.payload 15 0 = NMap.get 0 sw.sent m.src % 65536 ∧
        sw.wait.filter (fun n => n ≠ m.src) ≠ [] ∧ [3].filter (fun n => n ≠ m.src) = [] ∧ sw.since + 50000 ≤ s.sys.now ∧
        sw.wait.contains 3 = true ∧ sw.drained.contains 3 = false ∧ s.sys.tiles = [] ∧ (s.sys.tile 257).shed = false) := by
  decide +kernel
/-- EpochSwitchAtTheLead: a switch that still waits for engine 262, and one whose last replica is the sender; a tile that
is shed. -/
theorem test_met_EpochSwitchAtTheLead_waits :
    (∀ w ∈ [[3, 262], [3]],
      let sw : Switch := { epoch := 1, phase := 2, wait := w, routes := [(3, default), (262, default)] }
      let s := withSys (fun s => ((((s.setLead { sw := some sw }).setRouter 3 { alive := true }).setTad 3 { alive := true }).setTad 262
        { alive := true }).setEngine 4 { live := true })
      let left := sw.wait.filter (fun n => n ≠ 3 && (s.sys.swReplicas sw).contains n)
      (left = [] ↔ w = [3]) ∧
        (((s.sys.swReplicas sw).filter (fun n => n < 258)).all (fun n => (sw.drained ++ [3]).contains n) = true)) ∧
    ((withP { shed := true }).sys.tile 0).shed = true := by decide +kernel

theorem test_met_EpochSwitchAtAReplica :
    (let m : TMsg := { type := 0x18, sub := 1, payload := 5 + 256 * 6 + 2 ^ 16 * 0xFFFFFFFFFFFF }
     let s := mailS 0 m id
     s.mail 0 = some m ∧ m.type = 0x18 ∧ m.sub = 1) ∧
    (∀ p ∈ [(7, 0), (7, 2 ^ 63), (3, 0), (6, 0)],
      let m : TMsg := { type := 0x18, sub := p.1, tag := 1, payload := p.2 }
      let s := mailS 0 m (fun s => s.setReplica 0 { shdValid := true })
      s.mail 0 = some m ∧ (s.sys.replica 0).shdValid = true ∧ bitsOf m.payload 23 16 = 0 ∧ (s.sys.replica 0).cur ≠ m.tag) ∧
    (let m : TMsg := { type := 0x18, sub := 3, tag := 1 }
     let s := mailS 0 m (fun s => s.setReplica 0 { cur := 1 })
     s.mail 0 = some m ∧ (s.sys.replica 0).cur = m.tag ∧ (s.sys.replica 0).stale = false) ∧
    (let s := withSys (fun s => s.setReplica 0 { draining := true })
     (s.sys.replica 0).draining = true ∧ (s.sys.replica 0).drainSent = false ∧ s.sys.oldCount 0 = 0) := by decide +kernel

theorem test_met_PanelTimeMirrors :
    (∀ sub ∈ [1, 2, 3],
      let m : TMsg := { type := 0x20, sub := sub, payload := 1000, outs := 2 ^ tadLocal 17 }
      let s := withSys (fun s => (s.setTad 17 { ports := [(1, { urgentQ := [m] })] }).setTad 18 { alive := true })
      let r := s.sys.tad 17
      r.outUrgent = [] ∧ r.outNormal = [] ∧ r.ports.length = 1 ∧ (r.port 1).urgentQ = [m] ∧ r.notices.length < 32 ∧
        tadNeighbour 17 1 = some (18, 3) ∧ 64 < ((1000 : Int) - (s.sys.mirror 17 : Int)).natAbs ∧
        s.sys.tadRoom 17 1 true = true) ∧
    (let m : TMsg := { dst := 0x3FF, src := 256, type := 0x20, sub := 1, urgent := true, payload := 1000, outs := 2 ^ 1 }
     let s := withSys (fun s => s.setTad 17 { ports := [(3, { urgentQ := [m] }), (1, { link := 3 })] }
       |> fun s => (s.setReplica 18 { tad := [(266, 2 ^ 4)] }).setTad 18 { alive := true })
     let r := s.sys.tad 17
     r.outUrgent = [] ∧ r.outNormal = [] ∧ (r.port 3).urgentQ = [m] ∧ (∀ j < 5, j ≠ 3 → (r.port j).urgentQ = []) ∧
       m.legal = true ∧ (r.port 1).link = 3 ∧ s.sys.tadRoom 17 1 true = true ∧ tadNeighbour 17 1 = some (18, 3) ∧
       s.sys.tadMask 18 3 m = 2 ^ 4 ∧ ((s.sys.tad 18).port 4).dead = false) := by decide +kernel

/-- A command packet: opcode, partition, target, and parameters by byte offset. -/
def pkt (op part target : Nat) (l : List (Nat × Nat)) : Cmd :=
  { raw := op + part * 2 ^ 32 + target * 2 ^ 48 + l.foldl (fun a p => a + p.2 * 2 ^ (8 * p.1)) 0 }
/-- Job 0 in state `st`, of partition 1, on slot 0 of logical tile 0. -/
def job0 (st : JobState) : Job := { state := st, serial := 1, spec := { partition := 1, table := [{ slot := 0, len := 1 }], lapCc := 64 } }
/-- The handle of job 0. -/
def hnd0 : Nat := 2 ^ 16 + 2 ^ 32
/-- A panel whose west hub has started: partition 1 owns logical tile 0, which has regions of each class, a window 5 and
two stream contexts; job 0 is in state `st`; the only pair is 0, a panel queue, and holds command `c`. -/
def cmdS (st : JobState) (c : Cmd) : State :=
  withSys (fun s =>
    { ((s.setHub 0 { live := true, ready := true, bound := true, linkRate := 5, linkWidth := 16, busMaster := true, memSpace := true
                     qps := [(0, { state := 1, cmds := [c] })]
                     ctxs := [(0, { isOpen := true, record := 1 + 2 ^ 16 + 4 * 2 ^ 192 }), (1, { isOpen := true, record := 5 + 2 ^ 16 })]
                     egress := [(3, { isOpen := true, rows := 8, partition := 1 })] }).setLead
        { partitions := [(1, { tiles := 1 })], place := [(0, 0)], jobs := [(0, job0 st)] }).setTile 0
        { slots := [(0, { state := .halted })], logical := some 0, regs := [(0x120, 64)]
          store := { regions := [(0, { reg64 0 with partition := 1 }), (1, { reg64 64 with cls := 2, size := 192, partition := 1 }),
                                 (2, { reg64 256 with cls := 1, partition := 1 }), (3, { reg64 512 with cls := 3, partition := 1 }),
                                 (4, { reg64 1024 with cls := 1, size := 512, partition := 1 })] }
          wins := { table := [(5, { isOpen := true, region := 3, rows := 8, partition := 1 })] } } with
      boot := { s.boot with flash := [(0, { conf := [(1, { len := 72 })] })] }
      host := [(68, 1)] })
/-- Command `c` is accepted, as a decidable test. -/
def takes (s : State) (op : Nat) (bad : Sys → Cmd → List (Nat × Nat)) (c : Cmd) : Bool :=
  (s.sys.hub 0).live && (s.sys.hub 0).ready && decide (s.sys.nextCmd 0 0 op = some c) && decide (s.checks 0 0 op bad c = [])
theorem accepts_of_takes {s : State} {op : Nat} {bad : Sys → Cmd → List (Nat × Nat)} {c : Cmd} (h : takes s op bad c = true) :
    s.accepts 0 0 op bad c := by
  simp [takes] at h
  exact ⟨⟨h.1.1.1, h.1.1.2, h.1.2⟩, h.2⟩

/-- Every command but STREAM_OPEN (below) is accepted here: opcode, the opcode's checks, partition, target, parameters. -/
def accepted : List (Nat × (Sys → Cmd → List (Nat × Nat)) × Nat × Nat × List (Nat × Nat)) :=
  [(0x00, noChecks, 0, 0, []), (0x01, badIdentify, 0, 0, []), (0x02, badFeature, 0, 0, [(8, 3), (12, 16)]),
   (0x03, badSetFeature, 0, 0, [(8, 3)]), (0x04, badRegsOn 0 0, 1, 0x1100, [(8, 0x114), (12, 1)]),
   (0x05, badRegsOn 0 0, 0, 0x1200, [(8, 0x108), (12, 1), (24, 5)]), (0x08, badPartCreate, 2, 0, [(16, 2)]),
   (0x09, noChecks, 1, 0, []), (0x0A, noChecks, 1, 0, []),
   (0x10, badRegionDefine, 1, 0x1000, [(8, 9), (12, 4096), (16, 8)]), (0x11, badRegionNumber, 1, 0x1000, []),
   (0x12, badStore true, 1, 0x1000, [(16, 2)]), (0x13, badStore false, 1, 0x1000, [(16, 2)]),
   (0x14, badStore false, 1, 0x1000, [(16, 2)]), (0x15, badWeightLoad, 1, 0, [(8, 2)]),
   (0x18, badCodeLoad, 1, 0, [(8, 1)])]
def accepted2 : List (Nat × (Sys → Cmd → List (Nat × Nat)) × Nat × Nat × List (Nat × Nat)) :=
  [(0x20, badWindowOpen, 1, 0x1000, [(8, 6), (9, 1), (12, 3), (20, 8), (24, 2 ^ 64 - 1)]), (0x20, badWindowOpen, 1, 0x1200, [(8, 6), (9, 1), (20, 8), (24, 2 ^ 64 - 1)]),
   (0x21, badWindowClose, 1, 0x1000, [(8, 5)]), (0x21, badWindowClose, 1, 0x1200, [(8, 3)]),
   (0x22, badMcast, 1, 0x1000, [(9, 4)]), (0x23, badRgroup, 1, 0, [(8, 7), (11, 1), (28, 1)]),
   (0x29, badStreamClose, 1, 0x1200, []), (0x31, badJobFeed, 1, 0x1200, [(12, 1)]),
   (0x30, badJobStart, 1, 0, [(8, 64), (16, 1), (20, 64), (24, 1), (28, 1)]),
   (0x32, badHandle, 1, 0, [(8, hnd0)]), (0x33, badHandle, 1, 0, [(8, hnd0)]), (0x34, badJobStatus, 1, 0, [(8, hnd0)]),
   (0x35, badHandle, 1, 0, [(8, hnd0)]), (0x38, badPhaseSet, 1, 0, [(8, hnd0), (16, 5)]), (0x39, badPowerQuery, 0, 0, [(16, 64)]),
   (0x40, badUnitBuffer, 0, 0, [(8, 2), (12, 1)]), (0x41, badUnit, 0, 0, [(8, 2), (12, 1)]), (0x43, badUnit, 0, 0, [(8, 2), (12, 1)]),
   (0x48, badLogRead, 0, 0, [(12, 1)]), (0x49, noChecks, 0, 0, []), (0x50, badConfigRead, 0, 0, [(8, 1), (12, 72)]),
   (0x51, badConfigWrite, 0, 0, [(8, 6), (12, 4)]), (0x52, badStage, 0, 0, [(16, 64)]), (0x53, noChecks, 0, 0, []),
   (0x58, badLinkQuery, 0, 0, [(8, 4)])]
theorem test_met_commands_accepted :
    ∀ e ∈ accepted,
      let c := pkt e.1 e.2.2.1 e.2.2.2.1 e.2.2.2.2
      takes (cmdS .running c) e.1 e.2.1 c = true := by decide +kernel
theorem test_met_commands_accepted2 :
    ∀ e ∈ accepted2,
      let c := pkt e.1 e.2.2.1 e.2.2.2.1 e.2.2.2.2
      takes (cmdS .running c) e.1 e.2.1 c = true := by decide +kernel
/-- UNIT_REGROW is accepted once its unit has been shed. -/
def regrowS (k : Nat) : State :=
  let c := pkt 0x42 0 0 [(8, k), (12, if k = 1 then 0 else 1)]
  let s := cmdS .running c
  { s with sys := { s.sys with health := { s.sys.health with units := [(unitKey k 0 (if k = 1 then 0 else 1), { shed := some 0 })] } } }
theorem test_met_UnitCommandsTakeEffect :
    (∀ k ∈ [2, 3], takes (regrowS k) 0x42 badRegrow (pkt 0x42 0 0 [(8, k), (12, 1)]) = true) ∧
    (let c := pkt 0x41 0 0 [(8, 2), (12, 1)]
     let s := cmdS .running c
     let t := s.started 0 0 c
     (t.unit (unitKey 2 0 1)).shed = none ∧ (t.unit (unitKey 2 0 1)).watch = none ∧ t.spareLeft 2 0 1 = false ∧
       t.spareLeft 4 0 1 = true ∧ t.health.frozen s.sys.now = false) := by decide +kernel
/-- UnitCommandsTakeEffect: a tile may join before boot has fixed the feature level, and may not where it lacks a
feature. -/
theorem test_met_UnitCommandsTakeEffect_joins :
    ∀ fixed ∈ [false, true],
      let c := pkt 0x42 0 0 [(8, 1)]
      let s := regrowS 1
      let s : State := { s with sys := { s.sys with boot := { s.sys.boot with fixed := fixed, feature := 2 ^ 63 } } }
      takes s 0x42 badRegrow c = true ∧ c.p 8 1 = 1 ∧ (s.started 0 0 c).mayJoin (c.p 10 2) = !fixed := by decide +kernel

/-- CommandsAreCheckedFirst: an IDENTIFY whose buffer address is odd, on a hub that has started and on one that has not. -/
theorem test_met_CommandsAreCheckedFirst :
    (let c := pkt 0x01 0 0 [(8, 1)]
     let s := cmdS .idle c
     (s.sys.hub 0).live = true ∧ (s.sys.hub 0).ready = true ∧ s.sys.nextCmd 0 0 0x01 = some c ∧ s.sys.lead.sw = none ∧
       s.checks 0 0 0x01 badIdentify c = [] ++ (8, 0) :: []) ∧
    (let c := pkt 0x00 0 0 []
     (cmdS .idle c).sys.nextCmd 0 0 0x01 = none ∧ ((cmdS .idle c).sys.qp 0 0).state = 1 ∧
       ((cmdS .idle c).sys.qp 0 0).cmds = [c]) ∧
    (State.reset.sys.hub 0).live = false := by decide +kernel

theorem test_met_ReportingCommandsAnswer :
    let c := pkt 0x50 0 0 [(8, 1), (12, 72)]
    let s := cmdS .running c
    (s.started 0 0 c).confRec (c.p 8 2) = some { len := 72 } ∧ (pkt 0x48 0 0 [(12, 1)]).p 12 4 ≠ 0 ∧
      (pkt 0x48 0 0 []).p 12 4 = 0 ∧ takes (cmdS .running (pkt 0x48 0 0 [])) 0x48 badLogRead (pkt 0x48 0 0 []) = true := by
  decide +kernel

/-- A command with `v` at host address 0 and a failing range of `bad` bytes there. -/
def hostS (c : Cmd) (n v bad : Nat) : State :=
  let s := cmdS .done c
  { s with sys := { s.sys.hostWrite 0 n v with hostBad := if bad = 0 then [] else [(0, bad)] } }
/-- A profile of 1 × 1 pictures in INT8, and a power cap of 16,000 W. -/
def prof1 : Nat := 1 + 2 ^ 96 + 2 ^ 112 + 2 ^ 128
theorem test_met_SettingCommandsTakeEffect :
    (∀ p ∈ [(2, 64, prof1, true), (2, 64, 0, false), (3, 16, 0, false), (3, 16, 6000, true), (3, 16, 20000, true),
        (3, 16, 20001, false), (3, 16, 16000 + 2 ^ 112, false)],
      let c := pkt 0x03 0 0 [(8, p.1), (12, p.2.1)]
      let s := hostS c p.2.1 p.2.2.1 0
      takes s 0x03 badSetFeature c = p.2.2.2 ∧ takes s 0x03 badFeature c = true ∧ c.p 12 4 ≠ 0 ∧
        (s.started 0 0 c).hostRead (c.p 16 8) (c.p 12 4) = some p.2.2.1 ∧
        takes (hostS c p.2.1 p.2.2.1 1) 0x03 badSetFeature c = true ∧ (hostS c p.2.1 p.2.2.1 1).sys.hostRead 0 p.2.1 = none) ∧
    profileBad 0 = some 0 ∧ profileBad prof1 = none ∧
    (let s := cmdS .done (pkt 0x03 0 0 [])
     s.sys.profileUsed 0 = true ∧ s.sys.profileUsed 1 = false) ∧
    (bitsOf 16000 127 112 = 0 ∧ bitsOf (16000 + 2 ^ 112) 127 112 ≠ 0) ∧
    (let c := pkt 0x04 1 0x1100 [(8, 0x114), (12, 1)]
     let t := (cmdS .done c).started 0 0 c
     c.phys = false ∧ t.tileOfEid c.target = some 0 ∧ (t.hub 0).freeTag 0 = some 0) ∧
    (∀ op ∈ [0x04, 0x05],
      let c := pkt op 0 0x1200 [(8, 0x108), (12, 2)]
      takes (cmdS .done c) op (badRegsOn 0 0) c = true ∧ c.phys = false ∧ c.target = 0x1200 + 0 ∧ 1 < c.p 12 2) ∧
    (∀ v ∈ [0, 1, 2],
      let c := pkt 0x51 0 0 [(8, 6), (12, 4)]
      let s := hostS c 4 v 0
      takes s 0x51 badConfigWrite c = decide (v ≠ 2) ∧ takes s 0x51 noChecks c = true ∧ c.p 10 2 = 0 ∧
        confSize (c.p 8 2) = some (c.p 12 4) ∧ c.p 16 8 % 64 = 0 ∧ (s.started 0 0 c).hostRead (c.p 16 8) (c.p 12 4) = some v ∧
        (confBad 6 v).isSome = decide (v = 2) ∧ (s.started 0 0 c).unlocks 6 v = false ∧ (s.started 0 0 c).confRec 6 = none ∧
        takes (hostS c 4 v 1) 0x51 badConfigWrite c = true ∧ (hostS c 4 v 1).sys.hostRead 0 4 = none) ∧
    (let c := pkt 0x51 0 0 [(8, 6), (12, 4)]
     let s := hostS c 4 0 0
     let s : State := { s with sys := { s.sys with boot := { s.sys.boot with
       flash := [(0, { conf := [(6, { len := 4, value := 1 })] })] } } }
     takes s 0x51 noChecks c = true ∧ (s.started 0 0 c).hostRead 0 4 = some 0 ∧
       ((s.started 0 0 c).confRec 6).map (fun r => bitOf r.value 0) = some true ∧ bitOf 0 0 = false) ∧
    (∀ bad ∈ [0, 1],
      let c := pkt 0x52 0 0 [(16, 64)]
      takes (hostS c 64 0 bad) 0x52 badStage c = true ∧ ((hostS c 64 0 bad).sys.hostRead 0 64 = none ↔ bad = 1)) ∧
    (∀ b ∈ [true, false],
      let c := pkt 0x53 0 0 []
      let s := cmdS .done c
      let s : State := { s with sys := { s.sys with boot := { s.sys.boot with hubs := [(0, { staged := b })] } } }
      takes s 0x53 noChecks c = true ∧ s.sys.lead.jobs.any (fun j => j.2.state.live) = false ∧
        (s.sys.bootHub s.sys.lead.hub).staged = b) := by decide +kernel

theorem test_met_PartitionCreateRules :
    (∀ p ∈ [(0, 2), (1, 2), (2, 0), (2, 1), (2, 2)],
      let c := pkt 0x08 p.1 0 [(16, p.2)]
      let s := cmdS .running c
      s.sys.nextCmd 0 0 0x08 = some c ∧ (s.sys.hub 0).qpOwner 0 = 0 ∧ (s.started 0 0 c).headBad c = [] ∧ c.p 16 30 = p.2 ∧
        Memory.wf s.sys.host = true ∧ s.sys.lead.partitions = [(1, { tiles := 1 })]) ∧
    (let l : NMap Partition := (List.range 16).map (fun i => (i + 1, { tiles := 2 ^ i }))
     l.length = 16 ∧ NMap.find l 17 = none ∧ l.any (fun p => p.2.tiles &&& 2 ^ 16 ≠ 0) = false) := by decide +kernel
/-- PartitionCreateRules: the state keeps the invariant. -/
theorem test_met_PartitionCreateRules_kept (c : Cmd) : (cmdS .running c).sys.Kept := by
  have hp : (cmdS .running c).sys.lead.partitions = [(1, { tiles := 1 })] := rfl
  have hh : (cmdS .running c).sys.host = [(68, 1)] := rfl
  unfold Sys.Kept
  rw [hp, hh]
  exact ⟨⟨by decide, by decide, by decide, by simp⟩, by decide⟩

theorem test_met_PartitionAndGroupCommands :
    (∀ st ∈ [JobState.running, JobState.done],
      let c := pkt 0x0A 1 0 []
      let s := cmdS st c
      takes s 0x0A noChecks c = true ∧ s.sys.lead.waits = [] ∧ (s.started 0 0 c).partBusy 1 = decide (st = .running)) ∧
    (let c := pkt 0x22 1 0x1000 [(9, 4)]
     takes (cmdS .done c) 0x22 badMcast c = true ∧ bitOf (c.p 9 1) 2 = true) ∧
    (let c := pkt 0x23 1 0 [(8, 7), (11, 1), (28, 1)]
     let s := cmdS .done c
     takes s 0x23 badRgroup c = true ∧ bitOf (c.p 28 1) 0 = true ∧
       s.sys.mesh.any (fun r => r.2.red.any (fun x => x.group = 7)) = false) := by decide +kernel
/-- MCAST_GROUP_SET of one member: the second tile of the row, both tiles in the partition. -/
def mcS : State :=
  let s := hostS (pkt 0x22 1 0x1000 [(10, 1)]) 2 0x1001 0
  { s with sys := s.sys.setLead { s.sys.lead with partitions := [(1, { tiles := 3 })], place := [(0, 0), (1, 1)] } }
theorem test_met_PartitionAndGroupCommands_mcast :
    let c := pkt 0x22 1 0x1000 [(10, 1)]
    takes (hostS c 2 0x1001 1) 0x22 badMcast c = true ∧ (hostS c 2 0x1001 1).sys.hostList 0 2 1 = none ∧
    let t := mcS.started 0 0 c
    let g : McGroup := { holder := 0x1000, members := [0x1001], partition := 1 }
    takes mcS 0x22 badMcast c = true ∧ mcS.sys.lead.sw = none ∧ t.hostList (c.p 16 8) 2 (c.p 10 2) = some [0x1001] ∧
      t.memberOk 1 0x1001 = true ∧ (t.mcBuild t.lead.place g).isSome = true ∧
      ((t.mcClear 0x1000 0).mcPlace g).isSome = true ∧ memberNode mcS.sys.lead.place 0x1000 = some 0 ∧
      t.memberOk 1 0x1002 = false := by decide +kernel
/-- MCAST_GROUP_SET of a member outside the partition: only that index is wrong. -/
theorem test_met_PartitionAndGroupCommands_member :
    let c := pkt 0x22 1 0x1000 [(10, 1)]
    let s := hostS c 2 0x1002 0
    takes s 0x22 noChecks c = true ∧ takes s 0x22 badMcast c = false ∧ s.sys.lead.sw = none ∧ c.p 8 1 < 64 ∧
      bitOf (c.p 9 1) 1 = false ∧ bitOf (c.p 9 1) 2 = false ∧ c.p 10 2 = 1 ∧ c.p 16 8 % 2 = 0 ∧
      (s.started 0 0 c).hostList (c.p 16 8) 2 (c.p 10 2) = some [0x1002] ∧ (s.started 0 0 c).memberOk 1 0x1002 = false := by
  decide +kernel
/-- RGROUP_SET of contributor `e`, its root window 5 of tile store 0 open with REDUCE and LOCAL_ROOT or not. -/
def rgC : Cmd := pkt 0x23 1 0 [(8, 7), (11, 1), (14, 1), (24, 0x1000), (26, 5)]
def rgS (e : Nat) (root room : Bool) : State :=
  let s := hostS rgC 2 e 0
  let s : State := { s with sys := s.sys.modTile 0 (fun t => { t with wins := { table := [(5,
    { isOpen := true, region := 3, rows := 8, partition := 1, reduce := root, srcKind := 2 })] } }) }
  { s with sys := s.sys.setReplica 0 {
    rgW0 := if room then [] else (List.range 4).map (fun i => (i, i + 2 ^ 18))
    rgW1 := (List.range 4).map (fun i => (i, 8 * 2 ^ 16)) } }
theorem test_met_PartitionAndGroupCommands_rgroup :
    (let t := (rgS 0 true true).started 0 0 rgC
     takes (rgS 0 true true) 0x23 badRgroup rgC = true ∧ t.hostList (rgC.p 16 8) 2 (rgC.p 14 2) = some [0] ∧
       t.mesh.any (fun r => r.2.red.any (fun x => x.group = 7)) = false ∧
       takes (hostS rgC 2 0 1) 0x23 badRgroup rgC = true ∧ (hostS rgC 2 0 1).sys.hostList 0 2 1 = none) ∧
    (∀ p ∈ [(16, true, true), (0, false, true), (0, true, false)],
      let s := rgS p.1 p.2.1 p.2.2
      let t := s.started 0 0 rgC
      takes s 0x23 noChecks rgC = true ∧ s.sys.lead.sw = none ∧ t.rgForeign rgC = false ∧ rgC.p 10 1 ≤ 2 ∧ t.offers 0 = true ∧
        rgC.p 11 1 = 1 ∧ rgC.p 14 2 = 1 ∧ rgC.p 16 8 % 2 = 0 ∧ bitOf (rgC.p 28 1) 0 = false ∧
        t.hostList (rgC.p 16 8) 2 (rgC.p 14 2) = some [p.1] ∧ t.contributorOk 1 p.1 = decide (p.1 = 0) ∧
        t.rootOk (rgC.rgroup [p.1]) = p.2.1 ∧ (t.rgRootTile t.lead.place (rgC.rgroup [p.1])).isSome = true ∧
        (p.1 = 0 → ((t.rgClear 7).rgPlace (rgC.rgroup [p.1])).isSome = p.2.2)) := by decide +kernel

theorem test_met_StoreAndWindowCommands :
    (∀ m ∈ [0, 1],
      let c := pkt 0x10 1 0x1000 [(8, 9), (10, m), (12, 2048), (16, 8)]
      takes (cmdS .done c) 0x10 badRegionDefine c = true ∧ bitOf (c.p 10 1) 1 = false ∧ bitOf (c.p 10 1) 0 = decide (m = 1)) ∧
    (∀ n ∈ [0, 2],
      let c := pkt 0x11 1 0x1000 [(8, n)]
      let s := cmdS .done c
      let t := s.started 0 0 c
      takes s 0x11 badRegionNumber c = true ∧ (t.tile 0).store.region n = some (if n = 0 then { reg64 0 with partition := 1 }
        else { reg64 256 with cls := 1, partition := 1 }) ∧
        (t.tx 0).regionBusy n (((t.tile 0).store.region n).getD {}) = decide (n = 0)) ∧
    (∀ op ∈ [0x12, 0x13, 0x14],
      let c := pkt op 1 0x1000 [(16, 2)]
      let t := (cmdS .done c).started 0 0 c
      c.p 16 4 ≠ 0 ∧ t.storeLocked c = false ∧ (t.hostRowsUpTo (c.p 24 8) 2).length = 2 ∧
        takes (cmdS .done (pkt op 1 0x1000 [])) op (badStore (decide (op = 0x12))) (pkt op 1 0x1000 []) = true) ∧
    (let c := pkt 0x13 1 0x1000 [(16, 2)]
     let s := hostS c 1 0 1
     ((s.started 0 0 c).hostRowsUpTo (c.p 24 8) 2).length < 2) ∧
    (∀ n ∈ [2, 4],
      let c := pkt 0x15 1 0 [(8, n), (10, 1)]
      let s := hostS c 16 (1 + 2 ^ 32) 0
      let t := s.started 0 0 c
      takes s 0x15 badWeightLoad c = decide (n = 4) ∧ takes s 0x15 noChecks c = true ∧ c.p 10 2 ≠ 0 ∧ t.bindings (c.p 16 8) 1 = some (1 + 2 ^ 32) ∧
        bindOk (1 + 2 ^ 32) 0 = true ∧ setBits 1 16 = [0] ∧ weightRows (1 + 2 ^ 32) 1 = 256 ∧ bindOk 1 0 = false ∧
        ((t.tx 0).slot 0).state = .halted) ∧
    (let c := pkt 0x15 1 0 [(8, 4), (10, 1)]
     takes (hostS c 1 0 1) 0x15 badWeightLoad c = true ∧ ((hostS c 1 0 1).started 0 0 c).bindings (c.p 16 8) 1 = none) := by decide +kernel
theorem test_met_StoreAndWindowCommands_windows :
    (∀ e ∈ [1, 8],
      let c := pkt 0x20 1 0x1000 [(8, 6), (9, e), (12, 3), (20, 8), (24, 2 ^ 64 - 1)]
      let t := (cmdS .done c).started 0 0 c
      takes (cmdS .done c) 0x20 badWindowOpen c = true ∧ c.window.cro = decide (e = 8) ∧ c.target < 0x1200 ∧
        (t.farTiles 1).all (fun y => (t.tx y).farFree.isSome) = true) ∧
    (let c := pkt 0x21 1 0x1000 [(8, 5)]
     let w := ((cmdS .done c).started 0 0 c).closeTarget c
     w.landing = false ∧ w.closing = false ∧ w.cro = false ∧ c.target < 0x1200) ∧
    (let c := pkt 0x21 2 0x1200 [(8, 3)]
     let w := ((cmdS .done c).started 0 0 c).closeTarget c
     w.partition ≠ c.partition ∧ 0x1200 ≤ c.target) := by decide +kernel

/-- An egress record that takes window 3 of the hub to a host ring: one row of FP32, one element kept. -/
def egRec : Nat := 5 + 3 * 2 ^ 8 + 2 ^ 16 + 2 ^ 32 + 2 ^ 48 + 11 * 2 ^ 56 + 11 * 2 ^ 64 + 2 ^ 128 + 64 * 2 ^ 256 + 4 * 2 ^ 288
def strW (v : Nat) : State :=
  let c := pkt 0x28 1 0x1200 [(8, 9)]
  let s := hostS c 64 v 0
  { s with sys := s.sys.modHub 0 (fun u => { u with egress := [(3, { isOpen := true, write := true, rows := 8, partition := 1 })] }) }
theorem test_met_StreamCommands :
    (let c := pkt 0x28 1 0x1200 [(8, 9)]
     let t := (strW egRec).started 0 0 c
     takes (strW egRec) 0x28 badStreamOpen c = true ∧ t.hostRead (c.p 16 8) 64 = some egRec ∧
       ({ record := egRec } : Context).egress = true ∧ t.egressBad 0 1 { record := egRec, isOpen := true } = [] ∧
       (strW 0).sys.hostRead 0 64 = some 0 ∧ ({ record := 0 } : Context).egress = false ∧ ({ record := 0 } : Context).kind = 0 ∧
       takes (hostS c 1 0 1) 0x28 badStreamOpen c = true ∧ (hostS c 1 0 1).sys.hostRead 0 64 = none) ∧
    (∀ v ∈ [0, egRec + 2 ^ 8],
      let c := pkt 0x28 1 0x1200 [(8, 9)]
      let s := strW v
      let t := s.started 0 0 c
      let new : Context := { record := v, isOpen := true }
      let l := if new.egress then t.egressBad 0 c.partition new else if 1 ≤ new.kind ∧ new.kind ≤ 4 then [] else [(0, 0)]
      takes s 0x28 noChecks c = true ∧ (t.hub 0).ctx 9 = {} ∧ c.p 16 8 % 64 = 0 ∧ t.hostRead (c.p 16 8) 64 = some v ∧
        (match l with
         | y :: b => decide (y.1 < 64) && b.all (fun z => decide (y.1 ≤ z.1))
         | [] => false) = true) ∧
    (let c := pkt 0x31 1 0x1200 [(12, 1)]
     let t := (cmdS .done c).started 0 0 c
     c.p 12 4 ≠ ((t.hub 0).ctx 0).tail ∧ (pkt 0x31 1 0x1200 []).p 12 4 = ((t.hub 0).ctx 0).tail ∧
       takes (cmdS .done (pkt 0x31 1 0x1200 [])) 0x31 badJobFeed (pkt 0x31 1 0x1200 []) = true) := by decide +kernel

def jobC (runs : Nat) : Cmd := pkt 0x30 1 0 [(8, 64), (16, 1), (20, 64), (24, runs), (28, 1)]
/-- The panel in which job 0 is in state `st` and the panel's power is over its cap. -/
def poor (s : State) : State :=
  { s with sys := { s.sys with power := { s.sys.power with inForce := 0, feeds := [(0, { volts := 1, amps := 1 })] } } }
theorem test_met_JobCommands_start :
    (∀ runs ∈ [0, 1],
      let s := cmdS .done (jobC runs)
      let t := s.started 0 0 (jobC runs)
      takes s 0x30 badJobStart (jobC runs) = true ∧ t.jobTable (jobC runs) = some [2 ^ 32] ∧ (jobC runs).p 24 4 = runs ∧
        t.tileOfEid 0 = some 0 ∧ t.coreState 0 0 = .halted ∧ t.jobOfSlot 0 = none ∧ t.inHold = false ∧
        t.freeJobSlot = some 1 ∧ (s.sys.qp 0 0).state = 1) ∧
    ((cmdS .running (jobC 1)).started 0 0 (jobC 1)).jobOfSlot 0 ≠ none ∧
    (let s := cmdS .done (jobC 1)
     ({ s with sys := { s.sys with cool := { hold := some {} } } } : State).sys.inHold = true) := by decide +kernel
/-- JobCommands: every operating point is granted, and none is. -/
theorem test_met_JobCommands_power :
    (∀ o, ((cmdS .done (jobC 1)).started 0 0 (jobC 1)).newJobFits 1 o = true) ∧
    (∀ k o, ((poor (cmdS .done (jobC 1))).started 0 0 (jobC 1)).newJobFits k o = false) := by
  constructor
  · intro o
    show decide (0 + 1 * oppWatts o * 1075 ≤ 995 * 20000) = true
    have h : oppWatts o ≤ 92 := by
      unfold oppWatts
      match o with
      | 0 | 1 | 2 | 3 | 4 | 5 | 6 | 7 => decide
      | n + 8 => simp
    simp; omega
  · intro k o
    show decide (0 + 1 * 1 + k * oppWatts o * 1075 ≤ 995 * 0) = false
    simp
/-- JobCommands: no other job is live. -/
theorem test_met_JobCommands_alone (m : Nat) : ((cmdS .done (jobC 1)).sys.job m).state.live = false := by
  show (NMap.get ({} : Job) [(0, job0 .done)] m).state.live = false
  unfold NMap.get
  split <;> rfl
theorem test_met_JobCommands :
    (∀ p ∈ [(0x32, JobState.running), (0x32, .loading), (0x32, .done), (0x33, .running), (0x33, .loading), (0x35, .running), (0x35, .done),
        (0x38, .running), (0x38, .loading)],
      let c := pkt p.1 1 0 [(8, hnd0)]
      let s := cmdS p.2 c
      takes s p.1 (if p.1 = 0x38 then badPhaseSet else badHandle) c = true ∧ c.p 8 8 % 4096 = 0 ∧ (s.sys.job 0).state = p.2 ∧
        (s.sys.job 0).copying = false ∧ s.sys.inHold = false) ∧
    (let c := pkt 0x32 1 0 [(8, hnd0)]
     let s := cmdS .running c
     let j : Job := { job0 .running with spec := { (job0 .running).spec with hostCommit := true }, ends := [(0, [0])] }
     let s : State := { s with sys := s.sys.setJob 0 j }
     takes s 0x32 badHandle c = true ∧ (s.sys.job 0).spec.hostCommit = true ∧ c.p 16 4 = (s.sys.job 0).oldest % 2 ^ 32 ∧
       (∀ e ∈ (s.sys.job 0).spec.table, e.slot ∈ NMap.get [] (s.sys.job 0).ends (s.sys.job 0).oldest)) := by decide +kernel
/-- The west hub with registers `r`, pair 0 as `p`, stream context 0 as `c`, reachable by the host and able to reach it. -/
def hubS (r : NMap Nat) (p : QP) (c : Context) : State :=
  withSys (fun s => s.setHub 0
    { live := true, ready := true, linkRate := 5, linkWidth := 16, busMaster := true, memSpace := true, regs := r
      qps := [(0, p)], ctxs := [(0, c)], msix := [(0, { masked := false, pending := true })]
      egress := [(0, { isOpen := true, rows := 8, first := 0 })] })
/-- A record from its fields: byte offset and value. -/
def mkRec (l : List (Nat × Nat)) : Nat := l.foldl (fun a p => a + p.2 * 2 ^ (8 * p.1)) 0
/-- A raw context of 2 × 2 pictures, its ring at host address 0, two one-row slots in window 5 of tile store 1. -/
def rawRec : Nat := mkRec [(0, 1), (4, 0x1001), (6, 5), (12, 1), (14, 2), (24, 4), (28, 2), (30, 2), (40, 4096), (48, 8)]
/-- One ring entry that ends a unit of `len` bytes at host address 64. -/
def ingestS (len : Nat) : State :=
  let s := hubS [] {} { isOpen := true, record := rawRec, tail := 1 }
  { s with sys := s.sys.hostWrite 0 16 (64 + 2 ^ 64 * len + 2 ^ 96) }
theorem test_met_IngestAndEgress_decode :
    (∀ len ∈ [6, 12],
      let s := ingestS len
      let c := (s.sys.hub 0).ctx 0
      let r := s.sys.gather 0 c (2 ^ 16)
      c.isOpen = true ∧ c.egress = false ∧ (s.sys.hub 0).live = true ∧ (s.sys.hub 0).dma = true ∧ c.ethernet = false ∧ c.waiting.length < 2 ∧
        r.1 = true ∧ r.2.kind = 1 ∧ r.2.unitBad = false ∧ r.2.unitLen = len ∧ r.2.f 28 2 = 2 ∧ r.2.f 30 2 = 2 ∧
        (r.2.pictures + 1) % max 1 (r.2.f 15 1) = 0) ∧
    rawBytes 0 2 2 = 6 ∧ rawBytes 2 2 2 = 12 := by decide +kernel
/-- IngestAndEgress: whatever the open layout of the context, one of these units has its length. -/
theorem test_met_IngestAndEgress_length (n : Nat) : rawBytes (rawLayout n) 2 2 = 6 ∨ rawBytes (rawLayout n) 2 2 = 12 := by
  unfold rawBytes
  split
  · exact Or.inl (by decide)
  · exact Or.inr (by decide)
/-- An RTP packet of sequence number 9 with one payload byte, in UDP port 5004 over IPv4, sent to a group address. -/
def rtpFrame : Nat :=
  mkRec [(0, 1), (12, 8), (14, 0x45), (23, 17), (36, 0x13), (37, 0x8C), (39, 21), (42, 0x80), (45, 9), (54, 0xAB)]
theorem test_met_IngestAndEgress_deliver :
    (let pic : Picture := { items := [1, 2] }
     let s := hubS [] {} { isOpen := true, record := rawRec, waiting := [pic] }
     let c := (s.sys.hub 0).ctx 0
     c.isOpen = true ∧ c.egress = false ∧ (s.sys.hub 0).dma = true ∧ c.unanswered.length < c.slotCount ∧ c.replayFrom = none ∧
       c.waiting = [pic] ∧ pic.again = false ∧ c.items < c.committed + c.f 48 4 ∧ c.nextItem + 1 < pic.items.length) := by decide +kernel
theorem test_met_IngestAndEgress_ethernet :
    (let s := hubS [(0x78000, 2 ^ 21), (0x78004, 5004), (0x78008, 0)] {} { isOpen := true, record := rawRec + 16 }
     let s : State := { s with sys := s.sys.setEngine 0 { ports := [(0, { role := 2, link := 2, rtp := [(0, 9)] })] } }
     let i : FrameInfo := { port := 5004, at_ := 42, len := 13 }
     let c := (s.sys.hub 0).ctx 0
     ((s.sys.engine 0).port 0).role = 2 ∧ ((s.sys.engine 0).port 0).link = 2 ∧ ((s.sys.engine 0).port 0).breakout = false ∧ bitOf (byteOf rtpFrame 0) 0 = true ∧
       parseFrame rtpFrame 60 = some i ∧ s.sys.steer 0 0 0 i = some (0, 0) ∧
       bitsOf ((s.sys.hub 0).reg (0x78008 + 16 * 0)) 16 0 = 0 ∧ c.isOpen = true ∧ c.egress = false ∧ c.ethernet = true ∧
       parseRtp rtpFrame i = some (9, false, 54, 1) ∧
       NMap.find ((s.sys.engine 0).port 0).rtp (1024 * 0 + 0) = some 9) := by decide +kernel
theorem test_met_IngestAndEgress_egress :
    (let i : EgItem := { item := 0, reply := { dst := 0x1000, type := 6 } }
     let s := hubS [] {} { isOpen := true, record := egRec, held := [i] }
     let c := (s.sys.hub 0).ctx 0
     c.isOpen = true ∧ c.egress = true ∧ (s.sys.hub 0).live = true ∧ (s.sys.hub 0).dma = true ∧ c.target = 0 ∧
       c.held.find? (fun i => c.mayWrite i.item) = some i) := by decide +kernel

/-- Registers of pair 0: rings of 16 at host address 0 and 4,096, vector 0 with its interrupt on. -/
def qpR : NMap Nat := [(0x10008, 4096), (0x10010, 4 + 4 * 2 ^ 8 + 2 ^ 27)]
theorem test_met_DoorbellsAndPairControl :
    (∀ st ∈ [0, 1, 2, 3],
      let s := hubS qpR { state := st } {}
      let u := s.sys.hub 0
      let p := u.qp 0
      p.state = st ∧ u.memSpace = true ∧ u.linkRate ≠ 0 ∧ u.ready = true ∧ countDiff 1 p.sqHead ≤ u.sqDepth 0 ∧
        u.sqDepth 0 < countDiff 17 p.sqHead ∧ countDiff p.cqTail 0 ≤ u.cqDepth 0 ∧ u.cqDepth 0 < countDiff p.cqTail 1 ∧
        bitsOf (u.qpCfg 0) 4 0 = 4 ∧ bitsOf (u.qpCfg 0) 12 8 = 4 ∧ u.sqBase 0 % 4096 = 0 ∧ u.cqBase 0 % 4096 = 0 ∧
        u.qpOwner 0 = 0 ∧ p.replies = [] ∧ p.cmds = [] ∧ u.bind = none ∧ u.bound = false ∧ s.sys.lead.hub = 0) ∧
    (let s := hubS qpR {} {}
     let s : State := { s with sys := s.sys.modHub 0 (fun u => { u with bound := true }) }
     let u := s.sys.hub 0
     u.memSpace = true ∧ u.linkRate ≠ 0 ∧ u.ready = true ∧ u.bound = true ∧ (u.qp 0).state = 0 ∧ bitsOf (u.qpCfg 0) 4 0 = 4 ∧
       bitsOf (u.qpCfg 0) 12 8 = 4 ∧ u.cqBase 0 % 4096 = 0 ∧ u.qpOwner 0 = 0) ∧
    (let s := hubS qpR {} {}
     let s : State := { s with sys := s.sys.setHub 1 { live := true, ready := true, memSpace := true, linkRate := 5, bound := true } }
     let u := s.sys.hub 1
     u.memSpace = true ∧ u.linkRate ≠ 0 ∧ u.ready = true ∧ s.sys.lead.hub ≠ 1 ∧ (s.sys.hub 0).bind ≠ some (u.bindLo + 2 ^ 32 * 7)) ∧
    ((hubS qpR { state := 1, replies := [{}] } {}).sys.qp 0 0).replies ≠ [] ∧
    (let s := hubS qpR {} { isOpen := true, record := egRec, head := 1 }
     let c := (s.sys.hub 0).ctx 0
     c.isOpen = true ∧ c.egress = true ∧ countDiff c.head 1 ≤ c.outDepth) := by decide +kernel
theorem test_met_FetchReplyInterrupt :
    (let s := hubS qpR { state := 1, sqTail := 1 } {}
     let u := s.sys.hub 0
     u.dma = true ∧ u.ready = true ∧ u.qps = [(0, u.qp 0)] ∧ u.mayFetch 0 = true ∧
       s.sys.hostRead (u.sqBase 0 + 64 * ((u.qp 0).sqHead % u.sqDepth 0)) 64 = some 0 ∧ opcodeDefined (0 % 256) = true) ∧
    (let s := hubS qpR { state := 1, replies := [{ irq := true }], unsignalled := 1 } {}
     let u := s.sys.hub 0
     let p := u.qp 0
     p.replies = [{ irq := true }] ∧ p.state = 1 ∧ u.dma = true ∧
       countDiff p.cqTail p.cqHead + p.reserved < u.cqDepth 0 ∧
       s.sys.boot.restartAt = none ∧ u.qpIrq 0 = true ∧ u.maskAll = false ∧
       (NMap.get {} u.msix (u.qpVector 0)).masked = false ∧ 0 < p.unsignalled ∧ p.firstAt + 1000 * u.aggUs 0 ≤ s.sys.now ∧
       u.busMaster = true ∧ (NMap.get {} u.msix 0).pending = true ∧
       ((hubS [] {} {}).sys.hub 0).qpIrq 0 = false) := by decide +kernel
theorem test_met_PcieFunction :
    let u := (hubS [] {} {}).sys.hub 0
    u.memSpace = true ∧ u.linkRate ≠ 0 := by decide +kernel
theorem test_met_EventsAndPanelTime :
    (let u := (hubS [] {} {}).sys.hub 0
     u.memSpace = true ∧ u.linkRate ≠ 0 ∧ bitOf (u.reg 0x108) 0 = true ∧ bitOf (u.reg 0x100) 11 = false) ∧
    (let u := (hubS [(0x108, 0), (0x100, 2 ^ 11)] {} {}).sys.hub 0
     bitOf (u.reg 0x104) 0 = false ∧ bitOf (u.reg 0x108) 0 = false ∧ bitOf (u.reg 0x100) 11 = true ∧ u.maskAll = false ∧
       (NMap.get {} u.msix (bitsOf (u.reg 0x100) 10 0)).masked = false ∧ u.busMaster = true) := by decide +kernel
/-- A panel whose slot of job 0 is slot 0 of tile 0, with messages `m` at the lead hub. -/
def jobS (j : Job) (v : Slot) (m : List TMsg) (now : Nat) : State :=
  withSys (fun s => { ((s.setTad 256 { inbox := m }).setTile 0 { slots := [(0, v)], logical := some 0, pwr := { pgood := true } }).setLead
    { partitions := [(1, { tiles := 1 })], place := [(0, 0)], jobs := [(0, j)] } with now := now })
theorem test_met_StepsCommitsAndFrames_ends :
    (∀ done ∈ [0, 1],
      let m : TMsg := { type := 0x10, sub := ncStepEnd }
      let s := jobS { job0 .running with lapsCommitted := done } {} [m] 0
      let j := s.sys.job 0
      s.mail s.sys.leadAddr = some m ∧ bitsOf m.payload 23 8 = 0 ∧ s.sys.jobOfSlot 0 = some 0 ∧ j.oldest = done ∧
        ∀ e ∈ j.spec.table, e.slot = 0) := by decide +kernel
theorem test_met_StepsCommitsAndFrames_commits :
    (∀ p ∈ [(true, []), (false, [0]), (false, [])],
      let c : Commit := { waitTiles := [0] }
      let s := jobS { job0 .running with commit := some c, poison := p.2 } {} [] 0
      let s : State := { s with sys := s.sys.modTile 0 (fun t => { t with audit := { commitFailed := p.1 } }) }
      let j := s.sys.job 0
      j.commit = some c ∧ c.copying = false ∧ c.step = j.oldest ∧ (∀ t ∈ c.waitTiles, (s.sys.tile t).sweepEnded = true) ∧
        s.sys.cool.hold = none ∧ (∀ t ∈ c.waitTiles, (s.sys.tile t).audit.commitFailed = p.1) ∧ j.state = .running ∧
        j.rewinds < 8 ∧ j.poison = p.2 ∧ j.asked = [] ∧ j.spec.hostCommit = false ∧
        (s.sys.ensureShadows 1).mirrors 1 = []) ∧
    (let s := jobS {} {} [] 0
     let s : State := { s with sys := s.sys.modTile 0 (fun t => { t with audit := { commitAsked := true } }) }
     (s.sys.tile 0).sweepEnded = false) := by decide +kernel
theorem test_met_StepsCommitsAndFrames_frames :
    (∀ t ∈ [0, 100],
      let m : TMsg := { type := 0x11, payload := t + 2 ^ 48 }
      let j : Job := { job0 .running with spec := { (job0 .running).spec with watch := true }, wd := { anchored := true } }
      let s := jobS j {} [m] 100
      s.mail s.sys.leadAddr = some m ∧ m.type = 0x11 ∧ s.sys.tileOfEid j.spec.outputEid = some m.src ∧
        j.state.live = true ∧ j.spec.watch = true ∧ s.sys.cool.hold = none ∧ j.wd.reported = [] ∧ j.wd.highest = j.wd.f0 ∧
        nearest t 48 s.sys.now = t ∧ nearest 1 16 1 = 1 ∧ j.spec.stopOnMiss = false ∧ 1 ∉ j.wd.reported) ∧
    (∀ now ∈ [0, 2001],
      let j : Job := { job0 .running with spec := { (job0 .running).spec with watch := true }, wd := { anchored := true } }
      (jobS j {} [] now).sys.now = now ∧ j.wd.t0 + j.spec.cadence + j.spec.tolerance = 0) := by decide +kernel

theorem test_met_RecoveryAndHealth_jobs :
    (∀ now ∈ [0, 10 ^ 6],
      let s := jobS { job0 .replaying with frozeAt := 0 } { state := .lapRunning } [] now
      let s : State := { s with sys := s.sys.modLead (fun l => { l with recov := { starting := [(0, 0, 0)] } }) }
      let j := s.sys.job 0
      (s.sys.tile 0).logical = some 0 ∧ s.sys.jobOfSlot (16 * 0 + 0) = some 0 ∧ j.state = .replaying ∧ j.state.live = true ∧
        s.sys.coreState 0 0 = .lapRunning ∧ (s.sys.tile 0).shed = false ∧ s.sys.slotReady 0 0 = false ∧
        s.sys.lead.recov.starting.find? (fun e => e.1 = 0 && e.2.1 = 0) = some (0, 0, 0) ∧
        (j.frozeAt + ceilDiv (2 * j.spec.lapCc * 1000) (oppMhz j.opp) + 4000 ≤ now ↔ now ≠ 0) ∧ s.sys.rewindReady 0 = false) ∧
    (let s := jobS (job0 .replaying) { state := .lapFrozen } [] 50000
     let y := s.sys.purgePart 1
     s.sys.rewindReady 0 = true ∧ (s.sys.job 0).purgedAt = none ∧ s.sys.partGroups 1 = [] ∧ (y.reloadDamaged 1).1 = true ∧
       ((y.reloadDamaged 1).2.restoreMirrors 1).1 = true) ∧
    (∀ now ∈ [50000, 52000],
      let s := jobS { job0 .replaying with purgedAt := some 50000 } { state := .lapFrozen } [] now
      let s : State := { s with sys := s.sys.modLead (fun l => { l with rgs := [{ partition := 1 }] }) }
      s.sys.rewindReady 0 = true ∧ (s.sys.job 0).purgedAt = some 50000 ∧ s.sys.partGroups 1 ≠ [] ∧
        (50000 + 2000 ≤ s.sys.now ↔ now = 52000)) ∧
    (let s := jobS (job0 .replaying) { state := .lapFrozen } [] 50000
     let s : State := { s with sys := s.sys.modTile 0 (fun t => { t with
       regs := [(0x1B00, 1)], store := { regions := [(0, { reg64 0 with mirror := true, partition := 1 })] } }) }
     let y := s.sys.purgePart 1
     s.sys.rewindReady 0 = true ∧ (y.reloadDamaged 1).1 = true ∧ ((y.reloadDamaged 1).2.restoreMirrors 1).1 = false) := by decide +kernel
theorem test_met_RecoveryAndHealth_units :
    (let s := jobS (job0 .replaying) { state := .lapFrozen } [] 0
     let g : Regrown := { logical := 0, old := 1, now_ := 0 }
     let s : State := { s with sys := s.sys.modLead (fun l => { l with recov := { regrown := [g] } }) }
     s.sys.lead.recov.regrown.find? (fun g => g.now_ = 0) = some g ∧ s.sys.physOf 0 = some 0 ∧ s.sys.noSwitch = true ∧
       (∀ p ∈ s.sys.partsOf [0], s.sys.partStill p = true) ∧ (s.sys.tile 0).pwr.pgood = true ∧
       (∀ g ∈ s.sys.lead.recov.regrown, g.now_ ≠ 1)) ∧
    (∀ key ∈ [unitKey 2 0 16, unitKey 4 0 0],
      let s := withSys (fun s => { s.setTile 0 { restValid := true } with
        now := 60000000000, health := { units := [(key, { draining := some 0 })] } })
      (s.sys.unit key).draining = some 0 ∧ (s.sys.unit key).shed = none ∧ (s.sys.tile 0).rest = 16 ∧
        (s.sys.tile 0).restValid = true ∧ s.sys.lead.jobs = [] ∧ s.sys.now = 60000000000) ∧
    unitPlaceOk 4 0 0 = true ∧
    (∀ u ∈ [[], [(unitKey 2 0 0, ({} : Unit_))]],
      let s := withSys (fun s => { s with health := { units := u } })
      s.sys.health.counts = [] ∧ s.sys.health.frozen s.sys.now = false ∧
        ∀ e ∈ s.sys.health.units, e.2.gains = [] ∧ e.2.watch = none ∧ e.2.draining = none ∧
          decayed e.2.base (s.sys.now - e.2.baseAt) < 1000 * 256) ∧
    256 * (eventPoints 0 * 1) < 1000 * 256 ∧
    (let s := withSys (fun s => { s with now := 3000000, health := { frozenUntil := some 1000 } })
     s.sys.health.frozenUntil = some 1000 ∧ 1000 ≤ s.sys.now) := by decide +kernel
theorem test_met_RecoveryAndHealth_hubs :
    ∀ lead ∈ [0, 1],
      let s := withSys (fun s => { ((s.setHub 0 { live := true }).setHub 1 { live := true }).setLead { hub := lead } with
        now := 3000000, boot := { s.boot with hubs := [(0, { step := 9 }), (1, { step := 9 })] } })
      (s.sys.hub 0).live = true ∧ (s.sys.hub 1).live = true ∧ (s.sys.bootHub 1).refOk = true ∧ 9 ≤ (s.sys.bootHub 1).step ∧
        (s.sys.hub 1).heard + 3000000 ≤ s.sys.now ∧ s.sys.lead.hub = lead := by decide +kernel

/-- A panel with power state `p` and tile 0 with its rails as `w`. -/
def pwrS (p : PanelPower) (w : TilePower) (now : Nat) : State :=
  withSys (fun s => { s.setTile 0 { pwr := w } with power := p, now := now })
theorem test_met_PowerManagement_panel :
    (∀ f ∈ [({} : Feed), { qualified := true }],
      let s := pwrS { feeds := [(0, f)] } {} 0
      (NMap.get {} s.sys.power.feeds 0).qualified = f.qualified ∧ (NMap.get {} s.sys.power.feeds 1).qualified = false ∧
        s.sys.power.feeds.all (fun e => e.1 < 2) = true ∧ NMap.sorted s.sys.power.feeds = true) ∧
    (let s := pwrS { feeds := [(0, { qualified := true }), (1, { qualified := true })], ibc := [(1, { state := 2 })]
                     domains := [(0, { state := 2 })] } {} 0
     (NMap.get {} s.sys.power.feeds 1).qualified = true ∧ ∀ d, d < 18 →
       (NMap.get {} s.sys.power.domains d).state = 1 ∨ (NMap.get {} s.sys.power.domains d).state = 2 →
         (NMap.get {} s.sys.power.ibc (2 * d + 1)).state = 1 ∨ (NMap.get {} s.sys.power.ibc (2 * d + 1)).state = 2) ∧
    (∀ st ∈ [2, 3],
      let s := pwrS { ibc := [(1, { state := st })], domains := [(0, { state := st })] } {} 0
      (NMap.get {} s.sys.power.ibc 0).state ≠ 3 ∧ (NMap.get {} s.sys.power.ibc 1).state = st ∧
        (NMap.get {} s.sys.power.domains 0).state = st) ∧
    (let s := pwrS { upQueue := [0], feeds := [(0, { qualified := true })] } {} 0
     s.sys.power.upQueue.head? = some 0 ∧ s.sys.power.up = none ∧ (NMap.get {} s.sys.power.domains 0).state = 0 ∧
       s.sys.power.qualified ≠ []) ∧
    (∀ now ∈ [0, 20000000],
      let u : PowerUp := { paused := some 0 }
      let v : PowerUp := {}
      (pwrS { up := some u } {} now).sys.power.up = some u ∧ u.paused = some 0 ∧
        (pwrS { up := some v } {} now).sys.power.up = some v ∧ (20000000 ≤ v.run now ↔ now ≠ 0)) ∧
    (Instr.pmcAllocate {}).wf = true := by decide +kernel
theorem test_met_PowerManagement_tile :
    (let s := pwrS {} { on := true } 0
     let x := s.sys.tx 0
     (s.sys.tile 0).pwr.on = true ∧ (s.sys.tile 0).pwr.tripped = false ∧ (s.sys.tile 0).pwr.tripNote = none ∧
       (Instr.currentTrip 0 0).wf = true ∧ (Instr.currentTrip 0 65535).wf = true ∧
       11 * bitsOf (x.reg 0xD200) 13 0 < 10 * 65535 ∧ (Instr.issueWindow 0 [64]).wf = true ∧
       (Instr.droopAlarm 0 0 1).wf = true ∧ s.sys.boot.ivrCal = none ∧ (Instr.crackPhaseCheck 0 [0, 0, 0, 2000]).wf = true ∧
       80 * 0 < 2000 ∧ (80 * 500 ≤ 500 * 80 ∧ 16 * (500 - 500) ≤ 2000)) ∧
    (pwrS {} { on := true, tripped := true } 0).sys.tile 0 = { pwr := { on := true, tripped := true } } ∧
    (let s := withSys (fun s => { s.setTile 0 { pwr := { on := true } } with boot := { s.boot with ivrCal := some 1 } })
     (s.sys.tile 0).pwr.on = true ∧ s.sys.offers 13 = true ∧ s.sys.crackBase 0 0 = some 1 ∧ (Instr.crackStepJudge 0 0 200 1).wf = true ∧
       50000 * 1 > 3 * 1 * 200) := by decide +kernel
theorem test_met_PowerManagement_points :
    (pwrS {} {} 0).sys.jobsBySerial = [] ∧ (pwrS {} {} 0).sys.power.oppWait.find? (fun w => w.1 = 0) = none ∧
    (let s := jobS { job0 .running with opp := 1 } { state := .lapFrozen } [] 10000000
     let s : State := { s with sys := { s.sys with power := { overSince := some 0, oppWait := [(0, 1)] } } }
     s.sys.jobsBySerial = [0] ∧ s.sys.jobGroup 0 = [0] ∧ (s.sys.job 0).state = .running ∧ s.sys.power.overSince = some 0 ∧
       0 + 10000000 ≤ s.sys.now ∧ 0 < (s.sys.job 0).opp ∧ s.sys.power.oppWait.find? (fun w => w.1 = 0) = some (0, 1) ∧
       s.sys.jobFrozen (s.sys.job 0) = true) := by decide +kernel

/-- A panel with cooling state `c`. -/
def coolS (c : Cooling) (now : Nat) : State := withSys (fun s => { s with cool := c, now := now })
theorem test_met_RackManagerAndCooling :
    (∀ cap ∈ [5999, 6000], (Instr.setPowerCap cap 10).wf = true) ∧ (Instr.unsupportedPldmCmd 6).wf = true ∧
    (∀ st ∈ [1, 2],
      let s := pwrS { rackState := st } {} 30000000000
      s.sys.power.rackState = st ∧ s.sys.power.lastContact + 1000000000 * s.sys.power.heartbeatS ≤ s.sys.now ∧
        s.sys.power.lostAt + 30000000000 ≤ s.sys.now) ∧
    (∀ flow ∈ [0, 480, 2400],
      let s := coolS { fails := 2, pumpLow := 2 } 0
      (Instr.coolantSample true 0 0 flow 0 0).wf = true ∧ s.sys.cool.seq ≠ some 0 ∧ s.sys.cool.hold = none ∧
        s.sys.cool.state < 3 ∧ s.sys.cool.flows = [] ∧ 2 ≤ s.sys.cool.fails ∧ 2 ≤ s.sys.cool.pumpLow ∧
        s.sys.limit 6 2 2400 = 2400 ∧ (5 * flow < 2400 ↔ flow = 0) ∧ (85 * 2400 ≤ 100 * flow ↔ flow = 2400)) ∧
    (coolS { state := 1 } 0).sys.cool.state = 1 ∧ (coolS { heats := [5], fedW := [5] } 0).sys.cool.heats ≠ [] ∧
    (let s := pwrS {} { on := true, pgood := true, hotSince := some 0 } 5000000000
     (s.sys.tile 0).pwr.on = true ∧ (s.sys.tile 0).shed = false ∧ (s.sys.tile 0).pwr.hotSince = some 0 ∧
       0 + 5000000000 ≤ (s.sys.tx 0).now ∧ (Instr.tileTempSample 0 [840] 0).wf = true) ∧
    (∀ g ∈ [none, some 0],
      let h : Hold := { goodSince := g }
      let s := coolS { hold := some h, state := 3 } 5000000000
      s.sys.cool.hold = some h ∧ s.sys.hottest ≤ 760 ∧ h.since + 5000000000 ≤ s.sys.now ∧ 0 + 2000000000 ≤ s.sys.now) ∧
    (∀ now ∈ [0, 10000000000],
      let s := coolS { state := 4, coolSince := some 0 } now
      s.sys.cool.coolSince = some 0 ∧ s.sys.cool.state = 4 ∧ (0 + 10000000000 ≤ s.sys.now ↔ now ≠ 0)) := by decide +kernel

/-- Tiles 17 and 18 with the link between them in state `st`, as the receiving end `l`. -/
def linkS (st : Nat) (l : TileLink) : State :=
  withSys (fun s => (((s.setRouter 17 { alive := true, ports := [(1, { link := st })] }).setRouter 18
    { alive := true, ports := [(3, { link := st })] }).setLink 17 1 l).setLink 18 3 l)
theorem test_met_LinksAndSilua_links :
    neighbour 17 1 = some (18, 3) ∧
    (∀ st ∈ [1, 2, 3],
      let s := linkS st {}
      (s.sys.router 17).alive = true ∧ (s.sys.router 18).alive = true ∧ (s.sys.unit (linkKey 17 1)).shed = none ∧
        ((s.sys.router 17).port 1).link = st ∧ s.sys.retrainCause 17 1 = none) ∧
    (let s := linkS 3 { lockLost := true }
     s.sys.retrainCause 17 1 = some 4 ∧
       ∀ e ∈ tileEnds 17 1, (within s.sys.now 1000000000 (s.sys.link e.1 e.2).retrainTimes).length + 1 ≤
         bitsOf (s.sys.tileReg e.1 (0xC020 + 0x200 * e.2)) 15 8) ∧
    (let g : NMap LaneGroup := (List.range 18).map (fun i => (i, { live := true }))
     let s := linkS 2 { phase := 5, version := 3, groups := g }
     let l := s.sys.link 17 1
     let far := s.sys.link 18 3
     ((s.sys.router 17).port 1).link = 2 ∧ l.phase = 5 ∧ l.ctrlLost = false ∧ far.ctrlLost = false ∧ far.roundTrip ≤ 12 ∧
       l.roundTrip ≤ 12 ∧ linkWidth l.version (liveGroups l.groups) = 18 ∧
       linkWidth far.version (liveGroups far.groups) = 18) := by decide +kernel
theorem test_met_LinksAndSilua_silua :
    (∀ c ∈ [[], [(0, 1)]],
      let s := withSys (fun s => { s.setEngine 0 { ports := [(0, { role := 1, link := 2, credits := c })] } with
        boot := { s.boot with panelId := 1, flash := [(0, { conf := [(5, { len := 8, value := 2 ^ 15 + 2 ^ 3 })] })] } })
      let o := (s.sys.engine 0).port 0
      (Instr.siluaTraining 0 0 1 0 1).wf = true ∧ o.role = 1 ∧ o.link = 2 ∧ o.recvSeq = 0 ∧ o.credits = c ∧
        (NMap.get {} (s.sys.engine 0).lasers 0).alarm = false ∧ s.sys.peerEntry 0 = (0, 1, true) ∧
        (s.sys.peerEntry 1).2.2 = false ∧ 0 ≠ s.sys.boot.panelId ∧ s.sys.servingLanes 0 0 1 = 1 ∧ s.sys.servingLanes 0 0 0 = 0 ∧
        (∀ c < 4, ((s.sys.straight (16 + c)).port 16).first = [] ∧ ((s.sys.straight (16 + c)).port 16).relayed = [])) ∧
    (let z := State.reset.sys
     signedOf 16 0 < signedOf 16 (z.limit 14 2 1650) ∧
       ¬ (signedOf 16 2000 < signedOf 16 (z.limit 14 2 1650) ∨ signedOf 16 (z.limit 16 2 2500) < signedOf 16 2000)) := by
  decide +kernel

/-- A panel whose west hub has boot state `b`. -/
def bootS (b : BootHub) (f : Sys → Sys) : State :=
  withSys (fun s => f { s.setHub 0 { live := true, linkRate := 5, memSpace := true } with boot := { s.boot with hubs := [(0, b)] } })
theorem test_met_ResetsStartUpAndDebug :
    State.reset.sys.power.standby = true ∧
    (let s := bootS {} (fun s => { s with power := { s.power with standby := false } })
     s.sys.power.standby = false) ∧
    (∀ known ∈ [true, false],
      let s := bootS {} (fun s => { s with boot := { s.boot with leadKnown := known } })
      (s.sys.hub 0).memSpace = true ∧ (s.sys.hub 0).linkRate ≠ 0 ∧ s.sys.boot.leadKnown = known ∧ s.sys.lead.hub = 0) ∧
    (let s := bootS { armed := some 0 } (fun s => { s with now := 30000000000 })
     (s.sys.bootHub 0).armed = some 0 ∧ (s.sys.bootHub 0).step < 12 ∧ 0 + 30000000000 ≤ s.sys.now) := by decide +kernel
theorem test_met_ResetsStartUpAndDebug_steps :
    (∀ n ∈ [0, 1, 2, 3, 7],
      let s := bootS { step := n } (fun s => { s with
        power := { s.power with feeds := [(0, { qualified := true })] }, boot := { s.boot with leadKnown := decide (n = 7) } })
      let b := s.sys.bootHub 0
      b.recovery = false ∧ b.excluded = false ∧ s.sys.power.standby = true ∧ s.sys.boot.begun = 0 ∧ s.sys.boot.ready = false ∧
        b.step = n ∧ (∃ f ∈ s.sys.power.feeds, f.2.qualified = true) ∧ (s.sys.flash 0).domainLost (16 + 0) = false ∧
        b.refOk = true ∧ b.claimWait = none ∧ (s.sys.boot.leadKnown = true ↔ n = 7) ∧ s.sys.lead.hub = 0) ∧
    (State.reset.sys.power.feeds = []) ∧
    (let s := bootS { step := 2 } (fun s => { s with now := 120000000 })
     s.sys.boot.since + 120000000 ≤ s.sys.now) := by decide +kernel
theorem test_met_ResetsStartUpAndDebug_lead :
    (let s := bootS { claim := true, claimWait := some 0 } (fun s => { s with boot := { s.boot with leadKnown := true } })
     (s.sys.bootHub 0).claim = true ∧ (s.sys.bootHub 0).claimWait.isSome = true ∧ s.sys.boot.leadKnown = true) ∧
    (let s := withSys (fun s => { s with now := 1000000000, boot := { s.boot with hubs := [(1, { claimWait := some 0 })] } })
     (s.sys.bootHub 1).claimWait = some 0 ∧ (s.sys.bootHub 1).claim = false ∧ s.sys.boot.leadKnown = false ∧
       0 + 1000000000 ≤ s.sys.now) ∧
    (let s := bootS { step := 4 } (fun s => { s.setHub 1 { live := true, ready := true } with
       lead := { s.lead with hub := 1 }
       boot := { s.boot with leadKnown := true, hubs := [(0, { step := 4 }), (1, { step := 12 })] } })
     s.sys.boot.leadKnown = true ∧ s.sys.lead.hub = 1 - 0 ∧ (s.sys.bootHub 0).step = 4 ∧ (s.sys.bootHub 0).excluded = false ∧
       (s.sys.bootHub 0).recovery = false ∧ (s.sys.hub 0).live = true ∧ (s.sys.bootHub 1).step = 12 ∧
       (s.sys.hub 1).ready = true) ∧
    (∀ n ∈ [0, 1],
      let s := bootS { recovery := true } (fun s => s.modHub 0 (fun u => u.setReg 0x50818 n))
      (s.sys.hub 0).memSpace = true ∧ (s.sys.hub 0).linkRate ≠ 0 ∧ (s.sys.bootHub 0).recovery = true ∧
        (s.sys.hub 0).reg 0x50818 = n ∧ s.sys.hostRead 0 n = some 0) ∧
    (∀ r ∈ [0, 3],
      let s := bootS { refusals := r, challenge := some 1, unlocked := true } id
      (s.sys.bootHub 0).refusals = r ∧ s.sys.power.standby = true ∧ (s.sys.bootHub 0).challenge = some 1 ∧
        (s.sys.bootHub 0).unlocked = true) ∧
    (((withP { pwr := { on := true } }).sys.tile 0).pwr.on = true) := by decide +kernel

theorem test_met_FrameOfTileCommands : tileOf (.machineTimer 7 0) = some 7 := by decide
theorem test_met_ExecKeepsQueue : (Instr.machineTimer 256 0).wf = false ∧ (Instr.machineTimer 255 15).wf = true := by decide
theorem test_met_PartitionsStayDisjoint : State.reset.sys.Kept :=
  ⟨⟨by decide, by decide, by decide, List.Pairwise.nil⟩, by decide⟩

/-! Ill-formed commands, one for each check of WellFormed, are refused; each is well formed with that operand in range. -/

theorem test_wf_refused_1 : ∀ i ∈ ([
    .scalarInstruction 256 0 0 .clean, .scalarInstruction 0 16 0 .clean, .scalarInstruction 0 0 4294967296 .clean,
    .narrowLoad 0 0 0 3 0 0 0, .narrowLoad 0 0 0 0 32 0 0, .narrowLoad 0 0 0 0 0 0 4096, .narrowStore 0 0 0 3 0 0 0,
    .copy 0 ⟨0, 4294967296⟩, .mcastFrame 0 0 18 false, .enq 0 0 0 0 0 4, .readClear 4 0 0, .registerWrite 4 0 0 0, .registerWrite 0 0 0 4294967296, .mm 0 0 4294967296,
    .descriptorCompletion 0 0 6, .streamFetchLap 0 0 8 ⟨0, []⟩, .streamFetchLap 0 0 0 ⟨65536, []⟩,
    .streamFetchLap 0 0 0 ⟨1, [8192]⟩, .pacerRowLand 0 0 8 0 0,
    .pacerRowLand 0 0 0 16 0, .pacerRowLand 0 0 0 0 3, .coreUnitFault 0 17 .none, .correctionWriteBack 0 64,
    .parityLatchCommit 0 64, .regionReleaseDone 0 64, .watchEntryExpiry 0 64, .routerReceive 258 0 false,
    .routerReceive 0 5 false, .routerForward 0 5 {}, .routerForward 0 0 { corrected := 73 }, .reducePacket 0 ⟨0, { header := 73 }⟩, .escapeEntry 0 0 6 0, .escapeEntry 0 0 0 4294967296, .write 0 3,
    .reduceStall 0 0 4294967296, .frameLaunch 32 0, .frameLaunch 0 18, .tadpoleForward 266 0 false,
    .tadpoleForward 0 9 false, .regReply 2, .frameOverdue 4096, .sync 0 4294967296, .delayResp 0 0 65536,
    .tileXferPurge 0 65536, .ingestDecode 0 131072, .ethernetFrame 8 0 0 0 0, .ethernetFrame 0 8 0 0 0,
    .ethernetFrame 0 0 4 0 0, .ethernetFrame 0 0 0 0 16384, .hubSqTail 0 2048 0 [] []] : List Instr), i.wf = false := by decide +kernel
theorem test_wf_refused_2 : ∀ i ∈ ([
    .hubSqTail 0 0 4294967296 [] [], .hubCqHead 0 0 4294967296, .drain 256 0 0, .drain 0 65536 0, .drain 0 0 65536,
    .drainLimit 256 0 0, .drainLimit 0 65536 0, .drainLimit 0 0 65536, .feedQualify 2 0 0, .feedQualify 0 65536 0,
    .feedDrop 2 0 0, .feedDrop 0 65536 0, .ibcFault 36, .domainShort 18, .droopAlarm 0 8 0, .droopAlarm 0 0 1024,
    .tileDroopRearm 0 8 0, .tileDroopRearm 0 0 1024, .crackStepJudge 0 4 0 0, .crackStepJudge 0 0 65536 0,
    .crackStepJudge 0 0 0 65536, .regionPowerUp 16, .currentTrip 0 65536, .setPowerCap 4294967296 0, .setPowerCap 0 256,
    .coolantSample false 65536 0 0 0 0, .coolantSample false 0 65536 0 0 0, .coolantSample false 0 0 65536 0 0,
    .coolantSample false 0 0 0 65536 0, .coolantSample false 0 0 0 0 65536, .laserSample 0 4 0 false,
    .laserSample 0 0 65536 false, .linkTraining 0 4 {} {}, .siluaTraining 0 0 16 0 0, .siluaTraining 0 0 0 65536 0,
    .siluaTraining 0 0 0 0 65536, .cell 0 0 {} 65536, .debugToken 0 (2 ^ 384) 0, .debugToken 0 0 (2 ^ 384), .hubEvent 0 10,
    .straightRecalibration 0 ⟨16, false⟩, .pcieLinkTraining 0 7 0, .pcieLinkTraining 0 0 17, .msixVectorUnmask 0 2048,
    .barAccess 0 5 0 4 false 0] : List Instr), i.wf = false := by decide +kernel
theorem test_wf_refused_3 : ∀ i ∈ ([
    .barAccess 0 0 0 65 false 0, .debugAccess 0 8 0 0 0, .unsupportedPldmCmd 65536] : List Instr), i.wf = false := by decide +kernel
theorem test_wf_accepted_1 : ∀ i ∈ ([
    .scalarInstruction 0 0 0 .clean, .narrowLoad 0 0 0 0 0 0 0, .narrowStore 0 0 0 0 0 0 0, .enq 0 0 0 0 0 0,
    .readClear 0 0 0, .registerWrite 0 0 0 0, .mm 0 0 0, .descriptorCompletion 0 0 0, .streamFetchLap 0 0 0 ⟨0, []⟩,
    .pacerRowLand 0 0 0 0 0, .coreUnitFault 0 0 .none, .correctionWriteBack 0 0, .parityLatchCommit 0 0,
    .regionReleaseDone 0 0, .watchEntryExpiry 0 0, .routerReceive 0 0 false, .routerForward 0 0 {}, .escapeEntry 0 0 0 0,
    .write 0 0, .reduceStall 0 0 0, .frameLaunch 0 0, .tadpoleForward 0 0 false, .regReply 0, .frameOverdue 0, .sync 0 0,
    .delayResp 0 0 0, .tileXferPurge 0 0, .ingestDecode 0 0, .ethernetFrame 0 0 0 0 0, .hubSqTail 0 0 0 [] [],
    .hubCqHead 0 0 0, .drain 0 0 0, .drainLimit 0 0 0, .feedQualify 0 0 0, .feedDrop 0 0 0, .ibcFault 0, .domainShort 0,
    .droopAlarm 0 0 0, .tileDroopRearm 0 0 0, .crackStepJudge 0 0 0 0, .regionPowerUp 0, .currentTrip 0 0,
    .setPowerCap 0 0, .coolantSample false 0 0 0 0 0, .laserSample 0 0 0 false] : List Instr), i.wf = true := by decide +kernel
theorem test_wf_accepted_2 : ∀ i ∈ ([
    .linkTraining 0 0 {} {}, .siluaTraining 0 0 0 0 0, .cell 0 0 {} 0, .debugToken 0 0 0, .hubEvent 0 0,
    .straightRecalibration 0 ⟨0, false⟩, .pcieLinkTraining 0 0 0, .msixVectorUnmask 0 0, .barAccess 0 0 0 4 false 0,
    .debugAccess 0 0 0 0 0, .unsupportedPldmCmd 0] : List Instr), i.wf = true := by decide +kernel

/-! Worked examples of the spec, and single steps with results from its rules. -/

/-- What a step leaves, read by `f`; none where it does not go on. -/
def after {α : Type} (s : State) (i : Instr) (f : State → α) : Option α :=
  match step { s with pending := [i] } with
  | .next t => some (f t)
  | _ => none

/-- Chapter "Number formats", "One block, two windows": element integers, block product and the two entries. -/
theorem test_block_elements : elemInt fmtE2M1 7 = some 12 ∧ elemInt fmtE2M1 10 = some (-2) ∧ elemInt fmtE2M1 1 = some 1 ∧
    elemInt fmtInt4 7 = some 7 ∧ elemInt fmtInt4 13 = some (-3) ∧ elemInt fmtInt4 8 = some (-8) ∧ fmtLsb fmtE2M1 = -1 ∧
    scaleExp 0x7D = some (-2) := by decide +kernel
theorem test_block_product : blockProduct [some 12, some (-2), some 1] [some 7, some (-3), some (-8)] = (82, false) := by
  decide +kernel
theorem test_block_window_minus2 :
    AccEntry.addTerm { w := -2 } 82 (-3) false false = ({ w := -2, value := 41, count := 1 }, 0) := by decide +kernel
theorem test_block_window_minus1 :
    AccEntry.addTerm { w := -1 } 82 (-3) false false = ({ w := -1, value := 20, count := 1 }, nsInexact) := by decide +kernel
theorem test_block_bf16 : toFloat fmtBF16 (Val.ofInt 82 (-3)) = (0x4124, 0) := by decide +kernel
/-- Chapter "Number formats", "Arrival order" and "A tie at the final rounding". -/
theorem test_arrival_order :
    ((((toTerm (2 ^ 30) 0 (-20)).1.combine 0 (toTerm (-(2 ^ 30)) 0 (-20)).1).combine 0 (toTerm 1 (-10) (-20)).1).value = 2 ^ 10) ∧
    (((toTerm (2 ^ 30) 0 (-20)).1.combine 0 ((toTerm (-(2 ^ 30)) 0 (-20)).1.combine 0 (toTerm 1 (-10) (-20)).1)).value = 2 ^ 10) ∧
    toFloat fmtFP32 (Val.ofInt (2 ^ 10) (-20)) = (0x3A800000, 0) ∧ (toTerm (-3) (-22) (-20)).1.value = -1 ∧
    (toTerm 3 (-22) (-20)).1.value = 0 := by decide +kernel
theorem test_rounding_ties : (toFloat fmtBF16 (Val.ofInt 257 0)).1 = 0x4380 ∧ (toFloat fmtBF16 (Val.ofInt 259 0)).1 = 0x4382 := by
  decide +kernel
/-- R90: 478 in E4M3 saturates at 448 (code 0x7E) with SAT. -/
theorem test_e4m3_saturates : toMxElem fmtE4M3 0 (Val.ofInt 478 0) = (0x7E, nsSat) := by decide +kernel
/-- R173: the columns of the first data bits and of bit 63, and the worked example's double error. -/
theorem test_check_columns : checkByte 1 = 0x07 ∧ checkByte 2 = 0x0B ∧ checkByte (2 ^ 10) = 0x23 ∧ checkByte (2 ^ 63) = 0x57 ∧
    checkByte (2 ^ 5 + 2 ^ 9) = 0x09 := by decide +kernel
/-- Chapter "Host link and queues", "Wrap, phase and coalescing". -/
theorem test_queue_wrap : countDiff 2 0xFFFFFFFA = 8 ∧ 0xFFFFFFFA % 16 = 10 ∧ phaseOf 0xFFFFFFFA 16 = false ∧
    phaseOf 0 16 = true := by decide +kernel
theorem test_tail_write_wraps :
    after (hubS qpR { state := 1, sqHead := 0xFFFFFFFA, sqTail := 0xFFFFFFFA } {}) (.hubSqTail 0 0 2 [] [])
      (fun t => ((t.sys.qp 0 0).sqTail, (t.sys.qp 0 0).state)) = some (2, 1) := by decide +kernel
/-- Chapter "Tile links", "A lane goes bad, then its group": 17 live groups run at width 9. -/
theorem test_link_widths : linkWidth 3 18 = 18 ∧ linkWidth 3 17 = 9 ∧ linkWidth 3 8 = 6 := by decide +kernel
/-- Chapter "Power delivery", "Feed A lost": one feed at 45.0 V limits the panel to 19,575 W. -/
theorem test_single_feed_cap :
    after (pwrS { feeds := [(1, { qualified := true })], rackCap := 20000, rackState := 1 } {} 0) (.pmcAllocate { vFeed := 4500 })
      (fun t => (t.sys.power.inForce, t.sys.power.limiter)) = some (19575, 3) := by decide +kernel
/-- Chapter "Register reference", "One event message, two causes": the first write leaves JOB_EVENT and sends a second
message, the second clears it and sends none. -/
theorem test_event_status_write :
    (let s := hubS [(0x108, 0), (0x100, 2 ^ 11), (0x104, 0x12)] {} {}
     after s (.hubEventStatus 0 2) (fun t => ((t.sys.hub 0).reg 0x104, t.sys.irqs)) = some (0x10, [(0, 0)])) ∧
    (let s := hubS [(0x108, 0), (0x100, 2 ^ 11), (0x104, 0x10)] {} {}
     after s (.hubEventStatus 0 0x10) (fun t => ((t.sys.hub 0).reg 0x104, t.sys.irqs)) = some (0, [])) := by decide +kernel

/-- R147, R150: TOKTRY takes two of three tokens and answers 1; a fourth cannot be taken. -/
theorem test_toktry :
    after (withV (slot1 1 2)) (.toktry 0 0 1 3 1 2) (fun t => ((t.slot 0 0).sc.get 3, NMap.get 0 (t.slot 0 0).tokens 1)) = some (1, 1) ∧
    after (withV (slot1 1 4)) (.toktry 0 0 1 3 1 2) (fun t => ((t.slot 0 0).sc.get 3, NMap.get 0 (t.slot 0 0).tokens 1)) = some (0, 3) := by
  decide +kernel
/-- R43: the sum wraps at 32 bits, also where the destination is a source; x0 stays zero. -/
theorem test_add_wraps :
    after (withV (fetched 0x002080B3 (slot1 0xFFFFFFFF 2))) (.scalarInstruction 0 0 1 .clean)
      (fun t => ((t.slot 0 0).sc.get 1, (t.slot 0 0).sc.pc)) = some (1, 4) ∧
    after (withV (fetched 0x00208033 (slot1 5 2))) (.scalarInstruction 0 0 1 .clean) (fun t => (t.slot 0 0).sc.get 0) = some 0 := by
  decide +kernel
/-- R43: the corners of division that RISC-V fixes. -/
theorem test_division_corners :
    aluR 1 4 0 7 0 = some 0xFFFFFFFF ∧ aluR 1 4 0 0x80000000 0xFFFFFFFF = some 0x80000000 ∧
    aluR 1 6 0 7 0 = some 7 ∧ aluR 1 6 0 0x80000000 0xFFFFFFFF = some 0 := by decide +kernel
/-- R163: a byte store goes to its lane of the word it addresses, and only there. -/
theorem test_narrow_store_lane :
    after (withP (tileR { slot1 0 0 with narrow := [{ word := 3, mask := 0x02, data := 0x5500 }] })) (.narrowStoreSend 0 0)
      (fun t => (Mem.byte (t.sys.tile 0).store.data 24, Mem.byte (t.sys.tile 0).store.data 25)) = some (0, 0x55) := by decide +kernel
/-- R62: RUN starts a halted core at address 0; it does nothing to a core that runs. -/
theorem test_run :
    after (withV { state := .halted, sc := { pc := 8 } }) (.run 0 0) (fun t => ((t.slot 0 0).state, (t.slot 0 0).sc.pc)) =
      some (.scalar, 0) := by decide +kernel
/-- R439: the IBC of a feed that qualifies takes its share of a domain that the other feed powers. -/
theorem test_feed_returns :
    after (pwrS { ibc := [(0, { state := 2 })], domains := [(0, { state := 2 })] } {} 0) (.feedQualify 1 5400 100000000)
      (fun t => ((NMap.get {} t.sys.power.ibc 1).state, (NMap.get {} t.sys.power.ibc 3).state)) = some (2, 0) := by
  decide +kernel
/-- R438: a feed below 44.0 V is dropped after 50 µs, and at 45.0 V it is not. -/
theorem test_feed_drop :
    (let s := pwrS { feeds := [(0, { qualified := true }), (1, { qualified := true })] } {} 0
     after s (.feedDrop 0 4399 50000) (fun t => (NMap.get {} t.sys.power.feeds 0).qualified) = some false ∧
     after s (.feedDrop 0 4500 50000) (fun t => (NMap.get {} t.sys.power.feeds 0).qualified) = some true) := by decide +kernel
/-- An ill-formed command changes nothing (log entry 9), and an empty queue idles (log entry 10). -/
theorem test_ill_formed : after State.reset (.run 256 0) (fun t => t.sys.now) = some 0 := by decide +kernel
theorem test_idle :
    (match step State.reset with
     | .next t => some t.sys.now
     | _ => none) = some 1 := by decide +kernel

end Sys2Proof.Tests
end

/-! SUPPORT. Laws of a fetched instruction: what fetch reads, how an encoded load or store reads back, and what the word
comes to: a result, a trap, or the return from one. -/

namespace Sys2Proof.Machine

/-- Bytes read in two parts. -/
theorem Mem.read_add (m : Mem) (a i j : Nat) :
    Mem.read m a (i + j) = Mem.read m a i + 256 ^ i * Mem.read m (a + i) j := by
  induction i generalizing a with
  | zero => simp [Mem.read]
  | succ i ih =>
    have hnext : a + 1 + i = a + (i + 1) := by omega
    rw [Nat.add_right_comm, Mem.read, ih, Mem.read, hnext, Nat.pow_succ', Nat.mul_add, Nat.mul_assoc, Nat.add_assoc]

theorem Mem.read_lt (m : Mem) (a n : Nat) : Mem.read m a n < 256 ^ n := by
  induction n generalizing a with
  | zero => simp [Mem.read]
  | succ n ih =>
    have hb := (Mem.byte m a).isLt
    have hr := ih (a + 1)
    rw [Mem.read, Nat.pow_succ]
    omega

/-- A word of four bytes and its low half. -/
theorem Mem.read_two_of_four (m : Mem) (a : Nat) : Mem.read m a 2 = Mem.read m a 4 % 2 ^ 16 := by
  have h : Mem.read m a 4 = Mem.read m a 2 + 65536 * Mem.read m (a + 2) 2 := Mem.read_add m a 2 2
  have hl : Mem.read m a 2 < 65536 := Mem.read_lt m a 2
  omega

/-- The fields of an I-format instruction word. -/
theorem encI_fields (imm rs1 f3 rd op : Nat) (h1 : rs1 < 32) (h3 : f3 < 8) (hd : rd < 32) (ho : op < 128)
    (hi : imm < 4096) :
    encI imm rs1 f3 rd op % 128 = op ∧ bitsOf (encI imm rs1 f3 rd op) 14 12 = f3 ∧
    bitsOf (encI imm rs1 f3 rd op) 19 15 = rs1 ∧ immI (encI imm rs1 f3 rd op) = sext 12 imm := by
  simp only [immI, encI, bitsOf]
  refine ⟨?_, ?_, ?_, congrArg (sext 12) ?_⟩ <;> omega

/-- The fields of an S-format instruction word. -/
theorem encS_fields (imm rs2 rs1 f3 op : Nat) (h2 : rs2 < 32) (h1 : rs1 < 32) (h3 : f3 < 8) (ho : op < 128)
    (hi : imm < 4096) :
    encS imm rs2 rs1 f3 op % 128 = op ∧ bitsOf (encS imm rs2 rs1 f3 op) 14 12 = f3 ∧
    bitsOf (encS imm rs2 rs1 f3 op) 19 15 = rs1 ∧ immS (encS imm rs2 rs1 f3 op) = sext 12 imm := by
  have hd : bitsOf imm 4 0 < 32 := by simp only [bitsOf]; omega
  obtain ⟨hop, hrd, hf3, hrs1, -, hf7⟩ := encR_fields (bitsOf imm 11 5) rs2 rs1 f3 (bitsOf imm 4 0) op h2 h1 h3 hd ho
  refine ⟨hop, hf3, hrs1, ?_⟩
  rw [immS, encS, hrd, hf7]
  simp only [bitsOf]
  exact congrArg (sext 12) (by omega)

/-- A load whose address is not a multiple of its size takes exception 4 and reads nothing (R44). -/
theorem TX.scalarLoad_misaligned (x : TX) (k a n : Nat) (h : a % n ≠ 0) : x.scalarLoad k a n = (.error 4, x) := by
  simp [TX.scalarLoad, h]

/-- A store whose address is not a multiple of its size takes exception 6 and writes nothing (R44). -/
theorem TX.scalarStore_misaligned (x : TX) (k a n v : Nat) (h : a % n ≠ 0) : x.scalarStore k a n v = (some 6, x) := by
  simp [TX.scalarStore, h]

section Word
variable (x : TX) (k w pc len : Nat)

/-- A register-register word whose operation is defined retires with its result. -/
theorem TX.exec32_aluR (r : Nat) (hop : w % 128 = 0x33)
    (hr : aluR (bitsOf w 31 25) (bitsOf w 14 12) (bitsOf w 24 20) ((x.slot k).sc.get (bitsOf w 19 15))
      ((x.slot k).sc.get (bitsOf w 24 20)) = some r) :
    x.exec32 k w pc len = .ok x (bitsOf w 11 7) r (w32 (pc + len)) := by
  simp [TX.exec32, hop, hr]

/-- ecall takes exception 11. -/
theorem TX.exec32_ecall : x.exec32 k 0x73 pc len = .trap x 11 0 := by
  simp [TX.exec32, TX.execSystem, bitsOf]

/-- mret puts the pc back to mepc and MPIE into MIE. -/
theorem TX.exec32_mret : x.exec32 k 0x30200073 pc len =
    .ok (x.setSlot k { x.slot k with sc := (x.slot k).sc.mret }) 0 0 (x.slot k).sc.mepc.toNat := by
  simp [TX.exec32, TX.execSystem, bitsOf]

/-- A misaligned load word traps with its address in mtval, the tile as it was (R44). -/
theorem TX.exec32_misalignedLoad (a : Nat) (hop : w % 128 = 0x03) (hf : isLoad (bitsOf w 14 12) = true)
    (ha : w32 ((x.slot k).sc.get (bitsOf w 19 15) + immI w) = a) (hm : a % 2 ^ (bitsOf w 14 12 % 4) ≠ 0) :
    x.exec32 k w pc len = .trap x 4 a := by
  have hill : ¬ (bitsOf w 14 12 = 3 ∨ 5 < bitsOf w 14 12) := by
    simp only [isLoad, Bool.or_eq_true, decide_eq_true_eq] at hf
    omega
  simp [TX.exec32, hop, hill, ha, TX.scalarLoad_misaligned _ _ _ _ hm]

/-- A misaligned store word traps with its address in mtval, the tile as it was (R44). -/
theorem TX.exec32_misalignedStore (a : Nat) (hop : w % 128 = 0x23) (hf : isStore (bitsOf w 14 12) = true)
    (ha : w32 ((x.slot k).sc.get (bitsOf w 19 15) + immS w) = a) (hm : a % 2 ^ bitsOf w 14 12 ≠ 0) :
    x.exec32 k w pc len = .trap x 6 a := by
  have hill : ¬ 2 < bitsOf w 14 12 := by
    simp only [isStore, decide_eq_true_eq] at hf
    omega
  simp [TX.exec32, hop, hill, ha, TX.scalarStore_misaligned _ _ _ _ _ hm]

end Word

/-- A scalar core once `cc` core cycles have passed, WFI over (R45). -/
def Scalar.clocked (c : Scalar) (cc : Nat) : Scalar := { c with mcycle := c.mcycle + BitVec.ofNat 64 cc, wfi := false }

theorem TX.clock_eq (x : TX) (k cc : Nat) :
    x.clock k cc = x.setSlot k { x.slot k with sc := (x.slot k).sc.clocked cc } := rfl

/-- The clock leaves the registers alone. -/
theorem TX.clock_get (x : TX) (k cc r : Nat) : ((x.clock k cc).slot k).sc.get r = (x.slot k).sc.get r := by
  simp [TX.clock_slot, Scalar.get_clock]

/-- A trap of an instruction after the clock: the slot keeps all but what the clock and the trap change in its core. -/
theorem TX.retire_trap_clock (x : TX) (k cc cause tval pc : Nat) (old : W64) :
    (ScalarRes.trap (x.clock k cc) cause tval).retire k old pc =
      x.setSlot k { x.slot k with sc := ((x.slot k).sc.clocked cc).trap pc false cause tval } := by
  simp [ScalarRes.retire, TX.modSlot, TX.clock_eq]

/-- An instruction of a live core that retires after the clock with the rest of its slot as it was. -/
theorem TX.retire_ok_clock (x : TX) (k cc rd val pc p0 : Nat) (hp : x.tile.preload = none) :
    (ScalarRes.ok (x.clock k cc) rd val pc).retire k (x.slot k).sc.minstret p0 =
      x.setSlot k { x.slot k with sc := (x.slot k).sc.after cc rd val pc } :=
  TX.retire_after x k cc rd val pc { x.slot k with sc := (x.slot k).sc.clocked cc } hp rfl p0

/-- mret after the clock retires as mret does before it. -/
theorem TX.retire_mret_clock (x : TX) (k cc pc p0 : Nat) (hp : x.tile.preload = none) :
    (ScalarRes.ok ((x.clock k cc).setSlot k { (x.clock k cc).slot k with sc := ((x.clock k cc).slot k).sc.mret })
        0 0 pc).retire k (x.slot k).sc.minstret p0 =
      x.setSlot k { x.slot k with sc := (x.slot k).sc.mret.after cc 0 0 pc } := by
  simp only [ScalarRes.retire, TX.slot_setSlot, TX.clock_eq]
  rw [TX.instantHandover_none _ _ (by simpa using hp)]
  simp [Scalar.clocked, Scalar.mret, Scalar.put, Scalar.after]

/-- A given word at the pc of a live core. -/
theorem TX.scalarWord_live (x : TX) (k cc w : Nat) (hl : (x.slot k).scalarLive = true) :
    x.scalarWord k cc w =
      ((x.clock k cc).exec32 k w (x.slot k).sc.pc.toNat 4).retire k (x.slot k).sc.minstret (x.slot k).sc.pc.toNat := by
  simp [TX.scalarWord, hl, TX.clock_slot]

/-- The instruction that fetch hands on (R43), as it stands or expanded, run at the pc of a live core with clean RAM. -/
theorem TX.scalarInstruction_fetched (x : TX) (k cc w i : Nat) (hl : (x.slot k).scalarLive = true)
    (hpc : (x.slot k).sc.pc.toNat + 4 ≤ 0x10000) (hw : Mem.read (x.slot k).fetchView (x.slot k).sc.pc.toNat 4 = w)
    (hi : (if w % 4 = 3 then some w else expand16 (w % 2 ^ 16)) = some i) :
    x.scalarInstruction k cc .clean =
      ((x.clock k cc).exec32 k i (x.slot k).sc.pc.toNat (if w % 4 = 3 then 4 else 2)).retire k (x.slot k).sc.minstret
        (x.slot k).sc.pc.toNat := by
  have hlo : Mem.read (x.slot k).fetchView (x.slot k).sc.pc.toNat 2 = w % 65536 := hw ▸ Mem.read_two_of_four _ _
  have hhi : w % 65536 + 65536 * Mem.read (x.slot k).fetchView ((x.slot k).sc.pc.toNat + 2) 2 = w := by
    rw [← hlo, ← hw]
    exact (Mem.read_add _ _ 2 2).symm
  have h4 : w % 65536 % 4 = w % 4 := Nat.mod_mod_of_dvd w (by decide)
  have hin : ¬ 65536 ≤ (x.slot k).sc.pc.toNat := by omega
  have hin2 : ¬ 65536 ≤ (x.slot k).sc.pc.toNat + 2 := by omega
  by_cases hwide : w % 4 = 3
  · obtain rfl : w = i := by simpa [hwide] using hi
    simp [TX.scalarInstruction, hl, TX.clock_slot, hlo, h4, hwide, hin, hin2, hhi]
  · have hx : expand16 (w % 65536) = some i := by simpa [hwide] using hi
    simp [TX.scalarInstruction, hl, TX.clock_slot, hlo, h4, hwide, hin, hx]

section Fetched
variable {x : TX} {k cc w : Nat} (hl : (x.slot k).scalarLive = true) (hpc : (x.slot k).sc.pc.toNat + 4 ≤ 0x10000)
  (hw : Mem.read (x.slot k).fetchView (x.slot k).sc.pc.toNat 4 = w)
include hl hpc hw

/-- A fetched instruction that traps after the clock leaves all but the core of its slot alone. -/
theorem TX.scalarInstruction_trap (i cause tval : Nat)
    (hi : (if w % 4 = 3 then some w else expand16 (w % 2 ^ 16)) = some i)
    (hx : ∀ len, (x.clock k cc).exec32 k i (x.slot k).sc.pc.toNat len = .trap (x.clock k cc) cause tval) :
    x.scalarInstruction k cc .clean = x.setSlot k { x.slot k with
      sc := ((x.slot k).sc.clocked cc).trap (x.slot k).sc.pc.toNat false cause tval } := by
  rw [TX.scalarInstruction_fetched x k cc w i hl hpc hw hi, hx, TX.retire_trap_clock]

/-- A fetched register-register operation writes its result. -/
theorem TX.scalarInstruction_aluR (r : Nat) (hp : x.tile.preload = none) (hop : w % 128 = 0x33)
    (hr : aluR (bitsOf w 31 25) (bitsOf w 14 12) (bitsOf w 24 20) ((x.slot k).sc.get (bitsOf w 19 15))
      ((x.slot k).sc.get (bitsOf w 24 20)) = some r) :
    x.scalarInstruction k cc .clean = x.setSlot k { x.slot k with
      sc := (x.slot k).sc.after cc (bitsOf w 11 7) r ((x.slot k).sc.pc.toNat + 4) } := by
  have h4 : w % 4 = 3 := by omega
  have hnext : w32 ((x.slot k).sc.pc.toNat + 4) = (x.slot k).sc.pc.toNat + 4 := Nat.mod_eq_of_lt (by omega)
  have hexec := TX.exec32_aluR (x.clock k cc) k w (x.slot k).sc.pc.toNat 4 r hop (by simpa only [TX.clock_get] using hr)
  rw [TX.scalarInstruction_fetched x k cc w w hl hpc hw (if_pos h4), if_pos h4, hexec, hnext,
    TX.retire_ok_clock _ _ _ _ _ _ _ hp]

/-- A fetched ecall takes exception 11. -/
theorem TX.scalarInstruction_ecall (he : w = 0x73) :
    x.scalarInstruction k cc .clean = x.setSlot k { x.slot k with
      sc := ((x.slot k).sc.clocked cc).trap (x.slot k).sc.pc.toNat false 11 0 } :=
  TX.scalarInstruction_trap hl hpc hw w 11 0 (if_pos (by omega)) fun len => he ▸ TX.exec32_ecall _ _ _ len

/-- A fetched mret goes back to mepc. -/
theorem TX.scalarInstruction_mret (hp : x.tile.preload = none) (hm : w = 0x30200073) :
    x.scalarInstruction k cc .clean = x.setSlot k { x.slot k with
      sc := (x.slot k).sc.mret.after cc 0 0 (x.slot k).sc.mepc.toNat } := by
  subst hm
  rw [TX.scalarInstruction_fetched x k cc _ _ hl hpc hw rfl, TX.exec32_mret, TX.retire_mret_clock _ _ _ _ _ hp,
    TX.clock_slot]

end Fetched

section Command
variable {s : State} {t k cc : Nat} {v : Slot}

/-- A fetched instruction that ends with one slot of its tile replaced. -/
theorem State.scalarInstruction_slot (ht : t < 256) (hk : k < 16) (hcc : cc < 2 ^ 32)
    (h : (s.sys.tx t).scalarInstruction k cc .clean = (s.sys.tx t).setSlot k v) :
    exec (.scalarInstruction t k cc .clean) s = .next (s.withSlot t k v) := by
  have hwf : (Instr.scalarInstruction t k cc .clean).wf = true := by
    simp only [Instr.wf, isTile, isSlot, ht, hk, hcc, decide_true, Bool.and_self]
  rw [exec_scalarInstruction, hwf, State.act_true]
  exact congrArg _ (State.onTile_slot s t k _ v ht h)

/-- A load or store at an address of the narrow view that ends with one slot of its tile replaced. -/
theorem State.narrowRowAt_slot {rs1 imm w : Nat} (ht : t < 256) (hk : k < 16)
    (hn : narrowAddr (w32 ((s.slot t k).sc.get rs1 + sext 12 imm)) = true)
    (h : (s.sys.tx t).scalarWord k cc w = (s.sys.tx t).setSlot k v) :
    { s with sys := s.sys.narrowRowAt t k cc rs1 imm w } = s.withSlot t k v := by
  rw [Sys.narrowRowAt, Sys.onSlot, if_pos hk]
  exact State.onTile_slot s t k _ v ht ((if_pos hn).trans h)

end Command

section Narrow
variable (s : State) (t k cc f3 rs1 imm : Nat) (ht : t < 256) (hk : k < 16) (hcc : cc < 2 ^ 32)
  (hl : (s.slot t k).scalarLive = true) (h1 : rs1 < 32) (hi : imm < 4096)
  (hn : narrowAddr (w32 ((s.slot t k).sc.get rs1 + sext 12 imm)) = true)
  (hm : w32 ((s.slot t k).sc.get rs1 + sext 12 imm) % 2 ^ (f3 % 4) ≠ 0)
include ht hk hcc hl h1 hi hn hm

/-- A load of the narrow view whose address is misaligned traps (R44, R163). -/
theorem State.narrowLoad_misaligned (rd : Nat) (hd : rd < 32) (hf : isLoad f3 = true) :
    exec (.narrowLoad t k cc f3 rd rs1 imm) s = .next (s.withSlot t k { s.slot t k with
      sc := ((s.slot t k).sc.clocked cc).trap (s.slot t k).sc.pc.toNat false 4
        (w32 ((s.slot t k).sc.get rs1 + sext 12 imm)) }) := by
  have hwf : (Instr.narrowLoad t k cc f3 rd rs1 imm).wf = true := by
    simp only [Instr.wf, isTile, isSlot, isReg, isImm, ht, hk, hcc, hf, hd, h1, hi, decide_true, Bool.and_self]
  have h8 : f3 < 8 := by
    simp only [isLoad, Bool.or_eq_true, decide_eq_true_eq] at hf
    omega
  obtain ⟨hop, hf3, hrs1, himm⟩ := encI_fields imm rs1 f3 rd 0x03 h1 h8 hd (by decide) hi
  rw [exec_narrowLoad, hwf, State.act_true, State.narrowRowAt_slot ht hk hn]
  rw [TX.scalarWord_live _ _ _ _ hl,
    TX.exec32_misalignedLoad _ k _ _ _ _ hop (by rwa [hf3]) (by rw [hrs1, himm, TX.clock_get]) (by rwa [hf3]),
    TX.retire_trap_clock]
  rfl

/-- A store to the narrow view whose address is misaligned traps (R44, R164). -/
theorem State.narrowStore_misaligned (rs2 : Nat) (h2 : rs2 < 32) (hf : isStore f3 = true) :
    exec (.narrowStore t k cc f3 rs2 rs1 imm) s = .next (s.withSlot t k { s.slot t k with
      sc := ((s.slot t k).sc.clocked cc).trap (s.slot t k).sc.pc.toNat false 6
        (w32 ((s.slot t k).sc.get rs1 + sext 12 imm)) }) := by
  have hwf : (Instr.narrowStore t k cc f3 rs2 rs1 imm).wf = true := by
    simp only [Instr.wf, isTile, isSlot, isReg, isImm, ht, hk, hcc, hf, h2, h1, hi, decide_true, Bool.and_self]
  have h3 : f3 < 3 := by simpa [isStore] using hf
  rw [Nat.mod_eq_of_lt (by omega : f3 < 4)] at hm
  obtain ⟨hop, hf3, hrs1, himm⟩ := encS_fields imm rs2 rs1 f3 0x23 h2 h1 (by omega) (by decide) hi
  rw [exec_narrowStore, hwf, State.act_true, State.narrowRowAt_slot ht hk hn]
  rw [TX.scalarWord_live _ _ _ _ hl,
    TX.exec32_misalignedStore _ k _ _ _ _ hop (by rwa [hf3]) (by rw [hrs1, himm, TX.clock_get]) (by rwa [hf3]),
    TX.retire_trap_clock]
  rfl

end Narrow

/-- Settles O9: fetch hands on one word, and each word comes to its result, its trap or its return. -/
theorem fetchedScalarInstructions : Obligations.FetchedScalarInstructions := by
  unfold Obligations.FetchedScalarInstructions
  intro s t k cc ht hk hcc hl hp v pc w late hpc
  have done {v' : Slot} := State.scalarInstruction_slot (s := s) (v := v') ht hk hcc
  refine ⟨fun r hop hr => done (TX.scalarInstruction_aluR hl hpc rfl r hp hop hr),
    fun hw => done (TX.scalarInstruction_ecall hl hpc rfl hw), fun hw => done (TX.scalarInstruction_mret hl hpc rfl hp hw),
    fun i hi => ⟨fun hop hf hm => done (TX.scalarInstruction_trap hl hpc rfl i 4 _ hi fun len => ?load),
      fun hop hf hm => done (TX.scalarInstruction_trap hl hpc rfl i 6 _ hi fun len => ?store)⟩,
    fun f3 rd rs1 rs2 imm hrd h1 h2 himm hn hm =>
      ⟨State.narrowLoad_misaligned s t k cc f3 rs1 imm ht hk hcc hl h1 himm hn hm rd hrd,
        State.narrowStore_misaligned s t k cc f3 rs1 imm ht hk hcc hl h1 himm hn hm rs2 h2⟩⟩
  case load => exact TX.exec32_misalignedLoad _ _ _ _ _ _ hop hf (by rw [TX.clock_get]; rfl) hm
  case store => exact TX.exec32_misalignedStore _ _ _ _ _ _ hop hf (by rw [TX.clock_get]; rfl) hm

end Sys2Proof.Machine

/-! SUPPORT. Laws of a lap boundary: what a tile sends out leaves of its slots, and what the boundary of a finished lap
does, step by step. -/

namespace Sys2Proof.Machine

/-- Nothing that a tile sends out changes its slots or the cooling state. -/
theorem Sys.deliverOut_keeps (s : Sys) (t : Nat) (o : Out) :
    ((s.deliverOut t o).tile t).slots = (s.tile t).slots ∧ (s.deliverOut t o).cool = s.cool := by
  cases o with
  | notice u c p =>
    simp only [Sys.deliverOut, Sys.queueNotice]
    repeat' split
    all_goals simp [Sys.modTile]
  | packet p => exact ⟨rfl, rfl⟩
  | frame a f => exact ⟨rfl, rfl⟩
  | message m => simp [Sys.deliverOut, Sys.sendMsg]
  | streamGo a => exact ⟨rfl, rfl⟩
  | frameEnd f => simp [Sys.deliverOut, Sys.sendMsg]
  | scored kind sub ev n => exact ⟨rfl, rfl⟩

/-- A tile put back has the slots it came to, and the cooling state stays. -/
theorem Sys.putTX_keeps (s : Sys) (t : Nat) (x : TX) :
    ((s.putTX t x).tile t).slots = x.tile.slots ∧ (s.putTX t x).cool = s.cool := by
  refine List.foldlRecOn x.out (fun (s : Sys) o => s.deliverOut t o)
    (motive := fun u => (u.tile t).slots = x.tile.slots ∧ u.cool = s.cool)
    ⟨congrArg Tile.slots (s.tile_setTile_same t x.tile), rfl⟩ fun u hu o _ => ?_
  obtain ⟨hslots, hcool⟩ := u.deliverOut_keeps t o
  exact ⟨hslots.trans hu.1, hcool.trans hu.2⟩

/-- Out of Hold no tile settles into it. -/
theorem Sys.settleHold_none (s : Sys) (t : Nat) (h : s.cool.hold = none) : s.settleHold t = s := by
  simp [Sys.settleHold, h]

section Tile
variable (s : State) (t k : Nat) (x : TX)

theorem State.slot_tileDid : (s.tileDid t x).slot t k = x.slot k :=
  congrArg (fun m : NMap Slot => NMap.get ({} : Slot) m k) (s.sys.putTX_keeps t x).1

theorem State.tileDid_quiet (ho : x.out = []) : s.tileDid t x = s.withTile t x.tile := by
  simp [State.tileDid, State.withTile, Sys.putTX, ho]

theorem State.tileDid_note (urgent : Bool) (code kind wher sub detail : Nat) (ho : x.out = []) :
    s.tileDid t (x.note urgent code kind wher sub detail) =
      (s.withTile t x.tile).noticed t urgent code (noticeWord kind wher sub detail) := by
  simp [State.tileDid, State.withTile, State.noticed, Sys.putTX, TX.note, ho, Sys.deliverOut]

theorem State.withTile_withSlot (v : Slot) :
    (s.withTile t x.tile).withSlot t k v = s.withTile t (x.setSlot k v).tile := by
  simp [State.withTile, State.withSlot, TX.setSlot]

end Tile

/-- A lap boundary out of Hold is what its tile does. -/
theorem State.exec_lapBoundary_tileDid (s : State) (t k : Nat) (tm : LapTiming) (ht : t < 256) (hk : k < 16)
    (hh : s.sys.cool.hold = none) :
    exec (.lapBoundary t k tm) s = .next (s.tileDid t ((s.sys.tx t).lapBoundary k tm)) := by
  have hwf : (Instr.lapBoundary t k tm).wf = true := by simp [Instr.wf, isTile, isSlot, ht, hk]
  have hold (x : TX) : (s.sys.putTX t x).cool.hold = none := (s.sys.putTX_keeps t x).2 ▸ hh
  rw [exec_lapBoundary, hwf, State.act_true, Sys.onTile, if_pos ht, Sys.settleHold_none _ t (hold _)]
  rfl

@[simp] theorem Slot.irq_state (v : Slot) (i : Nat) : (v.irq i).state = v.state := rfl
@[simp] theorem Slot.irq_fault (v : Slot) (i : Nat) : (v.irq i).fault = v.fault := rfl
@[simp] theorem Slot.irq_lap (v : Slot) (i : Nat) : (v.irq i).lap = v.lap := rfl
@[simp] theorem TX.slot_modSlot (x : TX) (k : Nat) (f : Slot → Slot) : (x.modSlot k f).slot k = f (x.slot k) :=
  TX.slot_setSlot _ _ _
@[simp] theorem TX.reg_setSlot (x : TX) (k o : Nat) (v : Slot) : (x.setSlot k v).reg o = x.reg o := rfl

/-- Asking for a rotation changes neither the slots nor the registers, and it does not start one (R64). -/
theorem TX.leapBoundary_eq (x : TX) :
    x.leapBoundary = { x with tile := { x.tile with leapDue := decide (x.leapPeriod = 0) || x.tile.leapDue } } := by
  by_cases h : x.leapPeriod = 0 <;> simp [TX.leapBoundary, h]

@[simp] theorem TX.leapBoundary_slot (x : TX) (k : Nat) : x.leapBoundary.slot k = x.slot k := by
  rw [TX.leapBoundary_eq]; rfl
@[simp] theorem TX.leapBoundary_reg (x : TX) (o : Nat) : x.leapBoundary.reg o = x.reg o := by
  rw [TX.leapBoundary_eq]; rfl
@[simp] theorem TX.leapBoundary_out (x : TX) : x.leapBoundary.out = x.out := by rw [TX.leapBoundary_eq]
@[simp] theorem TX.leapBoundary_preload (x : TX) : x.leapBoundary.tile.preload = x.tile.preload := by
  rw [TX.leapBoundary_eq]
@[simp] theorem TX.leapBoundary_slotEid (x : TX) (k : Nat) : x.leapBoundary.slotEid k = x.slotEid k := by
  rw [TX.leapBoundary_eq]; rfl
@[simp] theorem TX.setSlot_slotEid (x : TX) (k j : Nat) (v : Slot) : (x.setSlot k v).slotEid j = x.slotEid j := rfl
theorem TX.leapBoundary_setSlot (x : TX) (k : Nat) (v : Slot) :
    (x.setSlot k v).leapBoundary = x.leapBoundary.setSlot k v := by
  rw [TX.leapBoundary_eq, TX.leapBoundary_eq]; rfl

/-- A slip changes neither the slot's state nor its lap (R53). -/
theorem TX.noteSlip_slot (x : TX) (k : Nat) (t : LapTiming) :
    ((x.noteSlip k t).slot k).state = (x.slot k).state ∧ ((x.noteSlip k t).slot k).lap = (x.slot k).lap ∧
      (x.noteSlip k t).tile.preload = x.tile.preload := by
  simp [TX.noteSlip, Slot.bump, Slot.setReg]

/-- The reports of a lap's boundary clear the lap's poison mark; the slot's state, the rest of its lap and a preload stay
(R180, R218, R396). -/
theorem TX.boundaryReports_slot (x : TX) (k n : Nat) (last : Bool) :
    ((x.boundaryReports k n last).slot k).state = (x.slot k).state ∧
      ((x.boundaryReports k n last).slot k).lap = { (x.slot k).lap with poisonLap := false } ∧
      (x.boundaryReports k n last).tile.preload = x.tile.preload := by
  cases hp : (x.slot k).lap.poisonLap <;> simp only [TX.boundaryReports, hp, Bool.false_eq_true, if_true, if_false]
  all_goals
    repeat' split
  all_goals simp [TX.note, ← hp]

/-- With no poison, no frame and no step to tell of, a boundary reports nothing. -/
theorem TX.boundaryReports_none (x : TX) (k n : Nat) (last : Bool) (hp : (x.slot k).lap.poisonLap = false)
    (hf : (x.slot k).lap.frameLaps = 0) (hs : (x.slot k).lap.stepLaps = 0) : x.boundaryReports k n last = x := by
  simp [TX.boundaryReports, hp, hf, hs]

/-- A program fault of a slot inside its lap run (R63). -/
theorem TX.lapFault_running (x : TX) (k : Nat) (c : FaultCause) (engine desc field : Nat)
    (h : (x.slot k).state = .lapRunning) :
    x.lapFault k c engine desc field = (x.setSlot k (Slot.irq { x.slot k with
      state := .lapFault, fault := c, faultEngine := engine, faultDesc := desc, faultField := field, queues := {}
      lap := { (x.slot k).lap with waitStart := false, stopPend := false, freezePend := false } } irqLapFault)).note
        true ncProgramFault 0 (x.slotEid k) 0 (c.code + 16 * desc) := by
  simp [TX.lapFault, h]

/-- The lap of a running slot has gone on for at least L cc, and every descriptor of its program has completed (R53). -/
structure Slot.LapFinished (v : Slot) (t : LapTiming) : Prop where
  running : v.state = .lapRunning
  started : v.lap.waitStart = false
  begun : v.lap.begun = true
  issued : v.lapLen ≤ v.lap.next
  quiet : v.quiet = true
  elapsed : v.lapL ≤ t.elapsed

/-- The token counters of a slot, in order (R52). -/
def Slot.tokenValues (v : Slot) : List Nat := (List.range 16).map (fun i => NMap.get 0 v.tokens i)
/-- The laps still to run once the present one is over. -/
def Slot.runsAfter (v : Slot) : Option Nat := v.lap.runsLeft.map (fun r => r - 1)

/-- The tile at the boundary of a finished lap of slot `k`: a slip counted, LAP_BOUNDARY pending, a rotation asked for
where one is due (R53, R64). -/
def TX.lapMarked (x : TX) (k : Nat) (t : LapTiming) : TX :=
  ((if (x.slot k).lapL < t.elapsed then x.noteSlip k t else x).modSlot k (fun s => s.irq irqLapBoundary)).leapBoundary

/-- That tile once it has reported the lap, before the tokens are looked at. -/
def TX.lapEnded (x : TX) (k : Nat) (t : LapTiming) : TX :=
  (x.lapMarked k t).boundaryReports k (x.slot k).lap.index (decide ((x.slot k).runsAfter = some 0))

/-- The slot `v` with the lap that was lap `n` counted, `left` laps still to run. -/
def Slot.lapCounted (v : Slot) (n : Nat) (left : Option Nat) : Slot :=
  { v with lap := { v.lap with
      index := (n + 1) % 2 ^ 32, next := 0, begun := false, runsLeft := left, boundaries := v.lap.boundaries + 1 } }

/-- The tile after a freeze armed for lap `n` of slot `k` has been taken up (R397). -/
def TX.disarmed (x : TX) (k n : Nat) : TX :=
  if bitOf (x.reg (0x1A44 + 8 * k)) 0 && decide (x.reg (0x1A40 + 8 * k) = n) then x.setReg (0x1A44 + 8 * k) 0 else x

@[simp] theorem TX.disarmed_slot (x : TX) (k n j : Nat) : (x.disarmed k n).slot j = x.slot j := by
  unfold TX.disarmed; split <;> rfl
@[simp] theorem TX.disarmed_preload (x : TX) (k n : Nat) : (x.disarmed k n).tile.preload = x.tile.preload := by
  unfold TX.disarmed; split <;> rfl
theorem TX.disarmed_none (x : TX) (k n : Nat) (h : bitOf (x.reg (0x1A44 + 8 * k)) 0 = false) : x.disarmed k n = x := by
  simp [TX.disarmed, h]

theorem TX.lapMarked_slot (x : TX) (k : Nat) (t : LapTiming) :
    ((x.lapMarked k t).slot k).state = (x.slot k).state ∧ ((x.lapMarked k t).slot k).lap = (x.slot k).lap ∧
      (x.lapMarked k t).tile.preload = x.tile.preload := by
  obtain ⟨hs, hl, hp⟩ := x.noteSlip_slot k t
  unfold TX.lapMarked
  split <;> simp [TX.modSlot, hs, hl, hp]

theorem TX.lapEnded_slot (x : TX) (k : Nat) (t : LapTiming) :
    ((x.lapEnded k t).slot k).state = (x.slot k).state ∧
      ((x.lapEnded k t).slot k).lap = { (x.slot k).lap with poisonLap := false } ∧
      (x.lapEnded k t).tile.preload = x.tile.preload := by
  obtain ⟨hs, hl, hp⟩ := x.lapMarked_slot k t
  obtain ⟨hs', hl', hp'⟩ :=
    (x.lapMarked k t).boundaryReports_slot k (x.slot k).lap.index (decide ((x.slot k).runsAfter = some 0))
  exact ⟨hs'.trans hs, hl ▸ hl', hp'.trans hp⟩

section Boundary
variable {x : TX} {k : Nat} {t : LapTiming}

/-- A lap that took exactly L cc and has nothing to report. -/
theorem TX.lapEnded_onTime (hL : t.elapsed = (x.slot k).lapL) (hp : (x.slot k).lap.poisonLap = false)
    (hf : (x.slot k).lap.frameLaps = 0) (hs : (x.slot k).lap.stepLaps = 0) :
    x.lapEnded k t = x.leapBoundary.setSlot k ((x.slot k).irq irqLapBoundary) := by
  unfold TX.lapEnded TX.lapMarked
  rw [TX.boundaryReports_none] <;> simp [hL, TX.modSlot, TX.leapBoundary_setSlot, hp, hf, hs]

/-- A bubble lap ends (R461). -/
theorem TX.lapBoundary_bubble (hst : (x.slot k).state = .lapRunning) (hw : (x.slot k).lap.waitStart = false)
    (hL : (x.slot k).lapL ≤ t.elapsed) (hb : (x.slot k).lap.begun = false) :
    x.lapBoundary k t = x.setSlot k { x.slot k with lap := { (x.slot k).lap with
      bubbles := (x.slot k).lap.bubbles - 1, begun := decide ((x.slot k).lap.bubbles - 1 = 0), next := 0 } } := by
  simp [TX.lapBoundary, hst, hw, hb, Nat.not_lt.mpr hL]

/-- A finished lap whose tokens differ from the baseline ends in LAP_FAULT (R54). -/
theorem TX.lapBoundary_imbalance (h : (x.slot k).LapFinished t)
    (hb : (x.slot k).tokenValues ≠ (x.slot k).lap.baseline) :
    x.lapBoundary k t = (x.lapEnded k t).lapFault k .tokenImbalance 0 0 0 := by
  obtain ⟨hst, hw, hbeg, hn, hq, hL⟩ := h
  have hb' : ¬ (List.range 16).map (fun i => NMap.get 0 (x.slot k).tokens i) = (x.slot k).lap.baseline := hb
  simp [TX.lapBoundary, hst, hw, hbeg, hq, Nat.not_lt.mpr hL, Nat.not_lt.mpr hn, hb', TX.lapEnded,
    TX.lapMarked, Slot.runsAfter]

/-- A finished lap with its tokens at the baseline is counted. A run that is over, by its count or by a stop, returns the
core to SCALAR; a freeze that is armed for the lap or pends freezes it; else the bubble laps due come before the next lap
(R54, R56, R397, R461). -/
theorem TX.lapBoundary_balanced (h : (x.slot k).LapFinished t)
    (hb : (x.slot k).tokenValues = (x.slot k).lap.baseline) :
    let n := (x.slot k).lap.index
    let w := ((x.lapEnded k t).slot k).lapCounted n (x.slot k).runsAfter
    let y := (x.lapEnded k t).setSlot k w
    let z := y.disarmed k n
    x.lapBoundary k t =
      if (x.slot k).runsAfter = some 0 ∨ (x.slot k).lap.stopPend = true then
        (z.setSlot k { w with
          state := .scalar, lap := { w.lap with stopPend := false, freezePend := false } }).instantHandover k
      else if (bitOf (y.reg (0x1A44 + 8 * k)) 0 = true ∧ y.reg (0x1A40 + 8 * k) = n) ∨
          (x.slot k).lap.freezePend = true then
        z.setSlot k (({ w with state := .lapFrozen, lap := { w.lap with freezePend := false } }).irq irqFreeze)
      else
        ((z.enterBubbles k).tryHandover k).modSlot k
          (fun s => { s with lap := { s.lap with begun := decide (s.lap.bubbles = 0) } }) := by
  obtain ⟨-, hlap, -⟩ := x.lapEnded_slot k t
  obtain ⟨hst, hw, hbeg, hn, hq, hL⟩ := h
  have hb' : (List.range 16).map (fun i => NMap.get 0 (x.slot k).tokens i) = (x.slot k).lap.baseline := hb
  have hstop : ((x.lapEnded k t).slot k).lap.stopPend = (x.slot k).lap.stopPend := by rw [hlap]
  have hfreeze : ((x.lapEnded k t).slot k).lap.freezePend = (x.slot k).lap.freezePend := by rw [hlap]
  simp only [← hstop, ← hfreeze]
  simp [TX.lapBoundary, hst, hw, hbeg, hq, Nat.not_lt.mpr hL, Nat.not_lt.mpr hn, hb', TX.lapEnded, TX.lapMarked,
    Slot.runsAfter, TX.modSlot, Slot.lapCounted, TX.disarmed]

/-- The slot after a lap whose tokens differ from the baseline: in LAP_FAULT with TOKEN_IMBALANCE, and the
next lap does not begin (R54; that the index stays is log entry 22). -/
theorem TX.lapBoundary_imbalance_slot (h : (x.slot k).LapFinished t)
    (hb : (x.slot k).tokenValues ≠ (x.slot k).lap.baseline) :
    let u := (x.lapBoundary k t).slot k
    u.state = .lapFault ∧ u.fault = .tokenImbalance ∧ u.lap.begun = true ∧ u.lap.index = (x.slot k).lap.index := by
  obtain ⟨hst, hlap, -⟩ := x.lapEnded_slot k t
  simp [TX.lapBoundary_imbalance h hb, TX.lapFault_running _ _ _ _ _ _ (hst.trans h.running), TX.note, hlap, h.begun]

/-- The slot after the last lap of a run, its tokens at the baseline (R54). -/
theorem TX.lapBoundary_lastRun_slot (h : (x.slot k).LapFinished t) (hpre : x.tile.preload = none)
    (hb : (x.slot k).tokenValues = (x.slot k).lap.baseline) (hr : (x.slot k).lap.runsLeft = some 1) :
    let u := (x.lapBoundary k t).slot k
    u.state = .scalar ∧ u.lap.index = ((x.slot k).lap.index + 1) % 2 ^ 32 := by
  obtain ⟨-, -, hpre'⟩ := x.lapEnded_slot k t
  have hlast : (x.slot k).runsAfter = some 0 := by simp [Slot.runsAfter, hr]
  rw [TX.lapBoundary_balanced h hb, if_pos (.inl hlast), TX.instantHandover_none _ _ (by simp [hpre', hpre])]
  simp [Slot.lapCounted]

section OnTime
variable (h : (x.slot k).LapFinished t) (hL : t.elapsed = (x.slot k).lapL) (hp : (x.slot k).lap.poisonLap = false)
  (hf : (x.slot k).lap.frameLaps = 0) (hs : (x.slot k).lap.stepLaps = 0)
include h hL hp hf hs

/-- The tile after a lap of exactly L cc whose tokens differ from the baseline (R54). -/
theorem TX.lapBoundary_imbalance_onTime (hb : (x.slot k).tokenValues ≠ (x.slot k).lap.baseline) :
    x.lapBoundary k t = (x.leapBoundary.setSlot k (Slot.irq { (x.slot k).irq irqLapBoundary with
        state := .lapFault, fault := .tokenImbalance, faultEngine := 0, faultDesc := 0, faultField := 0, queues := {}
        lap := { (x.slot k).lap with waitStart := false, stopPend := false, freezePend := false } } irqLapFault)).note
      true ncProgramFault 0 (x.slotEid k) 0 3 := by
  rw [TX.lapBoundary_imbalance h hb, TX.lapEnded_onTime hL hp hf hs, TX.lapFault_running] <;>
    simp [h.running, FaultCause.code]

section Balanced
variable (hb : (x.slot k).tokenValues = (x.slot k).lap.baseline) (hpre : x.tile.preload = none)
  (harm : bitOf (x.reg (0x1A44 + 8 * k)) 0 = false)
include hb harm

/-- A pending freeze: the core is frozen at the boundary (R56). -/
theorem TX.lapBoundary_freeze_onTime (hend : ¬ ((x.slot k).runsAfter = some 0 ∨ (x.slot k).lap.stopPend = true))
    (hfr : (x.slot k).lap.freezePend = true) :
    let w := ((x.slot k).irq irqLapBoundary).lapCounted (x.slot k).lap.index (x.slot k).runsAfter
    x.lapBoundary k t = x.leapBoundary.setSlot k
      (({ w with state := .lapFrozen, lap := { w.lap with freezePend := false } }).irq irqFreeze) := by
  intro w
  rw [TX.lapBoundary_balanced h hb, if_neg hend, if_pos (.inr hfr), TX.lapEnded_onTime hL hp hf hs,
    TX.disarmed_none _ _ _ (by simpa using harm)]
  simp [w]

include hpre

/-- The run is over: the core returns to SCALAR. -/
theorem TX.lapBoundary_runOver_onTime (hend : (x.slot k).runsAfter = some 0 ∨ (x.slot k).lap.stopPend = true) :
    let w := ((x.slot k).irq irqLapBoundary).lapCounted (x.slot k).lap.index (x.slot k).runsAfter
    x.lapBoundary k t = x.leapBoundary.setSlot k { w with
      state := .scalar, lap := { w.lap with stopPend := false, freezePend := false } } := by
  intro w
  rw [TX.lapBoundary_balanced h hb, if_pos hend, TX.lapEnded_onTime hL hp hf hs,
    TX.disarmed_none _ _ _ (by simpa using harm), TX.instantHandover_none _ _ (by simpa using hpre)]
  simp [w]

/-- The run goes on: the bubble laps due are taken up, and with none the next lap begins (R461). -/
theorem TX.lapBoundary_next_onTime (hend : ¬ ((x.slot k).runsAfter = some 0 ∨ (x.slot k).lap.stopPend = true))
    (hfr : (x.slot k).lap.freezePend = false) :
    let m := ((x.slot k).lap.index + 1) % 2 ^ 32
    let w := ((x.slot k).irq irqLapBoundary).lapCounted (x.slot k).lap.index (x.slot k).runsAfter
    let b := x.bubbleRateAt k m
    x.lapBoundary k t = x.leapBoundary.setSlot k { w with lap := { w.lap with
      bubbleRate := b, bubbles := bubblesBefore b m, begun := decide (bubblesBefore b m = 0) } } := by
  intro m w b
  have hno : ¬ ((bitOf (x.reg (0x1A44 + 8 * k)) 0 = true ∧ x.reg (0x1A40 + 8 * k) = (x.slot k).lap.index) ∨
      (x.slot k).lap.freezePend = true) := by simp [harm, hfr]
  rw [TX.lapBoundary_balanced h hb, if_neg hend, TX.lapEnded_onTime hL hp hf hs, if_neg (by simpa using hno),
    TX.disarmed_none _ _ _ (by simpa using harm), TX.tryHandover_none _ _ (by simpa [TX.enterBubbles] using hpre)]
  simp [TX.enterBubbles, TX.modSlot, TX.bubbleRateAt, Slot.lapCounted, w, m, b]

end Balanced
end OnTime
end Boundary

/-- A lap boundary that asks for a rotation where one is due and changes the slot besides. -/
theorem State.lapBoundary_leap_slot (s : State) (t k : Nat) (tm : LapTiming) (v : Slot) (ht : t < 256) (hk : k < 16)
    (hh : s.sys.cool.hold = none) (h : (s.sys.tx t).lapBoundary k tm = (s.sys.tx t).leapBoundary.setSlot k v) :
    exec (.lapBoundary t k tm) s = .next ((s.withTile t (s.sys.tx t).leapBoundary.tile).withSlot t k v) := by
  rw [State.exec_lapBoundary_tileDid s t k tm ht hk hh, h, State.tileDid_quiet _ _ _ (by simp), State.withTile_withSlot]

/-- Settles O13: each outcome of a boundary is its law above, put back into the panel. -/
theorem lapBoundaryOutcomes : Obligations.LapBoundaryOutcomes := by
  unfold Obligations.LapBoundaryOutcomes
  intro s t k tm ht hk hh hpre v x n z hst hw
  have hexec := State.exec_lapBoundary_tileDid s t k tm ht hk hh
  refine ⟨fun hbeg hn hq hL => ?slots, fun hL => ⟨fun hb => ?bubble, fun hbeg hn hq hp hf hs hb => ?imbalance,
    fun hbeg hn hq hp hf hs harm hb => ?balanced⟩⟩
  case slots =>
    have hfin : v.LapFinished tm := ⟨hst, hw, hbeg, hn, hq, hL⟩
    refine ⟨_, hexec, fun hb => ?_, fun hb hr => ?_⟩
    · rw [State.slot_tileDid]
      exact TX.lapBoundary_imbalance_slot hfin hb
    · rw [State.slot_tileDid]
      exact TX.lapBoundary_lastRun_slot hfin hpre hb hr
  case bubble =>
    rw [hexec, TX.lapBoundary_bubble hst hw (Nat.le_of_eq hL.symm) hb, State.tileDid_quiet _ _ _ (by simp)]
    rfl
  case imbalance =>
    rw [hexec, TX.lapBoundary_imbalance_onTime ⟨hst, hw, hbeg, hn, hq, (Nat.le_of_eq hL.symm)⟩ hL hp hf hs hb,
      State.tileDid_note _ _ _ _ _ _ _ _ _ (by simp), ← State.withTile_withSlot]
    rfl
  case balanced =>
    intro left w
    have hfin : v.LapFinished tm := ⟨hst, hw, hbeg, hn, hq, (Nat.le_of_eq hL.symm)⟩
    have done {v' : Slot} := State.lapBoundary_leap_slot s t k tm v' ht hk hh
    have goesOn (hl : left ≠ some 0) (hstop : v.lap.stopPend = false) :
        ¬ (v.runsAfter = some 0 ∨ v.lap.stopPend = true) := by
      rintro (h | h)
      · exact hl h
      · simp [hstop] at h
    exact ⟨fun hend => done (TX.lapBoundary_runOver_onTime hfin hL hp hf hs hb hpre harm hend),
      fun hl hstop hfr => done (TX.lapBoundary_freeze_onTime hfin hL hp hf hs hb harm (goesOn hl hstop) hfr),
      fun hl hstop hfr => done (TX.lapBoundary_next_onTime hfin hL hp hf hs hb hpre harm (goesOn hl hstop) hfr)⟩

end Sys2Proof.Machine

/-! SUPPORT. Laws of a command's start and end (R13, R357): the reply to one whose fields fail, the effect of one whose
fields pass, what a queued reply leaves alone; then the tiles of partitions that are apart, and PARTITION_CREATE. -/

namespace Sys2Proof.Machine

/-- A queued reply leaves the lead hub's state and the tiles alone. -/
theorem Sys.pushReply_keeps (s : Sys) (h q num : Nat) (r : Reply) :
    (s.pushReply h q num r).lead = s.lead ∧ (s.pushReply h q num r).tiles = s.tiles := by
  unfold Sys.pushReply
  dsimp only
  split
  · exact ⟨rfl, rfl⟩
  · split <;> exact ⟨rfl, rfl⟩

@[simp] theorem State.replied_lead (s : State) (h q : Nat) (c : Cmd) (u : Sys) (r : Reply) :
    (s.replied h q c u r).sys.lead = u.lead := (Sys.pushReply_keeps u h q c.num r).1
@[simp] theorem State.replied_tiles (s : State) (h q : Nat) (c : Cmd) (u : Sys) (r : Reply) :
    (s.replied h q c u r).sys.tiles = u.tiles := (Sys.pushReply_keeps u h q c.num r).2

/-- The command that a pair starts next has the opcode asked for (R358). -/
theorem Sys.nextCmd_op {s : Sys} {h q op : Nat} {c : Cmd} (hc : s.nextCmd h q op = some c) : c.op = op := by
  unfold Sys.nextCmd at hc
  dsimp only at hc
  split at hc
  · cases hc
  · split at hc
    · next hop =>
      cases hc
      simp only [Bool.and_eq_true, decide_eq_true_eq] at hop
      exact hop.1
    · cases hc

section Start
variable {s : State} {h q op : Nat} {c : Cmd} {bad : Sys → Cmd → List (Nat × Nat)}

theorem State.starts_op (hs : s.starts h q op c) : c.op = op :=
  Sys.nextCmd_op hs.2.2

/-- A command with failing fields is answered by the lowest of them, and nothing else happens (R13). -/
theorem State.command_refused {i r : Nat} (hs : s.starts h q op c) (run : Sys → Cmd → Option Reply × Sys)
    (hb : lowestBad (s.checks h q op bad c) = some (i, r)) :
    { s with sys := s.sys.command h q op bad run } = s.replied h q c (s.started h q c)
      ((s.started h q c).refusal c (if r = denyMark then Reply.deny i else Reply.bad i r)) := by
  obtain ⟨hlive, hready, hnext⟩ := hs
  simp only [State.checks, State.started] at hb
  simp only [Sys.command, hlive, hready, hnext, hb, State.replied, State.started, Bool.not_true, Bool.or_self,
    Bool.false_eq_true, if_false]

/-- A command whose fields all pass has its opcode's effect and is answered at once (R13, R357). -/
theorem State.command_accepted (ha : s.accepts h q op bad c) (f : Sys → Cmd → Reply × Sys) :
    { s with sys := s.sys.command h q op bad (now_ f) } =
      s.replied h q c (f (s.started h q c) c).2 (f (s.started h q c) c).1 := by
  obtain ⟨⟨hlive, hready, hnext⟩, hb⟩ := ha
  have hnone : lowestBad [] = none := rfl
  simp only [State.checks, State.started] at hb
  simp only [Sys.command, hlive, hready, hnext, hb, hnone, now_, State.replied, State.started, Bool.not_true,
    Bool.or_self, Bool.false_eq_true, if_false]

end Start

theorem bitOf_eq_testBit (v i : Nat) : bitOf v i = v.testBit i :=
  (Nat.testBit_eq_decide_div_mod_eq (x := v) (i := i)).symm

/-- A bit of one of two masks with nothing in common is not in the other. -/
theorem bitOf_false_of_and_eq_zero {v w : Nat} (h : v &&& w = 0) {i : Nat} (hv : bitOf v i = true) :
    bitOf w i = false := by
  rw [bitOf_eq_testBit] at hv ⊢
  have hb : (v &&& w).testBit i = false := by simp [h]
  simpa [Nat.testBit_and, hv] using hb

/-- A read of a map answers the default or a listed pair. -/
theorem NMap.get_eq_default_or_mem {α : Type} (d : α) (m : NMap α) (k : Nat) :
    NMap.get d m k = d ∨ (k, NMap.get d m k) ∈ m := by
  induction m with
  | nil => exact .inl rfl
  | cons p r ih =>
    obtain ⟨i, v⟩ := p
    by_cases hi : i = k
    · subst hi
      simp [NMap.get]
    · simpa [NMap.get, hi, Ne.symm hi] using ih

/-- Two partitions that are apart share no tile. -/
theorem PartitionsApart.get_and {m : NMap Partition} (hm : PartitionsApart m) {a b : Nat} (hab : a ≠ b) :
    (NMap.get {} m a).tiles &&& (NMap.get {} m b).tiles = 0 := by
  obtain ⟨-, -, -, hp⟩ := hm
  rcases NMap.get_eq_default_or_mem {} m a with ha | ha
  · simp [ha]
  rcases NMap.get_eq_default_or_mem {} m b with hb | hb
  · simp [hb]
  have happart : ∀ ⦃p⦄, p ∈ m → ∀ ⦃r⦄, r ∈ m → p.1 ≠ r.1 → p.2.tiles &&& r.2.tiles = 0 := by
    refine List.Pairwise.forall_of_forall_of_flip (fun _ _ hne => absurd rfl hne) (hp.imp ?_) (hp.imp ?_)
    · exact fun h _ => h
    · exact fun h _ => (Nat.and_comm _ _).trans h
  exact happart ha hb hab

/-- A mask that shares nothing with any listed partition shares nothing with what any number reads as. -/
theorem Partition.get_and_of_free {m : NMap Partition} {v : Nat} (hv : ∀ p ∈ m, p.2.tiles &&& v = 0) (a : Nat) :
    (NMap.get {} m a).tiles &&& v = 0 := by
  rcases NMap.get_eq_default_or_mem {} m a with ha | ha
  · simp [ha]
  · exact hv _ ha

/-- A partition made of free tiles leaves every two partitions with no tile in common (R380). -/
theorem PartitionsApart.get_put_and {m : NMap Partition} (hm : PartitionsApart m) {k v : Nat}
    (hv : ∀ p ∈ m, p.2.tiles &&& v = 0) {a b : Nat} (hab : a ≠ b) :
    (NMap.get {} (NMap.put m k { tiles := v }) a).tiles &&& (NMap.get {} (NMap.put m k { tiles := v }) b).tiles = 0 := by
  rw [NMap.get_put, NMap.get_put]
  by_cases ha : a = k
  · rw [if_pos ha, if_neg (fun hb => hab (ha.trans hb.symm)), Nat.and_comm]
    exact Partition.get_and_of_free hv b
  by_cases hb : b = k
  · rw [if_neg ha, if_pos hb]
    exact Partition.get_and_of_free hv a
  · rw [if_neg ha, if_neg hb]
    exact hm.get_and hab

section Checks
variable {s : Sys} {c : Cmd}

/-- ID 0 or an ID that exists fails at index 4, whatever the tiles (R13, R380). -/
theorem badPartCreate_takenId (hid : c.partition = 0 ∨ (NMap.find s.lead.partitions c.partition).isSome = true) :
    lowestBad (badPartCreate s c) = some (4, 0) := by
  have h4 : (c.partition ≠ 0 && (NMap.find s.lead.partitions c.partition).isNone) = false := by
    rcases hid with hid | hid <;> simp [hid]
  rw [badPartCreate, h4]
  cases (c.p 16 30 ≠ 0 && s.lead.partitions.all fun p => (p.2.tiles &&& c.p 16 30) = 0) <;> rfl

/-- A new ID with no tile, or with a tile of another partition, fails at index 16 (R380). -/
theorem badPartCreate_takenTile (hid : c.partition ≠ 0) (hnew : NMap.find s.lead.partitions c.partition = none)
    (hm : c.p 16 30 = 0 ∨ s.lead.partitions.any (fun p => p.2.tiles &&& c.p 16 30 ≠ 0) = true) :
    badPartCreate s c = [(16, 0)] := by
  have h16 : (c.p 16 30 ≠ 0 && s.lead.partitions.all fun p => (p.2.tiles &&& c.p 16 30) = 0) = false := by
    rcases hm with hm | hm
    · simp [hm]
    · simp only [Bool.and_eq_false_iff, List.all_eq_false]
      right
      simpa using hm
  rw [badPartCreate, h16]
  simp [fails, hid, hnew]

/-- A new ID with free tiles passes (R380). -/
theorem badPartCreate_free (hid : c.partition ≠ 0) (hnew : NMap.find s.lead.partitions c.partition = none)
    (hm : c.p 16 30 ≠ 0) (hfree : ∀ p ∈ s.lead.partitions, p.2.tiles &&& c.p 16 30 = 0) : badPartCreate s c = [] := by
  have hall : s.lead.partitions.all (fun p => (p.2.tiles &&& c.p 16 30) = 0) = true := by simpa using hfree
  simp [badPartCreate, fails, hid, hnew, hm, hall]

end Checks

/-- With 16 partitions a further one is refused as BUSY (R355). -/
theorem Sys.runPartCreate_full {s : Sys} (c : Cmd) (h : s.lead.partitions.length = 16) :
    s.runPartCreate c = (Reply.busy 0, s) :=
  if_pos (Nat.le_of_eq h.symm)

/-- With fewer than 16, the partition is made of the tiles named. -/
theorem Sys.runPartCreate_room {s : Sys} (c : Cmd) (h : s.lead.partitions.length < 16) :
    s.runPartCreate c = (Reply.ok 0, s.modLead (fun l => { l with
      partitions := NMap.put l.partitions c.partition { tiles := c.p 16 30 } })) :=
  if_neg (Nat.not_le_of_lt h)

section Create
variable {s : State} {h q : Nat} {c : Cmd}

/-- PARTITION_CREATE on a pair of the panel (R372): only the header and the fields of its own can fail. -/
theorem State.checks_partitionCreate (hs : s.starts h q 0x08 c) (ho : (s.sys.hub h).qpOwner q = 0)
    (hh : (s.started h q c).headBad c = []) : s.checks h q 0x08 badPartCreate c = badPartCreate s.sys c := by
  have hmine : (s.started h q c).targetMine c = true := by
    simp [Sys.targetMine, State.starts_op hs, show noTarget 0x08 = true by decide]
  simp only [State.checks, ho, hh, hmine]
  rfl

theorem State.exec_partitionCreate_command (hh : h < 2) (hq : q < 2048) (s : State) :
    exec (.partitionCreate h q) s =
      .next { s with sys := s.sys.command h q 0x08 badPartCreate (now_ Sys.runPartCreate) } := by
  have hwf : (Instr.partitionCreate h q).wf = true := by
    simp only [Instr.wf, isHub, isPair, hh, hq, decide_true, Bool.and_self]
  rw [exec_partitionCreate, hwf, State.act_true]

/-- The answer to PARTITION_CREATE where field `i` is the lowest that fails (R13). -/
theorem State.partitionCreate_refused {i : Nat} (hh : h < 2) (hq : q < 2048) (hs : s.starts h q 0x08 c)
    (hb : lowestBad (s.checks h q 0x08 badPartCreate c) = some (i, 0)) :
    exec (.partitionCreate h q) s =
      .next (s.replied h q c (s.started h q c) { status := stInvalidField, field := i }) := by
  have hanswer : (s.started h q c).refusal c (if 0 = denyMark then Reply.deny i else Reply.bad i 0) =
      { status := stInvalidField, field := i } := by
    simp [Sys.refusal, State.starts_op hs, denyMark, Reply.bad]
  rw [State.exec_partitionCreate_command hh hq, State.command_refused hs _ hb, hanswer]

end Create

/-- Settles O50: the lowest failing field answers, and what passes makes a partition of tiles that were free. -/
theorem partitionCreateRules : Obligations.PartitionCreateRules := by
  unfold Obligations.PartitionCreateRules
  intro s h q c hh hq hk hs ho t m parts taken hhead
  have hchecks := State.checks_partitionCreate hs ho hhead
  refine ⟨fun hid => ?badId, fun hid hnew hmask => ?badTiles, fun hid hnew hm hfree => ?made⟩
  case badId =>
    exact State.partitionCreate_refused hh hq hs (hchecks ▸ badPartCreate_takenId hid)
  case badTiles =>
    exact State.partitionCreate_refused hh hq hs (hchecks.trans (badPartCreate_takenTile hid hnew hmask) ▸ rfl)
  case made =>
    have hdisj : ∀ p ∈ parts, p.2.tiles &&& m = 0 := by simpa [taken] using hfree
    have ha : s.accepts h q 0x08 badPartCreate c := ⟨hs, hchecks.trans (badPartCreate_free hid hnew hm hdisj)⟩
    have hexec := State.exec_partitionCreate_command hh hq s
    rw [State.command_accepted ha] at hexec
    refine ⟨fun hfull => ?full, fun hroom => ?room⟩
    case full =>
      rw [Sys.runPartCreate_full c (s := s.started h q c) hfull] at hexec
      exact hexec
    case room =>
      rw [Sys.runPartCreate_room c (s := s.started h q c) hroom] at hexec
      refine ⟨_, hexec, State.replied_tiles .., congrArg Lead.partitions (State.replied_lead ..), fun l a b hab hl => ?_⟩
      rw [State.replied_lead] at hl ⊢
      exact bitOf_false_of_and_eq_zero (hk.1.get_put_and hdisj hab) hl

end Sys2Proof.Machine

/-! SUPPORT. What one step does to the panel, for every command at once: the invariant along PARTITION_CREATE, each row
of the command table as one effect that keeps the invariant, and the order in which queued commands run. -/

namespace Sys2Proof.Machine

/-- A map with a pair added lists that pair and what is listed at the other keys. -/
theorem NMap.put_perm {α : Type} (m : NMap α) (k : Nat) (v : α) : (NMap.put m k v).Perm ((k, v) :: NMap.erase m k) :=
  List.perm_middle

/-- A partition of free tiles under a new number, beside at most 15 others, leaves the partitions apart (R355, R380). -/
theorem PartitionsApart.put {m : NMap Partition} (hm : PartitionsApart m) {k v : Nat} (hroom : m.length < 16) (hk : k ≠ 0)
    (hv : v ≠ 0) (hfree : ∀ p ∈ m, p.2.tiles &&& v = 0) : PartitionsApart (NMap.put m k { tiles := v }) := by
  have hperm := NMap.put_perm m k { tiles := v }
  have hsub : (NMap.erase m k).Sublist m := NMap.erase_sublist m k hm.1
  obtain ⟨-, -, hne, hpair⟩ := hm.erase k
  refine ⟨NMap.sorted_put _ _ _ hm.1, ?_, fun p hp => ?_, ?_⟩
  · rw [hperm.length_eq, List.length_cons]
    have := hsub.length_le
    omega
  · rcases List.mem_cons.1 (hperm.subset hp) with rfl | hp
    · exact ⟨hk, hv⟩
    · exact hne p hp
  · rw [hperm.pairwise_iff (fun h => (Nat.and_comm _ _).trans h), List.pairwise_cons]
    exact ⟨fun p hp => (Nat.and_comm _ _).trans (hfree p (hsub.subset hp)), hpair⟩

/-- Checks among which none is the lowest are no checks at all. -/
theorem eq_nil_of_lowestBad {l : List (Nat × Nat)} (h : lowestBad l = none) : l = [] := by
  have keeps (r : List (Nat × Nat)) : ∀ a, r.foldl (fun (a : Option (Nat × Nat)) x => match a with
      | none => some x
      | some b => if x.1 < b.1 then some x else some b) (some a) ≠ none := by
    induction r with
    | nil => exact fun _ => Option.some_ne_none _
    | cons x r ih =>
      intro a
      simp only [List.foldl_cons]
      split <;> exact ih _
  cases l with
  | nil => rfl
  | cons a r => exact absurd h (keeps r a)

theorem fails_eq_nil {i : Nat} {ok : Bool} : fails i ok = [] ↔ ok = true := by cases ok <;> simp [fails]

/-- What has passed the checks of PARTITION_CREATE names a new partition of free tiles (R380). -/
theorem free_of_badPartCreate {s : Sys} {c : Cmd} (h : badPartCreate s c = []) :
    c.partition ≠ 0 ∧ c.p 16 30 ≠ 0 ∧ ∀ p ∈ s.lead.partitions, p.2.tiles &&& c.p 16 30 = 0 := by
  simp only [badPartCreate, List.append_eq_nil_iff, fails_eq_nil, Bool.and_eq_true, decide_eq_true_eq,
    List.all_eq_true] at h
  obtain ⟨⟨hid, -⟩, hmask, hfree⟩ := h
  exact ⟨hid, hmask, hfree⟩

/-- PARTITION_CREATE keeps the partitions apart: what passes its checks is a new partition of free tiles. -/
theorem Sys.partCreate_kept {s : Sys} {h q : Nat} (hs : s.Kept) :
    (s.command h q 0x08 badPartCreate (now_ Sys.runPartCreate)).Kept := by
  unfold Sys.command
  dsimp only
  split
  · exact hs
  split
  · exact hs
  next c _ =>
  have hstart : (s.markStarted h q c.num).Kept := Sys.markStarted_kept _ _ _ _ hs
  split
  · exact Sys.pushReply_kept _ _ _ _ _ hstart
  next hlow =>
  obtain ⟨hid, hmask, hfree⟩ := free_of_badPartCreate (List.append_eq_nil_iff.1 (eq_nil_of_lowestBad hlow)).2
  refine Sys.pushReply_kept _ _ _ _ _ ?_
  by_cases hfull : (s.markStarted h q c.num).lead.partitions.length < 16
  · rw [Sys.runPartCreate_room c hfull]
    exact ⟨hstart.1.put hfull hid hmask hfree, hstart.2⟩
  · rw [Sys.runPartCreate, if_pos (Nat.le_of_not_lt hfull)]
    exact hstart

/-- An opcode's effect keeps the invariant also where the flash fails (R13). -/
theorem flashed_runs_kept (fail : Bool) {f : Sys → Cmd → Reply × Sys} (hf : ∀ u c, Sys.Kept u → (f u c).2.Kept) (u : Sys)
    (c : Cmd) (hu : u.Kept) : (flashed fail f u c).2.Kept := by
  unfold flashed
  exact Kept.ite2 (fun _ => hu) (fun _ => hf u c hu)

/-- An opcode that answers at once keeps the invariant where its effect does. -/
theorem atOnce_runs_kept {f : Sys → Cmd → Reply × Sys} (hf : ∀ u c, Sys.Kept u → (f u c).2.Kept) (u : Sys) (c : Cmd)
    (hu : u.Kept) : (now_ f u c).2.Kept := hf u c hu

/-- Every row of the command table is one effect on the panel, done where the command is well formed, and the effect keeps
the invariant. -/
theorem exec_effect (i : Instr) : ∃ f : Sys → Sys, (∀ s, exec i s = s.act i.wf f) ∧ ∀ y, Sys.Kept y → (f y).Kept := by
  cases i with
  | scalarInstruction t k cc ram => exact ⟨_, exec_scalarInstruction t k cc ram, fun _ h => Sys.onTile_kept (hs := h) ..⟩
  | narrowLoad t k cc f3 rd rs1 imm => exact ⟨_, exec_narrowLoad t k cc f3 rd rs1 imm, fun _ h => Sys.narrowRowAt_kept (hs := h) ..⟩
  | narrowStore t k cc f3 rs2 rs1 imm => exact ⟨_, exec_narrowStore t k cc f3 rs2 rs1 imm, fun _ h => Sys.narrowRowAt_kept (hs := h) ..⟩
  | narrowStoreSend t k => exact ⟨_, exec_narrowStoreSend t k, fun _ h => Sys.onTile_kept (hs := h) ..⟩
  | interruptTaken t k => exact ⟨_, exec_interruptTaken t k, fun _ h => Sys.onTile_kept (hs := h) ..⟩
  | machineTimer t k => exact ⟨_, exec_machineTimer t k, fun _ h => Sys.onTile_kept (hs := h) ..⟩
  | enq t k cc rd rs1 eq => exact ⟨_, exec_enq t k cc rd rs1 eq, fun _ h => Sys.scalarRow_kept (hs := h) ..⟩
  | enql t k cc rd rs1 rs2 eq => exact ⟨_, exec_enql t k cc rd rs1 rs2 eq, fun _ h => Sys.scalarRow_kept (hs := h) ..⟩
  | qfree t k cc rd eq => exact ⟨_, exec_qfree t k cc rd eq, fun _ h => Sys.scalarRow_kept (hs := h) ..⟩
  | tokrd t k cc rd rs1 => exact ⟨_, exec_tokrd t k cc rd rs1, fun _ h => Sys.scalarRow_kept (hs := h) ..⟩
  | tokinc t k cc rs1 rs2 => exact ⟨_, exec_tokinc t k cc rs1 rs2, fun _ h => Sys.scalarRow_kept (hs := h) ..⟩
  | toktry t k cc rd rs1 rs2 => exact ⟨_, exec_toktry t k cc rd rs1 rs2, fun _ h => Sys.scalarRow_kept (hs := h) ..⟩
  | lapidx t k cc rd => exact ⟨_, exec_lapidx t k cc rd, fun _ h => Sys.scalarRow_kept (hs := h) ..⟩
  | sequencerIssue t k => exact ⟨_, exec_sequencerIssue t k, fun _ h => Sys.onTile_kept (hs := h) ..⟩
  | run t k => exact ⟨_, exec_run t k, fun _ h => Sys.onTile_kept (hs := h) ..⟩
  | halt t k => exact ⟨_, exec_halt t k, fun _ h => Sys.onTile_kept (hs := h) ..⟩
  | lapStart t k msg => exact ⟨_, exec_lapStart t k msg, fun _ h => Sys.coreRequest_kept (hs := h) ..⟩
  | lapStop t k msg => exact ⟨_, exec_lapStop t k msg, fun _ h => Sys.coreRequest_kept (hs := h) ..⟩
  | freeze t k msg => exact ⟨_, exec_freeze t k msg, fun _ h => Sys.coreRequest_kept (hs := h) ..⟩
  | thaw t k msg => exact ⟨_, exec_thaw t k msg, fun _ h => Sys.coreRequest_kept (hs := h) ..⟩
  | lapZeroBegin t k => exact ⟨_, exec_lapZeroBegin t k, fun _ h => Sys.onTile_kept (hs := h) ..⟩
  | lapBoundary t k timing => exact ⟨_, exec_lapBoundary t k timing, fun _ h => Sys.settleHold_kept (hs := Sys.onTile_kept (hs := h) ..) ..⟩
  | doorbellHi t k => exact ⟨_, exec_doorbellHi t k, fun _ h => Sys.doorbellHi_kept (hs := h) ..⟩
  | readClear space unit off => exact ⟨_, exec_readClear space unit off, fun _ h => Sys.readClear_kept (hs := h) ..⟩
  | registerWrite space unit off v => exact ⟨_, exec_registerWrite space unit off v, fun _ h => Sys.registerWrite_kept (hs := h) ..⟩
  | tokenDeadlock t k => exact ⟨_, exec_tokenDeadlock t k, fun _ h => Sys.onTile_kept (hs := h) ..⟩
  | mm t k starved => exact ⟨_, exec_mm t k starved, fun _ h => Sys.onTile_kept (hs := h) ..⟩
  | accClear t k => exact ⟨_, exec_accClear t k, fun _ h => Sys.onTile_kept (hs := h) ..⟩
  | accOut t k => exact ⟨_, exec_accOut t k, fun _ h => Sys.onTile_kept (hs := h) ..⟩
  | macroLoad t k => exact ⟨_, exec_macroLoad t k, fun _ h => Sys.onTile_kept (hs := h) ..⟩
  | convert t k starved => exact ⟨_, exec_convert t k starved, fun _ h => Sys.onTile_kept (hs := h) ..⟩
  | binary t k starved => exact ⟨_, exec_binary t k starved, fun _ h => Sys.onTile_kept (hs := h) ..⟩
  | unary t k starved => exact ⟨_, exec_unary t k starved, fun _ h => Sys.onTile_kept (hs := h) ..⟩
  | reduce t k starved => exact ⟨_, exec_reduce t k starved, fun _ h => Sys.onTile_kept (hs := h) ..⟩
  | softmaxStats t k starved => exact ⟨_, exec_softmaxStats t k starved, fun _ h => Sys.onTile_kept (hs := h) ..⟩
  | softmaxApply t k starved => exact ⟨_, exec_softmaxApply t k starved, fun _ h => Sys.onTile_kept (hs := h) ..⟩
  | normStats t k starved => exact ⟨_, exec_normStats t k starved, fun _ h => Sys.onTile_kept (hs := h) ..⟩
  | normApply t k starved => exact ⟨_, exec_normApply t k starved, fun _ h => Sys.onTile_kept (hs := h) ..⟩
  | pool t k starved => exact ⟨_, exec_pool t k starved, fun _ h => Sys.onTile_kept (hs := h) ..⟩
  | transpose t k starved => exact ⟨_, exec_transpose t k starved, fun _ h => Sys.onTile_kept (hs := h) ..⟩
  | gather t k starved => exact ⟨_, exec_gather t k starved, fun _ h => Sys.onTile_kept (hs := h) ..⟩
  | scatter t k starved => exact ⟨_, exec_scatter t k starved, fun _ h => Sys.onTile_kept (hs := h) ..⟩
  | copy t k => exact ⟨_, exec_copy t k, fun _ h => Sys.onTile_kept (hs := h) ..⟩
  | send t k => exact ⟨_, exec_send t k, fun _ h => Sys.onTile_kept (hs := h) ..⟩
  | mcast t k => exact ⟨_, exec_mcast t k, fun _ h => Sys.onTile_kept (hs := h) ..⟩
  | reduceSend t k => exact ⟨_, exec_reduceSend t k, fun _ h => Sys.onTile_kept (hs := h) ..⟩
  | streamSet t k => exact ⟨_, exec_streamSet t k, fun _ h => Sys.onTile_kept (hs := h) ..⟩
  | streamLoop t k => exact ⟨_, exec_streamLoop t k, fun _ h => Sys.onTile_kept (hs := h) ..⟩
  | streamGo t k => exact ⟨_, exec_streamGo t k, fun _ h => Sys.onTile_kept (hs := h) ..⟩
  | streamStop t k => exact ⟨_, exec_streamStop t k, fun _ h => Sys.onTile_kept (hs := h) ..⟩
  | descriptorCompletion t k which => exact ⟨_, exec_descriptorCompletion t k which, fun _ h => Sys.onTile_kept (hs := h) ..⟩
  | streamFetchLap t k st n => exact ⟨_, exec_streamFetchLap t k st n, fun _ h => Sys.onTile_kept (hs := h) ..⟩
  | pacerRowLand t k st f src => exact ⟨_, exec_pacerRowLand t k st f src, fun _ h => Kept.ite (fun _ => Sys.onTile_kept (hs := h) ..) (fun _ => Sys.streamDeliver_kept (hs := h) ..)⟩
  | leapfrogPeriod t est => exact ⟨_, exec_leapfrogPeriod t est, fun _ h => Sys.leapfrogPeriod_kept (hs := h) ..⟩
  | preloadComplete t flips => exact ⟨_, exec_preloadComplete t flips, fun _ h => Sys.onTile_kept (hs := h) ..⟩
  | leapfrogAbandon t => exact ⟨_, exec_leapfrogAbandon t, fun _ h => Sys.onTile_kept (hs := h) ..⟩
  | coreUnitFault t c cause => exact ⟨_, exec_coreUnitFault t c cause, fun _ h => Sys.onTile_kept (hs := h) ..⟩
  | takeoverReady t flips => exact ⟨_, exec_takeoverReady t flips, fun _ h => Sys.onTile_kept (hs := h) ..⟩
  | auditSweep t => exact ⟨_, exec_auditSweep t, fun _ h => Sys.onTile_kept (hs := h) ..⟩
  | macroAudit t flips => exact ⟨_, exec_macroAudit t flips, fun _ h => Sys.onTile_kept (hs := h) ..⟩
  | auditReload t flips => exact ⟨_, exec_auditReload t flips, fun _ h => Sys.onTile_kept (hs := h) ..⟩
  | correctionWriteBack t bank => exact ⟨_, exec_correctionWriteBack t bank, fun _ h => Sys.onTile_kept (hs := h) ..⟩
  | reconstruction t => exact ⟨_, exec_reconstruction t, fun _ h => Sys.onTile_kept (hs := h) ..⟩
  | parityLatchCommit t bank => exact ⟨_, exec_parityLatchCommit t bank, fun _ h => Sys.onTile_kept (hs := h) ..⟩
  | storeFillDone t => exact ⟨_, exec_storeFillDone t, fun _ h => Sys.storeFillDone_kept (hs := h) ..⟩
  | regionReleaseDone t n => exact ⟨_, exec_regionReleaseDone t n, fun _ h => Sys.regionReleaseDone_kept (hs := h) ..⟩
  | scrubPassStart t => exact ⟨_, exec_scrubPassStart t, fun _ h => Sys.onTile_kept (hs := h) ..⟩
  | scrubRead t ups => exact ⟨_, exec_scrubRead t ups, fun _ h => Sys.onTile_kept (hs := h) ..⟩
  | liveRemap t => exact ⟨_, exec_liveRemap t, fun _ h => Sys.onTile_kept (hs := h) ..⟩
  | fieldRowMapUpdate t => exact ⟨_, exec_fieldRowMapUpdate t, fun _ h => Sys.fieldRowMapUpdate_kept (hs := h) ..⟩
  | watchEntryExpiry t bank => exact ⟨_, exec_watchEntryExpiry t bank, fun _ h => Sys.onTile_kept (hs := h) ..⟩
  | tileProtInjectArm t v => exact ⟨_, exec_tileProtInjectArm t v, fun _ h => Sys.onTile_kept (hs := h) ..⟩
  | routerReceive n p bad => exact ⟨_, exec_routerReceive n p bad, fun _ h => Sys.receiveRow_kept (hs := h) ..⟩
  | routerForward n o ecc => exact ⟨_, exec_routerForward n o ecc, fun _ h => Sys.routerForward_kept (hs := h) ..⟩
  | escapeEntry n p c nc => exact ⟨_, exec_escapeEntry n p c nc, fun _ h => Sys.escapeEntry_kept (hs := h) ..⟩
  | controlWord n p good begins => exact ⟨_, exec_controlWord n p good begins, fun _ h => Sys.controlWord_kept (hs := h) ..⟩
  | linkFail n p => exact ⟨_, exec_linkFail n p, fun _ h => Sys.linkFail_kept (hs := h) ..⟩
  | drainCountZero n => exact ⟨_, exec_drainCountZero n, fun _ h => Sys.drainCountZero_kept (hs := h) ..⟩
  | write n src => exact ⟨_, exec_write n src, fun _ h => Sys.writeRow_kept (hs := h) ..⟩
  | shortWrite n => exact ⟨_, exec_shortWrite n, fun _ h => Sys.shortWriteRow_kept (hs := h) ..⟩
  | readReq n => exact ⟨_, exec_readReq n, fun _ h => Sys.readReqRow_kept (hs := h) ..⟩
  | readResp n => exact ⟨_, exec_readResp n, fun _ h => Sys.readRespRow_kept (hs := h) ..⟩
  | controlWrite n => exact ⟨_, exec_controlWrite n, fun _ h => Sys.controlWriteRow_kept (hs := h) ..⟩
  | ack n => exact ⟨_, exec_ack n, fun _ h => Sys.ackRow_kept (hs := h) ..⟩
  | nack n => exact ⟨_, exec_nack n, fun _ h => Sys.nackRow_kept (hs := h) ..⟩
  | reducePacket n p => exact ⟨_, exec_reducePacket n p, fun _ h => Sys.reducePacket_kept (hs := h) ..⟩
  | reduceStall n p nc => exact ⟨_, exec_reduceStall n p nc, fun _ h => Sys.reduceStall_kept (hs := h) ..⟩
  | frameLaunch n k => exact ⟨_, exec_frameLaunch n k, fun _ h => Sys.frameLaunch_kept (hs := h) ..⟩
  | mcastFrame n k sender bad => exact ⟨_, exec_mcastFrame n k sender bad, fun _ h => Sys.mcastFrame_kept (hs := h) ..⟩
  | carriedFrame n k sender bad => exact ⟨_, exec_carriedFrame n k sender bad, fun _ h => Sys.carriedFrame_kept (hs := h) ..⟩
  | relayForward n k => exact ⟨_, exec_relayForward n k, fun _ h => Sys.relayForward_kept (hs := h) ..⟩
  | statusSlot n k good => exact ⟨_, exec_statusSlot n k good, fun _ h => Sys.statusSlot_kept (hs := h) ..⟩
  | retransmission n k => exact ⟨_, exec_retransmission n k, fun _ h => Sys.retransmission_kept (hs := h) ..⟩
  | portAbsent n k => exact ⟨_, exec_portAbsent n k, fun _ h => Sys.portAbsent_kept (hs := h) ..⟩
  | tadpoleForward n o bad => exact ⟨_, exec_tadpoleForward n o bad, fun _ h => Sys.tadpoleForward_kept (hs := h) ..⟩
  | tadpoleRegRead n => exact ⟨_, exec_tadpoleRegRead n, fun _ h => Sys.tadRegRead_kept (hs := h) ..⟩
  | tadpoleRegWrite n => exact ⟨_, exec_tadpoleRegWrite n, fun _ h => Sys.tadRegWrite_kept (hs := h) ..⟩
  | regReply h => exact ⟨_, exec_regReply h, fun _ h => Sys.regReply_kept (hs := h) ..⟩
  | regReplyTimeout h => exact ⟨_, exec_regReplyTimeout h, fun _ h => Sys.regReplyTimeout_kept (hs := h) ..⟩
  | doorbell t => exact ⟨_, exec_doorbell t, fun _ h => Sys.doorbellMsg_kept (hs := h) ..⟩
  | cut t => exact ⟨_, exec_cut t, fun _ h => Sys.ctrlMsg_kept (hs := h) ..⟩
  | ceiling t => exact ⟨_, exec_ceiling t, fun _ h => Sys.ceilingMsg_kept (hs := h) ..⟩
  | issueWindow t wants => exact ⟨_, exec_issueWindow t wants, fun _ h => Sys.onPowered_kept (hs := h) ..⟩
  | notice => exact ⟨_, exec_notice, fun _ h => Sys.notice_kept (hs := h) ..⟩
  | stepEnd => exact ⟨_, exec_stepEnd, fun _ h => Sys.stepEnd_kept (hs := h) ..⟩
  | noticeQueueSend n => exact ⟨_, exec_noticeQueueSend n, fun _ h => Sys.noticeQueueSend_kept (hs := h) ..⟩
  | frame => exact ⟨_, exec_frame, fun _ h => Sys.frame_kept (hs := h) ..⟩
  | frameOverdue j => exact ⟨_, exec_frameOverdue j, fun _ h => Sys.frameOverdue_kept (hs := h) ..⟩
  | epochSwitchStart => exact ⟨_, exec_epochSwitchStart, fun _ h => Sys.epochSwitchStart_kept (hs := h) ..⟩
  | prepare n => exact ⟨_, exec_prepare n, fun _ h => Sys.prepare_kept (hs := h) ..⟩
  | route n => exact ⟨_, exec_route n, fun _ h => Sys.routeMsg_kept (hs := h) ..⟩
  | prepareAck => exact ⟨_, exec_prepareAck, fun _ h => Sys.prepareAck_kept (hs := h) ..⟩
  | prepareAckTimeout n => exact ⟨_, exec_prepareAckTimeout n, fun _ h => Sys.prepareLost_kept (hs := h) ..⟩
  | commit n => exact ⟨_, exec_commit n, fun _ h => Sys.commitMsg_kept (hs := h) ..⟩
  | commitAck => exact ⟨_, exec_commitAck, fun _ h => Sys.commitAcked_kept (hs := h) ..⟩
  | epochDrained => exact ⟨_, exec_epochDrained, fun _ h => Sys.epochDrained_kept (hs := h) ..⟩
  | drainTimeout n => exact ⟨_, exec_drainTimeout n, fun _ h => Sys.drainLost_kept (hs := h) ..⟩
  | retire n => exact ⟨_, exec_retire n, fun _ h => Sys.retireMsg_kept (hs := h) ..⟩
  | groupPurge n => exact ⟨_, exec_groupPurge n, fun _ h => Sys.groupPurge_kept (hs := h) ..⟩
  | invalidate t => exact ⟨_, exec_invalidate t, fun _ h => Sys.invalidateMsg_kept (hs := h) ..⟩
  | invalidateSweepDone t => exact ⟨_, exec_invalidateSweepDone t, fun _ h => Sys.invalidateSweepDone_kept (hs := h) ..⟩
  | invalidateAck => exact ⟨_, exec_invalidateAck, fun _ h => Sys.invalidateAck_kept (hs := h) ..⟩
  | invalidateTimeout t => exact ⟨_, exec_invalidateTimeout t, fun _ h => Sys.invalidateTimeout_kept (hs := h) ..⟩
  | syncBroadcast => exact ⟨_, exec_syncBroadcast, fun _ h => Sys.syncBroadcast_kept (hs := h) ..⟩
  | sync n res => exact ⟨_, exec_sync n res, fun _ h => Sys.sync_kept (hs := h) ..⟩
  | syncMissed t => exact ⟨_, exec_syncMissed t, fun _ h => Sys.syncMissed_kept (hs := h) ..⟩
  | mirrorSlew n => exact ⟨_, exec_mirrorSlew n, fun _ h => Sys.mirrorSlew_kept (hs := h) ..⟩
  | delayReq n p => exact ⟨_, exec_delayReq n p, fun _ h => Sys.delayReq_kept (hs := h) ..⟩
  | delayResp n p trip => exact ⟨_, exec_delayResp n p trip, fun _ h => Sys.delayResp_kept (hs := h) ..⟩
  | neighbourSilent n p => exact ⟨_, exec_neighbourSilent n p, fun _ h => Sys.neighbourSilent_kept (hs := h) ..⟩
  | sendTrackerTimeout t k => exact ⟨_, exec_sendTrackerTimeout t k, fun _ h => Sys.onTile_kept (hs := h) ..⟩
  | controlWriteTimeout t => exact ⟨_, exec_controlWriteTimeout t, fun _ h => Sys.onTile_kept (hs := h) ..⟩
  | tileXferPurge t part => exact ⟨_, exec_tileXferPurge t part, fun _ h => Sys.onTile_kept (hs := h) ..⟩
  | ingestDecode h n => exact ⟨_, exec_ingestDecode h n, fun _ h => Sys.ingestDecode_kept (hs := h) ..⟩
  | itemDelivery h n => exact ⟨_, exec_itemDelivery h n, fun _ h => Sys.itemDelivery_kept (hs := h) ..⟩
  | ethernetFrame e p sub f len => exact ⟨_, exec_ethernetFrame e p sub f len, fun _ h => Sys.ethernetFrame_kept (hs := h) ..⟩
  | egressItem h n => exact ⟨_, exec_egressItem h n, fun _ h => Sys.egressItem_kept (hs := h) ..⟩
  | hubSqTail h q tail mem bad => exact ⟨_, exec_hubSqTail h q tail mem bad, fun _ h => Sys.hostWord_kept (hs := Sys.hostSets_kept (hs := h) ..) ..⟩
  | hubCqHead h q head => exact ⟨_, exec_hubCqHead h q head, fun _ h => Sys.hostWord_kept (hs := h) ..⟩
  | hubQpCtrlEnable h q => exact ⟨_, exec_hubQpCtrlEnable h q, fun _ h => Sys.hostWord_kept (hs := h) ..⟩
  | hubQpCtrlDisable h q => exact ⟨_, exec_hubQpCtrlDisable h q, fun _ h => Sys.hostWord_kept (hs := h) ..⟩
  | commandFetch h => exact ⟨_, exec_commandFetch h, fun _ h => Sys.commandFetch_kept (hs := h) ..⟩
  | replyWrite h q => exact ⟨_, exec_replyWrite h q, fun _ h => Sys.replyRow_kept (hs := h) ..⟩
  | coalesceTimeout h q => exact ⟨_, exec_coalesceTimeout h q, fun _ h => Sys.coalesceTimeout_kept (hs := h) ..⟩
  | hubLinkReset h down => exact ⟨_, exec_hubLinkReset h down, fun _ h => Sys.hubLinkReset_kept (hs := h) ..⟩
  | busMasterClear h => exact ⟨_, exec_busMasterClear h, fun _ h => Sys.busMasterClear_kept (hs := h) ..⟩
  | hubHostBindHi h v => exact ⟨_, exec_hubHostBindHi h v, fun _ h => Sys.hostWord_kept (hs := h) ..⟩
  | hubStreamFreed h n v => exact ⟨_, exec_hubStreamFreed h n v, fun _ h => Sys.hostWord_kept (hs := h) ..⟩
  | nop h q => exact ⟨_, exec_nop h q, fun _ h => Sys.command_kept (hs := h) (hrun := fun _ _ h => h) ..⟩
  | identify h q => exact ⟨_, exec_identify h q, fun _ h => Sys.command_kept (hs := h) (hrun := atOnce_runs_kept Sys.runIdentify_kept) ..⟩
  | getFeature h q => exact ⟨_, exec_getFeature h q, fun _ h => Sys.command_kept (hs := h) (hrun := atOnce_runs_kept Sys.runGetFeature_kept) ..⟩
  | setFeature h q => exact ⟨_, exec_setFeature h q, fun _ h => Sys.command_kept (hs := h) (hrun := atOnce_runs_kept Sys.runSetFeature_kept) ..⟩
  | regRead h q => exact ⟨_, exec_regRead h q, fun _ hy => Sys.command_kept (hs := hy) (hrun := Sys.runRegs_kept h q) ..⟩
  | regWrite h q => exact ⟨_, exec_regWrite h q, fun _ hy => Sys.command_kept (hs := hy) (hrun := Sys.runRegs_kept h q) ..⟩
  | partitionCreate h q => exact ⟨_, exec_partitionCreate h q, fun _ h => Sys.partCreate_kept h⟩
  | partitionDestroy h q => exact ⟨_, exec_partitionDestroy h q, fun _ h => Sys.command_kept (hs := h) (hrun := atOnce_runs_kept Sys.runPartDestroy_kept) ..⟩
  | partitionReset h q => exact ⟨_, exec_partitionReset h q, fun _ hy => Sys.command_kept (hs := hy) (hrun := Sys.runPartReset_kept h q) ..⟩
  | regionDefine h q => exact ⟨_, exec_regionDefine h q, fun _ hy => Sys.command_kept (hs := hy) (hrun := Sys.runRegionDefine_kept h q) ..⟩
  | regionRelease h q => exact ⟨_, exec_regionRelease h q, fun _ hy => Sys.command_kept (hs := hy) (hrun := Sys.runRegionRelease_kept h q) ..⟩
  | storeFill h q => exact ⟨_, exec_storeFill h q, fun _ hy => Sys.command_kept (hs := hy) (hrun := Sys.runStoreFill_kept h q) ..⟩
  | storeWrite h q => exact ⟨_, exec_storeWrite h q, fun _ h => Sys.command_kept (hs := h) (hrun := atOnce_runs_kept Sys.runStoreWrite_kept) ..⟩
  | storeRead h q => exact ⟨_, exec_storeRead h q, fun _ h => Sys.command_kept (hs := h) (hrun := atOnce_runs_kept Sys.runStoreRead_kept) ..⟩
  | weightLoad h q => exact ⟨_, exec_weightLoad h q, fun _ h => Sys.command_kept (hs := h) (hrun := atOnce_runs_kept Sys.runWeightLoad_kept) ..⟩
  | codeLoad h q => exact ⟨_, exec_codeLoad h q, fun _ h => Sys.command_kept (hs := h) (hrun := atOnce_runs_kept Sys.runCodeLoad_kept) ..⟩
  | windowOpen h q => exact ⟨_, exec_windowOpen h q, fun _ h => Sys.command_kept (hs := h) (hrun := atOnce_runs_kept Sys.runWindowOpen_kept) ..⟩
  | windowClose h q => exact ⟨_, exec_windowClose h q, fun _ hy => Sys.command_kept (hs := hy) (hrun := Sys.runWindowClose_kept h q) ..⟩
  | mcastGroupSet h q => exact ⟨_, exec_mcastGroupSet h q, fun _ h => Sys.groupCommand_kept (hs := h) (hrun := atOnce_runs_kept Sys.runMcast_kept) ..⟩
  | rgroupSet h q => exact ⟨_, exec_rgroupSet h q, fun _ h => Sys.groupCommand_kept (hs := h) (hrun := atOnce_runs_kept Sys.runRgroup_kept) ..⟩
  | streamOpen h q => exact ⟨_, exec_streamOpen h q, fun _ h => Sys.command_kept (hs := h) (hrun := atOnce_runs_kept Sys.runStreamOpen_kept) ..⟩
  | streamClose h q => exact ⟨_, exec_streamClose h q, fun _ h => Sys.command_kept (hs := h) (hrun := atOnce_runs_kept Sys.runStreamClose_kept) ..⟩
  | jobStart h q => exact ⟨_, exec_jobStart h q, fun _ hy => Sys.command_kept (hs := hy) (hrun := Sys.runJobStart_kept h q) ..⟩
  | jobFeed h q => exact ⟨_, exec_jobFeed h q, fun _ h => Sys.command_kept (hs := h) (hrun := atOnce_runs_kept Sys.runJobFeed_kept) ..⟩
  | stepCommit h q => exact ⟨_, exec_stepCommit h q, fun _ hy => Sys.command_kept (hs := hy) (hrun := Sys.runStepCommit_kept h q) ..⟩
  | stepReplay h q => exact ⟨_, exec_stepReplay h q, fun _ hy => Sys.command_kept (hs := hy) (hrun := Sys.runStepReplay_kept h q) ..⟩
  | jobStatus h q => exact ⟨_, exec_jobStatus h q, fun _ h => Sys.command_kept (hs := h) (hrun := atOnce_runs_kept Sys.runJobStatus_kept) ..⟩
  | jobStop h q => exact ⟨_, exec_jobStop h q, fun _ hy => Sys.command_kept (hs := hy) (hrun := Sys.runJobStop_kept h q) ..⟩
  | phaseSet h q => exact ⟨_, exec_phaseSet h q, fun _ hy => Sys.command_kept (hs := hy) (hrun := Sys.runPhaseSet_kept h q) ..⟩
  | powerQuery h q => exact ⟨_, exec_powerQuery h q, fun _ h => Sys.command_kept (hs := h) (hrun := atOnce_runs_kept Sys.runPowerQuery_kept) ..⟩
  | healthQuery h q => exact ⟨_, exec_healthQuery h q, fun _ h => Sys.command_kept (hs := h) (hrun := atOnce_runs_kept Sys.runHealthQuery_kept) ..⟩
  | unitShed h q => exact ⟨_, exec_unitShed h q, fun _ hy => Sys.command_kept (hs := hy) (hrun := Sys.runUnitShed_kept h q) ..⟩
  | unitRegrow h q pass => exact ⟨_, exec_unitRegrow h q pass, fun _ h => Sys.command_kept (hs := h) (hrun := atOnce_runs_kept (Sys.runUnitRegrow_kept pass)) ..⟩
  | unitWatchClear h q => exact ⟨_, exec_unitWatchClear h q, fun _ h => Sys.command_kept (hs := h) (hrun := atOnce_runs_kept Sys.runWatchClear_kept) ..⟩
  | logRead h q => exact ⟨_, exec_logRead h q, fun _ h => Sys.command_kept (hs := h) (hrun := atOnce_runs_kept Sys.runLogRead_kept) ..⟩
  | timeSync h q => exact ⟨_, exec_timeSync h q, fun _ h => Sys.command_kept (hs := h) (hrun := atOnce_runs_kept Sys.runTimeSync_kept) ..⟩
  | configRead h q => exact ⟨_, exec_configRead h q, fun _ h => Sys.command_kept (hs := h) (hrun := atOnce_runs_kept (flashed_runs_kept q.fail Sys.runConfigRead_kept)) ..⟩
  | configWrite h q => exact ⟨_, exec_configWrite h q, fun _ h => Sys.command_kept (hs := h) (hrun := atOnce_runs_kept (flashed_runs_kept q.fail Sys.runConfigWrite_kept)) ..⟩
  | firmwareStage h q => exact ⟨_, exec_firmwareStage h q, fun _ h => Sys.command_kept (hs := h) (hrun := atOnce_runs_kept (flashed_runs_kept q.fail Sys.runStage_kept)) ..⟩
  | firmwareActivate h q => exact ⟨_, exec_firmwareActivate h q, fun _ h => Sys.command_kept (hs := h) (hrun := atOnce_runs_kept (flashed_runs_kept q.fail Sys.runActivate_kept)) ..⟩
  | linkQuery h q => exact ⟨_, exec_linkQuery h q, fun _ h => Sys.command_kept (hs := h) (hrun := atOnce_runs_kept Sys.runLinkQuery_kept) ..⟩
  | commitSweepDone j => exact ⟨_, exec_commitSweepDone j, fun _ h => Sys.commitSweepDone_kept (hs := h) ..⟩
  | freezeTimeout t k => exact ⟨_, exec_freezeTimeout t k, fun _ h => Sys.freezeTimeout_kept (hs := h) ..⟩
  | tileRebuild t => exact ⟨_, exec_tileRebuild t, fun _ h => Sys.tileRebuild_kept (hs := h) ..⟩
  | slotReadyTimeout t k => exact ⟨_, exec_slotReadyTimeout t k, fun _ h => Sys.slotReadyTimeout_kept (hs := h) ..⟩
  | drain kind wher sub => exact ⟨_, exec_drain kind wher sub, fun _ h => Sys.drain_kept (hs := h) ..⟩
  | drainLimit kind wher sub => exact ⟨_, exec_drainLimit kind wher sub, fun _ h => Sys.drainLimit_kept (hs := h) ..⟩
  | healthSample => exact ⟨_, exec_healthSample, fun _ h => Sys.healthSample_kept (hs := h) ..⟩
  | healthRingWrite => exact ⟨_, exec_healthRingWrite, fun _ h => Sys.healthRing_kept (hs := h) ..⟩
  | scoreFreezeEnd => exact ⟨_, exec_scoreFreezeEnd, fun _ h => Sys.scoreFreezeEnd_kept (hs := h) ..⟩
  | hubHeartbeat h => exact ⟨_, exec_hubHeartbeat h, fun _ h => Sys.hubHeartbeat_kept (hs := h) ..⟩
  | hubLost h => exact ⟨_, exec_hubLost h, fun _ h => Sys.hubLost_kept (hs := h) ..⟩
  | feedQualify f volts ns => exact ⟨_, exec_feedQualify f volts ns, fun _ h => Sys.feedQualify_kept (hs := h) ..⟩
  | feedDrop f volts ns => exact ⟨_, exec_feedDrop f volts ns, fun _ h => Sys.feedDrop_kept (hs := h) ..⟩
  | ibcFault n => exact ⟨_, exec_ibcFault n, fun _ h => Sys.ibcFault_kept (hs := h) ..⟩
  | domainShort d => exact ⟨_, exec_domainShort d, fun _ h => Sys.domainShort_kept (hs := h) ..⟩
  | pmcAllocate r => exact ⟨_, exec_pmcAllocate r, fun _ h => Sys.pmcAllocate_kept (hs := h) ..⟩
  | tileShort t => exact ⟨_, exec_tileShort t, fun _ h => Sys.tileDown_kept (hs := h) ..⟩
  | thermalTrip t => exact ⟨_, exec_thermalTrip t, fun _ h => Sys.tileDown_kept (hs := h) ..⟩
  | droopAlarm t m sample => exact ⟨_, exec_droopAlarm t m sample, fun _ h => Sys.onPowered_kept (hs := h) ..⟩
  | tileDroopRearm t m sample => exact ⟨_, exec_tileDroopRearm t m sample, fun _ h => Sys.onPowered_kept (hs := h) ..⟩
  | crackStepJudge t qd di dv => exact ⟨_, exec_crackStepJudge t qd di dv, fun _ h => Sys.crackStepJudge_kept (hs := h) ..⟩
  | crackPhaseCheck t phases => exact ⟨_, exec_crackPhaseCheck t phases, fun _ h => Sys.onPowered_kept (hs := h) ..⟩
  | regionPowerUp d => exact ⟨_, exec_regionPowerUp d, fun _ h => Sys.regionPowerUp_kept (hs := h) ..⟩
  | powerupResume => exact ⟨_, exec_powerupResume, fun _ h => Sys.powerupResume_kept (hs := h) ..⟩
  | powerupRelease => exact ⟨_, exec_powerupRelease, fun _ h => Sys.powerupRelease_kept (hs := h) ..⟩
  | currentTrip t amps => exact ⟨_, exec_currentTrip t amps, fun _ h => Sys.onPowered_kept (hs := h) ..⟩
  | tripClear t ns => exact ⟨_, exec_tripClear t ns, fun _ h => Sys.onPowered_kept (hs := h) ..⟩
  | oppGrant => exact ⟨_, exec_oppGrant, fun _ h => Sys.oppGrant_kept (hs := h) ..⟩
  | oppChange j => exact ⟨_, exec_oppChange j, fun _ h => Sys.oppChange_kept (hs := h) ..⟩
  | setPowerCap cap hb => exact ⟨_, exec_setPowerCap cap hb, fun _ h => Sys.setPowerCap_kept (hs := h) ..⟩
  | getPowerReading => exact ⟨_, exec_getPowerReading, fun _ h => Sys.getPowerReading_kept (hs := h) ..⟩
  | heartbeat => exact ⟨_, exec_heartbeat, fun _ h => Sys.heartbeat_kept (hs := h) ..⟩
  | getTid => exact ⟨_, exec_getTid, fun _ h => Sys.pldmBase_kept (hs := h) ..⟩
  | getPldmVersion => exact ⟨_, exec_getPldmVersion, fun _ h => Sys.pldmBase_kept (hs := h) ..⟩
  | getPldmTypes => exact ⟨_, exec_getPldmTypes, fun _ h => Sys.pldmBase_kept (hs := h) ..⟩
  | getPldmCommands => exact ⟨_, exec_getPldmCommands, fun _ h => Sys.pldmBase_kept (hs := h) ..⟩
  | contactLost => exact ⟨_, exec_contactLost, fun _ h => Sys.contactLost_kept (hs := h) ..⟩
  | safeCapEntry => exact ⟨_, exec_safeCapEntry, fun _ h => Sys.safeCapEntry_kept (hs := h) ..⟩
  | coolantSample good inlet outlet flow status sq => exact ⟨_, exec_coolantSample good inlet outlet flow status sq, fun _ h => Sys.coolantSample_kept (hs := h) ..⟩
  | pumpFaultN level => exact ⟨_, exec_pumpFaultN level, fun _ h => Sys.pumpFaultN_kept (hs := h) ..⟩
  | slowFallAlert rise => exact ⟨_, exec_slowFallAlert rise, fun _ h => Sys.slowFallAlert_kept (hs := h) ..⟩
  | heatBalanceCheck => exact ⟨_, exec_heatBalanceCheck, fun _ h => Sys.heatBalance_kept (hs := h) ..⟩
  | tileTempSample t temps rise => exact ⟨_, exec_tileTempSample t temps rise, fun _ h => Sys.onPowered_kept (hs := h) ..⟩
  | thermalLimit t => exact ⟨_, exec_thermalLimit t, fun _ h => Sys.onPowered_kept (hs := h) ..⟩
  | holdRestore => exact ⟨_, exec_holdRestore, fun _ h => Sys.holdRestore_kept (hs := h) ..⟩
  | coolingPowerDown => exact ⟨_, exec_coolingPowerDown, fun _ h => Sys.coolingPowerDown_kept (hs := h) ..⟩
  | coolingPowerRestore => exact ⟨_, exec_coolingPowerRestore, fun _ h => Sys.coolingPowerRestore_kept (hs := h) ..⟩
  | laserSample e las power ok => exact ⟨_, exec_laserSample e las power ok, fun _ h => Sys.laserSample_kept (hs := h) ..⟩
  | linkTraining t p here there => exact ⟨_, exec_linkTraining t p here there, fun _ h => Sys.linkTraining_kept (hs := h) ..⟩
  | retrain t p => exact ⟨_, exec_retrain t p, fun _ h => Sys.retrain_kept (hs := h) ..⟩
  | linkUp t p ns => exact ⟨_, exec_linkUp t p ns, fun _ h => Sys.linkUp_kept (hs := h) ..⟩
  | laneLockLost t p => exact ⟨_, exec_laneLockLost t p, fun _ h => Sys.laneLockLost_kept (hs := h) ..⟩
  | siluaTraining e p lanes partner version => exact ⟨_, exec_siluaTraining e p lanes partner version, fun _ h => Sys.siluaTraining_kept (hs := h) ..⟩
  | cell e p c sym => exact ⟨_, exec_cell e p c sym, fun _ h => Sys.cellIn_kept (hs := h) ..⟩
  | returnMapExpiry e => exact ⟨_, exec_returnMapExpiry e, fun _ h => Sys.returnExpiry_kept (hs := h) ..⟩
  | coldReset => exact ⟨_, exec_coldReset, fun _ h => Sys.coldReset_kept (hs := h) ..⟩
  | bootStep h res => exact ⟨_, exec_bootStep h res, fun _ h => Sys.bootStep_kept (hs := h) ..⟩
  | bootStepTimeout h => exact ⟨_, exec_bootStepTimeout h, fun _ h => Sys.bootStepTimeout_kept (hs := h) ..⟩
  | panelReset h => exact ⟨_, exec_panelReset h, fun _ h => Sys.hostWord_kept (hs := h) ..⟩
  | bootWatchdog h => exact ⟨_, exec_bootWatchdog h, fun _ h => Sys.bootWatchdog_kept (hs := h) ..⟩
  | leadClaim h => exact ⟨_, exec_leadClaim h, fun _ h => Sys.leadClaim_kept (hs := h) ..⟩
  | leadClaimTimeout => exact ⟨_, exec_leadClaimTimeout, fun _ h => Sys.leadClaimTimeout_kept (hs := h) ..⟩
  | hubJoin h => exact ⟨_, exec_hubJoin h, fun _ h => Sys.hubJoin_kept (hs := h) ..⟩
  | hubBootRecoveryGo h => exact ⟨_, exec_hubBootRecoveryGo h, fun _ h => Sys.hostWord_kept (hs := h) ..⟩
  | referenceLoss n => exact ⟨_, exec_referenceLoss n, fun _ h => Sys.referenceLoss_kept (hs := h) ..⟩
  | debugChallenge h => exact ⟨_, exec_debugChallenge h, fun _ h => Sys.debugChallenge_kept (hs := h) ..⟩
  | debugToken h sr st => exact ⟨_, exec_debugToken h sr st, fun _ h => Sys.debugToken_kept (hs := h) ..⟩
  | panelTimeLo h => exact ⟨_, exec_panelTimeLo h, fun _ h => Sys.readClear_kept (hs := h) ..⟩
  | hubEventStatus h v => exact ⟨_, exec_hubEventStatus h v, fun _ h => Sys.hostWord_kept (hs := h) ..⟩
  | hubEventMask h v => exact ⟨_, exec_hubEventMask h v, fun _ h => Sys.hostWord_kept (hs := h) ..⟩
  | hubEventCfg h v => exact ⟨_, exec_hubEventCfg h v, fun _ h => Sys.hostWord_kept (hs := h) ..⟩
  | hubEvent h bit => exact ⟨_, exec_hubEvent h bit, fun _ h => Sys.event_kept (hs := h) ..⟩
  | straightRecalibration n wg => exact ⟨_, exec_straightRecalibration n wg, fun _ h => Sys.recalibration_kept (hs := h) ..⟩
  | replayRewind j => exact ⟨_, exec_replayRewind j, fun _ h => Sys.replayRewind_kept (hs := h) ..⟩
  | pcieLinkTraining h rate width => exact ⟨_, exec_pcieLinkTraining h rate width, fun _ h => Sys.pcieTraining_kept (hs := h) ..⟩
  | msixVectorUnmask h v => exact ⟨_, exec_msixVectorUnmask h v, fun _ h => Sys.msixUnmask_kept (hs := h) ..⟩
  | barAccess h bar off n wr v => exact ⟨_, exec_barAccess h bar off n wr v, fun _ h => Sys.barAccess_kept (hs := h) ..⟩
  | debugAccess h kind a b v => exact ⟨_, exec_debugAccess h kind a b v, fun _ h => Sys.debugAccess_kept (hs := h) ..⟩
  | standbyRailLoss => exact ⟨_, exec_standbyRailLoss, fun _ h => Sys.standbyLoss_kept (hs := h) ..⟩
  | unsupportedPldmCmd code => exact ⟨_, exec_unsupportedPldmCmd code, fun _ h => Sys.pldmOther_kept (hs := h) ..⟩
/-- A command's effect leaves the rest of the queue alone and does not depend on it; an ill-formed one has none. -/
theorem exec_panel (i : Instr) (y : Sys) : ∃ z : Sys, (∀ p, exec i ⟨p, y⟩ = .next ⟨p, z⟩) ∧ (i.wf = false → z = y) := by
  obtain ⟨f, hf, -⟩ := exec_effect i
  cases hw : i.wf with
  | false => exact ⟨y, fun p => by simp [hf, hw], fun _ => rfl⟩
  | true => exact ⟨f y, fun p => by simp [hf, hw], nofun⟩

theorem exec_kept (i : Instr) {s t : State} (hs : s.sys.Kept) (h : exec i s = .next t) : t.sys.Kept := by
  obtain ⟨f, hf, hk⟩ := exec_effect i
  rw [hf] at h
  cases hw : i.wf with
  | false =>
    simp only [hw, State.act_false, Host.Outcome.next.injEq] at h
    exact h ▸ hs
  | true =>
    simp only [hw, State.act_true, Host.Outcome.next.injEq] at h
    exact h ▸ hk _ hs

/-- A run that begins with a command goes on from the panel that its effect leaves. -/
theorem run_cons (n : Nat) (c : Instr) (y : Sys) :
    ∃ z : Sys, ∀ rest, core.run (n + 1) (⟨c :: rest, y⟩ : State) = core.run n (⟨rest, z⟩ : State) := by
  obtain ⟨z, hz, -⟩ := exec_panel c y
  refine ⟨z, fun rest => ?_⟩
  have hstep : core.step (⟨c :: rest, y⟩ : State) = .next (⟨rest, z⟩ : State) := hz rest
  simp only [Host.Core.run, hstep]

/-- Commands that wait are run in order, whatever waits behind them. -/
theorem run_queue (cs : List Instr) (y : Sys) :
    ∃ z : Sys, ∀ rest, core.run cs.length (⟨cs ++ rest, y⟩ : State) = .next (⟨rest, z⟩ : State) := by
  induction cs generalizing y with
  | nil => exact ⟨y, fun _ => rfl⟩
  | cons c cs ih =>
    obtain ⟨y', hy'⟩ := run_cons cs.length c y
    obtain ⟨z, hz⟩ := ih y'
    exact ⟨z, fun rest => (hy' (cs ++ rest)).trans (hz rest)⟩

/-- Settles O1. -/
theorem stepRunsFrontCommand : Obligations.StepRunsFrontCommand := by
  unfold Obligations.StepRunsFrontCommand
  exact ⟨fun _ _ _ => rfl, fun s h => by simp only [step, h]⟩

/-- Settles O2: every row of the command table is one effect on the panel. -/
theorem execKeepsQueue : Obligations.ExecKeepsQueue := by
  unfold Obligations.ExecKeepsQueue
  exact exec_panel

/-- Settles O3, by induction on the commands that were queued. -/
theorem queueRunsInOrder : Obligations.QueueRunsInOrder := by
  unfold Obligations.QueueRunsInOrder
  intro cs rest y
  obtain ⟨z, hz⟩ := run_queue cs y
  exact ⟨z, hz rest, by simpa using hz []⟩

/-- Settles O4: the idle step and every command's effect keep the invariant. -/
theorem partitionsStayDisjoint : Obligations.PartitionsStayDisjoint := by
  unfold Obligations.PartitionsStayDisjoint
  rintro ⟨pending, y⟩ t hk hstep
  cases pending with
  | nil =>
    cases hstep
    exact Sys.idle_kept y hk
  | cons c rest =>
    rw [step_cons] at hstep
    exact exec_kept c (s := ⟨rest, y⟩) hk hstep

/-- Settles O5: a COLD reset lists no tile, no register and no byte, so each reads its default; the two hubs and the
partitions are not listed either. -/
theorem resetState : Obligations.ResetState := by
  unfold Obligations.ResetState
  exact ⟨rfl, Sys.coldState_kept _, rfl, rfl, rfl, rfl, rfl, rfl, fun _ _ => ⟨rfl, rfl⟩,
    fun _ _ _ => ⟨rfl, rfl, rfl, rfl⟩, fun _ _ => rfl, fun _ _ => ⟨rfl, rfl, rfl⟩, fun _ => rfl⟩

end Sys2Proof.Machine
/-! SUPPORT. Laws of a trap (R45, R58): mstatus around it. -/

namespace Sys2Proof.Machine

/-- mstatus in a trap: machine mode, MPIE holding the MIE that was. -/
theorem Scalar.mstatus_trap (c : Scalar) (pc cause tval : Nat) (irq : Bool) :
    (c.trap pc irq cause tval).mstatus.toNat = 0x1800 + 128 * (c.mstatus.toNat / 8 % 2) := by
  simp only [Scalar.trap, bitsOf, BitVec.toNat_ofNat]
  omega

/-- mstatus after mret: MIE holds the MPIE that was. -/
theorem Scalar.mstatus_mret (c : Scalar) : c.mret.mstatus.toNat = 0x1880 + 8 * (c.mstatus.toNat / 128 % 2) := by
  simp only [Scalar.mret, bitsOf, BitVec.toNat_ofNat]
  omega

/-- Settles O8. -/
theorem trapSavesAndReturns : Obligations.TrapSavesAndReturns := by
  unfold Obligations.TrapSavesAndReturns
  intro c pc cause tval irq hpc htval hcause u
  have hmie : u.mstatus.toNat = 0x1800 + 128 * (c.mstatus.toNat / 8 % 2) := Scalar.mstatus_trap ..
  refine ⟨Nat.mod_eq_of_lt hpc, ?cause, Nat.mod_eq_of_lt htval, ?mie, ?mpie, rfl, rfl, ?vector, ?back, Nat.mod_eq_of_lt hpc⟩
  case cause =>
    refine Nat.mod_eq_of_lt ?_
    split <;> omega
  case mie =>
    rw [bitOf, hmie]
    simp only [decide_eq_false_iff_not]
    omega
  case mpie =>
    simp only [bitOf, hmie, decide_eq_decide]
    omega
  case vector =>
    rintro rfl
    simp only [u, Scalar.trap, Bool.false_and, Bool.false_eq_true, if_false, BitVec.toNat_ofNat]
    omega
  case back =>
    simp only [bitOf, Scalar.mstatus_mret, hmie, decide_eq_decide]
    omega

end Sys2Proof.Machine

/-! SUPPORT. What a tile's work leaves unchanged (`SameOutside`): one law per operation that puts a tile back, then every
command of one tile. -/

namespace Sys2Proof.Machine

theorem SameOutside.refl (t : Nat) (a : Sys) : SameOutside t a a :=
  ⟨fun _ _ => rfl, fun _ _ => ⟨rfl, rfl⟩, fun _ _ _ => rfl, rfl⟩

theorem SameOutside.trans {t : Nat} {a b c : Sys} (hab : SameOutside t a b) (hbc : SameOutside t b c) :
    SameOutside t a c := by
  obtain ⟨htile, hnet, hstr, hrest⟩ := hab
  obtain ⟨htile', hnet', hstr', hrest'⟩ := hbc
  refine ⟨fun u hu => (htile' u hu).trans (htile u hu), fun n hn => ?_, fun n h0 h1 => (hstr' n h0 h1).trans (hstr n h0 h1),
    hrest'.trans (by rw [hrest])⟩
  exact ⟨(hnet' n hn).1.trans (hnet n hn).1, (hnet' n hn).2.trans (hnet n hn).2⟩

section Updates
variable (s : Sys) (t : Nat)

theorem Sys.setTile_sameOutside (v : Tile) : SameOutside t s (s.setTile t v) :=
  ⟨fun u hu => s.tile_setTile_other t v u hu, fun _ _ => ⟨rfl, rfl⟩, fun _ _ _ => rfl, rfl⟩

theorem Sys.setRouter_sameOutside (v : Router) : SameOutside t s (s.setRouter t v) :=
  ⟨fun _ _ => rfl, fun n hn => ⟨s.router_setRouter_other t v n hn, rfl⟩, fun _ _ _ => rfl, rfl⟩

theorem Sys.setTad_sameOutside (v : TRouter) : SameOutside t s (s.setTad t v) :=
  ⟨fun _ _ => rfl, fun n hn => ⟨rfl, s.tad_setTad_other t v n hn⟩, fun _ _ _ => rfl, rfl⟩

/-- The straight of either axis of tile `t` is one of its own two. -/
theorem Sys.setStraight_sameOutside (axis : Nat) (v : Straight) :
    SameOutside t s (s.setStraight (straightOf t axis) v) := by
  refine ⟨fun _ _ => rfl, fun _ _ => ⟨rfl, rfl⟩, fun n h0 h1 => s.straight_setStraight_other _ v n ?_, rfl⟩
  by_cases ha : axis = 0
  · rwa [ha]
  · simpa [straightOf, ha] using h1

theorem Sys.scored_sameOutside (kind wher sub ev n : Nat) : SameOutside t s (s.scored kind wher sub ev n) :=
  ⟨fun _ _ => rfl, fun _ _ => ⟨rfl, rfl⟩, fun _ _ _ => rfl, rfl⟩

theorem Sys.queueNotice_sameOutside (urgent : Bool) (code payload : Nat) :
    SameOutside t s (s.queueNotice t urgent code payload) := by
  unfold Sys.queueNotice
  dsimp only
  split
  · split
    · exact (s.setTad_sameOutside t _).trans (Sys.setTile_sameOutside _ t _)
    · exact s.setTad_sameOutside t _
  · exact s.setTad_sameOutside t _

theorem Sys.deliverOut_sameOutside (o : Out) : SameOutside t s (s.deliverOut t o) := by
  cases o with
  | notice u c p => exact s.queueNotice_sameOutside t u c p
  | packet p => exact s.setRouter_sameOutside t _
  | frame axis f => exact s.setStraight_sameOutside t axis _
  | message m => exact s.setTad_sameOutside t _
  | streamGo axis => exact s.setStraight_sameOutside t axis _
  | frameEnd f => exact s.setTad_sameOutside t _
  | scored kind sub ev n => exact s.scored_sameOutside t kind t sub ev n

theorem Sys.putTX_sameOutside (x : TX) : SameOutside t s (s.putTX t x) :=
  List.foldlRecOn x.out (fun (s : Sys) o => s.deliverOut t o) (motive := SameOutside t s)
    (s.setTile_sameOutside t x.tile) fun u hu o _ => hu.trans (u.deliverOut_sameOutside t o)

theorem Sys.onTile_sameOutside (f : TX → TX) : SameOutside t s (s.onTile t f) := by
  unfold Sys.onTile
  split
  · exact s.putTX_sameOutside t _
  · exact .refl t s

theorem Sys.onSlot_sameOutside (k : Nat) (f : TX → TX) : SameOutside t s (s.onSlot t k f) := by
  unfold Sys.onSlot
  split
  · exact s.onTile_sameOutside t f
  · exact .refl t s

theorem Sys.onPowered_sameOutside (f : TX → TX) : SameOutside t s (s.onPowered t f) := by
  unfold Sys.onPowered
  split
  · exact s.onTile_sameOutside t f
  · exact .refl t s

theorem Sys.settleHold_sameOutside : SameOutside t s (s.settleHold t) := by
  unfold Sys.settleHold
  dsimp only
  split
  · exact s.setTile_sameOutside t _
  · exact .refl t s

theorem Sys.leapfrogPeriod_sameOutside (est : List Nat) : SameOutside t s (s.leapfrogPeriod t est) := by
  unfold Sys.leapfrogPeriod
  split
  · exact .refl t s
  · exact s.onTile_sameOutside t _

/-- A message taken comes out of the inbox of the endpoint itself. -/
theorem Sys.takeMsg_sameOutside {f : TMsg → Bool} {m : TMsg} {u : Sys} (h : s.takeMsg t f = some (m, u)) :
    SameOutside t s u := by
  unfold Sys.takeMsg at h
  dsimp only at h
  split at h
  · cases h
  · split at h <;> cases h
    exact s.setTad_sameOutside t _

theorem Sys.ctrlMsg_sameOutside (code : Nat) (f : TX → Nat → TX) : SameOutside t s (s.ctrlMsg t code f) := by
  unfold Sys.ctrlMsg
  split
  · exact .refl t s
  next m u hm =>
  exact List.foldlRecOn _ _ (motive := SameOutside t s) (s.takeMsg_sameOutside t hm) fun y hy k _ =>
    hy.trans (y.onTile_sameOutside t _)

theorem Sys.coreRequest_sameOutside (k : Nat) (msg : Bool) (code : Nat) (f : TX → Nat → TX) :
    SameOutside t s (s.coreRequest t k msg code f) := by
  cases msg with
  | true => exact s.ctrlMsg_sameOutside t code f
  | false => exact s.onSlot_sameOutside t k _

end Updates

/-- Every command of one tile is one effect on the panel, and the effect changes nothing outside that tile. -/
theorem exec_tileEffect {i : Instr} {t : Nat} (h : tileOf i = some t) :
    ∃ f : Sys → Sys, (∀ s, exec i s = s.act i.wf f) ∧ ∀ y, SameOutside t y (f y) := by
  cases i <;> cases h
  case narrowLoad | narrowStore | enq | enql | qfree | tokrd | tokinc | toktry | lapidx =>
    exact ⟨_, fun _ => rfl, fun y => y.onSlot_sameOutside ..⟩
  case lapStart | lapStop | freeze | thaw => exact ⟨_, fun _ => rfl, fun y => y.coreRequest_sameOutside ..⟩
  case lapBoundary => exact ⟨_, fun _ => rfl, fun y => (y.onTile_sameOutside ..).trans (Sys.settleHold_sameOutside ..)⟩
  case leapfrogPeriod => exact ⟨_, fun _ => rfl, fun y => y.leapfrogPeriod_sameOutside ..⟩
  case issueWindow | droopAlarm | tileDroopRearm | crackPhaseCheck | currentTrip | tripClear | tileTempSample
      | thermalLimit =>
    exact ⟨_, fun _ => rfl, fun y => y.onPowered_sameOutside ..⟩
  all_goals exact ⟨_, fun _ => rfl, fun y => y.onTile_sameOutside ..⟩

/-- Settles O6. -/
theorem frameOfTileCommands : Obligations.FrameOfTileCommands := by
  unfold Obligations.FrameOfTileCommands
  intro i t s u hi hu
  obtain ⟨f, hf, hsame⟩ := exec_tileEffect hi
  rw [hf] at hu
  cases hw : i.wf with
  | false =>
    simp only [hw, State.act_false, Host.Outcome.next.injEq] at hu
    exact hu ▸ ⟨rfl, .refl t s.sys⟩
  | true =>
    simp only [hw, State.act_true, Host.Outcome.next.injEq] at hu
    exact hu ▸ ⟨rfl, hsame s.sys⟩

end Sys2Proof.Machine

/-! SUPPORT. Laws of the custom scalar instructions (R147): what each of their words comes to, and what its retirement
leaves of the slot. -/

namespace Sys2Proof.Machine

/-- The slot once `cc` core cycles are counted and WFI is left (R45). -/
def Slot.clocked (v : Slot) (cc : Nat) : Slot :=
  { v with sc := v.sc.clocked cc }

theorem TX.clock_setSlot (x : TX) (k cc : Nat) : x.clock k cc = x.setSlot k ((x.slot k).clocked cc) := x.clock_eq k cc

theorem Queues.get_put (s : Queues) (q : Nat) (l : List QEntry) : (s.put q l).get q = l := by
  simp only [Queues.get, Queues.put]
  by_cases h0 : q = 0
  · simp only [if_pos h0]
  by_cases h1 : q = 1
  · simp only [if_neg h0, if_pos h1]
  by_cases h2 : q = 2
  · simp only [if_neg h0, if_neg h1, if_pos h2]
  · simp only [if_neg h0, if_neg h1, if_neg h2]

/-- One more entry in a queue is one place less (R48). -/
theorem Slot.qfree_push (v : Slot) (q : Nat) (e : QEntry) :
    Slot.qfree { v with queues := v.queues.put q (v.queues.get q ++ [e]) } q = v.qfree q - 1 := by
  simp [Slot.qfree, Queues.get_put, Nat.sub_sub]

theorem TX.narrowDrain_empty (x : TX) (k : Nat) (h : (x.slot k).narrow = []) : x.narrowDrain k = x := by
  simp [TX.narrowDrain, h]

section Words
variable (x : TX) (k pc : Nat) {rd rs1 rs2 eq : Nat} (h1 : rs1 < 32) (h2 : rs2 < 32) (hd : rd < 32) (he : eq < 4)

include hd he in
theorem TX.execCustom_qfree :
    x.execCustom k (encR eq 0 0 2 rd 0x0B) pc = .ok x rd ((x.slot k).qfree eq) (pc + 4) := by
  obtain ⟨hop, hrd, hf3, -, -, hf7⟩ := encR_fields eq 0 0 2 rd 0x0B (by decide) (by decide) (by decide) hd (by decide)
  have hf7' : bitsOf (encR eq 0 0 2 rd 0x0B) 31 25 = eq := by omega
  simp [TX.execCustom, hop, hrd, hf3, hf7', Nat.not_le.mpr he]

include h1 hd in
theorem TX.execCustom_tokrd : x.execCustom k (encR 0 0 rs1 0 rd 0x2B) pc =
    .ok x rd (NMap.get 0 (x.slot k).tokens ((x.slot k).sc.get rs1 % 16)) (pc + 4) := by
  obtain ⟨hop, hrd, hf3, hrs1, -, hf7⟩ := encR_fields 0 0 rs1 0 rd 0x2B (by decide) h1 (by decide) hd (by decide)
  simp [TX.execCustom, hop, hrd, hf3, hf7, hrs1]

include hd in
theorem TX.execCustom_lapidx :
    x.execCustom k (encR 0 0 0 3 rd 0x2B) pc = .ok x rd (x.slot k).lap.index (pc + 4) := by
  obtain ⟨hop, hrd, hf3, -, -, hf7⟩ := encR_fields 0 0 0 3 rd 0x2B (by decide) (by decide) (by decide) hd (by decide)
  simp [TX.execCustom, hop, hrd, hf3, hf7]

include h1 h2 hd in
theorem TX.execCustom_toktry :
    let v := x.slot k
    let tok := v.sc.get rs1 % 16
    let n := v.sc.get rs2 % 256
    x.execCustom k (encR 0 rs2 rs1 2 rd 0x2B) pc =
      if n ≤ NMap.get 0 v.tokens tok then
        .ok (x.setSlot k { v with tokens := NMap.set 0 v.tokens tok (NMap.get 0 v.tokens tok - n) }) rd 1 (pc + 4)
      else .ok x rd 0 (pc + 4) := by
  obtain ⟨hop, hrd, hf3, hrs1, hrs2, hf7⟩ := encR_fields 0 rs2 rs1 2 rd 0x2B h2 h1 (by decide) hd (by decide)
  simp [TX.execCustom, hop, hrd, hf3, hf7, hrs1, hrs2]

include h1 h2 in
theorem TX.execCustom_tokinc :
    let v := x.slot k
    let n := v.sc.get rs2 % 256
    x.execCustom k (encR 0 rs2 rs1 1 0 0x2B) pc =
      .ok (if n = 0 then x else x.tokenInc k (v.sc.get rs1 % 16) n) 0 0 (pc + 4) := by
  obtain ⟨hop, hrd, hf3, hrs1, hrs2, hf7⟩ :=
    encR_fields 0 rs2 rs1 1 0 0x2B h2 h1 (by decide) (by decide) (by decide)
  simp [TX.execCustom, hop, hf3, hf7, hrs1, hrs2]

include h1 hd he in
theorem TX.execCustom_enq : x.execCustom k (encR eq 0 rs1 0 rd 0x0B) pc =
    x.enq k eq rd ((x.slot k).sc.get rs1) (x.slot k).lap.index pc := by
  obtain ⟨hop, hrd, hf3, hrs1, -, hf7⟩ := encR_fields eq 0 rs1 0 rd 0x0B (by decide) h1 (by decide) hd (by decide)
  have hf7' : bitsOf (encR eq 0 rs1 0 rd 0x0B) 31 25 = eq := by omega
  simp [TX.execCustom, hop, hrd, hf3, hf7', hrs1, Nat.not_le.mpr he]

include h1 h2 hd he in
theorem TX.execCustom_enql : x.execCustom k (encR eq rs2 rs1 1 rd 0x0B) pc =
    x.enq k eq rd ((x.slot k).sc.get rs1) ((x.slot k).sc.get rs2) pc := by
  obtain ⟨hop, hrd, hf3, hrs1, hrs2, hf7⟩ := encR_fields eq rs2 rs1 1 rd 0x0B h2 h1 (by decide) hd (by decide)
  have hf7' : bitsOf (encR eq rs2 rs1 1 rd 0x0B) 31 25 = eq := by omega
  simp [TX.execCustom, hop, hrd, hf3, hf7', hrs1, hrs2, Nat.not_le.mpr he]

end Words

/-- A token raised by what it holds room for, on a slot whose core is ready (R49). -/
theorem TX.tokenInc_room (x : TX) (k tok n : Nat) (hs : x.tile.shed = false) (hp : x.tile.preload = none)
    (hn : NMap.get 0 (x.slot k).tokens tok + n ≤ 255) :
    x.tokenInc k tok n = x.setSlot k { x.slot k with
      tokens := NMap.set 0 (x.slot k).tokens tok (NMap.get 0 (x.slot k).tokens tok + n) } := by
  simp [TX.tokenInc, hs, hp, hn, Nat.not_lt.mpr hn]

section Enqueue
variable (x : TX) (k q rd a lap pc : Nat) (hal : a % 32 = 0) (hlo : 0x10000000 ≤ a) (hhi : a < 0x10008000)
  (hnar : (x.slot k).narrow = [])
include hal hlo hhi

theorem TX.enq_malformed {f : Nat} (hd : descCheck ((x.slot k).descAt (a - 0x10000000)) q = some f) :
    x.enq k q rd a lap pc = .trap x 24 a := by
  simp [TX.enq, hal, hd, Nat.not_lt.mpr hlo, Nat.not_le.mpr hhi]

include hnar

theorem TX.enq_full (hd : descCheck ((x.slot k).descAt (a - 0x10000000)) q = none) (hq : (x.slot k).qfree q = 0) :
    x.enq k q rd a lap pc = .stall x := by
  simp [TX.enq, hal, hd, Nat.not_lt.mpr hlo, Nat.not_le.mpr hhi, TX.narrowDrain_empty x k hnar, hq]

/-- A well-formed descriptor joins a queue with room; the result is the room that is left (R50). -/
theorem TX.enq_room (hd : descCheck ((x.slot k).descAt (a - 0x10000000)) q = none) (hq : 0 < (x.slot k).qfree q) :
    let v := x.slot k
    x.enq k q rd a lap pc = .ok (x.setSlot k { v with
      queues := v.queues.put q (v.queues.get q ++ [{ desc := v.descAt (a - 0x10000000), lap := lap }]) })
        rd (v.qfree q - 1) (pc + 4) := by
  simp [TX.enq, hal, hd, Nat.not_lt.mpr hlo, Nat.not_le.mpr hhi, TX.narrowDrain_empty x k hnar, Nat.ne_of_gt hq,
    Slot.qfree_push]

end Enqueue

/-- The major opcodes of the custom words. -/
theorem encR_custom0 (f7 rs2 rs1 f3 rd : Nat) :
    encR f7 rs2 rs1 f3 rd 0x0B % 128 = 0x0B ∨ encR f7 rs2 rs1 f3 rd 0x0B % 128 = 0x2B := by
  left; simp only [encR]; omega
theorem encR_custom1 (f7 rs2 rs1 f3 rd : Nat) :
    encR f7 rs2 rs1 f3 rd 0x2B % 128 = 0x0B ∨ encR f7 rs2 rs1 f3 rd 0x2B % 128 = 0x2B := by
  right; simp only [encR]; omega

section Retired
variable {x : TX} {k cc rd rs1 rs2 eq w : Nat} (hl : (x.slot k).scalarLive = true)
  (h1 : rs1 < 32) (h2 : rs2 < 32) (hd : rd < 32) (he : eq < 4)
include hl

/-- A custom word that comes to a result: the slot `v'` it leaves, its core retired. -/
theorem TX.scalarWord_result (hw : w % 128 = 0x0B ∨ w % 128 = 0x2B) (hp : x.tile.preload = none) {rd val pc : Nat}
    (v' : Slot) (hv : v'.sc = (x.slot k).sc.clocked cc)
    (h : (x.setSlot k ((x.slot k).clocked cc)).execCustom k w (x.slot k).sc.pc.toNat = .ok (x.setSlot k v') rd val pc) :
    x.scalarWord k cc w = x.setSlot k { v' with sc := (x.slot k).sc.after cc rd val pc } := by
  rw [TX.scalarWord_custom x k cc w hl hw, TX.clock_setSlot, h]
  exact TX.retire_after x k cc rd val pc v' hp hv _

include hd he in
theorem TX.scalarWord_qfree (hp : x.tile.preload = none) : x.scalarWord k cc (encR eq 0 0 2 rd 0x0B) = x.setSlot k
    { x.slot k with sc := (x.slot k).sc.after cc rd ((x.slot k).qfree eq) ((x.slot k).sc.pc.toNat + 4) } :=
  TX.scalarWord_result hl (encR_custom0 ..) hp ((x.slot k).clocked cc) rfl
    ((TX.execCustom_qfree _ k _ hd he).trans (by rw [TX.slot_setSlot]; rfl))

include h1 hd in
theorem TX.scalarWord_tokrd (hp : x.tile.preload = none) : x.scalarWord k cc (encR 0 0 rs1 0 rd 0x2B) = x.setSlot k
    { x.slot k with
      sc := (x.slot k).sc.after cc rd (NMap.get 0 (x.slot k).tokens ((x.slot k).sc.get rs1 % 16)) ((x.slot k).sc.pc.toNat + 4) } :=
  TX.scalarWord_result hl (encR_custom1 ..) hp ((x.slot k).clocked cc) rfl
    ((TX.execCustom_tokrd _ k _ h1 hd).trans (by rw [TX.slot_setSlot]; rfl))

include hd in
theorem TX.scalarWord_lapidx (hp : x.tile.preload = none) : x.scalarWord k cc (encR 0 0 0 3 rd 0x2B) = x.setSlot k
    { x.slot k with sc := (x.slot k).sc.after cc rd (x.slot k).lap.index ((x.slot k).sc.pc.toNat + 4) } :=
  TX.scalarWord_result hl (encR_custom1 ..) hp ((x.slot k).clocked cc) rfl
    ((TX.execCustom_lapidx _ k _ hd).trans (by rw [TX.slot_setSlot]; rfl))

section Tokens
variable (hp : x.tile.preload = none) (tok n : Nat) (htok : tok = (x.slot k).sc.get rs1 % 16)
  (hn : n = (x.slot k).sc.get rs2 % 256)
include h1 h2 hp htok hn

include hd in
/-- TOKTRY of a token that holds enough (R147). -/
theorem TX.scalarWord_toktry_taken (hle : n ≤ NMap.get 0 (x.slot k).tokens tok) :
    x.scalarWord k cc (encR 0 rs2 rs1 2 rd 0x2B) = x.setSlot k { x.slot k with
      sc := (x.slot k).sc.after cc rd 1 ((x.slot k).sc.pc.toNat + 4)
      tokens := NMap.set 0 (x.slot k).tokens tok (NMap.get 0 (x.slot k).tokens tok - n) } := by
  subst htok hn
  refine TX.scalarWord_result hl (encR_custom1 ..) hp { (x.slot k).clocked cc with tokens := _ } rfl
    ((TX.execCustom_toktry _ k _ h1 h2 hd).trans ?_)
  rw [TX.slot_setSlot]
  exact (if_pos hle).trans (by rw [TX.setSlot_setSlot]; rfl)

include hd in
theorem TX.scalarWord_toktry_refused (hlt : NMap.get 0 (x.slot k).tokens tok < n) :
    x.scalarWord k cc (encR 0 rs2 rs1 2 rd 0x2B) = x.setSlot k { x.slot k with
      sc := (x.slot k).sc.after cc rd 0 ((x.slot k).sc.pc.toNat + 4) } := by
  subst htok hn
  refine TX.scalarWord_result hl (encR_custom1 ..) hp ((x.slot k).clocked cc) rfl
    ((TX.execCustom_toktry _ k _ h1 h2 hd).trans ?_)
  rw [TX.slot_setSlot]
  exact if_neg (Nat.not_le.mpr hlt)

/-- TOKINC of a token with room for the increment, on a tile that is not shed (R49, R147). -/
theorem TX.scalarWord_tokinc (hs : x.tile.shed = false) (h0 : n ≠ 0) (hroom : NMap.get 0 (x.slot k).tokens tok + n ≤ 255) :
    x.scalarWord k cc (encR 0 rs2 rs1 1 0 0x2B) = x.setSlot k { x.slot k with
      sc := (x.slot k).sc.after cc 0 0 ((x.slot k).sc.pc.toNat + 4)
      tokens := NMap.set 0 (x.slot k).tokens tok (NMap.get 0 (x.slot k).tokens tok + n) } := by
  subst htok hn
  refine TX.scalarWord_result hl (encR_custom1 ..) hp { (x.slot k).clocked cc with tokens := _ } rfl
    ((TX.execCustom_tokinc _ k _ h1 h2).trans ?_)
  have hinc := TX.tokenInc_room (x.setSlot k ((x.slot k).clocked cc)) k ((x.slot k).sc.get rs1 % 16)
    ((x.slot k).sc.get rs2 % 256) hs hp (by rw [TX.slot_setSlot]; exact hroom)
  rw [TX.slot_setSlot, TX.setSlot_setSlot] at hinc
  rw [TX.slot_setSlot]
  exact congrArg (ScalarRes.ok · 0 0 _) ((if_neg h0).trans hinc)

omit htok in
theorem TX.scalarWord_tokinc_zero (h0 : n = 0) : x.scalarWord k cc (encR 0 rs2 rs1 1 0 0x2B) = x.setSlot k
    { x.slot k with sc := (x.slot k).sc.after cc 0 0 ((x.slot k).sc.pc.toNat + 4) } := by
  subst hn
  refine TX.scalarWord_result hl (encR_custom1 ..) hp ((x.slot k).clocked cc) rfl
    ((TX.execCustom_tokinc _ k _ h1 h2).trans ?_)
  rw [TX.slot_setSlot]
  exact congrArg (ScalarRes.ok · 0 0 _) (if_pos h0)

end Tokens

section Enqueue
variable {q a lap : Nat} (hw : w % 128 = 0x0B ∨ w % 128 = 0x2B)
  (henq : ∀ y : TX, (y.slot k).sc.get = (x.slot k).sc.get → (y.slot k).lap = (x.slot k).lap →
    y.execCustom k w (x.slot k).sc.pc.toNat = y.enq k q rd a lap (x.slot k).sc.pc.toNat)
  (hal : a % 32 = 0) (hlo : 0x10000000 ≤ a) (hhi : a < 0x10008000)
include hw henq hal hlo hhi

/-- A word that is ENQ or ENQL of a malformed descriptor traps with DESC_FORMAT (R51, R59). -/
theorem TX.scalarWord_enq_malformed {f : Nat} (hdesc : descCheck ((x.slot k).descAt (a - 0x10000000)) q = some f) :
    x.scalarWord k cc w = x.setSlot k { x.slot k with
      sc := ((x.slot k).sc.clocked cc).trap (x.slot k).sc.pc.toNat false 24 a } := by
  have hy := TX.slot_setSlot x k ((x.slot k).clocked cc)
  rw [TX.scalarWord_custom x k cc w hl hw, TX.clock_setSlot, henq _ (by rw [hy]; rfl) (by rw [hy]; rfl),
    TX.enq_malformed _ _ _ _ _ _ _ hal hlo hhi (by rw [hy]; exact hdesc)]
  simp only [ScalarRes.retire, TX.modSlot, hy, TX.setSlot_setSlot]
  rfl

variable (hnar : (x.slot k).narrow = []) (hdesc : descCheck ((x.slot k).descAt (a - 0x10000000)) q = none)
include hnar hdesc

/-- With a full queue the word does not retire (R50). -/
theorem TX.scalarWord_enq_full (hq : (x.slot k).qfree q = 0) :
    x.scalarWord k cc w = x.setSlot k { x.slot k with sc := (x.slot k).sc.clocked cc } := by
  have hy := TX.slot_setSlot x k ((x.slot k).clocked cc)
  rw [TX.scalarWord_custom x k cc w hl hw, TX.clock_setSlot, henq _ (by rw [hy]; rfl) (by rw [hy]; rfl),
    TX.enq_full _ _ _ _ _ _ _ hal hlo hhi (by rw [hy]; exact hnar) (by rw [hy]; exact hdesc) (by rw [hy]; exact hq)]
  rfl

/-- With room the descriptor is queued, with the lap index asked for (R50). -/
theorem TX.scalarWord_enq_room (hp : x.tile.preload = none) (hq : 0 < (x.slot k).qfree q) :
    let v := x.slot k
    x.scalarWord k cc w = x.setSlot k { v with
      sc := v.sc.after cc rd (v.qfree q - 1) (v.sc.pc.toNat + 4)
      queues := v.queues.put q (v.queues.get q ++ [{ desc := v.descAt (a - 0x10000000), lap := lap }]) } := by
  intro v
  have hy := TX.slot_setSlot x k (v.clocked cc)
  refine TX.scalarWord_result hl hw hp { v.clocked cc with queues := _ } rfl ?_
  rw [henq _ (by rw [hy]; rfl) (by rw [hy]; rfl),
    TX.enq_room _ _ _ _ _ _ _ hal hlo hhi (by rw [hy]; exact hnar) (by rw [hy]; exact hdesc) (by rw [hy]; exact hq), hy,
    TX.setSlot_setSlot]
  rfl

end Enqueue
end Retired

/-- A custom instruction whose word leaves the tile with one slot replaced. -/
theorem State.exec_scalarRow_slot {i : Instr} {s : State} {t k cc w : Nat} {v : Slot} (ht : t < 256) (hk : k < 16)
    (hi : exec i s = s.act i.wf (fun y => y.scalarRow t k cc w)) (hwf : i.wf = true)
    (h : (s.sys.tx t).scalarWord k cc w = (s.sys.tx t).setSlot k v) : exec i s = .next (s.withSlot t k v) := by
  rw [hi, hwf, State.act_true, Sys.scalarRow, Sys.onSlot, if_pos hk]
  exact congrArg _ (s.onTile_slot t k _ v ht h)

/-- Settles O7: each word's law, put back into the panel. -/
theorem customScalarInstructions : Obligations.CustomScalarInstructions := by
  unfold Obligations.CustomScalarInstructions
  intro s t k cc rd rs1 rs2 eq ht hk hcc hd h1 h2 he hlive hpre hshed v pc tok n have_
  have hcc' : cc < 4294967296 := hcc
  obtain ⟨wqfree, wtokrd, wlapidx, wtoktry, wtokinc, wenq, wenql⟩ :
      (Instr.qfree t k cc rd eq).wf = true ∧ (Instr.tokrd t k cc rd rs1).wf = true ∧ (Instr.lapidx t k cc rd).wf = true ∧
      (Instr.toktry t k cc rd rs1 rs2).wf = true ∧ (Instr.tokinc t k cc rs1 rs2).wf = true ∧
      (Instr.enq t k cc rd rs1 eq).wf = true ∧ (Instr.enql t k cc rd rs1 rs2 eq).wf = true := by
    simp [Instr.wf, isTile, isSlot, isReg, isQueue, *]
  have row {i : Instr} {w : Nat} {v' : Slot} :=
    State.exec_scalarRow_slot (i := i) (s := s) (cc := cc) (w := w) (v := v') ht hk
  refine ⟨row (exec_qfree ..) wqfree (TX.scalarWord_qfree hlive hd he hpre),
    row (exec_tokrd ..) wtokrd (TX.scalarWord_tokrd hlive h1 hd hpre),
    row (exec_lapidx ..) wlapidx (TX.scalarWord_lapidx hlive hd hpre),
    fun hn => row (exec_toktry ..) wtoktry (TX.scalarWord_toktry_taken hlive h1 h2 hd hpre tok n rfl rfl hn),
    fun hn => row (exec_toktry ..) wtoktry (TX.scalarWord_toktry_refused hlive h1 h2 hd hpre tok n rfl rfl hn),
    fun hn hroom => row (exec_tokinc ..) wtokinc (TX.scalarWord_tokinc hlive h1 h2 hpre tok n rfl rfl hshed hn hroom),
    fun hn => row (exec_tokinc ..) wtokinc (TX.scalarWord_tokinc_zero hlive h1 h2 hpre n rfl hn), fun hnar => ?_⟩
  intro a d late hal hlo hhi
  have enq (y : TX) (hg : (y.slot k).sc.get = v.sc.get) (hlap : (y.slot k).lap = v.lap) :=
    (TX.execCustom_enq y k v.sc.pc.toNat h1 hd he).trans (by rw [hg, hlap])
  have enql (y : TX) (hg : (y.slot k).sc.get = v.sc.get) (_ : (y.slot k).lap = v.lap) :=
    (TX.execCustom_enql y k v.sc.pc.toNat h1 h2 hd he).trans (by rw [hg])
  refine ⟨fun hdesc hq => ⟨?_, ?_⟩, fun hdesc hq => ⟨?_, ?_⟩, fun f hdesc => ⟨?_, ?_⟩⟩
  · exact row (exec_enq ..) wenq (TX.scalarWord_enq_room hlive (encR_custom0 ..) enq hal hlo hhi hnar hdesc hpre hq)
  · exact row (exec_enql ..) wenql (TX.scalarWord_enq_room hlive (encR_custom0 ..) enql hal hlo hhi hnar hdesc hpre hq)
  · exact row (exec_enq ..) wenq (TX.scalarWord_enq_full hlive (encR_custom0 ..) enq hal hlo hhi hnar hdesc hq)
  · exact row (exec_enql ..) wenql (TX.scalarWord_enq_full hlive (encR_custom0 ..) enql hal hlo hhi hnar hdesc hq)
  · exact row (exec_enq ..) wenq (TX.scalarWord_enq_malformed hlive (encR_custom0 ..) enq hal hlo hhi hdesc)
  · exact row (exec_enql ..) wenql (TX.scalarWord_enq_malformed hlive (encR_custom0 ..) enql hal hlo hhi hdesc)

end Sys2Proof.Machine

/-! SUPPORT. Laws of a command that one tile does, and of run control and the lap requests (R52, R56, R58, R60, R208,
R565): what each leaves of its slot. -/

namespace Sys2Proof.Machine

/-- The bits of a power of two. -/
theorem bitOf_two_pow (k i : Nat) : bitOf (2 ^ k) i = decide (k = i) := by
  rw [bitOf_eq_testBit, Nat.testBit_two_pow]

theorem setBits_two_pow {k n : Nat} (hk : k < n) : setBits (2 ^ k) n = [k] := by
  simp only [setBits, bitOf_two_pow]
  induction n with
  | zero => omega
  | succ n ih =>
    rw [List.range_succ, List.filter_append]
    by_cases hn : k = n
    · subst hn
      have hnone : (List.range k).filter (fun i => decide (k = i)) = [] := by
        simp only [List.filter_eq_nil_iff, List.mem_range, decide_eq_true_eq]
        omega
      simp [hnone]
    · simp [ih (by omega), hn]

section TileCommand
variable {i : Instr} {s : State} {t : Nat} {f : TX → TX} (hi : exec i s = s.act i.wf (fun y => y.onTile t f))
  (hwf : i.wf = true) (ht : t < 256)
include hi hwf ht

/-- A command of a tile is what the tile does, put back into the panel. -/
theorem State.exec_tileDid : exec i s = .next (s.tileDid t (f (s.sys.tx t))) := by
  rw [hi, hwf, State.act_true, Sys.onTile, if_pos ht]
  rfl

theorem State.exec_quiet (ho : (f (s.sys.tx t)).out = []) : exec i s = .next (s.withTile t (f (s.sys.tx t)).tile) := by
  rw [State.exec_tileDid hi hwf ht, State.tileDid_quiet _ _ _ ho]

theorem State.exec_slot {k : Nat} {v : Slot} (h : f (s.sys.tx t) = (s.sys.tx t).setSlot k v) :
    exec i s = .next (s.withSlot t k v) := by
  rw [State.exec_quiet hi hwf ht (by rw [h]; rfl), h]
  rfl

/-- A command that leaves one slot changed and sends one notice. -/
theorem State.exec_slot_note {k : Nat} {v : Slot} {u : Bool} {code kind wher sub detail : Nat}
    (h : f (s.sys.tx t) = ((s.sys.tx t).setSlot k v).note u code kind wher sub detail) :
    exec i s = .next ((s.withSlot t k v).noticed t u code (noticeWord kind wher sub detail)) := by
  rw [State.exec_tileDid hi hwf ht, h, State.tileDid_note _ _ _ _ _ _ _ _ _ (by rfl)]
  rfl

end TileCommand

/-- The first message of an inbox, where it is of the kind asked for. -/
theorem Sys.takeMsg_head {s : Sys} {n : Nat} {f : TMsg → Bool} {m : TMsg} (h : (s.tad n).inbox.head? = some m)
    (hf : f m = true) : s.takeMsg n f = some (m, s.setTad n { s.tad n with inbox := (s.tad n).inbox.drop 1 }) := by
  obtain ⟨rest, hr⟩ := List.head?_eq_some_iff.1 h
  simp [Sys.takeMsg, hr, List.findIdx?_cons, hf, listDrop]

theorem TX.tryHandover_out (x : TX) (k : Nat) : (x.tryHandover k).out = x.out := by
  unfold TX.tryHandover
  dsimp only
  repeat' split
  all_goals rfl

theorem TX.instantHandover_out (x : TX) (k : Nat) : (x.instantHandover k).out = x.out := by
  unfold TX.instantHandover
  split
  · rfl
  · exact x.tryHandover_out k

section Run
variable {x : TX} {k : Nat}

theorem TX.interruptTaken_top {i : Nat} (hl : (x.slot k).scalarLive = true)
    (hm : bitOf (x.slot k).sc.mstatus.toNat 3 = true) (ht : topInterrupt (x.slot k).pendEnabled = some i) :
    x.interruptTaken k = x.setSlot k { x.slot k with sc := (x.slot k).sc.trap (x.slot k).sc.pc.toNat true i 0 } := by
  simp [TX.interruptTaken, hl, hm, ht]

theorem TX.machineTimer_due (h : (x.slot k).reg 0x30 + 2 ^ 32 * (x.slot k).reg 0x34 ≤ x.now) :
    x.machineTimer k = x.setSlot k { x.slot k with sc := { (x.slot k).sc with timerPend := true } } := if_pos h

theorem TX.runCore_halted (hs : (x.slot k).state = .halted) (hh : (x.slot k).sc.halted = true) :
    x.runCore k = x.setSlot k { x.slot k with
      state := .scalar, sc := { (x.slot k).sc with halted := false, pc := 0, wfi := false } } := by
  simp [TX.runCore, hs, hh]

theorem TX.haltCore_scalar (hs : (x.slot k).state = .scalar) (hp : x.tile.preload = none) :
    x.haltCore k = x.setSlot k { x.slot k with
      state := .halted, sc := { (x.slot k).sc with halted := true, wfi := false } } := by
  simp [TX.haltCore, hs, TX.tryHandover_none _ _ (show (x.setSlot k _).tile.preload = none from hp)]

end Run

/-- Settles O11. -/
theorem interruptTimerRunHalt : Obligations.InterruptTimerRunHalt := by
  unfold Obligations.InterruptTimerRunHalt
  intro s t k ht hk hpre v
  refine ⟨fun i hl hm hi => ?taken, fun h => ?timer, fun hs hh => ?run, fun hs => ?halt⟩
  case taken =>
    exact State.exec_slot (exec_interruptTaken t k s) (by simp [Instr.wf, isTile, isSlot, ht, hk]) ht
      (TX.interruptTaken_top hl hm hi)
  case timer =>
    exact State.exec_slot (exec_machineTimer t k s) (by simp [Instr.wf, isTile, isSlot, ht, hk]) ht
      (TX.machineTimer_due h)
  case run =>
    exact State.exec_slot (exec_run t k s) (by simp [Instr.wf, isTile, isSlot, ht, hk]) ht (TX.runCore_halted hs hh)
  case halt =>
    exact State.exec_slot (exec_halt t k s) (by simp [Instr.wf, isTile, isSlot, ht, hk]) ht
      (TX.haltCore_scalar hs hpre)

section Requests
variable {x : TX} {k : Nat}

/-- The fault that a slot shows has no part in which descriptor of its program fails first. -/
theorem Slot.firstInvalid_clearFault (v : Slot) (n i : Nat) :
    Slot.firstInvalid { v with fault := .none, faultEngine := 0, faultDesc := 0, faultField := 0 } n i =
      v.firstInvalid n i := by
  induction n generalizing i with
  | zero => rfl
  | succ n ih =>
    simp only [Slot.firstInvalid, ih]
    rfl

/-- An accepted LAP_START whose program has no invalid descriptor and loads no Macro (R52). -/
theorem TX.lapStart_accepted (hs : (x.slot k).state = .scalar ∨ (x.slot k).state = .halted)
    (hv : bitOf (x.source k) 6 = true) (hok : (x.slot k).lapOk = true) (hr : (x.slot k).reg 0x10 ≠ 0)
    (hfi : (x.slot k).firstInvalid (x.slot k).lapLen 0 = none) (hld : (x.slot k).programLoads = false) :
    let v := x.slot k
    let runs := v.reg 0x10
    (x.lapStart k).2 = x.setSlot k { v with
      fault := .none, faultEngine := 0, faultDesc := 0, faultField := 0, state := .lapRunning
      lap := { index := 0, next := 0, runsLeft := if runs = 0xFFFFFFFF then none else some runs
               baseline := (List.range 16).map (fun i => NMap.get 0 v.tokens i), begun := false, waitStart := true
               startAt := x.lapStartTime k, bubbleRate := v.lap.bubbleRate, frameLaps := v.lap.frameLaps
               stepLaps := v.lap.stepLaps, boundaries := v.lap.boundaries } } := by
  intro v runs
  have hpass : ((decide (v.state = .scalar) || decide (v.state = .halted)) && bitOf (x.source k) 6 && v.lapOk) = true := by
    rcases hs with hs | hs <;> simp [v, hs, hv, hok]
  have hruns : Slot.reg { v with fault := .none, faultEngine := 0, faultDesc := 0, faultField := 0 } 0x10 = runs := rfl
  have hvalid : Slot.firstInvalid { v with fault := .none, faultEngine := 0, faultDesc := 0, faultField := 0 }
      (Slot.lapLen { v with fault := .none, faultEngine := 0, faultDesc := 0, faultField := 0 }) 0 = none :=
    (v.firstInvalid_clearFault v.lapLen 0).trans hfi
  have hloads : Slot.programLoads { v with fault := .none, faultEngine := 0, faultDesc := 0, faultField := 0 } = false :=
    hld
  simp only [TX.lapStart, v, if_pos hpass, hruns, if_neg (show runs ≠ 0 from hr), hvalid, hloads, Bool.false_eq_true, if_false]

theorem TX.lapStop_running (hs : (x.slot k).state = .lapRunning) :
    x.lapStop k = x.setSlot k { x.slot k with lap := { (x.slot k).lap with stopPend := true } } := if_pos hs

theorem TX.lapStop_frozen (hs : (x.slot k).state = .lapFrozen) :
    x.lapStop k = (x.setSlot k { x.slot k with
      state := .scalar, lap := { (x.slot k).lap with waitStart := false, begun := false } }).instantHandover k := by
  simp [TX.lapStop, hs]

theorem TX.freeze_running (hs : (x.slot k).state = .lapRunning) :
    x.freeze k = x.setSlot k { x.slot k with lap := { (x.slot k).lap with freezePend := true } } := if_pos hs

theorem TX.thaw_frozen (hs : (x.slot k).state = .lapFrozen) :
    x.thaw k = x.setSlot k { x.slot k with
      state := .lapRunning
      lap := { (x.slot k).lap with begun := false, waitStart := true, startAt := x.lapStartTime k, next := 0
                                   cutAt := none, freezePend := false, stopPend := false } } := if_pos hs

theorem TX.cut_running (hs : (x.slot k).state = .lapRunning) :
    let v := x.slot k
    x.cut k = x.setSlot k (Slot.irq { v with
      state := .lapFrozen, queues := {}, eng := {}
      streams := v.streams.map (fun p =>
        if p.2.state = .running then (p.1, { p.2 with state := .halted, savedLap := p.2.fetchLap }) else p)
      macros := v.macros.map (fun p => (p.1, p.2.stopLoad))
      lap := { v.lap with begun := false, waitStart := false, freezePend := false, stopPend := false
                          bubbles := 0, cutAt := some v.lap.index } } irqFreeze) := if_pos hs

/-- The lap a start or a thaw waits for begins, with the bubble laps due before it (R208, R461). -/
theorem TX.lapZeroBegin_due (hs : (x.slot k).state = .lapRunning) (hw : (x.slot k).lap.waitStart = true)
    (hnow : (x.slot k).lap.startAt ≤ x.now) (hp : x.tile.preload = none) :
    let v := x.slot k
    let b := x.bubbleRateAt k v.lap.index
    let n := bubblesBefore b v.lap.index
    x.lapZeroBegin k = x.setSlot k { v with
      lap := { v.lap with waitStart := false, next := 0, bubbleRate := b, bubbles := n, begun := decide (n = 0) } } := by
  intro v b n
  have hquiet (w : Slot) : (x.setSlot k w).tryHandover k = x.setSlot k w := TX.tryHandover_none _ _ hp
  simp [TX.lapZeroBegin, hs, hw, hnow, TX.enterBubbles, TX.bubbleRateAt, hquiet, TX.modSlot, v, b, n]

end Requests

section Messages
variable {s : State} {t k : Nat}

/-- A request made through TILE_CORE_CTRL. -/
theorem State.act_coreRequest_direct (hk : k < 16) (code : Nat) (f : TX → Nat → TX) (ok : Bool) :
    s.act ok (fun y => y.coreRequest t k false code f) = s.act ok (fun y => y.onTile t (fun x => f x k)) := by
  simp [State.act, Sys.coreRequest, Sys.onSlot, hk]

/-- A CORE_CTRL message that names slot `k` alone is taken, and the slot does what it asks (R285). -/
theorem Sys.ctrlMsg_one {code : Nat} {m : TMsg} (hk : k < 16) (hm : s.mail t = some m) (hty : m.type = 9)
    (hone : bitsOf m.payload 15 0 = 2 ^ k) (hcode : bitsOf m.payload 18 16 = code) (f : TX → Nat → TX) :
    s.sys.ctrlMsg t code f = (s.mailTaken t).sys.onTile t (fun x => f x k) := by
  have htake := Sys.takeMsg_head (s := s.sys) (n := t) (m := m)
    (f := fun m => decide (m.type = 9) && decide (bitsOf m.payload 18 16 = code)) hm (by simp [hty, hcode])
  simp only [Sys.ctrlMsg, htake, hone, setBits_two_pow hk, List.foldl_cons, List.foldl_nil]
  rfl

/-- Such a message has the effect of the request made directly on the state in which it is taken. -/
theorem State.act_coreRequest_message {j code : Nat} {m : TMsg} (hk : k < 16) (hm : s.mail t = some m)
    (hty : m.type = 9) (hone : bitsOf m.payload 15 0 = 2 ^ k) (hcode : bitsOf m.payload 18 16 = code)
    (f : TX → Nat → TX) :
    s.act true (fun y => y.coreRequest t j true code f) =
      (s.mailTaken t).act true (fun y => y.coreRequest t k false code f) := by
  rw [State.act_coreRequest_direct hk]
  exact congrArg (fun y => Host.Outcome.next { s with sys := y }) (Sys.ctrlMsg_one hk hm hty hone hcode f)

end Messages

/-- Settles O12: each request's law; a message that names one slot is the request made of it. -/
theorem lapRequestsTakeEffect : Obligations.LapRequestsTakeEffect := by
  unfold Obligations.LapRequestsTakeEffect
  refine ⟨fun s t k ht hk => ?_, fun s t k j m ht hk hj hm hty hone => ?_⟩
  · intro v x runs
    have direct {i : Instr} {code : Nat} {f : TX → Nat → TX}
        (hi : exec i s = s.act i.wf (fun y => y.coreRequest t k false code f)) :=
      hi.trans (State.act_coreRequest_direct hk code f i.wf)
    have hwf : isTile t = true ∧ isSlot k = true := by simp [isTile, isSlot, ht, hk]
    refine ⟨fun hs hv hok hr hfi hld => ?start, fun hs => ?stop, fun hs => ?stopFrozen, fun hs => ?freeze,
      fun hs => ?thaw, fun hs hw hnow hp => ?begin⟩
    case start =>
      exact State.exec_slot (direct (exec_lapStart t k false s)) (by simp [Instr.wf, hwf]) ht
        (TX.lapStart_accepted hs hv hok hr hfi hld)
    case stop =>
      exact State.exec_slot (direct (exec_lapStop t k false s)) (by simp [Instr.wf, hwf]) ht (TX.lapStop_running hs)
    case stopFrozen =>
      have hstop := TX.lapStop_frozen (x := x) (k := k) hs
      rw [State.exec_quiet (direct (exec_lapStop t k false s)) (by simp [Instr.wf, hwf]) ht
        (by rw [hstop, TX.instantHandover_out]; rfl), hstop]
      rfl
    case freeze =>
      exact State.exec_slot (direct (exec_freeze t k false s)) (by simp [Instr.wf, hwf]) ht (TX.freeze_running hs)
    case thaw =>
      exact State.exec_slot (direct (exec_thaw t k false s)) (by simp [Instr.wf, hwf]) ht (TX.thaw_frozen hs)
    case begin =>
      exact State.exec_slot (exec_lapZeroBegin t k s) (by simp [Instr.wf, hwf]) ht (TX.lapZeroBegin_due hs hw hnow hp)
  · intro v
    have hwf : isTile t = true ∧ isSlot k = true ∧ isSlot j = true := by simp [isTile, isSlot, ht, hk, hj]
    have same {i i' : Instr} {code : Nat} {f : TX → Nat → TX} (hcode : bitsOf m.payload 18 16 = code)
        (hw : i.wf = true) (hw' : i'.wf = true)
        (hi : exec i s = s.act i.wf (fun y => y.coreRequest t j true code f))
        (hi' : exec i' (s.mailTaken t) = (s.mailTaken t).act i'.wf (fun y => y.coreRequest t k false code f)) :
        exec i s = exec i' (s.mailTaken t) := by
      rw [hi, hi', hw, hw']
      exact State.act_coreRequest_message hk hm hty hone hcode f
    refine ⟨fun hc => same hc (by simp [Instr.wf, hwf]) (by simp [Instr.wf, hwf]) (exec_lapStart t j true s) (exec_lapStart ..),
      fun hc => same hc (by simp [Instr.wf, hwf]) (by simp [Instr.wf, hwf]) (exec_lapStop t j true s) (exec_lapStop ..),
      fun hc => same hc (by simp [Instr.wf, hwf]) (by simp [Instr.wf, hwf]) (exec_freeze t j true s) (exec_freeze ..),
      fun hc => same hc (by simp [Instr.wf, hwf]) (by simp [Instr.wf, hwf]) (exec_thaw t j true s) (exec_thaw ..),
      fun hc hs => ?_⟩
    have hcut := TX.cut_running (x := (s.mailTaken t).sys.tx t) (k := k) hs
    rw [exec_cut, show (Instr.cut t).wf = true by simp [Instr.wf, hwf], State.act_true,
      Sys.ctrlMsg_one hk hm hty hone hc]
    exact congrArg _ ((s.mailTaken t).onTile_slot t k _ _ ht hcut)

end Sys2Proof.Machine

/-! SUPPORT. Laws of the lap sequencer's issue, of a descriptor's completion and of token deadlock (R49, R50, R52, R149);
then of doorbells and direct register accesses (R7, R60, R61, R293), and of one accumulated term (R79–R83). -/

namespace Sys2Proof.Machine

section Sequencer
variable {x : TX} {k : Nat}

/-- The next descriptor of a lap's program joins its queue, where that has room (R50, R52). -/
theorem TX.sequencerIssue_room (hs : (x.slot k).state = .lapRunning) (hb : (x.slot k).lap.begun = true)
    (hn : (x.slot k).lap.next < (x.slot k).lapLen)
    (hq : 0 < (x.slot k).qfree (descEngine ((x.slot k).descAt (32 * ((x.slot k).lapBase + (x.slot k).lap.next))))) :
    let v := x.slot k
    let d := v.descAt (32 * (v.lapBase + v.lap.next))
    let q := descEngine d
    x.sequencerIssue k = x.setSlot k { v with
      queues := v.queues.put q (v.queues.get q ++ [{ desc := d, lap := v.lap.index, seq := true, idx := v.lap.next }])
      lap := { v.lap with next := v.lap.next + 1 } } := by
  simp [TX.sequencerIssue, hs, hb, hn, Nat.ne_of_gt hq]

/-- A vector descriptor that holds no staging slot completes: ENGINE_EVENT pends and its token is raised (R49). -/
theorem TX.vectorDone_signal {r : Running} {tok : Nat} (hr : (x.slot k).eng.vector = some r) (hrel : r.release = [])
    (hirq : descIrq r.q.desc = true) (hsig : descSignal r.q.desc = some tok)
    (htok : NMap.get 0 (x.slot k).tokens tok < 255) (hp : x.tile.preload = none) (hshed : x.tile.shed = false) :
    let v := x.slot k
    x.vectorDone k = x.setSlot k { v.irq irqEngineEvent with
      eng := { v.eng with vector := none }, tokens := NMap.set 0 v.tokens tok (NMap.get 0 v.tokens tok + 1) } := by
  intro v
  let w : Slot := Slot.irq { v with eng := { v.eng with vector := none } } irqEngineEvent
  have hinc := TX.tokenInc_room (x.setSlot k w) k tok 1 hshed hp (by rw [TX.slot_setSlot]; exact htok)
  have hquiet := fun u => TX.instantHandover_none (x.setSlot k u) k hp
  rw [TX.slot_setSlot, TX.setSlot_setSlot] at hinc
  simp only [TX.vectorDone, hr, TX.finish, hrel, List.foldl_nil, hirq, if_true, hsig, TX.modSlot, TX.slot_setSlot,
    TX.setSlot_setSlot]
  exact (congrArg (fun y : TX => y.instantHandover k) hinc).trans (hquiet _)

/-- Token deadlock of a running lap whose program is all issued ends in LAP_FAULT (R63, R149). -/
theorem TX.tokenDeadlock_issued (hs : (x.slot k).state = .lapRunning) (htok : x.onlyTokens k = true)
    (heng : (x.slot k).eng = {}) (hh : (x.slot k).sc.halted = true) (hn : (x.slot k).lapLen ≤ (x.slot k).lap.next) :
    let v := x.slot k
    x.tokenDeadlock k = (x.setSlot k (Slot.irq { v with
      state := .lapFault, fault := .tokenDeadlock, faultEngine := 0, faultDesc := 0, faultField := 0, queues := {}
      lap := { v.lap with waitStart := false, stopPend := false, freezePend := false } } irqLapFault)).note true
        ncProgramFault 0 (x.slotEid k) 0 7 := by
  intro v
  have hfault : x.tokenDeadlock k = x.lapFault k .tokenDeadlock 0 0 0 := by
    simp [TX.tokenDeadlock, htok, heng, hh, hn]
  rw [hfault, TX.lapFault_running _ _ _ _ _ _ hs]
  rfl

end Sequencer

/-- Settles O14. -/
theorem issueCompletionDeadlock : Obligations.IssueCompletionDeadlock := by
  unfold Obligations.IssueCompletionDeadlock
  intro s t k ht hk hp hshed v d q
  have hwf : isTile t = true ∧ isSlot k = true := by simp [isTile, isSlot, ht, hk]
  refine ⟨fun hs hb hn hq => ?issue, fun r tok hr hrel hirq hsig htok => ?complete, fun hs htok heng hh hn => ?deadlock⟩
  case issue =>
    exact State.exec_slot (exec_sequencerIssue t k s) (by simp [Instr.wf, hwf]) ht (TX.sequencerIssue_room hs hb hn hq)
  case complete =>
    exact State.exec_slot (exec_descriptorCompletion t k 3 s) (by simp [Instr.wf, hwf]) ht
      (TX.vectorDone_signal hr hrel hirq hsig htok hp hshed)
  case deadlock =>
    exact State.exec_slot_note (exec_tokenDeadlock t k s) (by simp [Instr.wf, hwf]) ht
      (TX.tokenDeadlock_issued hs htok heng hh hn)

section Registers
variable {x : TX} {k : Nat}

/-- An offset of the by-slot space names its slot's block (R60). -/
theorem Tile.blockAt_slot (t : Tile) (hk : k < 16) {b : Nat} (hb : b < 0x100) :
    t.blockAt (0x2000 + 0x100 * k + b) = some (k, b) := by
  have hin : (decide (0x2000 ≤ 0x2000 + 0x100 * k + b) && decide (0x2000 + 0x100 * k + b < 0x3000)) = true := by
    simp; omega
  rw [Tile.blockAt, if_pos hin, show (0x2000 + 0x100 * k + b - 0x2000) / 0x100 = k by omega,
    show (0x2000 + 0x100 * k + b) % 0x100 = b by omega]

/-- A doorbell for a core that is ready and has read the one before: its payload, pending (R293). -/
theorem TX.doorbell_ready (payload : Nat) (hs : (x.slot k).state = .scalar) (hu : (x.slot k).bellUnread = false) :
    x.doorbell k payload = x.setSlot k
      { (((x.slot k).setReg 0x28 (payload % 2 ^ 32)).setReg 0x2C (payload / 2 ^ 32)).irq irqDoorbell with
        bellUnread := true } := by
  simp [TX.doorbell, hs, hu, TX.modSlot]

/-- A read of TILE_CORE_DOORBELL_HI of a slot clears DOORBELL (R60, R293). -/
theorem TX.readEffect_doorbellHi (hk : k < 16) :
    x.readEffect (0x2000 + 0x100 * k + 0x2C) = (x.setSlot k
      { (x.slot k).setReg 0x24 ((x.slot k).reg 0x24 - (x.slot k).reg 0x24 % 2) with bellUnread := false }).instantHandover k := by
  simp [TX.readEffect, Tile.blockAt_slot _ hk]

theorem TX.readReg_block (hk : k < 16) {b : Nat} (hb : b < 0x100) :
    x.readReg (0x2000 + 0x100 * k + b) = x.coreReg k b := by
  simp [TX.readReg, Tile.blockAt_slot _ hk hb]

/-- The slip count is cleared as a whole by a read (R7, R60). -/
theorem TX.readEffect_slips (hk : k < 16) (h : (x.slot k).reg 0x18 < 2 ^ 32) :
    x.readEffect (0x2000 + 0x100 * k + 0x18) = x.setSlot k ((x.slot k).setReg 0x18 0) := by
  obtain ⟨r, hr, hrc⟩ : ∃ r, regAt coreRows 0x18 = some r ∧ r.rc = 2 ^ 32 - 1 := ⟨_, rfl, rfl⟩
  have hall : (x.slot k).reg 0x18 &&& (2 ^ 32 - 1) = (x.slot k).reg 0x18 := by
    rw [Nat.and_two_pow_sub_one_eq_mod, Nat.mod_eq_of_lt h]
  simp only [TX.readEffect, Tile.blockAt_slot _ hk (show 0x18 < 0x100 by decide), hr, hrc]
  rw [hall, Nat.sub_self]
  rfl

/-- TILE_LAP_LENGTH takes a legal value while no lap runs (R60, R61). -/
theorem TX.writeReg_lapLength (hk : k < 16) {val : Nat} (hs : (x.slot k).state = .scalar)
    (hold : (x.slot k).reg 0x0C < 2 ^ 24) (hlo : 64 ≤ val) (hhi : val < 2 ^ 24) :
    (x.writeReg (0x2000 + 0x100 * k + 0x0C) val false).2 =
      (x.setSlot k ((x.slot k).setReg 0x0C val)).instantHandover k := by
  obtain ⟨r, hr, hrw, hw1c⟩ : ∃ r, regAt coreRows 0x0C = some r ∧ r.rw = 2 ^ 24 - 1 ∧ r.w1c = 0 := ⟨_, rfl, rfl, rfl⟩
  have hall {v : Nat} (h : v < 2 ^ 24) : v &&& (2 ^ 24 - 1) = v := by
    rw [Nat.and_two_pow_sub_one_eq_mod, Nat.mod_eq_of_lt h]
  have hval : regWritten r ((x.slot k).reg 0x0C) val = val := by
    simp only [regWritten, hrw, hw1c, hall hold, hall hhi, Nat.sub_self, Nat.and_zero, Nat.zero_add]
  have hbits : ¬ bitsOf val 23 0 < 64 := by simp only [bitsOf]; omega
  simp [TX.writeReg, Tile.blockAt_slot _ hk, TX.coreWrite, TX.coreRefuses, hs, hbits, hr, hval]

/-- A value below 64, or any while the slot's lap runs or is frozen, is refused and changes nothing (R61). -/
theorem TX.writeReg_lapLength_refused (hk : k < 16) {val : Nat}
    (h : val < 64 ∨ (x.slot k).state = .lapRunning ∨ (x.slot k).state = .lapFrozen) :
    (x.writeReg (0x2000 + 0x100 * k + 0x0C) val false).2 = x := by
  have href : x.coreRefuses k 0x0C val false = true := by
    rcases h with h | h | h
    · have hbits : bitsOf val 23 0 < 64 := by simp only [bitsOf]; omega
      simp [TX.coreRefuses, hbits]
    · simp [TX.coreRefuses, h]
    · simp [TX.coreRefuses, h]
  simp [TX.writeReg, Tile.blockAt_slot _ hk, TX.coreWrite, href]

end Registers

section Direct
variable (s : State) {t : Nat} (ht : t < 256)
include ht

/-- A tile register read directly: its value answered, and the read's own effect (R7). -/
theorem State.exec_readClear_tile {off : Nat} (ho : ((s.sys.tx t).readEffect off).out = []) :
    exec (.readClear 0 t off) s = .next (let u := s.withTile t ((s.sys.tx t).readEffect off).tile
      { u with sys := { u.sys with answer := (s.sys.tx t).readReg off } }) := by
  rw [exec_readClear, show (Instr.readClear 0 t off).wf = true from rfl, State.act_true]
  simp only [Sys.readClear, ht, decide_true, Bool.and_self, if_true, s.sys.onTile_quiet t (fun x => x.readEffect off) ht ho]
  rfl

/-- A tile register written directly (R7). -/
theorem State.exec_registerWrite_tile {off val : Nat} (hv : val < 2 ^ 32)
    (ho : ((s.sys.tx t).writeReg off val false).2.out = []) :
    exec (.registerWrite 0 t off val) s = .next (s.withTile t ((s.sys.tx t).writeReg off val false).2.tile) := by
  have hi : exec (.registerWrite 0 t off val) s = s.act (Instr.registerWrite 0 t off val).wf
      (fun y => y.onTile t (fun x => (x.writeReg off val false).2)) := by
    simp [exec_registerWrite, State.act, Sys.registerWrite, ht]
  exact State.exec_quiet hi (by simpa [Instr.wf] using hv) ht ho

end Direct

/-- Settles O15. -/
theorem doorbellsAndRegisterAccess : Obligations.DoorbellsAndRegisterAccess := by
  unfold Obligations.DoorbellsAndRegisterAccess
  intro s t k h val m ht hk hh hval v o go
  have hquiet (w : Slot) : (((s.sys.tx t).setSlot k w).instantHandover k).out = [] := TX.instantHandover_out _ k
  refine ⟨fun hm hty hsub hs hu => ?bell, ?bellHi, fun hslip => ?slips, fun hs hold hlo hhi => ?lapLength,
    fun href => ?refused, ?readMaster, ?setMaster⟩
  case bell =>
    have htake := Sys.takeMsg_head (s := s.sys) (n := t) (m := m) (f := fun m => decide (m.type = 8)) hm (by simp [hty])
    have hbell := TX.doorbell_ready (x := (s.mailTaken t).sys.tx t) (k := k) m.payload hs hu
    rw [exec_doorbell, show (Instr.doorbell t).wf = true by simp [Instr.wf, isTile, ht], State.act_true]
    simp only [Sys.doorbellMsg, htake, hsub]
    exact congrArg _ ((s.mailTaken t).onTile_slot t k _ _ ht hbell)
  case bellHi =>
    have hread := State.exec_readClear_tile s ht (off := o + 0x2C) (by rw [TX.readEffect_doorbellHi hk]; exact hquiet _)
    rw [TX.readEffect_doorbellHi hk, TX.readReg_block hk (by decide)] at hread
    have hrow : exec (.doorbellHi t k) s = exec (.readClear 0 t (o + 0x2C)) s := by
      simp only [exec_doorbellHi, exec_readClear, Instr.wf, isTile, isSlot, ht, hk, Sys.doorbellHi, if_true]
      rfl
    rw [hrow, hread]
    rfl
  case slips =>
    have hread := State.exec_readClear_tile s ht (off := o + 0x18) (by rw [TX.readEffect_slips hk hslip]; rfl)
    rw [TX.readEffect_slips hk hslip, TX.readReg_block hk (by decide)] at hread
    exact hread
  case lapLength =>
    have hw := TX.writeReg_lapLength (x := s.sys.tx t) hk hs hold hlo hhi
    rw [State.exec_registerWrite_tile s ht hval (by rw [hw]; exact hquiet _), hw]
    rfl
  case refused =>
    have hw := TX.writeReg_lapLength_refused (x := s.sys.tx t) hk href
    rw [State.exec_registerWrite_tile s ht hval (by rw [hw]; rfl), hw]
    rfl
  case readMaster =>
    simp [exec_readClear, Instr.wf, Sys.readClear, hh, Sys.pcieConf]
  case setMaster =>
    simp [exec_registerWrite, Instr.wf, Sys.registerWrite, hh, Sys.pcieConfWrite, Sys.modHub, show bitOf 1 0 = true by decide]

/-- A shift to the left loses nothing. -/
theorem truncShift_up (m e : Int) (he : 0 ≤ e) : truncShift m e = (m * 2 ^ e.toNat, false) := by
  rw [truncShift, if_pos he]
  push_cast
  rfl

/-- Settles O16: a term that fits is shifted without loss and is not cut off, so only the count decides. -/
theorem accumulatorAddsExactly : Obligations.AccumulatorAddsExactly := by
  unfold Obligations.AccumulatorAddsExactly
  intro e t lsb hle hfit
  have hfit' : ¬ (t * 2 ^ (lsb - e.w).toNat).natAbs > 2 ^ 47 - 1 := Nat.not_lt.mpr hfit
  refine ⟨fun hc => ?_, fun hc => ?_⟩
  · have hc' : e.count ≠ 65535 := Nat.ne_of_lt hc
    simp only [AccEntry.addTerm, truncShift_up t _ (Int.sub_nonneg_of_le hle), hfit', hc']
    simp
  · simp only [AccEntry.addTerm, truncShift_up t _ (Int.sub_nonneg_of_le hle), hfit', hc]
    simp

end Sys2Proof.Machine

/-! SUPPORT. Laws of a whole row of the tile store (R162, R177, R179): the row that was written, and every other row. -/

namespace Sys2Proof.Machine

/-- The pairs with keys from `lo` up to but not including `hi`. -/
def keysWithin {α : Type} (lo hi : Nat) (l : List (Nat × α)) : List (Nat × α) :=
  l.filter (fun p => decide (lo ≤ p.1) && decide (p.1 < hi))

section KeysWithin
variable {α : Type} {l mid : List (Nat × α)} {lo hi b e : Nat}

theorem keysWithin_append (l l' : List (Nat × α)) : keysWithin b e (l ++ l') = keysWithin b e l ++ keysWithin b e l' :=
  List.filter_append ..

theorem keysWithin_eq_nil (h : ∀ p ∈ l, p.1 < b ∨ e ≤ p.1) : keysWithin b e l = [] := by
  simp only [keysWithin, List.filter_eq_nil_iff, Bool.and_eq_true, decide_eq_true_eq]
  intro p hp
  have := h p hp
  omega

theorem keysWithin_eq_self (h : ∀ p ∈ l, b ≤ p.1 ∧ p.1 < e) : keysWithin b e l = l := by
  simp only [keysWithin, List.filter_eq_self, Bool.and_eq_true, decide_eq_true_eq]
  exact h

/-- A condition that every key of the range meets takes nothing out of it. -/
theorem keysWithin_filter (f : Nat → Bool) (h : ∀ i, b ≤ i → i < e → f i = true) :
    keysWithin b e (l.filter (fun p => f p.1)) = keysWithin b e l := by
  rw [keysWithin, keysWithin, List.filter_filter]
  refine List.filter_congr fun p _ => ?_
  by_cases hp : b ≤ p.1 ∧ p.1 < e
  · simp [hp, h p.1 hp.1 hp.2]
  · rw [← Bool.decide_and, decide_eq_false hp, Bool.false_and]

variable (hlh : lo ≤ hi) (hmid : ∀ p ∈ mid, lo ≤ p.1 ∧ p.1 < hi)
include hmid

include hlh in
/-- A list whose range from `lo` to `hi` is replaced has the old pairs in a range apart from that one. -/
theorem keysWithin_replaced_other (hapart : e ≤ lo ∨ hi ≤ b) :
    keysWithin b e (l.filter (fun p => decide (p.1 < lo)) ++ (mid ++ l.filter (fun p => decide (hi ≤ p.1)))) =
      keysWithin b e l := by
  have hgone : keysWithin b e mid = [] := keysWithin_eq_nil fun p hp => by
    have := hmid p hp
    omega
  rw [keysWithin_append, keysWithin_append, hgone, List.nil_append]
  rcases hapart with h | h
  · have hnone : keysWithin b e (l.filter (fun p => decide (hi ≤ p.1))) = [] := keysWithin_eq_nil fun p hp => by
      have := (List.mem_filter.1 hp).2
      simp only [decide_eq_true_eq] at this
      omega
    rw [hnone, List.append_nil, keysWithin_filter (fun i => decide (i < lo))]
    intro i _ hi
    simp only [decide_eq_true_eq]
    omega
  · have hnone : keysWithin b e (l.filter (fun p => decide (p.1 < lo))) = [] := keysWithin_eq_nil fun p hp => by
      have := (List.mem_filter.1 hp).2
      simp only [decide_eq_true_eq] at this
      omega
    rw [hnone, List.nil_append, keysWithin_filter (fun i => decide (hi ≤ i))]
    intro i hi _
    simp only [decide_eq_true_eq]
    omega

/-- In the range itself it has the new pairs. -/
theorem keysWithin_replaced_same :
    keysWithin lo hi (l.filter (fun p => decide (p.1 < lo)) ++ (mid ++ l.filter (fun p => decide (hi ≤ p.1)))) = mid := by
  have hbefore : keysWithin lo hi (l.filter (fun p => decide (p.1 < lo))) = [] := keysWithin_eq_nil fun p hp =>
    .inl (by simpa using (List.mem_filter.1 hp).2)
  have hafter : keysWithin lo hi (l.filter (fun p => decide (hi ≤ p.1))) = [] := keysWithin_eq_nil fun p hp =>
    .inr (by simpa using (List.mem_filter.1 hp).2)
  rw [keysWithin_append, keysWithin_append, hbefore, keysWithin_eq_self hmid, hafter, List.nil_append, List.append_nil]

end KeysWithin

theorem Mem.cells_within (a n v : Nat) : ∀ c ∈ Mem.cells a n v, a ≤ c.1 ∧ c.1 < a + n := fun c hc =>
  ⟨(Mem.cells_mem a n v c hc).1, (Mem.cells_mem a n v c hc).2.1⟩

/-- The value of the cells of a number's low bytes, counted from an address below them. -/
theorem Mem.valueFrom_cells (b a n v : Nat) (h : b ≤ a) :
    Mem.valueFrom b (Mem.cells a n v) = 2 ^ (8 * (a - b)) * (v % 256 ^ n) := by
  induction n generalizing a v with
  | zero => simp [Mem.cells, Mem.valueFrom, Nat.mod_one]
  | succ n ih =>
    have hrest := ih (a + 1) (v / 256) (by omega)
    have hpow : 2 ^ (8 * (a + 1 - b)) = 2 ^ (8 * (a - b)) * 256 := by
      rw [show 8 * (a + 1 - b) = 8 * (a - b) + 8 by omega, Nat.pow_add]
    have hsplit : v % 256 ^ (n + 1) = v % 256 + 256 * (v / 256 % 256 ^ n) := by
      rw [Nat.pow_succ', Nat.mod_mul]
    rw [hpow] at hrest
    rw [Mem.cells, hsplit, Nat.mul_add, ← Nat.mul_assoc]
    by_cases hz : v % 256 = 0
    · simp [hz, hrest]
    · simp only [hz, if_false, List.cons_append, List.nil_append, Mem.valueFrom, hrest, BitVec.toNat_ofNat]
      rw [Nat.mul_comm]

/-- A run written and read back as one number. -/
theorem Mem.readWide_write_same (m : Mem) (a n v : Nat) : Mem.readWide (Mem.write m a n v) a n = v % 256 ^ n := by
  have hspan : Mem.span (Mem.write m a n v) a n = Mem.cells a n v := keysWithin_replaced_same (Mem.cells_within a n v)
  simp [Mem.readWide, hspan, Mem.valueFrom_cells]

theorem Mem.readWide_write_other (m : Mem) (a n v b k : Nat) (h : b + k ≤ a ∨ a + n ≤ b) :
    Mem.readWide (Mem.write m a n v) b k = Mem.readWide m b k := by
  have hspan : Mem.span (Mem.write m a n v) b k = Mem.span m b k :=
    keysWithin_replaced_other (Nat.le_add_right ..) (Mem.cells_within a n v) h
  rw [Mem.readWide, hspan, Mem.readWide]

section Syndromes
variable (s : Store) (row all : Nat)

/-- The syndromes that a row set as a whole lists: one for each word. -/
def rowSyndromes (row all : Nat) : NMap (BitVec 8) :=
  if all = 0 then [] else (List.range 64).map (fun w => (64 * row + w, BitVec.ofNat 8 all))

theorem rowSyndromes_within : ∀ p ∈ rowSyndromes row all, 64 * row ≤ p.1 ∧ p.1 < 64 * row + 64 := by
  unfold rowSyndromes
  split
  · nofun
  · simp only [List.mem_map, List.mem_range]
    rintro p ⟨w, hw, rfl⟩
    dsimp only
    omega

theorem Store.badWords_eq (r : Nat) : s.badWords r =
    (keysWithin (64 * r) (64 * r + 64) s.dev).map (fun p => (p.1 - 64 * r, p.2.toNat)) := rfl

theorem Store.setRowDev_dev : (s.setRowDev row all []).dev = s.dev.filter (fun p => decide (p.1 < 64 * row)) ++
    (rowSyndromes row all ++ s.dev.filter (fun p => decide (64 * row + 64 ≤ p.1))) := rfl

/-- The syndromes of every other row stay. -/
theorem Store.badWords_setRowDev_other {r : Nat} (hr : r ≠ row) : (s.setRowDev row all []).badWords r = s.badWords r := by
  rw [Store.badWords_eq, Store.setRowDev_dev,
    keysWithin_replaced_other (Nat.le_add_right ..) (rowSyndromes_within row all) (by omega), ← Store.badWords_eq]

/-- A row marked as a whole reads with that syndrome in each of its words. -/
theorem Store.badWords_setRowDev_same : (s.setRowDev row all []).badWords row =
    if all = 0 then [] else (List.range 64).map (fun w => (w, all % 256)) := by
  rw [Store.badWords_eq, Store.setRowDev_dev, keysWithin_replaced_same (rowSyndromes_within row all), rowSyndromes]
  split
  · rfl
  · simp [Function.comp_def]

end Syndromes

/-- A row put for any entrant but control, on which an armed injection acts (R194). -/
theorem TX.putRow_eq (x : TX) (row data : Nat) (p : Bool) {entrant : Nat} (he : entrant ≠ 19) :
    x.putRow row data p entrant = x.setStore (Store.setRowDev { x.tile.store.cancelWriteBack row with
      data := Mem.write x.tile.store.data (512 * row) 512 data
      recon := x.tile.store.recon.filter (fun r => r ≠ row)
      found := x.tile.store.found.filter (fun w => w / 64 ≠ row) } row (if p then 255 else 0) []) := by
  simp [TX.putRow, he, Store.cancelWriteBack]

/-- Settles O19. -/
theorem rowWriteAndFrame : Obligations.RowWriteAndFrame := by
  unfold Obligations.RowWriteAndFrame
  intro x row data entrant p he y
  have hy : y = _ := TX.putRow_eq x row data p he
  refine ⟨?_, ?_, fun r hr => ⟨?_, ?_⟩, ?_, ?_, ?_⟩
  · rw [hy, show (2 : Nat) ^ 4096 = 256 ^ 512 by rw [show (256 : Nat) = 2 ^ 8 by rfl, ← Nat.pow_mul]]
    exact Mem.readWide_write_same ..
  · rw [hy]
    refine (Store.badWords_setRowDev_same ..).trans ?_
    cases p <;> rfl
  · rw [hy]
    exact Mem.readWide_write_other _ _ _ _ _ _ (by omega)
  · rw [hy]
    exact Store.badWords_setRowDev_other _ _ _ hr
  all_goals rw [hy]; rfl

end Sys2Proof.Machine

/-! SUPPORT. Descriptor commands whose operand is out of its range (SPEC.md, WellFormed): they change nothing (log entry 9),
so a statement that speaks of every operand fails at the first one out of range. -/

namespace Sys2Proof.Machine

/-- The state after a COLD reset with a descriptor `d` at the head of queue `q` of slot 0 of tile 0, whose regions 0 and 1
are ACTIVATION regions of 64 rows that every slot owns. -/
def State.headed (q : Nat) (d : Desc) : State :=
  let region (base : Nat) : Region := { base := base, valid := true, init := true, size := 64, owner := 0xFFFF }
  State.reset.withTile 0
    { slots := [(0, { state := .scalar, queues := Queues.put {} q [{ desc := d }] })]
      store := { regions := [(0, region 0), (1, region 64)] } }

/-- An ill-formed command leaves what slot `k` of tile `t` has running as it was. -/
theorem engines_of_illFormed {i : Instr} {s s' : State} {f : Sys → Sys} (hi : exec i s = s.act i.wf f) (hwf : i.wf = false)
    (h : exec i s = .next s') (t k : Nat) : (s'.slot t k).eng = (s.slot t k).eng := by
  rw [hi, hwf, State.act_false, Host.Outcome.next.injEq] at h
  rw [h]

/-- Refutes O17: the count of starved cycles of an MM is below 2^32 (`Instr.wf`), and the statement speaks of every count.
An MM without vectors with a count of 2^32 starts nothing. -/
theorem not_matrixDescriptorsRun : ¬ Obligations.MatrixDescriptorsRun := by
  unfold Obligations.MatrixDescriptorsRun
  intro h
  let s := State.headed 0 4
  have hmm := (h s 0 0 (2 ^ 32) { desc := 4 } (by decide) (by decide)).1 (by decide +kernel) (by decide +kernel)
    (by decide +kernel)
  have heng := congrArg (fun e => e.mm.isSome) (engines_of_illFormed (exec_mm 0 0 (2 ^ 32) s) rfl hmm 0 0)
  exact absurd heng (by decide +kernel)

/-- A CONVERT of one block, from row 0 of region 0 to row 0 of region 1. -/
def convertOne : Desc := 0xa0a000000010000000000040000000000000000000000000005

/-- A row that reads clean leaves the tile as it was. -/
theorem vectorInputs_convertOne :
    (((State.headed 1 convertOne).sys.tx 0).vectorInputs 0 { desc := convertOne }).2 = (State.headed 1 convertOne).sys.tx 0 :=
  rfl

/-- Refutes O18: the count of starved cycles of a vector command is below 2^32 (`Instr.wf`), and the statement speaks of
every count. A CONVERT of one block from region 0 to region 1 with a count of 2^32 starts nothing. -/
theorem not_vectorOperationsRun : ¬ Obligations.VectorOperationsRun := by
  unfold Obligations.VectorOperationsRun
  intro h
  let s := State.headed 1 convertOne
  have hconv := (h s 0 0 (2 ^ 32) { desc := convertOne } (by decide) (by decide) (by decide +kernel) (by decide +kernel)
    (by decide +kernel) (by decide +kernel) vectorInputs_convertOne).1 (by decide +kernel)
  have heng := congrArg (fun e => e.vector.isSome) (engines_of_illFormed (exec_convert 0 0 (2 ^ 32) s) rfl hconv 0 0)
  exact absurd heng (by decide +kernel)

/-- Refutes O20: the count of starved cycles of a store command is below 2^32 (`Instr.wf`), and the statement speaks of every
count. A COPY of row 0 of region 0 to row 0 of region 1 with a count of 2^32 starts nothing. -/
theorem not_storeDescriptorsRun : ¬ Obligations.StoreDescriptorsRun := by
  unfold Obligations.StoreDescriptorsRun
  intro h
  let d : Desc := 0x100040000000000000000000000000006
  let s := State.headed 2 d
  have hcopy := (h s 0 0 (2 ^ 32) { desc := d } { valid := true, init := true, size := 64, owner := 0xFFFF } (by decide)
    (by decide) (by decide +kernel) (by decide +kernel) (by decide +kernel) (by decide +kernel) (by decide +kernel)
    (by decide +kernel)).1 (by decide +kernel) (by decide +kernel) (by decide +kernel)
  have heng := congrArg (fun e => e.store.isSome) (engines_of_illFormed (exec_copy 0 ⟨0, 2 ^ 32⟩ s) rfl hcopy 0 0)
  exact absurd heng (by decide +kernel)

end Sys2Proof.Machine

/-! SUPPORT. Laws of the pacer's descriptors and of the rows of a LOCAL stream (R145, R146, R197–R203, R565). -/

namespace Sys2Proof.Machine

section PacerDescriptors
variable {x : TX} {k : Nat} {e : QEntry}

/-- An idle pacer looks at the head of its queue. -/
theorem TX.pacerHead_idle (hidle : (x.slot k).eng.pacer = none) (op : Nat) : x.pacerHead k op = (x.slot k).readyHead 3 op := by
  simp [TX.pacerHead, hidle]

variable (hidle : (x.slot k).eng.pacer = none)
include hidle

theorem TX.streamSet_starts (hhead : (x.slot k).readyHead 3 1 = some e)
    (hbusy : ((x.slot k).stream (pStream e.desc)).busy = false) :
    let v := x.slot k
    let w : Slot := { v.popHead 3 e with eng := { v.eng with pacer := some { q := e } } }
    x.streamSet k = x.setSlot k
      (w.setStream (pStream e.desc) { v.stream (pStream e.desc) with setDesc := some e.desc }) := by
  simp [TX.streamSet, TX.pacerHead_idle hidle, hhead, hbusy, TX.pacerBegin, TX.modSlot]
  rfl

theorem TX.streamLoop_starts (hhead : (x.slot k).readyHead 3 2 = some e)
    (hbusy : ((x.slot k).stream (pStream e.desc)).busy = false) :
    let v := x.slot k
    let w : Slot := { v.popHead 3 e with eng := { v.eng with pacer := some { q := e } } }
    x.streamLoop k = x.setSlot k
      (w.setStream (pStream e.desc) { v.stream (pStream e.desc) with loopDesc := some e.desc }) := by
  simp [TX.streamLoop, TX.pacerHead_idle hidle, hhead, hbusy, TX.pacerBegin, TX.modSlot]
  rfl

theorem TX.streamStop_starts (hhead : (x.slot k).readyHead 3 4 = some e)
    (hbusy : ((x.slot k).stream (pStream e.desc)).busy = true) :
    let v := x.slot k
    let w : Slot := { v.popHead 3 e with eng := { v.eng with pacer := some { q := e } } }
    x.streamStop k = x.setSlot k
      (w.setStream (pStream e.desc) { v.stream (pStream e.desc) with state := .stopping }) := by
  intro v w
  have hw : w.stream (pStream e.desc) = v.stream (pStream e.desc) := rfl
  have hrun : x.streamStop k = (x.setSlot k w).modSlot k (fun s =>
      if (s.stream (pStream e.desc)).busy
      then s.setStream (pStream e.desc) { s.stream (pStream e.desc) with state := .stopping } else s) := by
    simp only [TX.streamStop, TX.pacerHead_idle hidle, hhead]
    rfl
  rw [hrun, TX.modSlot, TX.slot_setSlot, TX.setSlot_setSlot, hw, if_pos hbusy]

theorem TX.streamGo_starts {c : Desc} {r : Region} (hhead : (x.slot k).readyHead 3 3 = some e)
    (hok : x.streamGoOk k (pStream e.desc) = true) (hset : ((x.slot k).stream (pStream e.desc)).setDesc = some c)
    (hkind : pKind c ≠ 2) (hland : x.isLanding c = false) (hring : x.tile.store.region (x.ringOf c).1 = some r) :
    let v := x.slot k
    let w : Slot := { v.popHead 3 e with eng := { v.eng with pacer := some { q := e } } }
    x.streamGo k = x.setSlot k (w.setStream (pStream e.desc) { v.stream (pStream e.desc) with
      state := .running, landing := false, ringRow := r.storeRow (x.ringOf c).2, head := 0, fill := 0, full := 0
      landed := [], fetchLap := 0, nextRow := 0, flight := [] }) := by
  intro v w
  have hw : w.stream (pStream e.desc) = v.stream (pStream e.desc) := rfl
  have hset' : (w.stream (pStream e.desc)).setDesc = some c := hset
  have hland' : (x.setSlot k w).isLanding c = false := hland
  have hring' : (x.setSlot k w).tile.store.region ((x.setSlot k w).ringOf c).1 = some r := hring
  simp only [TX.streamGo, TX.pacerHead_idle hidle, hhead, hok, Bool.not_true, Bool.false_eq_true, if_false,
    show x.pacerBegin k e = x.setSlot k w from rfl, TX.slot_setSlot, hset', hland', hring', hkind, TX.modSlot,
    TX.setSlot_setSlot]
  rw [show (v.stream (pStream e.desc)).setDesc = some c from hset]
  rfl

end PacerDescriptors

/-- Settles O21. -/
theorem streamDescriptorsRun : Obligations.StreamDescriptorsRun := by
  unfold Obligations.StreamDescriptorsRun
  intro s t k e ht hk v x i z w hidle
  have hwf : isTile t = true ∧ isSlot k = true := by simp [isTile, isSlot, ht, hk]
  refine ⟨fun hhead hbusy => ?_, fun hhead hbusy => ?_, fun c r hhead hok hset hkind hland hring => ?_,
    fun hhead hbusy => ?_⟩
  · exact State.exec_slot (exec_streamSet t k s) (by simp [Instr.wf, hwf]) ht (TX.streamSet_starts hidle hhead hbusy)
  · exact State.exec_slot (exec_streamLoop t k s) (by simp [Instr.wf, hwf]) ht (TX.streamLoop_starts hidle hhead hbusy)
  · exact State.exec_slot (exec_streamGo t k s) (by simp [Instr.wf, hwf]) ht
      (TX.streamGo_starts hidle hhead hok hset hkind hland hring)
  · exact State.exec_slot (exec_streamStop t k s) (by simp [Instr.wf, hwf]) ht (TX.streamStop_starts hidle hhead hbusy)

section LocalRows
variable {x : TX} {k i : Nat} {c : Desc}

@[simp] theorem Slot.stream_setStream (v : Slot) (i : Nat) (z : Stream) : (v.setStream i z).stream i = z := by
  simp [Slot.stream, Slot.setStream]

@[simp] theorem Slot.setStream_setStream (v : Slot) (i : Nat) (z z' : Stream) :
    (v.setStream i z).setStream i z' = v.setStream i z' := by
  simp [Slot.setStream]

/-- A row that reads clean is read as it is, and the tile stays as it was. -/
theorem TX.readRow_clean {row : Nat} (h : x.tile.store.badWords row = []) (entrant : Nat) :
    x.readRow row entrant = (x.tile.store.rowData row, false, x) := by
  simp [TX.readRow, TX.readWords, h]

theorem TX.markDirty_unmirrored {n : Nat} {r : Region} (hr : x.tile.store.region n = some r) (hm : r.mirror = false) :
    x.markDirty n = x := by
  simp [TX.markDirty, hr, hm]

/-- A row put into the store and a slot replaced do not look at each other. -/
theorem TX.putRow_setSlot (x : TX) (k row data : Nat) (p : Bool) {entrant : Nat} (he : entrant ≠ 19) (v : Slot) :
    (x.setSlot k v).putRow row data p entrant = (x.putRow row data p entrant).setSlot k v := by
  rw [TX.putRow_eq _ _ _ _ he, TX.putRow_eq _ _ _ _ he]
  rfl

/-- The row next in turn of a LOCAL stream, inside its source, goes out. -/
theorem TX.fetchRow_local {l : Desc} {r : Region} (hset : ((x.slot k).stream i).setDesc = some c)
    (hloop : ((x.slot k).stream i).loopDesc = some l) (hkind : pKind c = 0) (hrun : ((x.slot k).stream i).state = .running)
    (hland : ((x.slot k).stream i).landing = false)
    (hempty : bitOf ((x.slot k).stream i).full ((x.slot k).stream i).fill = false)
    (hrow : ((x.slot k).stream i).nextRow % pSlotRows c ≠ 0) (hroom : (x.slot k).fetchRoom 0 i = true)
    (hlook : ((x.slot k).stream i).fetchLap ≤ (x.slot k).lap.index + pLook c) (hruns : (x.slot k).reg 0x10 = 0xFFFFFFFF) :
    let z := (x.slot k).stream i
    let p := x.effRow (pSrc c) (pSrcInc c) z.fetchLap
    let o := (p.2 : Int) + loopOffset l z.nextRow
    x.tile.store.region p.1 = some r → 0 ≤ o → o < r.size → bitOf r.owner k = true →
    let last := decide (z.nextRow + 1 = pLapRows l)
    let slotEnd := decide (z.nextRow % pSlotRows c + 1 = pSlotRows c)
    x.fetchRow k i [] = some (x.setSlot k ((x.slot k).setStream i { z with
      nextRow := if last then 0 else z.nextRow + 1
      fetchLap := if last then (z.fetchLap + 1) % 2 ^ 32 else z.fetchLap
      fill := if slotEnd then (z.fill + 1) % pSlots c else z.fill
      flight := z.flight ++ [{ slot := z.fill, row := z.nextRow % pSlotRows c, lap := z.fetchLap
                               tag := r.storeRow o.toNat }] })) := by
  intro z p o hreg h0 hsize howner last slotEnd
  have hregK (v : Slot) : (x.setSlot k v).tile.store.region
      (x.effRow (pSrc c) (pSrcInc c) ((x.slot k).stream i).fetchLap).1 = some r := hreg
  have hreadK (v : Slot) : (x.setSlot k v).tile.engineMayRead k
      (x.effRow (pSrc c) (pSrcInc c) ((x.slot k).stream i).fetchLap).1 o.toNat = true := by
    simp only [Tile.engineMayRead, hregK, howner, Bool.and_true, decide_eq_true_eq]
    omega
  unfold TX.fetchRow
  dsimp only
  rw [hset, hloop]
  dsimp only
  rw [if_neg (by simp [hrun, hland, hkind, hempty, hrow, hroom, hruns, hlook]), if_pos hkind]
  simp only [hregK, h0, hsize, o, p, z] at hreadK ⊢
  rw [if_neg (by simp), if_neg (by rw [hreadK]; decide), TX.modSlot, TX.slot_setSlot, TX.setSlot_setSlot,
    Slot.setStream_setStream]

/-- Stream `z` once a row more has come into slot `n` of its staging ring, of `rows` rows a slot: FULL with its last. -/
def Stream.landed1 (z : Stream) (rows n : Nat) : Stream :=
  if rows ≤ NMap.get 0 z.landed n + 1 then { z with landed := NMap.erase z.landed n, full := z.full ||| 2 ^ n }
  else { z with landed := NMap.put z.landed n (NMap.get 0 z.landed n + 1) }

/-- A clean row lands in its slot. -/
theorem TX.landRow_clean {slot row data : Nat} {r : Region} (hk : k < 16) (hset : ((x.slot k).stream i).setDesc = some c)
    (hrun : ((x.slot k).stream i).state = .running) (hreg : x.tile.store.region (x.ringOf c).1 = some r)
    (hm : r.mirror = false) :
    let z := (x.slot k).stream i
    x.landRow k i slot row data false =
      (x.putRow (z.slotRow slot row) data false k).setSlot k ((x.slot k).setStream i (z.landed1 (pSlotRows c) slot)) := by
  intro z
  have he : k ≠ 19 := by omega
  have hdirty : (x.putRow (z.slotRow slot row) data false k).markDirty (x.ringOf c).1 =
      x.putRow (z.slotRow slot row) data false k := by
    rw [TX.putRow_eq _ _ _ _ he]
    exact TX.markDirty_unmirrored (r := r) hreg hm
  have hring : (x.putRow (z.slotRow slot row) data false k).ringOf c = x.ringOf c := by
    rw [TX.putRow_eq _ _ _ _ he]
    rfl
  have hslot : (x.putRow (z.slotRow slot row) data false k).slot k = x.slot k := by
    rw [TX.putRow_eq _ _ _ _ he]
    rfl
  have hlive : decide (((x.slot k).stream i).state ≠ .halted) = true := by simp [hrun]
  unfold TX.landRow
  simp only [Bool.false_eq_true, if_false, hlive, Bool.and_true, decide_eq_true_eq]
  split
  next h => exact absurd (hset.symm.trans h) nofun
  next c' h =>
    obtain rfl : c = c' := Option.some.inj (hset.symm.trans h)
    rw [hring, hdirty, TX.modSlot, hslot]
    rfl

/-- The row of flight `f` of a LOCAL stream, clean in the store, lands in its slot. -/
theorem TX.localLand_clean {f : Nat} {g : Fetch} {r : Region} (hk : k < 16) (hset : ((x.slot k).stream i).setDesc = some c)
    (hkind : pKind c = 0) (hrun : ((x.slot k).stream i).state = .running) (hf : ((x.slot k).stream i).flight[f]? = some g)
    (hclean : x.tile.store.badWords g.tag = []) (hreg : x.tile.store.region (x.ringOf c).1 = some r) (hm : r.mirror = false) :
    let z := (x.slot k).stream i
    x.localLand k i f = (x.putRow (z.slotRow g.slot g.row) (x.tile.store.rowData g.tag) false k).setSlot k
      ((x.slot k).setStream i (Stream.landed1 { z with flight := listDrop z.flight f } (pSlotRows c) g.slot)) := by
  intro z
  have he : k ≠ 19 := by omega
  let w := (x.slot k).setStream i { z with flight := listDrop z.flight f }
  have hw : ((x.setSlot k w).slot k).stream i = { z with flight := listDrop z.flight f } := by simp [w]
  have hcleanK : (x.setSlot k w).tile.store.badWords g.tag = [] := hclean
  unfold TX.localLand
  dsimp only
  split
  next g' c' hf' hset' =>
    obtain rfl : g = g' := Option.some.inj (hf.symm.trans hf')
    obtain rfl : c = c' := Option.some.inj (hset.symm.trans hset')
    rw [if_neg (by simp [hkind])]
    simp only [show x.setSlot k ((x.slot k).setStream i { (x.slot k).stream i with
      flight := listDrop ((x.slot k).stream i).flight f }) = x.setSlot k w from rfl, TX.readRow_clean hcleanK]
    rw [TX.landRow_clean (x := x.setSlot k w) (i := i) (c := c) (r := r) hk (by rw [hw]; exact hset) (by rw [hw]; exact hrun) hreg hm, hw,
      TX.putRow_setSlot _ _ _ _ _ he, TX.slot_setSlot, TX.setSlot_setSlot, Slot.setStream_setStream]
    rfl
  next hno => exact absurd hset (hno g c hf)

end LocalRows

/-- Settles O22. -/
theorem streamRowsFetchedAndLanded : Obligations.StreamRowsFetchedAndLanded := by
  unfold Obligations.StreamRowsFetchedAndLanded
  intro s t k i f c l ht hk hi hf v x z hset hloop hkind hrun
  refine ⟨fun r hland hempty hrow hroom hlook hruns => ?_, fun g r hflight hclean hreg hmirror => ?_⟩
  · intro p o hreg h0 hsize howner last slotEnd
    refine State.exec_slot (exec_streamFetchLap t k i ⟨1, []⟩ s) (by simp [Instr.wf, isTile, isSlot, ht, hk, hi]) ht ?_
    simp only [TX.fetchRows, TX.fetchRow_local hset hloop hkind hrun hland hempty hrow hroom hlook hruns hreg h0 hsize howner]
    rfl
  · intro n z'
    have hrow : exec (.pacerRowLand t k i f 0) s = s.act (Instr.pacerRowLand t k i f 0).wf
        (fun y => y.onTile t (fun x => x.localLand k i f)) := exec_pacerRowLand t k i f 0 s
    rw [State.exec_tileDid hrow (by simp [Instr.wf, isTile, isSlot, ht, hk, hi, hf]) ht]
    exact congrArg (fun y => Host.Outcome.next (s.tileDid t y)) (TX.localLand_clean hk hset hkind hrun hflight hclean hreg hmirror)

end Sys2Proof.Machine

/-! SUPPORT. Laws of leapfrog and takeover (R64–R68, R567). -/

namespace Sys2Proof.Machine

section Hottest
variable (f : Nat → Nat)

/-- The hotter of the choice so far and slot `k`, by the estimates `f` (R65). -/
def hotter (b : Option Nat) (k : Nat) : Option Nat :=
  match b with
  | none => some k
  | some j => if f k > f j then some k else b

theorem foldl_hotter_below {k : Nat} : ∀ (l : List Nat) (b : Option Nat), (∀ j ∈ l, f j < f k) → (∀ j ∈ b, f j < f k) →
    ∀ j ∈ l.foldl (hotter f) b, f j < f k := by
  intro l
  induction l with
  | nil => exact fun b _ hb => hb
  | cons i l ih =>
    intro b hl hb
    refine ih _ (fun j hj => hl j (List.mem_cons_of_mem _ hj)) (fun j hj => ?_)
    have hi := hl i List.mem_cons_self
    cases b with
    | none => simp_all [hotter]
    | some b =>
      simp only [hotter, Option.mem_def] at hj hb
      split at hj <;> simp_all

theorem foldl_hotter_keeps {k : Nat} : ∀ (l : List Nat), (∀ j ∈ l, f j ≤ f k) → l.foldl (hotter f) (some k) = some k := by
  intro l
  induction l with
  | nil => exact fun _ => rfl
  | cons i l ih =>
    intro hl
    have hi := hl i List.mem_cons_self
    rw [List.foldl_cons, show hotter f (some k) i = some k by simp [hotter, Nat.not_lt.mpr hi]]
    exact ih fun j hj => hl j (List.mem_cons_of_mem _ hj)

/-- The first of the hottest is chosen. -/
theorem foldl_hotter_eq {l : List Nat} {k : Nat} (hl : l.Pairwise (· < ·)) (hk : k ∈ l)
    (hmax : ∀ j ∈ l, f j < f k ∨ (f j = f k ∧ k ≤ j)) : l.foldl (hotter f) none = some k := by
  obtain ⟨a, b, rfl⟩ := List.append_of_mem hk
  obtain ⟨-, -, hab⟩ := List.pairwise_append.mp hl
  have hbelow := foldl_hotter_below f (k := k) a none
    (fun j hj => by have := hmax j (by simp [hj]); have := hab j hj k (by simp); omega) (by simp)
  rw [List.foldl_append, List.foldl_cons, show hotter f (a.foldl (hotter f) none) k = some k by
    cases h : a.foldl (hotter f) none with
    | none => rfl
    | some j => simp [hotter, hbelow j h]]
  exact foldl_hotter_keeps f b fun j hj => by have := hmax j (by simp [hj]); omega

end Hottest

section Leapfrog
variable {x : TX}

/-- A rotation that is due preloads the hottest slot that may move, the lowest of them (R65). -/
theorem TX.leapfrogPeriod_due {est : NMap Nat} {k : Nat} (hen : bitOf (x.reg 0x114) 16 = true) (hrest : x.tile.restValid = true)
    (hpre : x.tile.preload = none) (hgo : x.tile.leapStopped = false)
    (hdue : if x.reg 0x114 % 2 ^ 16 = 0 then x.tile.leapDue = true
      else x.tile.leapSince + 1000000 * (x.reg 0x114 % 2 ^ 16) ≤ x.now) (hchoice : x.leapChoice est = some k) :
    x.leapfrogPeriod est = { x with tile := { x.tile with
      leapSince := x.now, leapDue := false, restState := .preload, preload := some { slot := k } } } := by
  have htime : x.leapTime = true := by
    simp only [TX.leapTime, TX.leapPeriod, bitsOf, Nat.pow_zero, Nat.div_one, Nat.reduceAdd, Nat.sub_zero]
    split at hdue <;> simp_all
  have hchoice' : TX.leapChoice { x with tile := { x.tile with leapSince := x.now, leapDue := false } } est = some k := hchoice
  rw [TX.leapfrogPeriod, if_pos (by simp [TX.leapEnabled, hen, hrest, hpre, hgo, htime])]
  dsimp only
  rw [hchoice']

theorem TX.leapChoice_eq {est : NMap Nat} {k : Nat} (hk : k < 16)
    (elig : Nat → Prop) (helig : ∀ j, elig j ↔ (bitOf (x.source j) 15 = false ∧
      ((x.slot j).state = .lapRunning ∨ (x.slot j).state = .scalar ∨ (x.slot j).state = .halted))) (hok : elig k)
    (hmax : ∀ j, j < 16 → elig j → NMap.get 0 est j < NMap.get 0 est k ∨ (NMap.get 0 est j = NMap.get 0 est k ∧ k ≤ j)) :
    x.leapChoice est = some k := by
  have hmem (j : Nat) : j ∈ (List.range 16).filter (fun k => !x.streaming k &&
      ((x.slot k).state = .lapRunning || (x.slot k).state = .scalar || (x.slot k).state = .halted)) ↔ j < 16 ∧ elig j := by
    simp [helig, TX.streaming, or_assoc]
  refine foldl_hotter_eq (NMap.get 0 est) ?_ ((hmem k).mpr ⟨hk, hok⟩) (fun j hj => ?_)
  · exact List.pairwise_lt_range.filter _
  · exact hmax j ((hmem j).mp hj).1 ((hmem j).mp hj).2

theorem TX.leapfrogAbandon_waited {l : Preload} (hp : x.tile.preload = some l) (hto : l.takeover = false) (hd : l.done = true)
    (hb : 64 ≤ (x.slot l.slot).lap.boundaries) :
    x.leapfrogAbandon = { x with tile := { x.tile with
      preload := none, restState := .retention, leapSkipped := satAdd 16 x.tile.leapSkipped 1, leapSince := x.now } } := by
  simp [TX.leapfrogAbandon, hp, hto, hd, hb]

end Leapfrog

section Handover
variable {x : TX} {k : Nat}

/-- A lap that has begun is not interrupted by a handover. -/
theorem TX.tryHandover_running (hs : (x.slot k).state = .lapRunning) (hb : (x.slot k).lap.begun = true) :
    x.tryHandover k = x := by
  unfold TX.tryHandover
  dsimp only
  split
  · rfl
  · rw [if_neg (by simp [hs, hb])]

/-- A halted core whose engines rest is handed over at once. -/
theorem TX.tryHandover_halted {p : Preload} (hp : x.tile.preload = some p) (hto : p.takeover = false) (hd : p.done = true)
    (hslot : p.slot = k) (hs : (x.slot k).state = .halted) (hq : (x.slot k).quiet = true) :
    let y := x.setSlot k { x.slot k with iram := p.iram, fetchView := p.iram, macros := p.macros }
    x.tryHandover k = { y with tile := { y.tile with
      slotMap := NMap.put x.tile.slotMap k x.tile.rest, rest := x.tile.physOf k, restState := .retention
      preload := none, leapSince := x.now, leapDone := satAdd 16 x.tile.leapDone 1 } } := by
  intro y
  unfold TX.tryHandover
  dsimp only
  rw [hp]
  dsimp only
  rw [if_pos (by simp [hto, hd, hslot, hs, hq])]
  rfl

end Handover

section Preload
variable {x : TX} {l : Preload} {im dm : Mem} {m : NMap Macro} {flips : NMap (List (List (Nat × Nat)))}
  (hp : x.tile.preload = some l) (hto : l.takeover = false) (hd : l.done = false) (hcode : x.codeImage l.slot = (im, dm, x))
  (hmac : x.preloadMacros l.slot x.tile.rest flips = (some m, x))
include hp hto hd hcode hmac

/-- What a preload has loaded waits for the slot's handover. -/
theorem TX.preloadComplete_loaded :
    let w : Slot := { x.slot l.slot with lap := { (x.slot l.slot).lap with boundaries := 0 } }
    let y := x.setSlot l.slot w
    x.preloadComplete flips = TX.tryHandover { y with tile := { y.tile with
      preload := some { l with done := true, iram := im, macros := m } } } l.slot := by
  intro w y
  simp only [TX.preloadComplete, hp, hto, hd, Bool.or_self, Bool.false_eq_true, if_false, hcode, hmac]
  rfl

theorem TX.preloadComplete_running (hs : (x.slot l.slot).state = .lapRunning) (hb : (x.slot l.slot).lap.begun = true) :
    let w : Slot := { x.slot l.slot with lap := { (x.slot l.slot).lap with boundaries := 0 } }
    let y := x.setSlot l.slot w
    x.preloadComplete flips = { y with tile := { y.tile with
      preload := some { l with done := true, iram := im, macros := m } } } := by
  intro w y
  rw [TX.preloadComplete_loaded hp hto hd hcode hmac]
  have hslot : TX.slot { y with tile := { y.tile with
      preload := some { l with done := true, iram := im, macros := m } } } l.slot = w :=
    TX.slot_setSlot ..
  exact TX.tryHandover_running (by rw [hslot]; exact hs) (by rw [hslot]; exact hb)

theorem TX.preloadComplete_resting (hs : (x.slot l.slot).state = .halted) (hq : (x.slot l.slot).quiet = true) :
    let w : Slot := { x.slot l.slot with lap := { (x.slot l.slot).lap with boundaries := 0 } }
      let y := x.setSlot l.slot { w with iram := im, fetchView := im, macros := m }
    x.preloadComplete flips = { y with tile := { y.tile with
      slotMap := NMap.put x.tile.slotMap l.slot x.tile.rest, rest := x.tile.physOf l.slot, restState := .retention
      preload := none, leapSince := x.now, leapDone := satAdd 16 x.tile.leapDone 1 } } := by
  intro w y
  rw [TX.preloadComplete_loaded hp hto hd hcode hmac]
  let pre : Preload := { l with done := true, iram := im, macros := m }
  let z : TX := { x.setSlot l.slot w with tile := { (x.setSlot l.slot w).tile with preload := some pre } }
  have hslot : z.slot l.slot = w := TX.slot_setSlot ..
  have hmoved := TX.tryHandover_halted (x := z) (k := l.slot) (p := pre) rfl hto rfl rfl (by rw [hslot]; exact hs)
    (by rw [hslot]; exact hq)
  rw [hslot] at hmoved
  refine hmoved.trans ?_
  simp only [TX.setSlot, z, NMap.put_put, y, Tile.physOf, pre]

end Preload

section CoreFault
variable {x : TX} {k c : Nat} {cause : FaultCause}

/-- Slot `v` once its core has failed: its engines have stopped for good (R68, R567). -/
def Slot.coreFailed (v : Slot) (cause : FaultCause) (st : CoreState) : Slot :=
  { v with fault := cause, faultEngine := 0, faultDesc := 0, faultField := 0, queues := {}, eng := {}
           streams := v.endStreams, macros := v.macros.map (fun m => (m.1, m.2.stopLoad)), state := st }

theorem find_physOf (hk : k < 16) (hphys : x.tile.physOf k = c) (hfirst : ∀ j, j < k → x.tile.physOf j ≠ c) :
    (List.range 16).find? (fun k => x.tile.physOf k = c) = some k := by
  rw [List.find?_range_eq_some]
  simpa [hk, hphys] using hfirst

variable (hk : k < 16) (hshed : bitOf x.tile.shedMask c = false) (hphys : x.tile.physOf k = c)
  (hfirst : ∀ j, j < k → x.tile.physOf j ≠ c) (hoff : (x.slot k).state ≠ .off) (hret : (x.slot k).state ≠ .retention)
include hk hshed hphys hfirst hoff hret

/-- A failing core's slot goes to the resting core, where one is free. -/
theorem TX.coreUnitFault_takeover (hrest : x.tile.restValid = true) (hfree : x.takingOver = false) :
    let y := x.setSlot k ((x.slot k).coreFailed cause .preload)
    x.coreUnitFault c cause = TX.note { y with tile := { y.tile with
      shedMask := x.tile.shedMask ||| 2 ^ c, slotMap := NMap.put x.tile.slotMap k x.tile.rest, rest := 31, restState := .off
      preload := some { slot := k, takeover := true } } } true 0x01 2 x.phys c cause.code := by
  intro y
  rw [TX.coreUnitFault, if_neg (by simp [hshed]), find_physOf hk hphys hfirst]
  dsimp only
  rw [if_neg (by simp [hoff, hret])]
  simp only [hrest, hfree, Bool.not_false, Bool.and_true, if_true]
  rfl

/-- A failing core's slot is shed where no core rests. -/
theorem TX.coreUnitFault_shed (hrest : x.tile.restValid = false) (hpre : x.tile.preload = none) :
    let y := x.setSlot k ((x.slot k).coreFailed cause .shed)
    x.coreUnitFault c cause = TX.note { y with tile := { y.tile with
      shedMask := x.tile.shedMask ||| 2 ^ c } } true 0x01 2 x.phys c cause.code := by
  intro y
  rw [TX.coreUnitFault, if_neg (by simp [hshed]), find_physOf hk hphys hfirst]
  dsimp only
  rw [if_neg (by simp [hoff, hret])]
  simp only [hrest, Bool.false_and, Bool.false_eq_true, if_false]
  have hpre' : ∀ y : TX, y.tile.preload = none → (match y.tile.preload with
      | some p => if (p.takeover && decide (p.slot = k)) = true then
          { y with tile := { y.tile with restValid := false, leapStopped := true, preload := none } } else y
      | none => y) = y := by
    intro y hy
    rw [hy]
  exact hpre' _ hpre

end CoreFault

/-- The tile with its takeover load ended: no core rests (R68). -/
def TX.loadEnded (x : TX) : TX :=
  { x with tile := { x.tile with restValid := false, leapStopped := true, preload := none } }

/-- Slot `v` as a takeover load leaves it (R567). -/
def Slot.takenOver (v : Slot) (im dm : Mem) (m : NMap Macro) : Slot :=
  { v with
    state := .halted, sc := {}, iram := im, fetchView := im, dram := dm, macros := m, acc := [], tokens := [], queues := {}
    eng := {}, narrow := [], streams := v.endStreams, regs := NMap.put v.regs 0x38 0
    lap := { v.lap with next := 0, begun := false, waitStart := false, stopPend := false, freezePend := false
                        poisonLap := false, bubbles := 0 } }

/-- A slot that holds nothing back keeps what it is. -/
theorem TX.applyHeld_none {x : TX} {k : Nat} {v : Slot} (hinc : v.heldInc = []) (hbell : v.bell = none) :
    (x.setSlot k v).applyHeld k = x.setSlot k v := by
  rw [TX.applyHeld, TX.slot_setSlot]
  simp only [hinc, hbell, List.foldl_nil, TX.setSlot_setSlot]
  rw [← hinc, ← hbell]

theorem TX.takeoverReady_loaded {x : TX} {l : Preload} {im dm : Mem} {m : NMap Macro} {flips : NMap (List (List (Nat × Nat)))}
    (hp : x.tile.preload = some l) (hto : l.takeover = true) (hinc : (x.slot l.slot).heldInc = [])
    (hbell : (x.slot l.slot).bell = none) (hcode : x.codeImage l.slot = (im, dm, x))
    (hmac : x.preloadMacros l.slot (x.tile.physOf l.slot) flips = (some m, x)) :
    let y := x.setSlot l.slot ((x.slot l.slot).takenOver im dm m)
    x.takeoverReady flips = TX.note y.loadEnded false 0x1F 2 x.phys (x.tile.physOf l.slot) 0 := by
  intro y
  have hheld := TX.applyHeld_none (x := x.loadEnded) (k := l.slot) (v := (x.slot l.slot).takenOver im dm m) hinc hbell
  unfold TX.takeoverReady
  rw [hp]
  dsimp only
  rw [if_neg (by simp [hto]), hcode]
  dsimp only
  rw [hmac]
  exact congrArg (fun w : TX => w.note false 0x1F 2 x.phys (x.tile.physOf l.slot) 0) hheld

section TileResult
variable {i : Instr} {s : State} {t : Nat} {f : TX → TX} {p : Tile} (hi : exec i s = s.act i.wf (fun y => y.onTile t f))
  (hwf : i.wf = true) (ht : t < 256)
include hi hwf ht

/-- A command of a tile that sends nothing out. -/
theorem State.exec_tile (h : f (s.sys.tx t) = { s.sys.tx t with tile := p }) : exec i s = .next (s.withTile t p) := by
  rw [State.exec_quiet hi hwf ht (by rw [h]; rfl), h]

/-- A command of a tile that sends one notice. -/
theorem State.exec_tile_note {u : Bool} {code kind wher sub detail : Nat}
    (h : f (s.sys.tx t) = TX.note { s.sys.tx t with tile := p } u code kind wher sub detail) :
    exec i s = .next ((s.withTile t p).noticed t u code (noticeWord kind wher sub detail)) := by
  rw [State.exec_tileDid hi hwf ht, h, State.tileDid_note _ _ _ _ _ _ _ _ _ (by rfl)]

end TileResult

theorem NMap.get_map_self (f : Nat → Nat) : ∀ (l : List Nat) {j : Nat}, j ∈ l → NMap.get 0 (l.map (fun i => (i, f i))) j = f j
  | [], _, hj => absurd hj (List.not_mem_nil)
  | i :: l, j, hj => by
    by_cases h : i = j
    · simp [NMap.get, h]
    · have hl : j ∈ l := by simpa [Ne.symm h] using hj
      simpa [NMap.get, h] using NMap.get_map_self f l hl

/-- A result whose last part is known. -/
theorem eq_of_snd_snd {α β γ : Type} {p : α × β × γ} {z : γ} (h : p.2.2 = z) : p = (p.1, p.2.1, z) := by
  rw [← h]

/-- Outside Hold a rotation is the tile's own (R472). -/
theorem Sys.leapfrogPeriod_running {s : Sys} (t : Nat) (est : List Nat) (h : s.cool.hold = none) : s.leapfrogPeriod t est =
    s.onTile t (fun x => x.leapfrogPeriod ((List.range 16).map (fun i => (i, est.getD i 0)))) := by
  simp [Sys.leapfrogPeriod, h]

/-- Settles O23. -/
theorem leapfrogAndTakeover : Obligations.LeapfrogAndTakeover := by
  unfold Obligations.LeapfrogAndTakeover
  intro s t k ht hk v x p elig
  have hwf : isTile t = true ∧ isSlot k = true := by simp [isTile, isSlot, ht, hk]
  refine ⟨fun est hen hrest hpre hgo hhold hdue hok hmax => ?rotate, fun l m flips hl hslot hto hd hclean hmac => ?preload,
    fun l hl hslot hto hd hb => ?abandon, fun c cause hc hshed hphys hfirst hoff hret => ?fault,
    fun l m flips hl hslot hto hinc hbell hclean hmac => ?takeover⟩
  case rotate =>
    have hrow : exec (.leapfrogPeriod t est) s = s.act (Instr.leapfrogPeriod t est).wf
        (fun y => y.onTile t (fun x => x.leapfrogPeriod ((List.range 16).map (fun i => (i, est.getD i 0))))) := by
      rw [exec_leapfrogPeriod, State.act, State.act, Sys.leapfrogPeriod_running t est hhold]
    refine State.exec_tile hrow (by simp [Instr.wf, hwf]) ht
      (TX.leapfrogPeriod_due hen hrest hpre hgo hdue (TX.leapChoice_eq hk elig (fun j => Iff.rfl) hok fun j hj hej => ?_))
    rw [NMap.get_map_self _ _ (List.mem_range.mpr hj), NMap.get_map_self _ _ (List.mem_range.mpr hk)]
    exact hmax j hj hej
  case preload =>
    intro w im
    subst hslot
    have hcode : x.codeImage l.slot = (im, (x.codeImage l.slot).2.1, x) := eq_of_snd_snd hclean
    refine ⟨fun hs hb => ?_, fun hs hq hhalt => ?_⟩
    · exact State.exec_tile (exec_preloadComplete t flips s) (by simp [Instr.wf, hwf]) ht
        (TX.preloadComplete_running hl hto hd hcode hmac hs hb)
    · exact State.exec_tile (exec_preloadComplete t flips s) (by simp [Instr.wf, hwf]) ht
        (TX.preloadComplete_resting hl hto hd hcode hmac hs hq)
  case abandon =>
    subst hslot
    exact State.exec_tile (exec_leapfrogAbandon t s) (by simp [Instr.wf, hwf]) ht (TX.leapfrogAbandon_waited hl hto hd hb)
  case fault =>
    intro w
    refine ⟨fun hrest hfree => ?_, fun hrest hpre => ?_⟩
    · exact State.exec_tile_note (exec_coreUnitFault t c cause s) (by simp [Instr.wf, hwf, hc]) ht
        (TX.coreUnitFault_takeover hk hshed hphys hfirst hoff hret hrest hfree)
    · exact State.exec_tile_note (exec_coreUnitFault t c cause s) (by simp [Instr.wf, hwf, hc]) ht
        (TX.coreUnitFault_shed hk hshed hphys hfirst hoff hret hrest hpre)
  case takeover =>
    subst hslot
    have hcode : x.codeImage l.slot = ((x.codeImage l.slot).1, (x.codeImage l.slot).2.1, x) :=
      eq_of_snd_snd hclean
    exact State.exec_tile_note (exec_takeoverReady t flips s) (by simp [Instr.wf, hwf]) ht
      (TX.takeoverReady_loaded hl hto hinc hbell hcode hmac)

end Sys2Proof.Machine

/-! SUPPORT. Laws of the weight audit (R119–R121, R123), and what a tile's output leaves of the tile. -/

namespace Sys2Proof.Machine

/-- What a tile sends out changes no more than the tile's registers, which count a lost notice (R289). -/
theorem Sys.deliverOut_tile (s : Sys) (t : Nat) (o : Out) :
    ∃ r, (s.deliverOut t o).tile t = { s.tile t with regs := r } := by
  cases o with
  | notice u c p =>
    simp only [Sys.deliverOut, Sys.queueNotice]
    repeat' split
    · exact ⟨_, Sys.tile_setTile_same _ t _⟩
    · exact ⟨(s.tile t).regs, by simp⟩
    · exact ⟨(s.tile t).regs, by simp⟩
  | packet p => exact ⟨(s.tile t).regs, rfl⟩
  | frame a f => exact ⟨(s.tile t).regs, rfl⟩
  | message m => exact ⟨(s.tile t).regs, by simp [Sys.deliverOut, Sys.sendMsg]⟩
  | streamGo a => exact ⟨(s.tile t).regs, rfl⟩
  | frameEnd f => exact ⟨(s.tile t).regs, by simp [Sys.deliverOut, Sys.sendMsg]⟩
  | scored kind sub ev n => exact ⟨(s.tile t).regs, rfl⟩

/-- A tile put back is the tile as it came to be, but for its registers. -/
theorem Sys.putTX_tile (s : Sys) (t : Nat) (x : TX) : ∃ r, (s.putTX t x).tile t = { x.tile with regs := r } := by
  refine List.foldlRecOn x.out (fun (s : Sys) o => s.deliverOut t o)
    (motive := fun u => ∃ r, u.tile t = { x.tile with regs := r }) ⟨x.tile.regs, Sys.tile_setTile_same s t x.tile⟩ fun u hu o _ => ?_
  obtain ⟨r, hr⟩ := hu
  obtain ⟨r', hr'⟩ := u.deliverOut_tile t o
  exact ⟨r', by rw [hr', hr]⟩

theorem State.tileDid_store (s : State) (t : Nat) (x : TX) : ((s.tileDid t x).sys.tile t).store = x.tile.store := by
  obtain ⟨r, hr⟩ := s.sys.putTX_tile t x
  exact (congrArg Tile.store hr).trans rfl

theorem State.tileDid_audit (s : State) (t : Nat) (x : TX) : ((s.tileDid t x).sys.tile t).audit = x.tile.audit := by
  obtain ⟨r, hr⟩ := s.sys.putTX_tile t x
  exact (congrArg Tile.audit hr).trans rfl

section Sweep
variable {x : TX}

theorem TX.auditSweep_commit (hidle : x.tile.audit.active = false) (hask : x.tile.audit.commitAsked = true) :
    x.auditSweep = { x with tile := { x.tile with audit := { x.tile.audit with
      active := true, commit := true, commitAsked := false, commitFailed := false, slot := 0, macro_ := 0
      started := x.now } } } := by
  rw [TX.auditSweep]
  dsimp only
  rw [if_neg (by simp [hidle]), if_pos hask]

theorem TX.auditSweep_periodic (hidle : x.tile.audit.active = false) (hask : x.tile.audit.commitAsked = false)
    (hen : bitOf (x.reg 0x160) 16 = true) (hdue : x.tile.audit.started + 1000 * (x.reg 0x160 % 2 ^ 16) ≤ x.now) :
    x.auditSweep = { x with tile := { x.tile with audit := { x.tile.audit with
      active := true, commit := false, slot := 0, macro_ := 0, started := x.now } } } := by
  rw [TX.auditSweep]
  dsimp only
  rw [if_neg (by simp [hidle]), if_neg (by simp [hask]), if_pos (by simpa [hen, bitsOf] using hdue)]

/-- The sweep's next Macro: the first one from its place on that is loaded and not loading. -/
theorem TX.auditNext_eq {k m : Nat} (hk : k < 16) (hm : m < 16)
    (hat : 16 * x.tile.audit.slot + x.tile.audit.macro_ ≤ 16 * k + m)
    (hfirst : ∀ j, 16 * x.tile.audit.slot + x.tile.audit.macro_ ≤ j → j < 16 * k + m →
      (((x.slot (j / 16)).macroAt (j % 16)).loaded && !((x.slot (j / 16)).macroAt (j % 16)).loading) = false)
    (hl : ((x.slot k).macroAt m).loaded = true) (hnl : ((x.slot k).macroAt m).loading = false) :
    x.auditNext = some (16 * k + m) := by
  have hdiv : (16 * k + m) / 16 = k := by omega
  have hmod : (16 * k + m) % 16 = m := by omega
  rw [TX.auditNext, List.find?_range_eq_some]
  refine ⟨by simp [hdiv, hmod, hat, hl, hnl], List.mem_range.mpr (by omega), fun j hj => ?_⟩
  by_cases hge : 16 * x.tile.audit.slot + x.tile.audit.macro_ ≤ j
  · rw [Bool.and_assoc, hfirst j hge hj, Bool.and_false]
    rfl
  · simp [hge]

end Sweep

section MacroRead
variable {x : TX} {k m : Nat} (hm : m < 16) (hact : x.tile.audit.active = true) (hnext : x.auditNext = some (16 * k + m))

/-- The audit's record once Macro `m` of slot `k` has been read. -/
def Audit.past (a : Audit) (k m : Nat) : Audit := { a with slot := (16 * k + m + 1) / 16, macro_ := (16 * k + m + 1) % 16 }

/-- The record of a Macro whose CRC does not hold: counted, and queued for a reload once (R120). -/
def Audit.failed (a : Audit) (k m : Nat) : Audit :=
  { a with mismatches := satAdd 16 a.mismatches 1, commitFailed := a.commitFailed || a.commit
           reloads := if a.reloads.contains (k, m) then a.reloads else a.reloads ++ [(k, m)] }

theorem Audit.failed_contains (a : Audit) (k m : Nat) : (a.failed k m).reloads.contains (k, m) = true := by
  unfold Audit.failed
  dsimp only
  split
  · assumption
  · simp

/-- The tile with its audit's record replaced. -/
def TX.setAudit (x : TX) (a : Audit) : TX := { x with tile := { x.tile with audit := a } }

theorem TX.setAudit_setSlot (x : TX) (a : Audit) (k : Nat) (v : Slot) : (x.setSlot k v).setAudit a = (x.setAudit a).setSlot k v := rfl

/-- A tile whose sweep may have ended. -/
theorem TX.sweepEnd_tile (y : TX) (p : Prop) [Decidable p] :
    ∃ b n, (if p then y.setAudit { y.tile.audit with active := false, sweeps := satAdd 16 y.tile.audit.sweeps 1 } else y).tile =
      { y.tile with audit := { y.tile.audit with active := b, sweeps := n } } := by
  split
  · exact ⟨false, _, rfl⟩
  · exact ⟨_, _, rfl⟩

include hm hact hnext

/-- A Macro whose CRC holds is passed over; the sweep ends with the last one. -/
theorem TX.macroAudit_holds (hcrc : macroCrc ((x.slot k).macroAt m).cells ((x.slot k).macroAt m).fmt
      ((x.slot k).macroAt m).scales = ((x.slot k).macroAt m).crc) :
    ∃ b n, (x.macroAudit []).tile = { (x.setSlot k ((x.slot k).setMacro m ((x.slot k).macroAt m))).tile with
      audit := { x.tile.audit.past k m with active := b, sweeps := n } } := by
  have hdiv : (16 * k + m) / 16 = k := by omega
  have hmod : (16 * k + m) % 16 = m := by omega
  rw [TX.macroAudit]
  dsimp only
  rw [if_neg (by simp [hact]), hnext]
  simp only [hdiv, hmod, List.foldl_nil, hcrc, ne_eq, not_true_eq_false, decide_false, Bool.or_false, Bool.false_eq_true,
    if_false]
  exact TX.sweepEnd_tile ((x.setAudit (x.tile.audit.past k m)).setSlot k ((x.slot k).setMacro m ((x.slot k).macroAt m))) _

/-- A Macro whose CRC does not hold is poisoned, counted and queued for a reload. -/
theorem TX.macroAudit_fails (hcrc : macroCrc ((x.slot k).macroAt m).cells ((x.slot k).macroAt m).fmt
      ((x.slot k).macroAt m).scales ≠ ((x.slot k).macroAt m).crc) :
    ∃ b n, (x.macroAudit []).tile = { (x.setSlot k (Slot.bump ((x.slot k).setMacro m
        { (x.slot k).macroAt m with poisoned := true }) 0x3C 31 16 1)).tile with
      audit := { (x.tile.audit.past k m).failed k m with active := b, sweeps := n } } := by
  have hdiv : (16 * k + m) / 16 = k := by omega
  have hmod : (16 * k + m) % 16 = m := by omega
  rw [TX.macroAudit]
  dsimp only
  rw [if_neg (by simp [hact]), hnext]
  simp only [hdiv, hmod, List.foldl_nil, hcrc, ne_eq, not_false_eq_true, decide_true, Bool.or_true, if_true]
  let v := (x.slot k).setMacro m { (x.slot k).macroAt m with poisoned := true }
  let y := (x.setAudit ((x.tile.audit.past k m).failed k m)).setSlot k v
  have hbump : y.modSlot k (fun s => s.bump 0x3C 31 16 1) =
      (x.setAudit ((x.tile.audit.past k m).failed k m)).setSlot k (v.bump 0x3C 31 16 1) := by
    rw [TX.modSlot, TX.slot_setSlot, TX.setSlot_setSlot]
  let z := ((y.modSlot k (fun s => s.bump 0x3C 31 16 1)).note true ncMacroMismatch ukCore x.phys (x.tile.physOf k) m).emit
    (.scored ukCore (x.tile.physOf k) evMacroMismatch 1)
  obtain ⟨b, n, hend⟩ := TX.sweepEnd_tile z (z.auditNext.isNone = true)
  refine ⟨b, n, Eq.trans hend ?_⟩
  simp only [z]
  rw [hbump]
  rfl

end MacroRead

/-- A reload whose CRC holds takes the Macro's place (R120). -/
theorem TX.auditReload_matches {x : TX} {k m : Nat} {rest : List (Nat × Nat)} {r : MacroRead}
    (hq : x.tile.audit.reloads = (k, m) :: rest) (hl : ((x.slot k).macroAt m).loaded = true)
    (hidle : (x.slot k).eng.load = none) :
    let y := x.setAudit { x.tile.audit with reloads := rest }
    y.reloadMacro k k ((x.slot k).macroAt m) [] = (r, y) → r.mismatch = false →
    x.auditReload [] = y.setSlot k ((x.slot k).setMacro m { r.mac with poisoned := false }) := by
  intro y hread hmatch
  rw [TX.auditReload, hq]
  dsimp only
  have hl' : ((y.slot k).macroAt m).loaded = true := hl
  rw [if_neg (by simp [hidle])]
  refine (if_neg (show ¬(!((y.slot k).macroAt m).loaded) = true by rw [hl']; decide)).trans ?_
  have hread' : TX.reloadMacro { x with tile := { x.tile with audit := { x.tile.audit with reloads := rest } } } k k
    (TX.slot { x with tile := { x.tile with audit := { x.tile.audit with reloads := rest } } } k |>.macroAt m) [] = (r, y) := hread
  rw [hread']
  dsimp only
  rw [if_pos (by simp [hmatch]), hmatch]
  rfl

theorem Slot.macroAt_setMacro (v : Slot) (m : Nat) (c : Macro) : (v.setMacro m c).macroAt m = c :=
  NMap.get_put_same ..

theorem Slot.macroAt_bump (v : Slot) (off hi lo n m : Nat) : (v.bump off hi lo n).macroAt m = v.macroAt m := rfl

/-- Settles O24. -/
theorem weightAudit : Obligations.WeightAudit := by
  unfold Obligations.WeightAudit
  intro s t ht x p a
  have hwf : isTile t = true := by simp [isTile, ht]
  refine ⟨fun hidle hask => ?commit, fun hidle hask hen hdue => ?periodic,
    fun k m hk hm hact hat hfirst => ?sweep, fun k m rest hk hq hl hidle => ?reload⟩
  case' sweep => intro c hl hnl; refine ⟨fun hcrc => ?holds, fun hcrc => ?fails⟩
  case commit =>
    exact State.exec_tile (exec_auditSweep t s) (by simp [Instr.wf, hwf]) ht (TX.auditSweep_commit hidle hask)
  case periodic =>
    exact State.exec_tile (exec_auditSweep t s) (by simp [Instr.wf, hwf]) ht (TX.auditSweep_periodic hidle hask hen hdue)
  case holds =>
    obtain ⟨b, n, htile⟩ := TX.macroAudit_holds hm hact (TX.auditNext_eq (x := x) hk hm hat hfirst hl hnl) hcrc
    refine ⟨_, State.exec_tileDid (exec_macroAudit t [] s) (by simp [Instr.wf, hwf]) ht, ?_, ?_, ?_, ?_⟩
    · rw [State.slot_tileDid, TX.slot, htile]
      exact (congrArg (fun v => Slot.macroAt v m) (TX.slot_setSlot x k _)).trans (Slot.macroAt_setMacro ..)
    · rw [State.tileDid_audit, htile]
      simp only [Audit.past]
      omega
    · rw [State.tileDid_audit, htile]
      rfl
    · rw [State.tileDid_audit, htile]
      rfl
  case fails =>
    obtain ⟨b, n, htile⟩ := TX.macroAudit_fails hm hact (TX.auditNext_eq (x := x) hk hm hat hfirst hl hnl) hcrc
    refine ⟨_, State.exec_tileDid (exec_macroAudit t [] s) (by simp [Instr.wf, hwf]) ht, ?_, ?_, ?_⟩
    · rw [State.slot_tileDid, TX.slot, htile]
      exact (congrArg (fun v => Slot.macroAt v m) (TX.slot_setSlot x k _)).trans
        ((Slot.macroAt_bump ..).trans (Slot.macroAt_setMacro ..))
    · rw [State.tileDid_audit, htile]
      exact Audit.failed_contains _ k m
    · rw [State.tileDid_audit, htile]
      rfl
  case reload =>
    intro y r hclean hmatch
    have hread : y.reloadMacro k k ((s.slot t k).macroAt m) [] = (r.1, y) := Prod.ext rfl hclean
    exact State.exec_tile (exec_auditReload t [] s) (by simp [Instr.wf, hwf]) ht
      (TX.auditReload_matches hq hl hidle hread hmatch)

end Sys2Proof.Machine

/-! SUPPORT. Laws of what the tile store does by itself: write-backs, parity latches, fills, releases, scrubbing, remaps,
watch entries and reconstructions (R157–R161, R168, R175, R181–R194). -/

namespace Sys2Proof.Machine

section RowWritten
variable {s s' : Store} {row data : Nat}

/-- A row written reads as written. -/
theorem Store.rowData_written (h : s'.data = Mem.write s.data (512 * row) 512 data) : s'.rowData row = data % 2 ^ 4096 := by
  rw [Store.rowData, h, show (2 : Nat) ^ 4096 = 256 ^ 512 by rw [show (256 : Nat) = 2 ^ 8 by rfl, ← Nat.pow_mul]]
  exact Mem.readWide_write_same ..

theorem Store.rowData_unwritten (h : s'.data = Mem.write s.data (512 * row) 512 data) {r : Nat} (hr : r ≠ row) :
    s'.rowData r = s.rowData r := by
  rw [Store.rowData, h]
  exact Mem.readWide_write_other _ _ _ _ _ _ (by omega)

theorem Store.badWords_congr (h : s'.dev = s.dev) (r : Nat) : s'.badWords r = s.badWords r := by
  rw [Store.badWords_eq, Store.badWords_eq, h]

/-- A row whose words are all set clean. -/
theorem Store.badWords_cleaned (h : s'.dev = (s.setRowDev row 0 []).dev) : s'.badWords row = [] :=
  (Store.badWords_congr h row).trans (Store.badWords_setRowDev_same ..)

theorem Store.badWords_uncleaned (h : s'.dev = (s.setRowDev row 0 []).dev) {r : Nat} (hr : r ≠ row) :
    s'.badWords r = s.badWords r :=
  (Store.badWords_congr h r).trans (Store.badWords_setRowDev_other _ _ _ hr)

/-- A word listed with a syndrome is one of its row's bad words. -/
theorem Store.mem_badWords_of_dev {w : Nat} {d : BitVec 8} (hw : w < 64) (h : NMap.get 0 s.dev (64 * row + w) = d)
    (hd : d ≠ 0) : (w, d.toNat) ∈ s.badWords row := by
  rcases NMap.get_eq_default_or_mem 0 s.dev (64 * row + w) with h0 | hmem
  · exact absurd (h.symm.trans h0) hd
  · rw [h] at hmem
    rw [Store.badWords_eq, List.mem_map]
    refine ⟨_, List.mem_filter.mpr ⟨hmem, by simp [hw]⟩, by simp⟩

/-- A row with fewer bad words than two is not marked parity-lost (R181). -/
theorem Store.parityLost_eq_false {l : Nat × Nat} (h : ∀ p ∈ s.badWords row, p = l) : s.parityLost row = false := by
  refine Bool.eq_false_iff.mpr fun hne => ?_
  simp only [Store.parityLost, List.all_eq_true, List.mem_range, decide_eq_true_eq] at hne
  have h0 := h _ (Store.mem_badWords_of_dev (by decide) (hne 0 (by decide)) (by decide))
  have h1 := h _ (Store.mem_badWords_of_dev (by decide) (hne 1 (by decide)) (by decide))
  exact absurd (congrArg Prod.fst (h0.trans h1.symm)) (by decide)

end RowWritten

section WriteBack
variable {x : TX}

/-- A write-back whose row holds correctable words only leaves the corrected row, clean (R175). -/
theorem TX.applyWriteBack_corrects {w : WriteBack} (hp : w.poison = []) (hf : w.fix = [])
    (hbad : ∀ b, b ∈ x.tile.store.badWords w.row → synClass b.2 ≠ .poison ∧ synClass b.2 ≠ .uncorrectable) :
    ∃ found, x.applyWriteBack w = x.setStore (Store.setRowDev { x.tile.store with
      data := Mem.write x.tile.store.data (512 * w.row) 512
        (correctRow (x.tile.store.rowData w.row) (x.tile.store.badWords w.row))
      found := found } w.row 0 []) := by
  have hleft : (x.tile.store.badWords w.row).filter (fun p =>
      (decide (synClass p.2 = .poison) || decide (synClass p.2 = .uncorrectable)) &&
        (NMap.find w.fix p.1).isNone && !w.poison.contains p.1) = [] := by
    rw [List.filter_eq_nil_iff]
    intro b hb
    simp [hbad b hb]
  rw [TX.applyWriteBack]
  dsimp only
  rw [hleft, hp, hf]
  exact ⟨_, rfl⟩

/-- The oldest write-back of a bank without more urgent work, of a row with correctable words only. -/
theorem TX.correctionWriteBack_corrects {bank : Nat} {w : WriteBack} {rest : List WriteBack}
    (hq : NMap.get [] x.tile.store.wb bank = w :: rest) (hfree : x.tile.store.latchOrRemap bank = false)
    (hp : w.poison = []) (hf : w.fix = [])
    (hbad : ∀ b, b ∈ x.tile.store.badWords w.row → synClass b.2 ≠ .poison ∧ synClass b.2 ≠ .uncorrectable) :
    ∃ found, x.correctionWriteBack bank = x.setStore (Store.setRowDev { x.tile.store with
      wb := NMap.set [] x.tile.store.wb bank rest
      data := Mem.write x.tile.store.data (512 * w.row) 512
        (correctRow (x.tile.store.rowData w.row) (x.tile.store.badWords w.row))
      found := found } w.row 0 []) := by
  have hhead : x.correctionWriteBack bank =
      (x.setStore { x.tile.store with wb := NMap.set [] x.tile.store.wb bank rest }).applyWriteBack w := by
    simp [TX.correctionWriteBack, hq, hfree]
  rw [hhead]
  exact TX.applyWriteBack_corrects (x := x.setStore { x.tile.store with wb := NMap.set [] x.tile.store.wb bank rest })
    hp hf hbad

/-- A latch whose parity row reads clean goes into it (R183). -/
theorem TX.commitLatch_clean {bank : Nat} {l : ParityLatch} (hl : NMap.find x.tile.store.latches bank = some l)
    (hclean : x.tile.store.badWords l.row = []) :
    x.commitLatch bank = x.setStore (Store.setRowDev
      { Store.cancelWriteBack { x.tile.store with latches := NMap.erase x.tile.store.latches bank } l.row with
        data := Mem.write x.tile.store.data (512 * l.row) 512 (x.tile.store.rowData l.row ^^^ l.delta) } l.row 0 []) := by
  have hbad : (x.setStore { x.tile.store with latches := NMap.erase x.tile.store.latches bank }).tile.store.badWords l.row = [] :=
    hclean
  have hlost := Store.parityLost_eq_false (l := (0, 0)) (by rw [hbad]; nofun)
  unfold TX.commitLatch
  rw [hl]
  dsimp only
  rw [if_neg (by rw [hlost]; decide), hbad]
  rfl

end WriteBack

section Fill
variable {x : TX}

/-- `n` rows from `first` on filled with `pat`, one after the other. -/
def TX.fillRows (x : TX) (first pat n : Nat) : TX :=
  (List.range n).foldl (fun x i => x.putRow (first + i) pat false fillEntrant) x

theorem TX.fillRows_succ (first pat n : Nat) :
    x.fillRows first pat (n + 1) = (x.fillRows first pat n).putRow (first + n) pat false fillEntrant := by
  simp [TX.fillRows, List.range_succ]

/-- A fill leaves everything of the tile but its rows' data and check bits, and what waits to be done about the rows. -/
theorem TX.fillRows_keeps (first pat n : Nat) :
    let y := x.fillRows first pat n
    y.tile.store.regions = x.tile.store.regions ∧ y.tile.store.fills = x.tile.store.fills ∧ y.tile.regs = x.tile.regs ∧
      y.out = x.out := by
  induction n with
  | zero => exact ⟨rfl, rfl, rfl, rfl⟩
  | succ n ih => rw [TX.fillRows_succ, TX.putRow_eq _ _ _ _ (by decide)]; exact ih

/-- Every row of a fill reads as the pattern, clean; every other row is as before. -/
theorem TX.fillRows_rows (first pat n : Nat) :
    let y := x.fillRows first pat n
    (∀ i, i < n → y.tile.store.rowData (first + i) = pat % 2 ^ 4096 ∧ y.tile.store.badWords (first + i) = []) ∧
    (∀ r, r < first ∨ first + n ≤ r →
      y.tile.store.rowData r = x.tile.store.rowData r ∧ y.tile.store.badWords r = x.tile.store.badWords r) := by
  induction n with
  | zero => exact ⟨nofun, fun _ _ => ⟨rfl, rfl⟩⟩
  | succ n ih =>
    obtain ⟨hin, hout⟩ := ih
    obtain ⟨hdata, hbad, hother, -⟩ := rowWriteAndFrame (x.fillRows first pat n) (first + n) pat fillEntrant false (by decide)
    rw [TX.fillRows_succ]
    refine ⟨fun i hi => ?_, fun r hr => ?_⟩
    · rcases Nat.lt_succ_iff_lt_or_eq.mp hi with hlt | rfl
      · obtain ⟨hd, hb⟩ := hother (first + i) (by omega)
        exact ⟨hd.trans (hin i hlt).1, hb.trans (hin i hlt).2⟩
      · exact ⟨hdata, hbad⟩
    · obtain ⟨hd, hb⟩ := hother r (by omega)
      obtain ⟨hd', hb'⟩ := hout r (by omega)
      exact ⟨hd.trans hd', hb.trans hb'⟩

/-- A fill of part of a region that is not mirrored puts its rows in turn. -/
theorem TX.storeFillDone_part {f : Fill} {rest : List Fill} {r : Region} (hf : x.tile.store.fills = f :: rest)
    (hn : f.region < 64) (hr : x.tile.store.region f.region = some r) (hcls : r.cls ≠ 1) (hm : r.mirror = false)
    (hset : f.setInit = false) (hpart : f.first = 0 → f.count ≠ r.size) :
    x.storeFillDone = (x.setStore { x.tile.store with fills := rest }).fillRows (r.base + f.first)
      ((List.range 64).foldl (fun a i => a + f.pattern * 2 ^ (64 * i)) 0) f.count := by
  let y := x.setStore { x.tile.store with fills := rest }
  generalize hpat : (List.range 64).foldl (fun a i => a + f.pattern * 2 ^ (64 * i)) 0 = pat
  have hrows : y.putRegionRows f.region fillEntrant ((List.range f.count).map (fun i => (f.first + i, pat, false))) =
      y.fillRows (r.base + f.first) pat f.count := by
    have hry : y.tile.store.region f.region = some r := hr
    simp only [TX.putRegionRows, hry, hcls, ne_eq, not_false_eq_true, if_true, List.foldl_map, TX.fillRows, Region.storeRow,
      if_false, Nat.add_assoc]
  have hkeep : (y.fillRows (r.base + f.first) pat f.count).tile.store.region f.region = some r := by
    rw [Store.region, (TX.fillRows_keeps (x := y) _ _ _).1]
    exact hr
  unfold TX.storeFillDone
  rw [hf]
  dsimp only
  rw [hpat, if_neg (by omega), hr]
  dsimp only
  rw [show (x.setStore { x.tile.store with fills := rest }).putRegionRows _ _ _ = _ from hrows,
    TX.markDirty_unmirrored hkeep hm, if_neg (by simp only [hset]; simpa using hpart)]

/-- A fill that no command waits for is the tile's own. -/
theorem Sys.storeFillDone_unwaited {s : Sys} {t : Nat} (ht : t < 256) (hw : s.lead.waits = [])
    (hf : (s.tile t).store.fills ≠ []) (ho : ((s.tx t).storeFillDone).out = []) :
    s.storeFillDone t = s.onTile t (fun x => x.storeFillDone) := by
  rw [Sys.storeFillDone, if_neg (by simp [ht, hf])]
  dsimp only
  rw [Sys.onTile_quiet s t _ ht ho, Sys.setTile_lead, hw]
  rfl

end Fill

/-- Where no command waits, none is answered. -/
theorem Sys.answerWaits_none {s : Sys} (h : s.lead.waits = []) (sel : WaitFor → Bool) (f : Reply → Reply) :
    s.answerWaits sel f = s := by
  simp only [Sys.answerWaits, h, List.filter_nil, List.foldl_nil, Sys.modLead]
  rw [← h]

section Release
variable {x : TX} {n : Nat}

/-- A release without holes to keep clears the region's entry (R157). -/
theorem TX.regionReleaseDone_clears (hv : (NMap.get {} x.tile.store.regions n).valid = true)
    (hrel : (NMap.get {} x.tile.store.regions n).releasing = true) (hh : x.tile.store.holes = [])
    (hf : x.tile.store.fills.any (fun f => f.region = n) = false) :
    x.regionReleaseDone n = x.setStore { x.tile.store with
      regions := NMap.put x.tile.store.regions n { NMap.get {} x.tile.store.regions n with
        valid := false, init := false, mirror := false, releasing := false } } := by
  rw [TX.regionReleaseDone]
  dsimp only
  rw [if_pos (by rw [hv, hrel, hf]; rfl), hh, List.map_nil, ← hh]

/-- A release that no command waits for, of a region without a mirror, is the tile's own. -/
theorem Sys.regionReleaseDone_unwaited {s : Sys} {t : Nat} (ht : t < 256) (hw : s.lead.waits = [])
    (hm : NMap.find (s.tile t).mirrorAt n = none) (hrel : (NMap.get {} (s.tile t).store.regions n).releasing = true)
    (hf : (s.tile t).store.fills.any (fun f => f.region = n) = false) {st : Store}
    (hdone : (s.tx t).regionReleaseDone n = (s.tx t).setStore st) :
    s.regionReleaseDone t n = s.onTile t (fun x => x.regionReleaseDone n) := by
  have hon : s.onTile t (fun x => x.regionReleaseDone n) = s.setTile t ((s.tx t).setStore st).tile := by
    rw [Sys.onTile_quiet s t _ ht (by rw [hdone]; rfl), hdone]
  rw [Sys.regionReleaseDone]
  dsimp only
  rw [if_neg (by rw [hrel, hf]; simp [ht]), hon, Sys.tile_setTile_same, TX.setStore_tile_mirrorAt, Sys.tx_tile, hm]
  dsimp only
  exact Sys.answerWaits_none (s := s.setTile t _) hw _ _

end Release

section Scrub
variable {x : TX}

theorem TX.scrubPassStart_due (hen : bitOf (x.reg 0x254) 16 = true) (hidle : x.tile.store.scrub.active = false)
    (hdue : x.tile.store.scrub.passStart + 1000000 * (x.reg 0x254 % 2 ^ 16) ≤ x.now) :
    x.scrubPassStart = x.setStore { x.tile.store with scrub := { x.tile.store.scrub with
      active := true, pos := 0, passStart := x.now, spans := x.tile.store.initSpans } } := by
  rw [TX.scrubPassStart]
  dsimp only
  rw [if_pos (by simpa [TX.scrubEnabled, TX.scrubPeriod, hen, hidle, bitsOf] using hdue)]
  rfl

/-- A row that reads clean in the middle of a pass is read on (R187). -/
theorem TX.scrubRead_clean {row n : Nat} {r : Region} (hact : x.tile.store.scrub.active = true)
    (hnext : x.tile.store.nextInit x.tile.store.scrub.pos = some row) (hreg : x.tile.store.regionOf row = some (n, r))
    (hcls : r.cls ≠ 1) (hclean : x.tile.store.badWords row = []) (hen : bitOf (x.reg 0x254) 16 = true)
    (hmore : x.tile.store.nextInit (row + 1) ≠ none) :
    x.scrubRead [] = x.setStore { x.tile.store with scrub := { x.tile.store.scrub with pos := row + 1, last := row } } := by
  have hx : x.setStore (([] : List (Nat × Nat × Nat)).foldl (fun s u => s.upset u.1 u.2.1 u.2.2) x.tile.store) = x := rfl
  rw [TX.scrubRead]
  dsimp only
  rw [hx, if_neg (by simp [hact, TX.scrubEnabled, hen]), hnext]
  simp only [hreg, if_neg hcls, TX.readRow_clean hclean]
  have hmore' : Store.nextInit (TX.setStore x { x.tile.store with
      scrub := { x.tile.store.scrub with pos := row + 1, last := row } }).tile.store (row + 1) ≠ none := hmore
  split
  next h => exact absurd h hmore'
  next h => rfl

theorem TX.watchExpiry_eq (bank : Nat) : x.watchExpiry bank = x.setStore { x.tile.store with
    watch := NMap.set [] x.tile.store.watch bank ((NMap.get [] x.tile.store.watch bank).filter
      (fun e => decide (x.now < e.first + 86400000000000))) } := rfl

/-- Arming an injection takes the 14 bits of its target and sets the armed bit (R194). -/
theorem TX.writeReg_injectArm {v : Nat} (hold : x.reg 0x260 < 2 ^ 14) :
    (x.writeReg 0x260 (v ||| 2 ^ 16) false).2 = x.setReg 0x260 (v % 2 ^ 14 + 2 ^ 16) := by
  obtain ⟨r, hr, hrw, hw1c, hw1s⟩ : ∃ r, regAt tileRows 0x260 = some r ∧ r.rw = 2 ^ 14 - 1 ∧ r.w1c = 0 ∧ r.w1s = 2 ^ 16 :=
    ⟨_, rfl, rfl, rfl, rfl⟩
  have harm : (v ||| 2 ^ 16) &&& 2 ^ 16 = 2 ^ 16 := by
    apply Nat.eq_of_testBit_eq
    intro i
    simp only [Nat.testBit_and, Nat.testBit_or]
    cases (2 ^ 16).testBit i <;> simp
  have hlow : (v ||| 2 ^ 16) &&& (2 ^ 14 - 1) = v % 2 ^ 14 := by
    rw [Nat.and_two_pow_sub_one_eq_mod, Nat.or_mod_two_pow]
    exact Nat.or_zero _
  have hval : regWritten r (x.reg 0x260) (v ||| 2 ^ 16) = v % 2 ^ 14 := by
    simp only [regWritten, hrw, hw1c, hlow, Nat.and_zero, Nat.sub_zero]
    rw [Nat.and_two_pow_sub_one_eq_mod, Nat.mod_eq_of_lt hold, Nat.sub_self, Nat.zero_add]
  have hor : v % 16384 ||| 65536 = v % 16384 + 65536 := by
    have := Nat.two_pow_add_eq_or_of_lt (i := 16) (b := v % 16384) (by omega) 1
    rw [Nat.or_comm, Nat.add_comm]
    simpa using this.symm
  have hblock : x.tile.blockAt 0x260 = none := rfl
  have hlimit : tileLimitOk 0x260 (v ||| 2 ^ 16) = true := rfl
  unfold TX.writeReg
  rw [hblock]
  dsimp only
  rw [hlimit, hr]
  dsimp only
  rw [hval, hw1s, harm, if_neg (by decide), if_neg (by decide), if_pos rfl]
  simp [TX.reg, TX.setReg, hor]

end Scrub

section SpareState

/-- What a store knows of its spare rows and holes: the spare rows taken, the rows mapped onto them, the field row map's
waiting entries and the holes (R170, R189–R192). -/
def Store.spareState (s : Store) : NMap Nat × NMap Nat × List Nat × List Hole :=
  (s.sparesUsed, s.remapped, s.fieldMapTodo, s.holes)

/-- What the tile's store knows of its spare rows and holes. -/
def TX.spares (x : TX) : NMap Nat × NMap Nat × List Nat × List Hole := x.tile.store.spareState

variable (x : TX)

theorem TX.spares_setStore (s : Store) : (x.setStore s).spares = s.spareState := rfl
@[simp] theorem TX.spares_bump (off hi lo n : Nat) : (x.bump off hi lo n).spares = x.spares := rfl
@[simp] theorem TX.spares_emit (o : Out) : (x.emit o).spares = x.spares := rfl
@[simp] theorem TX.spares_protLog (row word cause syn entrant : Nat) :
    (x.protLog row word cause syn entrant).spares = x.spares := rfl

@[simp] theorem TX.spares_askRemap (row word syn : Nat) : (x.askRemap row word syn).spares = x.spares := by
  unfold TX.askRemap
  dsimp only
  split <;> rfl

@[simp] theorem TX.spares_watchCorrection (row word syn : Nat) : (x.watchCorrection row word syn).spares = x.spares := by
  unfold TX.watchCorrection
  dsimp only
  repeat' split
  all_goals simp [TX.spares_setStore]
  all_goals rfl

@[simp] theorem TX.spares_queueWriteBack (w : WriteBack) : (x.queueWriteBack w).spares = x.spares := by
  unfold TX.queueWriteBack
  dsimp only
  repeat' split
  all_goals rfl

@[simp] theorem TX.spares_noteCorrected (row entrant : Nat) (cor : List (Nat × Nat)) (init : Bool) :
    (x.noteCorrected row entrant cor init).spares = x.spares := by
  unfold TX.noteCorrected
  dsimp only
  repeat' split
  all_goals simp

@[simp] theorem TX.spares_noteUncorrectable (row entrant : Nat) (unc : List (Nat × Nat)) (init : Bool) :
    (x.noteUncorrectable row entrant unc init).spares = x.spares := by
  unfold TX.noteUncorrectable
  dsimp only
  repeat' split
  all_goals simp [TX.spares_setStore]
  all_goals rfl

@[simp] theorem TX.spares_setRecon (l : List Nat) : (x.setStore { x.tile.store with recon := l }).spares = x.spares := rfl

@[simp] theorem TX.spares_setLatches (l : NMap ParityLatch) :
    (x.setStore { x.tile.store with latches := l }).spares = x.spares := rfl

@[simp] theorem TX.spares_setRow (row : Nat) (d : Mem) (ws : List (Nat × Nat)) :
    (x.setStore (Store.setRowDev { x.tile.store with data := d } row 0 ws)).spares = x.spares := rfl

@[simp] theorem TX.spares_replaceRow (row : Nat) (d : Mem) (ws : List (Nat × Nat)) :
    (x.setStore (Store.setRowDev { x.tile.store.cancelWriteBack row with data := d } row 0 ws)).spares = x.spares := rfl

@[simp] theorem TX.spares_groupReads (rows : List Nat) (entrant : Nat) (init : Bool) :
    (x.groupReads rows entrant init).spares = x.spares := by
  unfold TX.groupReads
  refine List.foldlRecOn rows _ (motive := fun y : TX => y.spares = x.spares) rfl fun y hy o _ => ?_
  dsimp only
  repeat' split
  all_goals simp [hy]

@[simp] theorem TX.spares_commitLatch (bank : Nat) : (x.commitLatch bank).spares = x.spares := by
  unfold TX.commitLatch
  split
  · rfl
  dsimp only
  split
  · rfl
  split <;> simp

@[simp] theorem TX.spares_reconstruct (r : Region) (row entrant : Nat) (init : Bool) (data : Nat) (ws : List (Nat × Nat)) :
    (x.reconstruct r row entrant init data ws).2.2.spares = x.spares := by
  unfold TX.reconstruct
  dsimp only
  repeat' split
  all_goals simp

@[simp] theorem TX.spares_applyWriteBack (w : WriteBack) : (x.applyWriteBack w).spares = x.spares := rfl

@[simp] theorem TX.spares_remapData (row : Nat) : (x.remapData row).spares = x.spares := by
  unfold TX.remapData
  dsimp only
  repeat' split
  all_goals simp

end SpareState

theorem NMap.find_append_hit {α : Type} (a b : NMap α) (k : Nat) (v : α) (h : ∀ p ∈ a, p.1 ≠ k) :
    NMap.find (a ++ (k, v) :: b) k = some v := by
  induction a with
  | nil => simp [NMap.find]
  | cons p a ih =>
    have hp := h p List.mem_cons_self
    simpa [NMap.find, hp] using ih fun p' hp' => h p' (List.mem_cons_of_mem _ hp')

theorem NMap.find_put_same {α : Type} (m : NMap α) (k : Nat) (v : α) : NMap.find (NMap.put m k v) k = some v := by
  refine NMap.find_append_hit _ _ k v fun p hp => ?_
  have := (List.mem_filter.mp hp).2
  simp only [decide_eq_true_eq] at this
  omega

section LiveRemap
variable {x : TX} {q : Remap} {rest : List Remap} (hq : x.tile.store.remapQ = q :: rest)
  (hrecon : x.tile.store.recon.contains q.row = false) (hlatch : NMap.find x.tile.store.latches (q.row % 64) = none)
include hq hrecon hlatch

/-- A row due for a live remap takes the bank's next spare row. -/
theorem TX.liveRemap_spare {i : Nat} (hi : x.tile.store.nextSpare (q.row % 64) = some i) :
    x.liveRemap.spares = (NMap.put x.tile.store.sparesUsed (q.row % 64) (NMap.get 0 x.tile.store.sparesUsed (q.row % 64) ||| 2 ^ i),
      NMap.put x.tile.store.remapped q.row i, x.tile.store.fieldMapTodo ++ [q.row], x.tile.store.holes) ∧
    x.liveRemap.tile.store.remapQ.any (fun r => r.row = q.row) = false := by
  let y := x.setStore { x.tile.store with remapQ := rest, fieldMapTodo := x.tile.store.fieldMapTodo ++ [q.row] }
  have hspares : (y.remapData q.row).spares = y.spares := TX.spares_remapData y q.row
  have hused : (y.remapData q.row).tile.store.sparesUsed = x.tile.store.sparesUsed := congrArg (·.1) hspares
  have hmapped : (y.remapData q.row).tile.store.remapped = x.tile.store.remapped := congrArg (·.2.1) hspares
  have htodo : (y.remapData q.row).tile.store.fieldMapTodo = x.tile.store.fieldMapTodo ++ [q.row] :=
    congrArg (·.2.2.1) hspares
  have hholes : (y.remapData q.row).tile.store.holes = x.tile.store.holes := congrArg (·.2.2.2) hspares
  have hgone (l : List Remap) : (l.filter (fun r => r.row ≠ q.row)).any (fun r => r.row = q.row) = false := by
    simp
  have hi' : Store.nextSpare { x.tile.store with remapQ := rest, fieldMapTodo := x.tile.store.fieldMapTodo ++ [q.row] }
    (q.row % 64) = some i := hi
  have hrun : x.liveRemap.spares = (NMap.put (y.remapData q.row).tile.store.sparesUsed (q.row % 64)
        (NMap.get 0 (y.remapData q.row).tile.store.sparesUsed (q.row % 64) ||| 2 ^ i),
      NMap.put (y.remapData q.row).tile.store.remapped q.row i, (y.remapData q.row).tile.store.fieldMapTodo,
      (y.remapData q.row).tile.store.holes) ∧ x.liveRemap.tile.store.remapQ.any (fun r => r.row = q.row) = false := by
    unfold TX.liveRemap
    rw [hq]
    dsimp only
    rw [if_neg (by rw [hrecon, hlatch]; decide), hi']
    dsimp only
    split
    · exact ⟨rfl, hgone _⟩
    · exact ⟨rfl, hgone _⟩
  rwa [hused, hmapped, htodo, hholes] at hrun

omit hq hrecon hlatch in
/-- A row not yet in the hole list enters it; the rows' data and check bits stay. -/
theorem TX.addHole_new {row word syn : Nat} (hroom : x.tile.store.holes.length < 256)
    (hnew : x.tile.store.holes.any (fun h => h.row = row) = false) :
    let st := (x.addHole row word syn).tile.store
    st.remapQ = x.tile.store.remapQ ∧ { row := row, pending := (x.tile.store.regionOf row).isSome } ∈ st.holes ∧
      st.data = x.tile.store.data ∧ st.dev = x.tile.store.dev := by
  intro st
  simp only [st, TX.addHole]
  rw [if_neg (by simpa using hnew), if_neg (by simpa using hroom)]
  unfold TX.logRow
  split
  · exact ⟨rfl, List.mem_append_right _ List.mem_cons_self, rfl, rfl⟩
  · exact ⟨rfl, List.mem_append_right _ List.mem_cons_self, rfl, rfl⟩

/-- With no spare row left the row becomes a capacity hole (R192). -/
theorem TX.liveRemap_hole (hnone : x.tile.store.nextSpare (q.row % 64) = none) (hroom : x.tile.store.holes.length < 256)
    (hnew : x.tile.store.holes.any (fun h => h.row = q.row) = false) :
    let st := x.liveRemap.tile.store
    st.remapQ = rest ∧ { row := q.row, pending := (x.tile.store.regionOf q.row).isSome } ∈ st.holes ∧
      st.data = x.tile.store.data ∧ st.dev = x.tile.store.dev := by
  let y := x.setStore { x.tile.store with remapQ := rest, fieldMapTodo := x.tile.store.fieldMapTodo ++ [q.row] }
  have hnone' : Store.nextSpare { x.tile.store with remapQ := rest, fieldMapTodo := x.tile.store.fieldMapTodo ++ [q.row] }
    (q.row % 64) = none := hnone
  have hst : x.liveRemap = y.addHole q.row q.word q.syn := by
    unfold TX.liveRemap
    rw [hq]
    dsimp only
    rw [if_neg (by rw [hrecon, hlatch]; decide), hnone']
  rw [hst]
  exact TX.addHole_new (x := y) hroom hnew

end LiveRemap

theorem Sys.flash_setFlash (s : Sys) (h i : Nat) (f : Flash) : (s.setFlash h f).flash i = if i = h then f else s.flash i :=
  NMap.get_put ..

/-- A row's entry goes into the field row map of each live hub (R191). -/
theorem Sys.fieldRowMapUpdate_head {s : Sys} {t row : Nat} {rest : List Nat} (ht : t < 256)
    (htodo : (s.tile t).store.fieldMapTodo = row :: rest) :
    let act := if (s.tile t).store.holes.any (fun h => h.row = row) then 0xFE
      else (NMap.find (s.tile t).store.remapped row).getD 0xFE
    let u := s.fieldRowMapUpdate t
    (u.tile t).store.fieldMapTodo = rest ∧
      ∀ h, h < 2 → (s.hub h).live = true → (u.flash h).rowMap = (s.flash h).rowMap ++ [(t, row % 64, row / 64, act)] := by
  intro act u
  let v := s.setTile t { s.tile t with store := { (s.tile t).store with fieldMapTodo := rest } }
  let add (f : Flash) : Flash := { f with rowMap := f.rowMap ++ [(t, row % 64, row / 64, act)] }
  let v0 := if (v.hub 0).live then v.modFlash 0 add else v
  have hu : u = if (v0.hub 1).live then v0.modFlash 1 add else v0 := by
    simp only [u, Sys.fieldRowMapUpdate, htodo]
    rw [if_neg (by omega)]
    rfl
  have htile : u.tile t = v.tile t := by
    rw [hu]
    split <;> simp only [v0] <;> split <;> rfl
  have hhub : (v0.hub 1).live = (s.hub 1).live := by
    simp only [v0]
    split <;> rfl
  refine ⟨by rw [htile, Sys.tile_setTile_same], fun h hh hlive => ?_⟩
  rw [hu]
  obtain rfl | rfl : h = 0 ∨ h = 1 := by omega
  · have hv0 : v0 = v.modFlash 0 add := if_pos hlive
    have hflash : ∀ w : Sys, (w.modFlash 1 add).flash 0 = w.flash 0 := fun w => Sys.flash_setFlash w 1 0 _
    split
    · rw [hflash, hv0, Sys.modFlash, Sys.flash_setFlash]
      rfl
    · rw [hv0, Sys.modFlash, Sys.flash_setFlash]
      rfl
  · rw [if_pos (hhub.trans hlive), Sys.modFlash, Sys.flash_setFlash]
    have hflash : v0.flash 1 = s.flash 1 := by
      simp only [v0]
      split
      · exact Sys.flash_setFlash v 0 1 _
      · rfl
    rw [if_pos rfl, hflash]

section Reconstruct
variable {x : TX} {r : Region} {row w syn : Nat}

/-- Rows that read clean XOR as they stand. -/
theorem Store.xorWord_clean (s : Store) (rows : List Nat) (w : Nat) (h : ∀ o ∈ rows, s.badWords o = []) :
    s.xorWord rows w = (rows.foldl (fun a o => a ^^^ bitsOf (s.rowData o) (64 * w + 63) (64 * w)) 0, false) := by
  suffices hgen : ∀ a, rows.foldl (fun a r => (a.1 ^^^ bitsOf (correctRow (s.rowData r) (s.badWords r)) (64 * w + 63) (64 * w),
      a.2 || s.wordFails r w)) (a, false) =
      (rows.foldl (fun a o => a ^^^ bitsOf (s.rowData o) (64 * w + 63) (64 * w)) a, false) from hgen 0
  induction rows with
  | nil => exact fun _ => rfl
  | cons o l ih =>
    intro a
    have ho := h o List.mem_cons_self
    rw [List.foldl_cons, List.foldl_cons, ho, show s.wordFails o w = false by simp [Store.wordFails, ho]]
    exact ih (fun o' ho' => h o' (List.mem_cons_of_mem _ ho')) _

/-- Reads of rows that are clean leave the tile as it is. -/
theorem TX.groupReads_clean (rows : List Nat) (entrant : Nat) (init : Bool) (h : ∀ o ∈ rows, x.tile.store.badWords o = []) :
    x.groupReads rows entrant init = x := by
  induction rows with
  | nil => rfl
  | cons o l ih =>
    have ho := h o List.mem_cons_self
    have hl := ih fun o' ho' => h o' (List.mem_cons_of_mem _ ho')
    unfold TX.groupReads at hl ⊢
    rw [List.foldl_cons, ho]
    exact hl

theorem TX.askRemap_empty {word : Nat} (h : x.tile.store.remapQ = []) :
    x.askRemap row word syn = x.setStore { x.tile.store with remapQ := [{ row := row, word := word, syn := syn }] } := by
  simp only [TX.askRemap, h, List.any_nil, Bool.false_eq_true, if_false, List.nil_append]

/-- A write-back of a row with none queued in its bank and room there. -/
theorem TX.queueWriteBack_empty {w : WriteBack} (h : NMap.get [] x.tile.store.wb (w.row % 64) = [])
    (hroom : x.tile.store.bankWork (w.row % 64) < 4) :
    x.queueWriteBack w = x.setStore { x.tile.store with wb := NMap.set [] x.tile.store.wb (w.row % 64) [w] } := by
  simp only [TX.queueWriteBack, h, List.any_nil, Bool.false_eq_true, if_false, hroom, if_true, List.nil_append]

/-- A lone failing word is rebuilt from the group's other rows; its row asks for a remap and a write-back (R185, R190). -/
theorem TX.reconstruct_lone (hlatch : x.tile.store.latches = []) (hbad : x.tile.store.badWords row = [(w, syn)])
    (hclean : ∀ o, o ∈ r.groupRows row → o ≠ row → x.tile.store.badWords o = [])
    (hwb : NMap.get [] x.tile.store.wb (row % 64) = []) (hremap : x.tile.store.remapQ = []) (data : Nat) :
    let others := (r.groupRows row).filter (fun o => o ≠ row)
    let v := others.foldl (fun a o => a ^^^ bitsOf (x.tile.store.rowData o) (64 * w + 63) (64 * w)) 0
    let st := (x.reconstruct r row 19 true data [(w, syn)]).2.2.tile.store
    st.recon = x.tile.store.recon ∧ NMap.get [] st.wb (row % 64) = [{ row := row, fix := [(w, v)] }] ∧
      st.remapQ = [{ row := row, word := w, syn := syn }] ∧ st.data = x.tile.store.data ∧ st.dev = x.tile.store.dev := by
  intro others v st
  have hothers : ∀ o ∈ (r.groupRows row).filter (fun o => o ≠ row), x.tile.store.badWords o = [] := fun o ho => by
    obtain ⟨hmem, hne⟩ := List.mem_filter.mp ho
    exact hclean o hmem (by simpa using hne)
  have hcommit : ∀ bank, x.commitLatch bank = x := fun bank => by
    simp [TX.commitLatch, hlatch, NMap.find]
  have hlost : x.tile.store.parityLost ((r.groupRows row).getD 8 0) = false := by
    refine Store.parityLost_eq_false (l := (w, syn)) fun p hp => ?_
    by_cases hrow : (r.groupRows row).getD 8 0 = row
    · rw [hrow, hbad] at hp
      simpa using hp
    · have hmem : (r.groupRows row).getD 8 0 ∈ r.groupRows row := by
        simp [Region.groupRows]
      rw [hclean _ hmem hrow] at hp
      exact absurd hp List.not_mem_nil
  let z := (x.bump 0x248 15 0 1).protLog row w 3 syn 19
  let wb : WriteBack := { row := row, fix := [(w, v)] }
  let y := z.setStore { z.tile.store with remapQ := [{ row := row, word := w, syn := syn }] }
  have hask : z.askRemap row w syn = y := TX.askRemap_empty (x := z) hremap
  have hwork : y.tile.store.bankWork (row % 64) < 4 := by
    have hq : NMap.get [] y.tile.store.wb (row % 64) = [] := hwb
    have hl : y.tile.store.latches = [] := hlatch
    have hr : y.tile.store.remapQ = [{ row := row, word := w, syn := syn }] := rfl
    simp [Store.bankWork, hq, hl, hr, NMap.find]
  have hqueue : y.queueWriteBack wb = y.setStore { y.tile.store with
      wb := NMap.set [] y.tile.store.wb (row % 64) [wb] } := TX.queueWriteBack_empty (x := y) hwb hwork
  have hst : st = (y.queueWriteBack wb).tile.store := by
    simp only [st, TX.reconstruct, hcommit, List.foldl_cons, List.foldl_nil, Store.xorWord_clean _ _ _ hothers, hlost,
      Bool.or_self, Bool.false_eq_true, if_false, TX.groupReads_clean _ _ _ hothers, if_true, Bool.not_true,
      List.isEmpty_nil, List.headD_cons]
    rw [show (x.bump 584 15 0 1).protLog row w 3 syn 19 = z from rfl, hask]
    rfl
  rw [hst, hqueue]
  exact ⟨rfl, (NMap.get_set ..).trans (if_pos rfl), rfl, rfl, rfl⟩

end Reconstruct

/-- Settles O25. -/
theorem storeMaintenance : Obligations.StoreMaintenance := by
  unfold Obligations.StoreMaintenance
  intro s t ht x p st
  have hwf : isTile t = true := by simp [isTile, ht]
  refine ⟨fun bank w rest hb hq hp hf hfree hbad => ?writeBack, fun bank l hb hl hclean => ?latch,
    fun f rest r hf hn hr hcls hm hset hpart hwait => ?fill, fun n hn hv hrel hm hwait hh hf => ?release,
    fun hen hidle hdue => ?pass, fun row n r hact hnext hreg hcls hclean hen hmore => ?scrub,
    fun q rest hq hrecon hlatch hroom => ⟨fun i hi => ?spare, fun hnone hnew => ?hole⟩, fun row rest htodo => ?map,
    fun bank hb => ?watch, fun v hv hold => ?inject⟩
  case writeBack =>
    refine ⟨_, State.exec_tileDid (exec_correctionWriteBack t bank s) (by simp [Instr.wf, hwf, hb]) ht, ?_⟩
    obtain ⟨found, hdone⟩ := TX.correctionWriteBack_corrects (x := x) hq hfree hp hf hbad
    rw [State.tileDid_store, hdone]
    exact ⟨Store.rowData_written (s := st) rfl, Store.badWords_cleaned (s := st) rfl,
      fun r hr => ⟨Store.rowData_unwritten (s := st) rfl hr, Store.badWords_uncleaned (s := st) rfl hr⟩, rfl⟩
  case latch =>
    refine ⟨_, State.exec_tileDid (exec_parityLatchCommit t bank s) (by simp [Instr.wf, hwf, hb]) ht, ?_⟩
    rw [State.tileDid_store, TX.commitLatch_clean hl hclean]
    exact ⟨Store.rowData_written (s := st) rfl, Store.badWords_cleaned (s := st) rfl,
      fun r hr => ⟨Store.rowData_unwritten (s := st) rfl hr, Store.badWords_uncleaned (s := st) rfl hr⟩, rfl⟩
  case fill =>
    intro pat
    have hdone := TX.storeFillDone_part (x := x) hf hn hr hcls hm hset hpart
    obtain ⟨hregions, hfills, -, hout⟩ := TX.fillRows_keeps (x := x.setStore { st with fills := rest }) (r.base + f.first) pat f.count
    obtain ⟨hin, hother⟩ := TX.fillRows_rows (x := x.setStore { st with fills := rest }) (r.base + f.first) pat f.count
    have hrow : exec (.storeFillDone t) s = s.act (Instr.storeFillDone t).wf (fun y => y.onTile t (fun x => x.storeFillDone)) := by
      rw [exec_storeFillDone, State.act, State.act, Sys.storeFillDone_unwaited ht hwait (by rw [hf]; nofun)
        (by rw [hdone]; exact hout)]
    refine ⟨_, State.exec_tileDid hrow (by simp [Instr.wf, hwf]) ht, ?_⟩
    rw [State.tileDid_store, hdone]
    exact ⟨hfills, hin, hother, hregions⟩
  case release =>
    have hdone := TX.regionReleaseDone_clears (x := x) hv hrel hh hf
    have hrow : exec (.regionReleaseDone t n) s = s.act (Instr.regionReleaseDone t n).wf
        (fun y => y.onTile t (fun x => x.regionReleaseDone n)) := by
      rw [exec_regionReleaseDone, State.act, State.act, Sys.regionReleaseDone_unwaited ht hwait hm hrel hf hdone]
    exact State.exec_tile hrow (by simp [Instr.wf, hwf, hn]) ht hdone
  case pass =>
    exact State.exec_tile (exec_scrubPassStart t s) (by simp [Instr.wf, hwf]) ht (TX.scrubPassStart_due hen hidle hdue)
  case scrub =>
    exact State.exec_tile (exec_scrubRead t [] s) (by simp [Instr.wf, hwf]) ht
      (TX.scrubRead_clean hact hnext hreg hcls hclean hen hmore)
  case spare =>
    refine ⟨_, State.exec_tileDid (exec_liveRemap t s) (by simp [Instr.wf, hwf]) ht, ?_⟩
    obtain ⟨hspares, hgone⟩ := TX.liveRemap_spare (x := x) hq hrecon hlatch hi
    simp only [TX.spares, Store.spareState, Prod.mk.injEq] at hspares
    obtain ⟨hused, hmapped, htodo, hholes⟩ := hspares
    rw [State.tileDid_store, hused, hmapped]
    exact ⟨hgone, NMap.get_put_same .., NMap.find_put_same .., htodo, hholes⟩
  case hole =>
    refine ⟨_, State.exec_tileDid (exec_liveRemap t s) (by simp [Instr.wf, hwf]) ht, ?_⟩
    obtain ⟨hrest, hmem, hdata, hdev⟩ := TX.liveRemap_hole (x := x) hq hrecon hlatch hnone hroom hnew
    rw [State.tileDid_store]
    exact ⟨hrest, List.any_eq_true.mpr ⟨_, hmem, Bool.and_eq_true_iff.mpr ⟨decide_eq_true rfl, beq_self_eq_true _⟩⟩, hdata, hdev⟩
  case map =>
    refine ⟨_, by rw [exec_fieldRowMapUpdate, show (Instr.fieldRowMapUpdate t).wf = true by simp [Instr.wf, hwf], State.act_true], ?_⟩
    exact Sys.fieldRowMapUpdate_head ht htodo
  case watch =>
    exact State.exec_tile (exec_watchEntryExpiry t bank s) (by simp [Instr.wf, hwf, hb]) ht (TX.watchExpiry_eq (x := x) bank)
  case inject =>
    exact State.exec_tile (exec_tileProtInjectArm t v s) (by simpa [Instr.wf, hwf] using hv) ht (TX.writeReg_injectArm hold)

/-- Settles O26. -/
theorem reconstructionRebuilds : Obligations.ReconstructionRebuilds := by
  unfold Obligations.ReconstructionRebuilds
  intro s t row w syn n r rest ht hw st hrecon hreg hcls hinit hsyn hbad hclean hlatch hwb hremap v
  refine ⟨_, State.exec_tileDid (exec_reconstruction t s) (by simp [Instr.wf, isTile, ht]) ht, ?_⟩
  have hunc : wordsUncorrectable [(w, syn)] = [(w, syn)] := by
    simp [wordsUncorrectable, hsyn]
  have hrun : (s.sys.tx t).reconstruction = (((s.sys.tx t).setStore { st with recon := rest }).reconstruct r row 19 true
      (correctRow (st.rowData row) [(w, syn)]) [(w, syn)]).2.2 := by
    unfold TX.reconstruction
    rw [show (s.sys.tx t).tile.store = st from rfl, hrecon]
    dsimp only
    rw [hreg]
    dsimp only
    rw [hbad, hunc, if_neg (by simp [hcls]), hinit]
  rw [State.tileDid_store, hrun]
  exact TX.reconstruct_lone (x := (s.sys.tx t).setStore { st with recon := rest }) hlatch hbad hclean hwb hremap _

end Sys2Proof.Machine

/-! SUPPORT. Laws of the mesh router: its ports and channels, receiving, granting, link control words and failing links
(R227–R240). -/

namespace Sys2Proof.Machine

section Ports
variable (r : Router) (p : Nat) (v w : MeshPort)

@[simp] theorem Router.port_setPort_same : (r.setPort p v).port p = v := NMap.get_put_same ..

theorem Router.port_setPort_other {i : Nat} (h : i ≠ p) : (r.setPort p v).port i = r.port i := NMap.get_put_other _ _ _ _ _ h

theorem Router.port_setPort (i : Nat) : (r.setPort p v).port i = if i = p then v else r.port i := NMap.get_put ..

@[simp] theorem Router.setPort_setPort : (r.setPort p v).setPort p w = r.setPort p w := by
  simp [Router.setPort]

variable (q : MeshPort) (c : Nat) (l l' : List Held)

@[simp] theorem MeshPort.chan_setChan_same : (q.setChan c l).chan c = l := NMap.get_put_same ..

theorem MeshPort.chan_setChan (d : Nat) : (q.setChan c l).chan d = if d = c then l else q.chan d := NMap.get_put ..

@[simp] theorem MeshPort.setChan_setChan : (q.setChan c l).setChan c l' = q.setChan c l' := by
  simp [MeshPort.setChan]

end Ports

/-- No port leads back to its own router. -/
theorem neighbour_ne {n p m mp : Nat} (h : neighbour n p = some (m, mp)) : m ≠ n := by
  unfold neighbour at h
  (repeat' split at h) <;> simp only [reduceCtorEq, Option.some.injEq, Prod.mk.injEq] at h <;> omega

section Receive
variable {s : Sys} {n p : Nat}

/-- A packet in order on a live link is taken off the wire (R239). -/
theorem Sys.routerReceive_inOrder {l : LinkPkt} {rest : List LinkPkt} (hp : p < localPort n)
    (halive : (s.router n).alive = true) (hlink : ((s.router n).port p).link = 3)
    (hwire : ((s.router n).port p).wire = l :: rest) (hseq : l.seq = ((s.router n).port p).recvSeq)
    (hroom : (((s.router n).port p).chan l.chan).length < 16) :
    let q := (s.router n).port p
    s.routerReceive n p false = (s.setRouter n ((s.router n).setPort p
      { q with wire := rest, recvSeq := (q.recvSeq + 1) % 256, failing := false })).arrive n p l.pkt := by
  intro q
  unfold Sys.routerReceive
  dsimp only
  rw [if_neg (by simp [halive]), if_neg (by omega), hwire]
  dsimp only
  rw [if_neg (by simp [hlink]), if_neg (by simp [hseq]), if_neg (by decide), if_neg (by omega)]

theorem Sys.routerReceive_bad {l : LinkPkt} {rest : List LinkPkt} (hp : p < localPort n)
    (halive : (s.router n).alive = true) (hlink : ((s.router n).port p).link = 3)
    (hwire : ((s.router n).port p).wire = l :: rest) (hseq : l.seq = ((s.router n).port p).recvSeq) :
    s.routerReceive n p true = s.crcError n p := by
  unfold Sys.routerReceive
  dsimp only
  rw [if_neg (by simp [halive]), if_neg (by omega), hwire]
  dsimp only
  rw [if_neg (by simp [hlink]), if_neg (by simp [hseq]), if_pos rfl]

/-- A neighbour port's packet leaves a tile's pools of carried packets alone. -/
theorem Sys.receiveRow_neighbour (hp : p < localPort n) (bad : Bool) : s.receiveRow n p bad = s.routerReceive n p bad := by
  have h4 : ¬(p = 4 ∧ n < 256) := by
    rintro ⟨rfl, hn⟩
    simp [localPort, hn] at hp
  simp only [Sys.receiveRow, Bool.and_eq_true, decide_eq_true_eq, if_neg h4]

/-- Port `p` of router `n` with `pkt` put behind what its channel `c` holds, for output `out`. -/
def Sys.putHeld (s : Sys) (n p c : Nat) (pkt : Packet) (out : Option Nat) : Sys :=
  s.setRouter n ((s.router n).setPort p
    (((s.router n).port p).setChan c (((s.router n).port p).chan c ++ [{ pkt := pkt, out := out }])))

variable {pkt : Packet} {e : Nat} (hlegal : pkt.legal = true) (hhops : pkt.hops < 255) (htype : pkt.type ≠ 4)
  (hroute : s.routeOf n { pkt with hops := pkt.hops + 1 } = some e)
include hlegal hhops htype hroute

theorem Sys.arrive_routed :
    let hop : Packet := { pkt with hops := pkt.hops + 1 }
    s.arrive n p pkt =
      if hop.adaptive then
        if minPorts n e = [] && (safePort n e hop.down).isNone then s.discard n hop 2
        else s.putHeld n p (if hop.escape then 4 else hop.vc) hop none
      else
        match safePort n e hop.down with
        | none => s.discard n hop 2
        | some o => if o ≠ localPort n && ((s.router n).port o).dead then s.discard n hop 2
          else s.putHeld n p (if hop.escape then 4 else hop.vc) hop (some o) := by
  intro hop
  have hbank : ((s.replica n).bank pkt.epoch).isNone = false := by
    unfold Sys.routeOf at hroute
    cases hb : (s.replica n).bank pkt.epoch with
    | none => simp [hb] at hroute
    | some b => rfl
  have hmin : min 255 (pkt.hops + 1) = pkt.hops + 1 := by omega
  unfold Sys.arrive
  rw [if_neg (by simp [hlegal]; omega), if_neg (by rw [hbank]; decide)]
  dsimp only
  rw [hmin, if_neg htype, hroute]
  rfl

/-- A packet that chooses among MIN enters its own channel without an output (R232, R233). -/
theorem Sys.arrive_adaptive (had : Packet.adaptive { pkt with hops := pkt.hops + 1 } = true) (hmin : minPorts n e ≠ []) :
    s.arrive n p pkt = s.putHeld n p pkt.vc { pkt with hops := pkt.hops + 1 } none := by
  have hesc : pkt.escape = false := by
    simp only [Packet.adaptive, Bool.and_eq_true, Bool.not_eq_true'] at had
    exact had.2
  rw [Sys.arrive_routed hlegal hhops htype hroute]
  dsimp only
  rw [if_pos had, if_neg (by simp [hmin]), hesc]
  rfl

/-- A packet of the safe route is assigned its port (R235). -/
theorem Sys.arrive_safe {o : Nat} (had : Packet.adaptive { pkt with hops := pkt.hops + 1 } = false)
    (hsafe : safePort n e pkt.down = some o) (hopen : ((s.router n).port o).dead = false) :
    s.arrive n p pkt = s.putHeld n p (if pkt.escape then 4 else pkt.vc) { pkt with hops := pkt.hops + 1 } (some o) := by
  rw [Sys.arrive_routed hlegal hhops htype hroute]
  dsimp only
  rw [if_neg (by simp [had]), hsafe]
  dsimp only
  rw [if_neg (by simp [hopen])]

end Receive

section Apart

variable (s : Sys)

/-- The panel's mesh, what routes on it and the time are the same. -/
def Sys.SameMesh (a b : Sys) : Prop :=
  b.mesh = a.mesh ∧ b.replicas = a.replicas ∧ b.lead.peers = a.lead.peers ∧ b.boot.panelId = a.boot.panelId

theorem Sys.SameMesh.refl : Sys.SameMesh s s := ⟨rfl, rfl, rfl, rfl⟩

variable {s}

theorem Sys.SameMesh.trans {a b c : Sys} (hab : Sys.SameMesh a b) (hbc : Sys.SameMesh b c) : Sys.SameMesh a c :=
  ⟨hbc.1.trans hab.1, hbc.2.1.trans hab.2.1, hbc.2.2.1.trans hab.2.2.1, hbc.2.2.2.trans hab.2.2.2⟩

theorem Sys.SameMesh.router {a b : Sys} (h : Sys.SameMesh a b) (n : Nat) : b.router n = a.router n := by
  rw [Sys.router, Sys.router, h.1]

theorem Sys.SameMesh.routeOf {a b : Sys} (h : Sys.SameMesh a b) (n : Nat) (p : Packet) : b.routeOf n p = a.routeOf n p := by
  obtain ⟨-, hrep, hpeers, hid⟩ := h
  simp only [Sys.routeOf, Sys.replica, hrep, hpeers, hid]

theorem Sys.routeOf_setRouter (s : Sys) (n m : Nat) (r : Router) (p : Packet) : (s.setRouter m r).routeOf n p = s.routeOf n p :=
  rfl

theorem Sys.bumpTile_sameMesh (t off hi lo n : Nat) : Sys.SameMesh s (s.bumpTile t off hi lo n) := by
  unfold Sys.bumpTile
  split <;> exact ⟨rfl, rfl, rfl, rfl⟩

theorem Sys.queueNotice_sameMesh (n : Nat) (urgent : Bool) (code payload : Nat) :
    Sys.SameMesh s (s.queueNotice n urgent code payload) := by
  unfold Sys.queueNotice
  dsimp only
  repeat' split
  all_goals exact ⟨rfl, rfl, rfl, rfl⟩

theorem Sys.discard_sameMesh (n : Nat) (p : Packet) (cause : Nat) : Sys.SameMesh s (s.discard n p cause) := by
  unfold Sys.discard Sys.noteAt
  dsimp only
  repeat' split
  all_goals exact (Sys.bumpTile_sameMesh ..).trans (Sys.queueNotice_sameMesh ..)

theorem Sys.scored_sameMesh (kind wher sub ev n : Nat) : Sys.SameMesh s (s.scored kind wher sub ev n) := ⟨rfl, rfl, rfl, rfl⟩

theorem Sys.scoreLink_sameMesh (n p : Nat) : Sys.SameMesh s (s.scoreLink n p) := by
  unfold Sys.scoreLink
  repeat' split
  all_goals exact ⟨rfl, rfl, rfl, rfl⟩

theorem Sys.setLink_sameMesh (t p : Nat) (l : TileLink) : Sys.SameMesh s (s.setLink t p l) := ⟨rfl, rfl, rfl, rfl⟩

end Apart

/-- A packet whose CRC fails leaves the wire, and replay is asked for (R239). -/
theorem Sys.crcError_router (s : Sys) (n p : Nat) : (s.crcError n p).router n =
    (s.router n).setPort p { (s.router n).port p with wire := ((s.router n).port p).wire.drop 1, failing := true } := by
  unfold Sys.crcError
  dsimp only
  rw [(Sys.scoreLink_sameMesh n p).router]
  split
  · rw [(Sys.setLink_sameMesh ..).router, (Sys.bumpTile_sameMesh ..).router, Sys.router_setRouter_same]
  · exact Sys.router_setRouter_same ..

section Grant
variable {s : Sys} {n p i : Nat} {h : Held}

/-- A list that yields one value, at one of its elements. -/
theorem filterMap_single {α : Type} {l : List Nat} {f : Nat → Option α} {i : Nat} {v : α} (hl : l.Nodup) (hi : i ∈ l)
    (hv : f i = some v) (hf : ∀ j, j ≠ i → f j = none) : l.filterMap f = [v] := by
  obtain ⟨a, b, rfl⟩ := List.append_of_mem hi
  have hni : i ∉ a ∧ i ∉ b := by
    rw [List.nodup_append, List.nodup_cons] at hl
    exact ⟨fun ha => hl.2.2 i ha i (by simp) rfl, hl.2.1.1⟩
  have hnil : ∀ l : List Nat, i ∉ l → l.filterMap f = [] := fun l hl => by
    rw [List.filterMap_eq_nil_iff]
    exact fun j hj => hf j fun hji => hl (hji ▸ hj)
  rw [List.filterMap_append, List.filterMap_cons, hv, hnil a hni.1, hnil b hni.2]
  rfl

variable (hempty : ∀ j c, (j, c) ≠ (i, 0) → ((s.router n).port j).chan c = [])
include hempty

theorem Sys.refreshChoices_idle : s.refreshChoices n = s := by
  have hchan (j c : Nat) (hc : c ≠ 0) : ((s.router n).port j).chan c = [] := hempty j c (by simp [hc])
  unfold Sys.refreshChoices
  refine List.foldlRecOn _ _ (motive := fun u => u = s) rfl fun u hu j _ => ?_
  rw [hu]
  simp [hchan j 1 (by decide), hchan j 2 (by decide)]

theorem Sys.heads_other {c : Nat} (hc : c ≠ 0) : s.heads n p c = [] := by
  have hchan (j c : Nat) (hc : c ≠ 0) : ((s.router n).port j).chan c = [] := hempty j c (by simp [hc])
  unfold Sys.heads
  rw [List.filterMap_eq_nil_iff]
  intro j _
  simp [hchan j c hc, hchan j 1 (by decide), hchan j 2 (by decide), hchan j 3 (by decide), hchan j 4 (by decide),
    hchan j 5 (by decide)]

variable (hi : i ≤ localPort n) (hhead : ((s.router n).port i).chan 0 = [h]) (hout : h.out = some p)
include hi hhead hout

/-- The only head is that of channel 0 at input `i`. -/
theorem Sys.heads_zero : s.heads n p 0 = [(i, 0, h)] := by
  unfold Sys.heads
  refine filterMap_single (i := i) List.nodup_range (List.mem_range.mpr (by unfold portCount; omega)) ?_ fun j hj => ?_
  · simp [hhead, hout]
  · simp [hempty j 0 (by simp [hj])]

/-- The head of channel `k` of input `i` taken off by the arbiter of output `o`'s channel `c` (R227). -/
def Sys.headTaken (s : Sys) (n i k o c : Nat) : Sys :=
  let r := (s.router n).setPort i (((s.router n).port i).setChan k ((((s.router n).port i).chan k).drop 1))
  s.setRouter n (r.setPort o { r.port o with rr := NMap.put (r.port o).rr c i })

/-- Output `o` one network cycle on, with a VC0 packet granted (R227, R228). -/
def MeshPort.grantedZero (q : MeshPort) : MeshPort :=
  { q with ncCount := q.ncCount + 1, escDue := if q.ncCount % 8 = 0 then true else q.escDue, vc0Recent := [q.ncCount + 1] }

/-- The panel with output `o`'s cycle counted, and with heads that wait while it shows OFF (R245). -/
def Sys.cycleCounted (s : Sys) (n o : Nat) : Sys :=
  let u := s.setRouter n ((s.router n).setPort o ((s.router n).port o).grantedZero)
  if s.waitsOff n o then u.bumpTile n (0x600C + 0x20 * o) 31 0 1 else u

/-- A lone VC0 head is granted (R227). -/
theorem Sys.routerForward_lone (halive : (s.router n).alive = true)
    (hdead : ((s.router n).port p).dead = false) (hlink : ((s.router n).port p).link = 3)
    (hon : bitOf ((s.router n).port p).onBits 0 = true) (hreplay : ((s.router n).port p).replay.length < 32)
    (hrecent : ((s.router n).port p).vc0Recent = []) :
    s.routerForward n p {} =
      ((((s.cycleCounted n p).headTaken n i 0 p 0).recordWait n 0 h).countEcc n {}).passOn n p 0 {} h.pkt := by
  have hopen : (s.router n).open n p = true := by simp [Router.open, hdead, hlink]
  have hzero := Sys.heads_zero hempty hi hhead hout
  have hother {c : Nat} (hc : c ≠ 0) : s.heads n p c = [] := Sys.heads_other hempty hc
  have helig : (!(s.heads n p 0).isEmpty && (s.router n).on n p 0) = true := by
    simp [hzero, Router.on, Router.shownOn, hopen, hon, hreplay]
  have hgrant (a b : Bool) : grantChannel (fun c => !(s.heads n p c).isEmpty && (s.router n).on n p c) 0 a b = (some 0, a, b) := by
    rw [grantChannel, if_pos (by rw [helig]; decide)]
  have hlone (k : Nat) : afterLast k [(i, 0, h)] = some (i, 0, h) := by
    unfold afterLast
    by_cases hk : k < i <;> simp [hk]
  have hothers : [0, 1, 2, 3].filter (fun d => decide (d ≠ 0) && (!(s.heads n p d).isEmpty && (s.router n).on n p d) &&
      !(decide (d = 0) && decide (2 ≤ 0))) = [] := by
    rw [List.filter_eq_nil_iff]
    intro d _
    by_cases hd : d = 0 <;> simp [hd, hother]
  unfold Sys.routerForward
  rw [if_neg (by simp [halive, hopen]), Sys.refreshChoices_idle hempty]
  dsimp only
  simp only [hrecent, List.filter_nil, List.length_nil, hgrant, if_true, hzero, hlone, hothers]
  rfl

omit hempty hi hhead hout in
theorem Sys.cycleCounted_router (n o : Nat) : (s.cycleCounted n o).router n =
    (s.router n).setPort o ((s.router n).port o).grantedZero := by
  unfold Sys.cycleCounted
  dsimp only
  split
  · rw [(Sys.bumpTile_sameMesh ..).router, Sys.router_setRouter_same]
  · exact Sys.router_setRouter_same ..

omit hempty hi hhead hout in
theorem Sys.cycleCounted_other {m : Nat} (o : Nat) (hm : m ≠ n) : (s.cycleCounted n o).router m = s.router m := by
  unfold Sys.cycleCounted
  dsimp only
  split
  · rw [(Sys.bumpTile_sameMesh ..).router, Sys.router_setRouter_other _ _ _ _ hm]
  · exact Sys.router_setRouter_other _ _ _ _ hm

omit hempty hi hhead hout in
theorem Sys.cycleCounted_routeOf (n o : Nat) (pkt : Packet) : (s.cycleCounted n o).routeOf n pkt = s.routeOf n pkt := by
  unfold Sys.cycleCounted
  dsimp only
  split
  · rw [(Sys.bumpTile_sameMesh ..).routeOf, Sys.routeOf_setRouter]
  · rfl

omit hempty hi hhead hout in
theorem Sys.recordWait_sameMesh (n k : Nat) (h : Held) : Sys.SameMesh s (s.recordWait n k h) := by
  unfold Sys.recordWait
  split <;> exact ⟨rfl, rfl, rfl, rfl⟩

end Grant

/-- Taking a head leaves what every port has sent. -/
theorem Sys.headTaken_sent (s : Sys) (n i k o c j : Nat) :
    (((s.headTaken n i k o c).router n).port j).replay = ((s.router n).port j).replay ∧
      (((s.headTaken n i k o c).router n).port j).sendSeq = ((s.router n).port j).sendSeq := by
  unfold Sys.headTaken
  dsimp only
  rw [Sys.router_setRouter_same, Router.port_setPort]
  split
  next hj =>
    subst hj
    rw [Router.port_setPort]
    split
    next hi => exact hi ▸ ⟨rfl, rfl⟩
    next => exact ⟨rfl, rfl⟩
  next =>
    rw [Router.port_setPort]
    split
    next hi => exact hi ▸ ⟨rfl, rfl⟩
    next => exact ⟨rfl, rfl⟩

theorem Sys.headTaken_chan (s : Sys) (n i k o c : Nat) :
    (((s.headTaken n i k o c).router n).port i).chan k = (((s.router n).port i).chan k).drop 1 := by
  unfold Sys.headTaken
  dsimp only
  rw [Sys.router_setRouter_same, Router.port_setPort]
  split
  next hi =>
    subst hi
    rw [Router.port_setPort_same]
    exact MeshPort.chan_setChan_same ..
  next => rw [Router.port_setPort_same, MeshPort.chan_setChan_same]

section Send
variable {s : Sys} {n o m mp : Nat}

/-- A packet sent over a link: kept for replay, on the neighbour's wire (R239). -/
theorem Sys.linkSend_routers (hnb : neighbour n o = some (m, mp)) (c : Nat) (pkt : Packet) :
    let q := (s.router n).port o
    let l : LinkPkt := { seq := q.sendSeq, chan := c, pkt := pkt.sealed }
    let u := s.linkSend n o c pkt false
    u.router n = (s.router n).setPort o { q with sendSeq := (q.sendSeq + 1) % 256, replay := q.replay ++ [l] } ∧
      ((u.router m).port mp).wire = ((s.router m).port mp).wire ++ [l] := by
  have hne : m ≠ n := neighbour_ne hnb
  intro q l u
  simp only [u, Sys.linkSend, hnb, Bool.false_eq_true, if_false]
  constructor
  · rw [(Sys.bumpTile_sameMesh ..).router, Sys.router_setRouter_other _ _ _ _ hne.symm, Sys.router_setRouter_same]
  · rw [(Sys.bumpTile_sameMesh ..).router, Sys.router_setRouter_same, Router.port_setPort_same,
      Sys.router_setRouter_other _ _ _ _ hne]

/-- A VC0 packet goes on by the safe route over its link (R235). -/
theorem Sys.passOn_safe {e : Nat} {pkt : Packet} (ho : o < localPort n) (htype : pkt.type ≠ 4) (hvc : pkt.vc = 0)
    (hroute : s.routeOf n pkt = some e) :
    s.passOn n o 0 {} pkt = s.linkSend n o 0 { pkt with escape := false, down := pkt.down || upIsDown n e } false := by
  unfold Sys.passOn
  rw [if_neg (by simp [SlotEcc.lost])]
  have hsafe : (decide (0 = 4) || !pkt.adaptive) = true := by simp [Packet.adaptive, hvc]
  simp only [Nat.lt_irrefl, if_false, hsafe, htype, ne_eq, not_false_eq_true, decide_true, Bool.and_self, if_true, hroute]
  rw [if_neg (by omega)]
  rfl

end Send

/-- What a step for `a` establishes and every step keeps holds at the end for each element. -/
theorem foldl_establishes {α σ : Type} {f : σ → α → σ} {P : α → σ → Prop} (hset : ∀ s a, P a (f s a))
    (hkeep : ∀ s a b, P b s → P b (f s a)) : ∀ (l : List α) (s : σ), ∀ a ∈ l, P a (l.foldl f s) := by
  intro l
  induction l with
  | nil => exact fun _ _ ha => absurd ha List.not_mem_nil
  | cons b l ih =>
    intro s a ha
    rcases List.mem_cons.mp ha with rfl | hl
    · exact List.foldlRecOn l f (hset s a) fun u hu b _ => hkeep u b a hu
    · exact ih _ a hl

section LinkEnd
variable {s : Sys} {n p : Nat} (free : Held → Bool)

/-- A channel once port `p` is dead: deterministic packets for it are gone, those that `free` names choose again (R240). -/
def keptHeads (p : Nat) (l : List Held) : List Held :=
  (l.filter (fun h => !(h.out = some p && !h.pkt.adaptive))).map (fun h =>
    if free h then { h with out := none, wait := max 32 h.wait } else h)

/-- Channel `c` of port `i` of router `n` once port `p` is dead (R240). -/
def Sys.dropFor (s : Sys) (n p i c : Nat) : Sys :=
  let q := (s.router n).port i
  let gone := (q.chan c).filter (fun h => h.out = some p && !h.pkt.adaptive)
  if (q.chan c).isEmpty then s
  else gone.foldl (fun s h => s.discard n h.pkt 2)
    (s.setRouter n ((s.router n).setPort i (q.setChan c (keptHeads free p (q.chan c)))))

theorem Sys.discards_sameMesh {α : Type} (l : List α) (pkt : α → Packet) (cause : Nat) :
    Sys.SameMesh s (l.foldl (fun s x => s.discard n (pkt x) cause) s) :=
  List.foldlRecOn l _ (motive := fun u => Sys.SameMesh s u) (Sys.SameMesh.refl s) fun _ hu _ _ =>
    hu.trans (Sys.discard_sameMesh ..)

theorem Sys.dropFor_chan (i c j d : Nat) : (((s.dropFor free n p i c).router n).port j).chan d =
    if j = i ∧ d = c then keptHeads free p (((s.router n).port i).chan c) else ((s.router n).port j).chan d := by
  unfold Sys.dropFor
  dsimp only
  split
  next hnil =>
    rw [List.isEmpty_iff] at hnil
    by_cases hj : j = i ∧ d = c
    · rw [if_pos hj, hj.1, hj.2, hnil]
      rfl
    · rw [if_neg hj]
  next =>
    rw [(Sys.discards_sameMesh ..).router, Sys.router_setRouter_same, Router.port_setPort]
    by_cases hj : j = i
    · subst hj
      rw [if_pos rfl, MeshPort.chan_setChan]
      simp
    · rw [if_neg hj, if_neg fun h => hj h.1]

/-- Dropping what waits for a dead port touches channels of that router alone. -/
theorem Sys.dropFor_keeps (i c : Nat) : (∀ j, (((s.dropFor free n p i c).router n).port j).dead = ((s.router n).port j).dead ∧
      (((s.dropFor free n p i c).router n).port j).replay = ((s.router n).port j).replay) ∧
    ∀ m, m ≠ n → (s.dropFor free n p i c).router m = s.router m := by
  unfold Sys.dropFor
  dsimp only
  split
  · exact ⟨fun _ => ⟨rfl, rfl⟩, fun _ _ => rfl⟩
  · refine ⟨fun j => ?_, fun m hm => ?_⟩
    · rw [(Sys.discards_sameMesh ..).router, Sys.router_setRouter_same, Router.port_setPort]
      split
      next hj => exact hj ▸ ⟨rfl, rfl⟩
      next => exact ⟨rfl, rfl⟩
    · rw [(Sys.discards_sameMesh ..).router, Sys.router_setRouter_other _ _ _ _ hm]

variable {free}

/-- No head that is kept waits for the dead port. -/
theorem out_of_mem_keptHeads (hfree : ∀ h : Held, h.out = some p → h.pkt.adaptive = true → free h = true) {l : List Held}
    {h : Held} (hh : h ∈ keptHeads free p l) : h.out ≠ some p := by
  simp only [keptHeads, List.mem_map, List.mem_filter] at hh
  obtain ⟨g, ⟨-, hg⟩, rfl⟩ := hh
  split
  · nofun
  next hng =>
    intro hout
    have had : g.pkt.adaptive = true := by simpa [hout] using hg
    exact hng (hfree g hout had)

/-- Nothing in channel `c` of port `i` of router `n` waits for port `p`. -/
def Sys.NoneFor (n p i c : Nat) (s : Sys) : Prop := ∀ h ∈ ((s.router n).port i).chan c, h.out ≠ some p

theorem Sys.dropFor_noneFor (hfree : ∀ h : Held, h.out = some p → h.pkt.adaptive = true → free h = true) (i c : Nat) :
    Sys.NoneFor n p i c (s.dropFor free n p i c) := by
  intro h hh
  rw [Sys.dropFor_chan, if_pos ⟨rfl, rfl⟩] at hh
  exact out_of_mem_keptHeads hfree hh

theorem Sys.NoneFor.dropFor (hfree : ∀ h : Held, h.out = some p → h.pkt.adaptive = true → free h = true) {j d : Nat}
    (hs : Sys.NoneFor n p j d s) (i c : Nat) : Sys.NoneFor n p j d (s.dropFor free n p i c) := by
  intro h hh
  rw [Sys.dropFor_chan] at hh
  split at hh
  · exact out_of_mem_keptHeads hfree hh
  · exact hs h hh

/-- Every channel of router `n` once port `p` is dead. -/
def Sys.dropAllFor (free : Held → Bool) (s : Sys) (n p : Nat) : Sys :=
  (List.range (portCount n)).foldl (fun s i => (List.range 6).foldl (fun s c => s.dropFor free n p i c) s) s

theorem Sys.dropAllFor_noneFor (hfree : ∀ h : Held, h.out = some p → h.pkt.adaptive = true → free h = true) {i c : Nat}
    (hi : i ≤ localPort n) (hc : c < 6) : Sys.NoneFor n p i c (s.dropAllFor free n p) := by
  refine foldl_establishes (P := fun i u => ∀ c ∈ List.range 6, Sys.NoneFor n p i c u) (fun u i => ?_) (fun u i j hu c hc => ?_)
    (List.range (portCount n)) s i (List.mem_range.mpr (by unfold portCount; omega)) c (List.mem_range.mpr hc)
  · exact foldl_establishes (P := fun c u => Sys.NoneFor n p i c u) (fun u c => Sys.dropFor_noneFor hfree i c)
      (fun u c d hu => hu.dropFor hfree i c) (List.range 6) u
  · exact List.foldlRecOn (List.range 6) _ (motive := fun v => Sys.NoneFor n p j c v) (hu c hc)
      fun v hv d _ => hv.dropFor hfree i d

theorem Sys.dropAllFor_keeps : (∀ j, (((s.dropAllFor free n p).router n).port j).dead = ((s.router n).port j).dead ∧
      (((s.dropAllFor free n p).router n).port j).replay = ((s.router n).port j).replay) ∧
    ∀ m, m ≠ n → (s.dropAllFor free n p).router m = s.router m := by
  refine List.foldlRecOn (List.range (portCount n)) _ (motive := fun u : Sys =>
    (∀ j, ((u.router n).port j).dead = ((s.router n).port j).dead ∧ ((u.router n).port j).replay = ((s.router n).port j).replay) ∧
      ∀ m, m ≠ n → u.router m = s.router m) ⟨fun _ => ⟨rfl, rfl⟩, fun _ _ => rfl⟩ fun u hu i _ => ?_
  refine List.foldlRecOn (List.range 6) _ (motive := fun u : Sys =>
    (∀ j, ((u.router n).port j).dead = ((s.router n).port j).dead ∧ ((u.router n).port j).replay = ((s.router n).port j).replay) ∧
      ∀ m, m ≠ n → u.router m = s.router m) hu fun v hv c _ => ?_
  obtain ⟨hports, hothers⟩ := Sys.dropFor_keeps (s := v) (n := n) (p := p) free i c
  exact ⟨fun j => ⟨(hports j).1.trans (hv.1 j).1, (hports j).2.trans (hv.1 j).2⟩, fun m hm => (hothers m hm).trans (hv.2 m hm)⟩

/-- A failed link's end: DEAD, with nothing to replay and nothing that waits for it; other routers stay (R240). -/
theorem Sys.linkEndFails_router (hlive : ((s.router n).port p).dead = false) :
    let u := s.linkEndFails n p
    ((u.router n).port p).dead = true ∧ ((u.router n).port p).replay = [] ∧
      (∀ i c h, i ≤ localPort n → c < 6 → h ∈ ((u.router n).port i).chan c → h.out ≠ some p) ∧
      ∀ m, m ≠ n → u.router m = s.router m := by
  let free (h : Held) : Bool := h.pkt.adaptive && (h.out = some p ||
    (h.out.isNone && (s.routeOf n h.pkt).any (fun e => (minPorts n e).contains p)))
  have hfree (h : Held) (hout : h.out = some p) (had : h.pkt.adaptive = true) : free h = true := by simp [free, hout, had]
  let v := s.setRouter n ((s.router n).setPort p { (s.router n).port p with
    dead := true, link := 1, replay := [], wire := [], onBits := 0 })
  let w := ((s.router n).port p).replay.foldl (fun s l => s.discard n l.pkt 3) v
  have hw (m : Nat) : w.router m = v.router m := (Sys.discards_sameMesh ..).router m
  obtain ⟨hports, hothers⟩ := Sys.dropAllFor_keeps (s := w) (n := n) (p := p) (free := free)
  have hend : Sys.SameMesh (w.dropAllFor free n p) (s.linkEndFails n p) := by
    unfold Sys.linkEndFails
    rw [if_neg (by simp [hlive])]
    dsimp only
    split
    · split
      · exact Sys.SameMesh.trans (Sys.setLink_sameMesh ..) (Sys.queueNotice_sameMesh ..)
      · exact Sys.SameMesh.trans (Sys.setLink_sameMesh ..) (Sys.queueNotice_sameMesh ..)
    · exact Sys.SameMesh.refl _
  intro u
  have hvp : (w.router n).port p = { (s.router n).port p with dead := true, link := 1, replay := [], wire := [], onBits := 0 } := by
    rw [hw, Sys.router_setRouter_same, Router.port_setPort_same]
  refine ⟨?_, ?_, fun i c h hi hc hh => ?_, fun m hm => ?_⟩
  · rw [hend.router, (hports p).1, hvp]
  · rw [hend.router, (hports p).2, hvp]
  · rw [hend.router] at hh
    exact Sys.dropAllFor_noneFor hfree hi hc h hh
  · rw [hend.router, hothers m hm, hw, Sys.router_setRouter_other _ _ _ _ hm]

end LinkEnd

section Waits
variable {s : Sys} {n p : Nat}

theorem Sys.escapeEntry_waits {c nc : Nat} {h : Held} {rest : List Held} (hc : c = 1 ∨ c = 2)
    (hq : ((s.router n).port p).chan c = h :: rest) (had : h.pkt.adaptive = true) :
    s.escapeEntry n p c nc = s.setRouter n ((s.router n).setPort p
      (((s.router n).port p).setChan c ({ h with wait := h.wait + nc } :: rest))) := by
  simp only [Sys.escapeEntry, hq]
  rw [if_pos (by rcases hc with rfl | rfl <;> simp [had])]

/-- A good control word reports the far end's ON bits and acknowledges what it has taken (R229, R239). -/
theorem Sys.controlWord_good {m mp : Nat} (hnb : neighbour n p = some (m, mp)) (hlink : ((s.router n).port p).link = 3)
    (halive : (s.router n).alive = true) (hf : ((s.router m).port mp).failing = false) :
    let q := (s.router n).port p
    let f := (s.router m).port mp
    s.controlWord n p true false = s.setRouter n ((s.router n).setPort p { q with
      onBits := f.onWord, replay := q.replay.dropWhile (fun l => l.seq ≠ f.recvSeq)
      replayRuns := q.replayRuns.filter (fun x => x.1 = f.recvSeq) }) := by
  intro q f
  simp only [Sys.controlWord, hnb]
  rw [if_neg (by simp [hlink, halive]), if_neg (by decide), if_neg (by simp [hf])]

end Waits

/-- Settles O27. -/
theorem routerSteps : Obligations.RouterSteps := by
  unfold Obligations.RouterSteps
  intro s n p hn hp r q
  have hwf : isRouter n = true ∧ isPort n p = true := by
    simp [isRouter, isPort, hn, Nat.le_of_lt hp]
  refine ⟨fun l rest e halive hlink hwire hseq => ?receive, fun l rest halive hlink hwire hseq => ?bad,
    fun i h m mp e hi halive hdead hlink hon hreplay hrecent hhead hout htype hvc hesc hempty hnb hroute => ?grant,
    fun c nc h rest hc hnc hq had => ?wait, fun m mp hnb hlink halive => ?word, fun m mp hnb hdead hdead' => ?fail⟩
  case receive =>
    intro q' pkt hroom hlegal hhops htype hroute
    have hexec : exec (.routerReceive n p false) s = .next { s with sys := (s.sys.setRouter n (r.setPort p q')).arrive n p l.pkt } := by
      rw [exec_routerReceive, show (Instr.routerReceive n p false).wf = true by simp [Instr.wf, hwf], State.act_true,
        Sys.receiveRow_neighbour hp, Sys.routerReceive_inOrder hp halive hlink hwire hseq hroom]
    have hput (c : Nat) (out : Option Nat) : (s.sys.setRouter n (r.setPort p q')).putHeld n p c pkt out =
        s.sys.setRouter n (r.setPort p (q'.setChan c (q'.chan c ++ [{ pkt := pkt, out := out }]))) := by
      rw [Sys.putHeld, Sys.router_setRouter_same, Router.port_setPort_same, Router.setPort_setPort, Sys.setRouter_setRouter]
    have hroute' : (s.sys.setRouter n (r.setPort p q')).routeOf n { l.pkt with hops := l.pkt.hops + 1 } = some e := hroute
    refine ⟨fun had hmin => ?_, fun o had hsafe hop hopen => ?_⟩
    · rw [hexec, Sys.arrive_adaptive hlegal hhops htype hroute' had hmin, hput]
      rfl
    · intro c
      have hopen' : (((s.sys.setRouter n (r.setPort p q')).router n).port o).dead = false := by
        rw [Sys.router_setRouter_same, Router.port_setPort_other _ _ _ hop]
        exact hopen
      rw [hexec, Sys.arrive_safe hlegal hhops htype hroute' had hsafe hopen', hput]
      rfl
  case bad =>
    refine ⟨_, by rw [exec_routerReceive, show (Instr.routerReceive n p true).wf = true by simp [Instr.wf, hwf], State.act_true], ?_⟩
    rw [Sys.receiveRow_neighbour hp, Sys.routerReceive_bad hp halive hlink hwire hseq, Sys.crcError_router, hwire]
    rfl
  case grant =>
    intro pkt l
    let u := ((s.sys.cycleCounted n p).headTaken n i 0 p 0).recordWait n 0 h
    have hrec := Sys.recordWait_sameMesh (s := (s.sys.cycleCounted n p).headTaken n i 0 p 0) n 0 h
    have hroute' : u.routeOf n h.pkt = some e := by
      rw [hrec.routeOf, Sys.headTaken, Sys.routeOf_setRouter, Sys.cycleCounted_routeOf, hroute]
    refine ⟨{ s with sys := u.linkSend n p 0 pkt false }, ?_, ?_⟩
    · rw [exec_routerForward, show (Instr.routerForward n p {}).wf = true by simp [Instr.wf, hwf], State.act_true,
        Sys.routerForward_lone hempty hi hhead hout halive hdead hlink hon hreplay hrecent]
      exact congrArg (fun v => Host.Outcome.next { s with sys := v }) (Sys.passOn_safe (s := u) hp htype hvc hroute')
    · have hcounted := Sys.cycleCounted_router (s := s.sys) n p
      have hsent : ((u.router n).port p).replay = q.replay ∧ ((u.router n).port p).sendSeq = q.sendSeq := by
        rw [hrec.router, (Sys.headTaken_sent ..).1, (Sys.headTaken_sent ..).2, hcounted, Router.port_setPort_same]
        exact ⟨rfl, rfl⟩
      have hchan : ((u.router n).port i).chan 0 = [] := by
        rw [hrec.router, Sys.headTaken_chan, hcounted, Router.port_setPort]
        split
        next hip => exact (congrArg (List.drop 1) (hip ▸ hhead)).trans rfl
        next => exact (congrArg (List.drop 1) hhead).trans rfl
      have hfar : u.router m = s.sys.router m := by
        rw [hrec.router, Sys.headTaken, Sys.router_setRouter_other _ _ _ _ (neighbour_ne hnb),
          Sys.cycleCounted_other p (neighbour_ne hnb)]
      obtain ⟨hnear, hwire⟩ := Sys.linkSend_routers (s := u) hnb 0 pkt
      rw [hnear, hwire, hfar, hsent.1, hsent.2, Router.port_setPort_same, Router.port_setPort]
      refine ⟨?_, rfl, rfl, rfl⟩
      split
      next hip => exact hip ▸ hchan
      next => exact hchan
  case wait =>
    rw [exec_escapeEntry, show (Instr.escapeEntry n p c nc).wf = true by
      rcases hc with rfl | rfl <;> simpa [Instr.wf, hwf] using hnc, State.act_true, Sys.escapeEntry_waits hc hq had]
    rfl
  case word =>
    intro f hf
    rw [exec_controlWord, show (Instr.controlWord n p true false).wf = true by simp [Instr.wf, hwf], State.act_true,
      Sys.controlWord_good hnb hlink halive hf]
    rfl
  case fail =>
    have hne := neighbour_ne hnb
    obtain ⟨hd, hr, hnone, hother⟩ := Sys.linkEndFails_router (s := s.sys) hdead
    have hdead'' : (((s.sys.linkEndFails n p).router m).port mp).dead = false := by rw [hother m hne]; exact hdead'
    obtain ⟨hd', hr', -, hother'⟩ := Sys.linkEndFails_router (s := s.sys.linkEndFails n p) hdead''
    refine ⟨{ s with sys := (s.sys.linkEndFails n p).linkEndFails m mp }, ?_, ?_, hd', ?_, hr', ?_⟩
    · rw [exec_linkFail, show (Instr.linkFail n p).wf = true by simp [Instr.wf, hwf], State.act_true, Sys.linkFail, hnb]
    all_goals rw [hother' n hne.symm]
    · exact hd
    · exact hr
    · exact hnone

end Sys2Proof.Machine

/-! SUPPORT. Laws of reductions inside a router (R272–R278). -/

namespace Sys2Proof.Machine

section Reduce
variable {s : Sys} {n p : Nat} {h : Held} {rest : List Held} {i w0 w1 : Nat}
variable (hq : ((s.router n).port p).chan 3 = h :: rest)
include hq

/-- The head of a VC3 input is the oldest that can be taken, where it can be (R275). -/
theorem Sys.takeIndex_head (htake : s.canTake n h.pkt = true) :
    s.takeIndex n (((s.router n).port p).chan 3) = some 0 := by
  rw [hq, Sys.takeIndex, List.length_cons, List.range_succ_eq_map]
  simp [htake]

variable (htake : s.canTake n h.pkt = true) (hgroup : (s.replica n).rgroup h.pkt.epoch h.pkt.rgroup = some (i, w0, w1))
  (hport : p < localPort n) (hmask : bitOf (rgInMask w0) p = true)
include htake hgroup hport hmask

/-- The first contribution of a sequence that waits for more opens its slot (R275). -/
theorem Sys.reducePacket_opens (hred : (s.router n).red = []) (hmore : rgInMask w0 = 2 ^ p → rgLocal w0 ≠ 0) :
    s.reducePacket n p {} =
      s.setRouter n { ((s.router n).setPort p (((s.router n).port p).setChan 3 rest)) with
        red := [{ group := h.pkt.rgroup, seq := h.pkt.rseq, lanes := lanesOfRow h.pkt.payload, poison := h.pkt.poison,
                  ports := 0 ||| 2 ^ p, local_ := 0, pkt := h.pkt }] } := by
  have hred' : ((s.router n).setPort p (((s.router n).port p).setChan 3 rest)).red = [] := hred
  have hlocal : decide (p = localPort n) = false := by simp; omega
  have hdrop : listDrop (h :: rest) 0 = rest := rfl
  have hfull : (decide ((0 ||| 2 ^ p) = rgInMask w0) && decide (0 = rgLocal w0)) = false := by
    rw [Nat.zero_or, Bool.and_eq_false_iff, decide_eq_false_iff_not, decide_eq_false_iff_not]
    by_cases hm : 2 ^ p = rgInMask w0
    · exact .inr (Ne.symm (hmore hm.symm))
    · exact .inl hm
  have hbit : bitOf 0 p = false := by simp [bitOf]
  have hcount (u : Sys) : u.countEcc n {} = u := if_pos rfl
  unfold Sys.reducePacket
  dsimp only
  rw [Sys.takeIndex_head hq htake, hq]
  simp only [List.getElem?_cons_zero, Nat.lt_irrefl, if_false, hdrop, hcount]
  rw [if_neg (by simp [SlotEcc.lost])]
  simp only [Sys.replica_setRouter, hgroup, hred', hlocal, List.find?_nil, Option.getD_none, Bool.false_eq_true, if_false, hbit, hmask,
    Bool.not_true, Bool.or_false, Option.isNone_none, if_true, Bool.false_or, List.filter_nil, List.nil_append, hfull,
    Bool.not_false, Sys.setRouter_setRouter]

/-- The contribution that fills a sequence sends the combined packet toward the group's output port (R275). -/
theorem Sys.reducePacket_fills {d : RedSlot} (hred : (s.router n).red = [d]) (hg : d.group = h.pkt.rgroup)
    (hs : d.seq = h.pkt.rseq) (hnew : bitOf d.ports p = false) (hports : d.ports ||| 2 ^ p = rgInMask w0)
    (hloc : d.local_ = rgLocal w0) (hroot : rgRootBit w0 = false) (hopen : ((s.router n).port (rgOut w0)).dead = false)
    (hout : rgOut w0 ≠ p) :
    let r := (s.router n).setPort p (((s.router n).port p).setChan 3 rest)
    let out : Packet := { d.pkt with
      src := (s.tx n).storeEid, poison := d.poison || h.pkt.poison, escape := false, down := false
      payload := rowOfLanes ((d.lanes.zip (lanesOfRow h.pkt.payload)).map (fun x => Lane.combine (rgOp w0) x.1 x.2))
      epoch := h.pkt.epoch, hops := 0 }
    let l := (s.router n).port (localPort n)
    s.reducePacket n p {} =
      s.setRouter n { (r.setPort (localPort n) (l.setChan 5 (l.chan 5 ++ [{ pkt := out, out := some (rgOut w0) }]))) with
        red := [] } := by
  intro r out l
  have hred' : r.red = [d] := hred
  have hlocal : decide (p = localPort n) = false := by simp; omega
  have hdrop : listDrop (h :: rest) 0 = rest := rfl
  have hcount (u : Sys) : u.countEcc n {} = u := if_pos rfl
  have hsame : (decide (d.group = h.pkt.rgroup) && decide (d.seq = h.pkt.rseq)) = true := by simp [hg, hs]
  have hopen' : (({ r with red := [] } : Router).port (rgOut w0)).dead = false := by
    rw [← hopen]
    exact congrArg MeshPort.dead (Router.port_setPort_other _ _ _ hout)
  have hl : ({ r with red := [] } : Router).port (localPort n) = l := Router.port_setPort_other _ _ _ (by omega)
  unfold Sys.reducePacket
  dsimp only
  rw [Sys.takeIndex_head hq htake, hq]
  simp only [List.getElem?_cons_zero, Nat.lt_irrefl, if_false, hdrop, hcount]
  rw [if_neg (by simp [SlotEcc.lost])]
  simp only [Sys.replica_setRouter, hgroup, show (s.router n).setPort p (((s.router n).port p).setChan 3 rest) = r from rfl, hred', hlocal, List.find?_cons, hsame, Option.getD_some, Bool.false_eq_true, if_false, hnew, hmask,
    Bool.not_true, Bool.or_false, Option.isNone_some, hports, hloc, decide_true, Bool.and_self, List.filter_cons, List.filter_nil,
    hroot, Sys.setRouter_setRouter, Sys.router_setRouter_same, hopen', hl]
  rfl

end Reduce

/-- A VC3 input head that cannot be taken waits (R276). -/
theorem Sys.reduceStall_waits {s : Sys} {n p nc : Nat} {h : Held} {rest : List Held}
    (hq : ((s.router n).port p).chan 3 = h :: rest) (htake : s.canTake n h.pkt = false) :
    let u := s.setRouter n ((s.router n).setPort p (((s.router n).port p).setChan 3 ({ h with wait := h.wait + nc } :: rest)))
    s.reduceStall n p nc = if h.wait < 4096 && h.wait + nc ≥ 4096 then
      (u.bumpTile n 0x7A08 15 0 1).noteAt n true ncReduceStall 0 h.pkt.src h.pkt.tag 0 else u := by
  intro u
  unfold Sys.reduceStall
  simp only [hq, htake]
  rfl

theorem Sys.groupPurge_router {s : Sys} {n : Nat} {m : TMsg} (hmail : (s.tad n).inbox.head? = some m) (htype : m.type = 0x18)
    (hsub : m.sub = 8) :
    let gone := (List.range (bitsOf m.payload 49 48)).map (fun i => bitsOf m.payload (16 * i + 15) (16 * i))
    (s.groupPurge n).router n = { s.router n with red := (s.router n).red.filter (fun d => !gone.contains d.group) } := by
  intro gone
  have htake := Sys.takeMsg_head (f := fun m => decide (m.type = 0x18) && [1, 3, 6, 7, 8].contains m.sub) hmail (by simp [htype, hsub])
  simp only [Sys.groupPurge, Sys.takeEpoch, htake, hsub, if_true]
  rw [Sys.purgeGroups, (Sys.bumpTile_sameMesh ..).router, Sys.router_setRouter_same]
  rfl

/-- Settles O28. -/
theorem routerReductions : Obligations.RouterReductions := by
  unfold Obligations.RouterReductions
  intro s n p hn hp r q
  have hwf : isRouter n = true ∧ isPort n p = true := by
    simp [isRouter, isPort, hn, Nat.le_of_lt hp]
  refine ⟨fun h rest i w0 w1 hq hgroup => ?take, fun h rest nc hnc hq htake => ?stall, fun m hmail htype hsub => ?purge⟩
  case take =>
    have hexec : exec (.reducePacket n ⟨p, {}⟩) s = .next { s with sys := s.sys.reducePacket n p {} } := by
      rw [exec_reducePacket, show (Instr.reducePacket n ⟨p, {}⟩).wf = true by simp [Instr.wf, hwf], State.act_true]
    intro r' lanes
    refine ⟨fun hred hroom hmask hmore => ?_, fun d hred hg hs hnew hmask hports hloc hroot hopen => ?_⟩
    · have htake : s.sys.canTake n h.pkt = true := by
        have hred' : (s.sys.router n).red = [] := hred
        simp [Sys.canTake, hgroup, hred', hroom]
      rw [hexec, Sys.reducePacket_opens hq htake hgroup hp hmask hred hmore]
      rfl
    · intro out l hout
      have htake : s.sys.canTake n h.pkt = true := by
        have hred' : (s.sys.router n).red = [d] := hred
        simp [Sys.canTake, hgroup, hred', hg, hs]
      rw [hexec, Sys.reducePacket_fills hq htake hgroup hp hmask hred hg hs hnew hports hloc hroot hopen hout]
      rfl
  case stall =>
    intro u
    have hexec : exec (.reduceStall n p nc) s = .next { s with sys := s.sys.reduceStall n p nc } := by
      rw [exec_reduceStall, show (Instr.reduceStall n p nc).wf = true by simpa [Instr.wf, hwf] using hnc, State.act_true]
    refine ⟨fun hlt => ?_, fun hlo hhi => ?_⟩
    · rw [hexec, Sys.reduceStall_waits hq htake, if_neg (by simp; omega)]
      rfl
    · rw [hexec, Sys.reduceStall_waits hq htake, if_pos (by simp; omega)]
      rfl
  case purge =>
    intro gone
    exact ⟨_, by rw [exec_groupPurge, show (Instr.groupPurge n).wf = true by simp [Instr.wf, hwf], State.act_true],
      Sys.groupPurge_router hmail htype hsub⟩

end Sys2Proof.Machine

/-! SUPPORT. A short WRITE beside a byte that the store lists twice: the sum of a row's listed cells (`Mem.valueFrom`)
carries into the word written. -/

namespace Sys2Proof.Machine

/-- A short WRITE of word 1 of row 0 of window 5, from the tile store of logical tile 1. -/
def shortWriteOfWord : Packet :=
  { dst := 0x1000, src := 0x1001, type := 1, window := 5, offset := 8, misc := 1 }

/-- The state after a COLD reset with a window on region 0 of tile 0, that packet at its endpoint, and a store that lists
byte 7 twice, each time as 255. -/
def State.listedTwice : State :=
  let region : Region := { valid := true, init := true, size := 64, owner := 0xFFFF }
  let window : Window := { isOpen := true, write := true, rows := 8, srcKind := 1, lo0 := 0, hi0 := 0x2000 }
  let t : Tile := { store := { regions := [(0, region)], data := [(7, 255), (7, 255)] }, wins := { table := [(5, window)] } }
  let sys := ((State.reset.sys.setTile 0 t).setReplica 0 { ett := [(1, 0x101)], mesh := [(1, 0x7701)] }).setRouter 0
      { eject := [(0, shortWriteOfWord)] }
  { State.reset with sys := sys }

/-- Its sender is on the route table. -/
theorem listedTwice_injectable (c : Packet) (hd : c.dst = shortWriteOfWord.src) :
    ((State.listedTwice.packetTaken 0).sys.tx 0).injectable c = true := by
  have hroute : routeIndex [(1, 0x101)] [] 0 0x1001 = some 1 := by decide +kernel
  have hmin : rtMin (NMap.get rtNone [(1, 0x7701)] 1) = 1 := by decide +kernel
  show (match routeIndex [(1, 0x101)] [] 0 c.dst with
    | none => false
    | some i =>
      (rtMin (NMap.get rtNone [(1, 0x7701)] i) ≠ 0 || (rtSafe (NMap.get rtNone [(1, 0x7701)] i) false).isSome) &&
        !(c.type = 1 && !c.long && decide (258 ≤ i))) = true
  rw [hd, show shortWriteOfWord.src = 0x1001 from rfl, hroute]
  simp [hmin]

/-- Refutes O29: a store that lists a byte twice is not in canonical form, and the statement speaks of every state. A short
WRITE of 0 to word 1 of a row whose byte 7 is listed twice as 255 leaves a row whose word 1 reads as 1. -/
theorem not_windowPackets : ¬ Obligations.WindowPackets := by
  unfold Obligations.WindowPackets
  intro h
  let s := State.listedTwice
  obtain ⟨-, -, -, hshort, -⟩ := h s 0 shortWriteOfWord { valid := true, init := true, size := 64, owner := 0xFFFF } (by decide)
    (by decide +kernel) (fun c hd _ => listedTwice_injectable c hd) (by decide +kernel) (by decide) rfl (by decide +kernel)
    (by decide +kernel) (fun f hf => absurd hf (by simp [State.packetTaken, State.withRouter, s, State.listedTwice])) (by decide +kernel)
    (by decide +kernel)
  obtain ⟨u, hexec, hword, -⟩ := hshort rfl rfl (by decide +kernel) (by decide)
  have hrun : exec (.shortWrite 0) s = .next { s with sys := s.sys.shortWriteRow 0 } := by
    rw [exec_shortWrite, show (Instr.shortWrite 0).wf = true by decide, State.act_true]
  obtain rfl : _ = u := Host.Outcome.next.inj (hrun.symm.trans hexec)
  have hzero := hword 0 (by decide) (by decide)
  exact absurd hzero (by decide +kernel)

end Sys2Proof.Machine

/-! SUPPORT. Laws of packets at a tile's endpoint: a packet taken, a transfer of one packet, replies and send trackers
(R225, R231, R270, R306, R311, R312, R318). -/

namespace Sys2Proof.Machine

section Endpoint
variable {s : Sys} {n : Nat} {p : Packet} {kind : Packet → Bool}

/-- The oldest packet of the endpoint buffer is taken where it is of the kind asked for (R231). -/
theorem Sys.takeEject_head (h : (s.router n).eject.head?.map (fun q => q.2) = some p) (hk : kind p = true) :
    s.takeEject n kind = some (p, s.setRouter n { s.router n with eject := (s.router n).eject.drop 1 }) := by
  obtain ⟨q, hq, rfl⟩ := Option.map_eq_some_iff.mp h
  obtain ⟨rest, hr⟩ := List.head?_eq_some_iff.mp hq
  have hfind (f : Nat → Bool) (h0 : f 0 = true) : (List.range (rest.length + 1)).find? f = some 0 := by
    rw [List.range_succ_eq_map, List.find?_cons_of_pos h0]
  rw [Sys.takeEject, hr, List.length_cons, hfind _ (by simp [hk])]
  rfl

theorem Sys.atEndpoint_head (f : TX → Packet → TX) (h : (s.router n).eject.head?.map (fun q => q.2) = some p)
    (hk : kind p = true) (hn : n < 256) :
    s.atEndpoint n kind f =
      (s.setRouter n { s.router n with eject := (s.router n).eject.drop 1 }).onTile n (fun x => f x p) := by
  rw [Sys.atEndpoint, Sys.takeEject_head h hk]
  exact if_pos hn

/-- A tile that takes a packet does `f` with it. -/
theorem State.atEndpoint_tileDid {s : State} {t : Nat} (f : TX → Packet → TX) (h : s.packet t = some p) (hk : kind p = true)
    (ht : t < 256) : ({ s with sys := s.sys.atEndpoint t kind f } : State) =
      (s.packetTaken t).tileDid t (f ((s.packetTaken t).sys.tx t) p) := by
  rw [Sys.atEndpoint_head f h hk ht, Sys.onTile, if_pos ht]
  rfl

end Endpoint

/-- A tile that sends one packet: the packet is the last that its router's local port has not accepted (R221). -/
theorem State.localWire_tileDid {s : State} {t : Nat} {x : TX} {a : Packet} (ho : x.out = [.packet a]) :
    (s.tileDid t x).localWire t = s.localWire t ++ [{ chan := a.vc, pkt := a }] ∧
      ((s.tileDid t x).sys.tile t) = x.tile := by
  have hdid : (s.tileDid t x).sys = (s.sys.setTile t x.tile).toLocal t a := by
    simp [State.tileDid, Sys.putTX, ho, Sys.deliverOut]
  constructor
  · rw [State.localWire, hdid, Sys.toLocal, Sys.router_setRouter_same, Router.port_setPort_same]
    rfl
  · rw [hdid]
    exact Sys.tile_setTile_same ..

/-- A value read out of a map is the default or one that the map lists. -/
theorem NMap.get_eq_find {α : Type} (d : α) (m : NMap α) (k : Nat) : NMap.get d m k = (NMap.find m k).getD d := by
  induction m with
  | nil => rfl
  | cons p m ih =>
    rw [NMap.get, NMap.find]
    split
    · rfl
    · exact ih

/-- A region read out as VALID is the store's. -/
theorem Store.region_of_get {s : Store} {n : Nat} {r : Region} (h : NMap.get {} s.regions n = r) (hv : r.valid = true) :
    s.region n = some r := by
  rw [NMap.get_eq_find] at h
  cases hf : NMap.find s.regions n with
  | none =>
    rw [hf] at h
    subst h
    exact absurd hv (by decide)
  | some q =>
    obtain rfl : q = r := by rw [← h, hf, Option.getD_some]
    simp [Store.region, hf, hv]

section Transfer
variable {x : TX} {p : Packet} {ctrl : Bool} {b : Nat} {put : TX → List Nat × TX} {refuse : TX → Nat → List Nat × TX}

/-- An accepted transfer of one packet ends with that packet (R270, R305). -/
theorem TX.countPacket_single (hnone : ∀ f ∈ x.tile.wins.xfers, f.counts p ctrl = false)
    (hroom : x.tile.wins.xfers.length < 256) (htotal : p.total = b) (hbaton : p.baton = true) :
    x.countPacket p ctrl b 0 put refuse =
      ((put x).2.setWins { (put x).2.tile.wins with xfers := x.tile.wins.xfers }).endTransfer p ctrl (put x).1 b 0 p.offset
        p.type := by
  have hfind : x.tile.wins.xfers.find? (fun f => f.counts p ctrl) = none := by
    rw [List.find?_eq_none]
    exact fun f hf => by simp [hnone f hf]
  have hkeep : x.tile.wins.xfers.filter (fun g => !g.counts p ctrl) = x.tile.wins.xfers := by
    rw [List.filter_eq_self]
    exact fun f hf => by simp [hnone f hf]
  have hall (l : List Nat) : l.filter (fun _ => true) = l := List.filter_eq_self.mpr fun _ _ => rfl
  unfold TX.countPacket
  simp only [hfind, hkeep, Option.getD_none, hbaton, htotal]
  rw [if_neg (by simp; omega), if_neg (by simp)]
  simp only [if_true, List.contains_nil, Bool.not_false, hall, List.nil_append]
  rw [if_pos (by simp)]
  rfl

theorem TX.inject_ok (h : x.injectable p = true) : (x.inject p).2 = x.emit (.packet { p with epoch := x.rep.cur }) := by
  rw [TX.inject, if_pos h]

/-- A row put for the control entrant while no injection is armed (R194). -/
theorem TX.putRow_unarmed (row data : Nat) (q : Bool) (h : bitOf (x.reg 0x260) 16 = false) :
    x.putRow row data q 19 = x.setStore (Store.setRowDev { x.tile.store.cancelWriteBack row with
      data := Mem.write x.tile.store.data (512 * row) 512 data
      recon := x.tile.store.recon.filter (fun r => r ≠ row)
      found := x.tile.store.found.filter (fun w => w / 64 ≠ row) } row (if q then 255 else 0) []) := by
  simp [TX.putRow, h, Store.cancelWriteBack]

/-- A control write of one row into a region of a tile in rebuild (R306). -/
theorem TX.controlWrite_single {r : Region} (hr : NMap.get {} x.tile.store.regions p.window = r) (hsrc : p.src = 0x1200)
    (hgen : p.gen = 0) (hwin : p.window < 64) (hreb : x.tile.rebuild = true) (hval : r.valid = true) (hcls : r.cls ≠ 1)
    (hsize : p.offset / 512 < r.size) (hro : x.tile.croLocked p.window (p.offset / 512) = false)
    (htotal : p.total = 512) (hbaton : p.baton = true) (htype : p.type = 1)
    (hnone : ∀ f ∈ x.tile.wins.xfers, f.counts p true = false) (hroom : x.tile.wins.xfers.length < 256) (harm : bitOf (x.reg 0x260) 16 = false)
    (hroute : x.injectable { replyPacket x.ctrlEid p 512 0 p.offset 1 with epoch := x.rep.cur } = true) :
    x.controlWrite p = (x.setStore (x.putRow (r.storeRow (p.offset / 512)) p.payload p.poison 19).tile.store).emit
      (.packet { replyPacket x.ctrlEid p 512 0 p.offset 1 with epoch := x.rep.cur }) := by
  have hfound : x.tile.store.region p.window = some r := Store.region_of_get hr hval
  have hst : x.controlStatus p = 0 := by
    unfold TX.controlStatus
    simp only [hr, hsrc, hgen, hval, hreb, hro]
    rw [if_neg (by simp), if_neg (by simp; omega), if_neg (by simp), if_neg (by omega), if_neg (by simp)]
    rfl
  have hput : x.putRegionRows p.window 19 [(p.offset / 512, p.payload, p.poison)] =
      x.putRow (r.storeRow (p.offset / 512)) p.payload p.poison 19 := by
    simp [TX.putRegionRows, hfound, hcls]
  unfold TX.controlWrite
  simp only [hr, hst, hcls, ne_eq, not_false_eq_true, if_true]
  rw [if_pos (by simp), TX.countPacket_single hnone hroom htotal hbaton, hput, TX.putRow_unarmed _ _ _ harm, htype]
  exact TX.inject_ok hroute

end Transfer

/-- Settles O30. -/
theorem controlWriteLands : Obligations.ControlWriteLands := by
  unfold Obligations.ControlWriteLands
  intro s t p ht hp y x r row htype hlong hctrl hsrc hgen hwin hreb hval hcls hsize hro htotal hbaton hnone hroom harm a hroute
  let z := (x.setStore (x.putRow row p.payload p.poison 19).tile.store).emit (.packet a)
  have hz : x.controlWrite p = z :=
    TX.controlWrite_single rfl hsrc hgen hwin hreb hval hcls hsize hro htotal hbaton htype hnone hroom harm hroute
  have hexec : exec (.controlWrite t) s = .next (y.tileDid t z) := by
    rw [exec_controlWrite, show (Instr.controlWrite t).wf = true by simp [Instr.wf, isRouter]; omega, State.act_true,
      Sys.controlWriteRow, ← hz]
    exact congrArg Host.Outcome.next (State.atEndpoint_tileDid _ hp (by simp [htype, hlong, hctrl]) ht)
  obtain ⟨hwire, htile⟩ := State.localWire_tileDid (s := y) (x := z) rfl
  have hdata : z.tile.store.data = Mem.write x.tile.store.data (512 * row) 512 p.payload := by
    simp only [z, TX.putRow_unarmed _ _ _ harm]
    rfl
  refine ⟨_, hexec, ?_, fun n hn => ?_, ?_, ?_⟩
  · rw [htile]
    exact Store.rowData_written hdata
  · rw [htile]
    exact Store.rowData_unwritten hdata hn
  · rw [htile]
    rfl
  · rw [hwire]
    have hlocal : y.localWire t = s.localWire t := by
      rw [State.localWire, show y.sys.router t = { s.sys.router t with eject := (s.sys.router t).eject.drop 1 } from
        Sys.router_setRouter_same ..]
      rfl
    rw [hlocal]
    rfl

end Sys2Proof.Machine

/-! SUPPORT. Laws of replies at their sender and of transfers that wait too long (R225, R306, R311, R312, R315, R318). -/

namespace Sys2Proof.Machine

section Replies
variable {x : TX} {k : Nat} {p : Packet}

@[simp] theorem TX.store_modSlot (x : TX) (k : Nat) (f : Slot → Slot) : (x.modSlot k f).tile.store = x.tile.store := rfl

theorem TX.store_setReg (x : TX) (off v : Nat) : (x.setReg off v).tile.store = x.tile.store := rfl

theorem TX.store_bump (x : TX) (off hi lo n : Nat) : (x.bump off hi lo n).tile.store = x.tile.store := TX.store_setReg ..

theorem TX.store_markDirty (x : TX) (n : Nat) : (x.markDirty n).tile.store = x.tile.store := by
  unfold TX.markDirty
  split
  · split
    · exact TX.store_setReg ..
    · rfl
  · rfl

/-- A row that lands is written, and its stream keeps what it has in flight (R197, R205). -/
theorem TX.landRow_lands {i slot row data : Nat} {poison : Bool} {c : Desc} (hk : k < 16)
    (hset : ((x.slot k).stream i).setDesc = some c) :
    (x.landRow k i slot row data poison).tile.store.rowData (((x.slot k).stream i).slotRow slot row) = data % 2 ^ 4096 ∧
      (((x.landRow k i slot row data poison).slot k).stream i).flight = ((x.slot k).stream i).flight := by
  have hland : ∃ (y : TX) (z : Stream), y.tile.store = (x.putRow (((x.slot k).stream i).slotRow slot row) data poison k).tile.store ∧
      z.flight = ((x.slot k).stream i).flight ∧ x.landRow k i slot row data poison = y.modSlot k (fun s => s.setStream i z) := by
    unfold TX.landRow
    simp only [hset]
    refine ⟨_, _, ?_, ?_, rfl⟩
    · split
      · rw [TX.store_modSlot, TX.store_bump, TX.store_markDirty]
      · exact TX.store_markDirty ..
    · split <;> rfl
  obtain ⟨y, z, hstore, hflight, hrun⟩ := hland
  rw [hrun]
  constructor
  · refine Store.rowData_written (s := x.tile.store) ?_
    rw [TX.store_modSlot, hstore, TX.putRow_eq _ _ _ _ (by omega)]
    rfl
  · rw [TX.modSlot, TX.slot_setSlot, Slot.stream_setStream, hflight]

/-- A response of one row lands in the staging slot that its fetch names (R203, R225). -/
theorem TX.readResp_lands {i : Nat} {f : Fetch} {c : Desc} (hk : p.dst % 16 < 16) (hf : (x.slot (p.dst % 16)).fetchOf p.tag = some (i, f))
    (hfill : bitOf p.misc 0 = false) (hset : ((x.slot (p.dst % 16)).stream i).setDesc = some c) :
    let z := (x.slot (p.dst % 16)).stream i
    (x.readResp p).tile.store.rowData (z.slotRow f.slot f.row) = p.payload % 2 ^ 4096 ∧
      (((x.readResp p).slot (p.dst % 16)).stream i).flight = z.flight.filter (fun g => g ≠ f) := by
  intro z
  let w : Stream := { z with flight := z.flight.filter (fun g => g ≠ f) }
  have hw : ((x.dropFetch (p.dst % 16) i f).slot (p.dst % 16)).stream i = w := by
    rw [TX.dropFetch, TX.modSlot, TX.slot_setSlot, Slot.stream_setStream]
  have hrun : x.readResp p = (x.dropFetch (p.dst % 16) i f).landRow (p.dst % 16) i f.slot f.row p.payload p.poison := by
    simp only [TX.readResp, hf, hfill, Bool.false_and, Bool.false_eq_true, if_false]
  have hland := TX.landRow_lands (x := x.dropFetch (p.dst % 16) i f) (i := i) (slot := f.slot) (row := f.row)
    (data := p.payload) (poison := p.poison) (c := c) hk (by rw [hw]; exact hset)
  rw [hw] at hland
  rw [hrun]
  exact hland

/-- A reply that a SEND of the tracker waits for takes its entry off (R311). -/
theorem TX.replyIn_send (hdst : p.dst < 0x1100) (hans : p.answers ≠ 2)
    (hmine : (x.slot (p.dst % 16)).tracker.any (fun e => !e.mcast && decide (e.target = p.src) && decide (e.window = p.window) &&
      decide (e.tag = p.tag)) = true) :
    let v := x.slot (p.dst % 16)
    let y := x.setSlot (p.dst % 16) { v with tracker := v.tracker.filter (fun e =>
      !(!e.mcast && decide (e.target = p.src) && decide (e.window = p.window) && decide (e.tag = p.tag))) }
    x.replyIn p = if p.type = 6 then y else (y.bump (0xB040 + 4 * (p.dst % 16)) 31 16 1).note true ncXferNack 0
      (x.slotEid (p.dst % 16)) p.tag (p.status + 256 * p.window) := by
  intro v y
  unfold TX.replyIn
  dsimp only
  rw [if_neg (by simp; omega), if_neg hans]
  simp only [hmine, if_true, Bool.not_true, Bool.false_eq_true, if_false, decide_eq_true_eq]
  split
  · rfl
  · rfl

end Replies

theorem Sys.copiesDone_idle {s : Sys} (h : s.lead.jobs = []) : s.copiesDone = s := by
  simp [Sys.copiesDone, h, NMap.keys]

/-- Settles O31. -/
theorem repliesAndTimeouts : Obligations.RepliesAndTimeouts := by
  unfold Obligations.RepliesAndTimeouts
  intro s t k p ht hk hp hdst y x v mine rest
  subst hdst
  have hwf : isRouter t = true := by simp [isRouter]; omega
  refine ⟨fun i f c htype hf hfill hset => ?resp, fun htype hlow hans hmine hjobs => ?ack, fun htype hlow hans hmine => ?nack⟩
  case resp =>
    obtain ⟨hrow, hflight⟩ := TX.readResp_lands (x := x) hk hf hfill hset
    refine ⟨y.tileDid t (x.readResp p), ?_, ?_, ?_⟩
    · rw [exec_readResp, show (Instr.readResp t).wf = true by simp [Instr.wf, hwf], State.act_true]
      exact congrArg Host.Outcome.next (State.atEndpoint_tileDid _ hp (by simp [htype]) ht)
    · rw [State.tileDid_store]
      exact hrow
    · rw [State.slot_tileDid]
      exact hflight
  case ack =>
    have htaken : _ = y.tileDid t (x.replyIn p) := State.atEndpoint_tileDid (kind := fun p => decide (p.type = 6)) (fun x p => x.replyIn p) hp (by simp [htype]) ht
    rw [TX.replyIn_send (x := x) hlow hans hmine, if_pos htype, State.tileDid_quiet _ _ _ rfl] at htaken
    rw [exec_ack, show (Instr.ack t).wf = true by simp [Instr.wf, hwf], State.act_true, Sys.ackRow, Sys.copiesDone_idle]
    · exact congrArg Host.Outcome.next htaken
    · exact (congrArg (fun u : State => u.sys.lead.jobs) htaken).trans hjobs
  case nack =>
    have htaken : _ = y.tileDid t (x.replyIn p) := State.atEndpoint_tileDid (kind := fun p => decide (p.type = 7)) (fun x p => x.replyIn p) hp (by simp [htype]) ht
    rw [TX.replyIn_send (x := x) hlow hans hmine, if_neg (by omega), State.tileDid_note _ _ _ _ _ _ _ _ _ rfl] at htaken
    rw [exec_nack, show (Instr.nack t).wf = true by simp [Instr.wf, hwf], State.act_true, Sys.nackRow]
    exact congrArg Host.Outcome.next htaken

section Timeouts
variable {x : TX}

theorem TX.trackerTimeout_late {k : Nat} {e : Track} (he : (x.slot k).tracker = [e]) (hnew : e.reported = false)
    (hlate : e.since + 1000 * bitsOf (x.reg 0xB008) 15 0 ≤ x.now) :
    x.trackerTimeout k = (x.setSlot k { x.slot k with tracker := [{ e with reported := true }] }).note true ncXferTimeout 0
      (x.slotEid k) e.tag (e.window + (if e.mcast then 2 ^ 8 else 0) + 2 ^ 9 * (e.target % 2 ^ 14)) := by
  have hdue : (!e.reported && decide (x.now ≥ e.since + 1000 * bitsOf (x.reg 0xB008) 15 0)) = true := by simp [hnew]; exact hlate
  unfold TX.trackerTimeout
  simp only [he, List.filter_cons, List.map_cons, List.map_nil, List.filter_nil, hdue, if_true, List.foldl_cons, List.foldl_nil]
  rfl

theorem TX.controlTimeout_late {c : CtrlSent} (hc : x.tile.wins.ctrlSent = [c]) (hwait : c.waiting = true)
    (hlate : c.since + 1000 * bitsOf (x.reg 0xB008) 15 0 ≤ x.now) :
    x.controlTimeout = (x.setWins { x.tile.wins with ctrlSent := [{ c with waiting := false, fails := c.fails + 1 }] }).note true
      ncXferTimeout 0 x.ctrlEid c.tag (c.region + 2 ^ 9 * (c.dst % 2 ^ 14)) := by
  have hdue : (c.waiting && decide (x.now ≥ c.since + 1000 * bitsOf (x.reg 0xB008) 15 0)) = true := by simp [hwait]; exact hlate
  unfold TX.controlTimeout
  simp only [hc, List.find?_cons, hdue, List.map_cons, List.map_nil, if_true]

/-- A purge keeps the window table and the store, and of its records those of other partitions (R318). -/
theorem TX.purge_wins (x : TX) (part : Nat) :
    let w := x.tile.wins
    let rowMine (row : Nat) : Bool := match x.tile.store.regionOf row with
      | some p => decide (p.2.partition = part)
      | none => false
    (x.purge part).tile.wins = { w with
      xfers := w.xfers.filter (fun f => !(if f.ctrl then decide ((NMap.get {} x.tile.store.regions f.window).partition = part)
        else decide ((NMap.get {} w.table f.window).partition = part)))
      landed := w.landed.filter (fun r => !rowMine r), withheld := w.withheld.filter (fun h => !(h.rows.any rowMine)) } ∧
    (x.purge part).tile.store = x.tile.store ∧ (x.purge part).out = x.out := by
  unfold TX.purge
  dsimp only
  split <;> exact ⟨rfl, rfl, rfl⟩

end Timeouts

/-- Settles O32. -/
theorem transferTimeoutsAndPurge : Obligations.TransferTimeoutsAndPurge := by
  unfold Obligations.TransferTimeoutsAndPurge
  intro s t k ht hk x p v us
  have hwf : isTile t = true ∧ isSlot k = true := by simp [isTile, isSlot, ht, hk]
  refine ⟨fun e he hnew hlate => ?_, fun c hc hwait hlate => ?_, fun part hpart => ?_⟩
  · exact State.exec_slot_note (exec_sendTrackerTimeout t k s) (by simp [Instr.wf, hwf]) ht
      (TX.trackerTimeout_late he hnew hlate)
  · exact State.exec_tile_note (exec_controlWriteTimeout t s) (by simp [Instr.wf, hwf]) ht
      (TX.controlTimeout_late hc hwait hlate)
  · obtain ⟨hwins, hstore, hout⟩ := TX.purge_wins x part
    have hexec := State.exec_quiet (exec_tileXferPurge t part s) (by simpa [Instr.wf, hwf] using hpart) ht hout
    refine ⟨_, hexec, ?_, fun row n r hrow hr => ?_, ?_, ?_⟩
    all_goals rw [State.withTile, Sys.tile_setTile_same]
    · rw [show ((s.sys.tx t).purge part).tile.wins = _ from hwins]
      rfl
    · rw [show ((s.sys.tx t).purge part).tile.wins = _ from hwins]
      have hmine : x.tile.store.regionOf row = some (n, r) := hrow
      simp [hmine, hr]
    · rw [show ((s.sys.tx t).purge part).tile.wins = _ from hwins]
      rfl
    · exact hstore

end Sys2Proof.Machine

/-! SUPPORT. Laws of the invalidation of far caches at a window's close (R313, R317). -/

namespace Sys2Proof.Machine

section Invalidation
variable {s : Sys} {t : Nat} {m : TMsg}

theorem Sys.invalidateMsg_head (hmail : (s.tad t).inbox.head? = some m) (htype : m.type = 0x1C) :
    s.invalidateMsg t = (s.setTad t { s.tad t with inbox := (s.tad t).inbox.drop 1 }).onTile t (fun x =>
      x.invalidate (bitsOf m.payload 15 0) (bitsOf m.payload 23 16) (bitsOf m.payload 31 24) m.tag) := by
  have htake := Sys.takeMsg_head (f := fun m => decide (m.type = 0x1C)) hmail (by simp [htype])
  simp only [Sys.invalidateMsg, htake]

/-- The oldest sweep's end at a tile: its lines are gone, and the lead hub is answered. -/
theorem Sys.invalidateSweepDone_head {e n g tag : Nat} {rest : List (Nat × Nat × Nat × Nat)} (ht : t < 256)
    (hq : (s.tile t).wins.farSweeps = (e, n, g, tag) :: rest) :
    let w := (s.tile t).wins
    let x := ((s.tx t).setWins { w with
      farSweeps := rest
      farLines := w.farLines.filter (fun p => !(decide (p.2.eid = e) && decide (p.2.window = n) && decide (p.2.gen = g))) }).bump
        0xB10C 15 0 1
    s.invalidateSweepDone t = (s.setTile t x.tile).sendMsg t
      { dst := s.leadAddr, type := 0x1D, urgent := true, tag := tag, payload := e + 2 ^ 16 * n + 2 ^ 24 * g } := by
  intro w x
  have hq' : (s.tx t).tile.wins.farSweeps = (e, n, g, tag) :: rest := hq
  have hask : s.askTile t (fun x => x.sweepDone) = (some (e, n, g, tag), s.setTile t x.tile) := by
    simp only [Sys.askTile, TX.sweepDone, hq']
    rfl
  rw [Sys.invalidateSweepDone, if_pos ht, hask]
  rfl

/-- The answer of the last tile of the only close closes the window of a tile. -/
theorem Sys.invalAnswered_last {eid n g since l u : Nat} (hinv : s.lead.invals = [(eid, n, g, [t], since)])
    (hwaits : s.lead.waits = []) (heid : eid = 0x1000 + l) (hl : l < 240) (hphys : s.physOf l = some u) :
    s.invalAnswered eid n g t = (s.setLead { s.lead with invals := [] }).onTile u (fun x => x.closeEnd n) := by
  have hdone : s.invalDone (eid, n, g) t = (true, s.setLead { s.lead with invals := [] }) := by
    simp [Sys.invalDone, hinv, Sys.modLead, Sys.setLead]
  have htile : (s.setLead { s.lead with invals := [] }).tileOfEid eid = some u := by
    rw [Sys.tileOfEid, if_neg (by omega), if_pos (by simp; omega), ← hphys, heid]
    exact congrArg _ (by omega)
  have hkeep : ((s.setLead { s.lead with invals := [] }).onTile u (fun x => x.closeEnd n)).lead.waits = [] := by
    rw [Sys.onTile]
    split <;> exact hwaits
  have hhub : (decide (eid = 0x1200) || decide (eid = 0x1201)) = false := by simp; omega
  unfold Sys.invalAnswered
  rw [hdone]
  simp only [Bool.not_true, Bool.false_eq_true, if_false, hhub, htile]
  exact Sys.answerWaits_none hkeep ..

theorem Sys.invalidateAck_head (hmail : (s.tad (256 + s.lead.hub)).inbox.head? = some m) (htype : m.type = 0x1D) :
    s.invalidateAck = (s.setTad (256 + s.lead.hub) { s.tad (256 + s.lead.hub) with
      inbox := (s.tad (256 + s.lead.hub)).inbox.drop 1 }).invalAnswered (bitsOf m.payload 15 0) (bitsOf m.payload 23 16)
        (bitsOf m.payload 31 24) m.src := by
  have htake := Sys.takeMsg_head (f := fun m => decide (m.type = 0x1D)) hmail (by simp [htype])
  simp only [Sys.invalidateAck, Sys.leadAddr, htake]

/-- The silence of a tile already shed for 50 µs counts as its answer. -/
theorem Sys.invalidateTimeout_shed {eid n g since : Nat} (hinv : s.lead.invals = [(eid, n, g, [t], since)])
    (hlate : since + 50000 ≤ s.now) (hshed : ((s.invalAnswered eid n g t).tile t).shed = true) :
    s.invalidateTimeout t = s.invalAnswered eid n g t := by
  have hfind : s.lead.invals.find? (fun i => decide (s.now ≥ i.2.2.2.2 + 50000) && i.2.2.2.1.contains t) =
      some (eid, n, g, [t], since) := by
    rw [hinv, List.find?_cons_of_pos]
    simpa using hlate
  rw [Sys.invalidateTimeout, hfind]
  exact if_pos hshed

end Invalidation

/-- Settles O33. -/
theorem farCacheInvalidation : Obligations.FarCacheInvalidation := by
  unfold Obligations.FarCacheInvalidation
  intro s t ht w
  have hwf : isTile t = true := by simp [isTile, ht]
  refine ⟨fun m hmail htype => ?begins, fun e n g tag rest hq => ?sweep, fun m l since hmail htype => ?ack,
    fun eid n g since hinv hlate hshed hwaits l u heid hl hphys hu => ?timeout⟩
  case begins =>
    intro key
    rw [exec_invalidate, show (Instr.invalidate t).wf = true by simp [Instr.wf, hwf], State.act_true,
      Sys.invalidateMsg_head hmail htype, Sys.onTile, if_pos ht]
    rfl
  case sweep =>
    refine ⟨_, by rw [exec_invalidateSweepDone, show (Instr.invalidateSweepDone t).wf = true by simp [Instr.wf, hwf],
      State.act_true, Sys.invalidateSweepDone_head ht hq], ?_, fun x hx => ?_, fun x hx hother => ?_,
      { dst := s.sys.leadAddr, src := t, type := 0x1D, urgent := true, tag := tag, payload := e + 2 ^ 16 * n + 2 ^ 24 * g
        rgen := (s.sys.tad t).rgen }, ?_, rfl, rfl, rfl, rfl⟩
    · rw [Sys.sendMsg, Sys.tile_setTad, Sys.tile_setTile_same]
      rfl
    · rw [Sys.sendMsg, Sys.tile_setTad, Sys.tile_setTile_same] at hx
      obtain ⟨-, hgone⟩ := List.mem_filter.mp hx
      rintro ⟨h1, h2, h3⟩
      simp [h1, h2, h3] at hgone
    · rw [Sys.sendMsg, Sys.tile_setTad, Sys.tile_setTile_same]
      refine List.mem_filter.mpr ⟨hx, ?_⟩
      simp only [Bool.not_eq_true', ← Bool.decide_and, decide_eq_false_iff_not, and_assoc]
      exact hother
    · rw [Sys.sendMsg, Sys.tad_setTad_same]
      rfl
  case ack =>
    intro eid n hinv hwaits heid hl hphys z
    have hlast := Sys.invalAnswered_last (s := (s.mailTaken (256 + s.sys.lead.hub)).sys) hinv hwaits heid hl hphys
    rw [Sys.onTile, if_pos ht] at hlast
    rw [exec_invalidateAck, show Instr.invalidateAck.wf = true from rfl, State.act_true, Sys.invalidateAck_head hmail htype]
    exact congrArg (fun y => Host.Outcome.next { s with sys := y }) hlast
  case timeout =>
    intro wu z
    have hlast := Sys.invalAnswered_last hinv hwaits heid hl hphys
    have hkeep : ((s.sys.invalAnswered eid n g t).tile t).shed = true := by
      rw [hlast, Sys.onTile, if_pos hu]
      by_cases hut : t = u
      · subst hut
        rw [show ∀ y : Sys, y.putTX t ((y.tx t).closeEnd n) = y.setTile t ((y.tx t).closeEnd n).tile from fun _ => rfl,
          Sys.tile_setTile_same]
        exact hshed
      · rw [show ∀ y : Sys, y.putTX u ((y.tx u).closeEnd n) = y.setTile u ((y.tx u).closeEnd n).tile from fun _ => rfl,
          Sys.tile_setTile_other _ _ _ _ hut]
        exact hshed
    rw [exec_invalidateTimeout, show (Instr.invalidateTimeout t).wf = true by simp [Instr.wf, hwf], State.act_true,
      Sys.invalidateTimeout_shed hinv hlate hkeep, hlast, Sys.onTile, if_pos hu]
    rfl

end Sys2Proof.Machine

/-! SUPPORT. Laws of the straights: launching, landing, relays, carried packets and status slots (R247–R268). -/

namespace Sys2Proof.Machine

section Ports
variable (st : Straight) (k : Nat) (v w : StraightPort)

@[simp] theorem Straight.port_setPort_same : (st.setPort k v).port k = v := NMap.get_put_same ..

theorem Straight.port_setPort_other {i : Nat} (h : i ≠ k) : (st.setPort k v).port i = st.port i :=
  NMap.get_put_other _ _ _ _ _ h

theorem Straight.port_setPort (i : Nat) : (st.setPort k v).port i = if i = k then v else st.port i := NMap.get_put ..

@[simp] theorem Straight.setPort_setPort : (st.setPort k v).setPort k w = st.setPort k w := by
  simp [Straight.setPort]

/-- Frame `f` in flight from port `j`: it has every other port that is not absent still to reach (R248, R257). -/
def Straight.flown (st : Straight) (f : Frame) (j : Nat) : Frame :=
  { f with
    sender := j, pending := (List.range 18).filter (fun i => i ≠ j && !(st.port i).absent), deliver := false
    forward := false, old := false }

/-- Where a frame flies does not change with a port that stays as absent as it was. -/
theorem Straight.flown_setPort (h : v.absent = (st.port k).absent) (f : Frame) (j : Nat) :
    (st.setPort k v).flown f j = st.flown f j := by
  have habs (i : Nat) : ((st.setPort k v).port i).absent = (st.port i).absent := by
    rw [Straight.port_setPort]
    split
    next hi => rw [h, hi]
    next => rfl
  simp only [Straight.flown, habs]

end Ports

/-- What a step leaves alone that only counts, scores and reports: the straights and the mesh. -/
def Sys.SameRoads (a b : Sys) : Prop := b.straights = a.straights ∧ Sys.SameMesh a b

namespace Sys.SameRoads
variable {a b c s : Sys}

theorem refl : Sys.SameRoads s s := ⟨rfl, Sys.SameMesh.refl s⟩

theorem trans (hab : Sys.SameRoads a b) (hbc : Sys.SameRoads b c) : Sys.SameRoads a c :=
  ⟨hbc.1.trans hab.1, hab.2.trans hbc.2⟩

theorem straight (h : Sys.SameRoads a b) (n : Nat) : b.straight n = a.straight n := by
  rw [Sys.straight, Sys.straight, h.1]

end Sys.SameRoads

section Roads
variable {s : Sys}

theorem Sys.bumpTile_sameRoads (t off hi lo n : Nat) : Sys.SameRoads s (s.bumpTile t off hi lo n) := by
  refine ⟨?_, Sys.bumpTile_sameMesh ..⟩
  unfold Sys.bumpTile
  split <;> rfl

theorem Sys.bumpStraight_sameRoads (n k off hi lo m : Nat) : Sys.SameRoads s (s.bumpStraight n k off hi lo m) := by
  unfold Sys.bumpStraight
  split
  · exact Sys.bumpTile_sameRoads ..
  · exact .refl

theorem Sys.queueNotice_sameRoads (n : Nat) (urgent : Bool) (code payload : Nat) :
    Sys.SameRoads s (s.queueNotice n urgent code payload) := by
  refine ⟨?_, Sys.queueNotice_sameMesh ..⟩
  unfold Sys.queueNotice
  dsimp only
  repeat' split
  all_goals rfl

theorem Sys.discard_sameRoads (n : Nat) (p : Packet) (cause : Nat) : Sys.SameRoads s (s.discard n p cause) := by
  refine ⟨?_, Sys.discard_sameMesh ..⟩
  unfold Sys.discard Sys.noteAt
  dsimp only
  repeat' split
  all_goals exact ((Sys.bumpTile_sameRoads ..).trans (Sys.queueNotice_sameRoads ..)).1

theorem Sys.scored_sameRoads (kind wher sub ev n : Nat) : Sys.SameRoads s (s.scored kind wher sub ev n) :=
  ⟨rfl, Sys.scored_sameMesh ..⟩

end Roads

section Launch
variable {s : Sys} {n k : Nat}

theorem Sys.fly_straight (f : Frame) :
    (s.fly n k f).straight n = { s.straight n with air := (s.straight n).air ++ [(s.straight n).flown f k] } :=
  Sys.straight_setStraight_same ..

/-- A first launch: the next SSEQ, a place in the replay buffer, and the frame in flight (R249, R258). -/
theorem Sys.launch_straight (f : Frame) :
    let st := s.straight n
    let p := st.port k
    let g : Frame := { f with sseq := p.sseq, tries := [], retry := false, retryTo := 0, sender := k }
    (s.launch n k f).straight n =
      { st.setPort k { p with sseq := (p.sseq + 1) % 256, replay := ringPush 8 p.replay g } with air := st.air ++ [st.flown g k] } := by
  intro st p g
  rw [Sys.launch, (Sys.bumpStraight_sameRoads ..).straight, Sys.fly_straight, Sys.straight_setStraight_same,
    Straight.flown_setPort _ _ _ (by rfl)]
  rfl

theorem Sys.launch_other {m : Nat} (f : Frame) (h : m ≠ n) : (s.launch n k f).straight m = s.straight m := by
  rw [Sys.launch, (Sys.bumpStraight_sameRoads ..).straight, Sys.fly, Sys.straight_setStraight_other _ _ _ _ h,
    Sys.straight_setStraight_other _ _ _ _ h]

theorem Sys.offTime_straight (more : Bool) : (s.offTime n k more).straight n =
    (s.straight n).setPort k { (s.straight n).port k with offSince := if more then some s.now else none } := by
  unfold Sys.offTime
  dsimp only
  split
  · rw [(Sys.bumpStraight_sameRoads ..).straight, Sys.straight_setStraight_same]
  · exact Sys.straight_setStraight_same ..

theorem Sys.retransmission_launches {f : Frame} {rest : List Frame} (hres : ((s.straight n).port k).resend = f :: rest)
    (hup : (s.straight n).up = true) (hfence : ((s.straight n).port k).fenced = false)
    (hon : (s.straight n).targetsOn f = true) :
    (s.retransmission n k).straight n = { (s.straight n).setPort k { (s.straight n).port k with resend := rest } with
      air := (s.straight n).air ++ [(s.straight n).flown f k] } := by
  simp only [Sys.retransmission, hres, hup, hfence, hon]
  rw [if_pos (by decide), (Sys.bumpStraight_sameRoads ..).straight, Sys.fly_straight, Sys.straight_setStraight_same,
    Straight.flown_setPort _ _ _ (by rfl)]
  rfl

/-- A port with nothing to send again or to forward launches its own frame (R255). -/
theorem Sys.frameLaunch_own {i : Nat} {f : Frame} (hup : (s.straight n).up = true) (hres : ((s.straight n).port k).resend = [])
    (hfence : ((s.straight n).port k).fenced = false) (hpick : (s.straight n).ownPick k = some (i, f))
    (hfwd : ∀ t, portTile n k = some t → ((s.straight (straightOf t (1 - axisOf n))).port
      (positionOf t (1 - axisOf n))).first.any (fun g => g.forward) = false) :
    let p := (s.straight n).port k
    s.frameLaunch n k = ((s.setStraight n ((s.straight n).setPort k
      { p with ownQ := listDrop p.ownQ i, ownRR := f.requester })).launch n k f).offTime n k false := by
  intro p
  have hready : (s.straight n).resendReady k = false := by simp [Straight.resendReady, hres]
  have hguard : ¬((!(s.straight n).up || ((s.straight n).port k).fenced) = true) := by simp [hup, hfence]
  unfold Sys.frameLaunch
  dsimp only
  rw [if_neg hguard, if_neg (by simp [hready])]
  cases htile : portTile n k with
  | none => simp only [hpick]; rfl
  | some t => simp only [hfwd t htile, hpick, Bool.false_eq_true, if_false]; rfl

end Launch

section Landing
variable {s : Sys} {n k i : Nat} {f : Frame}

/-- The straight once frame `i` in flight has reached port `k` and its gap there is closed (R258). -/
def Straight.taken (st : Straight) (i k : Nat) (f : Frame) : Straight :=
  (st.landed i k).setPort k { st.port k with gaps := (st.port k).gaps.filter (fun g => g ≠ (f.sender, f.sseq)) }

variable (hfence : ((s.straight n).port k).fenced = false) (hretry : f.retry = false)
include hfence hretry

/-- A good frame that is well formed for the straight and for the port is taken (R250, R258). -/
theorem Sys.frameLands_taken (hres : f.pkt.reserved = false) (hport : f.forPort k = true)
    (haddr : f.carried = true ∨ bitsOf f.pkt.group 18 18 = axisOf n ∧ bitsOf f.pkt.group 22 19 = n % 16) :
    let p := (s.straight n).port k
    s.frameLands n k i f false = (some { f with old := p.gaps.contains (f.sender, f.sseq) && p.draining f.sender },
      s.setStraight n ((s.straight n).taken i k f)) := by
  intro p
  have hport' : ((s.straight n).landed i k).port k = (s.straight n).port k := rfl
  unfold Sys.frameLands
  dsimp only
  rw [Sys.straight_setStraight_same, hport', if_neg (by simp [hfence]), if_neg (by decide), if_neg (by simp [hretry]),
    if_neg (by rcases haddr with h | h <;> simp [hres, h]), if_pos hport, Sys.setStraight_setStraight]
  rfl

/-- Whatever becomes of a good frame at the port, its straight's air has it landed there. -/
theorem Sys.frameLands_air :
    ((s.frameLands n k i f false).2.straight n).air = ((s.straight n).landed i k).air := by
  have hport' : ((s.straight n).landed i k).port k = (s.straight n).port k := rfl
  unfold Sys.frameLands
  dsimp only
  rw [Sys.straight_setStraight_same, hport', if_neg (by simp [hfence]), if_neg (by decide), if_neg (by simp [hretry])]
  split
  · rw [(Sys.discard_sameRoads ..).straight, Sys.straight_setStraight_same]
    rfl
  · split <;> (rw [Sys.straight_setStraight_same]; rfl)

/-- A frame whose CRC fails is asked for again (R258, R259). -/
theorem Sys.frameLands_bad (htries : NMap.get 0 f.tries k < 3) :
    (s.frameLands n k i f true).1 = none ∧
      (((s.frameLands n k i f true).2.straight n).port k).first = ((s.straight n).port k).first ∧
      (((s.frameLands n k i f true).2.straight n).port k).retries =
        ((s.straight n).port k).retries ++ [(f.sender, f.sseq)] := by
  have hport' : ((s.straight n).landed i k).port k = (s.straight n).port k := rfl
  have hroads (u : Sys) : Sys.SameRoads u ((u.bumpStraight n k 0x0C 15 0 1).scoreStraight n evFrameCrc) :=
    (Sys.bumpStraight_sameRoads ..).trans (Sys.scored_sameRoads ..)
  have hrun : s.frameLands n k i f true = (none, (s.setStraight n ((s.straight n).landed i k)).frameBad n k f) := by
    unfold Sys.frameLands
    dsimp only
    rw [Sys.straight_setStraight_same, hport', if_neg (by simp [hfence]), if_pos rfl]
  refine ⟨by rw [hrun], ?_⟩
  rw [hrun]
  unfold Sys.frameBad
  dsimp only
  rw [if_neg (by simp [hretry]), if_neg (by omega), Sys.straight_setStraight_same, Straight.port_setPort_same, (hroads _).straight,
    Sys.straight_setStraight_same]
  exact ⟨rfl, rfl⟩

end Landing

end Sys2Proof.Machine

/-! SUPPORT. Laws of what a straight's port does with the frames that land: multicast and carried frames, relays, status
slots (R250–R260, R264). -/

namespace Sys2Proof.Machine

section Multicast
variable {s : Sys} {n k i sender : Nat} {f : Frame} (hnext : (s.straight n).nextFor sender k = some (i, f))
variable (hfence : ((s.straight n).port k).fenced = false) (hretry : f.retry = false)
include hnext hfence hretry

/-- A multicast frame for this port alone enters its FIRST pool (R250, R252). -/
theorem Sys.mcastFrame_delivers (hcar : f.carried = false) (hport : f.forPort k = true) (hrelay : f.pkt.relay = false)
    (hfwd : f.forwarded = false) (hres : f.pkt.reserved = false) (haxis : bitsOf f.pkt.group 18 18 = axisOf n)
    (hnum : bitsOf f.pkt.group 22 19 = n % 16) :
    let p := (s.straight n).port k
    (((s.mcastFrame n k sender false).straight n).port k).first = keepPool (p.first ++
      [{ f with pending := [], forward := false, deliver := true, old := p.gaps.contains (f.sender, f.sseq) && p.draining f.sender }]) := by
  intro p
  have hlands := Sys.frameLands_taken (i := i) hfence hretry hres hport (.inr ⟨haxis, hnum⟩)
  have hfirst : (((s.straight n).taken i k f).port k).first = p.first := by
    rw [Straight.taken, Straight.port_setPort_same]
  unfold Sys.mcastFrame
  simp only [hnext, hcar, hlands, hrelay, Bool.false_and, hfwd, Bool.false_eq_true, if_false, Bool.not_false, Bool.true_or]
  rw [Sys.straight_setStraight_same, Straight.port_setPort_same, (Sys.bumpStraight_sameRoads ..).straight,
    Sys.straight_setStraight_same, hfirst]

theorem Sys.mcastFrame_bad (hcar : f.carried = false) (htries : NMap.get 0 f.tries k < 3) :
    let q := ((s.mcastFrame n k sender true).straight n).port k
    q.first = ((s.straight n).port k).first ∧ q.retries = ((s.straight n).port k).retries ++ [(f.sender, f.sseq)] := by
  obtain ⟨hnone, hstate⟩ := Sys.frameLands_bad (i := i) hfence hretry htries
  rcases hl : s.frameLands n k i f true with ⟨g, u⟩
  rw [hl] at hnone hstate
  obtain rfl : g = none := hnone
  simp only [Sys.mcastFrame, hnext, hcar, Bool.false_eq_true, if_false, hl]
  exact hstate

theorem Sys.carriedFrame_bad (hcar : f.carried = true) (htries : NMap.get 0 f.tries k < 3) :
    let q := ((s.carriedFrame n k sender true).straight n).port k
    q.first = ((s.straight n).port k).first ∧ q.retries = ((s.straight n).port k).retries ++ [(f.sender, f.sseq)] := by
  obtain ⟨hnone, hstate⟩ := Sys.frameLands_bad (i := i) hfence hretry htries
  rcases hl : s.frameLands n k i f true with ⟨g, u⟩
  rw [hl] at hnone hstate
  obtain rfl : g = none := hnone
  simp only [Sys.carriedFrame, hnext, hcar, Bool.not_true, Bool.false_eq_true, if_false, hl]
  exact hstate

/-- The panel with the carried frame in port `k`'s FIRST pool (R251, R252). -/
def Sys.pooled (s : Sys) (n k i : Nat) (f : Frame) : Sys :=
  let p := (s.straight n).port k
  let v := (s.setStraight n ((s.straight n).taken i k f)).bumpStraight n k 0x08 31 0 1
  v.setStraight n ((v.straight n).setPort k { (v.straight n).port k with first := ((v.straight n).port k).first ++
    [{ f with pending := [], deliver := true, forward := false, old := p.gaps.contains (f.sender, f.sseq) && p.draining f.sender }] })

theorem Sys.carriedFrame_taken {t : Nat} (hcar : f.carried = true) (htile : portTile n k = some t) (hport : f.ctarget = k)
    (hres : f.pkt.reserved = false) : s.carriedFrame n k sender false = (s.pooled n k i f).carryPool t 96 := by
  have hlands := Sys.frameLands_taken (i := i) hfence hretry hres (by simp [Frame.forPort, hcar, hport]) (.inl hcar)
  simp only [Sys.carriedFrame, hnext]
  rw [if_neg (by simp [hcar])]
  simp only [hlands, htile]
  rfl

omit hnext hfence hretry in
/-- The pools of the port, and the mesh, with the carried frame in the FIRST pool. -/
theorem Sys.pooled_state : Sys.SameMesh s (s.pooled n k i f) ∧
    let p := (s.straight n).port k
    (((s.pooled n k i f).straight n).port k).relayed = p.relayed ∧ (((s.pooled n k i f).straight n).port k).first = p.first ++
      [{ f with pending := [], deliver := true, forward := false, old := p.gaps.contains (f.sender, f.sseq) && p.draining f.sender }] := by
  have hroads : Sys.SameRoads (s.setStraight n ((s.straight n).taken i k f)) _ := Sys.bumpStraight_sameRoads n k 0x08 31 0 1
  refine ⟨Sys.SameMesh.trans (b := s.setStraight n ((s.straight n).taken i k f)) ⟨rfl, rfl, rfl, rfl⟩ hroads.2, ?_⟩
  simp only [Sys.pooled]
  rw [Sys.straight_setStraight_same, Straight.port_setPort_same, hroads.straight, Sys.straight_setStraight_same, Straight.taken,
    Straight.port_setPort_same]
  exact ⟨rfl, rfl⟩

end Multicast

section CarryPool

theorem listModify_last {α : Type} (l : List α) (a : α) (f : α → α) : listModify (l ++ [a]) l.length f = l ++ [f a] := by
  induction l with
  | nil => rfl
  | cons b l ih => exact congrArg (b :: ·) ih

/-- The only carried frame of a port's pools, the newest of its FIRST pool, is taken. -/
theorem StraightPort.takeCarried_last {p : StraightPort} {l : List Frame} {g : Frame} (hfirst : p.first = l ++ [g])
    (hrest : ∀ f ∈ l, f.carried = false) (hcar : g.carried = true) (hdel : g.deliver = true) :
    p.takeCarried = some (g.pkt, { p with first := keepPool (l ++ [{ g with deliver := false }]) }) := by
  have hidx : (l ++ [g]).findIdx? (fun f => f.deliver && f.carried) = some l.length := by
    rw [List.findIdx?_append, List.findIdx?_eq_none_iff.mpr (fun f hf => by simp [hrest f hf])]
    simp [hcar, hdel]
  have hmodify := listModify_last l g (fun f => { f with deliver := false })
  simp only [StraightPort.takeCarried, StraightPort.takeRow, hfirst, hidx, hmodify]
  simp

theorem StraightPort.takeCarried_none {p : StraightPort} (h : ∀ f ∈ p.first ++ p.relayed, (f.deliver && f.carried) = false) :
    p.takeCarried = none := by
  have hfirst : p.first.findIdx? (fun f => f.deliver && f.carried) = none :=
    List.findIdx?_eq_none_iff.mpr fun f hf => h f (List.mem_append_left _ hf)
  have hrelayed : p.relayed.findIdx? (fun f => f.deliver && f.carried) = none :=
    List.findIdx?_eq_none_iff.mpr fun f hf => h f (List.mem_append_right _ hf)
  simp only [StraightPort.takeCarried, StraightPort.takeRow, hfirst, hrelayed]

variable {s u : Sys} {t fuel : Nat} {pkt : Packet} {q : StraightPort}

/-- The pool's only carried packet goes in. -/
theorem Sys.carryPool_single
    (htake : ((s.straight (straightOf t 1)).port (positionOf t 1)).takeCarried = some (pkt, q))
    (hin : (s.setStraight (straightOf t 1) ((s.straight (straightOf t 1)).setPort (positionOf t 1) q)).carryIn t pkt = some u)
    (hrest : q.takeCarried = none) : s.carryPool t (fuel + 2) = u := by
  have hroads : u.straight (straightOf t 1) = (s.straight (straightOf t 1)).setPort (positionOf t 1) q := by
    refine Eq.trans ?_ (Sys.straight_setStraight_same s (straightOf t 1) _)
    revert hin
    unfold Sys.carryIn
    dsimp only
    split
    · rintro ⟨⟩; rfl
    · split
      · nofun
      · rintro ⟨⟩; rfl
  rw [Sys.carryPool]
  simp only [htake, hin]
  rw [Sys.carryPool]
  simp only [hroads, Straight.port_setPort_same, hrest]

theorem Sys.carryPool_stays
    (htake : ((s.straight (straightOf t 1)).port (positionOf t 1)).takeCarried = some (pkt, q))
    (hin : (s.setStraight (straightOf t 1) ((s.straight (straightOf t 1)).setPort (positionOf t 1) q)).carryIn t pkt = none) :
    s.carryPool t (fuel + 1) = s := by
  rw [Sys.carryPool]
  simp only [htake, hin]

end CarryPool

section Air

/-- The same frames are in flight on every straight. -/
def Sys.SameAir (a b : Sys) : Prop := ∀ m, (b.straight m).air = (a.straight m).air

theorem Sys.SameAir.trans {a b c : Sys} (hab : Sys.SameAir a b) (hbc : Sys.SameAir b c) : Sys.SameAir a c :=
  fun m => (hbc m).trans (hab m)

theorem Sys.SameRoads.sameAir {a b : Sys} (h : Sys.SameRoads a b) : Sys.SameAir a b := fun m => by rw [h.straight]

variable {s : Sys}

theorem Sys.setPort_sameAir (n k : Nat) (v : StraightPort) : Sys.SameAir s (s.setStraight n ((s.straight n).setPort k v)) := by
  intro m
  by_cases hm : m = n
  · rw [hm, Sys.straight_setStraight_same]
    rfl
  · rw [Sys.straight_setStraight_other _ _ _ _ hm]

theorem Sys.carryIn_sameAir {u : Sys} {t : Nat} {p : Packet} (h : s.carryIn t p = some u) : Sys.SameAir s u := by
  revert h
  unfold Sys.carryIn
  dsimp only
  split
  · rintro ⟨⟩; exact fun _ => rfl
  · split
    · nofun
    · rintro ⟨⟩; exact fun _ => rfl

theorem Sys.carryPool_sameAir (t fuel : Nat) : Sys.SameAir s (s.carryPool t fuel) := by
  induction fuel generalizing s with
  | zero => exact fun _ => rfl
  | succ fuel ih =>
    rw [Sys.carryPool]
    split
    · exact fun _ => rfl
    next p q _ =>
      split
      next u hin => exact ((Sys.setPort_sameAir _ _ _).trans (Sys.carryIn_sameAir hin)).trans ih
      next => exact fun _ => rfl

theorem Sys.engineNack_sameAir (e : Nat) (p : Packet) (status : Nat) : Sys.SameAir s (s.engineNack e p status) :=
  Sys.setPort_sameAir _ _ _

theorem Sys.siluaOut_sameAir (e : Nat) (p : Packet) : Sys.SameAir s (s.siluaOut e p).2 := by
  unfold Sys.siluaOut
  dsimp only
  split
  · exact fun _ => rfl
  · split
    · exact fun _ => rfl
    · split
      · exact Sys.engineNack_sameAir _ _ _
      · split
        · exact Sys.engineNack_sameAir _ _ _
        · (repeat' split) <;> exact fun _ => rfl

theorem Sys.enginePool_sameAir (e n k fuel : Nat) : Sys.SameAir s (s.enginePool e n k fuel) := by
  induction fuel generalizing s with
  | zero => exact fun _ => rfl
  | succ fuel ih =>
    rw [Sys.enginePool]
    dsimp only
    split
    · exact fun _ => rfl
    next p q _ =>
      split
      · exact ((Sys.setPort_sameAir _ _ _).trans (Sys.siluaOut_sameAir _ _)).trans ih
      · exact fun _ => rfl

theorem Sys.engineRetry_sameAir (e : Nat) : Sys.SameAir s (s.engineRetry e) :=
  List.foldlRecOn [0, 1, 2, 3] _ (motive := fun u => Sys.SameAir s u) (fun _ => rfl) fun _ hu _ _ =>
    hu.trans (Sys.enginePool_sameAir _ _ _ _)

/-- A good carried frame has landed at its port, wherever its packet goes (R251). -/
theorem Sys.carriedFrame_air {n k i sender : Nat} {f : Frame} (hnext : (s.straight n).nextFor sender k = some (i, f))
    (hfence : ((s.straight n).port k).fenced = false) (hretry : f.retry = false) (hcar : f.carried = true) :
    ((s.carriedFrame n k sender false).straight n).air = ((s.straight n).landed i k).air := by
  have hair := Sys.frameLands_air (i := i) hfence hretry
  rcases hl : s.frameLands n k i f false with ⟨g, u⟩
  rw [hl] at hair
  simp only [Sys.carriedFrame, hnext, hcar, Bool.not_true, Bool.false_eq_true, if_false, hl]
  cases g with
  | none => exact hair
  | some g =>
    refine Eq.trans ?_ hair
    have hpool (v : StraightPort) : Sys.SameAir u ((u.bumpStraight n k 0x08 31 0 1).setStraight n
        (((u.bumpStraight n k 0x08 31 0 1).straight n).setPort k v)) :=
      (Sys.bumpStraight_sameRoads ..).sameAir.trans (Sys.setPort_sameAir _ _ _)
    dsimp only
    split
    · exact ((hpool _).trans (Sys.carryPool_sameAir _ _)) n
    · exact ((hpool _).trans (Sys.engineRetry_sameAir _)) n

end Air

end Sys2Proof.Machine

/-! SUPPORT. The straights, settled: relays, status slots, and where a carried packet goes (R251–R264). -/

namespace Sys2Proof.Machine

/-- Where a tile sits on its two straights (R37). -/
theorem portTile_position {n k t : Nat} (hn : n < 32) (hk : k < 18) (h : portTile n k = some t) :
    t < 256 ∧ straightOf t (1 - axisOf n) ≠ n ∧ (16 ≤ n → straightOf t 1 = n ∧ positionOf t 1 = k) := by
  unfold portTile at h
  have hend : k < 16 := by
    refine Nat.lt_of_not_le fun hle => ?_
    simp [Nat.not_lt.mpr hle] at h
  by_cases hrow : n < 16
  · rw [if_pos hrow, if_pos hend] at h
    obtain rfl : 16 * n + k = t := Option.some.inj h
    refine ⟨by omega, ?_, fun h => absurd h (by omega)⟩
    simp only [axisOf, straightOf, if_pos hrow, Nat.sub_zero, if_neg Nat.one_ne_zero]
    omega
  · rw [if_neg hrow, if_pos hend] at h
    obtain rfl : 16 * k + (n - 16) = t := Option.some.inj h
    simp only [axisOf, straightOf, positionOf, if_neg hrow, Nat.sub_self, if_true, if_neg Nat.one_ne_zero]
    omega

section Relay
variable {s : Sys} {n k t i : Nat} {f : Frame}

/-- A relay whose other straight takes the frame launches it there (R264). -/
theorem Sys.relayForward_launches (htile : portTile n k = some t)
    (hidx : ((s.straight n).port k).first.findIdx? (fun g => g.forward) = some i)
    (hf : ((s.straight n).port k).first[i]? = some f) (hfence : ((s.straight n).port k).fenced = false)
    (hup : (s.straight (straightOf t (1 - axisOf n))).up = true)
    (hready : (s.straight (straightOf t (1 - axisOf n))).resendReady (positionOf t (1 - axisOf n)) = false)
    (hon : (s.straight (straightOf t (1 - axisOf n))).targetsOn (relayFrame (s.replica t) n f t) = true) :
    let p := (s.straight n).port k
    s.relayForward n k = (s.setStraight n ((s.straight n).setPort k
      { p with first := keepPool (listModify p.first i (fun f => { f with forward := false })) })).launch
        (straightOf t (1 - axisOf n)) (positionOf t (1 - axisOf n)) (relayFrame (s.replica t) n f t) := by
  intro p
  simp only [Sys.relayForward, htile, hidx, hf]
  rw [if_neg (by simp [hfence, hup, hready, hon])]

end Relay

section Status
variable {s : Sys} {n k : Nat}

/-- The straight once port `k` has sent its status slot (R253): a good one clears what it asked for. -/
def Sys.slotSent (s : Sys) (n k : Nat) (good : Bool) : Straight :=
  let st := s.straight n
  let p := st.port k
  let c := if st.timekeeper = some k then (st.cycle + 1) % 65536 else st.cycle
  let onF := s.poolOn n k false
  let onR := s.poolOn n k true
  { st.setPort k { p with
      shownFirst := onF, shownRelayed := onR, heard := good, missed := if good then 0 else p.missed + 1
      retries := if good then [] else p.retries, slot := slotBytes k c p.fenced onF onR (p.retries.take 4) } with cycle := c }

variable (hstate : (s.straight n).state = 3) (habs : ((s.straight n).port k).absent = false)
include hstate habs

theorem Sys.statusSlot_bad : s.statusSlot n k false = s.setStraight n (s.slotSent n k false) := by
  unfold Sys.statusSlot
  dsimp only
  rw [if_neg (by simp [hstate, habs]), if_pos (by decide)]
  rfl

/-- What port `k` of straight `n` asked of a sender: sent again where it is still kept, else lost (R258, R259). -/
def Sys.resendAsked (n k : Nat) (s : Sys) (q : Nat × Nat) : Sys :=
  let st := s.straight n
  let p := st.port q.1
  match p.replay.find? (fun f => f.sseq = q.2) with
  | some f =>
    let tries := NMap.put f.tries k (NMap.get 0 f.tries k + 1)
    s.setStraight n (st.setPort q.1 { p with
      resend := p.resend ++ [{ f with retry := true, retryTo := k, tries := tries }]
      replay := p.replay.map (fun h => if h.sseq = q.2 then { h with tries := tries } else h) })
  | none => s.frameLost n k { sender := q.1, sseq := q.2 }

theorem Sys.statusSlot_good : s.statusSlot n k true =
    (((s.straight n).port k).retries.drop 4).foldl (fun s (q : Nat × Nat) => s.frameLost n k { sender := q.1, sseq := q.2 })
      ((((s.straight n).port k).retries.take 4).foldl (Sys.resendAsked n k) (s.setStraight n (s.slotSent n k true))) := by
  unfold Sys.statusSlot
  dsimp only
  rw [if_neg (by simp [hstate, habs]), if_neg (by decide)]
  rfl

/-- What one good slot asks one other port for is put in that port's list to send again (R258, R259). -/
theorem Sys.statusSlot_asks {a q : Nat} {f : Frame} (hak : a ≠ k) (hres : ((s.straight n).port k).retries = [(a, q)])
    (hf : ((s.straight n).port a).replay.find? (fun f => f.sseq = q) = some f) :
    let u := s.statusSlot n k true
    ((u.straight n).port k).retries = [] ∧
      ((u.straight n).port a).resend = ((s.straight n).port a).resend ++
        [{ f with retry := true, retryTo := k, tries := NMap.put f.tries k (NMap.get 0 f.tries k + 1) }] := by
  have hport : ((s.setStraight n (s.slotSent n k true)).straight n).port a = (s.straight n).port a := by
    rw [Sys.straight_setStraight_same]
    exact Straight.port_setPort_other _ _ _ hak
  have hkept : (((s.setStraight n (s.slotSent n k true)).straight n).port k).retries = [] := by
    rw [Sys.straight_setStraight_same]
    exact congrArg StraightPort.retries (Straight.port_setPort_same ..)
  intro u
  simp only [u, Sys.statusSlot_good hstate habs, hres, List.take, List.drop, List.foldl_cons, List.foldl_nil, Sys.resendAsked,
    hport, hf]
  rw [Sys.straight_setStraight_same, Straight.port_setPort_same, Straight.port_setPort_other _ _ _ (Ne.symm hak)]
  exact ⟨hkept, rfl⟩

theorem Sys.portAbsent_declares {t : Nat} (hmissed : 8 ≤ ((s.straight n).port k).missed) (htile : portTile n k = some t) :
    s.portAbsent n k = ((s.setStraight n ((s.straight n).setPort k { (s.straight n).port k with absent := true })).scored
      ukTile t 0 evPortAbsent 1).noteAt t true ncPortAbsent ukTile t 0 0 := by
  unfold Sys.portAbsent
  dsimp only
  rw [if_pos (by simp [hstate, habs, hmissed])]
  simp only [htile]

end Status

section Carried
variable {s : Sys} {t : Nat} {pkt : Packet}

/-- Tile `t` is where packet `pkt` goes, by its own tables of the packet's epoch (R251). -/
def Sys.CarriedHere (s : Sys) (t : Nat) (pkt : Packet) : Prop :=
  ∃ ett r, (s.replica t).bank pkt.epoch = some (ett, r) ∧ routeIndex ett s.lead.peers s.boot.panelId pkt.dst = some t

theorem Sys.carryIn_here (hhere : s.CarriedHere t pkt) (htype : pkt.type ≠ 4) :
    s.carryIn t pkt = some (s.setRouter t { s.router t with
      eject := (s.router t).eject ++ [(pkt.vc, { pkt with escape := false, down := false })] }) := by
  obtain ⟨ett, r, hbank, hroute⟩ := hhere
  simp only [Sys.carryIn, hbank, hroute]
  rw [if_pos (by simp [htype])]

/-- A packet for elsewhere is injected where the local port holds none of its class (R251). -/
theorem Sys.carryIn_elsewhere (hno : ¬s.CarriedHere t pkt) :
    s.carryIn t pkt = if ((s.router t).port 4).wire.any (fun l => l.seq = 1 && l.chan = pkt.vc) then none else
      some (s.setRouter t ((s.router t).setPort 4 { (s.router t).port 4 with
        wire := ((s.router t).port 4).wire ++ [{ seq := 1, chan := pkt.vc, pkt := { pkt with escape := false, down := false } }] })) := by
  unfold Sys.carryIn
  dsimp only
  cases hbank : (s.replica t).bank pkt.epoch with
  | none => rfl
  | some b =>
    have hroute : routeIndex b.1 s.lead.peers s.boot.panelId pkt.dst ≠ some t := fun h => hno ⟨b.1, b.2, hbank, h⟩
    dsimp only
    rw [if_neg (by simp [hroute])]

theorem Sys.SameMesh.carriedHere {a b : Sys} (h : Sys.SameMesh a b) : b.CarriedHere t pkt ↔ a.CarriedHere t pkt := by
  obtain ⟨-, hrep, hpeers, hid⟩ := h
  simp only [Sys.CarriedHere, Sys.replica, hrep, hpeers, hid]

end Carried

section CarriedLands
variable {s : Sys} {n k i sender t : Nat} {f : Frame} (hnext : (s.straight n).nextFor sender k = some (i, f))
variable (hfence : ((s.straight n).port k).fenced = false) (hretry : f.retry = false) (hcar : f.carried = true)
variable (hn : n < 32) (hk : k < 18) (hcol : 16 ≤ n) (htile : portTile n k = some t) (hport : f.ctarget = k)
variable (hres : f.pkt.reserved = false)
variable (halone : ∀ g ∈ ((s.straight n).port k).first ++ ((s.straight n).port k).relayed, g.carried = false)
include hnext hfence hretry hcar hn hk hcol htile hport hres halone

/-- The only carried packet of a column port goes into its tile's router as `Sys.carryIn` says; where it cannot, it waits in
the pool (R251, R252). -/
theorem Sys.carriedFrame_goesIn : ∃ v : Sys, Sys.SameMesh s v ∧
    (∀ u, v.carryIn t f.pkt = some u → s.carriedFrame n k sender false = u) ∧
    (v.carryIn t f.pkt = none → s.carriedFrame n k sender false = s.pooled n k i f) := by
  obtain ⟨-, -, hplace⟩ := portTile_position hn hk htile
  obtain ⟨rfl, rfl⟩ := hplace hcol
  obtain ⟨hmesh, hrelayed, hfirst⟩ := Sys.pooled_state (s := s) (n := straightOf t 1) (k := positionOf t 1) (i := i) (f := f)
  have hold : ∀ g ∈ ((s.straight (straightOf t 1)).port (positionOf t 1)).first, g.carried = false := fun g hg => halone g (List.mem_append_left _ hg)
  have htake := StraightPort.takeCarried_last hfirst hold hcar rfl
  rw [Sys.carriedFrame_taken hnext hfence hretry hcar htile hport hres]
  refine ⟨_, hmesh.trans (b := s.pooled (straightOf t 1) (positionOf t 1) i f) ?_, fun u hin => Sys.carryPool_single (fuel := 94) htake hin ?_,
    fun hin => Sys.carryPool_stays htake hin⟩
  · exact ⟨rfl, rfl, rfl, rfl⟩
  · refine StraightPort.takeCarried_none fun g hg => ?_
    rcases List.mem_append.mp hg with hg | hg
    · rcases List.mem_append.mp ((List.mem_filter.mp hg).1) with hg | hg
      · simp [hold g hg]
      · rw [List.mem_singleton.mp hg]
        rfl
    · have hg' : g ∈ ((s.straight (straightOf t 1)).port (positionOf t 1)).relayed := by
        rw [← hrelayed]
        exact hg
      simp [halone g (List.mem_append_right _ hg')]

end CarriedLands

section InAir
variable (st : Straight) (k : Nat) (v w : StraightPort) (l : List Frame)

theorem Straight.port_inAir : ({ st.setPort k v with air := l } : Straight).port k = v := st.port_setPort_same k v

theorem Straight.setPort_inAir :
    ({ st.setPort k v with air := l } : Straight).setPort k w = { st.setPort k w with air := l } := by
  simp [Straight.setPort]

end InAir

/-- Settles O34. -/
theorem straightFrames : Obligations.StraightFrames := by
  unfold Obligations.StraightFrames
  intro s n k hn hk st p flown
  have hwf : isStraight n = true ∧ isPosition k = true := by simp [isStraight, isPosition, hn, hk]
  refine ⟨fun i f hup hres hfence hpick hfwd => ?launch, fun f rest hres hup hfence hon => ?resend,
    fun sender i f hsender hnext hretry hfence => ?land, fun t i f htile hidx hf => ?relay, fun hstate habs => ?status,
    fun t hstate habs hmissed htile => ?absent, fun wg hwg => ?calibration⟩
  case launch =>
    intro g
    refine ⟨_, by rw [exec_frameLaunch, show (Instr.frameLaunch n k).wf = true by simp [Instr.wf, hwf], State.act_true,
      Sys.frameLaunch_own hup hres hfence hpick hfwd], ?_⟩
    rw [Sys.offTime_straight, Sys.launch_straight, Sys.straight_setStraight_same, Straight.flown_setPort _ _ _ (by rfl),
      Straight.port_setPort_same, Straight.setPort_setPort, Straight.port_inAir, Straight.setPort_inAir]
    rfl
  case resend =>
    exact ⟨_, by rw [exec_retransmission, show (Instr.retransmission n k).wf = true by simp [Instr.wf, hwf], State.act_true],
      Sys.retransmission_launches hres hup hfence hon⟩
  case land =>
    have hwf' : isPosition sender = true := by simp [isPosition, hsender]
    intro late
    have hmcast (bad : Bool) : exec (.mcastFrame n k sender bad) s = .next { s with sys := s.sys.mcastFrame n k sender bad } := by
      rw [exec_mcastFrame, show (Instr.mcastFrame n k sender bad).wf = true by simp [Instr.wf, hwf, hwf'], State.act_true]
    have hcarried (bad : Bool) : exec (.carriedFrame n k sender bad) s =
        .next { s with sys := s.sys.carriedFrame n k sender bad } := by
      rw [exec_carriedFrame, show (Instr.carriedFrame n k sender bad).wf = true by simp [Instr.wf, hwf, hwf'], State.act_true]
    refine ⟨fun hcar hport hrelay hfwd hres haxis hnum => ⟨_, hmcast false, ?_⟩, fun hcar htries => ⟨_, hmcast true, ?_⟩,
      fun hcar htries => ⟨_, hcarried true, ?_⟩, fun hcar => ⟨_, hcarried false, ?_⟩,
      fun t hcar hcol htile hport hres halone => ?_⟩
    · exact Sys.mcastFrame_delivers hnext hfence hretry hcar hport hrelay hfwd hres haxis hnum
    · exact Sys.mcastFrame_bad hnext hfence hretry hcar htries
    · exact Sys.carriedFrame_bad hnext hfence hretry hcar htries
    · exact Sys.carriedFrame_air hnext hfence hretry hcar
    · intro here pkt
      obtain ⟨v, hmesh, hin, hstays⟩ :=
        Sys.carriedFrame_goesIn hnext hfence hretry hcar hn hk hcol htile hport hres halone
      obtain ⟨ht, -, -⟩ := portTile_position hn hk htile
      have hlocal : s.localWire t = ((v.router t).port 4).wire := by
        rw [State.localWire, hmesh.router, localPort, if_pos ht]
      refine ⟨fun hhere htype => ⟨_, hcarried false, ?_⟩, fun hno hfree => ⟨_, hcarried false, ?_⟩,
        fun l hl hseq hchan hno => ⟨_, hcarried false, ?_, ?_⟩⟩
      · rw [hin _ (Sys.carryIn_here (hmesh.carriedHere.mpr hhere) htype), Sys.router_setRouter_same, hmesh.router]
      · have hnone : ((v.router t).port 4).wire.any (fun l => l.seq = 1 && l.chan = f.pkt.vc) = false := by
          rw [← hlocal, List.any_eq_false]
          exact fun l hl => by simpa using hfree l hl
        have helse := Sys.carryIn_elsewhere (t := t) (pkt := f.pkt) fun h => hno (hmesh.carriedHere.mp h)
        rw [hnone, if_neg (by decide)] at helse
        rw [hin _ helse, hlocal, State.localWire, localPort, if_pos ht, Sys.router_setRouter_same, Router.port_setPort_same]
      all_goals
        have hany : ((v.router t).port 4).wire.any (fun l => l.seq = 1 && l.chan = f.pkt.vc) = true := by
          rw [← hlocal, List.any_eq_true]
          exact ⟨l, hl, by simp [hseq, hchan]⟩
        have helse := Sys.carryIn_elsewhere (t := t) (pkt := f.pkt) fun h => hno (hmesh.carriedHere.mp h)
        rw [hany, if_pos rfl] at helse
        obtain ⟨hpool, -, hfirst⟩ := Sys.pooled_state (s := s.sys) (n := n) (k := k) (i := i) (f := f)
        rw [hstays helse]
      · rw [State.localWire, hpool.router, State.localWire]
      · exact hfirst
  case relay =>
    intro m j g v hup hfence hready hon h
    obtain ⟨-, hne, -⟩ := portTile_position hn hk htile
    refine ⟨_, by rw [exec_relayForward, show (Instr.relayForward n k).wf = true by simp [Instr.wf, hwf], State.act_true,
      Sys.relayForward_launches htile hidx hf hfence hup hready hon], ?_, ?_⟩
    · rw [Sys.launch_straight, Sys.straight_setStraight_other _ _ _ _ hne]
      rfl
    · rw [Sys.launch_other _ hne.symm, Sys.straight_setStraight_same, Straight.port_setPort_same]
  case status =>
    intro c onF onR
    have hexec (good : Bool) : exec (.statusSlot n k good) s = .next { s with sys := s.sys.statusSlot n k good } := by
      rw [exec_statusSlot, show (Instr.statusSlot n k good).wf = true by simp [Instr.wf, hwf], State.act_true]
    refine ⟨?_, fun hres => ?_, fun a q f ha hak hres hf => ⟨_, hexec true, ?_⟩⟩
    · rw [hexec, Sys.statusSlot_bad hstate habs]
      rfl
    · have hres' : ((s.sys.straight n).port k).retries = [] := hres
      rw [hexec, Sys.statusSlot_good hstate habs, Sys.slotSent, hres']
      rfl
    · exact Sys.statusSlot_asks hstate habs hak hres hf
  case absent =>
    rw [exec_portAbsent, show (Instr.portAbsent n k).wf = true by simp [Instr.wf, hwf], State.act_true,
      Sys.portAbsent_declares hstate habs hmissed htile]
    rfl
  case calibration =>
    have hwf' (ends : Bool) : (Instr.straightRecalibration n ⟨wg, ends⟩).wf = true := by simp [Instr.wf, hwf, hwg]
    refine ⟨?_, ?_⟩
    · rw [exec_straightRecalibration, hwf', State.act_true]
      rfl
    · rw [exec_straightRecalibration, hwf', State.act_true]
      simp only [Sys.recalibration, Sys.calibrate, if_true, Nat.mod_eq_of_lt hwg]
      rfl

end Sys2Proof.Machine

/-! SUPPORT. Laws of the tadpole network: queues, the arbiter's grant, transmissions, notices and dead links (R283, R284,
R287–R292). -/

namespace Sys2Proof.Machine

/-- A link leads to a neighbour's port, never to its endpoint and never back (R282). -/
theorem tadNeighbour_apart {n p m mp : Nat} (h : tadNeighbour n p = some (m, mp)) :
    m ≠ n ∧ mp ≠ tadLocal m ∧ p < tadLocal n := by
  unfold tadNeighbour neighbour at h
  simp only [Bool.and_eq_true, decide_eq_true_eq] at h
  unfold tadLocal
  (repeat' split at h) <;> simp only [reduceCtorEq, Option.some.injEq, Prod.mk.injEq] at h <;> obtain ⟨rfl, rfl⟩ := h <;>
    refine ⟨by omega, ?_, ?_⟩ <;> (repeat' split) <;> omega

/-- Two folds whose steps agree on the list's elements. -/
theorem foldl_agree {α σ : Type} {f g : σ → α → σ} {l : List α} (h : ∀ s, ∀ a ∈ l, f s a = g s a) (s : σ) :
    l.foldl f s = l.foldl g s :=
  List.foldl_rel (r := Eq) rfl fun a ha c _ hc => hc ▸ h c a ha

section Queues
variable (r : TRouter) (n p : Nat) (u : Bool) (l l' : List TMsg)

@[simp] theorem TRouter.port_setPort_same (v : TPort) : (r.setPort p v).port p = v := NMap.get_put_same ..

theorem TRouter.port_setPort_other (v : TPort) {i : Nat} (h : i ≠ p) : (r.setPort p v).port i = r.port i :=
  NMap.get_put_other _ _ _ _ _ h

theorem TRouter.port_setPort (v : TPort) (i : Nat) : (r.setPort p v).port i = if i = p then v else r.port i := NMap.get_put ..

@[simp] theorem TRouter.queue_setQueue_same : (r.setQueue n p u l).queue n p u = l := by
  unfold TRouter.queue TRouter.setQueue
  by_cases hp : p = tadLocal n <;> cases u <;> simp [hp]

/-- Another queue of the router. -/
theorem TRouter.queue_setQueue_other {i : Nat} {b : Bool} (h : (i, b) ≠ (p, u)) :
    (r.setQueue n p u l).queue n i b = r.queue n i b := by
  unfold TRouter.queue TRouter.setQueue
  by_cases hi : i = tadLocal n
  · by_cases hp : p = tadLocal n
    · have hb : b ≠ u := fun hb => h (by rw [hi, hp, hb])
      cases u <;> cases b <;> simp_all
    · cases u <;> simp [hi, hp, TRouter.setPort]
  · by_cases hp : p = tadLocal n
    · cases u <;> simp [hi, hp, TRouter.port]
    · by_cases hip : i = p
      · have hb : b ≠ u := fun hb => h (by rw [hip, hb])
        subst hip
        cases u <;> cases b <;> simp_all
      · cases u <;> simp [hi, hp, TRouter.port_setPort_other _ _ _ hip]

/-- A queue replaced leaves of each port all but its queues, and of the router the inbox and the notices. -/
theorem TRouter.setQueue_keeps : (∀ i, ∃ a b, (r.setQueue n p u l).port i = { r.port i with urgentQ := a, normalQ := b }) ∧
    (r.setQueue n p u l).inbox = r.inbox ∧ (r.setQueue n p u l).notices = r.notices ∧ (r.setQueue n p u l).rgen = r.rgen := by
  unfold TRouter.setQueue
  split
  · cases u <;> exact ⟨fun i => ⟨_, _, rfl⟩, rfl, rfl, rfl⟩
  · refine ⟨fun i => ?_, rfl, rfl, rfl⟩
    rw [TRouter.port_setPort]
    split
    next hi => cases u <;> exact ⟨_, _, by rw [hi]; rfl⟩
    next => exact ⟨_, _, rfl⟩

/-- A port replaced by one with its queues leaves every queue. -/
theorem TRouter.queue_setPort {v : TPort} (hu : v.urgentQ = (r.port p).urgentQ) (hn : v.normalQ = (r.port p).normalQ) (i : Nat) (b : Bool) :
    (r.setPort p v).queue n i b = r.queue n i b := by
  unfold TRouter.queue
  rw [TRouter.port_setPort]
  by_cases hi : i = p
  · rw [if_pos hi, hu, hn, hi]
    rfl
  · rw [if_neg hi]
    rfl

end Queues

/-- What the tadpole network looks at is the same: every router, the routes, panel time. -/
def Sys.SameTads (a b : Sys) : Prop := (∀ k, b.tad k = a.tad k) ∧ b.now = a.now ∧ b.replicas = a.replicas

namespace Sys.SameTads
variable {a b c s : Sys}

theorem refl : Sys.SameTads s s := ⟨fun _ => rfl, rfl, rfl⟩

theorem trans (hab : Sys.SameTads a b) (hbc : Sys.SameTads b c) : Sys.SameTads a c :=
  ⟨fun k => (hbc.1 k).trans (hab.1 k), hbc.2.1.trans hab.2.1, hbc.2.2.trans hab.2.2⟩

theorem heads (h : Sys.SameTads a b) (n o : Nat) (u : Bool) : b.tadHeads n o u = a.tadHeads n o u := by
  simp only [Sys.tadHeads, Sys.mayInject, Sys.injected, h.1, h.2.1]
  rfl

theorem room (h : Sys.SameTads a b) (n o : Nat) (u : Bool) : b.tadRoom n o u = a.tadRoom n o u := by
  simp only [Sys.tadRoom, h.1]

end Sys.SameTads

section Entering
variable {s : Sys} {n : Nat}

theorem Sys.bumpTile_sameTads (t off hi lo m : Nat) : Sys.SameTads s (s.bumpTile t off hi lo m) := by
  unfold Sys.bumpTile
  split <;> exact ⟨fun _ => rfl, rfl, rfl⟩

theorem Sys.setTad_sameTads {v : TRouter} (h : v = s.tad n) : Sys.SameTads s (s.setTad n v) := by
  refine ⟨fun k => ?_, rfl, rfl⟩
  by_cases hk : k = n
  · rw [hk, Sys.tad_setTad_same, h]
  · rw [Sys.tad_setTad_other _ _ _ _ hk]

/-- Message `m` put behind its fellows in a queue of router `n`'s endpoint. -/
def Sys.tadBack (n : Nat) (u : Bool) (s : Sys) (m : TMsg) : Sys :=
  s.setTad n ((s.tad n).setQueue n (tadLocal n) u ((s.tad n).queue n (tadLocal n) u ++ [m]))

theorem TRouter.setQueue_setQueue_local (r : TRouter) (u : Bool) (l l' : List TMsg) :
    (r.setQueue n (tadLocal n) u l).setQueue n (tadLocal n) u l' = r.setQueue n (tadLocal n) u l' := by
  cases u <;> simp [TRouter.setQueue]

theorem TRouter.setQueue_queue_local (r : TRouter) (u : Bool) :
    r.setQueue n (tadLocal n) u (r.queue n (tadLocal n) u) = r := by
  cases u <;> simp [TRouter.setQueue, TRouter.queue]

/-- Messages put back one after the other. -/
theorem Sys.tadBack_foldl (u : Bool) (q : List TMsg) : ∀ s : Sys,
    let r := s.tad n
    Sys.SameTads (s.setTad n (r.setQueue n (tadLocal n) u (r.queue n (tadLocal n) u ++ q))) (q.foldl (Sys.tadBack n u) s) := by
  induction q with
  | nil =>
    intro s r
    rw [List.append_nil, TRouter.setQueue_queue_local]
    refine ⟨fun k => ?_, rfl, rfl⟩
    exact ((Sys.setTad_sameTads (s := s) (n := n) rfl).1 k).symm
  | cons m q ih =>
    intro s r
    have hrest := ih (s.tadBack n u m)
    dsimp only at hrest
    rw [Sys.tadBack, Sys.tad_setTad_same, TRouter.queue_setQueue_same, TRouter.setQueue_setQueue_local, Sys.setTad_setTad,
      List.append_assoc] at hrest
    exact hrest

/-- Where every message of the endpoint has found its route, routing them changes nothing that the network looks at. -/
theorem Sys.tadRoute_sameTads (h : ∀ x ∈ (s.tad n).outUrgent ++ (s.tad n).outNormal, x.outs ≠ 0) :
    Sys.SameTads s (s.tadRoute n) := by
  have hone (u : Bool) (v : Sys) (hv : ∀ m ∈ (v.tad n).queue n (tadLocal n) u, m.outs ≠ 0) : Sys.SameTads v
      (((v.tad n).queue n (tadLocal n) u).foldl (fun s m =>
        if m.outs = 0 then s.tadEnter n (tadLocal n) { m with rgen := (s.tad n).rgen } else s.tadBack n u m)
        (v.setTad n ((v.tad n).setQueue n (tadLocal n) u []))) := by
    rw [foldl_agree (g := Sys.tadBack n u) fun a m hm => if_neg (hv m hm)]
    refine Sys.SameTads.trans ?_ (Sys.tadBack_foldl ..)
    rw [Sys.tad_setTad_same, TRouter.queue_setQueue_same, List.nil_append, TRouter.setQueue_setQueue_local,
      TRouter.setQueue_queue_local, Sys.setTad_setTad]
    exact Sys.setTad_sameTads rfl
  have hqueue (u : Bool) : (s.tad n).queue n (tadLocal n) u = if u then (s.tad n).outUrgent else (s.tad n).outNormal := if_pos rfl
  have hurgent := hone true s fun m hm => h m (List.mem_append_left _ (by rw [hqueue] at hm; exact hm))
  refine hurgent.trans (hone false _ fun m hm => h m (List.mem_append_right _ ?_))
  rw [hurgent.1, hqueue] at hm
  exact hm

end Entering

section Grant
variable {s : Sys} {n o p : Nat} {b : Bool} {m : TMsg}

/-- Output `o` of router `n` grants the head of input `p` of priority `b`: the arbiter's turn, the message's place, the
slot's number (R283, R287). -/
def Sys.tadGranted (s : Sys) (n o p : Nat) (b : Bool) : Sys :=
  let r := s.tad n
  let q := r.port o
  ((s.setTad n (r.setPort o { q with
    lastUrgent := b, rrUrgent := if b then p else q.rrUrgent, rrNormal := if b then q.rrNormal else p })).tadTaken n p o b).tadNumber n o

/-- The only head that wants an output is granted (R287). -/
theorem Sys.tadpoleForward_grants {v : Sys} (hv : s.tadRoute n = v) (halive : (v.tad n).alive = true)
    (hopen : o = tadLocal n ∨ ((v.tad n).port o).dead = false ∧ ((v.tad n).port o).link = 3 ∧ v.tadRoom n o b = true)
    (hreplay : ((v.tad n).port o).replay = []) (hheads : v.tadHeads n o b = [(p, m)]) (hother : v.tadHeads n o (!b) = [])
    (bad : Bool) : s.tadpoleForward n o bad = if o = tadLocal n then
      (v.tadGranted n o p b).setTad n { (v.tadGranted n o p b).tad n with
        inbox := ((v.tadGranted n o p b).tad n).inbox ++ [{ m with outs := 0 }] }
    else (v.tadGranted n o p b).tadTransmit n o m bad := by
  have hguard : (!(v.tad n).alive || (!decide (o = tadLocal n) && (((v.tad n).port o).dead || decide (((v.tad n).port o).link ≠ 3)))) = false := by
    rcases hopen with h | ⟨hd, hl, -⟩ <;> simp [*]
  have hmine : (if (decide (o = tadLocal n) || v.tadRoom n o b) = true then v.tadHeads n o b else []) = [(p, m)] := by
    rw [← hheads]
    rcases hopen with h | ⟨-, -, h⟩ <;> exact if_pos (by simp [h])
  have hnone : (if (decide (o = tadLocal n) || v.tadRoom n o (!b)) = true then v.tadHeads n o (!b) else []) = [] := by
    rw [hother, ite_self]
  have hpick (k : Nat) : [(p, m)].find? (fun h => decide (k < h.1)) = some (p, m) ∨
      [(p, m)].find? (fun h => decide (k < h.1)) = none := by
    by_cases hk : k < p <;> simp [hk]
  unfold Sys.tadpoleForward
  rw [hv]
  dsimp only
  rw [if_neg (by rw [hguard]; decide)]
  split
  next h => exact absurd (hreplay.symm.trans h) nofun
  cases b with
  | true =>
    simp only [Bool.not_true] at hnone
    simp only [hmine, hnone, List.isEmpty_nil, Bool.not_true, Bool.and_false, Bool.not_false, List.isEmpty_cons, Bool.and_self, if_true,
      decide_eq_true_eq]
    rcases hpick ((v.tad n).port o).rrUrgent with h | h <;> simp only [h, List.head?_cons] <;> rfl
  | false =>
    simp only [Bool.not_false] at hnone
    simp only [hmine, hnone, List.isEmpty_nil, Bool.not_true, Bool.and_false, Bool.false_eq_true, if_false, decide_eq_true_eq]
    rcases hpick ((v.tad n).port o).rrNormal with h | h <;> simp only [h, List.head?_cons] <;> rfl

/-- A message that failed its CRC goes before what waits (R283). -/
theorem Sys.tadpoleForward_replays {v : Sys} {l : List TMsg} (hv : s.tadRoute n = v) (halive : (v.tad n).alive = true)
    (hdead : ((v.tad n).port o).dead = false) (hlink : ((v.tad n).port o).link = 3)
    (hreplay : ((v.tad n).port o).replay = m :: l) (bad : Bool) :
    s.tadpoleForward n o bad = (v.setTad n ((v.tad n).setPort o { (v.tad n).port o with replay := [] })).tadTransmit n o m bad := by
  unfold Sys.tadpoleForward
  rw [hv]
  dsimp only
  rw [if_neg (by simp [halive, hdead, hlink]), hreplay]

end Grant

end Sys2Proof.Machine

/-! SUPPORT. The tadpole network, settled: what a grant, a transmission, a notice and a dead link leave (R283–R292). -/

namespace Sys2Proof.Machine

section Granted
variable {s : Sys} {n o p : Nat} {b : Bool} {m : TMsg}

/-- The head that wants an output stands first in its queue. -/
theorem Sys.queue_of_tadHeads (h : s.tadHeads n o b = [(p, m)]) :
    (∃ rest, (s.tad n).queue n p b = m :: rest) ∧ bitOf m.outs o = true := by
  have hmem : (p, m) ∈ s.tadHeads n o b := by rw [h]; exact List.mem_singleton.mpr rfl
  obtain ⟨i, -, hi⟩ := List.mem_filterMap.mp hmem
  split at hi
  next m' rest hq =>
    split at hi
    next hwant =>
      obtain ⟨rfl, rfl⟩ := Prod.mk.inj (Option.some.inj hi)
      simp only [Bool.and_eq_true] at hwant
      exact ⟨⟨rest, hq⟩, hwant.1.1⟩
    next => exact absurd hi nofun
  next => exact absurd hi nofun

/-- What a grant leaves: the head's place in its queue, and all that the link and the others hold. -/
theorem Sys.tadGranted_state (hheads : s.tadHeads n o b = [(p, m)]) :
    let g := s.tadGranted n o p b
    let left := m.outs - 2 ^ o
    let rest := ((s.tad n).queue n p b).drop 1
    (g.tad n).queue n p b = (if left = 0 then rest else { m with outs := left } :: rest) ∧ (g.tad n).inbox = (s.tad n).inbox ∧
      ((g.tad n).port o).replay = ((s.tad n).port o).replay ∧ ((g.tad n).port o).replayTimes = ((s.tad n).port o).replayTimes ∧
      (∀ k, k ≠ n → g.tad k = s.tad k) ∧ g.now = s.now ∧ g.replicas = s.replicas := by
  obtain ⟨⟨rest, hq⟩, hout⟩ := Sys.queue_of_tadHeads hheads
  intro g left rest'
  let r := s.tad n
  let q₁ : TPort := { r.port o with
    lastUrgent := b, rrUrgent := if b then p else (r.port o).rrUrgent, rrNormal := if b then (r.port o).rrNormal else p }
  let r₁ := r.setPort o q₁
  let r₂ := r₁.setQueue n p b (if left = 0 then rest else { m with outs := left } :: rest)
  have hq₁ : r₁.queue n p b = m :: rest := (TRouter.queue_setPort r n o (v := q₁) rfl rfl p b).trans hq
  obtain ⟨r₃, hr₃, htaken⟩ : ∃ r₃ : TRouter, (r₃.ports = r₂.ports ∧ r₃.outUrgent = r₂.outUrgent ∧ r₃.outNormal = r₂.outNormal ∧
      r₃.inbox = r₂.inbox) ∧ (s.setTad n r₁).tadTaken n p o b = s.setTad n r₃ := by
    unfold Sys.tadTaken
    simp only [Sys.tad_setTad_same, hq₁, hout, if_true, Sys.setTad_setTad]
    refine ⟨if p = tadLocal n then
        (if b then { r₂ with injU := (s.setTad n r₁).injected n true ++ [(s.setTad n r₁).now] }
          else { r₂ with injN := (s.setTad n r₁).injected n false ++ [(s.setTad n r₁).now] }) else r₂, ?_, rfl⟩
    (repeat' split) <;> exact ⟨rfl, rfl, rfl, rfl⟩
  obtain ⟨hports, hurgent, hnormal, hinbox⟩ := hr₃
  have hqueue (i : Nat) (c : Bool) : r₃.queue n i c = r₂.queue n i c := by
    simp only [TRouter.queue, TRouter.port, hports, hurgent, hnormal]
  have hport (i : Nat) : r₃.port i = r₂.port i := by simp only [TRouter.port, hports]
  let q₄ : TPort := { r₃.port o with sendSeq := ((r₃.port o).sendSeq + 1) % 256 }
  let r₄ := r₃.setPort o q₄
  have hg : Sys.SameTads (s.setTad n r₄) g := by
    simp only [g, Sys.tadGranted]
    rw [show (s.tad n).setPort o _ = r₁ from rfl, htaken,  Sys.tadNumber, Sys.tad_setTad_same, Sys.setTad_setTad]
    exact Sys.bumpTile_sameTads ..
  have hn : g.tad n = r₄ := (hg.1 n).trans (Sys.tad_setTad_same ..)
  obtain ⟨a, c, hkept⟩ := (TRouter.setQueue_keeps r₁ n p b (if left = 0 then rest else { m with outs := left } :: rest)).1 o
  obtain ⟨hreplay, htimes⟩ : (r₃.port o).replay = (r.port o).replay ∧ (r₃.port o).replayTimes = (r.port o).replayTimes := by
    rw [hport, hkept, TRouter.port_setPort_same]
    exact ⟨rfl, rfl⟩
  refine ⟨?_, ?_, ?_, ?_, fun k hk => (hg.1 k).trans (Sys.tad_setTad_other _ _ _ _ hk), hg.2.1, hg.2.2⟩
  · rw [hn, show r₄.queue n p b = _ from TRouter.queue_setPort r₃ n o (v := q₄) rfl rfl p b, hqueue, TRouter.queue_setQueue_same]
    simp only [rest', hq]
    rfl
  · rw [hn]
    exact hinbox.trans (TRouter.setQueue_keeps ..).2.1
  · rw [hn, TRouter.port_setPort_same]
    exact hreplay
  · rw [hn, TRouter.port_setPort_same]
    exact htimes

end Granted

section Transmission
variable {s : Sys} {n o f fp v : Nat} {m : TMsg}

theorem Sys.tadMask_congr {a b : Sys} (hrep : b.replicas = a.replicas) (hgen : (b.tad f).rgen = (a.tad f).rgen) (m : TMsg) :
    b.tadMask f fp m = a.tadMask f fp m := by
  simp only [Sys.tadMask, Sys.replica, hrep, hgen]
  rfl

/-- A legal message whose outputs are live enters the queue of its priority (R283). -/
theorem Sys.tadEnter_live (hlegal : m.legal = true) (hmask : s.tadMask f fp m = v) (hv : v ≠ 0)
    (hlive : ∀ i, bitOf v i = true → ((s.tad f).port i).dead = false) (hfp : fp ≠ tadLocal f) :
    s.tadEnter f fp m = s.setTad f ((s.tad f).setQueue f fp m.urgent ((s.tad f).queue f fp m.urgent ++ [{ m with outs := v }])) := by
  have hfold : (List.range (tadLocal f)).foldl (fun a i => if ((s.tad f).port i).dead && bitOf a i then a - 2 ^ i else a) v = v := by
    refine List.foldlRecOn _ _ (motive := fun a => a = v) rfl fun a ha i _ => ?_
    subst ha
    refine if_neg fun h => ?_
    obtain ⟨hd, hb⟩ := Bool.and_eq_true_iff.mp h
    exact absurd (hlive i hb) (by rw [hd]; decide)
  unfold Sys.tadEnter
  dsimp only
  rw [if_neg (by simp [hlegal]), hmask, hfold, if_neg hv, if_neg hfp]
  cases m.urgent <;> simp [TRouter.setQueue, TRouter.queue, hfp]

/-- A good transmission puts the message into the far end's queue, and touches no other router (R283). -/
theorem Sys.tadTransmit_good (hnb : tadNeighbour n o = some (f, fp)) (hlegal : m.legal = true) (hmask : s.tadMask f fp m = v)
    (hv : v ≠ 0) (hlive : ∀ i, bitOf v i = true → ((s.tad f).port i).dead = false) :
    let u := s.tadTransmit n o m false
    (u.tad f).queue f fp m.urgent = (s.tad f).queue f fp m.urgent ++ [{ m with outs := v }] ∧ ∀ k, k ≠ f → u.tad k = s.tad k := by
  obtain ⟨-, hfp, -⟩ := tadNeighbour_apart hnb
  let q := (s.tad f).port fp
  let q' : TPort := { q with recvSeq := (q.recvSeq + 1) % 256 }
  let r := (s.tad f).setPort fp q'
  have hr : (s.tadArrived f fp).tad f = r := Sys.tad_setTad_same ..
  have hgen : ((s.tadArrived f fp).tad f).rgen = (s.tad f).rgen := (congrArg TRouter.rgen hr).trans rfl
  have hlive' (i : Nat) (hi : bitOf v i = true) : (((s.tadArrived f fp).tad f).port i).dead = false := by
    rw [hr, TRouter.port_setPort]
    split
    next h =>
      subst h
      exact hlive i hi
    next => exact hlive i hi
  have hmask' : (s.tadArrived f fp).tadMask f fp m = v :=
    (Sys.tadMask_congr (a := s) (b := s.tadArrived f fp) rfl hgen m).trans hmask
  intro u
  have hu : u = (s.tadArrived f fp).setTad f (r.setQueue f fp m.urgent (r.queue f fp m.urgent ++ [{ m with outs := v }])) := by
    simp only [u, Sys.tadTransmit, hnb, Bool.false_eq_true, if_false]
    rw [Sys.tadEnter_live hlegal hmask' hv hlive' hfp, hr]
  rw [hu]
  refine ⟨?_, fun k hk => ?_⟩
  · rw [Sys.tad_setTad_same, TRouter.queue_setQueue_same, TRouter.queue_setPort (s.tad f) f fp (v := q') rfl rfl]
  · rw [Sys.tad_setTad_other _ _ _ _ hk]
    exact Sys.tad_setTad_other _ _ _ _ hk

/-- A failed transmission leaves the message in the replay buffer of a link that has failed less than 15 times in the last
millisecond (R283). -/
theorem Sys.tadTransmit_bad (htimes : (within s.now 1000000 ((s.tad n).port o).replayTimes).length < 15) :
    let u := s.tadTransmit n o m true
    (∃ times, u.tad n = (s.tad n).setPort o { (s.tad n).port o with replayTimes := times, replay := [m] }) ∧
      ∀ k, k ≠ n → u.tad k = s.tad k := by
  intro u
  let times := within s.now 1000000 ((s.tad n).port o).replayTimes ++ [s.now]
  have hu : Sys.SameTads (s.setTad n ((s.tad n).setPort o { (s.tad n).port o with replayTimes := times, replay := [m] })) u := by
    simp only [u, Sys.tadTransmit, if_true, Sys.tadSlotBad]
    rw [if_neg (by simp; omega)]
    refine Sys.SameTads.trans (Sys.bumpTile_sameTads n (0x8008 + 0x10 * o) 31 16 1) ?_
    split
    next f fp _ =>
      refine Sys.SameTads.trans (Sys.bumpTile_sameTads f (0x8008 + 0x10 * fp) 15 0 1) ?_
      split
      · exact ⟨fun _ => rfl, rfl, rfl⟩
      · exact .refl
    next => exact .refl
  exact ⟨⟨times, (hu.1 n).trans (Sys.tad_setTad_same ..)⟩, fun k hk => (hu.1 k).trans (Sys.tad_setTad_other _ _ _ _ hk)⟩

end Transmission

section DeadLink
variable {s : Sys} {n p : Nat}

/-- A message that is no longer for output `p`. -/
def TMsg.notFor (m : TMsg) (p : Nat) : TMsg := if bitOf m.outs p then { m with outs := m.outs - 2 ^ p } else m

theorem bitOf_sub_two_pow {v i : Nat} (h : bitOf v i = true) : bitOf (v - 2 ^ i) i = false := by
  simp only [bitOf, decide_eq_true_eq, decide_eq_false_iff_not] at h ⊢
  have hle : 2 ^ i ≤ v := by
    refine Nat.le_of_not_lt fun hlt => ?_
    rw [Nat.div_eq_of_lt hlt] at h
    omega
  obtain ⟨w, rfl⟩ := Nat.exists_eq_add_of_le' hle
  rw [Nat.add_div_right _ (Nat.two_pow_pos i)] at h
  rw [Nat.add_sub_cancel]
  omega

/-- Queue `u` of input `i` of router `n` once its messages no longer go out by port `p` (R292). -/
def Sys.tadUnroute (n p i : Nat) (s : Sys) (u : Bool) : Sys :=
  let l := (s.tad n).queue n i u
  let l' : List TMsg := l.map (fun m => m.notFor p)
  let gone : Nat := ((l.zip l').filter (fun x => x.1.outs ≠ 0 && x.2.outs = 0)).length
  let s := s.setTad n ((s.tad n).setQueue n i u (((l.zip l').filter (fun x => !(x.1.outs ≠ 0 && x.2.outs = 0))).map (fun x => x.2)))
  if gone = 0 then s else s.bumpTile n 0x8060 23 16 gone

/-- Unrouting a queue: its messages are not for the port, and nothing else of the network changes. -/
theorem Sys.tadUnroute_state (i : Nat) (u : Bool) :
    let v := s.tadUnroute n p i u
    (∀ x ∈ (v.tad n).queue n i u, bitOf x.outs p = false) ∧
      (∀ j w, (j, w) ≠ (i, u) → (v.tad n).queue n j w = (s.tad n).queue n j w) ∧
      (∀ j, ∃ a b, (v.tad n).port j = { (s.tad n).port j with urgentQ := a, normalQ := b }) ∧ ∀ k, k ≠ n → v.tad k = s.tad k := by
  intro v
  let l := (s.tad n).queue n i u
  let l' : List TMsg := l.map (fun m => m.notFor p)
  let kept : List TMsg := ((l.zip l').filter (fun x => !(x.1.outs ≠ 0 && x.2.outs = 0))).map (fun x => x.2)
  have hv : Sys.SameTads (s.setTad n ((s.tad n).setQueue n i u kept)) v := by
    simp only [v, Sys.tadUnroute]
    split
    · exact .refl
    · exact Sys.bumpTile_sameTads ..
  have hn : v.tad n = (s.tad n).setQueue n i u kept := (hv.1 n).trans (Sys.tad_setTad_same ..)
  refine ⟨fun x hx => ?_, fun j w hjw => ?_, fun j => ?_, fun k hk => (hv.1 k).trans (Sys.tad_setTad_other _ _ _ _ hk)⟩
  · rw [hn, TRouter.queue_setQueue_same] at hx
    obtain ⟨y, hy, rfl⟩ := List.mem_map.mp hx
    obtain ⟨m, -, hm⟩ := List.mem_map.mp (List.of_mem_zip ((List.mem_filter.mp hy).1)).2
    rw [← hm, TMsg.notFor]
    split
    next hb => exact bitOf_sub_two_pow hb
    next hb => exact Bool.eq_false_iff.mpr hb
  · rw [hn]
    exact TRouter.queue_setQueue_other _ _ _ _ _ hjw
  · rw [hn]
    exact (TRouter.setQueue_keeps ..).1 j

/-- Every queue of the router once its messages no longer go out by port `p`. -/
def Sys.tadUnrouteAll (s : Sys) (n p : Nat) : Sys :=
  (List.range (tadLocal n + 1)).foldl (fun s i => [true, false].foldl (Sys.tadUnroute n p i) s) s

/-- Port `p` of router `n` is DEAD with nothing to replay, and the other routers are those of `a`. -/
def Sys.LinkDead (n p : Nat) (a s : Sys) : Prop :=
  ((s.tad n).port p).dead = true ∧ ((s.tad n).port p).link = 1 ∧ ((s.tad n).port p).replay = [] ∧ ∀ k, k ≠ n → s.tad k = a.tad k

theorem Sys.LinkDead.unroute {a : Sys} (h : Sys.LinkDead n p a s) (i : Nat) (u : Bool) : Sys.LinkDead n p a (s.tadUnroute n p i u) := by
  obtain ⟨hdead, hlink, hreplay, hother⟩ := h
  obtain ⟨-, -, hports, hothers⟩ := Sys.tadUnroute_state (s := s) (n := n) (p := p) i u
  obtain ⟨l, l', hp⟩ := hports p
  rw [Sys.LinkDead, hp]
  exact ⟨hdead, hlink, hreplay, fun k hk => (hothers k hk).trans (hother k hk)⟩

theorem Sys.tadUnrouteAll_linkDead {a : Sys} (h : Sys.LinkDead n p a s) : Sys.LinkDead n p a (s.tadUnrouteAll n p) :=
  List.foldlRecOn _ _ (motive := Sys.LinkDead n p a) h fun _ hv i _ =>
    List.foldlRecOn [true, false] _ (motive := Sys.LinkDead n p a) hv fun _ hw u _ => hw.unroute i u

/-- Nothing in queue `u` of input `i` of router `n` goes out by port `p`. -/
def Sys.Unrouted (n p i : Nat) (u : Bool) (s : Sys) : Prop := ∀ x ∈ (s.tad n).queue n i u, bitOf x.outs p = false

theorem Sys.Unrouted.unroute {i : Nat} {u : Bool} (h : Sys.Unrouted n p i u s) (j : Nat) (w : Bool) :
    Sys.Unrouted n p i u (s.tadUnroute n p j w) := by
  obtain ⟨hdone, hrest, -⟩ := Sys.tadUnroute_state (s := s) (n := n) (p := p) j w
  by_cases hij : (i, u) = (j, w)
  · obtain ⟨rfl, rfl⟩ := Prod.mk.inj hij
    exact hdone
  · rw [Sys.Unrouted, hrest i u hij]
    exact h

theorem Sys.tadUnrouteAll_unrouted {i : Nat} (hi : i ≤ tadLocal n) (u : Bool) : Sys.Unrouted n p i u (s.tadUnrouteAll n p) := by
  have hall : ∀ u ∈ [true, false], Sys.Unrouted n p i u (s.tadUnrouteAll n p) := by
    refine foldl_establishes (P := fun i s => ∀ u ∈ [true, false], Sys.Unrouted n p i u s) (fun v i => ?_) (fun v j i hv u hu => ?_)
      (List.range (tadLocal n + 1)) s i (List.mem_range.mpr (by omega))
    · exact foldl_establishes (P := fun u s => Sys.Unrouted n p i u s)
        (fun v u => (Sys.tadUnroute_state (s := v) (n := n) (p := p) i u).1) (fun v u w hv => hv.unroute i u) [true, false] v
    · exact List.foldlRecOn [true, false] _ (motive := Sys.Unrouted n p i u) (hv u hu) fun _ hw w _ => hw.unroute j w
  exact hall u (by cases u <;> decide)

theorem Sys.queueNotice_tad (k : Nat) (urgent : Bool) (code payload : Nat) : (∃ l f,
    (s.queueNotice n urgent code payload).tad n = { s.tad n with notices := l, lostFlag := f }) ∧
      (k ≠ n → (s.queueNotice n urgent code payload).tad k = s.tad k) := by
  unfold Sys.queueNotice
  dsimp only
  (repeat' split) <;> exact ⟨⟨_, _, Sys.tad_setTad_same ..⟩, fun hk => Sys.tad_setTad_other _ _ _ _ hk⟩

/-- One end of a silent link: DEAD, nothing to replay, and nothing in the router that goes out by it (R291, R292). -/
theorem Sys.tadEndDead_state (hlive : ((s.tad n).port p).dead = false) :
    Sys.LinkDead n p s (s.tadEndDead n p) ∧ ∀ i u, i ≤ tadLocal n → Sys.Unrouted n p i u (s.tadEndDead n p) := by
  let s₁ := s.setTad n ((s.tad n).setPort p { (s.tad n).port p with dead := true, link := 1, replay := [] })
  let s₂ := if ((s.tad n).port p).replay.isEmpty then s₁ else s₁.bumpTile n 0x8060 23 16 ((s.tad n).port p).replay.length
  have hmarked : Sys.SameTads s₁ s₂ := by
    simp only [s₂]
    split
    · exact .refl
    · exact Sys.bumpTile_sameTads ..
  have hdead : Sys.LinkDead n p s s₂ := by
    rw [Sys.LinkDead, hmarked.1, Sys.tad_setTad_same, TRouter.port_setPort_same]
    exact ⟨rfl, rfl, rfl, fun k hk => (hmarked.1 k).trans (Sys.tad_setTad_other _ _ _ _ hk)⟩
  have hall := Sys.tadUnrouteAll_linkDead hdead
  have hun {i : Nat} (hi : i ≤ tadLocal n) (u : Bool) := Sys.tadUnrouteAll_unrouted (s := s₂) (p := p) hi u
  have hrun : s.tadEndDead n p = if n < 256 then (s₂.tadUnrouteAll n p).noteAt n true ncLinkDown ukTile n 0 (p + 8)
      else s₂.tadUnrouteAll n p := by
    unfold Sys.tadEndDead
    dsimp only
    rw [if_neg (by simp [hlive])]
    rfl
  rw [hrun]
  split
  · obtain ⟨⟨l, f, hn⟩, -⟩ := Sys.queueNotice_tad (s := s₂.tadUnrouteAll n p) (n := n) 0 true ncLinkDown (noticeWord ukTile n 0 (p + 8))
    have hother (k : Nat) := (Sys.queueNotice_tad (s := s₂.tadUnrouteAll n p) (n := n) k true ncLinkDown (noticeWord ukTile n 0 (p + 8))).2
    obtain ⟨h1, h2, h3, h4⟩ := hall
    refine ⟨?_, fun i u hi => ?_⟩
    · rw [Sys.LinkDead, Sys.noteAt, hn]
      exact ⟨h1, h2, h3, fun k hk => (hother k hk).trans (h4 k hk)⟩
    · rw [Sys.Unrouted, Sys.noteAt, hn]
      exact hun hi u
  · exact ⟨hall, fun i u hi => hun hi u⟩

end DeadLink

section Notices
variable {s : Sys} {n : Nat} {m : TMsg} {rest : List TMsg}

/-- The oldest notice as it leaves the notice queue: marked where one was lost before it (R289). -/
def Sys.noticeOut (s : Sys) (n : Nat) (m : TMsg) : TMsg :=
  { m with payload := if (s.tad n).lostFlag then m.payload ||| 2 ^ 63 else m.payload, dst := 256 + s.lead.hub }

variable (hq : (s.tad n).notices = m :: rest)
include hq

theorem Sys.noticeQueueSend_unit (hn : n < 256 ∨ 258 ≤ n) (hrate : (s.injected n m.urgent).length +
    (if m.urgent then (s.tad n).outUrgent else (s.tad n).outNormal).length < 2) :
    s.noticeQueueSend n = (s.setTad n { s.tad n with notices := rest, lostFlag := false }).sendMsg n (s.noticeOut n m) := by
  unfold Sys.noticeQueueSend
  simp only [hq]
  rw [if_neg (by simp; omega), if_pos hrate]
  rfl

/-- A hub's own notice goes straight to the lead hub's inbox (R285). -/
theorem Sys.noticeQueueSend_hub (hlo : 256 ≤ n) (hhi : n < 258) : s.noticeQueueSend n =
    let t := s.setTad n { s.tad n with notices := rest, lostFlag := false }
    t.setTad (256 + s.lead.hub) { t.tad (256 + s.lead.hub) with
      inbox := (t.tad (256 + s.lead.hub)).inbox ++ [s.noticeOut n m] } := by
  unfold Sys.noticeQueueSend
  simp only [hq]
  rw [if_pos (by simp; omega)]
  rfl

end Notices

/-- Settles O35. -/
theorem tadpoleNetwork : Obligations.TadpoleNetwork := by
  unfold Obligations.TadpoleNetwork
  intro s n hn r
  have hwf : isTad n = true := by simp [isTad, hn]
  refine ⟨fun o b p m ho halive hrouted hheads hother => ?grant,
    fun o f fp m v ho halive hrouted hdead hlink hreplay hnb hlegal hmask hv hlive => ?replay, fun m rest hq => ?notice,
    fun p m mp hnb hlive hlive' => ?silent⟩
  case grant =>
    intro left rest queue
    have hport : isTadPort n o = true := by simp [isTadPort, ho]
    have hexec (bad : Bool) : exec (.tadpoleForward n o bad) s = .next { s with sys := s.sys.tadpoleForward n o bad } := by
      rw [exec_tadpoleForward, show (Instr.tadpoleForward n o bad).wf = true by simp [Instr.wf, hwf, hport], State.act_true]
    obtain ⟨htads, hnow, hreps⟩ := Sys.tadRoute_sameTads (s := s.sys) (n := n) hrouted
    have hsame : Sys.SameTads s.sys (s.sys.tadRoute n) := ⟨htads, hnow, hreps⟩
    have hheads' : (s.sys.tadRoute n).tadHeads n o b = [(p, m)] := (hsame.heads ..).trans hheads
    have hgrant := Sys.tadpoleForward_grants (s := s.sys) rfl (by rw [htads]; exact halive) (hheads := hheads')
      (hother := (hsame.heads ..).trans hother)
    obtain ⟨hqueue, hinbox, hrep, htimes, hothers, hnow', hreps'⟩ := Sys.tadGranted_state hheads'
    rw [htads] at hqueue hinbox hrep htimes
    refine ⟨fun hloc hreplay => ⟨_, hexec false, ?_⟩, fun f fp hlt hdead hlink hroom hnb =>
      ⟨fun v hurgent hlegal hmask hv hlive => ⟨_, hexec false, ?_⟩, fun hcount => ⟨_, hexec true, ?_⟩⟩⟩
    · rw [hgrant (.inl hloc) (by rw [htads]; exact hreplay), if_pos hloc, Sys.tad_setTad_same]
      exact ⟨hqueue, congrArg (· ++ [{ m with outs := 0 }]) hinbox⟩
    all_goals
      obtain ⟨hne, -, -⟩ := tadNeighbour_apart hnb
      have hempty : ((s.sys.tad n).port o).replay = [] := by
        have hroom' := hroom
        simp only [Sys.tadRoom, hnb, Bool.and_eq_true, List.isEmpty_iff] at hroom'
        exact hroom'.1.2
      have hopen : ((s.sys.tadRoute n).tad n |>.port o).dead = false ∧ ((s.sys.tadRoute n).tad n |>.port o).link = 3 ∧
          (s.sys.tadRoute n).tadRoom n o b = true := by
        rw [htads, hsame.room]
        exact ⟨hdead, hlink, hroom⟩
      have hfar : ((s.sys.tadRoute n).tadGranted n o p b).tad f = s.sys.tad f := (hothers f hne).trans (htads f)
      rw [hgrant (.inr hopen) (by rw [htads]; exact hempty), if_neg (by omega)]
    · subst hurgent
      have hmask' : ((s.sys.tadRoute n).tadGranted n o p m.urgent).tadMask f fp m = v :=
        (Sys.tadMask_congr (a := s.sys) (hreps'.trans hreps) (congrArg TRouter.rgen hfar) m).trans hmask
      obtain ⟨harrived, hrest⟩ := Sys.tadTransmit_good hnb hlegal hmask' hv (by rw [hfar]; exact hlive)
      rw [hrest n hne.symm, harrived, hfar]
      exact ⟨hqueue, rfl⟩
    · obtain ⟨⟨times, hnear⟩, hrest⟩ := Sys.tadTransmit_bad (m := m) (s := (s.sys.tadRoute n).tadGranted n o p b) (n := n) (o := o)
        (by rw [hnow', hnow, htimes]; exact hcount)
      rw [hnear, hrest f hne, hfar, TRouter.port_setPort_same]
      refine ⟨?_, rfl, rfl⟩
      exact (TRouter.queue_setPort _ n o (v := { ((s.sys.tadRoute n).tadGranted n o p b).tad n |>.port o with
        replayTimes := times, replay := [m] }) rfl rfl p b).trans hqueue
  case replay =>
    have hport : isTadPort n o = true := by simp [isTadPort, Nat.le_of_lt ho]
    obtain ⟨hne, -, -⟩ := tadNeighbour_apart hnb
    obtain ⟨htads, hnow, hreps⟩ := Sys.tadRoute_sameTads (s := s.sys) (n := n) hrouted
    have hrun := Sys.tadpoleForward_replays (s := s.sys) (n := n) (o := o) (m := m) (l := []) rfl (by rw [htads]; exact halive)
      (by rw [htads]; exact hdead) (by rw [htads]; exact hlink) (by rw [htads]; exact hreplay) false
    let w := (s.sys.tadRoute n).setTad n (((s.sys.tadRoute n).tad n).setPort o { ((s.sys.tadRoute n).tad n).port o with replay := [] })
    have hfar : w.tad f = s.sys.tad f := (Sys.tad_setTad_other _ _ _ _ hne).trans (htads f)
    have hmask' : w.tadMask f fp m = v := (Sys.tadMask_congr (a := s.sys) (b := w) hreps (congrArg TRouter.rgen hfar) m).trans hmask
    obtain ⟨harrived, hrest⟩ := Sys.tadTransmit_good hnb hlegal hmask' hv (by rw [hfar]; exact hlive)
    refine ⟨_, by rw [exec_tadpoleForward, show (Instr.tadpoleForward n o false).wf = true by simp [Instr.wf, hwf, hport],
      State.act_true, hrun], ?_, ?_⟩
    · rw [hrest n hne.symm, Sys.tad_setTad_same, TRouter.port_setPort_same]
    · rw [harrived, hfar]
  case notice =>
    intro m' sent
    have hwf' : (Instr.noticeQueueSend n).wf = true := by simp [Instr.wf, hwf]
    refine ⟨fun hunit hrate => ?_, fun hlo hhi => ?_⟩
    · rw [exec_noticeQueueSend, hwf', State.act_true, Sys.noticeQueueSend_unit hq hunit hrate, Sys.sendMsg, Sys.tad_setTad_same]
      have hurgent : (s.sys.noticeOut n m).urgent = m.urgent := rfl
      dsimp only
      rw [hurgent]
      by_cases hu : m.urgent = true
      · rw [if_pos hu, if_pos hu, if_pos hu]
        rfl
      · rw [if_neg hu, if_neg hu, if_neg hu]
        rfl
    · refine ⟨_, by rw [exec_noticeQueueSend, hwf', State.act_true, Sys.noticeQueueSend_hub hq hlo hhi], ?_, ?_⟩
      · by_cases hself : n = 256 + s.sys.lead.hub
        · rw [← hself, Sys.tad_setTad_same, Sys.tad_setTad_same]
        · rw [Sys.tad_setTad_other _ _ _ _ hself, Sys.tad_setTad_same]
      · rw [Sys.tad_setTad_same]
        by_cases hself : 256 + s.sys.lead.hub = n
        · rw [hself, Sys.tad_setTad_same]
          simp only [Sys.noticeOut, m', hself]
          rfl
        · rw [Sys.tad_setTad_other _ _ _ _ hself]
          rfl
  case silent =>
    obtain ⟨hne, -, hp⟩ := tadNeighbour_apart hnb
    have hport : isTadPort n p = true := by simp [isTadPort, Nat.le_of_lt hp]
    obtain ⟨hnear, hun⟩ := Sys.tadEndDead_state (s := s.sys) hlive
    obtain ⟨hdead, hlink, hreplay, hothers⟩ := hnear
    obtain ⟨⟨hdead', hlink', hreplay', hothers'⟩, -⟩ := Sys.tadEndDead_state (s := s.sys.tadEndDead n p) (n := m) (p := mp)
      (by rw [hothers m hne]; exact hlive')
    have hrun : s.sys.neighbourSilent n p = (s.sys.tadEndDead n p).tadEndDead m mp := by simp only [Sys.neighbourSilent, hnb]
    refine ⟨{ s with sys := (s.sys.tadEndDead n p).tadEndDead m mp }, ?_, ?_, ⟨hdead', hlink', hreplay'⟩, fun i b x hi hx => ?_⟩
    · rw [exec_neighbourSilent, show (Instr.neighbourSilent n p).wf = true by simp [Instr.wf, hwf, hport], State.act_true, hrun]
    · rw [hothers' n hne.symm]
      exact ⟨hdead, hlink, hreplay⟩
    · have hx' : x ∈ (((s.sys.tadEndDead n p).tadEndDead m mp).tad n).queue n i b := hx
      rw [hothers' n hne.symm] at hx'
      exact hun i b hi x hx'

end Sys2Proof.Machine

/-! SUPPORT. Laws of register access over the tadpole network (R285, R292, R294, R295). -/

namespace Sys2Proof.Machine

theorem TX.readEffect_out (x : TX) (off : Nat) : (x.readEffect off).out = x.out := by
  unfold TX.readEffect
  split
  · dsimp only
    split
    · exact TX.instantHandover_out ..
    · repeat' split
      all_goals rfl
  · repeat' split
    all_goals rfl

section RegisterAccess
variable {s : Sys} {t h : Nat} {m : TMsg}

/-- The reply goes out with the messages of normal priority, and touches no tile (R294). -/
theorem Sys.regAnswer_state (v status : Nat) :
    (s.regAnswer t m v status).tile t = s.tile t ∧ ((s.regAnswer t m v status).tad t).outNormal = (s.tad t).outNormal ++
      [{ dst := m.src, src := t, type := 3, rgen := (s.tad t).rgen, tag := m.tag, payload := v % 2 ^ 32 + 2 ^ 32 * status }] := by
  refine ⟨rfl, ?_⟩
  rw [Sys.regAnswer, Sys.sendMsg, Sys.tad_setTad_same]
  rfl

theorem Sys.tadRegRead_head (hmail : (s.tad t).inbox.head? = some m) (htype : m.type = 1) (ht : t < 256)
    (hoff : bitsOf m.payload 23 0 < 0x10000) :
    let y := s.setTad t { s.tad t with inbox := (s.tad t).inbox.drop 1 }
    s.tadRegRead t = (y.setTile t ((y.tx t).readEffect (bitsOf m.payload 23 0)).tile).regAnswer t m
      ((y.tx t).readReg (bitsOf m.payload 23 0)) stSuccess := by
  intro y
  have htake := Sys.takeMsg_head (f := fun m => decide (m.type = 1)) hmail (by simp [htype])
  have hdid : y.onTile t (fun x => x.readEffect (bitsOf m.payload 23 0)) =
      y.setTile t ((y.tx t).readEffect (bitsOf m.payload 23 0)).tile := by
    rw [Sys.onTile, if_pos ht, Sys.putTX, TX.readEffect_out]
    rfl
  simp only [Sys.tadRegRead, htake]
  rw [if_pos ht, if_neg (by omega), hdid]

theorem Sys.tadRegWrite_head {ok : Bool} {z : TX} (hmail : (s.tad t).inbox.head? = some m) (htype : m.type = 2) (ht : t < 256)
    (hoff : bitsOf m.payload 23 0 < 0x10000) :
    let y := s.setTad t { s.tad t with inbox := (s.tad t).inbox.drop 1 }
    (y.tx t).writeReg (bitsOf m.payload 23 0) (bitsOf m.payload 63 32) false = (ok, z) → z.out = [] →
    s.tadRegWrite t = (y.setTile t z.tile).regAnswer t m 0 (if ok then stSuccess else stInvalidField) := by
  intro y hwrite hout
  have htake := Sys.takeMsg_head (f := fun m => decide (m.type = 2)) hmail (by simp [htype])
  have hask : y.askTile t (fun x => x.writeReg (bitsOf m.payload 23 0) (bitsOf m.payload 63 32) false) =
      (ok, y.setTile t z.tile) := by
    simp only [Sys.askTile, hwrite, Sys.putTX, hout, List.foldl_nil]
  simp only [Sys.tadRegWrite, htake]
  rw [if_pos ht, if_neg (by omega), hask]

theorem Sys.ceilingMsg_head (hmail : (s.tad t).inbox.head? = some m) (htype : m.type = 0x0A) :
    s.ceilingMsg t = (s.setTad t { s.tad t with inbox := (s.tad t).inbox.drop 1 }).modTile t (fun x =>
      { x with pwr := { x.pwr with
          ceilNext := (setBits (bitsOf m.payload 15 0) 16).foldl (fun a k => NMap.put a k (bitsOf m.payload 22 16)) x.pwr.ceilNext } }) := by
  have htake := Sys.takeMsg_head (f := fun m => decide (m.type = 0x0A)) hmail (by simp [htype])
  simp only [Sys.ceilingMsg, htake]

theorem Sys.regReply_unwaited {r : RegReq} (hmail : (s.tad (256 + h)).inbox.head? = some m) (htype : m.type = 3)
    (hr : r ∈ (s.hub h).reqs) (hdst : r.dst = m.src) (htag : r.tag = m.tag) (hwaits : s.lead.waits = []) :
    s.regReply h = (s.setTad (256 + h) { s.tad (256 + h) with inbox := (s.tad (256 + h)).inbox.drop 1 }).setHub h { s.hub h with
      reqs := (s.hub h).reqs.filter (fun r => r.dst ≠ m.src || r.tag ≠ m.tag) } := by
  have htake := Sys.takeMsg_head (f := fun m => decide (m.type = 3)) hmail (by simp [htype])
  have hany : (s.hub h).reqs.any (fun r => decide (r.dst = m.src) && decide (r.tag = m.tag)) = true :=
    List.any_eq_true.mpr ⟨r, hr, by simp [hdst, htag]⟩
  have hnone (u : Sys) (hu : u.lead.waits = []) (d g : Nat) : u.regWait h d g = none := by simp [Sys.regWait, hu]
  simp only [Sys.regReply, htake, Sys.hub_setTad, hany, Bool.not_true, Bool.false_eq_true, if_false]
  rw [hnone _ (by exact hwaits)]

theorem Sys.regReplyTimeout_first {r : RegReq} (hreqs : (s.hub h).reqs = [r]) (hlate : r.since + 20000 ≤ s.now)
    (hfirst : r.resent = false) :
    s.regReplyTimeout h = (s.setHub h { s.hub h with reqs := [{ r with resent := true, since := s.now }] }).sendMsg (256 + h) r.msg := by
  have hfind : (s.hub h).reqs.find? (fun r => decide (s.now ≥ r.since + 20000)) = some r := by
    rw [hreqs, List.find?_cons_of_pos]
    exact decide_eq_true hlate
  have hothers : [r].filter (fun x => decide (x.dst ≠ r.dst) || decide (x.tag ≠ r.tag)) = [] := by simp
  unfold Sys.regReplyTimeout
  simp only [hfind]
  rw [if_pos (by simp [hfirst]), hreqs, hothers]
  rfl

end RegisterAccess

/-- Settles O36. -/
theorem tadpoleRegisterAccess : Obligations.TadpoleRegisterAccess := by
  unfold Obligations.TadpoleRegisterAccess
  intro s t h m ht hh y off reply
  have htad : isTad t = true := by simp [isTad]; omega
  have hhub : isHub h = true := by simp [isHub, hh]
  refine ⟨fun hmail htype hoff => ?read, fun ok z hmail htype hoff hwrite hout => ?write, fun hmail htype => ?ceiling,
    fun r hmail htype hr hdst htag hwaits => ?reply, fun r hreqs hlate hfirst => ?timeout⟩
  case read =>
    refine ⟨_, by rw [exec_tadpoleRegRead, show (Instr.tadpoleRegRead t).wf = true by simp [Instr.wf, htad], State.act_true,
      Sys.tadRegRead_head hmail htype ht hoff], ?_, ?_⟩
    · rw [(Sys.regAnswer_state ..).1, Sys.tile_setTile_same]
      rfl
    · rw [(Sys.regAnswer_state ..).2, Sys.tad_setTile, Sys.tad_setTad_same]
      rfl
  case write =>
    refine ⟨_, by rw [exec_tadpoleRegWrite, show (Instr.tadpoleRegWrite t).wf = true by simp [Instr.wf, htad], State.act_true,
      Sys.tadRegWrite_head hmail htype ht hoff hwrite hout], ?_, ?_⟩
    · rw [(Sys.regAnswer_state ..).1, Sys.tile_setTile_same]
    · rw [(Sys.regAnswer_state ..).2, Sys.tad_setTile, Sys.tad_setTad_same]
      rfl
  case ceiling =>
    intro p
    rw [exec_ceiling, show (Instr.ceiling t).wf = true by simp [Instr.wf, isTile, ht], State.act_true,
      Sys.ceilingMsg_head hmail htype]
    rfl
  case reply =>
    rw [exec_regReply, show (Instr.regReply h).wf = true by simp [Instr.wf, hhub], State.act_true,
      Sys.regReply_unwaited hmail htype hr hdst htag hwaits]
    rfl
  case timeout =>
    refine ⟨_, by rw [exec_regReplyTimeout, show (Instr.regReplyTimeout h).wf = true by simp [Instr.wf, hhub], State.act_true,
      Sys.regReplyTimeout_first hreqs hlate hfirst], ?_, ?_⟩
    · rw [Sys.sendMsg, Sys.hub_setTad, Sys.hub_setHub_same]
    · rw [Sys.sendMsg, Sys.tad_setTad_same]
      rfl

end Sys2Proof.Machine

/-! SUPPORT. Laws of events and log entries, and of notices at the lead hub (R477–R480, R541, R542, R545, R546). -/

namespace Sys2Proof.Machine

/-- What events and log entries leave alone: all but the registers and the vector table of the hubs, the interrupts sent,
and the log itself. -/
def Sys.SameButLog (a b : Sys) : Prop :=
  b = { a with hubs := b.hubs, irqs := b.irqs, lead := { a.lead with log := b.lead.log, logNext := b.lead.logNext } } ∧
    ∀ h, ∃ r m, b.hub h = { a.hub h with regs := r, msix := m }

namespace Sys.SameButLog
variable {a b c s : Sys}

theorem refl : Sys.SameButLog s s := ⟨rfl, fun _ => ⟨_, _, rfl⟩⟩

theorem trans (hab : Sys.SameButLog a b) (hbc : Sys.SameButLog b c) : Sys.SameButLog a c := by
  obtain ⟨hb, hbh⟩ := hab
  obtain ⟨hc, hch⟩ := hbc
  refine ⟨?_, fun h => ?_⟩
  · rw [hc, hb]
  · obtain ⟨r, m, hr⟩ := hbh h
    obtain ⟨r', m', hr'⟩ := hch h
    exact ⟨r', m', by rw [hr', hr]⟩

theorem tiles (h : Sys.SameButLog a b) : b.tiles = a.tiles := by rw [h.1]
theorem tads (h : Sys.SameButLog a b) : b.tads = a.tads := by rw [h.1]
theorem now (h : Sys.SameButLog a b) : b.now = a.now := by rw [h.1]

theorem lead (h : Sys.SameButLog a b) : b.lead = { a.lead with log := b.lead.log, logNext := b.lead.logNext } :=
  congrArg Sys.lead h.1

theorem ctxs (h : Sys.SameButLog a b) (n : Nat) : (b.hub n).ctxs = (a.hub n).ctxs := by
  obtain ⟨r, m, hr⟩ := h.2 n
  rw [hr]

end Sys.SameButLog

section Reports
variable {s : Sys}

theorem Sys.setHub_sameButLog {h : Nat} {v : Hub} (hv : ∃ r m, v = { s.hub h with regs := r, msix := m }) :
    Sys.SameButLog s (s.setHub h v) := by
  refine ⟨rfl, fun n => ?_⟩
  by_cases hn : n = h
  · obtain ⟨r, m, rfl⟩ := hv
    exact ⟨r, m, by rw [hn, Sys.hub_setHub_same]⟩
  · exact ⟨_, _, by rw [Sys.hub_setHub_other _ _ _ _ hn]⟩

theorem Sys.msix_sameButLog (h v : Nat) : Sys.SameButLog s (s.msix h v) := by
  unfold Sys.msix
  dsimp only
  split
  · exact Sys.setHub_sameButLog ⟨_, _, rfl⟩
  · split
    · exact ⟨rfl, fun _ => ⟨_, _, rfl⟩⟩
    · exact .refl

theorem Sys.event_sameButLog (h bit : Nat) : Sys.SameButLog s (s.event h bit) := by
  have hset : Sys.SameButLog s (s.setHub h ((s.hub h).setReg 0x104 ((s.hub h).reg 0x104 ||| 2 ^ bit))) :=
    Sys.setHub_sameButLog ⟨_, _, rfl⟩
  unfold Sys.event
  dsimp only
  split
  · exact hset
  · refine hset.trans ?_
    unfold Sys.eventMsg
    dsimp only
    split
    · exact Sys.msix_sameButLog ..
    · exact .refl

theorem Sys.eventBoth_sameButLog (bit : Nat) : Sys.SameButLog s (s.eventBoth bit) :=
  (Sys.event_sameButLog 0 bit).trans (Sys.event_sameButLog 1 bit)

theorem Sys.logPart_sameButLog (code sev kind wher sub part detail : Nat) :
    Sys.SameButLog s (s.logPart code sev kind wher sub part detail) := by
  unfold Sys.logPart
  dsimp only
  have hlog (f : Lead → Lead) (hf : ∀ l, ∃ a b, f l = { l with log := a, logNext := b }) : Sys.SameButLog s (s.modLead f) := by
    obtain ⟨a, b, hl⟩ := hf s.lead
    refine ⟨?_, fun _ => ⟨_, _, rfl⟩⟩
    simp only [Sys.modLead, hl]
  split
  · exact (hlog _ fun l => ⟨_, _, rfl⟩).trans (Sys.eventBoth_sameButLog 2)
  · exact hlog _ fun l => ⟨_, _, rfl⟩

theorem Sys.log_sameButLog (code sev kind wher sub detail : Nat) : Sys.SameButLog s (s.log code sev kind wher sub detail) :=
  Sys.logPart_sameButLog ..

end Reports

section Notice
variable {s : Sys} {m : TMsg}

/-- A notice that is not a step's end: taken, logged where it is of a class, acted on (R477). -/
theorem Sys.notice_head (hmail : (s.tad (256 + s.lead.hub)).inbox.head? = some m) (htype : m.type = 0x10)
    (hsub : m.sub ≠ ncStepEnd) :
    let y := s.setTad (256 + s.lead.hub) { s.tad (256 + s.lead.hub) with inbox := (s.tad (256 + s.lead.hub)).inbox.drop 1 }
    let k := noticeClass m.sub
    let kind := bitsOf m.payload 7 0
    let wher := bitsOf m.payload 23 8
    let sub := bitsOf m.payload 39 24
    s.notice = (if k = 0 || k = 7 then y else y.log (0x0100 + m.sub) (classSeverity k) kind wher sub m.payload).actOn
      m.src m.sub kind wher sub (bitsOf m.payload 62 40) := by
  intro y k kind wher sub
  have htake := Sys.takeMsg_head (f := fun m => decide (m.type = 0x10) && decide (m.sub ≠ ncStepEnd)) hmail (by simp [htype, hsub])
  simp only [Sys.notice, Sys.leadAddr, htake]
  rfl

/-- A notice reaches no partition where there is none. -/
theorem Sys.stepParts_none (hparts : s.lead.partitions = []) (hctxs : ∀ h, (s.hub h).ctxs = []) (src kind wher sub : Nat) :
    s.stepParts src kind wher sub = [] := by
  have hnone (l : List Nat) : s.partsOf l = [] := by simp [Sys.partsOf, hparts]
  have hhub (h tag : Nat) : s.hubParts h tag = [] := by simp [Sys.hubParts, hctxs]
  unfold Sys.stepParts
  simp only [hnone, hhub]
  repeat' split
  all_goals rfl

theorem Sys.modLead_actOn_none (hparts : s.lead.partitions = []) (hctxs : ∀ h, (s.hub h).ctxs = []) (src kind wher sub : Nat) :
    (s.stepParts src kind wher sub).foldl (fun s p => s.recoverPart p) s = s := by
  rw [Sys.stepParts_none hparts hctxs]
  rfl

end Notice

/-- Settles O37. -/
theorem noticesAtTheLeadHub : Obligations.NoticesAtTheLeadHub := by
  unfold Obligations.NoticesAtTheLeadHub
  intro s m hmail htype y wher sub logged
  have hexec : exec .notice s = .next { s with sys := s.sys.notice } := by
    rw [exec_notice, show Instr.notice.wf = true from rfl, State.act_true]
  have hlogged (sev : Nat) : Sys.SameButLog y.sys (logged sev) := Sys.log_sameButLog ..
  have hstep (sev : Nat) (hparts : s.sys.lead.partitions = []) (hctxs : ∀ h, (s.sys.hub h).ctxs = []) :
      (logged sev).lead.partitions = [] ∧ ∀ h, ((logged sev).hub h).ctxs = [] := by
    refine ⟨?_, fun h => ((hlogged sev).ctxs h).trans (hctxs h)⟩
    rw [(hlogged sev).lead]
    exact hparts
  refine ⟨fun hsub => ?counted, fun hsub hparts hctxs => ?step, fun hsub hparts hctxs => ?parity, fun n j hsub hslot hjob => ?poison⟩
  case counted =>
    rw [hexec, Sys.notice_head hmail htype (by rcases hsub with h | h | h | h <;> rw [h] <;> decide)]
    rcases hsub with h | h | h | h <;> rw [h] <;> rfl
  case step =>
    obtain ⟨hp, hc⟩ := hstep 2 hparts hctxs
    have hnone := Sys.modLead_actOn_none hp hc m.src (bitsOf m.payload 7 0) wher sub
    rw [hexec, Sys.notice_head hmail htype (by rcases hsub with h | h <;> rw [h] <;> decide)]
    rcases hsub with h | h <;> simp only [logged, h] at hnone ⊢ <;> exact congrArg (fun u => Host.Outcome.next { s with sys := u }) hnone
  case parity =>
    obtain ⟨hp, hc⟩ := hstep 2 hparts hctxs
    have hdamaged : (logged 2).damagedRegions wher sub = s.sys.damagedRegions wher sub := by
      simp only [Sys.damagedRegions, Sys.tile, (hlogged 2).tiles]
      rfl
    have hnone := Sys.modLead_actOn_none (s := (logged 2).modLead (fun l => { l with recov := { l.recov with
      damaged := l.recov.damaged ++ (s.sys.damagedRegions wher sub).filter (fun d => !l.recov.damaged.contains d) } }))
      hp hc m.src (bitsOf m.payload 7 0) wher sub
    rw [← hdamaged] at hnone ⊢
    rw [hexec, Sys.notice_head hmail htype (by rw [hsub]; decide)]
    simp only [logged, hsub] at hnone ⊢
    exact congrArg (fun u => Host.Outcome.next { s with sys := u }) hnone
  case poison =>
    intro step hold hnew
    have hjobs : (logged 1).lead.jobs = s.sys.lead.jobs := by rw [(hlogged 1).lead]; rfl
    have hj : (logged 1).job n = j := by
      rw [Sys.job, hjobs, NMap.get_eq_find, hjob, Option.getD_some]
    have hmarks : (logged 1).poisonNotice wher (sub + 2 ^ 16 * bitsOf (bitsOf m.payload 62 40) 15 0) =
        (logged 1).modJob n (fun j => { j with poison := j.poison ++ [step] }) := by
      have hslot' : (logged 1).jobOfSlot wher = some n := by rw [← hslot, Sys.jobOfSlot, Sys.jobOfSlot, hjobs]
      simp only [Sys.poisonNotice, hslot', hj]
      exact if_neg (by simp [step] at hnew ⊢; exact ⟨hold, hnew⟩)
    refine ⟨{ s with sys := (logged 1).modJob n (fun j => { j with poison := j.poison ++ [step] }) }, ?_, ?_⟩
    · rw [hexec, Sys.notice_head hmail htype (by rw [hsub]; decide)]
      simp only [logged, hsub] at hmarks ⊢
      exact congrArg (fun u => Host.Outcome.next { s with sys := u }) hmarks
    · simp only [Sys.modJob, Sys.setJob, Sys.modLead, NMap.get_put_same, hj]

end Sys2Proof.Machine

/-! SUPPORT. A replica and a router in an epoch switch: what each EPOCH message does to the replica that takes it, and O39. -/

namespace Sys2Proof.Machine

/-- The EPOCH message that the endpoint of router `n` puts into its queue. -/
def Sys.epochMsg (s : Sys) (n dst sub tag v : Nat) : TMsg :=
  { dst := dst, src := n, type := 0x18, urgent := true, rgen := (s.tad n).rgen, sub := sub, tag := tag, payload := v }

section
variable {s : Sys} {n : Nat} {m : TMsg}

/-- The EPOCH message at the head of an inbox is the one a replica takes. -/
theorem Sys.takeEpoch_head {sub : Nat} (hmail : (s.tad n).inbox.head? = some m) (htype : m.type = 0x18) (hsub : m.sub = sub)
    (hmem : [1, 3, 6, 7, 8].contains sub = true) :
    s.takeEpoch n sub = some (m, s.setTad n { s.tad n with inbox := (s.tad n).inbox.drop 1 }) := by
  have htake := Sys.takeMsg_head (f := fun m => decide (m.type = 0x18) && [1, 3, 6, 7, 8].contains m.sub) hmail
    (by rw [hsub, hmem]; simp [htype])
  simp only [Sys.takeEpoch, htake, hsub, if_true]

/-- A replica and its router's mail as one message sent on from there leaves them. -/
theorem Sys.sendMsg_replica (s : Sys) (n : Nat) (m : TMsg) (k : Nat) : (s.sendMsg n m).replica k = s.replica k := by
  rw [Sys.sendMsg, Sys.replica_setTad]

theorem Sys.sendMsg_urgent (s : Sys) (n : Nat) (m : TMsg) (hm : m.urgent = true) :
    (s.sendMsg n m).tad n =
      { s.tad n with outUrgent := (s.tad n).outUrgent ++ [{ m with src := n, rgen := (s.tad n).rgen }] } := by
  rw [Sys.sendMsg, Sys.tad_setTad_same]
  dsimp only
  rw [if_pos hm]

/-- What GROUP_PURGE does to a router leaves every replica and every tadpole router. -/
theorem Sys.purgeGroups_sameTads (s : Sys) (n : Nat) (l : List Nat) : Sys.SameTads s (s.purgeGroups n l) :=
  Sys.SameTads.trans (b := s.setRouter n { s.router n with red := (s.router n).red.filter (fun d => !l.contains d.group) })
    ⟨fun _ => rfl, rfl, rfl⟩ (Sys.bumpTile_sameTads ..)

theorem Replica.beginShadow_ett (r : Replica) : r.beginShadow.ett = r.ett := by
  unfold Replica.beginShadow
  split <;> rfl

/-- A PREPARE's pairs as the statement reads them: the unused ones left out beforehand. -/
theorem preparePairs_foldl (payload : Nat) (ett shd : NMap Nat) :
    (List.range 4).foldl (fun t i =>
      let a := byteOf payload (2 * i)
      let b := byteOf payload (2 * i + 1)
      if a = 0xFF then t else NMap.put t a (if NMap.get 0 ett a = b + 256 then 0 else b + 256)) shd =
    (((List.range 4).map (fun i => (bitsOf payload (16 * i + 7) (16 * i), bitsOf payload (16 * i + 15) (16 * i + 8)))).filter
      (fun p => p.1 ≠ 0xFF)).foldl
        (fun t p => NMap.put t p.1 (if NMap.get 0 ett p.1 = p.2 + 256 then 0 else p.2 + 256)) shd := by
  rw [List.foldl_filter, List.foldl_map]
  refine foldl_agree (fun t i _ => ?_) _
  have hlo : byteOf payload (2 * i) = bitsOf payload (16 * i + 7) (16 * i) := by
    rw [byteOf, show 8 * (2 * i) = 16 * i by omega]
  have hhi : byteOf payload (2 * i + 1) = bitsOf payload (16 * i + 15) (16 * i + 8) := by
    rw [byteOf, show 8 * (2 * i + 1) = 16 * i + 8 by omega]
  by_cases hff : bitsOf payload (16 * i + 7) (16 * i) = 0xFF <;> simp [hlo, hhi, hff]

theorem Sys.prepare_replica (hmail : (s.tad n).inbox.head? = some m) (htype : m.type = 0x18) (hsub : m.sub = 1) :
    let r := (s.replica n).beginShadow
    (s.prepare n).replica n = { r with
      ettShd := (((List.range 4).map (fun i =>
          (bitsOf m.payload (16 * i + 7) (16 * i), bitsOf m.payload (16 * i + 15) (16 * i + 8)))).filter (fun p => p.1 ≠ 0xFF)).foldl
        (fun t p => NMap.put t p.1 (if NMap.get 0 (s.replica n).ett p.1 = p.2 + 256 then 0 else p.2 + 256)) r.ettShd } := by
  intro r
  rw [Sys.prepare, Sys.takeEpoch_head hmail htype hsub rfl]
  dsimp only
  rw [Sys.replica_setReplica_same, Sys.replica_setTad, preparePairs_foldl, Replica.beginShadow_ett]

/-- A ROUTE written into the shadow bank, and the answer that its last one gets. -/
theorem Sys.routeMsg_state (hmail : (s.tad n).inbox.head? = some m) (htype : m.type = 0x18) (hsub : m.sub = 7) :
    let r := (s.replica n).beginShadow.writeShadow s.lead.rgs (bitsOf m.payload 23 16) (bitsOf m.payload 15 0)
      (bitsOf m.payload 55 24)
    ((s.routeMsg n).replica n = r) ∧ ((s.routeMsg n).tad n).outUrgent = (s.tad n).outUrgent ++
      (if bitOf m.payload 63 then [s.epochMsg n m.src 2 m.tag (r.got % 2 ^ 16)] else []) := by
  intro r
  rw [Sys.routeMsg, Sys.takeEpoch_head hmail htype hsub rfl]
  by_cases hlast : bitOf m.payload 63 = true
  · simp only [hlast, if_true]
    rw [Sys.sendMsg_replica, Sys.sendMsg_urgent _ _ _ rfl]
    simp only [Sys.replica_setReplica_same, Sys.replica_setTad, Sys.tad_setReplica, Sys.tad_setTad_same]
    exact ⟨rfl, rfl⟩
  · simp only [hlast]
    simp only [Bool.false_eq_true, if_false, Sys.replica_setReplica_same, Sys.replica_setTad, Sys.tad_setReplica,
      Sys.tad_setTad_same, List.append_nil, and_true]
    rfl

/-- What a ROUTE writes of a shadow bank, table by table, and what it leaves. -/
theorem Replica.writeShadow_tables (r : Replica) (groups : List RGroup) (table i v : Nat) :
    let w := r.writeShadow groups table i v
    w.got = r.got ∧ w.shdValid = r.shdValid ∧ w.mesh = r.mesh ∧ w.tad = r.tad ∧ w.ett = r.ett ∧
    w.meshShd = (if table = 0 then NMap.put r.meshShd i v else r.meshShd) ∧
    w.tadShd = (if table = 1 then NMap.put r.tadShd i v else r.tadShd) ∧
    w.relayShd = (if table = 2 then NMap.put r.relayShd i v else r.relayShd) ∧
    w.mcastShd = (if table = 3 then NMap.put r.mcastShd i v else r.mcastShd) ∧
    w.membersShd = (if table = 4 then NMap.put r.membersShd i v else r.membersShd) ∧
    w.rgW0Shd = (if table = 5 then NMap.put r.rgW0Shd i v else r.rgW0Shd) ∧
    w.rgW1Shd = (if table = 6 then NMap.put r.rgW1Shd i v else r.rgW1Shd) := by
  unfold Replica.writeShadow
  split
  case h_8 h0 h1 h2 h3 h4 h5 h6 =>
    simp only [if_neg h0, if_neg h1, if_neg h2, if_neg h3, if_neg h4, if_neg h5, if_neg h6, and_self]
  all_goals exact ⟨rfl, rfl, rfl, rfl, rfl, rfl, rfl, rfl, rfl, rfl, rfl, rfl⟩

/-- A replica with its shadow bank made active. -/
def Replica.exchanged (r : Replica) (e : Nat) : Replica :=
  { r with
    cur := e, old := (e + 255) % 256, stale := false, draining := true, drainSent := false, shdValid := true
    ett := r.ettShd, ettShd := r.ett, mesh := r.meshShd, meshShd := r.mesh, tad := r.tadShd, tadShd := r.tad
    relay := r.relayShd, relayShd := r.relay, mcast := r.mcastShd, mcastShd := r.mcast
    members := r.membersShd, membersShd := r.members, rgW0 := r.rgW0Shd, rgW0Shd := r.rgW0
    rgW1 := r.rgW1Shd, rgW1Shd := r.rgW1, rgRoot := r.rgRootShd, rgRootShd := r.rgRoot }

/-- Clearing the STREAM latches that a commit changes touches the straights alone. -/
theorem Sys.unlatched_keeps (s : Sys) (l : List (Nat × Nat)) :
    let u := l.foldl (fun s c => (setBits c.2 16).foldl (fun s k =>
      let st := s.straight c.1
      s.setStraight c.1 (st.setPort k ((st.port k).unlatch true))) s) s
    u.tads = s.tads ∧ u.replicas = s.replicas ∧ u.tiles = s.tiles := by
  intro u
  refine List.foldlRecOn l _ (motive := fun b : Sys => b.tads = s.tads ∧ b.replicas = s.replicas ∧ b.tiles = s.tiles)
    ⟨rfl, rfl, rfl⟩ fun b hb c _ => ?_
  exact List.foldlRecOn _ _ (motive := fun b : Sys => b.tads = s.tads ∧ b.replicas = s.replicas ∧ b.tiles = s.tiles) hb
    fun b hb k _ => hb

/-- A replica's commit at its router and its tile. -/
theorem Sys.commitReplica_state (s : Sys) (n e : Nat) :
    let u := s.commitReplica n e
    u.replica n = (s.replica n).exchanged e ∧ u.tad n = { s.tad n with rgen := decide (e % 2 = 1), draining := true } ∧
      (n < 256 → (u.tile n).logical = (List.range 240).find? (fun l => NMap.get 0 (s.replica n).ettShd l = 256 + n)) := by
  intro u
  obtain ⟨htads, hreps, htiles⟩ := Sys.unlatched_keeps s (streamChanges n (s.replica n))
  unfold u Sys.commitReplica
  extract_lets r clear b r' c d me
  have htad : c.tad n = s.tad n := show NMap.get {} b.tads n = NMap.get {} s.tads n by rw [htads]
  have hd : d = s.tad n := htad
  have hrep (v : TRouter) : (c.setTad n v).replica n = r' := by rw [Sys.replica_setTad, Sys.replica_setReplica_same]
  by_cases hn : n < 256
  · rw [if_pos hn]
    exact ⟨hrep { d with rgen := decide (e % 2 = 1), draining := true }, by rw [Sys.modTile, Sys.tad_setTile, Sys.tad_setTad_same, hd], fun _ => by
      rw [Sys.modTile, Sys.tile_setTile_same]⟩
  · rw [if_neg hn]
    exact ⟨hrep { d with rgen := decide (e % 2 = 1), draining := true }, by rw [Sys.tad_setTad_same, hd], fun h => absurd h hn⟩

/-- A repeated COMMIT is answered, and the router reports its drain again. -/
theorem Sys.commitMsg_again (hmail : (s.tad n).inbox.head? = some m) (htype : m.type = 0x18) (hsub : m.sub = 3)
    (hcur : (s.replica n).cur = m.tag) (hstale : (s.replica n).stale = false) :
    (s.commitMsg n).replica n = { s.replica n with drainSent := false } ∧
    ((s.commitMsg n).tad n).outUrgent = (s.tad n).outUrgent ++ [s.epochMsg n m.src 4 m.tag 0] := by
  rw [Sys.commitMsg, Sys.takeEpoch_head hmail htype hsub rfl]
  dsimp only
  rw [if_pos (by rw [Sys.replica_setTad]; simp [hcur, hstale]), Sys.sendMsg_replica, Sys.sendMsg_urgent _ _ _ rfl,
    Sys.replica_setReplica_same, Sys.tad_setReplica, Sys.tad_setTad_same]
  exact ⟨rfl, rfl⟩

/-- A COMMIT of an epoch that the replica has not followed exchanges its banks and is answered. -/
theorem Sys.commitMsg_exchanges (hmail : (s.tad n).inbox.head? = some m) (htype : m.type = 0x18) (hsub : m.sub = 3)
    (hnew : (s.replica n).cur ≠ m.tag ∨ (s.replica n).stale = true) :
    let u := s.commitMsg n
    u.replica n = (s.replica n).exchanged m.tag ∧ (u.tad n).rgen = decide (m.tag % 2 = 1) ∧
    (n < 256 → (u.tile n).logical = (List.range 240).find? (fun l => NMap.get 0 (s.replica n).ettShd l = 256 + n)) ∧
    (u.tad n).outUrgent = (s.tad n).outUrgent ++ [{ s.epochMsg n m.src 4 m.tag 0 with rgen := decide (m.tag % 2 = 1) }] := by
  intro u
  have hcond : ((s.replica n).cur = m.tag && !(s.replica n).stale) = false := by
    rcases hnew with h | h <;> simp [h]
  unfold u Sys.commitMsg
  rw [Sys.takeEpoch_head hmail htype hsub rfl]
  dsimp only
  rw [Sys.replica_setTad, if_neg (by rw [hcond]; decide)]
  obtain ⟨hrep, htad, hlog⟩ :=
    Sys.commitReplica_state (s.setTad n { s.tad n with inbox := (s.tad n).inbox.drop 1 }) n m.tag
  rw [Sys.replica_setTad] at hrep hlog
  rw [Sys.tad_setTad_same] at htad
  rw [Sys.sendMsg_replica, Sys.sendMsg_urgent _ _ _ rfl, htad]
  refine ⟨hrep, rfl, fun hn => ?_, rfl⟩
  rw [Sys.sendMsg, Sys.tile_setTad]
  exact hlog hn

theorem Sys.drainCountZero_sent (hdrain : (s.replica n).draining = true) (hsent : (s.replica n).drainSent = false)
    (hold : s.oldCount n = 0) :
    (s.drainCountZero n).replica n = { s.replica n with drainSent := true } ∧
    ((s.drainCountZero n).tad n).outUrgent = (s.tad n).outUrgent ++ [s.epochMsg n (256 + s.lead.hub) 5 (s.replica n).old 0] := by
  rw [Sys.drainCountZero]
  dsimp only
  rw [if_pos (by simp [hdrain, hsent, hold]), Sys.sendMsg_replica, Sys.sendMsg_urgent _ _ _ rfl, Sys.replica_setReplica_same,
    Sys.tad_setReplica]
  exact ⟨rfl, rfl⟩

/-- RETIRE ends the drain and discards the shadow bank. -/
theorem Sys.retireMsg_state (hmail : (s.tad n).inbox.head? = some m) (htype : m.type = 0x18) (hsub : m.sub = 6) :
    (s.retireMsg n).replica n =
      { (s.replica n).noShadow with draining := false, drainSent := false, old := (s.replica n).cur } ∧
    ((s.retireMsg n).tad n).draining = false := by
  rw [Sys.retireMsg, Sys.takeEpoch_head hmail htype hsub rfl]
  dsimp only
  rw [Sys.replica_setTad, Sys.replica_setReplica_same, Sys.tad_setTad_same]
  exact ⟨rfl, rfl⟩

end

/-- Settles O39. -/
theorem epochSwitchAtAReplica : Obligations.EpochSwitchAtAReplica := by
  unfold Obligations.EpochSwitchAtAReplica
  intro s n hn r q answer begun
  have hwf : isTad n = true := by simp [isTad, hn]
  refine ⟨fun m hmail htype hsub => ?prepare, fun m hmail htype hsub => ?route, fun m hmail htype hsub hcur hstale => ?again,
    fun m hmail htype hsub hnew => ?commit, fun hlt hdrain hsent hold => ?drained, fun m hmail htype hsub => ?retire⟩
  case prepare =>
    intro pairs
    exact ⟨_, by rw [exec_prepare, show (Instr.prepare n).wf = true by simp [Instr.wf, hwf], State.act_true],
      Sys.prepare_replica hmail htype hsub⟩
  case route =>
    intro table i v
    refine ⟨_, by rw [exec_route, show (Instr.route n).wf = true by simp [Instr.wf, hwf], State.act_true], ?_⟩
    obtain ⟨hrep, hout⟩ := Sys.routeMsg_state hmail htype hsub
    obtain ⟨hgot, hvalid, hmesh, htad, hett, htables⟩ := Replica.writeShadow_tables begun s.sys.lead.rgs table i v
    have hbegun : begun.mesh = r.mesh ∧ begun.tad = r.tad ∧ begun.ett = r.ett ∧ begun.shdValid = true := by
      unfold begun
      split
      case isTrue h => exact ⟨rfl, rfl, rfl, h⟩
      case isFalse => exact ⟨rfl, rfl, rfl, rfl⟩
    obtain ⟨bmesh, btad, bett, bvalid⟩ := hbegun
    have hrep' : (s.sys.routeMsg n).replica n = begun.writeShadow s.sys.lead.rgs table i v := hrep
    obtain ⟨h0, h1, h2, h3, h4, h5, h6⟩ := htables
    rw [hrep']
    refine ⟨hgot, hvalid.trans bvalid, h0, h1, h2, h3, h4, h5, h6, hmesh.trans bmesh, htad.trans btad, hett.trans bett, ?_⟩
    rw [hout, show ((s.sys.replica n).beginShadow.writeShadow s.sys.lead.rgs (bitsOf m.payload 23 16) (bitsOf m.payload 15 0)
      (bitsOf m.payload 55 24)).got = begun.got from hgot]
    rfl
  case again =>
    exact ⟨_, by rw [exec_commit, show (Instr.commit n).wf = true by simp [Instr.wf, hwf], State.act_true],
      Sys.commitMsg_again hmail htype hsub hcur hstale⟩
  case commit =>
    obtain ⟨hrep, hgen, hlog, hout⟩ := Sys.commitMsg_exchanges hmail htype hsub hnew
    exact ⟨_, by rw [exec_commit, show (Instr.commit n).wf = true by simp [Instr.wf, hwf], State.act_true],
      hrep, hgen, hlog, _, hout⟩
  case drained =>
    exact ⟨_, by
      rw [exec_drainCountZero, show (Instr.drainCountZero n).wf = true by simp [Instr.wf, isRouter, hlt], State.act_true],
      Sys.drainCountZero_sent hdrain hsent hold⟩
  case retire =>
    obtain ⟨hrep, hdrain⟩ := Sys.retireMsg_state hmail htype hsub
    refine ⟨_, by rw [exec_retire, show (Instr.retire n).wf = true by simp [Instr.wf, hwf], State.act_true], ?_⟩
    rw [hrep, hdrain]
    exact ⟨rfl, rfl, rfl, rfl, rfl, rfl, rfl⟩

end Sys2Proof.Machine

/-! SUPPORT. Panel time over the tadpole network: SYNC at a router and at an endpoint, link delays, and O40. -/

namespace Sys2Proof.Machine

section
variable {s : Sys} {n p : Nat} {m : TMsg} {res : Nat}

/-- An endpoint with nothing to send routes nothing. -/
theorem Sys.tadRoute_idle (hu : (s.tad n).outUrgent = []) (hn : (s.tad n).outNormal = []) :
    s.tadRoute n = s.setTad n (s.tad n) := by
  have hnone (u : Bool) : (s.tad n).queue n (tadLocal n) u = [] := by
    cases u <;> simp [TRouter.queue, hu, hn]
  have hput (u : Bool) : (s.tad n).setQueue n (tadLocal n) u [] = s.tad n := by
    rw [← hnone u, TRouter.setQueue_queue_local]
  simp only [Sys.tadRoute, List.foldl_cons, List.foldl_nil, hnone, hput, Sys.tad_setTad_same, Sys.setTad_setTad]

/-- The outputs of router `n` by which SYNC `m` goes on now. -/
def Sys.syncOutputs (s : Sys) (n : Nat) (m : TMsg) : List Nat :=
  (List.range (tadLocal n)).filter (fun o => bitOf m.outs o && ((s.tad n).port o).link = 3 && s.tadRoom n o true)

/-- The router's only urgent message, a SYNC that comes in at a link. -/
structure Sys.OnlySync (s : Sys) (n p : Nat) (m : TMsg) : Prop where
  noUrgent : (s.tad n).outUrgent = []
  noNormal : (s.tad n).outNormal = []
  others : ∀ j, j ≠ p → ((s.tad n).port j).urgentQ = []
  head : ((s.tad n).port p).urgentQ = [m]
  link : p < tadLocal n
  type : m.type = 0x20
  sub : m.sub = 1
  outs : m.outs ≠ 0

/-- Such a SYNC with nothing left to do where it stands: it leaves its queue, goes on by its outputs, and is taken by the
endpoint that it is for (R296). -/
theorem Sys.sync_only (h : s.OnlySync n p m) (hleft : (s.syncOutputs n m).foldl (fun a o => a - 2 ^ o)
      (if bitOf m.outs (tadLocal n) then m.outs - 2 ^ tadLocal n else m.outs) = 0) :
    s.sync n res =
      let here := m.payload + res + ((s.tad n).port p).delay / 4
      let u := (s.syncOutputs n m).foldl
        (fun s o => (s.tadNumber n o).tadTransmit n o { m with payload := here, outs := 0 } false)
        (s.setTad n ((s.tad n).setPort p { (s.tad n).port p with urgentQ := [] }))
      if bitOf m.outs (tadLocal n) then u.takeTime n here else u := by
  have hp : p ≠ tadLocal n := Nat.ne_of_lt h.link
  have hqueue (i : Nat) : (s.tad n).queue n i true = if i = p then [m] else [] := by
    by_cases hi : i = p
    · rw [if_pos hi, hi, TRouter.queue, if_neg hp, if_pos rfl, h.head]
    · rw [if_neg hi, TRouter.queue]
      by_cases hl : i = tadLocal n
      · rw [if_pos hl, if_pos rfl, h.noUrgent]
      · rw [if_neg hl, if_pos rfl, h.others i hi]
  have hfind : (List.range (tadLocal n + 1)).findSome? (fun i => match (s.tad n).queue n i true with
      | m :: rest => if m.type = 0x20 && m.sub = 1 && m.outs ≠ 0 then some (i, m, rest) else none
      | [] => none) = some (p, m, []) := by
    have hmine (i : Nat) : (match (s.tad n).queue n i true with
        | m :: rest => if m.type = 0x20 && m.sub = 1 && m.outs ≠ 0 then some (i, m, rest) else none
        | [] => none) = if i = p then some (p, m, []) else none := by
      rw [hqueue]
      by_cases hi : i = p
      · simp [hi, h.type, h.sub, h.outs]
      · simp [hi]
    simp only [hmine]
    cases hf : (List.range (tadLocal n + 1)).findSome? (fun i => if i = p then some (p, m, ([] : List TMsg)) else none) with
    | none =>
      have := List.findSome?_eq_none_iff.mp hf p (List.mem_range.mpr (by have := h.link; omega))
      simp at this
    | some x =>
      obtain ⟨i, -, hi⟩ := List.exists_of_findSome?_eq_some hf
      split at hi
      · exact hi.symm
      · exact absurd hi nofun
  have hsame : Sys.SameTads s (s.setTad n (s.tad n)) := Sys.setTad_sameTads rfl
  have houts : (List.range (tadLocal n)).filter (fun o =>
      bitOf m.outs o && ((s.tad n).port o).link = 3 && (s.setTad n (s.tad n)).tadRoom n o true) = s.syncOutputs n m := by
    simp only [Sys.syncOutputs, hsame.room]
  have hput : (s.tad n).setQueue n p true [] = (s.tad n).setPort p { (s.tad n).port p with urgentQ := [] } := by
    rw [TRouter.setQueue, if_neg hp]
    rfl
  unfold Sys.sync
  simp only [Sys.tadRoute_idle h.noUrgent h.noNormal, Sys.tad_setTad_same]
  split
  next hnone => exact absurd (hfind.symm.trans hnone) nofun
  next i m' rest hsome =>
    obtain ⟨rfl, rfl, rfl⟩ : i = p ∧ m' = m ∧ rest = [] := by
      simpa only [Option.some.injEq, Prod.mk.injEq] using hsome.symm.trans hfind
    simp only [houts, hleft, if_true, hput, if_neg hp, Sys.setTad_setTad]

theorem Sys.queueNotice_room (h : (s.tad n).notices.length < 32) (urgent : Bool) (code payload : Nat) :
    s.queueNotice n urgent code payload = s.setTad n { s.tad n with notices := (s.tad n).notices ++
      [{ dst := 256 + s.lead.hub, src := n, type := 0x10, urgent := urgent, sub := code, payload := payload }] } := by
  unfold Sys.queueNotice
  dsimp only
  rw [if_neg (by omega)]

theorem Sys.queueNotice_mirror (urgent : Bool) (code payload : Nat) :
    ((s.queueNotice n urgent code payload).tile n).mirror = (s.tile n).mirror := by
  unfold Sys.queueNotice
  dsimp only
  split
  · split
    · rw [Sys.modTile, Sys.tile_setTile_same, Sys.tile_setTad]
    · rfl
  · rfl

/-- A tile's mirror as an arrived panel time leaves it (R296). -/
def Mirror.took (i : Mirror) (d : Int) : Mirror :=
  { i with slew := if 64 < d.natAbs then i.slew else d, lastCorr := d, syncs := (i.syncs + 1) % 65536, missed := 0, lost := false }

/-- A tile takes an arrived panel time: its mirror, its router's ports, and the notice of a large difference (R296). -/
theorem Sys.takeTime_tile (hn : n < 256) (time : Nat) :
    let d : Int := (time : Int) - (s.mirror n : Int)
    let u := s.takeTime n time
    (u.tile n).mirror = (s.tile n).mirror.took d ∧ (∀ i, (u.tad n).port i = (s.tad n).port i) ∧
    (64 < d.natAbs → (s.tad n).notices.length < 32 → ∃ x, (u.tad n).notices = (s.tad n).notices ++ [x] ∧ x.sub = 0x12) := by
  intro d u
  let s₁ := s.setTile n { s.tile n with mirror := (s.tile n).mirror.took d }
  have hu : u = if 64 < d.natAbs then s₁.noteAt n false ncTimeFault ukTile n 0 0 else s₁ := by
    unfold u Sys.takeTime
    rw [if_pos hn]
    simp only [decide_eq_true_eq]
    rfl
  have htad : s₁.tad n = s.tad n := rfl
  rw [hu]
  by_cases hbig : 64 < d.natAbs
  · rw [if_pos hbig, Sys.noteAt]
    obtain ⟨⟨l, f, hport⟩, -⟩ := Sys.queueNotice_tad (s := s₁) (n := n) n false ncTimeFault (noticeWord ukTile n 0 0)
    refine ⟨?_, fun i => by rw [hport]; rfl, fun _ hroom => ?_⟩
    · rw [Sys.queueNotice_mirror, Sys.tile_setTile_same]
    · rw [Sys.queueNotice_room (by rw [htad]; exact hroom), Sys.tad_setTad_same]
      exact ⟨_, rfl, rfl⟩
  · rw [if_neg hbig]
    exact ⟨by rw [Sys.tile_setTile_same], fun i => rfl, fun h => absurd h hbig⟩

end

section
variable {s : Sys} {n p o f fp : Nat} {m : TMsg} {res : Nat}

theorem foldl_syncOutputs_none (h : ∀ i, i < tadLocal n → bitOf m.outs i = false) : s.syncOutputs n m = [] := by
  refine List.filter_eq_nil_iff.mpr fun i hi => ?_
  rw [h i (List.mem_range.mp hi)]
  simp

/-- A SYNC for the tile itself is taken (R296). -/
theorem Sys.sync_taken (h : s.OnlySync n p m) (houts : m.outs = 2 ^ tadLocal n) :
    s.sync n res = (s.setTad n ((s.tad n).setPort p { (s.tad n).port p with urgentQ := [] })).takeTime n
      (m.payload + res + ((s.tad n).port p).delay / 4) := by
  have hbit : bitOf m.outs (tadLocal n) = true := by rw [houts, bitOf_two_pow]; simp
  have hnone : s.syncOutputs n m = [] := foldl_syncOutputs_none fun i hi => by
    rw [houts, bitOf_two_pow]
    exact decide_eq_false (by omega)
  rw [Sys.sync_only h (by rw [hnone, if_pos hbit, houts]; exact Nat.sub_self _), hnone, if_pos hbit]
  rfl

/-- A SYNC for one output that has room goes on by it with the delays added (R296). -/
theorem Sys.sync_forwarded (h : s.OnlySync n p m) (ho : o < tadLocal n) (houts : m.outs = 2 ^ o)
    (hlink : ((s.tad n).port o).link = 3) (hroom : s.tadRoom n o true = true) :
    s.sync n res = ((s.setTad n ((s.tad n).setPort p { (s.tad n).port p with urgentQ := [] })).tadNumber n o).tadTransmit n o
      { m with payload := m.payload + res + ((s.tad n).port p).delay / 4, outs := 0 } false := by
  have hbit : bitOf m.outs (tadLocal n) = false := by
    rw [houts, bitOf_two_pow]
    exact decide_eq_false (by omega)
  have hone : s.syncOutputs n m = [o] := by
    have hfilter : s.syncOutputs n m = (List.range (tadLocal n)).filter (fun i => decide (i = o)) := by
      refine List.filter_congr fun i _ => ?_
      rw [houts, bitOf_two_pow]
      by_cases hi : i = o
      · simp [hi, hlink, hroom]
      · simp [hi, Ne.symm hi]
    rw [hfilter, List.filter_eq, List.count_range, if_pos ho]
    rfl
  rw [Sys.sync_only h (by rw [hone, hbit, houts]; exact Nat.sub_self _), hone, hbit]
  rfl

/-- A message as the far end of a SYNC's link sees it is as legal as the one that came. -/
theorem TMsg.legal_sync (htype : m.type = 0x20) (time v : Nat) : ({ m with payload := time, outs := v } : TMsg).legal = m.legal := by
  simp [TMsg.legal, TMsg.bodyOk, htype]

theorem Sys.tadNumber_sameTads : Sys.SameTads
    (s.setTad n ((s.tad n).setPort o { (s.tad n).port o with sendSeq := (((s.tad n).port o).sendSeq + 1) % 256 })) (s.tadNumber n o) :=
  Sys.bumpTile_sameTads ..

/-- Numbering a transmission leaves every queue of every router. -/
theorem Sys.tadNumber_queue (i k : Nat) : (((s.tadNumber n o).tad k).port i).urgentQ = ((s.tad k).port i).urgentQ := by
  rw [Sys.tadNumber_sameTads.1]
  by_cases hk : k = n
  · subst hk
    rw [Sys.tad_setTad_same, TRouter.port_setPort]
    split
    next h => rw [h]
    next => rfl
  · rw [Sys.tad_setTad_other _ _ _ _ hk]

theorem Sys.tadNumber_other {k : Nat} (hk : k ≠ n) : (s.tadNumber n o).tad k = s.tad k :=
  (Sys.tadNumber_sameTads.1 k).trans (Sys.tad_setTad_other _ _ _ _ hk)

/-- The SYNC arrives at its neighbour. -/
theorem Sys.sync_arrives {v : Nat} (h : s.OnlySync n p m) (ho : o < tadLocal n) (houts : m.outs = 2 ^ o)
    (hlink : ((s.tad n).port o).link = 3) (hroom : s.tadRoom n o true = true) (hnb : tadNeighbour n o = some (f, fp))
    (hurgent : m.urgent = true) (hlegal : m.legal = true) (hmask : s.tadMask f fp m = v) (hv : v ≠ 0)
    (hlive : ∀ i, bitOf v i = true → ((s.tad f).port i).dead = false) :
    let u := s.sync n res
    ((u.tad n).port p).urgentQ = [] ∧ ((u.tad f).port fp).urgentQ = ((s.tad f).port fp).urgentQ ++
      [{ m with payload := m.payload + res + ((s.tad n).port p).delay / 4, outs := v }] := by
  obtain ⟨hfn, hfp, -⟩ := tadNeighbour_apart hnb
  let m' : TMsg := { m with payload := m.payload + res + ((s.tad n).port p).delay / 4, outs := 0 }
  let s₁ := s.setTad n ((s.tad n).setPort p { (s.tad n).port p with urgentQ := [] })
  have hfar : (s₁.tadNumber n o).tad f = s.tad f := (Sys.tadNumber_other hfn).trans (Sys.tad_setTad_other _ _ _ _ hfn)
  have hrep : (s₁.tadNumber n o).replicas = s.replicas := Sys.tadNumber_sameTads.2.2
  have hmask' : (s₁.tadNumber n o).tadMask f fp m' = v :=
    (Sys.tadMask_congr (a := s) hrep (by rw [hfar]) m').trans hmask
  obtain ⟨hto, hother⟩ := Sys.tadTransmit_good (s := s₁.tadNumber n o) hnb
    (show m'.legal = true from (TMsg.legal_sync h.type _ _).trans hlegal) hmask' hv (by rw [hfar]; exact hlive)
  have hq (r : TRouter) : r.queue f fp m'.urgent = (r.port fp).urgentQ := by
    rw [TRouter.queue, if_neg hfp, if_pos (show m'.urgent = true from hurgent)]
  rw [hq, hq, hfar] at hto
  intro u
  rw [show u = (s₁.tadNumber n o).tadTransmit n o m' false from Sys.sync_forwarded h ho houts hlink hroom]
  refine ⟨?_, hto⟩
  rw [hother n (Ne.symm hfn), Sys.tadNumber_queue, Sys.tad_setTad_same, TRouter.port_setPort_same]

/-- A link-delay request answered to the neighbour (R296). -/
theorem Sys.delayReq_answered {rest : List TMsg} (hq : ((s.tad n).port p).urgentQ = m :: rest) (htype : m.type = 0x20)
    (hsub : m.sub = 2) (hroom : s.tadRoom n p true = true) (hnb : tadNeighbour n p = some (f, fp)) :
    let u := s.delayReq n p
    ((u.tad n).port p).urgentQ = rest ∧ ((u.tad f).port fp).urgentQ = ((s.tad f).port fp).urgentQ ++
      [{ dst := f, src := n, type := 0x20, urgent := true, sub := 3, payload := m.payload }] := by
  obtain ⟨hfn, -, -⟩ := tadNeighbour_apart hnb
  intro u
  let s₁ := s.setTad n ((s.tad n).setPort p { (s.tad n).port p with urgentQ := rest })
  have hu : u = s₁.tadDirect n p { sub := 3, payload := m.payload } := by
    unfold u Sys.delayReq
    simp only [hq, htype, hsub, hroom, decide_true, Bool.and_self, if_true]
    rfl
  rw [hu, Sys.tadDirect]
  simp only [hnb]
  have hfar : (s₁.tadNumber n p).tad f = s.tad f := (Sys.tadNumber_other hfn).trans (Sys.tad_setTad_other _ _ _ _ hfn)
  constructor
  · rw [Sys.tad_setTad_other _ _ _ _ (Ne.symm hfn), Sys.tadArrived, Sys.tad_setTad_other _ _ _ _ (Ne.symm hfn),
      Sys.tadNumber_queue, Sys.tad_setTad_same, TRouter.port_setPort_same]
  · rw [Sys.tad_setTad_same, TRouter.port_setPort_same, Sys.tadArrived, Sys.tad_setTad_same, TRouter.port_setPort_same, hfar]

end

/-- Settles O40. -/
theorem panelTimeMirrors : Obligations.PanelTimeMirrors := by
  unfold Obligations.PanelTimeMirrors
  intro s n p hn hp a r q
  have hwf : isTad n = true ∧ isTadPort n p = true ∧ isRouter n = true := by
    simp [isTad, isTadPort, isRouter, hn, Nat.le_of_lt hp]; omega
  obtain ⟨hwtad, hwport, hwrouter⟩ := hwf
  have honly {m : TMsg} (hu : r.outUrgent = []) (hno : r.outNormal = []) (hj : ∀ j, j ≠ p → (r.port j).urgentQ = [])
      (hq : q.urgentQ = [m]) (htype : m.type = 0x20) (hsub : m.sub = 1) (houts : m.outs ≠ 0) : s.sys.OnlySync n p m :=
    ⟨hu, hno, hj, hq, hp, htype, hsub, houts⟩
  have hsync {res : Nat} (hres : res < 2 ^ 32) : exec (.sync n res) s = .next { s with sys := s.sys.sync n res } := by
    rw [exec_sync, show (Instr.sync n res).wf = true by simpa [Instr.wf, hwtad] using hres, State.act_true]
  refine ⟨?broadcast, fun m res hres hn hu hno hj hq htype hsub houts => ?take,
    fun m res o f fp v hres hu hno hj hq htype hsub hurgent hlegal ho houts hlink hroom hnb hmask hv hlive => ?forward,
    fun hn => ?missed, fun hn => ?slew, fun m rest f fp hq htype hsub hroom hnb => ?ask, fun m rest trip htrip hq htype hsub => ?kept⟩
  case broadcast =>
    rw [exec_syncBroadcast, show Instr.syncBroadcast.wf = true from rfl, State.act_true]
    rfl
  case take =>
    intro time d i
    refine ⟨_, hsync hres, ?_⟩
    have h := honly hu hno hj hq htype hsub (by rw [houts]; exact Nat.ne_of_gt (Nat.two_pow_pos _))
    rw [show (s.sys.sync n res) = _ from Sys.sync_taken h houts]
    obtain ⟨hmirror, hports, hnote⟩ := Sys.takeTime_tile
      (s := s.sys.setTad n ((s.sys.tad n).setPort p { (s.sys.tad n).port p with urgentQ := [] })) hn time
    refine ⟨?_, hmirror, fun hbig hroom => ?_⟩
    · rw [hports, Sys.tad_setTad_same, TRouter.port_setPort_same]
    · rw [Sys.tad_setTad_same] at hnote
      exact hnote hbig hroom
  case forward =>
    exact ⟨_, hsync hres, Sys.sync_arrives (honly hu hno hj hq htype hsub (by rw [houts]; exact Nat.ne_of_gt (Nat.two_pow_pos _)))
      ho houts hlink hroom hnb hurgent hlegal hmask hv hlive⟩
  case missed =>
    intro t u
    rw [exec_syncMissed, show (Instr.syncMissed n).wf = true by simp [Instr.wf, isTile, hn], State.act_true, Sys.syncMissed,
      if_pos hn]
    dsimp only
    by_cases hthree : t.mirror.missed + 1 = 3
    · rw [if_pos hthree, if_pos hthree]
      rfl
    · rw [if_neg hthree, if_neg hthree]
      rfl
  case slew =>
    intro t d
    rw [exec_mirrorSlew, show (Instr.mirrorSlew n).wf = true by simp [Instr.wf, hwrouter], State.act_true, Sys.mirrorSlew,
      if_pos hn]
    rfl
  case ask =>
    exact ⟨_, by rw [exec_delayReq, show (Instr.delayReq n p).wf = true by simp [Instr.wf, hwtad, hwport], State.act_true],
      Sys.delayReq_answered hq htype hsub hroom hnb⟩
  case kept =>
    have hq' : ((s.sys.tad n).port p).urgentQ = m :: rest := hq
    rw [exec_delayResp, show (Instr.delayResp n p trip).wf = true by simpa [Instr.wf, hwtad, hwport] using htrip, State.act_true,
      Sys.delayResp]
    simp only [hq', htype, hsub, decide_true, Bool.and_self, if_true]
    rfl

end Sys2Proof.Machine

/-! SUPPORT. Ingest and egress: a raw unit decoded, an item delivered, an RTP packet's bytes kept, an egress item written
to the host ring, and O41. -/

namespace Sys2Proof.Machine

@[simp] theorem Hub.ctx_setCtx_same (u : Hub) (n : Nat) (c : Context) : (u.setCtx n c).ctx n = c := NMap.get_put_same ..

section Decode
variable {s : Sys} {h n : Nat} {c c₁ : Context}

/-- The decoded unit of a raw context (R328). -/
def Context.rawUnit (c : Context) (n bytes len : Nat) (discont : Bool) : Unit1 :=
  { kind := 1, width := c.f 28 2, height := c.f 30 2, ctx := n, bytes := bytes, len := len
    state := if discont then 0 else c.decoder }

/-- A whole raw unit of a picture that is kept leaves that picture (R328, R332). -/
theorem Context.decode_raw {prof bytes len t : Nat} {discont : Bool} (hkind : c.kind = 1)
    (hlen : len = rawBytes (rawLayout n) (c.f 28 2) (c.f 30 2)) (hkeep : (c.pictures + 1) % max 1 (c.f 15 1) = 0) :
    let r := c.decode n prof bytes len false discont t
    r.1 = false ∧ r.2.pictures = c.pictures + 1 ∧ r.2.unitLen = c.unitLen ∧
      ∃ pic, r.2.waiting = c.waiting ++ [pic] ∧ pic.items = (c.rawUnit n bytes len discont).items prof ∧
        pic.poison = false ∧ pic.again = false := by
  have hf : ∀ d : Context, d.record = c.record → d.kind = 1 ∧ d.f 28 2 = c.f 28 2 ∧ d.f 30 2 = c.f 30 2 ∧ d.f 15 1 = c.f 15 1 := by
    intro d hd
    simp only [Context.kind, Context.f, hd, and_self, and_true]
    exact hkind
  intro r
  let d : Context := if discont then { c with decoder := 0, needKey := true, broken := false } else c
  have hd : d.record = c.record ∧ d.pictures = c.pictures ∧ d.unitLen = c.unitLen ∧ d.waiting = c.waiting ∧
      d.decoder = if discont then 0 else c.decoder := by
    cases discont <;> exact ⟨rfl, rfl, rfl, rfl, rfl⟩
  obtain ⟨hrecord, hpictures, hunit, hwaiting, hdecoder⟩ := hd
  obtain ⟨dkind, d28, d30, d15⟩ := hf d hrecord
  have hr : r = c.decode n prof bytes len false discont t := rfl
  unfold Context.decode at hr
  extract_lets k u key whole ok e reorder due pic at hr
  have hkey : key = true := by simp only [key, k, show d.kind = 1 from dkind]; rfl
  have hwhole : whole = true := by
    simp only [whole, k, show d.kind = 1 from dkind, if_true, Bool.not_false, Bool.true_and, decide_eq_true_eq]
    rw [show d.f 28 2 = _ from d28, show d.f 30 2 = _ from d30]
    exact hlen
  have hok : ok = true := by simp only [ok, hwhole, hkey]; rfl
  have hkeep' : ¬ e.pictures % max 1 (e.f 15 1) ≠ 0 := by
    rw [show e.pictures = d.pictures + 1 from rfl, hpictures, (hf e hrecord).2.2.2]
    exact not_not_intro hkeep
  have hpic : pic = some { items := u.items prof, due := due } := if_pos hok
  rw [hkey, hok, if_neg (by simp), if_neg hkeep', hpic] at hr
  rw [hr]
  refine ⟨rfl, congrArg (· + 1) hpictures, hunit, _, congrArg (· ++ _) hwaiting, ?_, rfl, rfl⟩
  have hunitEq : u = c.rawUnit n bytes len discont := by
    simp only [u, k, Context.rawUnit, show d.kind = 1 from dkind, show d.f 28 2 = _ from d28, show d.f 30 2 = _ from d30,
      show d.decoder = _ from hdecoder]
  exact congrArg (fun v => Unit1.items v prof) hunitEq

/-- A hub decodes the unit that it has gathered from the host ring (R326, R328). -/
theorem Sys.ingestDecode_raw (hc : (s.hub h).ctx n = c) (hopen : c.isOpen = true) (hin : c.egress = false)
    (hlive : (s.hub h).live = true) (hdma : (s.hub h).dma = true) (heth : c.ethernet = false) (hroom : c.waiting.length < 2)
    (hwhole : s.gather h c (2 ^ 16) = (true, c₁)) (hkind : c₁.kind = 1) (hgood : c₁.unitBad = false)
    (hlen : c₁.unitLen = rawBytes (rawLayout n) (c₁.f 28 2) (c₁.f 30 2)) (hkeep : (c₁.pictures + 1) % max 1 (c₁.f 15 1) = 0) :
    let u := s.ingestDecode h n
    ∃ pic, ((u.hub h).ctx n).waiting = c₁.waiting ++ [pic] ∧
      pic.items = (c₁.rawUnit n c₁.unit_ c₁.unitLen c₁.fresh).items (NMap.get 0 s.lead.profiles (c.f 1 1)) ∧
      pic.poison = false ∧ pic.again = false ∧ ((u.hub h).ctx n).pictures = c₁.pictures + 1 ∧ ((u.hub h).ctx n).unitLen = 0 := by
  let d : Context := { c₁ with unit_ := 0, unitLen := 0, unitBad := false, fresh := false }
  let r := d.decode n (NMap.get 0 s.lead.profiles (c.f 1 1)) c₁.unit_ c₁.unitLen false c₁.fresh (c₁.fedAt c₁.head)
  obtain ⟨hok, hpictures, hunit, pic, hwaiting, hitems, hpoison, hagain⟩ : _ := Context.decode_raw (c := d) (n := n)
    (prof := NMap.get 0 s.lead.profiles (c.f 1 1)) (bytes := c₁.unit_) (t := c₁.fedAt c₁.head) (discont := c₁.fresh) hkind hlen hkeep
  intro u
  have hu : u = s.setHub h ((s.hub h).setCtx n { r.2 with
      fed := r.2.fed.filter (fun f => decide (countDiff f.1 r.2.head < 2 ^ 31) && f.1 ≠ r.2.head) }) := by
    unfold u Sys.ingestDecode
    dsimp only
    rw [hc, if_neg (by simp [hopen, hin, hlive]), if_neg (by simp [heth]), if_neg (by simp [hdma]; omega), hwhole]
    dsimp only
    rw [if_neg (by simp), hgood, show (d.decode n (NMap.get 0 s.lead.profiles (c.f 1 1)) c₁.unit_ c₁.unitLen false c₁.fresh
      (c₁.fedAt c₁.head)).1 = false from hok, if_neg (by simp)]
  rw [hu, Sys.hub_setHub_same, Hub.ctx_setCtx_same]
  exact ⟨pic, hwaiting, hitems, hpoison, hagain, hpictures, hunit⟩

end Decode

section Delivery
variable {s : Sys} {h n : Nat}

/-- Packets handed to a router's local port one after the other. -/
theorem Sys.toLocal_foldl {α : Type} (f : α → Packet) (l : List α) (k : Nat) (s : Sys) :
    let u := l.foldl (fun (s : Sys) r => s.toLocal k (f r)) s
    ((u.router k).port (localPort k)).wire =
        ((s.router k).port (localPort k)).wire ++ l.map (fun r => { chan := (f r).vc, pkt := f r }) ∧
      u.hubs = s.hubs ∧ u.host = s.host := by
  induction l generalizing s with
  | nil => exact ⟨(List.append_nil _).symm, rfl, rfl⟩
  | cons r l ih =>
    obtain ⟨hwire, hhubs, hhost⟩ := ih (s.toLocal k (f r))
    refine ⟨?_, hhubs, hhost⟩
    rw [List.foldl_cons, hwire, Sys.toLocal]
    rw [Sys.router_setRouter_same, Router.port_setPort_same, List.append_assoc]
    rfl

/-- The packets of one item's transfer (R331). -/
def Context.itemPacket (c : Context) (h i rows : Nat) (poison : Bool) (r : Nat) : Packet :=
  { dst := c.f 4 2, src := 0x1200 + h, type := 1, vc := 2, long := true, baton := decide (r + 1 = c.slotRows), poison := poison
    tag := (c.f 54 2 + i) % 65536, window := c.f 6 1, gen := c.f 7 1
    offset := 512 * (bitsOf (c.f 8 4) 17 0 + i % max 1 c.slotCount * c.slotRows + r), total := 512 * c.slotRows
    payload := rowOf rows r }

/-- An item sent as one transfer, and not yet answered (R331). -/
theorem Sys.sendItem_state {c : Context} (hc : (s.hub h).ctx n = c) (i rows : Nat) (poison : Bool) :
    let u := s.sendItem h n i rows poison
    (u.hub h).ctx n = { c with unanswered := c.unanswered ++ [i] } ∧ u.host = s.host ∧
      ((u.router (256 + h)).port (localPort (256 + h))).wire = ((s.router (256 + h)).port (localPort (256 + h))).wire ++
        (List.range c.slotRows).map (fun r => { chan := 2, pkt := c.itemPacket h i rows poison r }) := by
  intro u
  let s₁ := s.setHub h ((s.hub h).setCtx n { c with unanswered := c.unanswered ++ [i] })
  have hu : u = (List.range c.slotRows).foldl (fun s r => s.toLocal (256 + h) (c.itemPacket h i rows poison r)) s₁ := by
    unfold u Sys.sendItem
    rw [hc]
    rfl
  obtain ⟨hwire, hhubs, hhost⟩ := Sys.toLocal_foldl (c.itemPacket h i rows poison) (List.range c.slotRows) (256 + h) s₁
  rw [hu]
  refine ⟨?_, hhost, hwire⟩
  rw [Sys.hub, hhubs]
  exact (congrArg (Hub.ctx · n) (Sys.hub_setHub_same ..)).trans (Hub.ctx_setCtx_same ..)

/-- An item of a waiting picture, not its last, goes out as one transfer and into the replay buffer (R331, R333). -/
theorem Sys.itemDelivery_next {c : Context} {pic : Picture} {rest : List Picture} (hc : (s.hub h).ctx n = c)
    (hopen : c.isOpen = true) (hin : c.egress = false) (hdma : (s.hub h).dma = true)
    (hroom : c.unanswered.length < c.slotCount) (hreplay : c.replayFrom = none) (hwait : c.waiting = pic :: rest)
    (hagain : pic.again = false) (hbuf : c.items < c.committed + c.f 48 4) (hmore : c.nextItem + 1 < pic.items.length) :
    let i := c.items
    let k := c.slotRows
    let rows := pic.items.getD c.nextItem 0
    let first := bitsOf (c.f 8 4) 17 0 + i % max 1 c.slotCount * k
    let u := s.itemDelivery h n
    ((u.hub h).ctx n).items = i + 1 ∧ ((u.hub h).ctx n).unanswered = c.unanswered ++ [i] ∧
      ((u.hub h).ctx n).nextItem = c.nextItem + 1 ∧
      Mem.readWide u.host (c.f 40 8 + 512 * k * (i % max 1 (c.f 48 4))) (512 * k) = rows % 2 ^ (4096 * k) ∧
      ((u.router (256 + h)).port (localPort (256 + h))).wire = ((s.router (256 + h)).port (localPort (256 + h))).wire ++
        (List.range k).map (fun r => { chan := 2, pkt :=
          { dst := c.f 4 2, src := 0x1200 + h, type := 1, vc := 2, long := true, baton := decide (r + 1 = k)
            poison := pic.poison, tag := (c.f 54 2 + i) % 65536, window := c.f 6 1, gen := c.f 7 1
            offset := 512 * (first + r), total := 512 * k, payload := rowOf rows r } }) := by
  intro i k rows first u
  let d : Context := { c with
    items := i + 1, poisoned := (c.poisoned.filter (fun j => decide (c.committed ≤ j))) ++ (if pic.poison then [i] else [])
    nextItem := c.nextItem + 1, waiting := c.waiting, replayFrom := none }
  have hlast : decide (c.nextItem + 1 ≥ pic.items.length) = false := decide_eq_false (by omega)
  let s₁ := (s.setHub h ((s.hub h).setCtx n d)).hostWrite (c.replayAddr i) (512 * k) rows
  have hu : u = s₁.sendItem h n i rows pic.poison := by
    unfold u Sys.itemDelivery
    dsimp only
    rw [hc, if_neg (by simp [hopen, hin, hdma]; omega), hreplay, hwait]
    dsimp only
    rw [if_neg (by omega), hagain]
    simp only [Bool.false_eq_true, if_false, hlast, Bool.false_and]
    rw [← hwait]
    rfl
  have hctx : (s₁.hub h).ctx n = d := by
    rw [show s₁.hub h = _ from Sys.hub_setHub_same .., Hub.ctx_setCtx_same]
  obtain ⟨hsent, hhost, hwire⟩ := Sys.sendItem_state hctx i rows pic.poison
  rw [hu, hsent, hhost, hwire]
  refine ⟨rfl, rfl, rfl, ?_, rfl⟩
  rw [show (2 : Nat) ^ (4096 * k) = 256 ^ (512 * k) by rw [show (256 : Nat) = 2 ^ 8 by rfl, ← Nat.pow_mul]; congr 1; omega]
  exact Mem.readWide_write_same ..

end Delivery

section Frames
variable {s : Sys} {h e p sub : Nat}

/-- An RTP packet in sequence, not the last of its unit: its bytes join the unit of the context that its rule names
(R435, R436). -/
theorem Sys.ethernetFrame_rtp {f len rule seq at_ size : Nat} {i : FrameInfo} (hlen : len ≤ 9216)
    (hrole : ((s.engine e).port p).role = 2) (hlink : ((s.engine e).port p).link = 2) (hmc : bitOf (byteOf f 0) 0 = true)
    (hbreak : ((s.engine e).port p).breakout = true → bitOf ((s.engine e).port p).lanes sub = true)
    (hparse : parseFrame f len = some i) (hsteer : s.steer e p sub i = some (h, rule)) :
    let n := bitsOf ((s.hub h).reg (0x78008 + 16 * rule)) 16 0
    let c := (s.hub h).ctx n
    c.isOpen = true → c.egress = false → c.ethernet = true → parseRtp f i = some (seq, false, at_, size) → 0 < size →
    NMap.find ((s.engine e).port p).rtp (1024 * h + rule) = some seq →
    ((s.ethernetFrame e p sub f len).hub h).ctx n = { c with
      unitLen := c.unitLen + size
      unit_ := c.unit_ + 2 ^ (8 * c.unitLen) * bitsOf f (8 * (at_ + size) - 1) (8 * at_) } := by
  intro n c hopen hin heth hrtp hsize hseq
  have hstays : ¬ (((s.engine e).port p).role ≠ 2 || ((s.engine e).port p).link ≠ 2 ||
      (((s.engine e).port p).breakout && !bitOf ((s.engine e).port p).lanes sub)) = true := by
    simp only [hrole, hlink, ne_eq, not_true_eq_false, decide_false, Bool.false_or, Bool.and_eq_true, Bool.not_eq_true', not_and,
      Bool.not_eq_false]
    exact hbreak
  unfold Sys.ethernetFrame
  dsimp only
  rw [if_neg hstays, if_neg (by simp [hmc]), if_neg (by omega), hparse]
  dsimp only
  rw [hsteer]
  dsimp only
  rw [if_neg (by simp [c, n, hopen, hin, heth]), hrtp]
  dsimp only
  rw [hseq, if_neg (by simp), if_neg (by simp), if_neg (by omega), Sys.modHub, Sys.hub_setHub_same, Hub.ctx_setCtx_same]

end Frames

section Egress
variable {s : Sys} {h n : Nat}

theorem Mem.readWide_none (m : Mem) (a : Nat) : Mem.readWide m a 0 = 0 := by
  have hspan : Mem.span m a 0 = [] := List.filter_eq_nil_iff.mpr fun c _ => by simp
  rw [Mem.readWide, hspan, Mem.valueFrom]

/-- An egress item written to the host ring behind its header, and its sender answered (R339, R340). -/
theorem Sys.egressItem_host {c : Context} {i : EgItem} (hc : (s.hub h).ctx n = c) (hopen : c.isOpen = true)
    (hout : c.egress = true) (hlive : (s.hub h).live = true) (hdma : (s.hub h).dma = true) (htarget : c.target = 0)
    (hfind : c.held.find? (fun i => c.mayWrite i.item) = some i) :
    let v := s.hub h
    let rows := v.itemRows c i.item
    let pay := c.payload (rows.map v.poolRow)
    let flags := bitNat (rows.any (fun r => v.poolPoison.contains r)) + 2 * bitNat pay.2.2 +
      4 * bitNat (decide (i.item < c.items)) + 2 ^ 15 * bitNat (phaseOf i.item c.outDepth)
    let a := c.f 24 8 + c.f 32 4 * (i.item % c.outDepth)
    let u := s.egressItem h n
    Mem.readWide u.host a 32 = slotHeader i.item pay.2.1 flags n (s.hubTimeAt h i.time) % 2 ^ 256 ∧
      Mem.readWide u.host (a + 32) pay.2.1 = pay.1 % 2 ^ (8 * pay.2.1) ∧
      ((u.hub h).ctx n).held = c.held.filter (fun x => x ≠ i) ∧
      ((u.router (256 + h)).port (localPort (256 + h))).wire =
        ((s.router (256 + h)).port (localPort (256 + h))).wire ++ [{ chan := i.reply.vc, pkt := i.reply }] := by
  intro v rows pay flags a u
  let s₁ := if pay.2.1 = 0 then s else s.hostWrite (a + 32) pay.2.1 pay.1
  have hs₁ : s₁.hubs = s.hubs ∧ s₁.mesh = s.mesh ∧ s₁.lead = s.lead := by
    unfold s₁
    split <;> exact ⟨rfl, rfl, rfl⟩
  obtain ⟨hhubs, hmesh, hlead⟩ := hs₁
  have hhead : s₁.hubTimeAt h i.time = s.hubTimeAt h i.time := by
    simp only [Sys.hubTimeAt, hlead, Sys.hub, hhubs]
  have hu : u = ((s₁.hostWrite a 32 (slotHeader i.item pay.2.1 flags n (s₁.hubTimeAt h i.time))).setHub h (v.setCtx n { c with
      items := max c.items (i.item + 1), head := max c.items (i.item + 1) % 2 ^ 32, held := c.held.filter (fun x => x ≠ i) })).toLocal
        (256 + h) i.reply := by
    unfold u Sys.egressItem
    dsimp only
    rw [hc, if_neg (by simp [hopen, hout, hlive]), if_neg (by simp [htarget]), hfind]
    dsimp only
    rw [if_pos hdma, Sys.egressHost]
    dsimp only
    rw [hc]
    rfl
  have hhost : u.host = Mem.write s₁.host a 32 (slotHeader i.item pay.2.1 flags n (s.hubTimeAt h i.time)) := by
    rw [hu, ← hhead]
    rfl
  have hctx : (u.hub h).ctx n = { c with
      items := max c.items (i.item + 1), head := max c.items (i.item + 1) % 2 ^ 32, held := c.held.filter (fun x => x ≠ i) } := by
    rw [hu]
    exact (congrArg (Hub.ctx · n) (Sys.hub_setHub_same ..)).trans (Hub.ctx_setCtx_same ..)
  have hpow (k : Nat) : (2 : Nat) ^ (8 * k) = 256 ^ k := by rw [show (256 : Nat) = 2 ^ 8 by rfl, ← Nat.pow_mul]
  rw [hhost, hctx]
  refine ⟨Mem.readWide_write_same .., ?_, rfl, ?_⟩
  · rw [Mem.readWide_write_other _ _ _ _ _ _ (Or.inr (Nat.le_refl _)), hpow]
    by_cases hz : pay.2.1 = 0
    · rw [hz]
      rw [Mem.readWide_none, Nat.pow_zero, Nat.mod_one]
    · rw [show s₁ = s.hostWrite (a + 32) pay.2.1 pay.1 from if_neg hz]
      exact Mem.readWide_write_same ..
  · rw [hu, Sys.toLocal]
    rw [Sys.router_setRouter_same, Router.port_setPort_same]
    simp only [Sys.router, Sys.setHub, Sys.hostWrite, hmesh]

end Egress

/-- Settles O41. -/
theorem ingestAndEgress : Obligations.IngestAndEgress := by
  unfold Obligations.IngestAndEgress
  intro s h n hh hn v c prof
  have hwf : isHub h = true ∧ isContext n = true := by simp [isHub, isContext, hh, hn]
  refine ⟨fun c₁ hopen hin hlive hdma heth hroom hwhole hkind hgood hlen hkeep => ?decode,
    fun pic rest hopen hin hdma hroom hreplay hwait hagain hbuf hmore => ?deliver,
    fun e p sub f len i rule seq at_ size he hp hsub hlen hrole hlink hmc hbreak hparse hsteer hctx hopen hin heth hrtp hsize hseq =>
      ?rtp,
    fun i hopen hout hlive hdma htarget hfind => ?egress⟩
  case decode =>
    intro unit
    obtain ⟨pic, hwaiting, hitems, hpoison, hagain, hpictures, hunit⟩ :=
      Sys.ingestDecode_raw rfl hopen hin hlive hdma heth hroom hwhole hkind hgood hlen hkeep
    exact ⟨_, pic, by rw [exec_ingestDecode, show (Instr.ingestDecode h n).wf = true by simp [Instr.wf, hwf], State.act_true],
      hwaiting, hitems, hpoison, hagain, hpictures, hunit⟩
  case deliver =>
    intro i k rows first
    exact ⟨_, by rw [exec_itemDelivery, show (Instr.itemDelivery h n).wf = true by simp [Instr.wf, hwf], State.act_true],
      Sys.itemDelivery_next rfl hopen hin hdma hroom hreplay hwait hagain hbuf hmore⟩
  case rtp =>
    have hwf' : (Instr.ethernetFrame e p sub f len).wf = true := by
      simp [Instr.wf, isEngine, he, hp, hsub]; omega
    refine ⟨_, by rw [exec_ethernetFrame, hwf', State.act_true], ?_⟩
    have hframe := Sys.ethernetFrame_rtp (s := s.sys) (seq := seq) (at_ := at_) (size := size) hlen hrole hlink hmc hbreak hparse hsteer
    rw [show bitsOf ((s.sys.hub h).reg (0x78008 + 16 * rule)) 16 0 = n from hctx] at hframe
    exact hframe hopen hin heth hrtp hsize hseq
  case egress =>
    intro rows pay flags a
    exact ⟨_, by rw [exec_egressItem, show (Instr.egressItem h n).wf = true by simp [Instr.wf, hwf], State.act_true],
      Sys.egressItem_host rfl hopen hout hlive hdma htarget hfind⟩

end Sys2Proof.Machine

/-! SUPPORT. A hub's host side: doorbells and pair control, and O42. -/

namespace Sys2Proof.Machine

@[simp] theorem Hub.qp_setQP_same (u : Hub) (q : Nat) (p : QP) : (u.setQP q p).qp q = p := NMap.get_put_same ..
@[simp] theorem Hub.setQP_setQP (u : Hub) (q : Nat) (p p' : QP) : (u.setQP q p).setQP q p' = u.setQP q p' := by simp [Hub.setQP]

@[simp] theorem Sys.qp_setQP_same (s : Sys) (h q : Nat) (p : QP) : (s.setQP h q p).qp h q = p := by
  simp [Sys.qp, Sys.setQP, Sys.modHub]

@[simp] theorem Sys.setQP_setQP (s : Sys) (h q : Nat) (p p' : QP) : (s.setQP h q p).setQP h q p' = s.setQP h q p' := by
  simp [Sys.setQP, Sys.modHub]

/-- Pairs, contexts and the binding of a hub stay through what the log and the messages change. -/
theorem Sys.SameButLog.qp {a b : Sys} (hab : Sys.SameButLog a b) (h q : Nat) : b.qp h q = a.qp h q := by
  obtain ⟨r, m, hr⟩ := hab.2 h
  rw [Sys.qp, Sys.qp, hr]
  rfl

section Host
variable {s : Sys} {h q v : Nat}

/-- What the host puts into its memory leaves the hubs. -/
theorem Sys.hostSets_hub (s : Sys) (mem : List (Nat × Nat × Nat)) (bad : List (Nat × Nat)) (h : Nat) :
    (s.hostSets mem bad).hub h = s.hub h := by
  unfold Sys.hostSets
  exact List.foldlRecOn mem _ (motive := fun b : Sys => b.hub h = s.hub h) rfl fun b hb m _ => hb

/-- A 4-byte host write to a hub that the host reaches (R346). -/
theorem Sys.hostWord_write {bar off : Nat} (hmem : (s.hub h).memSpace = true) (hlink : (s.hub h).linkRate ≠ 0) (hbar : bar ≠ 4)
    (hoff : off % 4 = 0) : s.hostWord h bar off v = s.barWrite h bar off v := by
  unfold Sys.hostWord Sys.barAccess
  dsimp only
  rw [if_neg (by simp [hmem, hlink]), if_neg hbar, if_neg (by simp [hoff])]
  rfl

theorem Sys.qpError_qp (cause : Nat) : (s.qpError h q cause).qp h q = { s.qp h q with state := 3, cause := cause, replies := [] } := by
  unfold Sys.qpError
  dsimp only
  rw [(Sys.event_sameButLog h 3).qp, Sys.qp_setQP_same]

variable (hmem : (s.hub h).memSpace = true) (hlink : (s.hub h).linkRate ≠ 0) (hq : q < 2048) (hv : v < 2 ^ 32)
include hmem hlink hq hv

theorem Sys.hostWord_sqTail : s.hostWord h 2 (8 * q) v = s.sqTail h q v := by
  rw [Sys.hostWord_write hmem hlink (by decide) (by omega), Sys.barWrite, if_neg (by decide), if_pos (by omega),
    if_pos (by omega), Nat.mul_div_cancel_left _ (by decide), Nat.mod_eq_of_lt hv]

theorem Sys.hostWord_cqHead : s.hostWord h 2 (8 * q + 4) v = s.cqHead h q v := by
  rw [Sys.hostWord_write hmem hlink (by decide) (by omega), Sys.barWrite, if_neg (by decide), if_pos (by omega),
    if_neg (by omega), show (8 * q + 4) / 8 = q by omega, Nat.mod_eq_of_lt hv]

omit hq in
theorem Sys.hostWord_freed {n : Nat} (hn : n < 131072) : s.hostWord h 2 (0x100000 + 8 * n + 4) v = s.streamFreed h n v := by
  rw [Sys.hostWord_write hmem hlink (by decide) (by omega), Sys.barWrite, if_neg (by decide), if_neg (by omega),
    if_pos (by simp; omega), show (0x100000 + 8 * n + 4 - 0x100000) / 8 = n by omega, Nat.mod_eq_of_lt hv]

omit hv in
/-- A write to QP_CTRL of a ready hub (R352, R354). -/
theorem Sys.hostWord_qpCtrl (hready : (s.hub h).ready = true) {w : Nat} (hw : w < 4) :
    s.hostWord h 0 (0x10000 + 0x40 * q + 0x1C) w = if w = 1 then s.qpEnable h q else if w = 2 then s.qpDisable h q else s := by
  rw [Sys.hostWord_write hmem hlink (by decide) (by omega), Sys.barWrite, if_pos rfl, Nat.mod_eq_of_lt (by omega), Sys.hubRegWrite]
  rw [if_neg (by omega), if_neg (by omega), if_neg (by omega), if_neg (by omega), if_neg (by omega), if_pos (by simp; omega),
    Sys.qpWrite]
  rw [if_neg (by simp [hready]), if_pos (by omega), show (0x10000 + 0x40 * q + 0x1C - 0x10000) / 0x40 = q by omega,
    Nat.mod_eq_of_lt hw]

omit hq in
theorem Sys.hostWord_bindHi : s.hostWord h 0 0x4C v = s.bindHi h v := by
  rw [Sys.hostWord_write hmem hlink (by decide) (by decide), Sys.barWrite, if_pos rfl, Nat.mod_eq_of_lt hv, Sys.hubRegWrite]
  rw [if_neg (by decide), if_pos rfl, Nat.mod_eq_of_lt hv]

end Host

section Pairs
variable {s : Sys} {h q v : Nat}

theorem Sys.sqTail_within (hstate : (s.qp h q).state = 1) (hready : (s.hub h).ready = true)
    (hfits : countDiff v (s.qp h q).sqHead ≤ (s.hub h).sqDepth q) :
    s.sqTail h q v = s.setQP h q { s.qp h q with sqTail := v } := by
  have hs : ((s.hub h).qp q).state = 1 := hstate
  unfold Sys.sqTail
  dsimp only
  rw [if_neg (by simp [hs, hready]), if_neg (by exact Nat.not_lt.mpr hfits)]
  rfl

theorem Sys.sqTail_overrun (hstate : (s.qp h q).state = 1) (hready : (s.hub h).ready = true)
    (hover : (s.hub h).sqDepth q < countDiff v (s.qp h q).sqHead) : s.sqTail h q v = s.qpError h q 3 := by
  have hs : ((s.hub h).qp q).state = 1 := hstate
  unfold Sys.sqTail
  dsimp only
  rw [if_neg (by simp [hs, hready]), if_pos (by exact hover)]

theorem Sys.cqHead_within (hstate : (s.qp h q).state = 1 ∨ (s.qp h q).state = 2) (hready : (s.hub h).ready = true)
    (hfits : countDiff (s.qp h q).cqTail v ≤ (s.hub h).cqDepth q) :
    s.cqHead h q v = s.setQP h q { s.qp h q with cqHead := v } := by
  have hs : ((s.hub h).qp q).state = 1 ∨ ((s.hub h).qp q).state = 2 := hstate
  unfold Sys.cqHead
  dsimp only
  rw [if_neg (by rcases hs with hs | hs <;> simp [hs, hready]), if_neg (by exact Nat.not_lt.mpr hfits)]
  rfl

theorem Sys.cqHead_overrun (hstate : (s.qp h q).state = 1 ∨ (s.qp h q).state = 2) (hready : (s.hub h).ready = true)
    (hover : (s.hub h).cqDepth q < countDiff (s.qp h q).cqTail v) : s.cqHead h q v = s.qpError h q 4 := by
  have hs : ((s.hub h).qp q).state = 1 ∨ ((s.hub h).qp q).state = 2 := hstate
  unfold Sys.cqHead
  dsimp only
  rw [if_neg (by rcases hs with hs | hs <;> simp [hs, hready]), if_pos (by exact hover)]

/-- BOUND set or cleared changes nothing of a hub but that bit and what its event writes. -/
theorem Sys.setBound_hub (b : Bool) : ∃ r m, (s.setBound h b).hub h = { s.hub h with bound := b, regs := r, msix := m } := by
  unfold Sys.setBound
  split
  next hsame =>
    subst hsame
    exact ⟨_, _, rfl⟩
  next =>
    obtain ⟨r, m, hr⟩ := (Sys.event_sameButLog (s := s.modHub h fun u => { u with bound := b }) h 0).2 h
    exact ⟨r, m, by rw [hr, Sys.modHub, Sys.hub_setHub_same]⟩

/-- The first binding value of the lead hub is taken (R347). -/
theorem Sys.bindHi_lead (hlead : h = s.lead.hub) (hnone : (s.hub h).bind = none) :
    ∃ r m, (s.bindHi h v).hub h =
      { s.hub h with bindLo := 0, bind := some ((s.hub h).bindLo + 2 ^ 32 * v), bound := true, regs := r, msix := m } := by
  obtain ⟨r, m, hr⟩ := Sys.setBound_hub (s := s.setHub h { s.hub h with
    bindLo := 0, bind := some ((s.hub h).bindLo + 2 ^ 32 * v) }) (h := h) true
  rw [Sys.hub_setHub_same] at hr
  refine ⟨r, m, Eq.trans ?_ hr⟩
  unfold Sys.bindHi
  dsimp only
  rw [if_pos (by exact hlead), hnone]

/-- A binding value of the other hub that is not the lead hub's disables its pairs (R348). -/
theorem Sys.bindHi_other (hlead : h ≠ s.lead.hub) (hdiff : (s.hub s.lead.hub).bind ≠ some ((s.hub h).bindLo + 2 ^ 32 * v)) :
    ((s.bindHi h v).hub h).bound = false ∧ ((s.bindHi h v).hub h).qps = (s.hub h).qps.map (fun e => (e.1, e.2.disable 1)) := by
  let s₁ := s.setHub h { s.hub h with bindLo := 0, bind := some ((s.hub h).bindLo + 2 ^ 32 * v) }
  let s₂ := s₁.modHub h (fun u => { u with qps := u.qps.map (fun e => (e.1, e.2.disable 1)) })
  have hu : s.bindHi h v = (s₂.setBound h false).log 0x0004 2 0 0 0 0 := by
    unfold Sys.bindHi
    dsimp only
    rw [if_neg (by exact hlead), if_neg]
    simp only [Sys.setHub_lead, Sys.hub_setHub_other _ _ _ _ (Ne.symm hlead), Bool.and_eq_true, decide_eq_true_eq, not_and]
    exact fun _ => hdiff
  obtain ⟨r, m, hr⟩ := (Sys.log_sameButLog (s := s₂.setBound h false) 0x0004 2 0 0 0 0).2 h
  obtain ⟨r', m', hr'⟩ := Sys.setBound_hub (s := s₂) (h := h) false
  rw [hu, hr, hr']
  refine ⟨rfl, ?_⟩
  rw [show s₂.hub h = _ from Sys.hub_setHub_same .., show s₁.hub h = _ from Sys.hub_setHub_same ..]

end Pairs

/-- Settles O42. -/
theorem doorbellsAndPairControl : Obligations.DoorbellsAndPairControl := by
  unfold Obligations.DoorbellsAndPairControl
  intro s h q v hh hq hv u p hmem hlink hready
  have hwf : isHub h = true ∧ isPair q = true := by simp [isHub, isPair, hh, hq]
  refine ⟨fun mem bad hstate => ?tail, fun hstate => ?head, fun hstate => ?enable, fun hstate => ?disable,
    fun hlead hnone hunbound => ?bind, fun hlead hdiff => ?differ, fun n hn hopen hout hfits => ?freed⟩
  case tail =>
    intro y
    have hhub : y.sys.hub h = s.sys.hub h := Sys.hostSets_hub s.sys mem bad h
    have hqp : y.sys.qp h q = p := congrArg (Hub.qp · q) hhub
    have hexec : exec (.hubSqTail h q v mem bad) s = .next { s with sys := y.sys.sqTail h q v } := by
      rw [exec_hubSqTail, show (Instr.hubSqTail h q v mem bad).wf = true by simpa [Instr.wf, hwf] using hv, State.act_true,
        ← Sys.hostWord_sqTail (s := y.sys) (by rw [hhub]; exact hmem) (by rw [hhub]; exact hlink) hq hv]
    rw [hexec]
    refine ⟨fun hfits => ?_, fun hover => ⟨_, rfl, ?_⟩⟩
    · rw [Sys.sqTail_within (by rw [hqp]; exact hstate) (by rw [hhub]; exact hready) (by rw [hqp, hhub]; exact hfits), hqp,
        Sys.setQP, Sys.modHub, hhub]
      rfl
    · rw [Sys.sqTail_overrun (by rw [hqp]; exact hstate) (by rw [hhub]; exact hready) (by rw [hqp, hhub]; exact hover),
        Sys.qpError_qp]
      exact ⟨rfl, rfl, rfl⟩
  case head =>
    have hexec : exec (.hubCqHead h q v) s = .next { s with sys := s.sys.cqHead h q v } := by
      rw [exec_hubCqHead, show (Instr.hubCqHead h q v).wf = true by simpa [Instr.wf, hwf] using hv, State.act_true,
        Sys.hostWord_cqHead hmem hlink hq hv]
    rw [hexec]
    refine ⟨fun hfits => ?_, fun hover => ⟨_, rfl, ?_⟩⟩
    · rw [Sys.cqHead_within hstate hready hfits]
      rfl
    · rw [Sys.cqHead_overrun hstate hready hover, Sys.qpError_qp]
      exact ⟨rfl, rfl⟩
  case enable =>
    intro sl cl hsl hsl' hcl hcl' hsq hcq hbound howner
    rw [exec_hubQpCtrlEnable, show (Instr.hubQpCtrlEnable h q).wf = true by simp [Instr.wf, hwf], State.act_true,
      Sys.hostWord_qpCtrl hmem hlink hq hready (by decide), if_pos rfl, Sys.qpEnable]
    have hstate' : ((s.sys.hub h).qp q).state = 0 := hstate
    have hready' : (s.sys.hub h).ready = true := hready
    rw [if_neg (by simp [hready', hstate']), if_pos]
    · rfl
    · simp only [Bool.and_eq_true, Bool.or_eq_true, decide_eq_true_eq]
      exact ⟨⟨⟨⟨⟨⟨⟨hsl, hsl'⟩, hcl⟩, hcl'⟩, hsq⟩, hcq⟩, hbound⟩, howner⟩
  case disable =>
    have hexec : exec (.hubQpCtrlDisable h q) s = .next (s.withHub h (u.setQP q (p.disable 1))) := by
      rw [exec_hubQpCtrlDisable, show (Instr.hubQpCtrlDisable h q).wf = true by simp [Instr.wf, hwf], State.act_true,
        Sys.hostWord_qpCtrl hmem hlink hq hready (by decide), if_neg (by decide), if_pos rfl, Sys.qpDisable, if_pos hready]
      rfl
    have hdis : p.disable 1 = ({ p with state := 2, drainCause := 1 } : QP).settle :=
      if_pos (by simpa using hstate)
    rw [hexec, hdis]
    refine ⟨fun hreplies => ?_, fun hreplies hcmds => ?_⟩
    · rw [QP.settle, if_neg (by simp [hreplies])]
    · rw [QP.settle, if_pos (by simp [hreplies, hcmds])]
      simp only [hcmds]
  case bind =>
    obtain ⟨r, m, hr⟩ := Sys.bindHi_lead (v := v) hlead hnone
    refine ⟨_, by rw [exec_hubHostBindHi, show (Instr.hubHostBindHi h v).wf = true by simpa [Instr.wf, hwf] using hv,
      State.act_true, Sys.hostWord_bindHi hmem hlink hv], ?_⟩
    rw [hr]
    exact ⟨rfl, rfl, rfl⟩
  case differ =>
    exact ⟨_, by rw [exec_hubHostBindHi, show (Instr.hubHostBindHi h v).wf = true by simpa [Instr.wf, hwf] using hv,
      State.act_true, Sys.hostWord_bindHi hmem hlink hv], Sys.bindHi_other hlead hdiff⟩
  case freed =>
    rw [exec_hubStreamFreed, show (Instr.hubStreamFreed h n v).wf = true by simpa [Instr.wf, hwf, isContext, hn] using hv,
      State.act_true, Sys.hostWord_freed hmem hlink hv hn, Sys.streamFreed]
    dsimp only
    rw [if_neg (by simp [show ((s.sys.hub h).ctx n).isOpen = true from hopen, show ((s.sys.hub h).ctx n).egress = true from hout]),
      if_neg (Nat.not_lt.mpr hfits), Nat.mod_eq_of_lt hv]
    rfl

end Sys2Proof.Machine

/-! SUPPORT. A hub's commands fetched, its replies written, its messages sent, and O43. -/

namespace Sys2Proof.Machine

section
variable {s : Sys} {h q v : Nat}

/-- An unmasked vector of a hub that may use its link sends its message (R360). -/
theorem Sys.msix_sent (hall : (s.hub h).maskAll = false) (hone : (NMap.get {} (s.hub h).msix v).masked = false)
    (hbus : (s.hub h).busMaster = true) : s.msix h v = { s with irqs := s.irqs ++ [(h, v)] } := by
  unfold Sys.msix
  dsimp only
  rw [if_neg (by simp [hall, hone]), if_pos hbus]

/-- The only pair with work is the one fetched for (R357). -/
theorem Hub.fetchPair_only {u : Hub} {p : QP} (hqps : u.qps = [(q, p)]) (hmay : u.mayFetch q = true) : u.fetchPair = some q := by
  unfold Hub.fetchPair
  simp only [hqps, NMap.keys, List.map_cons, List.map_nil, List.filter_cons, hmay, if_true, List.filter_nil, List.find?_cons,
    List.find?_nil, List.head?_cons]
  split
  next hsome =>
    split at hsome
    · exact hsome.symm
    · exact absurd hsome nofun
  next => rfl

/-- The hub fetches a command of a defined opcode (R357, R365). -/
theorem Sys.commandFetch_defined {raw : Nat} (hdma : (s.hub h).dma = true) (hready : (s.hub h).ready = true)
    (hpair : (s.hub h).fetchPair = some q)
    (hread : s.hostRead ((s.hub h).sqBase q + 64 * (((s.hub h).qp q).sqHead % (s.hub h).sqDepth q)) 64 = some raw)
    (hop : opcodeDefined (raw % 256) = true) :
    let p := (s.hub h).qp q
    s.commandFetch h = s.setHub h { (s.hub h).setQP q { p with
      sqHead := (p.sqHead + 1) % 2 ^ 32, nextNum := p.nextNum + 1
      cmds := p.cmds ++ [{ raw := raw, num := p.nextNum, fetched := s.now }] } with fetchRR := q } := by
  intro p
  have hop' : opcodeDefined (Cmd.op { raw := raw, num := p.nextNum, fetched := s.now }) = true := by
    rw [← hop]
    simp [Cmd.op, cmdF, bitsOf]
  unfold Sys.commandFetch
  dsimp only
  rw [if_neg (by simp [hdma, hready]), hpair]
  dsimp only
  rw [hread]
  dsimp only
  rw [if_pos hop']

theorem Sys.hostWrite_now (a n v : Nat) : (s.hostWrite a n v).now = s.now := rfl

theorem QP.settle_enabled {p : QP} (hp : p.state = 1) : p.settle = p := if_neg (by simp [hp])

/-- A pair as the hub leaves it once its oldest reply is written (R351, R360). -/
def QP.wrote (p : QP) (rest : List Reply) (irq : Bool) (now : Nat) : QP :=
  { p with
    replies := rest, cqTail := (p.cqTail + 1) % 2 ^ 32, unsignalled := if irq then p.unsignalled + 1 else 0
    firstAt := if p.unsignalled = 0 then now else p.firstAt }

/-- The oldest reply is the one that a pair with a place for it writes next (R357). -/
theorem Hub.nextReply_oldest {u : Hub} {r : Reply} {rest : List Reply} (hreplies : (u.qp q).replies = r :: rest)
    (hroom : countDiff (u.qp q).cqTail (u.qp q).cqHead + (if r.later then (u.qp q).reserved else 0) < u.cqDepth q) :
    u.nextReply q = some r := by
  unfold Hub.nextReply
  dsimp only
  rw [hreplies, List.find?_cons_of_pos]
  by_cases hl : r.later = true
  · rw [if_pos hl] at hroom ⊢
    exact decide_eq_true hroom
  · rw [if_neg hl, Nat.add_zero] at hroom
    rw [if_neg hl]
    exact decide_eq_true hroom

/-- The oldest reply of an enabled pair written where it has a place (R351, R358, R360, R367). -/
theorem Sys.replyWrite_oldest {r : Reply} {rest : List Reply} (hreplies : (s.qp h q).replies = r :: rest)
    (hstate : (s.qp h q).state = 1) (hdma : (s.hub h).dma = true)
    (hroom : countDiff (s.qp h q).cqTail (s.qp h q).cqHead + (if r.later then (s.qp h q).reserved else 0) < (s.hub h).cqDepth q) :
    let u := s.hub h
    let p := s.qp h q
    let p' := p.wrote rest (u.qpIrq q) s.now
    let b := r.bytes (phaseOf p.cqTail (u.cqDepth q)) (2048 * h + q) (s.hubTime h)
    let t := (s.hostWrite (u.cqBase q + 32 * (p.cqTail % u.cqDepth q)) 32 b).setQP h q p'
    let t' := if u.qpIrq q && (r.irq || decide (u.aggUs q = 0) || decide (p'.unsignalled ≥ u.aggCount q)) then t.raiseCQ h q else t
    s.replyWrite h q = t'.setQP h q (t'.qp h q).settle := by
  intro u p p' b t t'
  have hnext : u.nextReply q = some r := Hub.nextReply_oldest hreplies hroom
  have hrest : (u.qp q).replies.erase r = rest := by
    rw [show (u.qp q).replies = r :: rest from hreplies, List.erase_cons_head]
  unfold Sys.replyWrite
  dsimp only
  rw [show (s.hub h).nextReply q = some r from hnext]
  dsimp only
  rw [if_neg (by simp [show ((s.hub h).qp q).state = 1 from hstate, hdma]), hrest]
  simp only [t', t, b, p', p, u, QP.wrote, Sys.qp, Sys.hostWrite_now]

theorem Sys.raiseCQ_state (s : Sys) (h q : Nat) :
    Sys.SameButLog (s.setQP h q { s.qp h q with unsignalled := 0 }) (s.raiseCQ h q) := Sys.msix_sameButLog ..

/-- The pair, its reply in host memory and the interrupts sent, once the oldest reply is written. -/
theorem Sys.replyWrite_state {r : Reply} {rest : List Reply} (hreplies : (s.qp h q).replies = r :: rest)
    (hstate : (s.qp h q).state = 1) (hdma : (s.hub h).dma = true)
    (hroom : countDiff (s.qp h q).cqTail (s.qp h q).cqHead + (if r.later then (s.qp h q).reserved else 0) < (s.hub h).cqDepth q) :
    let u := s.hub h
    let p := s.qp h q
    let z := s.replyWrite h q
    (∃ n, z.qp h q = { p.wrote rest (u.qpIrq q) s.now with unsignalled := n }) ∧
      z.host = Mem.write s.host (u.cqBase q + 32 * (p.cqTail % u.cqDepth q)) 32
        (r.bytes (phaseOf p.cqTail (u.cqDepth q)) (2048 * h + q) (s.hubTime h)) ∧
      z.boot = s.boot ∧ (u.qpIrq q = false → z.irqs = s.irqs) ∧
      (u.qpIrq q = true → r.irq = true → u.maskAll = false → (NMap.get {} u.msix (u.qpVector q)).masked = false →
        z.irqs = s.irqs ++ [(h, u.qpVector q)] ∧ (z.qp h q).unsignalled = 0) := by
  intro u p z
  have hz := Sys.replyWrite_oldest hreplies hstate hdma hroom
  extract_lets p' b t t' at hz
  have ht : t.qp h q = p' := Sys.qp_setQP_same ..
  have hhub : t.hub h = u.setQP q p' := Sys.hub_setHub_same ..
  by_cases hraise : (u.qpIrq q && (r.irq || decide (u.aggUs q = 0) || decide (p'.unsignalled ≥ u.aggCount q))) = true
  · have ht' : t' = t.raiseCQ h q := if_pos hraise
    have hsame := Sys.raiseCQ_state t h q
    have hqp : t'.qp h q = { p' with unsignalled := 0 } := by rw [ht', hsame.qp, Sys.qp_setQP_same, ht]
    have hz' : z = t'.setQP h q { p' with unsignalled := 0 } := by
      rw [← QP.settle_enabled (p := { p' with unsignalled := 0 }) hstate, ← hqp]
      exact hz
    obtain ⟨hirq, -⟩ := Bool.and_eq_true_iff.mp hraise
    refine ⟨⟨0, by rw [hz', Sys.qp_setQP_same]⟩, ?_, ?_, fun hno => absurd hirq (by rw [hno]; decide), fun _ _ hall hone => ⟨?_, ?_⟩⟩
    · rw [hz', show (t'.setQP h q _).host = t'.host from rfl, ht', hsame.1]
      rfl
    · rw [hz', show (t'.setQP h q _).boot = t'.boot from rfl, ht', hsame.1]
      rfl
    · have hsent : t.raiseCQ h q = { t.setQP h q { t.qp h q with unsignalled := 0 } with irqs := t.irqs ++ [(h, u.qpVector q)] } := by
        unfold Sys.raiseCQ
        dsimp only
        have hafter : (t.setQP h q { t.qp h q with unsignalled := 0 }).hub h = (t.hub h).setQP q { t.qp h q with unsignalled := 0 } :=
          Sys.hub_setHub_same ..
        rw [Sys.msix_sent (by rw [hafter, hhub]; exact hall) (by rw [hafter, hhub]; exact hone)
          (by rw [hafter, hhub]; exact (Bool.and_eq_true_iff.mp hdma).2), hhub]
        rfl
      rw [hz', show (t'.setQP h q _).irqs = t'.irqs from rfl, ht', hsent]
      rfl
    · rw [hz', Sys.qp_setQP_same]
  · have ht' : t' = t := if_neg hraise
    have hz' : z = t.setQP h q p' := by
      rw [← QP.settle_enabled (p := p') hstate, ← ht, ← ht']
      exact hz
    refine ⟨⟨p'.unsignalled, by rw [hz', Sys.qp_setQP_same]⟩, by rw [hz']; rfl, by rw [hz']; rfl, fun _ => by rw [hz']; rfl,
      fun hyes hr _ _ => absurd ?_ hraise⟩
    simp [hyes, hr]

end

/-- Settles O43. -/
theorem fetchReplyInterrupt : Obligations.FetchReplyInterrupt := by
  unfold Obligations.FetchReplyInterrupt
  intro s h q hh hq u p
  have hwf : isHub h = true ∧ isPair q = true := by simp [isHub, isPair, hh, hq]
  refine ⟨fun raw hdma hready hqps hmay hread hop => ?fetch, fun r rest hreplies hstate hdma hroom hboot => ?reply,
    fun hirq hun hlate hall hone hbus => ?coalesce, fun v hv => ?unmask⟩
  case fetch =>
    rw [exec_commandFetch, show (Instr.commandFetch h).wf = true by simp [Instr.wf, hwf], State.act_true,
      Sys.commandFetch_defined hdma hready (Hub.fetchPair_only hqps hmay) hread hop]
    rfl
  case reply =>
    obtain ⟨⟨n, hqp⟩, hhost, hboot', hsilent, hraised⟩ := Sys.replyWrite_state (s := s.sys) hreplies hstate hdma hroom
    have hrow : s.sys.replyRow h q = s.sys.replyWrite h q := by
      unfold Sys.replyRow
      dsimp only
      rw [if_neg]
      rw [hboot', hboot]
      simp
    refine ⟨_, by rw [exec_replyWrite, show (Instr.replyWrite h q).wf = true by simp [Instr.wf, hwf], State.act_true, hrow], ?_⟩
    refine ⟨by rw [hqp]; rfl, by rw [hqp]; rfl, by rw [hqp]; exact hstate, ?_, hsilent, hraised⟩
    rw [hhost]
    exact Mem.readWide_write_same ..
  case coalesce =>
    rw [exec_coalesceTimeout, show (Instr.coalesceTimeout h q).wf = true by simp [Instr.wf, hwf], State.act_true,
      Sys.coalesceTimeout]
    have hafter : (s.sys.setQP h q { s.sys.qp h q with unsignalled := 0 }).hub h = u.setQP q { p with unsignalled := 0 } :=
      Sys.hub_setHub_same ..
    rw [if_pos, Sys.raiseCQ]
    · dsimp only
      rw [Sys.msix_sent (by rw [hafter]; exact hall) (by rw [hafter]; exact hone) (by rw [hafter]; exact hbus)]
      rfl
    · simp only [Bool.and_eq_true, decide_eq_true_eq]
      exact ⟨⟨hirq, hun⟩, hlate⟩
  case unmask =>
    intro e hpend hall hbus
    have hall' : (s.sys.hub h).maskAll = false := hall
    have hpend' : (NMap.get {} (s.sys.hub h).msix v).pending = true := hpend
    rw [exec_msixVectorUnmask, show (Instr.msixVectorUnmask h v).wf = true by simpa [Instr.wf, hwf] using hv, State.act_true,
      Sys.msixUnmask, if_pos (by simp [hall', hpend']), hall', Bool.and_false,
      Sys.msix_sent (by rw [Sys.hub_setHub_same]) (by rw [Sys.hub_setHub_same, NMap.get_put_same])
        (by rw [Sys.hub_setHub_same]; exact hbus)]
    rfl

end Sys2Proof.Machine

/-! SUPPORT. The PCIe function of a hub, its resets and register reads, its events, and O44 and O45. -/

namespace Sys2Proof.Machine

section
variable {s : Sys} {h v : Nat}

/-- A link that trains sets the rate and the width and enables the function (R344). -/
theorem Sys.pcieTraining_up {rate width : Nat} (hrate : rate ≠ 0) : ∃ r m, (s.pcieTraining h rate width).hub h =
    { s.hub h with linkRate := rate, linkWidth := width, memSpace := true, busMaster := true, regs := r, msix := m } := by
  unfold Sys.pcieTraining
  dsimp only
  rw [if_neg hrate]
  split
  · exact ⟨_, _, by rw [Sys.hub_setHub_same]⟩
  · obtain ⟨r, m, hr⟩ := (Sys.event_sameButLog (s := s.setHub h { s.hub h with
      linkRate := rate, linkWidth := width, memSpace := true, busMaster := true }) h 8).2 h
    exact ⟨r, m, by rw [hr, Sys.hub_setHub_same]⟩

@[simp] theorem Hub.reg_setReg_same (u : Hub) (off v : Nat) : (u.setReg off v).reg off = v := NMap.get_put_same ..

theorem Hub.reg_setReg_other (u : Hub) {off k : Nat} (v : Nat) (hk : k ≠ off) : (u.setReg off v).reg k = u.reg k :=
  NMap.get_put_other _ _ _ _ _ hk

/-- A reset of the function with its link up (R365, R505). -/
theorem Sys.hubLinkReset_up : ∃ regs, (s.hubLinkReset h false).hub h =
    { ({ (s.hub h).dropPairs 7 with busMaster := false, memSpace := false, maskAll := false, msix := [], regs := regs } : Hub)
      with regs := NMap.put regs 0x108 0x3FF } := by
  unfold Sys.hubLinkReset
  dsimp only
  rw [if_neg (by decide), Sys.hub_setHub_same]
  exact ⟨_, rfl⟩

/-- A host read of a word of BAR0 (R346). -/
theorem Sys.barAccess_read {off : Nat} (hmem : (s.hub h).memSpace = true) (hlink : (s.hub h).linkRate ≠ 0) (hoff : off % 4 = 0) :
    s.barAccess h 0 off 4 false 0 = { s.hubReadEffect h off with answer := s.hubReg h off % 2 ^ 32 } := by
  unfold Sys.barAccess
  dsimp only
  rw [if_neg (by simp [hmem, hlink]), if_neg (by decide), if_neg (by simp [hoff]), if_neg (by decide), if_neg (by decide)]
  rfl

/-- A host read of another size reads all ones and is logged (R346). -/
theorem Sys.barAccess_size {bar off n : Nat} (hmem : (s.hub h).memSpace = true) (hlink : (s.hub h).linkRate ≠ 0)
    (hbar : bar ≠ 4) (hfour : n ≠ 4) (height : n ≠ 8) :
    s.barAccess h bar off n false 0 = { s.log 0x0001 1 0 0 0 (bar + 2 ^ 32 * off) with answer := 2 ^ (8 * n) - 1 } := by
  unfold Sys.barAccess
  dsimp only
  rw [if_neg (by simp [hmem, hlink]), if_neg hbar, if_pos (by simp [hfour, height]), if_neg (by decide)]

end

/-- Settles O44. -/
theorem pcieFunction : Obligations.PcieFunction := by
  unfold Obligations.PcieFunction
  intro s h hh u
  have hwf : isHub h = true := by simp [isHub, hh]
  refine ⟨fun rate width hpos hrate hwidth => ?training, ?master, ?reset, fun off hmem hlink hoff => ?read,
    fun bar off n hmem hlink hbar hn hn' hfour height => ?size⟩
  case training =>
    obtain ⟨r, m, hr⟩ := Sys.pcieTraining_up (s := s.sys) (h := h) (width := width) (Nat.ne_of_gt hpos)
    refine ⟨_, by rw [exec_pcieLinkTraining, show (Instr.pcieLinkTraining h rate width).wf = true by
      simp [Instr.wf, hwf, hrate, hwidth], State.act_true], ?_⟩
    rw [hr]
    exact ⟨rfl, rfl, rfl, rfl, rfl⟩
  case master =>
    rw [exec_busMasterClear, show (Instr.busMasterClear h).wf = true by simp [Instr.wf, hwf], State.act_true]
    rfl
  case reset =>
    obtain ⟨regs, hr⟩ := Sys.hubLinkReset_up (s := s.sys) (h := h)
    refine ⟨_, by rw [exec_hubLinkReset, show (Instr.hubLinkReset h false).wf = true by simp [Instr.wf, hwf], State.act_true], ?_⟩
    rw [hr]
    exact ⟨rfl, rfl, rfl, NMap.get_put_same .., rfl, rfl⟩
  case read =>
    rw [exec_barAccess, show (Instr.barAccess h 0 off 4 false 0).wf = true by simp [Instr.wf, hwf, isBytes], State.act_true,
      Sys.barAccess_read hmem hlink hoff]
  case size =>
    have hwf' : (Instr.barAccess h bar off n false 0).wf = true := by
      simp [Instr.wf, hwf, isBytes]; omega
    rw [exec_barAccess, hwf', State.act_true, Sys.barAccess_size hmem hlink (by omega) hfour height]

section
variable {s : Sys} {h v bit : Nat}

/-- An event that has risen already, or is masked, sends nothing (R546). -/
theorem Sys.event_silent (hq : bitOf ((s.hub h).reg 0x104) bit = true ∨ bitOf ((s.hub h).reg 0x108) bit = true) :
    s.event h bit = s.setHub h ((s.hub h).setReg 0x104 ((s.hub h).reg 0x104 ||| 2 ^ bit)) := by
  unfold Sys.event
  dsimp only
  rw [if_pos (by simpa using hq)]

/-- No message while the event vector is disabled (R546). -/
theorem Sys.eventMsg_disabled (hoff : bitOf ((s.hub h).reg 0x100) 11 = false) : s.eventMsg h = s := by
  unfold Sys.eventMsg
  dsimp only
  rw [if_neg (by simp [hoff])]

theorem Sys.eventMsg_sent (hon : bitOf ((s.hub h).reg 0x100) 11 = true) (hall : (s.hub h).maskAll = false)
    (hone : (NMap.get {} (s.hub h).msix (bitsOf ((s.hub h).reg 0x100) 10 0)).masked = false) (hbus : (s.hub h).busMaster = true) :
    s.eventMsg h = { s with irqs := s.irqs ++ [(h, bitsOf ((s.hub h).reg 0x100) 10 0)] } := by
  unfold Sys.eventMsg
  dsimp only
  rw [if_pos hon, Sys.msix_sent hall hone hbus]

/-- An event that rises unmasked sends the event vector's message (R545, R546). -/
theorem Sys.event_sent (hlow : bitOf ((s.hub h).reg 0x104) bit = false) (hopen : bitOf ((s.hub h).reg 0x108) bit = false)
    (hon : bitOf ((s.hub h).reg 0x100) 11 = true) (hall : (s.hub h).maskAll = false)
    (hone : (NMap.get {} (s.hub h).msix (bitsOf ((s.hub h).reg 0x100) 10 0)).masked = false) (hbus : (s.hub h).busMaster = true) :
    s.event h bit = { s.setHub h ((s.hub h).setReg 0x104 ((s.hub h).reg 0x104 ||| 2 ^ bit)) with
      irqs := s.irqs ++ [(h, bitsOf ((s.hub h).reg 0x100) 10 0)] } := by
  let u' := (s.hub h).setReg 0x104 ((s.hub h).reg 0x104 ||| 2 ^ bit)
  have hhub : (s.setHub h u').hub h = u' := Sys.hub_setHub_same ..
  have hcfg : ((s.setHub h u').hub h).reg 0x100 = (s.hub h).reg 0x100 := by
    rw [hhub]
    exact Hub.reg_setReg_other _ _ (by decide)
  unfold Sys.event
  dsimp only
  rw [if_neg (by simp [hlow, hopen]), Sys.eventMsg_sent (s := s.setHub h u') (by rw [hcfg]; exact hon) (by rw [hhub]; exact hall)
    (by rw [hcfg, hhub]; exact hone) (by rw [hhub]; exact hbus), hcfg]
  rfl

variable (hmem : (s.hub h).memSpace = true) (hlink : (s.hub h).linkRate ≠ 0) (hv : v < 2 ^ 32)
include hmem hlink hv

/-- A host write to one of the event registers (R546). -/
theorem Sys.hostWord_event :
    (v ≠ 0 → s.hostWord h 0 0x104 v = s.eventStatusWrite h v) ∧ s.hostWord h 0 0x108 v = s.eventMaskWrite h v ∧
      s.hostWord h 0 0x100 v = s.eventCfgWrite h v := by
  refine ⟨fun hne => ?_, ?_, ?_⟩ <;>
    rw [Sys.hostWord_write hmem hlink (by decide) (by decide), Sys.barWrite, if_pos rfl, Nat.mod_eq_of_lt hv, Sys.hubRegWrite,
      if_neg (by decide), if_neg (by decide)]
  · rw [if_neg (by decide), if_pos rfl, if_neg hne]
  · rw [if_neg (by decide), if_neg (by decide), if_pos rfl]
  · rw [if_pos rfl]

end

section
variable {s : Sys} {h v : Nat} (hoff : bitOf ((s.hub h).reg 0x100) 11 = false)
include hoff

/-- A write to another register leaves a disabled event vector silent. -/
theorem Sys.setReg_silent {off w : Nat} (hne : 0x100 ≠ off) :
    (if ((s.hub h).setReg off w).anyEvent then (s.setHub h ((s.hub h).setReg off w)).eventMsg h
      else s.setHub h ((s.hub h).setReg off w)) = s.setHub h ((s.hub h).setReg off w) := by
  rw [Sys.eventMsg_disabled (s := s.setHub h ((s.hub h).setReg off w))
    (by rw [Sys.hub_setHub_same, Hub.reg_setReg_other _ _ hne]; exact hoff), ite_self]

theorem Sys.eventStatusWrite_silent :
    s.eventStatusWrite h v = s.setHub h ((s.hub h).setReg 0x104 ((s.hub h).reg 0x104 - ((s.hub h).reg 0x104 &&& v))) :=
  Sys.setReg_silent hoff (by decide)

theorem Sys.eventMaskWrite_silent : s.eventMaskWrite h v = s.setHub h ((s.hub h).setReg 0x108 (v % 2 ^ 10)) :=
  Sys.setReg_silent hoff (by decide)

omit hoff in
theorem Sys.eventCfgWrite_disabled (hbit : bitOf v 11 = false) :
    s.eventCfgWrite h v = s.setHub h ((s.hub h).setReg 0x100 (v % 2 ^ 12)) := by
  unfold Sys.eventCfgWrite
  dsimp only
  rw [if_neg (by simp [hbit])]

end

/-- Settles O45. -/
theorem eventsAndPanelTime : Obligations.EventsAndPanelTime := by
  unfold Obligations.EventsAndPanelTime
  intro s h v bit hh hv hbit u st mask cfg vec
  have hwf : isHub h = true := by simp [isHub, hh]
  have hexec : exec (.hubEvent h bit) s = .next { s with sys := s.sys.event h bit } := by
    rw [exec_hubEvent, show (Instr.hubEvent h bit).wf = true by simp [Instr.wf, hwf, hbit], State.act_true]
  refine ⟨fun hq => ?silent, fun hlow hopen hon hall hone hbus => ?sent, fun hmem hlink hoff => ?writes, ?time⟩
  case silent =>
    rw [hexec, Sys.event_silent hq]
    rfl
  case sent => rw [hexec, Sys.event_sent hlow hopen hon hall hone hbus]
  case writes =>
    obtain ⟨hstatus, hmask, hcfg⟩ := Sys.hostWord_event hmem hlink hv
    refine ⟨fun hne => ?_, ?_, fun hbit11 => ?_⟩
    · rw [exec_hubEventStatus, show (Instr.hubEventStatus h v).wf = true by simpa [Instr.wf, hwf] using hv, State.act_true,
        hstatus hne, Sys.eventStatusWrite_silent hoff]
      rfl
    · rw [exec_hubEventMask, show (Instr.hubEventMask h v).wf = true by simpa [Instr.wf, hwf] using hv, State.act_true,
        hmask, Sys.eventMaskWrite_silent hoff]
      rfl
    · rw [exec_hubEventCfg, show (Instr.hubEventCfg h v).wf = true by simpa [Instr.wf, hwf] using hv, State.act_true,
        hcfg, Sys.eventCfgWrite_disabled hbit11]
      rfl
  case time =>
    have hreg : s.sys.hubReg h 0x18 % 2 ^ 32 = s.sys.hubTime h % 2 ^ 32 := Nat.mod_mod ..
    rw [exec_panelTimeLo, show (Instr.panelTimeLo h).wf = true by simp [Instr.wf, hwf], State.act_true, Sys.readClear,
      if_neg (by simp), if_pos (by simp [hh]), hreg]
    rfl

end Sys2Proof.Machine

/-! SUPPORT. A command's start: the rows that are commands of the host, the lowest failing field, a NOP's reply, and O46. -/

namespace Sys2Proof.Machine

/-- One step of the search for the failing field of lowest offset. -/
def lowerOf (a : Option (Nat × Nat)) (x : Nat × Nat) : Option (Nat × Nat) :=
  match a with
  | none => some x
  | some b => if x.1 < b.1 then some x else some b

theorem lowestBad_eq (l : List (Nat × Nat)) : lowestBad l = l.foldl lowerOf none := rfl

/-- What the search holds is nothing at first, and one of the fields met later. -/
theorem lowerOf_foldl (l : List (Nat × Nat)) (a : Option (Nat × Nat)) :
    l.foldl lowerOf a = a ∨ ∃ x ∈ l, l.foldl lowerOf a = some x := by
  refine List.foldlRecOn l lowerOf (motive := fun r => r = a ∨ ∃ x ∈ l, r = some x) (.inl rfl) fun r hr x hx => ?_
  cases r with
  | none => exact .inr ⟨x, hx, rfl⟩
  | some b =>
    by_cases hlt : x.1 < b.1
    · exact .inr ⟨x, hx, if_pos hlt⟩
    · rw [lowerOf, if_neg hlt]
      exact hr

/-- A field below those before it and not above those behind it is the one named (R13). -/
theorem lowestBad_split {i r : Nat} {a b : List (Nat × Nat)} (ha : ∀ x ∈ a, i < x.1) (hb : ∀ x ∈ b, i ≤ x.1) :
    lowestBad (a ++ (i, r) :: b) = some (i, r) := by
  have hmid : lowerOf (a.foldl lowerOf none) (i, r) = some (i, r) := by
    rcases lowerOf_foldl a none with h | ⟨x, hx, h⟩
    · rw [h]
      rfl
    · rw [h]
      exact if_pos (ha x hx)
  rw [lowestBad_eq, List.foldl_append, List.foldl_cons, hmid]
  refine List.foldlRecOn b lowerOf (motive := fun v => v = some (i, r)) rfl fun v hv x hx => ?_
  rw [hv]
  exact if_neg (Nat.not_lt.mpr (hb x hx))

/-- An instruction that is a command of the host on pair `q` of hub `h`: it starts the command of its opcode, or waits
while an epoch switch prepares (R357, R387). -/
def RunsCommand (h q : Nat) (e : Instr × Nat × (Sys → Cmd → List (Nat × Nat))) : Prop :=
  ∃ run, ∀ s, exec e.1 s = .next { s with sys := s.sys.command h q e.2.1 e.2.2 run } ∨
    (s.sys.lead.sw ≠ none ∧ exec e.1 s = .next s)

section
variable {h q op : Nat} {i : Instr} {bad : Sys → Cmd → List (Nat × Nat)} {run : Sys → Cmd → Option Reply × Sys}

theorem RunsCommand.ofRow (hexec : ∀ s : State, exec i s = s.act i.wf (fun y => y.command h q op bad run)) (hwf : i.wf = true) :
    RunsCommand h q (i, op, bad) :=
  ⟨run, fun s => .inl (by rw [hexec, hwf, State.act_true])⟩

theorem RunsCommand.ofGroup (hexec : ∀ s : State, exec i s = s.act i.wf (fun y => y.groupCommand h q op bad run))
    (hwf : i.wf = true) : RunsCommand h q (i, op, bad) := by
  refine ⟨run, fun s => ?_⟩
  rw [hexec, hwf, State.act_true, Sys.groupCommand]
  cases hsw : s.sys.lead.sw with
  | none => exact .inl rfl
  | some w =>
    by_cases hp : w.phase = 1
    · exact .inr ⟨nofun, by simp only [hp, if_true]⟩
    · exact .inl (by simp only [hp, if_false])

/-- A hub that is not ready, or a pair with nothing to start, leaves the panel as it is (R357, R358). -/
theorem Sys.command_nothing {s : Sys} (hno : (s.hub h).live = false ∨ (s.hub h).ready = false ∨ s.nextCmd h q op = none) :
    s.command h q op bad run = s := by
  unfold Sys.command
  dsimp only
  by_cases hready : (s.hub h).live = true ∧ (s.hub h).ready = true
  · obtain ⟨hlive, hready⟩ := hready
    have hnone : s.nextCmd h q op = none := by simpa [hlive, hready] using hno
    rw [if_neg (by simp [hlive, hready]), hnone]
  · rw [if_pos]
    simpa [Classical.or_iff_not_imp_left] using hready

end

section Nop
variable {s : Sys} {h q num : Nat} {c : Cmd}

/-- What a started command looks like in its pair. -/
def Cmd.begun (num : Nat) (d : Cmd) : Cmd := if d.num = num then { d with started := true } else d

theorem Cmd.begun_num (d : Cmd) : (d.begun num).num = d.num := by
  unfold Cmd.begun
  split <;> rfl

/-- The commands that stay when one leaves are those before it was started. -/
theorem begun_filter (l : List Cmd) :
    (l.map (Cmd.begun num)).filter (fun d => d.num ≠ num) = l.filter (fun d => d.num ≠ num) := by
  rw [List.filter_map]
  have hsame : ((fun d : Cmd => decide (d.num ≠ num)) ∘ Cmd.begun num) = fun d : Cmd => decide (d.num ≠ num) := by
    funext d
    simp only [Function.comp_apply, Cmd.begun_num]
  rw [hsame]
  refine (List.map_congr_left fun d hd => ?_).trans (List.map_id _)
  have hne : d.num ≠ num := by simpa using (List.mem_filter.mp hd).2
  exact if_neg hne

/-- The command a pair starts next is one of its own. -/
theorem Sys.nextCmd_mem {op : Nat} (hc : s.nextCmd h q op = some c) : c ∈ (s.qp h q).cmds := by
  unfold Sys.nextCmd at hc
  dsimp only at hc
  split at hc
  · exact absurd hc nofun
  next d hd =>
    split at hc
    · exact (Option.some.inj hc) ▸ List.mem_of_find?_eq_some hd
    · exact absurd hc nofun

/-- A last reply to the only command of its number in an enabled pair: queued, and the command has left (R357, R367). -/
theorem Sys.pushReply_started {r : Reply} (hmem : c ∈ (s.qp h q).cmds) (honly : ∀ d ∈ (s.qp h q).cmds, d.num = c.num → d = c)
    (hstate : (s.qp h q).state = 1) (hlast : r.more = false) :
    ((s.markStarted h q c.num).pushReply h q c.num r).qp h q = { s.qp h q with
      cmds := (s.qp h q).cmds.filter (fun d => d.num ≠ c.num)
      replies := (s.qp h q).replies ++ [{ r with num := c.num, cmdId := c.id, irq := c.irqOnDone, later := c.accepted }] } := by
  let p' : QP := { s.qp h q with cmds := (s.qp h q).cmds.map (Cmd.begun c.num) }
  have hp : (s.markStarted h q c.num).qp h q = p' := Sys.qp_setQP_same ..
  have hfind : p'.cmds.find? (fun d => d.num = c.num) = some { c with started := true } := by
    cases hf : p'.cmds.find? (fun d => d.num = c.num) with
    | none =>
      have := List.find?_eq_none.mp hf (Cmd.begun c.num c) (List.mem_map_of_mem hmem)
      simp [Cmd.begun_num] at this
    | some e =>
      obtain ⟨d, hd, rfl⟩ := List.mem_map.mp (List.mem_of_find?_eq_some hf)
      have hnum : (d.begun c.num).num = c.num := by simpa using List.find?_some hf
      rw [honly d hd (by rw [← hnum, Cmd.begun_num]), Cmd.begun, if_pos rfl]
  unfold Sys.pushReply
  dsimp only
  rw [hp, hfind]
  dsimp only
  rw [if_pos (by simp [p', hstate]), Sys.qp_setQP_same, if_neg (by simp [hlast]), show p'.cmds = _ from rfl, begun_filter]
  simp only [p', hlast, Bool.not_false, Bool.and_true]
  rfl

end Nop

/-- Settles O46. -/
theorem commandsAreCheckedFirst : Obligations.CommandsAreCheckedFirst := by
  unfold Obligations.CommandsAreCheckedFirst
  intro s h q pass fail hh hq rows
  have hwf : (isHub h && isPair q) = true := by simp [isHub, isPair, hh, hq]
  have hrows : ∀ e ∈ rows, RunsCommand h q e := by
    simp only [rows, List.forall_mem_append, List.forall_mem_cons, List.not_mem_nil, false_imp_iff, implies_true, and_true]
    exact ⟨⟨.ofRow (exec_nop h q) hwf, .ofRow (exec_identify h q) hwf, .ofRow (exec_getFeature h q) hwf,
      .ofRow (exec_setFeature h q) hwf, .ofRow (exec_regRead h q) hwf, .ofRow (exec_regWrite h q) hwf,
      .ofRow (exec_partitionCreate h q) hwf, .ofRow (exec_partitionDestroy h q) hwf, .ofRow (exec_partitionReset h q) hwf,
      .ofRow (exec_regionDefine h q) hwf, .ofRow (exec_regionRelease h q) hwf, .ofRow (exec_storeFill h q) hwf,
      .ofRow (exec_storeWrite h q) hwf, .ofRow (exec_storeRead h q) hwf, .ofRow (exec_weightLoad h q) hwf,
      .ofRow (exec_codeLoad h q) hwf, .ofRow (exec_windowOpen h q) hwf, .ofRow (exec_windowClose h q) hwf,
      .ofGroup (exec_mcastGroupSet h q) hwf, .ofGroup (exec_rgroupSet h q) hwf, .ofRow (exec_streamOpen h q) hwf,
      .ofRow (exec_streamClose h q) hwf⟩,
      .ofRow (exec_jobStart h q) hwf, .ofRow (exec_jobFeed h q) hwf, .ofRow (exec_stepCommit h q) hwf,
      .ofRow (exec_stepReplay h q) hwf, .ofRow (exec_jobStatus h q) hwf, .ofRow (exec_jobStop h q) hwf,
      .ofRow (exec_phaseSet h q) hwf, .ofRow (exec_powerQuery h q) hwf, .ofRow (exec_healthQuery h q) hwf,
      .ofRow (exec_unitShed h q) hwf, .ofRow (exec_unitRegrow h q pass) hwf, .ofRow (exec_unitWatchClear h q) hwf,
      .ofRow (exec_logRead h q) hwf, .ofRow (exec_timeSync h q) hwf, .ofRow (exec_configRead h ⟨q, fail⟩) hwf,
      .ofRow (exec_configWrite h ⟨q, fail⟩) hwf, .ofRow (exec_firmwareStage h ⟨q, fail⟩) hwf,
      .ofRow (exec_firmwareActivate h ⟨q, fail⟩) hwf, .ofRow (exec_linkQuery h q) hwf⟩
  refine ⟨fun e he => ?_, fun c hc hstate honly => ?nop⟩
  · obtain ⟨run, hrun⟩ := hrows e he
    refine ⟨fun hno => ?nothing, fun c i r a b hc hsw hchecks ha hb => ?refused⟩
    case nothing =>
      rcases hrun s with hstart | ⟨-, hwait⟩
      · rw [hstart, Sys.command_nothing hno]
      · exact hwait
    case refused =>
      intro handle
      rcases hrun s with hstart | ⟨hsw', -⟩
      · rw [hstart, State.command_refused hc run (by rw [hchecks]; exact lowestBad_split ha hb)]
        congr 2
        unfold Sys.refusal
        by_cases hjob : ([0x32, 0x33, 0x34, 0x35, 0x38].contains c.op && ((s.started h q c).jobOfHandle c).isSome) = true
        · rw [if_pos hjob, show handle = c.p 8 8 from if_pos hjob]
          split <;> rfl
        · rw [if_neg hjob, show handle = 0 from if_neg hjob]
          split <;> rfl
      · exact absurd hsw hsw'
  case nop =>
    obtain ⟨⟨-, -, hnext⟩, -⟩ := id hc
    refine ⟨_, by rw [exec_nop, show (Instr.nop h q).wf = true from hwf, State.act_true, State.command_accepted hc], ?_⟩
    exact Sys.pushReply_started (Sys.nextCmd_mem hnext) honly hstate rfl

end Sys2Proof.Machine

/-! SUPPORT. Commands that report, and O47. -/

namespace Sys2Proof.Machine

section
variable {s : State} {h q op : Nat} {c : Cmd} {i : Instr} {bad : Sys → Cmd → List (Nat × Nat)}

/-- An accepted command whose reply is given at once (R13, R357). -/
theorem State.exec_now {f : Sys → Cmd → Reply × Sys}
    (hexec : exec i s = s.act i.wf (fun y => y.command h q op bad (now_ f))) (hwf : i.wf = true) (ha : s.accepts h q op bad c) :
    exec i s = .next (s.replied h q c (f (s.started h q c) c).2 (f (s.started h q c) c).1) := by
  rw [hexec, hwf, State.act_true, State.command_accepted ha]

/-- A command's own checks pass where all do. -/
theorem State.accepts_own (ha : s.accepts h q op bad c) : bad (s.started h q c) c = [] := by
  obtain ⟨-, hchecks⟩ := ha
  unfold State.checks at hchecks
  exact (List.append_eq_nil_iff.mp hchecks).2

/-- The answer that carries a record of `size` bytes to a buffer of `len` bytes (R374). -/
def State.cut (s : State) (h q : Nat) (c : Cmd) (addr len size v r : Nat) : State :=
  let t := s.started h q c
  if len = 0 then s.replied h q c t { status := stSuccessEmpty, result := r }
  else if size ≤ len then s.replied h q c (t.hostWrite addr size v) { status := stSuccess, result := r }
  else s.replied h q c (t.hostWrite addr len v) { status := stPartial, result := r }

theorem State.replied_cutRecord (addr len size v r : Nat) :
    let w := (s.started h q c).cutRecord addr len size v
    s.replied h q c w.2 { status := w.1, result := r } = s.cut h q c addr len size v r := by
  intro w
  unfold State.cut
  dsimp only
  by_cases hlen : len = 0
  · rw [if_pos hlen, show w = _ from if_pos hlen]
  · by_cases hsize : size ≤ len
    · rw [if_neg hlen, if_pos hsize, show w = _ from if_neg hlen, if_pos hsize, Nat.min_eq_right hsize]
    · rw [if_neg hlen, if_neg hsize, show w = _ from if_neg hlen, if_neg hsize, Nat.min_eq_left (Nat.le_of_not_le hsize)]

end

section Features
variable {s : Sys}

/-- The size and the value of a feature (R374). -/
theorem Sys.feature_size (f i : Nat) : (s.feature f i).1 =
    if f = 1 then 117144 else if f = 2 then 64 else if f = 3 then 16 else 8 + 8 * s.lead.invalid.length := by
  unfold Sys.feature
  (repeat' split) <;> rfl

theorem Sys.feature_profile (i : Nat) : (s.feature 2 i).2 = NMap.get 0 s.lead.profiles i := rfl

/-- The low half of POWER_CAP: the host's cap and the rack's, as the record adds them (R455). -/
theorem Sys.powerCap_low : s.powerCap % 2 ^ 64 =
    s.power.hostCap % 2 ^ 32 + 2 ^ 32 * ((s.power.hostCap / 2 ^ 32 + s.power.rackCap) % 2 ^ 32) := by
  unfold Sys.powerCap
  dsimp only
  omega

end Features

/-- Settles O47. -/
theorem reportingCommandsAnswer : Obligations.ReportingCommandsAnswer := by
  unfold Obligations.ReportingCommandsAnswer
  intro s h q c hh hq t cut
  have hwf : (isHub h && isPair q) = true := by simp [isHub, isPair, hh, hq]
  refine ⟨fun ha => ?identify, fun ha => ?feature, fun ha => ?power, fun ha => ?health, fun ha => ?link, fun ha => ?config,
    fun ha => ?log, fun ha => ?time, fun ha => ?job⟩
  case identify => exact State.exec_now (exec_identify h q s) hwf ha
  case feature =>
    intro f v size
    refine ⟨?_, fun hf => ?_, fun hf => ?_⟩
    · have hsize : size = (t.feature f (c.p 10 2)).1 := by
        rw [Sys.feature_size, show t.lead = s.sys.lead from rfl]
      rw [State.exec_now (exec_getFeature h q s) hwf ha, hsize]
      exact congrArg _ (State.replied_cutRecord ..)
    · rw [show v = (t.feature f (c.p 10 2)).2 from rfl, hf]
      exact Sys.feature_profile _
    · rw [show v = (t.feature f (c.p 10 2)).2 from rfl, hf]
      exact Sys.powerCap_low
  case power =>
    rw [State.exec_now (exec_powerQuery h q s) hwf ha]
    exact congrArg _ (State.replied_cutRecord ..)
  case health =>
    intro k w b
    rw [State.exec_now (exec_healthQuery h q s) hwf ha]
    exact congrArg _ (State.replied_cutRecord ..)
  case link =>
    intro k w b v
    have hv : v = (if k = ukOpticalLane || k = ukLaser then t.opticRecord k w b
        else t.linkRecord k w b w (if k = ukHubLink then (if w % 16 = 0 then 3 else 1) else if k = ukLaneGroup then bitsOf b 9 8 else b)) := by
      unfold v ukOpticalLane ukLaser ukHubLink ukLaneGroup
      by_cases hoptic : k = 7 ∨ k = 8
      · rw [if_pos hoptic, if_pos (by simpa using hoptic)]
      · rw [if_neg hoptic, if_neg (show ¬ (decide (k = 7) || decide (k = 8)) = true by simpa using hoptic)]
        by_cases hhub : k = 9
        · simp only [if_pos hhub]
        · simp only [if_neg hhub]
          split <;> rfl
    rw [State.exec_now (exec_linkQuery h q s) hwf ha, hv]
    exact congrArg _ (State.replied_cutRecord ..)
  case config =>
    have hsome : (t.confRec (c.p 8 2)).isSome = true := by
      have hown := State.accepts_own ha
      unfold badConfigRead at hown
      rw [List.append_eq_nil_iff, fails_eq_nil, Bool.and_eq_true] at hown
      exact hown.1.2
    obtain ⟨r, hr⟩ := Option.isSome_iff_exists.mp hsome
    have hrun : Sys.runConfigRead t c = ({ status := (t.cutRecord (c.p 16 8) (c.p 12 4) r.len r.value).1, result := r.len },
        (t.cutRecord (c.p 16 8) (c.p 12 4) r.len r.value).2) := by
      unfold Sys.runConfigRead
      rw [hr]
    refine ⟨r, hr, ?_, ?_⟩
    · rw [State.exec_now (exec_configRead h ⟨q, false⟩ s) hwf ha, show flashed false Sys.runConfigRead (s.started h q c) c = _ from hrun]
      exact congrArg _ (State.replied_cutRecord ..)
    · rw [State.exec_now (exec_configRead h ⟨q, true⟩ s) hwf ha]
      have hlow : (Sys.runConfigRead t c).1.status < 0x10 := by
        rw [hrun]
        unfold Sys.cutRecord
        (repeat' split) <;> show (_ : Nat) < 16 <;> simp [stSuccessEmpty, stSuccess, stPartial]
      rw [show flashed true Sys.runConfigRead (s.started h q c) c = ({ status := stFlashError }, t) from if_pos (by simp; left; exact hlow)]
  case log =>
    intro n kept
    refine ⟨fun hn => ?_, fun hn => ?_⟩
    · rw [State.exec_now (exec_logRead h q s) hwf ha, show Sys.runLogRead (s.started h q c) c = (Reply.empty 0, t) from if_pos hn]
      rfl
    · have hrun : Sys.runLogRead t c = ({ status := if kept.length < n then stPartial else stSuccess
                                          result := kept.length + 2 ^ 32 * (kept.head?.map (fun e => e.seq)).getD (c.p 8 4) },
          t.hostWrite (c.p 16 8) (32 * kept.length) (kept.foldr (fun e v => e.bytes + 2 ^ 256 * v) 0)) := by
        unfold Sys.runLogRead
        dsimp only
        rw [if_neg hn, show t.lead = s.sys.lead from rfl]
        cases hhead : kept.head? with
        | none => rfl
        | some e => rfl
      rw [State.exec_now (exec_logRead h q s) hwf ha, show Sys.runLogRead (s.started h q c) c = _ from hrun]
  case time => exact State.exec_now (exec_timeSync h q s) hwf ha
  case job =>
    intro n w
    rw [State.exec_now (exec_jobStatus h q s) hwf ha]
    rfl

end Sys2Proof.Machine

/-! SUPPORT. A command's run: its answer, its wait, its refusal by a field of its own; features, register words and
configuration records that a command sets. -/

namespace Sys2Proof.Machine

section Commands
variable {s : State} {h q op : Nat} {c : Cmd} {i : Instr} {bad : Sys → Cmd → List (Nat × Nat)}
  {run : Sys → Cmd → Option Reply × Sys}

/-- An accepted command has its opcode's effect on the panel in which it is marked started (R13, R357). -/
theorem State.exec_accepted (hexec : exec i s = s.act i.wf (fun y => y.command h q op bad run)) (hwf : i.wf = true)
    (ha : s.accepts h q op bad c) : exec i s = .next { s with sys := match run (s.started h q c) c with
      | (some r, u) => u.pushReply h q c.num r
      | (none, u) => u } := by
  obtain ⟨⟨hlive, hready, hnext⟩, hb⟩ := ha
  have hnone : lowestBad [] = none := rfl
  simp only [State.checks, State.started] at hb
  rw [hexec, hwf, State.act_true]
  simp only [Sys.command, hlive, hready, hnext, hb, hnone, State.started, Bool.not_true, Bool.or_self, Bool.false_eq_true,
    if_false] <;> rfl

theorem State.exec_answers {r : Reply} {u : Sys} (hexec : exec i s = s.act i.wf (fun y => y.command h q op bad run))
    (hwf : i.wf = true) (ha : s.accepts h q op bad c) (hrun : run (s.started h q c) c = (some r, u)) :
    exec i s = .next (s.replied h q c u r) := by
  rw [State.exec_accepted hexec hwf ha, hrun]
  rfl

theorem State.exec_waits {u : Sys} (hexec : exec i s = s.act i.wf (fun y => y.command h q op bad run)) (hwf : i.wf = true)
    (ha : s.accepts h q op bad c) (hrun : run (s.started h q c) c = (none, u)) : exec i s = .next { s with sys := u } := by
  rw [State.exec_accepted hexec hwf ha, hrun]

/-- The opcode's own checks come behind those that every command has. -/
theorem State.checks_own : s.checks h q op bad c = s.checks h q op noChecks c ++ bad (s.started h q c) c := by
  simp only [State.checks, noChecks, List.append_nil]

/-- A command other than one that names a job is refused without a handle (R367). -/
theorem State.exec_refused {k r : Nat} (hexec : exec i s = s.act i.wf (fun y => y.command h q op bad run)) (hwf : i.wf = true)
    (hs : s.starts h q op c) (hop : [0x32, 0x33, 0x34, 0x35, 0x38].contains op = false)
    (hgood : s.checks h q op noChecks c = []) (hbad : lowestBad (bad (s.started h q c) c) = some (k, r)) :
    exec i s = .next (s.replied h q c (s.started h q c) (if r = denyMark then Reply.deny k else Reply.bad k r)) := by
  rw [hexec, hwf, State.act_true, State.command_refused hs run (by rw [State.checks_own, hgood]; exact hbad), Sys.refusal,
    State.starts_op hs, hop, Bool.false_and, if_neg (by decide)]

/-- The field named is one of those that fail. -/
theorem lowestBad_mem {l : List (Nat × Nat)} {x : Nat × Nat} (hx : lowestBad l = some x) : x ∈ l := by
  rcases lowerOf_foldl l none with h | ⟨y, hy, h⟩
  · exact absurd (h.symm.trans hx) nofun
  · exact (Option.some.inj (h.symm.trans hx)) ▸ hy

theorem fst_of_mem_fails {k : Nat} {ok : Bool} {x : Nat × Nat} (hx : x ∈ fails k ok) : x.1 = k := by
  cases ok
  · rw [List.mem_singleton.mp hx]
  · exact absurd hx List.not_mem_nil

end Commands

section Fields

/-- The offset of a failing field of a profile is within its record. -/
theorem profileBad_lt {v o : Nat} (ho : profileBad v = some o) : o < 64 := by
  unfold profileBad at ho
  obtain ⟨x, hx, rfl⟩ := Option.map_eq_some_iff.mp ho
  have hmem := lowestBad_mem hx
  simp only [List.mem_append] at hmem
  rcases hmem with (((((((h | h) | h) | h) | h) | h) | h) | h) | h <;> rw [fst_of_mem_fails h] <;> decide

theorem capBad_low {v : Nat} (hv : v % 2 ^ 32 < 6000 ∨ 20000 < v % 2 ^ 32) : capBad v = some 0 := if_pos (by simpa using hv)

theorem capBad_high {v : Nat} (hlo : 6000 ≤ v % 2 ^ 32) (hhi : v % 2 ^ 32 ≤ 20000) (hv : bitsOf v 127 112 ≠ 0) :
    capBad v = some 14 := by
  unfold capBad
  rw [if_neg (by simp; omega), if_pos hv]

theorem capBad_none {v : Nat} (hv : capBad v = none) : 6000 ≤ v % 2 ^ 32 ∧ v % 2 ^ 32 ≤ 20000 ∧ bitsOf v 127 112 = 0 := by
  unfold capBad at hv
  split at hv
  · exact absurd hv nofun
  next hcap =>
    split at hv
    · exact absurd hv nofun
    next hres =>
      simp only [Bool.or_eq_true, decide_eq_true_eq, not_or, Nat.not_lt] at hcap
      exact ⟨hcap.1, hcap.2, by simpa using hres⟩

/-- The offset of a failing field of a configuration record is within the longest of them (R515). -/
theorem confBad_lt {ty v o : Nat} (ho : confBad ty v = some o) : o < 8192 := by
  unfold confBad at ho
  dsimp only at ho
  obtain ⟨x, hx, rfl⟩ := Option.map_eq_some_iff.mp ho
  have hmem := lowestBad_mem hx
  repeat' split at hmem
  · rcases List.mem_append.mp hmem with h | h
    · rw [fst_of_mem_fails h]
      decide
    · obtain ⟨i, hi, h⟩ := List.mem_flatMap.mp h
      rw [fst_of_mem_fails h]
      have := List.mem_range.mp hi
      omega
  · simp only [List.mem_append] at hmem
    rcases hmem with (((((((h | h) | h) | h) | h) | h) | h) | h) | h <;> rw [fst_of_mem_fails h] <;> decide
  · obtain ⟨i, hi, h⟩ := List.mem_flatMap.mp hmem
    rw [fst_of_mem_fails h]
    have := List.mem_range.mp hi
    omega
  · rw [fst_of_mem_fails hmem]
    decide
  · exact absurd hmem List.not_mem_nil

end Fields

section Feature
variable {s : State} {h q : Nat} {c : Cmd}

/-- SET_FEATURE as it runs (R374). -/
theorem Sys.runSetFeature_read {t : Sys} {v : Nat} (hn : c.p 12 4 ≠ 0) (hread : t.hostRead (c.p 16 8) (c.p 12 4) = some v) :
    t.runSetFeature c = if c.p 8 2 = 2 then
        (if t.profileUsed (c.p 10 2) then (Reply.busy 0, t)
         else (Reply.ok 0, t.modLead (fun l => { l with profiles := NMap.put l.profiles (c.p 10 2) v })))
      else (Reply.ok 0, ({ t with power := { t.power with hostCap := v % 2 ^ 32 } } : Sys).updateCap) := by
  unfold Sys.runSetFeature
  dsimp only
  rw [if_neg hn, hread]

theorem Sys.runSetFeature_empty {t : Sys} (hn : c.p 12 4 = 0) : t.runSetFeature c = (Reply.empty 0, t) := if_pos hn

theorem Sys.runSetFeature_unread {t : Sys} (hn : c.p 12 4 ≠ 0) (hread : t.hostRead (c.p 16 8) (c.p 12 4) = none) :
    t.runSetFeature c = (Reply.noRead 16 0, t) := by
  unfold Sys.runSetFeature
  dsimp only
  rw [if_neg hn, hread]

/-- What the checks of SET_FEATURE leave of a cap that was read (R455). -/
theorem State.accepts_cap {v : Nat} (ha : s.accepts h q 0x03 badSetFeature c) (hn : c.p 12 4 ≠ 0) (hf : c.p 8 2 = 3)
    (hread : (s.started h q c).hostRead (c.p 16 8) (c.p 12 4) = some v) : capBad v = none := by
  have hown := State.accepts_own ha
  unfold badSetFeature at hown
  dsimp only at hown
  rw [if_neg hn, hread, hf] at hown
  have hcap := (List.append_eq_nil_iff.mp hown).2
  rw [whenRead, if_neg (by decide)] at hcap
  cases hb : capBad v with
  | none => rfl
  | some o => rw [hb] at hcap; exact absurd hcap nofun

/-- A value whose only fault is a field of the buffer's record (R368). -/
theorem State.checks_setFeature {v o : Nat} (hgood : s.checks h q 0x03 badFeature c = [])
    (hread : (s.started h q c).hostRead (c.p 16 8) (c.p 12 4) = some v)
    (hbad : (c.p 8 2 = 2 ∧ c.p 12 4 = 64 ∧ profileBad v = some o) ∨ (c.p 8 2 = 3 ∧ c.p 12 4 = 16 ∧ capBad v = some o)) :
    s.checks h q 0x03 noChecks c = [] ∧ badSetFeature (s.started h q c) c = [(16, o)] := by
  rw [State.checks_own, List.append_eq_nil_iff] at hgood
  obtain ⟨hbase, hfeature⟩ := hgood
  refine ⟨hbase, ?_⟩
  unfold badSetFeature
  dsimp only
  rw [hfeature, hread]
  rcases hbad with ⟨hf, hn, hb⟩ | ⟨hf, hn, hb⟩ <;> simp [hf, hn, hb, denies, fails, whenRead, failsAt]

end Feature

section Config
variable {s : State} {h q : Nat} {c : Cmd} {fail : Bool}

theorem Sys.runConfigWrite_read {t : Sys} {v : Nat} (hread : t.hostRead (c.p 16 8) (c.p 12 4) = some v) :
    t.runConfigWrite c = (Reply.ok 0, (t.putConf (c.p 8 2) (c.p 12 4) v).confEffect (c.p 8 2)) := by
  unfold Sys.runConfigWrite
  dsimp only
  rw [hread]

theorem Sys.runConfigWrite_unread {t : Sys} (hread : t.hostRead (c.p 16 8) (c.p 12 4) = none) :
    t.runConfigWrite c = (Reply.noRead 16 0, t) := by
  unfold Sys.runConfigWrite
  dsimp only
  rw [hread]

/-- A flash that fails ends a command that would have written it, and no other (R377). -/
theorem flashed_fails {f : Sys → Cmd → Reply × Sys} {t : Sys} (hf : (f t c).1.status < 0x10 ∨ (f t c).1.status = stAuthFailed) :
    flashed true f t c = ({ status := stFlashError }, t) := if_pos (by simpa using hf)

theorem flashed_refused {f : Sys → Cmd → Reply × Sys} {t : Sys} (hf : ¬ ((f t c).1.status < 0x10 ∨ (f t c).1.status = stAuthFailed)) :
    flashed fail f t c = f t c := if_neg (by simp only [Bool.and_eq_true, Bool.or_eq_true, decide_eq_true_eq]; exact fun h => hf h.2)

/-- CONFIG_WRITE's own checks once its type, size and buffer are in order (R514). -/
theorem badConfigWrite_record {t : Sys} {v : Nat} (hsub : c.p 10 2 = 0) (hsize : confSize (c.p 8 2) = some (c.p 12 4))
    (halign : c.p 16 8 % 64 = 0) (hread : t.hostRead (c.p 16 8) (c.p 12 4) = some v) :
    badConfigWrite t c = failsAt 16 (confBad (c.p 8 2) v) ++ denies 8 (!t.unlocks (c.p 8 2) v) := by
  unfold badConfigWrite
  dsimp only
  rw [if_pos hsub, hsize, if_pos rfl, hread]
  simp [fails, halign, whenRead]

end Config

end Sys2Proof.Machine

/-! SUPPORT. Register words and firmware that a command sets, and O48. -/

namespace Sys2Proof.Machine

section Registers
variable {s : State} {t : Sys} {h q op : Nat} {c : Cmd}

theorem Cmd.p_lt (c : Cmd) (o n : Nat) : c.p o n < 2 ^ (8 * (o + n) - 1 + 1 - 8 * o) :=
  Nat.mod_lt _ (Nat.two_pow_pos _)

/-- What a command of one word does to a live hub (R375). -/
theorem Sys.hubWords_one {k : Nat} (hn : c.p 12 2 = 1) :
    (c.op = 0x04 → t.hubWords k c 1 0 = (Reply.ok (t.hubReg k (c.p 8 3) % 2 ^ 32), t.hubReadEffect k (c.p 8 3))) ∧
    (c.op = 0x05 → t.hubWords k c 1 0 = (if (t.hubRegWrite k (c.p 8 3) (c.p 24 4)).1 then Reply.ok 0 else Reply.bad 8 0,
      (t.hubRegWrite k (c.p 8 3) (c.p 24 4)).2)) := by
  have hoff : ¬ c.p 8 3 ≥ 0x1000000 := Nat.not_le.mpr (c.p_lt 8 3)
  constructor
  · intro hop
    unfold Sys.hubWords
    simp [hn, hop, hoff, Sys.hubWord]
  · intro hop
    unfold Sys.hubWords
    cases hw : t.hubRegWrite k (c.p 8 3) (c.p 24 4) with
    | mk ok u => cases ok <;> simp [hn, hop, hoff, Sys.hubWord, hw]

theorem Sys.runRegs_empty (hn : c.p 12 2 = 0) : t.runRegs h q c = (some (Reply.empty 0), t) := if_pos hn

/-- A command of register words on a hub goes word by word (R375). -/
theorem Sys.runRegs_hub {k : Nat} (hn : c.p 12 2 ≠ 0) (hphys : c.phys = false) (htarget : c.target = 0x1200 + k)
    (hlive : (t.hub k).live = true) :
    t.runRegs h q c = (some (t.hubWords k c (c.p 12 2) 0).1, (t.hubWords k c (c.p 12 2) 0).2) := by
  unfold Sys.runRegs
  dsimp only
  rw [if_neg hn, if_pos (by simp [hphys, htarget]), show c.target - 0x1200 = k by omega, if_neg (by simp [hlive])]

/-- The tile that a command of register words names (R375). -/
def Sys.regTile (t : Sys) (c : Cmd) : Option Nat :=
  if c.phys then some (c.p 14 1) else if c.target < 0x1200 then t.tileOfEid c.target else none

theorem Sys.regTile_some {x : Nat} (hx : t.regTile c = some x) :
    (!c.phys && decide (c.target ≥ 0x1200)) = false ∧ (if c.phys then some (c.p 14 1) else t.tileOfEid c.target) = some x := by
  unfold Sys.regTile at hx
  by_cases hphys : c.phys = true
  · rw [if_pos hphys] at hx ⊢
    exact ⟨by simp [hphys], hx⟩
  · rw [if_neg hphys] at hx ⊢
    split at hx
    next hlt => exact ⟨by simp [hlt], hx⟩
    next => exact absurd hx nofun

theorem Sys.runRegs_tile {x : Nat} (hn : c.p 12 2 ≠ 0) (hx : t.regTile c = some x) :
    t.runRegs h q c = (none, t.regNext h q c.num c.raw x 0) := by
  obtain ⟨hnohub, hx⟩ := Sys.regTile_some hx
  unfold Sys.runRegs
  dsimp only
  rw [if_neg hn, if_neg (by rw [hnohub]; decide), hx]

/-- The request for the first word of a command to a tile (R285, R375). -/
theorem Sys.regNext_first {x g v : Nat} (hoff : c.p 8 3 < 0x10000)
    (hread : (if c.op = 0x05 ∧ c.p 12 2 ≠ 1 then t.hostRead (c.p 16 8) 4 else some (if c.op = 0x05 then c.p 24 4 else 0)) = some v)
    (hfree : (t.hub h).freeTag x = some g) :
    let r : RegReq := { dst := x, tag := g, write := decide (c.op = 0x05), off := c.p 8 3, data := v % 2 ^ 32, since := t.now }
    t.regNext h q c.num c.raw x 0 =
      ((t.setHub h { t.hub h with reqs := (t.hub h).reqs ++ [r] }).sendMsg (256 + h)
        { dst := x, type := if c.op = 0x05 then 2 else 1, tag := g, payload := c.p 8 3 + 2 ^ 32 * r.data }).addWait
          h q c.num (.regs x g) {} := by
  intro r
  have hmsg : r.msg = { dst := x, type := if c.op = 0x05 then 2 else 1, tag := g, payload := c.p 8 3 + 2 ^ 32 * r.data } := by
    by_cases hop : c.op = 0x05
    · simp [RegReq.msg, r, hop]
    · have hv : v = 0 := by simpa [hop] using hread.symm
      simp [RegReq.msg, r, hop, hv]
  rw [← hmsg]
  have hdata : (if !decide (c.op = 0x05) then some 0 else if c.p 12 2 = 1 then some (c.p 24 4) else t.hostRead (c.p 16 8 + 4 * 0) 4) =
      some v := by
    rw [← hread]
    by_cases hop : c.op = 0x05
    · by_cases hn : c.p 12 2 = 1 <;> simp [hop, hn]
    · simp [hop]
  have hreq : t.regRequest h x (decide (c.op = 0x05)) (c.p 8 3 + 4 * 0) v =
      (some g, (t.setHub h { t.hub h with reqs := (t.hub h).reqs ++ [r] }).sendMsg (256 + h) r.msg) := by
    unfold Sys.regRequest
    rw [hfree]
    rfl
  have hnext : t.regNext h q c.num c.raw x 0 =
      (match (if !decide (c.op = 0x05) then some 0 else if c.p 12 2 = 1 then some (c.p 24 4) else t.hostRead (c.p 16 8 + 4 * 0) 4) with
      | none => t.pushReply h q c.num { status := stInternalError, field := 16, result := 0 }
      | some v =>
        if c.p 8 3 + 4 * 0 ≥ 0x10000 then t.pushReply h q c.num { status := stInvalidField, field := 8, result := 0 }
        else
          match t.regRequest h x (decide (c.op = 0x05)) (c.p 8 3 + 4 * 0) v with
          | (some g, s) => s.addWait h q c.num (.regs x g) { result := 0 }
          | (none, s) => s.pushReply h q c.num { status := stPartial, field := 6, result := 0 }) := rfl
  rw [hnext, hdata]
  dsimp only
  rw [if_neg (by omega), hreq]

/-- A tile's register space is what an accepted command of register words reaches there (R375). -/
theorem State.accepts_regs {x : Nat} (ha : s.accepts h q op (badRegsOn h q) c) (hx : (s.started h q c).regTile c = some x) :
    c.p 8 3 < 0x10000 := by
  have hown := State.accepts_own ha
  unfold badRegsOn badRegs at hown
  dsimp only at hown
  simp only [List.append_eq_nil_iff, fails_eq_nil, Bool.and_eq_true, Bool.or_eq_true, decide_eq_true_eq] at hown
  obtain ⟨⟨⟨⟨⟨⟨-, hreach⟩, -⟩, -⟩, -⟩, -⟩, -⟩ := hown
  rcases hreach with hhub | hoff
  · have := (Sys.regTile_some hx).1
    simp only [Bool.and_eq_false_iff, decide_eq_false_iff_not] at this
    simp only [Bool.not_eq_true'] at hhub
    rcases this with h' | h'
    · simp [hhub.1] at h'
    · exact absurd hhub.2 h'
  · exact hoff

end Registers

end Sys2Proof.Machine

/-! SUPPORT. Firmware that a command stages and activates, and O48. -/

namespace Sys2Proof.Machine

theorem Sys.SameButLog.boot {a b : Sys} (h : Sys.SameButLog a b) : b.boot = a.boot := by rw [h.1]

section Firmware
variable {s : Sys} {c : Cmd}

theorem Sys.bootHub_setBootHub (s : Sys) (h i : Nat) (b : BootHub) :
    (s.setBootHub h b).bootHub i = if i = h then b else s.bootHub i := NMap.get_put ..

theorem Sys.hub_setHub (s : Sys) (h i : Nat) (v : Hub) : (s.setHub h v).hub i = if i = h then v else s.hub i := NMap.get_put ..

/-- What FIRMWARE_STAGE leaves on one hub (R377). -/
def Sys.stageOn (i : Image) (ok : Bool) (s : Sys) (h : Nat) : Sys :=
  (s.modFlash h (fun f => { f with banks := NMap.put f.banks (1 - (s.bootHub h).bank) (if ok then i else {}) })).modBootHub h
    (fun b => { b with staged := ok })

theorem Sys.stageOn_bootHub (i : Image) (ok : Bool) (s : Sys) (h k : Nat) :
    (s.stageOn i ok h).bootHub k = if k = h then { s.bootHub h with staged := ok } else s.bootHub k :=
  Sys.bootHub_setBootHub ..

theorem Sys.stageOn_flash (i : Image) (ok : Bool) (s : Sys) (h k : Nat) :
    (s.stageOn i ok h).flash k = if k = h
      then { s.flash h with banks := NMap.put (s.flash h).banks (1 - (s.bootHub h).bank) (if ok then i else {}) }
      else s.flash k :=
  Sys.flash_setFlash ..

/-- Every hub staged holds the image, or an empty bank, in its inactive bank, and keeps its active one (R377). -/
theorem Sys.stageOn_foldl (i : Image) (ok : Bool) (l : List Nat) (s : Sys) {k : Nat} (hk : k ∈ l) :
    ((l.foldl (Sys.stageOn i ok) s).bootHub k).staged = ok ∧
      ((l.foldl (Sys.stageOn i ok) s).flash k).bank (1 - (s.bootHub k).bank) = (if ok then i else {}) ∧
      ((l.foldl (Sys.stageOn i ok) s).bootHub k).bank = (s.bootHub k).bank := by
  have hbank : ((l.foldl (Sys.stageOn i ok) s).bootHub k).bank = (s.bootHub k).bank := by
    refine List.foldlRecOn l _ (motive := fun u : Sys => (u.bootHub k).bank = (s.bootHub k).bank) rfl fun u hu h _ => ?_
    rw [Sys.stageOn_bootHub]
    split
    next h' => subst h'; exact hu
    next => exact hu
  have hstaged := foldl_establishes (f := Sys.stageOn i ok)
    (P := fun k u => (u.bootHub k).staged = ok ∧ (u.flash k).bank (1 - (u.bootHub k).bank) = (if ok then i else {}))
    (fun u h => ?set) (fun u h h' hu => ?keep) l s k hk
  case set =>
    rw [Sys.stageOn_bootHub, Sys.stageOn_flash, if_pos rfl, if_pos rfl]
    exact ⟨rfl, NMap.get_put_same ..⟩
  case keep =>
    rw [Sys.stageOn_bootHub, Sys.stageOn_flash]
    split
    next heq => subst heq; exact ⟨rfl, NMap.get_put_same ..⟩
    next => exact hu
  obtain ⟨hset, himage⟩ := hstaged
  exact ⟨hset, hbank ▸ himage, hbank⟩

theorem Sys.runStage_unread (hread : s.hostRead (c.p 8 8) (c.p 16 4) = none) : s.runStage c = (Reply.noRead 8 0, s) := by
  unfold Sys.runStage
  rw [hread]

theorem Sys.runStage_read {v : Nat} (hread : s.hostRead (c.p 8 8) (c.p 16 4) = some v) :
    let hubs := [0, 1].filter (fun h => (s.hub h).live)
    let ok := hubs.all (fun h => s.authentic h (imageOf v (c.p 16 4)))
    s.runStage c = (if ok then Reply.ok 0 else { status := stAuthFailed },
      hubs.foldl (Sys.stageOn (imageOf v (c.p 16 4)) ok) s) := by
  unfold Sys.runStage
  rw [hread]
  rfl

/-- What FIRMWARE_ACTIVATE leaves on one hub (R377, R520). -/
def Sys.activateOn (bank : Nat → Nat) (s : Sys) (h : Nat) : Sys :=
  ((s.modFlash h (fun f => { f with try_ := some (bank h), tries := 1 })).modHub h (fun u => { u with ready := false })).event h 0

/-- Hub `k` is on trial of its inactive bank and no longer ready (R520). -/
def Sys.onTrial (bank : Nat → Nat) (k : Nat) (u : Sys) : Prop :=
  (u.hub k).ready = false ∧ (u.flash k).try_ = some (bank k) ∧ (u.flash k).tries = 1

theorem Sys.activateOn_hub (bank : Nat → Nat) (s : Sys) (h k : Nat) :
    ((s.activateOn bank h).hub k).ready = ((if k = h then { s.hub h with ready := false } else s.hub k : Hub)).ready := by
  obtain ⟨-, hhub⟩ := Sys.event_sameButLog (s := (s.modFlash h (fun f => { f with try_ := some (bank h), tries := 1 })).modHub h
    (fun u => { u with ready := false })) h 0
  obtain ⟨r, m, hk⟩ := hhub k
  unfold Sys.activateOn
  rw [hk, Sys.modHub, Sys.hub_setHub]
  rfl

theorem Sys.activateOn_boot (bank : Nat → Nat) (s : Sys) (h : Nat) : (s.activateOn bank h).boot =
    (s.modFlash h (fun f => { f with try_ := some (bank h), tries := 1 })).boot :=
  (Sys.event_sameButLog h 0).boot

theorem Sys.activateOn_now (bank : Nat → Nat) (s : Sys) (h : Nat) : (s.activateOn bank h).now = s.now :=
  (Sys.event_sameButLog h 0).now

theorem Sys.activateOn_flash (bank : Nat → Nat) (s : Sys) (h k : Nat) :
    (s.activateOn bank h).flash k = if k = h then { s.flash h with try_ := some (bank h), tries := 1 } else s.flash k := by
  rw [Sys.flash, Sys.activateOn_boot]
  exact Sys.flash_setFlash ..

theorem Sys.activateOn_foldl (bank : Nat → Nat) (l : List Nat) (s : Sys) {k : Nat} (hk : k ∈ l) :
    Sys.onTrial bank k (l.foldl (Sys.activateOn bank) s) := by
  refine foldl_establishes (f := Sys.activateOn bank) (P := Sys.onTrial bank) (fun u h => ?_) (fun u h j hu => ?_) l s k hk
  · rw [Sys.onTrial, Sys.activateOn_hub, Sys.activateOn_flash, if_pos rfl, if_pos rfl]
    exact ⟨rfl, rfl, rfl⟩
  · rw [Sys.onTrial, Sys.activateOn_hub, Sys.activateOn_flash]
    split
    next heq => subst heq; exact ⟨rfl, rfl, rfl⟩
    next => exact hu

theorem Sys.runActivate_busy (hjob : s.lead.jobs.any (fun j => j.2.state.live) = true) : s.runActivate c = (Reply.busy 0, s) :=
  if_pos hjob

theorem Sys.runActivate_unstaged (hjob : s.lead.jobs.any (fun j => j.2.state.live) = false)
    (hst : (s.bootHub s.lead.hub).staged = false) : s.runActivate c = (Reply.deny 0, s) := by
  unfold Sys.runActivate
  dsimp only
  rw [if_neg (by rw [hjob]; decide), if_pos (by rw [hst]; rfl)]

theorem mem_liveHubs {k : Nat} (hk : k < 2) (hlive : (s.hub k).live = true) : k ∈ [0, 1].filter (fun h => (s.hub h).live) := by
  rw [List.mem_filter]
  exact ⟨by simp only [List.mem_cons, List.not_mem_nil, or_false]; omega, hlive⟩

/-- The panel that FIRMWARE_ACTIVATE leaves: every live hub on trial, the reset due within 10 ms (R377). -/
def Sys.activated (s : Sys) : Sys :=
  let u := ([0, 1].filter (fun h => (s.hub h).live)).foldl (Sys.activateOn (fun h => 1 - (s.bootHub h).bank)) s
  { u with boot := { u.boot with restartAt := some (u.now + 10000000) } }

theorem Sys.activated_restartAt (s : Sys) : s.activated.boot.restartAt = some (s.now + 10000000) := by
  refine congrArg (fun n => some (n + 10000000)) ?_
  exact List.foldlRecOn _ _ (motive := fun u : Sys => u.now = s.now) rfl fun u hu k _ => (Sys.activateOn_now ..).trans hu

theorem Sys.activated_onTrial {k : Nat} (hk : k < 2) (hlive : (s.hub k).live = true) :
    Sys.onTrial (fun h => 1 - (s.bootHub h).bank) k s.activated :=
  Sys.activateOn_foldl _ _ s (mem_liveHubs hk hlive)

theorem Sys.runActivate_staged (hjob : s.lead.jobs.any (fun j => j.2.state.live) = false)
    (hst : (s.bootHub s.lead.hub).staged = true) :
    s.runActivate c = (Reply.ok ((s.flash s.lead.hub).bank (1 - (s.bootHub s.lead.hub).bank)).version, s.activated) := by
  unfold Sys.runActivate
  dsimp only
  rw [if_neg (by rw [hjob]; decide), if_neg (by rw [hst]; decide)]
  rfl

end Firmware

section Settling
variable {s : State} {h q : Nat} {c : Cmd}

theorem now_answers {f : Sys → Cmd → Reply × Sys} {t u : Sys} {r : Reply} (hf : f t c = (r, u)) : now_ f t c = (some r, u) := by
  rw [now_, hf]

/-- A command that writes the flash, where the flash works or fails (R377). -/
theorem State.exec_flashed {i : Instr} {op : Nat} {bad : Sys → Cmd → List (Nat × Nat)} {f : Sys → Cmd → Reply × Sys} {fail : Bool}
    (hexec : exec i s = s.act i.wf (fun y => y.command h q op bad (now_ (flashed fail f)))) (hwf : i.wf = true)
    (ha : s.accepts h q op bad c) {r : Reply} {u : Sys} (hf : f (s.started h q c) c = (r, u)) :
    exec i s = .next (if fail = true ∧ (r.status < 0x10 ∨ r.status = stAuthFailed)
      then s.replied h q c (s.started h q c) { status := stFlashError } else s.replied h q c u r) := by
  have hr : r = (f (s.started h q c) c).1 := by rw [hf]
  rw [State.exec_now hexec hwf ha]
  by_cases hflash : fail = true ∧ (r.status < 0x10 ∨ r.status = stAuthFailed)
  · obtain ⟨rfl, hst⟩ := hflash
    rw [flashed_fails (hr ▸ hst), if_pos ⟨rfl, hst⟩]
  · rw [if_neg hflash]
    have hsame : flashed fail f (s.started h q c) c = f (s.started h q c) c := by
      refine if_neg ?_
      rw [← hr]
      simpa using hflash
    rw [hsame, hf]

end Settling

end Sys2Proof.Machine

/-! O48. -/

namespace Sys2Proof.Machine

section Started
variable {s : State} {h q : Nat} {c : Cmd}

/-- Marking a command started touches no hub's life (R358). -/
theorem State.started_live (s : State) (h q : Nat) (c : Cmd) (k : Nat) :
    ((s.started h q c).hub k).live = (s.sys.hub k).live := by
  unfold State.started Sys.markStarted Sys.setQP Sys.modHub
  dsimp only
  rw [Sys.hub_setHub]
  split
  next heq => rw [heq]; rfl
  next => rfl

end Started

/-- Settles O48. -/
theorem settingCommandsTakeEffect : Obligations.SettingCommandsTakeEffect := by
  unfold Obligations.SettingCommandsTakeEffect
  intro s h q c hh hq t say
  have hwf : (isHub h && isPair q) = true := by simp [isHub, isPair, hh, hq]
  have hlive (k : Nat) : (t.hub k).live = (s.sys.hub k).live := State.started_live ..
  refine ⟨fun ha => ?feature, fun v o hst hgood hread hbad => ?badFeature, ⟨fun ha => ?read, fun ha => ?write⟩,
    fun fail ha => ?config, fun fail v hst hgood hsub hsize halign hread => ?badConfig, fun ha => ?stage, fun ha => ?activate⟩
  case feature =>
    intro f i
    rw [State.exec_now (exec_setFeature h q s) hwf ha]
    refine ⟨fun hn => ?_, fun hn hread => ?_, fun v hn hread => ?_⟩
    · rw [Sys.runSetFeature_empty hn]
      rfl
    · rw [Sys.runSetFeature_unread hn hread]
      rfl
    · rw [Sys.runSetFeature_read hn hread]
      refine ⟨fun hf hused => ?_, fun hf hused => ?_, fun hf => ?_⟩
      · rw [if_pos hf, if_pos hused]
        rfl
      · rw [if_pos hf, if_neg (by rw [hused]; decide)]
        rfl
      · obtain ⟨hlo, hhi, hres⟩ := capBad_none (State.accepts_cap ha hn hf hread)
        exact ⟨hlo, hhi, hres, by rw [if_neg (by rw [show c.p 8 2 = 3 from hf]; decide)]; rfl⟩
  case badFeature =>
    have hcases : (c.p 8 2 = 2 ∧ c.p 12 4 = 64 ∧ profileBad v = some o) ∨ (c.p 8 2 = 3 ∧ c.p 12 4 = 16 ∧ capBad v = some o) := by
      rcases hbad with hprofile | ⟨hf, hn, hv, rfl⟩ | ⟨hf, hn, hlo, hhi, hv, rfl⟩
      · exact .inl hprofile
      · exact .inr ⟨hf, hn, capBad_low hv⟩
      · exact .inr ⟨hf, hn, capBad_high hlo hhi hv⟩
    have ho : o < 64 := by
      rcases hbad with ⟨-, -, ho⟩ | ⟨-, -, -, rfl⟩ | ⟨-, -, -, -, -, rfl⟩
      · exact profileBad_lt ho
      · decide
      · decide
    obtain ⟨hbase, hown⟩ := State.checks_setFeature hgood hread hcases
    rw [State.exec_refused (exec_setFeature h q s) hwf hst rfl hbase (by rw [hown]; rfl), if_neg (by unfold denyMark; omega)]
    rfl
  case read =>
    refine ⟨fun hn => ?_, fun k hphys htarget hn hk => ⟨fun _ => ?_, fun hop => absurd hop (by decide)⟩,
      fun k hphys htarget hn hk => ?_, fun x g v hx hn hv hfree => ?_⟩
    · exact State.exec_answers (exec_regRead h q s) hwf ha (Sys.runRegs_empty hn)
    · rw [State.exec_answers (exec_regRead h q s) hwf ha (Sys.runRegs_hub (by omega) hphys htarget ((hlive k).trans hk)), hn,
        (Sys.hubWords_one hn).1 (State.starts_op ha.1)]
      rfl
    · exact State.exec_answers (exec_regRead h q s) hwf ha (Sys.runRegs_hub (by omega) hphys htarget ((hlive k).trans hk))
    · have hop : c.op = 0x04 := State.starts_op ha.1
      rw [State.exec_waits (exec_regRead h q s) hwf ha ((Sys.runRegs_tile hn hx).trans
        (congrArg _ (Sys.regNext_first (State.accepts_regs ha hx) (by rw [hop]; exact hv) hfree))), hop]
      rfl
  case write =>
    refine ⟨fun hn => ?_, fun k hphys htarget hn hk => ⟨fun hop => absurd hop (by decide), fun _ => ?_⟩,
      fun k hphys htarget hn hk => ?_, fun x g v hx hn hv hfree => ?_⟩
    · exact State.exec_answers (exec_regWrite h q s) hwf ha (Sys.runRegs_empty hn)
    · rw [State.exec_answers (exec_regWrite h q s) hwf ha (Sys.runRegs_hub (by omega) hphys htarget ((hlive k).trans hk)), hn,
        (Sys.hubWords_one hn).2 (State.starts_op ha.1)]
      rfl
    · exact State.exec_answers (exec_regWrite h q s) hwf ha (Sys.runRegs_hub (by omega) hphys htarget ((hlive k).trans hk))
    · have hop : c.op = 0x05 := State.starts_op ha.1
      rw [State.exec_waits (exec_regWrite h q s) hwf ha ((Sys.runRegs_tile hn hx).trans
        (congrArg _ (Sys.regNext_first (State.accepts_regs ha hx) (by rw [hop]; exact hv) hfree))), hop]
      rfl
  case config =>
    refine ⟨fun hread => ?_, fun v hread => ?_⟩
    · rw [State.exec_flashed (exec_configWrite h ⟨q, fail⟩ s) hwf ha (Sys.runConfigWrite_unread hread), if_neg (fun hf => absurd hf.2 (by decide))]
      rfl
    · rw [State.exec_flashed (exec_configWrite h ⟨q, fail⟩ s) hwf ha (Sys.runConfigWrite_read hread)]
      cases fail <;> rfl
  case badConfig =>
    refine ⟨fun o ho hunlock => ?_, fun r hty hrec hlocked hv => ?_⟩
    · have hne : ¬ o = denyMark := by
        have := confBad_lt ho
        unfold denyMark
        omega
      rw [State.exec_refused (exec_configWrite h ⟨q, fail⟩ s) hwf hst rfl hgood
        (by rw [badConfigWrite_record hsub hsize halign hread, ho, hunlock]; rfl), if_neg hne]
      rfl
    · have hunlock : t.unlocks (c.p 8 2) v = true := by simp [Sys.unlocks, hty, hrec, hlocked, hv]
      have hlow : lowestBad (badConfigWrite t c) = some (8, denyMark) := by
        rw [badConfigWrite_record hsub hsize halign hread, hunlock]
        cases confBad (c.p 8 2) v <;> rfl
      rw [State.exec_refused (exec_configWrite h ⟨q, fail⟩ s) hwf hst rfl hgood hlow, if_pos rfl]
      rfl
  case stage =>
    refine ⟨fun fail hread => ?_, fun v hread => ⟨?_, ?_⟩⟩
    · rw [State.exec_flashed (exec_firmwareStage h ⟨q, fail⟩ s) hwf ha (Sys.runStage_unread hread), if_neg (fun hf => absurd hf.2 (by decide))]
      rfl
    · rw [State.exec_flashed (exec_firmwareStage h ⟨q, true⟩ s) hwf ha (Sys.runStage_read hread), if_pos ⟨rfl, by split <;> decide⟩]
    · intro m ok
      have hok : ([0, 1].filter (fun k => (t.hub k).live)).all (fun k => t.authentic k m) = ok := by
        simp only [hlive, ok]
      refine ⟨([0, 1].filter (fun k => (t.hub k).live)).foldl (Sys.stageOn m ok) t, ?_, fun k hk hklive =>
        Sys.stageOn_foldl m ok _ t (mem_liveHubs hk ((hlive k).trans hklive))⟩
      rw [State.exec_flashed (exec_firmwareStage h ⟨q, false⟩ s) hwf ha (Sys.runStage_read hread), if_neg (by simp)]
      rw [← hok]
      refine congrArg (fun r => Host.Outcome.next (s.replied h q c _ r)) ?_
      split <;> rfl
  case activate =>
    intro job
    refine ⟨fun fail hjob => ?_, fun fail hjob hst => ?_, fun hjob hst => ⟨?_, ?_⟩⟩
    · rw [State.exec_flashed (exec_firmwareActivate h ⟨q, fail⟩ s) hwf ha (Sys.runActivate_busy hjob), if_neg (fun hf => absurd hf.2 (by decide))]
      rfl
    · rw [State.exec_flashed (exec_firmwareActivate h ⟨q, fail⟩ s) hwf ha (Sys.runActivate_unstaged hjob hst),
        if_neg (fun hf => absurd hf.2 (by decide))]
      rfl
    · rw [State.exec_flashed (exec_firmwareActivate h ⟨q, true⟩ s) hwf ha (Sys.runActivate_staged hjob hst),
        if_pos ⟨rfl, .inl (Nat.zero_lt_succ 15)⟩]
    · refine ⟨t.activated, ?_, Sys.activated_restartAt t, fun k hk hklive =>
        Sys.activated_onTrial hk ((hlive k).trans hklive)⟩
      rw [State.exec_flashed (exec_firmwareActivate h ⟨q, false⟩ s) hwf ha (Sys.runActivate_staged hjob hst), if_neg (by simp)]
      rfl

end Sys2Proof.Machine

/-! SUPPORT. What leaves the health scores as they are, and O49. -/

namespace Sys2Proof.Machine

theorem Sys.SameButLog.health {a b : Sys} (h : Sys.SameButLog a b) : b.health = a.health := by rw [h.1]

section Units
variable {s : Sys}

theorem Sys.unit_modUnit_same (s : Sys) (key : Nat) (f : Unit_ → Unit_) : (s.modUnit key f).unit key = f (s.unit key) :=
  NMap.get_put_same ..

/-- The units' records depend on the health part alone. -/
theorem Sys.unit_congr {a b : Sys} (h : b.health = a.health) (key : Nat) : b.unit key = a.unit key := by
  rw [Sys.unit, h, Sys.unit]

theorem Sys.mapShed_health (kind wher sub state logical : Nat) : (s.mapShed kind wher sub state logical).health = s.health := rfl

theorem Sys.bothEnds_health (t p : Nat) (f : MeshPort → MeshPort) : (s.bothEnds t p f).health = s.health := by
  unfold Sys.bothEnds
  split <;> rfl

theorem Sys.askSwitch_health : s.askSwitch.health = s.health := by
  unfold Sys.askSwitch
  split <;> rfl

theorem Sys.unfence_health (t : Nat) : (s.unfence t).health = s.health := rfl
theorem Sys.calibrate_health (n wg : Nat) : (s.calibrate n wg).health = s.health := rfl
theorem Sys.portBack_health (e p lanes : Nat) : (s.portBack e p lanes).health = s.health := rfl

theorem Sys.foldl_health {α : Type} {f : Sys → α → Sys} (hf : ∀ s a, (f s a).health = s.health) (l : List α) (s : Sys) :
    (l.foldl f s).health = s.health :=
  List.foldlRecOn l f (motive := fun u : Sys => u.health = s.health) rfl fun u hu a _ => (hf u a).trans hu

theorem Sys.tileUp_health (t : Nat) : (s.tileUp t).health = s.health := by
  unfold Sys.tileUp Sys.tadUp
  refine Sys.foldl_health (fun u p => ?_) _ _
  split
  · split <;> rfl
  · rfl

/-- A unit that returns comes with a score of 0 and its counts, and nothing else that its return does changes a score
(R379). -/
theorem Sys.unitBack_health (kind wher sub : Nat) : (s.unitBack kind wher sub).health =
    (s.modUnit (unitKey kind wher sub) (fun u => { events := u.events, lastCode := u.lastCode, lastTime := u.lastTime })).health := by
  unfold Sys.unitBack
  extract_lets u v retrain up rows cleared lit
  have hv : v.health = u.health := Sys.mapShed_health ..
  have hretrain (w : Sys) (p : Nat) : (retrain w p).health = w.health := Sys.bothEnds_health ..
  have hup : up.health = v.health := by
    unfold up
    split
    · rfl
    · exact (Sys.foldl_health hretrain ..).trans (Sys.tileUp_health ..)
  split
  · rw [Sys.askSwitch_health, Sys.unfence_health]
    exact hup.trans hv
  split
  · exact hv
  split
  · rw [Sys.askSwitch_health, hretrain, hv]
  split
  · rw [Sys.askSwitch_health, hretrain, hv]
  split
  · rw [Sys.askSwitch_health, hretrain, hv]
  split
  · rw [Sys.askSwitch_health, Sys.calibrate_health, hv]
  split
  · rw [Sys.askSwitch_health, Sys.portBack_health, hv]
  · rw [Sys.askSwitch_health, Sys.foldl_health fun _ _ => Sys.portBack_health ..]
    exact hv

end Units

section Shed
variable {s : Sys} {h q : Nat} {c : Cmd}

theorem Sys.runUnitShed_shed (hshed : (s.unit (unitKey (c.p 8 1) (c.p 10 2) (c.p 12 2))).shed.isSome = true) :
    s.runUnitShed h q c = (some (Reply.ok 0), s) := if_pos hshed

theorem Sys.runUnitShed_spare (hshed : (s.unit (unitKey (c.p 8 1) (c.p 10 2) (c.p 12 2))).shed = none)
    (hspare : s.spareLeft (c.p 8 1) (c.p 10 2) (c.p 12 2) = true) :
    s.runUnitShed h q c = (none, (s.startDrain (c.p 8 1) (c.p 10 2) (c.p 12 2) true).addWait h q c.num
      (.shed (unitKey (c.p 8 1) (c.p 10 2) (c.p 12 2)) (if c.p 8 1 = ukTile then (s.servedBy (c.p 10 2)).getD 256 else 256)) {}) := by
  unfold Sys.runUnitShed
  dsimp only
  rw [hshed, if_neg (by decide), hspare, if_neg (by decide)]

/-- A unit without a spare left that serves goes into watch (R379). -/
theorem Sys.runUnitShed_noSpare (hshed : (s.unit (unitKey (c.p 8 1) (c.p 10 2) (c.p 12 2))).shed = none)
    (hspare : s.spareLeft (c.p 8 1) (c.p 10 2) (c.p 12 2) = false) :
    s.runUnitShed h q c = (some { status := stNoSpare },
      if (s.unit (unitKey (c.p 8 1) (c.p 10 2) (c.p 12 2))).watch.isSome then s
      else ((s.modUnit (unitKey (c.p 8 1) (c.p 10 2) (c.p 12 2)) (fun u => { u with watch := some s.now })).log 0x0022 0
        (c.p 8 1) (c.p 10 2) (c.p 12 2) 0).eventBoth 7) := by
  unfold Sys.runUnitShed
  dsimp only
  rw [hshed, if_neg (by decide), hspare, if_pos (by decide)]

theorem Sys.runUnitRegrow_fails {pass : Bool}
    (hfail : pass = false ∨ c.p 8 1 = ukBank ∨ (c.p 8 1 = ukTile ∧ s.mayJoin (c.p 10 2) = false)) :
    s.runUnitRegrow pass c = (Reply.deny 8, s) := by
  refine if_neg ?_
  rcases hfail with rfl | hbank | ⟨htile, hjoin⟩
  · simp
  · simp [hbank]
  · simp [htile, hjoin]

theorem Sys.runUnitRegrow_passes {pass : Bool} (hpass : pass = true) (hbank : c.p 8 1 ≠ ukBank)
    (hjoin : c.p 8 1 = ukTile → s.mayJoin (c.p 10 2) = true) :
    s.runUnitRegrow pass c = (Reply.ok 0, s.unitBack (c.p 8 1) (c.p 10 2) (c.p 12 2)) := by
  refine if_pos ?_
  by_cases htile : c.p 8 1 = ukTile
  · simp [hpass, hbank, hjoin htile]
  · simp [hpass, hbank, htile]

theorem Sys.runWatchClear_frozen (hfrozen : s.health.frozen s.now = true) :
    s.runWatchClear c = ({ status := stScoreStorm }, s) := if_pos hfrozen

theorem Sys.runWatchClear_clear (hfrozen : s.health.frozen s.now = false)
    (hwatch : (s.unit (unitKey (c.p 8 1) (c.p 10 2) (c.p 12 2))).watch = none) : s.runWatchClear c = (Reply.ok 0, s) := by
  unfold Sys.runWatchClear
  dsimp only
  rw [hfrozen, if_neg (by decide), hwatch, if_pos (by decide)]

/-- A watch that ends takes the score with it (R379). -/
theorem Sys.runWatchClear_watched (hfrozen : s.health.frozen s.now = false)
    (hwatch : (s.unit (unitKey (c.p 8 1) (c.p 10 2) (c.p 12 2))).watch.isSome = true) :
    ∃ u : Sys, u.unit (unitKey (c.p 8 1) (c.p 10 2) (c.p 12 2)) = s.unit (unitKey (c.p 8 1) (c.p 10 2) (c.p 12 2)) ∧
      s.runWatchClear c = (Reply.ok 0, u.modUnit (unitKey (c.p 8 1) (c.p 10 2) (c.p 12 2))
        (fun v => { v with base := 0, baseAt := u.now, score := 0, watch := none, held := false })) := by
  have hrun : s.runWatchClear c = (Reply.ok 0,
      let u := if (s.unit (unitKey (c.p 8 1) (c.p 10 2) (c.p 12 2))).held then s.eventBoth 7 else s
      u.modUnit (unitKey (c.p 8 1) (c.p 10 2) (c.p 12 2))
        (fun v => { v with base := 0, baseAt := u.now, score := 0, watch := none, held := false })) := by
    unfold Sys.runWatchClear
    dsimp only
    rw [hfrozen, if_neg (by decide), if_neg (by simpa [Option.isSome_iff_ne_none] using hwatch)]
  refine ⟨_, ?_, hrun⟩
  split
  · exact Sys.unit_congr (Sys.eventBoth_sameButLog 7).health _
  · rfl

end Shed

/-- Settles O49. -/
theorem unitCommandsTakeEffect : Obligations.UnitCommandsTakeEffect := by
  unfold Obligations.UnitCommandsTakeEffect
  intro s h q c hh hq t say k w b key
  have hwf : (isHub h && isPair q) = true := by simp [isHub, isPair, hh, hq]
  refine ⟨fun ha => ?shed, fun pass ha => ?regrow, fun ha => ?watch⟩
  case shed =>
    refine ⟨fun hshed => ?_, fun hshed hspare => ?_, fun hshed hspare hwatch => ?_, fun hshed hspare hwatch => ?_⟩
    · exact State.exec_answers (exec_unitShed h q s) hwf ha (Sys.runUnitShed_shed hshed)
    · exact State.exec_waits (exec_unitShed h q s) hwf ha (Sys.runUnitShed_spare hshed hspare)
    · exact State.exec_answers (exec_unitShed h q s) hwf ha ((Sys.runUnitShed_noSpare hshed hspare).trans (by rw [if_pos hwatch]))
    · refine ⟨_, State.exec_answers (exec_unitShed h q s) hwf ha
        ((Sys.runUnitShed_noSpare hshed hspare).trans (by rw [if_neg (by rw [hwatch]; decide)])), ?_⟩
      rw [Sys.unit_congr ((Sys.eventBoth_sameButLog 7).health.trans (Sys.log_sameButLog ..).health), Sys.unit_modUnit_same]
      exact ⟨rfl, rfl, hshed⟩
  case regrow =>
    refine ⟨fun hfail => ?_, fun hpass hbank hjoin => ?_⟩
    · rw [State.exec_now (exec_unitRegrow h q pass s) hwf ha, Sys.runUnitRegrow_fails hfail]
      rfl
    · rw [State.exec_now (exec_unitRegrow h q pass s) hwf ha, Sys.runUnitRegrow_passes hpass hbank hjoin,
        Sys.unit_congr (Sys.unitBack_health k w b), Sys.unit_modUnit_same]
      exact ⟨rfl, rfl, rfl, rfl⟩
  case watch =>
    refine ⟨fun hfrozen => ?_, fun hfrozen hwatch => ?_, fun hfrozen hwatch => ?_⟩
    · rw [State.exec_now (exec_unitWatchClear h q s) hwf ha, Sys.runWatchClear_frozen hfrozen]
    · rw [State.exec_now (exec_unitWatchClear h q s) hwf ha, Sys.runWatchClear_clear hfrozen hwatch]
      rfl
    · obtain ⟨u, hunit, hrun⟩ := Sys.runWatchClear_watched hfrozen hwatch
      refine ⟨_, by rw [State.exec_now (exec_unitWatchClear h q s) hwf ha, hrun]; rfl, ?_⟩
      rw [Sys.unit_modUnit_same, hunit]
      exact ⟨rfl, rfl, rfl, rfl⟩

end Sys2Proof.Machine

/-! SUPPORT. Partition resets, multicast groups and reduction groups, and O51. -/

namespace Sys2Proof.Machine

section Jobs
variable {s : Sys}

theorem Sys.coreCtrl_lead (slots : List (Nat × Nat)) (code : Nat) : (s.coreCtrl slots code).lead = s.lead :=
  List.foldlRecOn (motive := fun u : Sys => u.lead = s.lead) _ _ rfl fun _ hu _ _ => hu

/-- A job's entry once it is asked to stop (R402). -/
def Job.toStop (j : Job) (fail : Nat) : Job := { j with stopping := true, stopFail := fail, commit := none, holdFor := 0 }

/-- A stop changes only what its job's entry says of the stop (R402). -/
theorem Sys.stopJob_lead (n fail : Nat) :
    (s.stopJob n fail).lead = { s.lead with jobs := NMap.put s.lead.jobs n ((s.job n).toStop fail) } :=
  Sys.coreCtrl_lead ..

/-- An entry of the partition that is live keeps the partition busy, wherever it stands in the table (R381). -/
theorem Sys.partBusy_put {t : Sys} {p n : Nat} {j : Job} (ht : t.lead.jobs = NMap.put s.lead.jobs n j)
    (hj : j.spec.partition = p ∧ j.state.live = true) : t.partBusy p = true := by
  unfold Sys.partBusy
  rw [ht, (NMap.put_perm _ _ _).any_eq, List.any_cons]
  simp [hj]

/-- Job `n` of the partition has not ended. -/
def Sys.runsIn (s : Sys) (p n : Nat) : Prop := (s.job n).spec.partition = p ∧ (s.job n).state.live = true

theorem Sys.partBusy_of_runsIn {p n : Nat} (hn : s.runsIn p n) : s.partBusy p = true := by
  obtain ⟨hp, hlive⟩ := hn
  rcases NMap.get_eq_default_or_mem ({} : Job) s.lead.jobs n with hdef | hmem
  · rw [Sys.job, hdef] at hlive
    exact absurd hlive (by decide)
  · exact List.any_eq_true.mpr ⟨_, hmem, by simp [← hp, Sys.job] at hlive ⊢; exact hlive⟩

/-- Stopping jobs of a partition ends none of them and answers nothing (R381, R402). -/
theorem Sys.stopJobs_keep {p : Nat} (l : List Nat) (hl : ∀ n ∈ l, s.runsIn p n) (hbusy : s.partBusy p = true) :
    let u := l.foldl (fun (u : Sys) n => u.stopJob n 0) s
    u.partBusy p = true ∧ u.lead.waits = s.lead.waits := by
  intro u
  have hkeep : (∀ n, s.runsIn p n → u.runsIn p n) ∧ u.partBusy p = true ∧ u.lead.waits = s.lead.waits := by
    refine List.foldlRecOn l _ (motive := fun u : Sys =>
      (∀ n, s.runsIn p n → u.runsIn p n) ∧ u.partBusy p = true ∧ u.lead.waits = s.lead.waits) ⟨fun _ h => h, hbusy, rfl⟩ ?_
    intro v hv n hn
    obtain ⟨hruns, -, hwaits⟩ := hv
    have hlead := Sys.stopJob_lead (s := v) n 0
    have hjobs : (v.stopJob n 0).lead.jobs = NMap.put v.lead.jobs n ((v.job n).toStop 0) := by rw [hlead]
    refine ⟨fun m hm => ?_, Sys.partBusy_put hjobs (hruns n (hl n hn)), by rw [hlead, ← hwaits]⟩
    have := hruns m hm
    unfold Sys.runsIn Sys.job at this ⊢
    rw [hjobs, NMap.get_put]
    split
    next heq => subst heq; exact this
    next => exact this
  exact hkeep.2

end Jobs

section Reset
variable {s : Sys} {h q : Nat} {c : Cmd}

theorem Sys.runPartCreate_crowded (hfull : 16 ≤ s.lead.partitions.length) : s.runPartCreate c = (Reply.busy 0, s) :=
  if_pos hfull

theorem Sys.runPartDestroy_busy (hbusy : s.partBusy c.partition = true) : s.runPartDestroy c = (Reply.busy 0, s) := if_pos hbusy

theorem Sys.runPartDestroy_idle (hidle : s.partBusy c.partition = false) :
    let v := (s.disablePairs (some c.partition) 6 none).partTearDown c.partition
    s.runPartDestroy c = (Reply.ok 0, v.setLead { v.lead with partitions := NMap.erase v.lead.partitions c.partition }) :=
  if_neg (by rw [hidle]; decide)

/-- The jobs of a partition that have not ended. -/
def Sys.runningIn (s : Sys) (p : Nat) : List Nat :=
  (NMap.keys s.lead.jobs).filter (fun n => (s.job n).spec.partition = p && (s.job n).state.live)

theorem Sys.mem_runningIn {p n : Nat} (hn : n ∈ s.runningIn p) : s.runsIn p n := by
  have := (List.mem_filter.mp hn).2
  simpa [Sys.runsIn] using this

/-- A reset of a partition with running jobs waits for them (R381). -/
theorem Sys.runPartReset_busy (hwaits : s.lead.waits = []) (hbusy : s.partBusy c.partition = true) :
    s.runPartReset h q c = (none, ((s.runningIn c.partition).foldl (fun (u : Sys) n => u.stopJob n 0) s).addWait h q c.num
      (.reset_ c.partition) {}) := by
  obtain ⟨hstill, hw⟩ := Sys.stopJobs_keep (s.runningIn c.partition) (fun n hn => Sys.mem_runningIn hn) hbusy
  refine congrArg (Prod.mk none) ?_
  change Sys.settleResets (Sys.addWait (List.foldl _ s (s.runningIn c.partition)) h q c.num (.reset_ c.partition) {}) = _
  generalize (s.runningIn c.partition).foldl (fun (u : Sys) n => u.stopJob n 0) s = u at hstill hw ⊢
  unfold Sys.settleResets
  rw [show (u.addWait h q c.num (.reset_ c.partition) {}).lead.waits =
    [{ hub := h, qp := q, num := c.num, for_ := .reset_ c.partition, reply := {} }] by
      rw [Sys.addWait, Sys.modLead, hw, hwaits]; rfl]
  exact if_pos hstill

/-- A reset of a partition without running jobs takes effect and is answered (R381). -/
theorem Sys.runPartReset_idle (hwaits : s.lead.waits = []) (hbusy : s.partBusy c.partition = false) :
    s.runPartReset h q c = (none,
      (((((s.addWait h q c.num (.reset_ c.partition) {}).disablePairs (some c.partition) 6 (some (h, q))).partTearDown
        c.partition).answerWaits (fun f => f = .reset_ c.partition) (fun r => r)).disablePairs (some c.partition) 6 none)) := by
  have hnone : s.runningIn c.partition = [] := by
    rw [List.eq_nil_iff_forall_not_mem]
    intro n hn
    exact absurd (Sys.partBusy_of_runsIn (Sys.mem_runningIn hn)) (by rw [hbusy]; decide)
  refine congrArg (Prod.mk none) ?_
  change Sys.settleResets (Sys.addWait (List.foldl _ s (s.runningIn c.partition)) h q c.num (.reset_ c.partition) {}) = _
  rw [hnone, List.foldl_nil]
  unfold Sys.settleResets
  rw [show (s.addWait h q c.num (.reset_ c.partition) {}).lead.waits =
    [{ hub := h, qp := q, num := c.num, for_ := .reset_ c.partition, reply := {} }] by
      rw [Sys.addWait, Sys.modLead, hwaits]; rfl]
  exact if_neg (by rw [show (s.addWait h q c.num (.reset_ c.partition) {}).partBusy c.partition = false from hbusy]; decide)

end Reset

section Groups
variable {s : Sys} {c : Cmd}

theorem Sys.hostList_length {a w n : Nat} {l : List Nat} (hl : s.hostList a w n = some l) : l.length = n := by
  unfold Sys.hostList at hl
  split at hl
  next hn => rw [← Option.some.inj hl, hn]; rfl
  next =>
    obtain ⟨v, -, rfl⟩ := Option.map_eq_some_iff.mp hl
    rw [List.length_map, List.length_range]

/-- The first index that is wrong. -/
theorem firstIndex_first {l : List Nat} {f : Nat → Nat → Bool} {i : Nat} (hi : i < l.length) (hwrong : f i (l.getD i 0) = true)
    (hfirst : ∀ k, k < i → f k (l.getD k 0) = false) : firstIndex l f = some i := by
  unfold firstIndex
  rw [List.find?_range_eq_some]
  refine ⟨hwrong, List.mem_range.mpr hi, fun k hk => ?_⟩
  rw [hfirst k hk]
  rfl

theorem firstIndex_none {l : List Nat} {f : Nat → Nat → Bool} (hnone : ∀ i, i < l.length → f i (l.getD i 0) = false) :
    firstIndex l f = none := by
  unfold firstIndex
  rw [List.find?_eq_none]
  intro k hk
  rw [hnone k (List.mem_range.mp hk)]
  decide

/-- The entry of a placed group at its holder, with the relays it needs (R262, R267). -/
def Sys.mcPut (s : Sys) (t n e k : Nat) (rel : List (Nat × Nat × Nat)) : Sys :=
  rel.foldl (fun (s : Sys) r =>
    let p := s.replica r.1
    s.setReplica r.1 { p with relay := NMap.put p.relay r.2.1 r.2.2 })
    (s.setReplica t { s.replica t with mcast := NMap.put (s.replica t).mcast n e, members := NMap.put (s.replica t).members n k })

theorem Sys.mcPut_entry (t n e k : Nat) (rel : List (Nat × Nat × Nat)) :
    NMap.get 0 ((s.mcPut t n e k rel).replica t).mcast n = e ∧ NMap.get 0 ((s.mcPut t n e k rel).replica t).members n = k ∧
      (s.mcPut t n e k rel).lead = s.lead := by
  refine List.foldlRecOn rel _ (motive := fun u : Sys => NMap.get 0 (u.replica t).mcast n = e ∧
    NMap.get 0 (u.replica t).members n = k ∧ u.lead = s.lead) ?_ fun u hu r _ => ?_
  · rw [Sys.replica_setReplica_same]
    exact ⟨NMap.get_put_same .., NMap.get_put_same .., rfl⟩
  · obtain ⟨hm, hk, hlead⟩ := hu
    by_cases heq : t = r.1
    · subst heq
      dsimp only
      rw [Sys.replica_setReplica_same]
      exact ⟨hm, hk, hlead⟩
    · dsimp only
      rw [Sys.replica_setReplica_other _ _ _ _ heq]
      exact ⟨hm, hk, hlead⟩

theorem Sys.runMcast_clear (hclear : bitOf (c.p 9 1) 2 = true) : s.runMcast c = (Reply.ok 0, s.mcClear c.target (c.p 8 1)) :=
  if_pos hclear

theorem Sys.runMcast_unread (hclear : bitOf (c.p 9 1) 2 = false) (hlist : s.hostList (c.p 16 8) 2 (c.p 10 2) = none) :
    s.runMcast c = (Reply.noRead 16 0, s) := by
  unfold Sys.runMcast
  dsimp only
  rw [if_neg (by rw [hclear]; decide), hlist]

theorem Sys.runMcast_full {l : List Nat} (hclear : bitOf (c.p 9 1) 2 = false)
    (hlist : s.hostList (c.p 16 8) 2 (c.p 10 2) = some l) (hplace : (s.mcClear c.target (c.p 8 1)).mcPlace (c.mcGroup l) = none) :
    s.runMcast c = (Reply.busy 0, s) := by
  unfold Sys.runMcast
  dsimp only
  rw [if_neg (by rw [hclear]; decide), hlist]
  dsimp only
  rw [hplace]

theorem Sys.runMcast_placed {l : List Nat} {g : McGroup} {e k x : Nat} {rel : List (Nat × Nat × Nat)}
    (hclear : bitOf (c.p 9 1) 2 = false) (hlist : s.hostList (c.p 16 8) 2 (c.p 10 2) = some l)
    (hplace : (s.mcClear c.target (c.p 8 1)).mcPlace (c.mcGroup l) = some (g, e, k, rel))
    (hx : memberNode s.lead.place c.target = some x) :
    s.runMcast c = (Reply.ok 0, ((s.mcClear c.target (c.p 8 1)).mcPut x (c.p 8 1) e k rel).modLead
      (fun l => { l with mcs := l.mcs ++ [g] })) := by
  unfold Sys.runMcast
  dsimp only
  rw [if_neg (by rw [hclear]; decide), hlist]
  dsimp only
  rw [hplace, hx]
  rfl

/-- A member that is wrong is MCAST_GROUP_SET's only fault, named by its place in the list (R387). -/
theorem badMcast_member {l : List Nat} {i : Nat} (hn : c.p 8 1 < 64) (hmode : bitOf (c.p 9 1) 1 = false ∨ s.offers 5 = true)
    (hclear : bitOf (c.p 9 1) 2 = false) (hlo : 1 ≤ c.p 10 2) (hhi : c.p 10 2 ≤ 242) (halign : c.p 16 8 % 2 = 0)
    (hlist : s.hostList (c.p 16 8) 2 (c.p 10 2) = some l) (hbad : s.memberBad (c.mcGroup l) = some i) :
    badMcast s c = [(16, i)] := by
  have hmode : (!bitOf (c.p 9 1) 1 || s.offers 5) = true := by simpa using hmode
  unfold badMcast
  dsimp only
  rw [hclear, hmode, hlist, whenRead, hbad]
  simp [fails, hn, hlo, hhi, halign, failsAt]

theorem Sys.memberBad_first {g : McGroup} {i : Nat} (hi : i < g.members.length)
    (hwrong : ((g.members.take i).contains (g.members.getD i 0) || !s.memberOk g.partition (g.members.getD i 0) ||
      (s.mcBuild s.lead.place { g with members := [g.members.getD i 0] }).isNone) = true)
    (hfirst : ∀ k, k < i → ((g.members.take k).contains (g.members.getD k 0) || !s.memberOk g.partition (g.members.getD k 0) ||
      (s.mcBuild s.lead.place { g with members := [g.members.getD k 0] }).isNone) = false) :
    s.memberBad g = some i := by
  unfold Sys.memberBad
  dsimp only
  rw [firstIndex_first hi hwrong hfirst]

/-- The descriptors of a placed reduction group (R273). -/
def Sys.rgPut (s : Sys) (g : RGroup) (t : List (Nat × Nat × Nat)) : Sys :=
  t.foldl (fun (s : Sys) x =>
    let p := s.replica x.1
    match rgIndex p.rgW0 g.group with
    | some i => s.setReplica x.1 { p with
        rgW0 := NMap.put p.rgW0 i x.2.1, rgW1 := NMap.put p.rgW1 i x.2.2, rgRoot := NMap.put p.rgRoot i (g.root, g.window, g.gen) }
    | none => s) s

theorem Sys.rgPut_lead (g : RGroup) (t : List (Nat × Nat × Nat)) : (s.rgPut g t).lead = s.lead := by
  refine List.foldlRecOn t _ (motive := fun u : Sys => u.lead = s.lead) rfl fun u hu x _ => ?_
  dsimp only
  split
  · exact hu
  · exact hu

/-- A router still holds a slot of the reduction group (R271). -/
def Sys.redHeld (s : Sys) (n : Nat) : Bool := s.mesh.any (fun r => r.2.red.any (fun x => x.group = n))

theorem Sys.runRgroup_clear (hclear : bitOf (c.p 28 1) 0 = true) :
    s.runRgroup c = if s.redHeld (c.p 8 2) then (Reply.busy 0, s) else (Reply.ok 0, s.rgClear (c.p 8 2)) := if_pos hclear

theorem Sys.runRgroup_held (hclear : bitOf (c.p 28 1) 0 = true) (hheld : s.redHeld (c.p 8 2) = true) :
    s.runRgroup c = (Reply.busy 0, s) := by rw [Sys.runRgroup_clear hclear, if_pos hheld]

theorem Sys.runRgroup_free (hclear : bitOf (c.p 28 1) 0 = true) (hfree : s.redHeld (c.p 8 2) = false) :
    s.runRgroup c = (Reply.ok 0, s.rgClear (c.p 8 2)) := by
  rw [Sys.runRgroup_clear hclear, hfree, if_neg (by decide)]

theorem Sys.runRgroup_unread (hclear : bitOf (c.p 28 1) 0 = false) (hlist : s.hostList (c.p 16 8) 2 (c.p 14 2) = none) :
    s.runRgroup c = (Reply.noRead 16 0, s) := by
  unfold Sys.runRgroup
  dsimp only
  rw [if_neg (by rw [hclear]; decide), hlist]

theorem Sys.runRgroup_placed {l : List Nat} {t : List (Nat × Nat × Nat)} (hclear : bitOf (c.p 28 1) 0 = false)
    (hlist : s.hostList (c.p 16 8) 2 (c.p 14 2) = some l) (hplace : (s.rgClear (c.p 8 2)).rgPlace (c.rgroup l) = some t) :
    s.runRgroup c = if s.redHeld (c.p 8 2) then (Reply.busy 0, s)
      else (Reply.ok 0, ((s.rgClear (c.p 8 2)).rgPut (c.rgroup l) t).modLead (fun u => { u with rgs := u.rgs ++ [c.rgroup l] })) := by
  unfold Sys.runRgroup
  dsimp only
  rw [if_neg (by rw [hclear]; decide), hlist]
  dsimp only
  rw [hplace]
  rfl

/-- RGROUP_SET's own faults once its fixed fields are in order (R388). -/
theorem badRgroup_list {l : List Nat} (hmine : s.rgForeign c = false) (hop : c.p 10 1 ≤ 2) (hoffer : s.offers 0 = true)
    (hrlo : 1 ≤ c.p 11 1) (hrhi : c.p 11 1 ≤ 8) (hlo : 1 ≤ c.p 14 2) (hhi : c.p 14 2 ≤ 3840) (halign : c.p 16 8 % 2 = 0)
    (hclear : bitOf (c.p 28 1) 0 = false) (hlist : s.hostList (c.p 16 8) 2 (c.p 14 2) = some l) :
    badRgroup s c = s.rgroupBad (c.rgroup l) := by
  unfold badRgroup
  dsimp only
  rw [hmine, hclear, hlist, hoffer]
  simp [fails, denies, hop, hrlo, hrhi, hlo, hhi, halign, whenRead]

/-- An accepted group's tree has room (R273). -/
theorem Sys.rgroupBad_placed {g : RGroup} (hbad : s.rgroupBad g = []) : ((s.rgClear g.group).rgPlace g).isSome = true := by
  unfold Sys.rgroupBad at hbad
  dsimp only at hbad
  rw [List.append_eq_nil_iff, List.append_eq_nil_iff] at hbad
  obtain ⟨⟨hlist, hroot⟩, htree⟩ := hbad
  rw [hlist, hroot] at htree
  exact fails_eq_nil.mp htree

theorem Sys.rgroupBad_list {g : RGroup} {i : Nat}
    (hlist : firstIndex g.contributors (fun i e => (g.contributors.take i).contains e || !s.contributorOk g.partition e) = some i) :
    lowestBad (s.rgroupBad g) = some (16, i) := by
  unfold Sys.rgroupBad
  dsimp only
  rw [hlist]
  cases hroot : s.rootOk g && (s.rgRootTile s.lead.place g).isSome <;> rfl

theorem Sys.rgroupBad_root {g : RGroup}
    (hlist : firstIndex g.contributors (fun i e => (g.contributors.take i).contains e || !s.contributorOk g.partition e) = none)
    (hroot : s.rootOk g = false) : lowestBad (s.rgroupBad g) = some (24, 0) := by
  unfold Sys.rgroupBad
  dsimp only
  rw [hlist, hroot]
  rfl

theorem Sys.rgroupBad_tree {g : RGroup}
    (hlist : firstIndex g.contributors (fun i e => (g.contributors.take i).contains e || !s.contributorOk g.partition e) = none)
    (hroot : s.rootOk g = true) (htile : (s.rgRootTile s.lead.place g).isSome = true)
    (htree : (s.rgClear g.group).rgPlace g = none) : lowestBad (s.rgroupBad g) = some (11, 0) := by
  unfold Sys.rgroupBad
  dsimp only
  rw [hlist, hroot, htile, htree]
  rfl

end Groups

section GroupCommands
variable {s : State} {i : Instr} {h q op : Nat} {bad : Sys → Cmd → List (Nat × Nat)} {run : Sys → Cmd → Option Reply × Sys}

/-- A group command waits while an epoch switch prepares, and is any command otherwise (R33, R387). -/
theorem State.exec_group (hexec : exec i s = s.act i.wf (fun y => y.groupCommand h q op bad run)) (hsw : s.sys.lead.sw = none) :
    exec i s = s.act i.wf (fun y => y.command h q op bad run) := by
  have hsame : s.sys.groupCommand h q op bad run = s.sys.command h q op bad run := by
    unfold Sys.groupCommand
    rw [hsw]
  rw [hexec, State.act, State.act, hsame]

theorem State.exec_group_prepares {w : Switch} (hexec : exec i s = s.act i.wf (fun y => y.groupCommand h q op bad run))
    (hsw : s.sys.lead.sw = some w) (hphase : w.phase = 1) : exec i s = .next s := by
  have hsame : s.sys.groupCommand h q op bad run = s.sys := by
    unfold Sys.groupCommand
    rw [hsw]
    exact if_pos hphase
  rw [hexec, State.act, hsame, ite_self]

end GroupCommands

end Sys2Proof.Machine

/-! O51. -/

namespace Sys2Proof.Machine

section GroupRefusals
variable {s : State} {h q : Nat} {c : Cmd}

/-- A group command refused by a field of its own (R387, R388). -/
theorem State.exec_field {i : Instr} {op k r : Nat} {bad : Sys → Cmd → List (Nat × Nat)} {run : Sys → Cmd → Option Reply × Sys}
    (hexec : exec i s = s.act i.wf (fun y => y.command h q op bad run)) (hwf : i.wf = true)
    (hs : s.starts h q op c) (hop : [0x32, 0x33, 0x34, 0x35, 0x38].contains op = false)
    (hgood : s.checks h q op noChecks c = []) (hbad : lowestBad (bad (s.started h q c) c) = some (k, r)) (hr : r < 2 ^ 64) :
    exec i s = .next (s.replied h q c (s.started h q c) (Reply.bad k r)) := by
  rw [State.exec_refused hexec hwf hs hop hgood hbad, if_neg (by unfold denyMark; omega)]

/-- An accepted reduction group has a tree (R273, R388). -/
theorem State.accepts_rgroup {l : List Nat} (ha : s.accepts h q 0x23 badRgroup c) (hclear : bitOf (c.p 28 1) 0 = false)
    (hlist : (s.started h q c).hostList (c.p 16 8) 2 (c.p 14 2) = some l) :
    (((s.started h q c).rgClear (c.p 8 2)).rgPlace (c.rgroup l)).isSome = true := by
  have hown := State.accepts_own ha
  unfold badRgroup at hown
  dsimp only at hown
  rw [hclear, hlist, List.append_eq_nil_iff] at hown
  obtain ⟨hfixed, hgroup⟩ := hown
  simp only [List.append_eq_nil_iff, fails_eq_nil] at hfixed
  obtain ⟨⟨-, hcount⟩, -⟩ := hfixed
  rw [hcount, if_neg (by decide)] at hgroup
  simp only [whenRead] at hgroup
  have hplaced := Sys.rgroupBad_placed hgroup
  exact hplaced

end GroupRefusals

/-- Settles O51. -/
theorem partitionAndGroupCommands : Obligations.PartitionAndGroupCommands := by
  unfold Obligations.PartitionAndGroupCommands
  intro s h q c hh hq t say p
  have hwf : (isHub h && isPair q) = true := by simp [isHub, isPair, hh, hq]
  refine ⟨fun ha => ?create, fun ha => ?destroy, fun ha hwaits => ?reset, fun w hsw hphase => ?prepares, fun ha hsw => ?mcast,
    fun l i hst hsw hgood hn hmode hclear hlo hhi halign hlist hi => ?member, fun ha hsw => ?rgroup,
    fun l hst hsw hgood hmine hop hoffer hrlo hrhi hlo hhi halign hclear hlist => ?contributors⟩
  case create =>
    rw [State.exec_now (exec_partitionCreate h q s) hwf ha]
    refine ⟨fun hfull => ?_, fun hroom => ?_⟩
    · rw [Sys.runPartCreate_crowded (s := s.started h q c) hfull]
      rfl
    · rw [Sys.runPartCreate_room (s := s.started h q c) c hroom]
      rfl
  case destroy =>
    rw [State.exec_now (exec_partitionDestroy h q s) hwf ha]
    refine ⟨fun hbusy => ?_, fun hidle => ?_⟩
    · rw [Sys.runPartDestroy_busy hbusy]
      rfl
    · rw [Sys.runPartDestroy_idle hidle]
      rfl
  case reset =>
    exact ⟨fun hbusy => State.exec_waits (exec_partitionReset h q s) hwf ha (Sys.runPartReset_busy hwaits hbusy),
      fun hidle => State.exec_waits (exec_partitionReset h q s) hwf ha (Sys.runPartReset_idle hwaits hidle)⟩
  case prepares =>
    exact ⟨State.exec_group_prepares (exec_mcastGroupSet h q s) hsw hphase,
      State.exec_group_prepares (exec_rgroupSet h q s) hsw hphase⟩
  case mcast =>
    intro n
    rw [State.exec_now (State.exec_group (exec_mcastGroupSet h q s) hsw) hwf ha]
    refine ⟨fun hclear => ?_, fun hclear hlist => ?_, fun l hclear hlist => ⟨fun hplace => ?_, fun g e k rel x hplace hx => ?_⟩⟩
    · rw [Sys.runMcast_clear hclear]
      rfl
    · rw [Sys.runMcast_unread hclear hlist]
      rfl
    · rw [Sys.runMcast_full hclear hlist hplace]
      rfl
    · obtain ⟨hentry, hmembers, hlead⟩ := Sys.mcPut_entry (s := t.mcClear c.target n) x n e k rel
      refine ⟨((t.mcClear c.target n).mcPut x n e k rel).modLead (fun l => { l with mcs := l.mcs ++ [g] }),
        by rw [Sys.runMcast_placed hclear hlist hplace hx]; rfl, hentry, hmembers, ?_⟩
      exact congrArg (fun l : Lead => l.mcs ++ [g]) hlead
  case member =>
    intro g wrong hwrong hfirst
    have hlen := Sys.hostList_length hlist
    exact State.exec_field (State.exec_group (exec_mcastGroupSet h q s) hsw) hwf hst rfl hgood
      (by rw [badMcast_member hn hmode hclear hlo hhi halign hlist (Sys.memberBad_first (g := g) hi hwrong hfirst)]; rfl) (by omega)
  case rgroup =>
    intro n held
    rw [State.exec_now (State.exec_group (exec_rgroupSet h q s) hsw) hwf ha]
    refine ⟨fun hclear hheld => ?_, fun hclear hfree => ?_, fun hclear hlist => ?_, fun l hclear hlist => ?_⟩
    · rw [Sys.runRgroup_held hclear hheld]
      rfl
    · rw [Sys.runRgroup_free hclear hfree]
      rfl
    · rw [Sys.runRgroup_unread hclear hlist]
      rfl
    · obtain ⟨d, hd⟩ := Option.isSome_iff_exists.mp (State.accepts_rgroup ha hclear hlist)
      rw [Sys.runRgroup_placed hclear hlist hd]
      refine ⟨fun hheld => ?_, fun hfree => ?_⟩
      · rw [if_pos (show t.redHeld n = true from hheld)]
        rfl
      · refine ⟨((t.rgClear n).rgPut (c.rgroup l) d).modLead (fun u => { u with rgs := u.rgs ++ [c.rgroup l] }),
          by rw [if_neg (by rw [show t.redHeld n = false from hfree]; decide)]; rfl, ?_⟩
        exact congrArg (fun u : Lead => u.rgs ++ [c.rgroup l]) (Sys.rgPut_lead _ _)
  case contributors =>
    intro wrong
    have hlen := Sys.hostList_length hlist
    have hbad : badRgroup t c = t.rgroupBad (c.rgroup l) :=
      badRgroup_list hmine hop hoffer hrlo hrhi hlo hhi halign hclear hlist
    have hfield {k r : Nat} (hlow : lowestBad (t.rgroupBad (c.rgroup l)) = some (k, r)) (hr : r < 2 ^ 64) :
        exec (.rgroupSet h q) s = say t (Reply.bad k r) :=
      State.exec_field (State.exec_group (exec_rgroupSet h q s) hsw) hwf hst rfl hgood (by rw [hbad]; exact hlow) hr
    refine ⟨fun i hi hwrong hfirst => ?_, fun hall => ⟨fun hroot => ?_, fun hroot htile htree => ?_⟩⟩
    · exact hfield (Sys.rgroupBad_list (firstIndex_first hi hwrong hfirst)) (by omega)
    · exact hfield (Sys.rgroupBad_root (firstIndex_none hall) hroot) (by decide)
    · exact hfield (Sys.rgroupBad_tree (firstIndex_none hall) hroot htile htree) (by decide)

end Sys2Proof.Machine

/-! SUPPORT. Commands on regions, stores, code, weights and windows, and O52. -/

namespace Sys2Proof.Machine

section Ask
variable {s : Sys}

/-- A tile that only answers is as it was. -/
theorem Sys.putTX_idle (s : Sys) (x : Nat) : (s.putTX x (s.tx x)).tile x = s.tile x := Sys.tile_setTile_same ..

end Ask

section Regions
variable {s : Sys} {h q : Nat} {c : Cmd}

theorem Sys.runRegionDefine_some {u : Sys} (hu : s.defineRegion c = some u) :
    s.runRegionDefine h q c = if bitOf (c.p 10 1) 0 then (none, u.addWait h q c.num (.fill (s.targetTile c)) {})
      else (some (Reply.ok 0), u) := by
  unfold Sys.runRegionDefine
  rw [hu]

theorem Sys.defineRegion_plain (hmirror : bitOf (c.p 10 1) 1 = false) : s.defineRegion c =
    some (s.onTile (s.targetTile c) (fun y => y.regionPut (c.p 8 1) c.region (bitOf (c.p 10 1) 0))) := by
  unfold Sys.defineRegion
  dsimp only
  rw [if_neg (by rw [show c.region.mirror = bitOf (c.p 10 1) 1 from rfl, hmirror]; decide)]

theorem Sys.defineRegion_mirrored (hmirror : bitOf (c.p 10 1) 1 = true) : s.defineRegion c =
    (s.onTile (s.targetTile c) (fun y => y.regionPut (c.p 8 1) c.region (bitOf (c.p 10 1) 0))).placeShadow (s.targetTile c)
      (c.p 8 1) := by
  unfold Sys.defineRegion
  dsimp only
  rw [if_pos (by rw [show c.region.mirror = bitOf (c.p 10 1) 1 from rfl, hmirror])]

theorem Sys.runRegionRelease_answer {a : Ans} {y : TX}
    (hask : (s.tx (s.targetTile c)).regionRelease (c.p 8 1) c.partition = (a, y)) :
    s.runRegionRelease h q c = if a.status ≠ stSuccess then (some a.reply, s.putTX (s.targetTile c) y)
      else (none, (s.putTX (s.targetTile c) y).addWait h q c.num (.release (s.targetTile c) (c.p 8 1)) {}) := by
  unfold Sys.runRegionRelease Sys.askTile
  dsimp only
  rw [hask]

end Regions

section TileAnswers
variable {x : TX} {n part k : Nat} {r : Region}

theorem TX.regionRelease_denied (hr : x.tile.store.region n = some r) (hno : r.shadow = true ∨ r.partition ≠ part) :
    x.regionRelease n part = ({ status := stNotPermitted, field := 8 }, x) := by
  unfold TX.regionRelease
  rw [hr]
  exact if_pos (by simpa using hno)

theorem TX.regionRelease_busy (hr : x.tile.store.region n = some r) (hshadow : r.shadow = false) (hpart : r.partition = part)
    (hbusy : x.regionBusy n r = true) : x.regionRelease n part = ({ status := stBusy }, x) := by
  unfold TX.regionRelease
  rw [hr]
  dsimp only
  rw [if_neg (by simp [hshadow, hpart]), if_pos hbusy]

theorem TX.regionRelease_begins (hr : x.tile.store.region n = some r) (hshadow : r.shadow = false) (hpart : r.partition = part)
    (hbusy : x.regionBusy n r = false) : x.regionRelease n part =
      ({}, x.setStore { x.tile.store with regions := NMap.put x.tile.store.regions n { r with releasing := true } }) := by
  unfold TX.regionRelease
  rw [hr]
  dsimp only
  rw [if_neg (by simp [hshadow, hpart]), if_neg (by simp [hbusy])]

theorem TX.codeLoadCmd_busy {go : Bool} (hok : x.codeRegionOk n = true) (hst : (x.slot k).state ≠ .halted) :
    x.codeLoadCmd k n go = ({ status := stBusy }, x) := by
  unfold TX.codeLoadCmd
  rw [if_neg (by simp [hok]), if_pos hst]

theorem TX.codeLoadCmd_loads {go : Bool} (hok : x.codeRegionOk n = true) (hst : (x.slot k).state = .halted) :
    x.codeLoadCmd k n go = ({}, if go then (x.codeLoad k n).runCore k else x.codeLoad k n) := by
  unfold TX.codeLoadCmd
  rw [if_neg (by simp [hok]), if_neg (by simp [hst])]

theorem TX.weightLoadCmd_busy {b mask : Nat} {check : Bool} (hbind : x.bindBad n b mask = [])
    (hst : (x.slot k).state ≠ .halted ∧ (x.slot k).state ≠ .scalar) :
    x.weightLoadCmd k n b mask check = ({ status := stBusy }, x) := by
  unfold TX.weightLoadCmd
  dsimp only
  rw [hbind]
  exact if_pos (by simpa using hst)

theorem TX.weightLoadCmd_loads {b mask : Nat} {check : Bool} (hbind : x.bindBad n b mask = [])
    (hst : (x.slot k).state = .halted ∨ (x.slot k).state = .scalar) :
    let y := x.weightLoad k n b mask check
    let left := maskOf ((setBits mask 16).filter (fun m => ((y.slot k).macroAt m).poisoned))
    x.weightLoadCmd k n b mask check = ({ status := if left = 0 then stSuccess else stPoisoned, result := left }, y) := by
  unfold TX.weightLoadCmd
  dsimp only
  rw [hbind]
  exact if_neg (by rcases hst with hst | hst <;> simp [hst])

end TileAnswers

/-- A load that ended, with or without macros left poisoned, is one that took effect (R385). -/
theorem loadStatus_ok (left : Nat) : (decide ((if left = 0 then stSuccess else stPoisoned) = stSuccess) ||
    decide ((if left = 0 then stSuccess else stPoisoned) = stPoisoned)) = true := by
  split <;> decide

section Stores
variable {s : Sys} {h q : Nat} {c : Cmd}

theorem Sys.runStoreFill_none (hrows : c.p 16 4 = 0) : s.runStoreFill h q c = (some (Reply.empty 0), s) := if_pos hrows

theorem Sys.runStoreFill_locked (hrows : c.p 16 4 ≠ 0) (hlock : s.storeLocked c = true) :
    s.runStoreFill h q c = (some (Reply.deny 0), s) := (if_neg hrows).trans (if_pos hlock)

theorem Sys.runStoreFill_queued (hrows : c.p 16 4 ≠ 0) (hlock : s.storeLocked c = false) :
    s.runStoreFill h q c = (none, (s.onTile (s.targetTile c)
      (fun y => y.storeFill (c.p 8 1) (c.p 12 4) (c.p 16 4) (c.p 24 8))).addWait h q c.num (.fill (s.targetTile c)) {}) :=
  (if_neg hrows).trans (if_neg (by rw [hlock]; decide))

theorem Sys.runStoreWrite_none (hrows : c.p 16 4 = 0) : s.runStoreWrite c = (Reply.empty 0, s) := if_pos hrows

theorem Sys.runStoreWrite_locked (hrows : c.p 16 4 ≠ 0) (hlock : s.storeLocked c = true) :
    s.runStoreWrite c = (Reply.deny 0, s) := (if_neg hrows).trans (if_pos hlock)

theorem Sys.runStoreWrite_written (hrows : c.p 16 4 ≠ 0) (hlock : s.storeLocked c = false) :
    let l := s.hostRowsUpTo (c.p 24 8) (c.p 16 4)
    s.runStoreWrite c = (if l.length < c.p 16 4 then Reply.noRead 24 l.length else Reply.ok (c.p 16 4),
      s.onTile (s.targetTile c) (fun y => y.storeWrite (c.p 8 1) (c.p 12 4) l)) :=
  (if_neg hrows).trans (if_neg (by rw [hlock]; decide))

theorem Sys.runStoreRead_none (hrows : c.p 16 4 = 0) : s.runStoreRead c = (Reply.empty 0, s) := if_pos hrows

theorem Sys.runStoreRead_read (hrows : c.p 16 4 ≠ 0) :
    let a := (s.tx (s.targetTile c)).storeRead (c.p 8 1) (c.p 12 4) (c.p 16 4)
    s.runStoreRead c = ({ status := if a.1.2 = 0 then stSuccess else stPoisoned, result := c.p 16 4 + 2 ^ 32 * a.1.2 },
      ((List.range (c.p 16 4)).zip a.1.1).foldl (fun (u : Sys) e => u.hostWrite (c.p 24 8 + 512 * e.1) 512 e.2)
        (s.putTX (s.targetTile c) a.2)) := if_neg hrows

theorem Sys.runCodeLoad_answer {a : Ans} {y : TX}
    (hask : (s.tx (s.targetTile c)).codeLoadCmd (c.target % 16) (c.p 8 1) (bitOf (c.p 9 1) 0) = (a, y)) :
    s.runCodeLoad c = (a.reply, s.putTX (s.targetTile c) y) := by
  unfold Sys.runCodeLoad Sys.askTile
  dsimp only
  rw [hask]

theorem Sys.runWeightLoad_none (hmask : c.p 10 2 = 0) : s.runWeightLoad c = (Reply.empty 0, s) := if_pos hmask

theorem Sys.runWeightLoad_unread (hmask : c.p 10 2 ≠ 0) (hbind : s.bindings (c.p 16 8) (c.p 10 2) = none) :
    s.runWeightLoad c = (Reply.noRead 16 0, s) := by
  unfold Sys.runWeightLoad
  dsimp only
  rw [if_neg hmask, hbind]

theorem Sys.runWeightLoad_answer {a : Ans} {y : TX} {b : Nat} (hmask : c.p 10 2 ≠ 0)
    (hbind : s.bindings (c.p 16 8) (c.p 10 2) = some b)
    (hask : (s.tx (s.targetTile c)).weightLoadCmd (c.target % 16) (c.p 8 1) b (c.p 10 2) (bitOf (c.p 9 1) 0) = (a, y)) :
    let u := s.putTX (s.targetTile c) y
    s.runWeightLoad c = (a.reply, if a.status = stSuccess || a.status = stPoisoned then
      u.setLead { u.lead with weights := NMap.put u.lead.weights c.target (c.p 10 2, b, bitOf (c.p 9 1) 0) } else u) := by
  unfold Sys.runWeightLoad Sys.askTile
  dsimp only
  rw [if_neg hmask, hbind]
  dsimp only
  rw [hask]
  rfl

/-- A load that the core's state allows writes the macros and is kept for the weight audit (R123, R385). -/
theorem Sys.runWeightLoad_loads {b : Nat} (hmask : c.p 10 2 ≠ 0) (hbind : s.bindings (c.p 16 8) (c.p 10 2) = some b)
    (hnone : (s.tx (s.targetTile c)).bindBad (c.p 8 1) b (c.p 10 2) = [])
    (hst : ((s.tx (s.targetTile c)).slot (c.target % 16)).state = .halted ∨
      ((s.tx (s.targetTile c)).slot (c.target % 16)).state = .scalar) :
    let y := (s.tx (s.targetTile c)).weightLoad (c.target % 16) (c.p 8 1) b (c.p 10 2) (bitOf (c.p 9 1) 0)
    let left := maskOf ((setBits (c.p 10 2) 16).filter (fun m => ((y.slot (c.target % 16)).macroAt m).poisoned))
    let u := s.putTX (s.targetTile c) y
    s.runWeightLoad c = ({ status := if left = 0 then stSuccess else stPoisoned, result := left },
      u.setLead { u.lead with weights := NMap.put u.lead.weights c.target (c.p 10 2, b, bitOf (c.p 9 1) 0) }) := by
  intro y left u
  exact (Sys.runWeightLoad_answer hmask hbind (TX.weightLoadCmd_loads hnone hst)).trans
    (congrArg (Prod.mk _) (if_pos (loadStatus_ok left)))

/-- WEIGHT_LOAD's own checks once its region is a WEIGHT region and its buffer was read (R385). -/
theorem badWeightLoad_read {b : Nat} {r : Region} (hr : (s.tile (s.targetTile c)).store.region (c.p 8 1) = some r)
    (hcls : r.cls = 1) (halign : c.p 16 8 % 64 = 0) (hbind : s.bindings (c.p 16 8) (c.p 10 2) = some b) :
    badWeightLoad s c = (s.tx (s.targetTile c)).bindBad (c.p 8 1) b (c.p 10 2) := by
  unfold badWeightLoad
  dsimp only
  rw [hr, hbind]
  simp [fails, hcls, halign, whenRead]

/-- A region too short for the macros is the field of lowest offset that fails (R100, R385). -/
theorem TX.bindBad_short {x : TX} {n b mask : Nat} {r : Region} (hr : x.tile.store.region n = some r) (hcls : r.cls = 1)
    (hshort : r.size < weightRows b mask) : lowestBad (x.bindBad n b mask) = some (8, 0) := by
  unfold TX.bindBad
  simp only [hr, hcls, if_true, hshort]
  split <;> rfl

theorem TX.bindBad_entry {x : TX} {n b mask m : Nat} {r : Region} (hr : x.tile.store.region n = some r) (hcls : r.cls = 1)
    (hlong : weightRows b mask ≤ r.size) (hm : (setBits mask 16).find? (fun m => !bindOk b m) = some m) :
    lowestBad (x.bindBad n b mask) = some (16, m) := by
  unfold TX.bindBad
  simp only [hr, hcls, if_true, Nat.not_lt.mpr hlong, if_false, hm]
  rfl

end Stores

section Windows
variable {s : Sys} {h q : Nat} {c : Cmd}

/-- The tiles whose far-window lists the window of a WINDOW_OPEN enters (R316). -/
def Sys.windowFar (s : Sys) (c : Cmd) : List Nat := if c.window.cro then s.farTiles c.partition else []

theorem Sys.runWindowOpen_full (hfull : ∃ y ∈ s.windowFar c, (s.tx y).farFree = none) : s.runWindowOpen c = (Reply.busy 0, s) := by
  obtain ⟨y, hy, hnone⟩ := hfull
  exact if_pos (List.any_eq_true.mpr ⟨y, hy, by rw [hnone]; rfl⟩)

theorem Sys.windowFar_room (hroom : ∀ y ∈ s.windowFar c, (s.tx y).farFree ≠ none) :
    ¬ (s.windowFar c).any (fun t => (s.tx t).farFree.isNone) = true := by
  intro hany
  obtain ⟨y, hy, hnone⟩ := List.any_eq_true.mp hany
  exact hroom y hy (Option.isNone_iff_eq_none.mp hnone)

theorem Sys.runWindowOpen_tile (hroom : ∀ y ∈ s.windowFar c, (s.tx y).farFree ≠ none) (htile : c.target < 0x1200) :
    let a := (s.tx (s.targetTile c)).windowOpen (c.p 8 1) c.window
    s.runWindowOpen c = (Reply.ok a.1, (s.windowFar c).foldl (fun (u : Sys) y => u.onTile y
      (fun z => z.farEnter c.target (c.p 8 1) a.1)) (s.putTX (s.targetTile c) a.2)) := by
  have hno : ¬ c.target ≥ 0x1200 := Nat.not_le.mpr htile
  unfold Sys.runWindowOpen
  simp only [hno, if_false]
  exact if_neg (Sys.windowFar_room hroom)

theorem Sys.runWindowOpen_hub (hroom : ∀ y ∈ s.windowFar c, (s.tx y).farFree ≠ none) (hhub : 0x1200 ≤ c.target) :
    let u := s.hub (c.target - 0x1200)
    let g := ((NMap.get {} u.egress (c.p 8 1)).gen + 1) % 256
    s.runWindowOpen c = (Reply.ok g, (s.windowFar c).foldl (fun (u : Sys) y => u.onTile y
      (fun z => z.farEnter c.target (c.p 8 1) g))
      (s.setHub (c.target - 0x1200) { u with egress := NMap.put u.egress (c.p 8 1) { c.window with isOpen := true, gen := g } })) := by
  unfold Sys.runWindowOpen
  simp only [ge_iff_le, hhub, if_true]
  exact if_neg (Sys.windowFar_room hroom)

/-- A window that its command may close: one of a tile, or a hub's of the command's partition (R386). -/
def Sys.mayClose (s : Sys) (c : Cmd) : Prop := c.target < 0x1200 ∨ (s.closeTarget c).partition = c.partition

theorem Sys.runWindowClose_denied (hno : ¬ s.mayClose c) : s.runWindowClose h q c = (some (Reply.deny 8), s) := by
  unfold Sys.mayClose at hno
  obtain ⟨htile, hpart⟩ := not_or.mp hno
  exact if_pos (by simpa using ⟨Nat.le_of_not_lt htile, hpart⟩)

theorem Sys.mayClose_check (hmay : s.mayClose c) :
    ¬ (decide (c.target ≥ 0x1200) && (s.closeTarget c).partition ≠ c.partition) = true := by
  rcases hmay with htile | hpart
  · simp [Nat.not_le.mpr htile]
  · simp [hpart]

theorem Sys.runWindowClose_busy (hmay : s.mayClose c) (hbusy : (s.closeTarget c).landing = true ∨ (s.closeTarget c).closing = true) :
    s.runWindowClose h q c = (some (Reply.busy 0), s) := by
  unfold Sys.runWindowClose
  dsimp only
  rw [if_neg (Sys.mayClose_check hmay), if_pos (by simpa using hbusy)]

theorem Sys.runWindowClose_plain (hmay : s.mayClose c) (hland : (s.closeTarget c).landing = false)
    (hclosing : (s.closeTarget c).closing = false) (hcro : (s.closeTarget c).cro = false) :
    s.runWindowClose h q c = (some (Reply.ok 0), if c.target < 0x1200
      then s.onTile (s.targetTile c) (fun y => (y.closeBegin (c.p 8 1)).closeEnd (c.p 8 1))
      else s.egressClose (c.target - 0x1200) (c.p 8 1)) := by
  unfold Sys.runWindowClose
  dsimp only
  rw [if_neg (Sys.mayClose_check hmay), if_neg (by simp [hland, hclosing]), if_neg (by simp [hcro])]
  by_cases htile : c.target < 0x1200
  · rw [if_pos htile, if_neg (by simpa using htile)]
  · rw [if_neg htile, if_pos (by simpa using htile)]

theorem Sys.runWindowClose_cacheable (hmay : s.mayClose c) (hland : (s.closeTarget c).landing = false)
    (hclosing : (s.closeTarget c).closing = false) (hcro : (s.closeTarget c).cro = true) :
    let w := s.closeTarget c
    let hub := c.target - 0x1200
    let v := if c.target < 0x1200 then s.onTile (s.targetTile c) (fun y => y.closeBegin (c.p 8 1))
      else s.setHub hub { s.hub hub with egress := NMap.put (s.hub hub).egress (c.p 8 1) { w with closing := true } }
    s.runWindowClose h q c = (none, (v.sendInvalidate c.target (c.p 8 1) w.gen).addWait h q c.num
      (.invalidate c.target (c.p 8 1) w.gen) {}) := by
  unfold Sys.runWindowClose
  dsimp only
  rw [if_neg (Sys.mayClose_check hmay), if_neg (by simp [hland, hclosing]), if_pos hcro]
  by_cases htile : c.target < 0x1200
  · rw [if_pos htile, if_neg (by simpa using htile)]
  · rw [if_neg htile, if_pos (by simpa using htile)]
    rfl

end Windows

end Sys2Proof.Machine

/-! O52. -/

namespace Sys2Proof.Machine

section Accepted
variable {s : State} {h q : Nat} {c : Cmd}

theorem State.accepts_weightLoad {b : Nat} (ha : s.accepts h q 0x15 badWeightLoad c)
    (hbind : (s.started h q c).bindings (c.p 16 8) (c.p 10 2) = some b) :
    ((s.started h q c).tx ((s.started h q c).targetTile c)).bindBad (c.p 8 1) b (c.p 10 2) = [] := by
  have hown := State.accepts_own ha
  unfold badWeightLoad at hown
  dsimp only at hown
  rw [hbind, List.append_eq_nil_iff] at hown
  exact hown.2

end Accepted

/-- Settles O52. -/
theorem storeAndWindowCommands : Obligations.StoreAndWindowCommands := by
  unfold Obligations.StoreAndWindowCommands
  intro s h q c hh hq t say x n first rows addr
  have hwf : (isHub h && isPair q) = true := by simp [isHub, isPair, hh, hq]
  refine ⟨fun ha => ?define, fun ha r hr => ?release, fun ha => ?fill, fun ha => ?write, fun ha => ?read, fun ha => ?weights,
    fun b r hst hgood hr hcls halign hbind => ?badWeights, fun ha => ?code, fun ha => ?opened, fun ha => ?close⟩
  case define =>
    intro v
    refine ⟨fun hmirror hinit => ?_, fun hmirror hinit => ?_, fun u hmirror hu => ?_⟩
    · exact State.exec_answers (exec_regionDefine h q s) hwf ha
        ((Sys.runRegionDefine_some (Sys.defineRegion_plain hmirror)).trans (if_neg (by rw [hinit]; decide)))
    · exact State.exec_waits (exec_regionDefine h q s) hwf ha
        ((Sys.runRegionDefine_some (Sys.defineRegion_plain hmirror)).trans (if_pos hinit))
    · have hrun := Sys.runRegionDefine_some (h := h) (q := q) ((Sys.defineRegion_mirrored (s := t) hmirror).trans hu)
      split
      next hinit => exact State.exec_waits (exec_regionDefine h q s) hwf ha (hrun.trans (if_pos hinit))
      next hinit => exact State.exec_answers (exec_regionDefine h q s) hwf ha (hrun.trans (if_neg hinit))
  case release =>
    refine ⟨fun hno => ?_, fun hshadow hpart hbusy => ?_, fun hshadow hpart hbusy => ?_⟩
    · exact ⟨t.putTX x (t.tx x), State.exec_answers (exec_regionRelease h q s) hwf ha
        (Sys.runRegionRelease_answer (TX.regionRelease_denied hr hno)), Sys.putTX_idle t x⟩
    · exact ⟨t.putTX x (t.tx x), State.exec_answers (exec_regionRelease h q s) hwf ha
        (Sys.runRegionRelease_answer (TX.regionRelease_busy hr hshadow hpart hbusy)), Sys.putTX_idle t x⟩
    · refine ⟨_, State.exec_waits (exec_regionRelease h q s) hwf ha
        (Sys.runRegionRelease_answer (TX.regionRelease_begins hr hshadow hpart hbusy)), ?_⟩
      obtain ⟨g, htile⟩ := t.putTX_tile x ((t.tx x).setStore
        { (t.tx x).tile.store with regions := NMap.put (t.tx x).tile.store.regions n { r with releasing := true } })
      exact (congrArg (fun y : Tile => NMap.find y.store.regions n) htile).trans (NMap.find_put_same ..)
  case fill =>
    refine ⟨fun hrows => ?_, fun hrows hlock => ?_, fun hrows hlock => ?_⟩
    · exact State.exec_answers (exec_storeFill h q s) hwf ha (Sys.runStoreFill_none hrows)
    · exact State.exec_answers (exec_storeFill h q s) hwf ha (Sys.runStoreFill_locked hrows hlock)
    · exact State.exec_waits (exec_storeFill h q s) hwf ha (Sys.runStoreFill_queued hrows hlock)
  case write =>
    intro l v
    rw [State.exec_now (exec_storeWrite h q s) hwf ha]
    refine ⟨fun hrows => ?_, fun hrows hlock => ?_, fun hrows hlock hlen => ?_, fun hrows hlock hlen => ?_⟩
    · rw [Sys.runStoreWrite_none hrows]
      rfl
    · rw [Sys.runStoreWrite_locked hrows hlock]
      rfl
    · rw [Sys.runStoreWrite_written hrows hlock, if_neg (show ¬ l.length < rows by omega)]
      rfl
    · rw [Sys.runStoreWrite_written hrows hlock, if_pos (show l.length < rows from hlen)]
      rfl
  case read =>
    intro a
    rw [State.exec_now (exec_storeRead h q s) hwf ha]
    refine ⟨fun hrows => ?_, fun hrows => ?_⟩
    · rw [Sys.runStoreRead_none hrows]
      rfl
    · rw [Sys.runStoreRead_read hrows]
  case weights =>
    intro mask
    rw [State.exec_now (exec_weightLoad h q s) hwf ha]
    refine ⟨fun hmask => ?_, fun hmask hbind => ?_, fun b r hmask hbind hr => ?_⟩
    · rw [Sys.runWeightLoad_none hmask]
      rfl
    · rw [Sys.runWeightLoad_unread hmask hbind]
      rfl
    · intro check st y left
      have hnone := State.accepts_weightLoad ha hbind
      refine ⟨fun hst => ?_, fun hhalt hscalar => ?_⟩
      · rw [Sys.runWeightLoad_loads hmask hbind hnone hst]
      · refine ⟨t.putTX x (t.tx x), ?_, Sys.putTX_idle t x⟩
        rw [Sys.runWeightLoad_answer hmask hbind (TX.weightLoadCmd_busy hnone ⟨hhalt, hscalar⟩), if_neg (by decide)]
        rfl
  case badWeights =>
    have hbad : badWeightLoad t c = (t.tx x).bindBad n b (c.p 10 2) := badWeightLoad_read hr hcls halign hbind
    refine ⟨fun hshort => ?_, fun m hlong hm => ?_⟩
    · exact State.exec_field (exec_weightLoad h q s) hwf hst rfl hgood (by rw [hbad]; exact TX.bindBad_short hr hcls hshort)
        (by decide)
    · have hlt : m < 16 := List.mem_range.mp (List.mem_filter.mp (List.mem_of_find?_eq_some hm)).1
      exact State.exec_field (exec_weightLoad h q s) hwf hst rfl hgood (by rw [hbad]; exact TX.bindBad_entry hr hcls hlong hm)
        (by omega)
  case code =>
    intro k
    have hok : (t.tx x).codeRegionOk n = true := fails_eq_nil.mp (State.accepts_own ha)
    rw [State.exec_now (exec_codeLoad h q s) hwf ha]
    refine ⟨fun hst => ⟨t.putTX x (t.tx x), ?_, Sys.putTX_idle t x⟩, fun hst => ?_⟩
    · rw [Sys.runCodeLoad_answer (TX.codeLoadCmd_busy hok hst)]
      rfl
    · rw [Sys.runCodeLoad_answer (TX.codeLoadCmd_loads hok hst)]
      rfl
  case opened =>
    intro w hub g gh v wt wh far
    rw [State.exec_now (exec_windowOpen h q s) hwf ha]
    refine ⟨fun hfull => ?_, fun hroom htile => ?_, fun hroom hhub => ?_⟩
    · rw [Sys.runWindowOpen_full hfull]
      rfl
    · rw [Sys.runWindowOpen_tile hroom htile]
      rfl
    · rw [Sys.runWindowOpen_hub hroom hhub]
      rfl
  case close =>
    intro w hub mine
    refine ⟨fun hno => ?_, fun hmay hbusy => ?_, fun hmay hland hclosing hcro => ?_, fun hmay hland hclosing hcro => ?_⟩
    · exact State.exec_answers (exec_windowClose h q s) hwf ha (Sys.runWindowClose_denied hno)
    · exact State.exec_answers (exec_windowClose h q s) hwf ha (Sys.runWindowClose_busy hmay hbusy)
    · exact State.exec_answers (exec_windowClose h q s) hwf ha (Sys.runWindowClose_plain hmay hland hclosing hcro)
    · exact State.exec_waits (exec_windowClose h q s) hwf ha (Sys.runWindowClose_cacheable hmay hland hclosing hcro)

end Sys2Proof.Machine

/-! O53. -/

namespace Sys2Proof.Machine

section Streams
variable {s : Sys} {c : Cmd}

theorem Sys.runStreamOpen_unread (hread : s.hostRead (c.p 16 8) 64 = none) : s.runStreamOpen c = (Reply.noRead 16 0, s) := by
  unfold Sys.runStreamOpen
  dsimp only
  rw [hread]

/-- STREAM_OPEN of a valid record (R323, R389). -/
theorem Sys.runStreamOpen_read {v : Nat} (hread : s.hostRead (c.p 16 8) 64 = some v) :
    let h := c.target - 0x1200
    let x : Context := { record := v, isOpen := true }
    s.runStreamOpen c =
      if !x.egress && !((s.hubLoad h).add (x.load (NMap.get 0 s.lead.profiles (x.f 1 1)))).fits then (Reply.busy 0, s)
      else (Reply.ok (c.p 8 4), s.setHub h ((s.hub h).setCtx (c.p 8 4) x)) := by
  unfold Sys.runStreamOpen
  dsimp only
  rw [hread]
  rfl

/-- STREAM_OPEN's only fault where its context is free and its record was read (R389). -/
theorem badStreamOpen_record {v o : Nat} (hn : c.p 8 4 < 131072) (hfree : ((s.hub (c.target - 0x1200)).ctx (c.p 8 4)).isOpen = false)
    (halign : c.p 16 8 % 64 = 0) (hread : s.hostRead (c.p 16 8) 64 = some v) (hbad : s.openBad c v = some o) :
    badStreamOpen s c = [(16, o)] := by
  unfold badStreamOpen
  dsimp only
  rw [hfree, hread, whenRead, hbad]
  simp [fails, hn, halign, failsAt]

/-- A feed of a new tail (R361). -/
theorem Sys.runJobFeed_tail (htail : c.p 12 4 ≠ (s.streamCtx c).tail) : s.runJobFeed c = (Reply.ok 0,
    s.setHub (c.target - 0x1200) ((s.hub (c.target - 0x1200)).setCtx (c.p 8 4)
      { s.streamCtx c with tail := c.p 12 4, fed := (s.streamCtx c).fed ++ [(c.p 12 4, s.now)] })) := if_neg htail

theorem Sys.runJobFeed_same (htail : c.p 12 4 = (s.streamCtx c).tail) : s.runJobFeed c = (Reply.empty 0, s) := if_pos htail

end Streams

/-- Settles O53. -/
theorem streamCommands : Obligations.StreamCommands := by
  unfold Obligations.StreamCommands
  intro s h q c hh hq t say hub n x
  have hwf : (isHub h && isPair q) = true := by simp [isHub, isPair, hh, hq]
  refine ⟨fun ha => ?opened, fun v o r a b hst hgood hn hfree halign hread => ?badRecord, fun ha => ?closed, fun ha => ?feed⟩
  case opened =>
    rw [State.exec_now (exec_streamOpen h q s) hwf ha]
    refine ⟨fun hread => ?_, fun v hread => ?_⟩
    · rw [Sys.runStreamOpen_unread hread]
      rfl
    intro new fits
    refine ⟨fun hingest hfits => ?_, fun hok => ?_⟩
    · rw [Sys.runStreamOpen_read hread, if_pos (by rw [show Context.egress _ = false from hingest, show Load.fits _ = false from hfits]; rfl)]
      rfl
    · have hno : ¬ (!new.egress && !fits) = true := by rcases hok with h | h <;> simp [h]
      rw [Sys.runStreamOpen_read hread, if_neg hno]
      rfl
  case badRecord =>
    intro new hlist hbefore hafter ho
    have hlow : t.openBad c v = some o := by
      have hsame : t.openBad c v = (lowestBad (a ++ (o, r) :: b)).map (fun b => b.1) := by
        rw [← hlist]
        unfold Sys.openBad
        simp only [Bool.and_eq_true, decide_eq_true_eq]
        rfl
      rw [hsame, lowestBad_split hbefore hafter]
      rfl
    exact State.exec_field (exec_streamOpen h q s) hwf hst rfl hgood
      (by rw [badStreamOpen_record hn hfree halign hread hlow]; rfl) (by omega)
  case closed =>
    rw [State.exec_now (exec_streamClose h q s) hwf ha]
    exact ⟨x.closed, rfl, rfl, rfl, rfl, rfl, rfl⟩
  case feed =>
    rw [State.exec_now (exec_jobFeed h q s) hwf ha]
    refine ⟨fun htail => ?_, fun htail => ?_⟩
    · rw [Sys.runJobFeed_same htail]
      rfl
    · rw [Sys.runJobFeed_tail htail]
      rfl

end Sys2Proof.Machine

/-! SUPPORT. Jobs: what starting one leaves of the lead hub's tables and the pairs, and the job commands' runs. -/

namespace Sys2Proof.Machine

section Desk
variable {s : Sys}

/-- The lead hub's tables, the hubs and panel time are the same in both. -/
def Sys.SameDesk (a b : Sys) : Prop := b.lead = a.lead ∧ b.hubs = a.hubs ∧ b.now = a.now

theorem Sys.SameDesk.trans {a b c : Sys} (hab : Sys.SameDesk a b) (hbc : Sys.SameDesk b c) : Sys.SameDesk a c :=
  ⟨hbc.1.trans hab.1, hbc.2.1.trans hab.2.1, hbc.2.2.trans hab.2.2⟩

theorem Sys.SameDesk.job {a b : Sys} (h : Sys.SameDesk a b) (n : Nat) : b.job n = a.job n := by
  rw [Sys.job, h.1, Sys.job]

theorem Sys.SameDesk.qp {a b : Sys} (h : Sys.SameDesk a b) (k q : Nat) : b.qp k q = a.qp k q :=
  congrArg (fun m : NMap Hub => (NMap.get ({} : Hub) m k).qp q) h.2.1

theorem Sys.foldl_sameDesk {α : Type} {f : Sys → α → Sys} (hf : ∀ s a, Sys.SameDesk s (f s a)) (l : List α) (s : Sys) :
    Sys.SameDesk s (l.foldl f s) :=
  List.foldlRecOn l f (motive := Sys.SameDesk s) ⟨rfl, rfl, rfl⟩ fun u hu a _ => hu.trans (hf u a)

theorem Sys.coreCtrl_sameDesk (slots : List (Nat × Nat)) (code : Nat) : Sys.SameDesk s (s.coreCtrl slots code) :=
  List.foldlRecOn (motive := Sys.SameDesk s) _ _ ⟨rfl, rfl, rfl⟩ fun _ hu _ _ => hu

theorem Sys.armJob_sameDesk (n : Nat) : Sys.SameDesk s (s.armJob n) :=
  List.foldlRecOn (motive := Sys.SameDesk s) _ _ ⟨rfl, rfl, rfl⟩ fun _ hu _ _ => hu

theorem Sys.job_setJob_same (s : Sys) (n : Nat) (j : Job) : (s.setJob n j).job n = j := NMap.get_put_same ..

theorem Sys.qp_setJob (s : Sys) (n k q : Nat) (j : Job) : (s.setJob n j).qp k q = s.qp k q := rfl
theorem Sys.serial_setJob (s : Sys) (n : Nat) (j : Job) : (s.setJob n j).lead.serial = s.lead.serial := rfl

/-- A job whose T0 lies 20 µs ahead (R209), and one whose status word was brought up (R395). -/
def Job.startAt (j : Job) (now : Nat) : Job := { j with t0 := now + t0Lead }
def Job.stamped (j : Job) (now : Nat) : Job := { j with seq := (j.seq + 2) % 2 ^ 32, time := now }

/-- Start times change the job's T0 and the tiles (R209). -/
theorem Sys.writeStarts_sameDesk (n : Nat) :
    Sys.SameDesk (s.setJob n ((s.job n).startAt s.now)) (s.writeStarts n) :=
  List.foldlRecOn (motive := Sys.SameDesk (s.setJob n ((s.job n).startAt s.now))) _ _ ⟨rfl, rfl, rfl⟩ fun _ hu _ _ => hu

/-- A status word brought up without a new event changes the job's entry and host memory (R395). -/
theorem Sys.upJob_same (n : Nat) :
    Sys.SameDesk (s.setJob n ((s.job n).stamped s.now)) (s.upJob n (fun j => j)) := by
  have hev : (decide ((s.job n).lastEvent ≠ (s.job n).lastEvent) ||
      ((s.job n).state = .hold && decide ((s.job n).state ≠ .hold)) || ((s.job n).state.live && !(s.job n).state.live)) = false := by
    simp
  unfold Sys.upJob
  dsimp only
  rw [hev, if_neg (by decide)]
  split
  · split <;> exact ⟨rfl, rfl, rfl⟩
  · exact ⟨rfl, rfl, rfl⟩

end Desk

section Pairs
variable {s : Sys} {h q num : Nat} {r : Reply}

/-- A pair once a reply to its command `num` is given (R357, R367). -/
def QP.answered (p : QP) (num : Nat) (r : Reply) : QP :=
  match p.cmds.find? (fun c => c.num = num) with
  | none => p
  | some c =>
    let r := { r with num := num, cmdId := c.id, irq := c.irqOnDone && !r.more, later := c.accepted }
    let cmds := if r.more then p.cmds.map (fun d => if d.num = num then { d with accepted := true } else d)
      else p.cmds.filter (fun d => d.num ≠ num)
    if p.state = 1 || p.state = 2 then { p with cmds := cmds, replies := p.replies ++ [r] } else { p with cmds := cmds }

theorem Sys.pushReply_qp : (s.pushReply h q num r).qp h q = (s.qp h q).answered num r := by
  unfold Sys.pushReply QP.answered
  dsimp only
  cases hfind : (s.qp h q).cmds.find? (fun c => c.num = num) with
  | none => rfl
  | some c =>
    dsimp only
    split
    · exact Sys.qp_setQP_same ..
    · exact Sys.qp_setQP_same ..

theorem Sys.pushReply_now : (s.pushReply h q num r).now = s.now := by
  unfold Sys.pushReply
  dsimp only
  split
  · rfl
  · split <;> rfl

/-- A first reply joins those of an enabled pair (R357). -/
theorem QP.answered_more {p : QP} {e : Cmd} (hstate : p.state = 1) (hmore : r.more = true)
    (he : p.cmds.find? (fun c => c.num = num) = some e) :
    (p.answered num r).replies = p.replies ++ [{ r with num := num, cmdId := e.id, irq := false, later := e.accepted }] := by
  unfold QP.answered
  rw [he]
  dsimp only
  rw [if_pos (by simp [hstate]), hmore, Bool.not_true, Bool.and_false]

end Pairs

section Tiles

/-- The first of each that differ is all of them. -/
theorem foldl_distinct {α : Type} (f : α → Nat) : ∀ (l : List α) (acc : List Nat), (acc ++ l.map f).Nodup →
    l.foldl (fun a e => if a.contains (f e) then a else a ++ [f e]) acc = acc ++ l.map f := by
  intro l
  induction l with
  | nil => intro acc _; simp
  | cons e l ih =>
    intro acc hnodup
    have hnew : ¬ acc.contains (f e) = true := by
      rw [List.map_cons, List.nodup_append] at hnodup
      intro hin
      exact hnodup.2.2 (f e) (by simpa using hin) (f e) List.mem_cons_self rfl
    rw [List.foldl_cons, if_neg hnew, ih _ (by simpa using hnodup)]
    simp

theorem nodup_of_getD {l : List (Nat × Nat)}
    (h : ∀ i i' : Nat, i < l.length → i' < l.length → i ≠ i' → (l.getD i (0, 0)).1 ≠ (l.getD i' (0, 0)).1) :
    (l.map (fun e => e.1)).Nodup := by
  refine List.pairwise_iff_getElem.mpr fun i i' hi hi' hlt => ?_
  have := h i i' (by simpa using hi) (by simpa using hi') (Nat.ne_of_lt hlt)
  rw [List.getD_eq_getElem?_getD, List.getD_eq_getElem?_getD, List.getElem?_eq_getElem (by simpa using hi),
    List.getElem?_eq_getElem (by simpa using hi')] at this
  simpa using this

end Tiles

section Start
variable {s : Sys} {h q : Nat} {c : Cmd} {l : List Nat}

/-- The slots that a job table names: physical tile, EID (R390). -/
def Sys.startSlots (s : Sys) (spec : JobSpec) : List (Nat × Nat) := spec.table.map (fun e => ((s.tileOfEid e.slot).getD 0, e.slot))

/-- A slot that a job cannot take: its core is not at rest, or it is another job's (R390). -/
def Sys.slotTaken (s : Sys) (e : Nat × Nat) : Bool :=
  (s.coreState e.1 (e.2 % 16) ≠ .halted && s.coreState e.1 (e.2 % 16) ≠ .scalar) || (s.jobOfSlot e.2).isSome

theorem Sys.slotTaken_iff {e : Nat × Nat} : s.slotTaken e = true ↔
    (s.coreState e.1 (e.2 % 16) ≠ .halted ∧ s.coreState e.1 (e.2 % 16) ≠ .scalar) ∨ s.jobOfSlot e.2 ≠ none := by
  simp [Sys.slotTaken, Option.isSome_iff_ne_none]

theorem Sys.runJobStart_unread (hl : s.jobTable c = none) : s.runJobStart h q c = (some (Reply.noRead 8 0), s) := by
  unfold Sys.runJobStart
  rw [hl]

theorem Sys.runJobStart_empty (hl : s.jobTable c = some l) (hruns : c.p 24 4 = 0) :
    s.runJobStart h q c = (some (Reply.empty 0), s) := by
  unfold Sys.runJobStart
  rw [hl]
  exact if_pos hruns

/-- The first slot taken is named (R390). -/
theorem Sys.runJobStart_busy {i : Nat} (hl : s.jobTable c = some l) (hruns : c.p 24 4 ≠ 0)
    (hi : i < (s.startSlots (c.jobSpec h q l)).length) (htaken : s.slotTaken ((s.startSlots (c.jobSpec h q l)).getD i (0, 0)) = true)
    (hfirst : ∀ k, k < i → s.slotTaken ((s.startSlots (c.jobSpec h q l)).getD k (0, 0)) = false) :
    s.runJobStart h q c = (some (Reply.busy i), s) := by
  have hfind : (List.range (s.startSlots (c.jobSpec h q l)).length).find?
      (fun i => s.slotTaken ((s.startSlots (c.jobSpec h q l)).getD i (0, 0))) = some i := by
    rw [List.find?_range_eq_some]
    exact ⟨htaken, List.mem_range.mpr hi, fun k hk => by rw [hfirst k hk]; rfl⟩
  unfold Sys.startSlots Sys.slotTaken at hfind
  unfold Sys.runJobStart
  rw [hl]
  refine (if_neg hruns).trans ?_
  dsimp only
  rw [hfind]

theorem Sys.startSlots_free (hfree : ∀ i, i < (s.startSlots (c.jobSpec h q l)).length →
      s.slotTaken ((s.startSlots (c.jobSpec h q l)).getD i (0, 0)) = false) :
    (List.range (s.startSlots (c.jobSpec h q l)).length).find?
      (fun i => s.slotTaken ((s.startSlots (c.jobSpec h q l)).getD i (0, 0))) = none := by
  rw [List.find?_eq_none]
  intro i hi
  rw [hfree i (List.mem_range.mp hi)]
  decide

theorem Sys.runJobStart_held (hl : s.jobTable c = some l) (hruns : c.p 24 4 ≠ 0)
    (hfree : ∀ i, i < (s.startSlots (c.jobSpec h q l)).length →
      s.slotTaken ((s.startSlots (c.jobSpec h q l)).getD i (0, 0)) = false) (hhold : s.inHold = true) :
    s.runJobStart h q c = (some { status := stThermalHold }, s) := by
  have hfind := Sys.startSlots_free hfree
  unfold Sys.startSlots Sys.slotTaken at hfind
  unfold Sys.runJobStart
  rw [hl]
  refine (if_neg hruns).trans ?_
  dsimp only
  rw [hfind]
  exact if_pos hhold

theorem Sys.runJobStart_denied (hl : s.jobTable c = some l) (hruns : c.p 24 4 ≠ 0)
    (hfree : ∀ i, i < (s.startSlots (c.jobSpec h q l)).length →
      s.slotTaken ((s.startSlots (c.jobSpec h q l)).getD i (0, 0)) = false) (hhold : s.inHold = false)
    (hpower : ∀ k o, s.newJobFits k o = false) : s.runJobStart h q c = (some { status := stPowerDenied }, s) := by
  have hfind := Sys.startSlots_free hfree
  unfold Sys.startSlots Sys.slotTaken at hfind
  unfold Sys.runJobStart
  rw [hl]
  refine (if_neg hruns).trans ?_
  dsimp only
  rw [hfind]
  refine (if_neg (by rw [hhold]; decide)).trans ?_
  simp only [hpower]
  rw [List.find?_eq_none.mpr (fun _ _ => by decide)]

/-- The panel in which job slot `n` holds a new job at the point granted, before its reply (R391, R464). -/
def Sys.jobEntered (s : Sys) (n : Nat) (j : Job) (tiles : List Nat) : Sys :=
  let u := (s.modLead (fun l => { l with serial := j.serial })).setJob n j
  let v : Sys := { u with power := { u.power with oppWait := u.power.oppWait.filter (fun w => w.1 ≠ n) } }
  tiles.foldl (fun (s : Sys) t => s.modTile t (fun x => x.toOpp j.opp)) v

/-- The panel once job `n` is entered, answered, written to its slots and started (R208, R209, R397). -/
def Sys.jobLaunched (s : Sys) (h q num n : Nat) (j : Job) (tiles : List Nat) : Sys :=
  let u := (s.jobEntered n j tiles).pushReply h q num { status := stAccepted, more := true, handle := j.handle n }
  let v := (u.jobSlots j).foldl (fun (s : Sys) e => s.writeSlot j e.1 e.2.1 e.2.2) u
  (((v.armJob n).writeStarts n).upJob n (fun j => j)).jobCtrl n 4

/-- The job that a JOB_START makes at the point that its profile prefers (R391). -/
def Sys.newJob (s : Sys) (spec : JobSpec) : Job :=
  { spec := spec, state := .loading, serial := (s.lead.serial + 1) % 2 ^ 32, opp := spec.prefOpp }

theorem Sys.runJobStart_launches {k : Nat} (hl : s.jobTable c = some l) (hruns : c.p 24 4 ≠ 0)
    (hfree : ∀ i, i < (s.startSlots (c.jobSpec h q l)).length →
      s.slotTaken ((s.startSlots (c.jobSpec h q l)).getD i (0, 0)) = false) (hhold : s.inHold = false)
    (hpower : ∀ o, s.newJobFits l.length o = true) (htiles : ((s.startSlots (c.jobSpec h q l)).map (fun e => e.1)).Nodup)
    (halone : ∀ m, (s.job m).state.live = true →
      ∀ y ∈ s.jobTiles (s.job m), y ∉ (s.startSlots (c.jobSpec h q l)).map (fun e => e.1)) (hk : s.freeJobSlot = some k) :
    s.runJobStart h q c = (none, s.jobLaunched h q c.num k (s.newJob (c.jobSpec h q l))
      ((s.startSlots (c.jobSpec h q l)).map (fun e => e.1))) := by
  have hfind := Sys.startSlots_free hfree
  have hdistinct := foldl_distinct (fun e : Nat × Nat => e.1) (s.startSlots (c.jobSpec h q l)) [] (by simpa using htiles)
  rw [List.nil_append] at hdistinct
  have hshared : (NMap.keys s.lead.jobs).filter (fun n => (s.job n).state.live && (s.jobTiles (s.job n)).any
      (fun t => ((s.startSlots (c.jobSpec h q l)).map (fun e => e.1)).contains t)) = [] := by
    rw [List.filter_eq_nil_iff]
    intro m _ hm
    simp only [Bool.and_eq_true, List.any_eq_true, List.contains_iff_mem] at hm
    obtain ⟨hlive, y, hy, hin⟩ := hm
    exact halone m hlive y hy hin
  have hlen : ((s.startSlots (c.jobSpec h q l)).map (fun e => e.1)).length = l.length := by
    simp [Sys.startSlots, Cmd.jobSpec]
  have hpoint : (List.range ((c.jobSpec h q l).prefOpp + 1)).reverse.find? (fun n => s.newJobFits l.length n) =
      some (c.jobSpec h q l).prefOpp := by
    rw [List.range_succ, List.reverse_append]
    exact List.find?_cons_of_pos (hpower _)
  unfold Sys.runJobStart
  rw [hl]
  refine (if_neg hruns).trans ?_
  unfold Sys.startSlots Sys.slotTaken at hfind
  dsimp only
  rw [hfind]
  refine (if_neg (by rw [hhold]; decide)).trans ?_
  unfold Sys.startSlots at hdistinct hshared hlen
  rw [hdistinct, hshared, hlen, List.foldl_nil, hpoint]
  dsimp only
  rw [hk]
  refine congrArg (Prod.mk none) ((if_neg (by simp)).trans ?_)
  have hnone (f : Nat → List Nat) (m : List Nat) : m.filter (fun t => !(List.flatMap f []).contains t) = m :=
    List.filter_eq_self.mpr fun _ _ => rfl
  rw [hnone]
  rfl

/-- The job launched stands in its slot with T0 20 µs ahead, and its pair holds the ACCEPTED reply (R209, R391, R393). -/
theorem Sys.jobLaunched_job (num n : Nat) (j : Job) (tiles : List Nat) :
    (s.jobLaunched h q num n j tiles).job n = (j.startAt s.now).stamped s.now ∧
      (s.jobLaunched h q num n j tiles).lead.serial = j.serial ∧
      (s.jobLaunched h q num n j tiles).qp h q =
        (s.qp h q).answered num { status := stAccepted, more := true, handle := j.handle n } := by
  have hentered : Sys.SameDesk ((s.modLead (fun l => { l with serial := j.serial })).setJob n j) (s.jobEntered n j tiles) :=
    List.foldlRecOn (motive := Sys.SameDesk ((s.modLead (fun l => { l with serial := j.serial })).setJob n j)) _ _
      ⟨rfl, rfl, rfl⟩ fun _ hu _ _ => hu
  obtain ⟨hlead, hhubs, hnow⟩ := hentered
  let r : Reply := { status := stAccepted, more := true, handle := j.handle n }
  let v := (s.jobEntered n j tiles).pushReply h q num r
  have hvlead : v.lead = { s.lead with serial := j.serial, jobs := NMap.put s.lead.jobs n j } :=
    (Sys.pushReply_keeps ..).1.trans hlead
  have hvnow : v.now = s.now := Sys.pushReply_now.trans hnow
  have hvqp : v.qp h q = (s.qp h q).answered num r := by
    rw [Sys.pushReply_qp, Sys.SameDesk.qp (a := (s.modLead (fun l => { l with serial := j.serial })).setJob n j)
      ⟨hlead, hhubs, hnow⟩]
    rfl
  let w := ((v.jobSlots j).foldl (fun (s : Sys) e => s.writeSlot j e.1 e.2.1 e.2.2) v).armJob n
  have hw : Sys.SameDesk v w :=
    (List.foldlRecOn (motive := Sys.SameDesk v) _ _ ⟨rfl, rfl, rfl⟩ fun _ hu _ _ => hu : Sys.SameDesk v
      ((v.jobSlots j).foldl (fun (s : Sys) e => s.writeSlot j e.1 e.2.1 e.2.2) v)).trans (Sys.armJob_sameDesk n)
  have hwjob : w.job n = j := by
    rw [hw.job, Sys.job, hvlead]
    exact NMap.get_put_same ..
  have hstarts := Sys.writeStarts_sameDesk (s := w) n
  have hup := Sys.upJob_same (s := w.writeStarts n) n
  have hctrl : Sys.SameDesk ((w.writeStarts n).upJob n (fun j => j)) (s.jobLaunched h q num n j tiles) :=
    Sys.coreCtrl_sameDesk _ 4
  have hnow : w.now = s.now := hw.2.2.trans hvnow
  have hlater : (w.writeStarts n).now = s.now := hstarts.2.2.trans hnow
  have hjob : (s.jobLaunched h q num n j tiles).job n = (j.startAt s.now).stamped s.now := by
    rw [hctrl.job, hup.job, Sys.job_setJob_same, hstarts.job, Sys.job_setJob_same, hwjob, hnow, hlater]
  have hserial : (s.jobLaunched h q num n j tiles).lead.serial = j.serial := by
    rw [hctrl.1, hup.1, Sys.serial_setJob, hstarts.1, Sys.serial_setJob, hw.1, hvlead]
  have hqp : (s.jobLaunched h q num n j tiles).qp h q = (s.qp h q).answered num r := by
    rw [hctrl.qp, hup.qp, Sys.qp_setJob, hstarts.qp, Sys.qp_setJob, hw.qp, hvqp]
  exact ⟨hjob, hserial, hqp⟩

end Start

end Sys2Proof.Machine

/-! SUPPORT. Commands on a running job, and O54. -/

namespace Sys2Proof.Machine

section Refused
variable {s : State} {h q op : Nat} {c : Cmd} {i : Instr} {bad : Sys → Cmd → List (Nat × Nat)}
  {run : Sys → Cmd → Option Reply × Sys}

/-- The job that a handle names stands in the slot that it tells (R391). -/
theorem Sys.jobOfHandle_slot {t : Sys} {n : Nat} (hn : t.jobOfHandle c = some n) : n = c.p 8 8 % 4096 := by
  unfold Sys.jobOfHandle at hn
  dsimp only at hn
  split at hn
  · split at hn
    · exact (Option.some.inj hn).symm
    · exact absurd hn nofun
  · exact absurd hn nofun

theorem State.checks_handle (hchecks : s.checks h q op badHandle c = []) :
    s.checks h q op noChecks c = [] ∧ (s.started h q c).jobOfHandle c = some (c.p 8 8 % 4096) := by
  rw [State.checks_own, List.append_eq_nil_iff] at hchecks
  obtain ⟨hgood, hown⟩ := hchecks
  obtain ⟨n, hn⟩ := Option.isSome_iff_exists.mp (fails_eq_nil.mp hown)
  exact ⟨hgood, by rw [hn, Sys.jobOfHandle_slot hn]⟩

/-- A command that names a job is refused with the job's handle (R367). -/
theorem State.exec_refused_job {k r : Nat} (hexec : exec i s = s.act i.wf (fun y => y.command h q op bad run)) (hwf : i.wf = true)
    (hs : s.starts h q op c) (hop : [0x32, 0x33, 0x34, 0x35, 0x38].contains op = true)
    (hgood : s.checks h q op noChecks c = []) (hjob : ((s.started h q c).jobOfHandle c).isSome = true)
    (hbad : lowestBad (bad (s.started h q c) c) = some (k, r)) :
    exec i s = .next (s.replied h q c (s.started h q c) (c.withHandle (if r = denyMark then Reply.deny k else Reply.bad k r))) := by
  rw [hexec, hwf, State.act_true, State.command_refused hs run (by rw [State.checks_own, hgood]; exact hbad), Sys.refusal,
    State.starts_op hs, hop, hjob, if_pos (by decide)]

end Refused

/-- What a job's start leaves of its entry (R209, R391, R395). -/
theorem Job.launched_fields (j : Job) (now k : Nat) : ((j.startAt now).stamped now).state = j.state ∧
    ((j.startAt now).stamped now).opp = j.opp ∧ ((j.startAt now).stamped now).serial = j.serial ∧
    ((j.startAt now).stamped now).spec = j.spec ∧ ((j.startAt now).stamped now).t0 = now + 20000 ∧
    ((j.startAt now).stamped now).handle k = j.handle k := ⟨rfl, rfl, rfl, rfl, rfl, rfl⟩

section Accepted
variable {s : State} {h q : Nat} {c e : Cmd} {r : Reply}

/-- The first reply to the command just started joins its pair's (R357, R358). -/
theorem State.answered_started (hstate : (s.sys.qp h q).state = 1) (hmore : r.more = true)
    (he : (s.sys.qp h q).cmds.find? (fun d => d.num = c.num) = some e) :
    (((s.started h q c).qp h q).answered c.num r).replies = (s.sys.qp h q).replies ++
      [{ r with num := c.num, cmdId := e.id, irq := false, later := e.accepted }] := by
  have hp : (s.started h q c).qp h q = { s.sys.qp h q with cmds := (s.sys.qp h q).cmds.map (Cmd.begun c.num) } :=
    Sys.qp_setQP_same ..
  have hfind : ((s.started h q c).qp h q).cmds.find? (fun d => d.num = c.num) = some (e.begun c.num) := by
    rw [hp]
    dsimp only
    rw [List.find?_map]
    simp only [Function.comp_def, Cmd.begun_num, he, Option.map_some]
  have hsame : (e.begun c.num).id = e.id ∧ (e.begun c.num).accepted = e.accepted := by
    unfold Cmd.begun
    split <;> exact ⟨rfl, rfl⟩
  rw [QP.answered_more (by rw [hp]; exact hstate) hmore hfind, hp, hsame.1, hsame.2]

end Accepted

section Commit
variable {s : Sys} {h q : Nat} {c : Cmd}

theorem badStepCommit_job (hn : s.jobOfHandle c = some (c.p 8 8 % 4096)) :
    badStepCommit s c = denies 8 (!(s.job (c.p 8 8 % 4096)).commitDenied) ++
      fails 16 ((s.job (c.p 8 8 % 4096)).stepOk (c.p 16 4)) := by
  unfold badStepCommit
  rw [hn]

theorem lowestBad_denied (ok : Bool) : lowestBad (denies 8 false ++ fails 16 ok) = some (8, denyMark) := by
  cases ok <;> rfl

/-- A job POISONED at its oldest step, which the host may commit (R400). -/
def Job.heldPoisoned (j : Job) : Prop := j.state = .hold ∧ j.holdCause = 2 ∧ j.oldest ∈ j.poison

theorem Job.commitDenied_eq_false {j : Job} (hmay : j.spec.hostCommit = true ∨ j.heldPoisoned) (hload : j.state ≠ .loading)
    (hreplay : j.state ≠ .replaying) : j.commitDenied = false := by
  rcases hmay with hhost | ⟨hhold, hcause, hpoison⟩
  · simp [Job.commitDenied, hhost, hload, hreplay]
  · simp [Job.commitDenied, hhold, hcause, hpoison]

theorem Job.commitDenied_firmware {j : Job} (hhost : j.spec.hostCommit = false) (hheld : ¬ j.heldPoisoned) :
    j.commitDenied = true := by
  unfold Job.heldPoisoned at hheld
  simp only [Job.commitDenied, hhost, Bool.not_false, Bool.true_and, Bool.or_eq_true, Bool.not_eq_true', Bool.and_eq_false_iff,
    decide_eq_false_iff_not]
  refine .inl (.inl ?_)
  by_cases hhold : j.state = .hold
  · by_cases hcause : j.holdCause = 2
    · exact .inr (Bool.eq_false_iff.mpr fun hmem => hheld ⟨hhold, hcause, List.contains_iff_mem.mp hmem⟩)
    · exact .inl (.inr hcause)
  · exact .inl (.inl hhold)

theorem Job.commitDenied_state {j : Job} (hst : j.state = .loading ∨ j.state = .replaying) : j.commitDenied = true := by
  rcases hst with hst | hst <;> simp [Job.commitDenied, hst]

/-- The step named is the oldest uncommitted one, and every slot has ended it (R400). -/
def Job.stepEnded (j : Job) (step : Nat) : Prop := step = j.oldest % 2 ^ 32 ∧ ∀ e ∈ j.spec.table, e.slot ∈ NMap.get [] j.ends j.oldest

theorem Job.stepOk_live {j : Job} {step : Nat} (hlive : j.state.live = true) : j.stepOk step = true ↔ j.stepEnded step := by
  unfold Job.stepOk Job.stepEnded
  rw [if_pos hlive]
  simp [List.all_eq_true]

theorem Sys.runStepCommit_ended (hlive : (s.job (c.p 8 8 % 4096)).state.live = false) :
    s.runStepCommit h q c = (some (c.withHandle { status := stStateLost }), s) :=
  if_pos (by rw [show (s.job (s.jobNamed c)).state.live = false from hlive]; rfl)

theorem Sys.runStepCommit_asked (hlive : (s.job (c.p 8 8 % 4096)).state.live = true) :
    s.runStepCommit h q c = (none, (((s.modJob (c.p 8 8 % 4096) (fun j => { j with
      asked := j.asked.filter (fun a => a.1 ≠ (s.job (c.p 8 8 % 4096)).oldest) ++
        [((s.job (c.p 8 8 % 4096)).oldest, bitOf (c.p 20 1) 0)] })).addWait h q c.num
        (.stepCommit (c.p 8 8 % 4096) (s.job (c.p 8 8 % 4096)).oldest) (c.withHandle {})).commitSweepDone
          (c.p 8 8 % 4096)).beginCommit (c.p 8 8 % 4096)) :=
  if_neg (by rw [show (s.job (s.jobNamed c)).state.live = true from hlive]; decide)

end Commit

section Replay
variable {s : Sys} {h q : Nat} {c : Cmd}

theorem Sys.runStepReplay_held (hhold : ((s.job (c.p 8 8 % 4096)).state = .hold ∧ (s.job (c.p 8 8 % 4096)).holdCause = 1) ∨
      (s.inHold = true ∧ (s.job (c.p 8 8 % 4096)).state = .running)) :
    s.runStepReplay h q c = (some (c.withHandle { status := stThermalHold }), s) := by
  unfold Sys.runStepReplay Sys.jobNamed
  dsimp only
  rw [if_pos (by simpa using hhold)]

theorem Sys.runStepReplay_denied (hrun : (s.job (c.p 8 8 % 4096)).state ≠ .running)
    (hhold : (s.job (c.p 8 8 % 4096)).state ≠ .hold ∨
      ((s.job (c.p 8 8 % 4096)).holdCause ≠ 1 ∧ (s.job (c.p 8 8 % 4096)).holdCause ≠ 2)) :
    s.runStepReplay h q c = (some (c.withHandle (Reply.deny 8)), s) := by
  unfold Sys.runStepReplay Sys.jobNamed
  dsimp only
  rw [if_neg (by rcases hhold with hst | ⟨h1, h2⟩ <;> simp [*]), if_neg (by rcases hhold with hst | ⟨h1, h2⟩ <;> simp [*])]

theorem Sys.runStepReplay_begins (hok : (s.inHold = false ∧ (s.job (c.p 8 8 % 4096)).state = .running) ∨
      ((s.job (c.p 8 8 % 4096)).state = .hold ∧ (s.job (c.p 8 8 % 4096)).holdCause = 2)) :
    let u := s.addWait h q c.num (.replay (c.p 8 8 % 4096)) (c.withHandle {})
    s.runStepReplay h q c = (none, if (s.job (c.p 8 8 % 4096)).copying then u.laterJob (c.p 8 8 % 4096)
      else u.beginReplay (c.p 8 8 % 4096)) := by
  unfold Sys.runStepReplay Sys.jobNamed
  dsimp only
  rw [if_neg (by rcases hok with ⟨h1, h2⟩ | ⟨h1, h2⟩ <;> simp [*]), if_pos (by rcases hok with ⟨h1, h2⟩ | ⟨h1, h2⟩ <;> simp [*])]

end Replay

section Stop
variable {s : Sys} {h q : Nat} {c : Cmd}

theorem Sys.runJobStop_ended (hlive : (s.job (c.p 8 8 % 4096)).state.live = false) :
    s.runJobStop h q c = (some (c.withHandle (Reply.ok (s.job (c.p 8 8 % 4096)).lapsCommitted)), s) :=
  if_pos (by rw [show (s.job (s.jobNamed c)).state.live = false from hlive]; rfl)

theorem Sys.runJobStop_now (hlive : (s.job (c.p 8 8 % 4096)).state.live = true) (hat : bitOf (c.p 16 1) 0 = false) :
    s.runJobStop h q c = (none, (s.addWait h q c.num (.jobStop (c.p 8 8 % 4096)) (c.withHandle {})).stopJob (c.p 8 8 % 4096) 0) :=
  (if_neg (by rw [show (s.job (s.jobNamed c)).state.live = true from hlive]; decide)).trans (if_neg (by rw [hat]; decide))

/-- A stop at a step's end names the step, arms the freeze registers and leaves the waits to it (R402). -/
theorem Sys.runJobStop_step (hlive : (s.job (c.p 8 8 % 4096)).state.live = true) (hat : bitOf (c.p 16 1) 0 = true) :
    ∃ u : Sys, s.runJobStop h q c = (none, u) ∧
      (u.job (c.p 8 8 % 4096)).stopAtStep =
        some ((s.job (c.p 8 8 % 4096)).stopAtStep.getD (s.currentStep (s.job (c.p 8 8 % 4096)))) ∧
      u.lead.waits = (s.addWait h q c.num (.jobStop (c.p 8 8 % 4096)) (c.withHandle {})).lead.waits := by
  refine ⟨_, (if_neg (by rw [show (s.job (s.jobNamed c)).state.live = true from hlive]; decide)).trans (if_pos hat), ?_⟩
  split
  · exact ⟨congrArg Job.stopAtStep (Sys.job_setJob_same ..), rfl⟩
  · rw [Sys.SameDesk.job (Sys.armJob_sameDesk _), (Sys.armJob_sameDesk _).1]
    exact ⟨congrArg Job.stopAtStep (Sys.job_setJob_same ..), rfl⟩

end Stop

section Phase
variable {s : Sys} {h q : Nat} {c : Cmd}

theorem JobState.phase_refused {j : JobState} (hrun : j ≠ .running) (hhold : j ≠ .hold) :
    (!j.live || decide (j = .loading) || decide (j = .replaying)) = true := by
  cases j with
  | running => exact absurd rfl hrun
  | hold => exact absurd rfl hhold
  | _ => rfl

theorem JobState.phase_settable {j : JobState} (hst : j = .running ∨ j = .hold) :
    ¬ (!j.live || decide (j = .loading) || decide (j = .replaying)) = true := by
  rcases hst with rfl | rfl <;> decide

theorem Sys.runPhaseSet_denied (hrun : (s.job (c.p 8 8 % 4096)).state ≠ .running) (hhold : (s.job (c.p 8 8 % 4096)).state ≠ .hold) :
    s.runPhaseSet h q c = (some (c.withHandle (Reply.deny 8)), s) := if_pos (JobState.phase_refused hrun hhold)

theorem Sys.runPhaseSet_held (hst : (s.job (c.p 8 8 % 4096)).state = .running ∨ (s.job (c.p 8 8 % 4096)).state = .hold)
    (hhold : s.inHold = true) : s.runPhaseSet h q c = (some (c.withHandle { status := stThermalHold }), s) :=
  (if_neg (JobState.phase_settable hst)).trans (if_pos hhold)

theorem Sys.runPhaseSet_set (hst : (s.job (c.p 8 8 % 4096)).state = .running ∨ (s.job (c.p 8 8 % 4096)).state = .hold)
    (hhold : s.inHold = false) :
    let v := s.modJob (c.p 8 8 % 4096) (fun j => { j with spec := { j.spec with prefOpp := c.p 16 1 } })
    let g := v.jobGroup (c.p 8 8 % 4096)
    let op := v.bestOpp (v.groupW g) (v.groupPref g) (s.job (c.p 8 8 % 4096)).opp
    s.runPhaseSet h q c = if op = (s.job (c.p 8 8 % 4096)).opp then (some (c.withHandle (Reply.ok op)), v)
      else (none, (v.addWait h q c.num (.phase (c.p 8 8 % 4096)) (c.withHandle {})).askOpp g op) :=
  (if_neg (JobState.phase_settable hst)).trans (if_neg (by rw [hhold]; decide))

end Phase

/-- Settles O54. -/
theorem jobCommands : Obligations.JobCommands := by
  unfold Obligations.JobCommands
  intro s h q c hh hq t mine say sayJob wait n j
  have hwf : (isHub h && isPair q) = true := by simp [isHub, isPair, hh, hq]
  refine ⟨fun ha => ?start, fun hst hchecks => ?commit, fun ha => ?replay, fun ha => ?stop, fun ha => ?phase⟩
  case start =>
    refine ⟨fun hl => ?_, fun l hl hruns => ?_, fun l hl hruns => ?_⟩
    · exact State.exec_answers (exec_jobStart h q s) hwf ha (Sys.runJobStart_unread hl)
    · exact State.exec_answers (exec_jobStart h q s) hwf ha (Sys.runJobStart_empty hl hruns)
    · intro spec slots taken
      have hfree (hno : ∀ i, i < slots.length → ¬ taken i) (i : Nat) (hi : i < slots.length) :
          t.slotTaken (slots.getD i (0, 0)) = false := by
        rw [Bool.eq_false_iff]
        exact fun htaken => hno i hi (Sys.slotTaken_iff.mp htaken)
      refine ⟨fun i hi htaken hfirst => ?_, fun hno hhold => ?_, fun hno hhold hpower => ?_,
        fun k hno hhold hpower hdistinct halone hk => ?_⟩
      · exact State.exec_answers (exec_jobStart h q s) hwf ha (Sys.runJobStart_busy hl hruns hi (Sys.slotTaken_iff.mpr htaken)
          fun k hk => by rw [Bool.eq_false_iff]; exact fun ht => hfirst k hk (Sys.slotTaken_iff.mp ht))
      · exact State.exec_answers (exec_jobStart h q s) hwf ha (Sys.runJobStart_held hl hruns (hfree hno) hhold)
      · exact State.exec_answers (exec_jobStart h q s) hwf ha (Sys.runJobStart_denied hl hruns (hfree hno) hhold hpower)
      · have hnodup : ((t.startSlots spec).map (fun e => e.1)).Nodup := nodup_of_getD hdistinct
        have hlaunch := Sys.runJobStart_launches (s := t) (h := h) (q := q) hl hruns (hfree hno) hhold hpower hnodup halone hk
        obtain ⟨hjob, hserial, hqp⟩ := Sys.jobLaunched_job (s := t) (h := h) (q := q) c.num k (t.newJob (c.jobSpec h q l))
          ((t.startSlots (c.jobSpec h q l)).map (fun e => e.1))
        obtain ⟨hst, hopp, hser, hspec, ht0, hhandle⟩ := Job.launched_fields (t.newJob (c.jobSpec h q l)) t.now k
        generalize t.jobLaunched h q c.num k (t.newJob (c.jobSpec h q l)) _ = u at hlaunch hjob hserial hqp
        refine ⟨u, State.exec_waits (exec_jobStart h q s) hwf ha hlaunch, ?_⟩
        rw [hjob, hqp, hst, hopp, hser, hspec, ht0, hhandle]
        exact ⟨rfl, rfl, rfl, rfl, rfl, hserial, fun hstate e he => State.answered_started hstate rfl he⟩
  case commit =>
    obtain ⟨hgood, hhandle⟩ := State.checks_handle hchecks
    have hown : badStepCommit t c = denies 8 (!j.commitDenied) ++ fails 16 (j.stepOk (c.p 16 4)) := badStepCommit_job hhandle
    have hrefused {k r : Nat} (hlow : lowestBad (badStepCommit t c) = some (k, r)) : exec (.stepCommit h q) s =
        say t (c.withHandle (if r = denyMark then Reply.deny k else Reply.bad k r)) :=
      State.exec_refused_job (exec_stepCommit h q s) hwf hst rfl hgood (by rw [hhandle]; rfl) hlow
    have hdenied (hd : j.commitDenied = true) :
        exec (.stepCommit h q) s = sayJob { status := stNotPermitted, field := 8 } := by
      rw [hrefused (by rw [hown, hd]; exact lowestBad_denied _), if_pos rfl]
      rfl
    have hnot (hd : j.commitDenied = false) (hok : j.stepOk (c.p 16 4) = false) :
        exec (.stepCommit h q) s = sayJob { status := stInvalidField, field := 16 } := by
      rw [hrefused (k := 16) (r := 0) (by rw [hown, hd, hok]; rfl), if_neg (by decide)]
      rfl
    have haccepts (hd : j.commitDenied = false) (hok : j.stepOk (c.p 16 4) = true) : s.accepts h q 0x32 badStepCommit c :=
      ⟨hst, by rw [State.checks_own, hgood, show badStepCommit _ c = _ from hown, hd, hok]; rfl⟩
    intro k held now_
    refine ⟨fun hhost hheld => ?_, fun hload => ?_, fun hhost hended => ?_, fun hhost hlive hno => ?_, fun hmay hlive hnow => ?_⟩
    · exact hdenied (Job.commitDenied_firmware hhost hheld)
    · exact hdenied (Job.commitDenied_state hload)
    · have hd : j.commitDenied = false :=
        Job.commitDenied_eq_false (.inl hhost) (by rcases hended with h | h <;> rw [h] <;> decide)
          (by rcases hended with h | h <;> rw [h] <;> decide)
      have hlive : j.state.live = false := by rcases hended with h | h <;> rw [h] <;> rfl
      have hstep : j.stepOk (c.p 16 4) = decide (j.failStatus = stStateLost) := if_neg (by rw [hlive]; decide)
      split
      next hlost =>
        exact State.exec_answers (exec_stepCommit h q s) hwf (haccepts hd (by rw [hstep, hlost]; decide))
          (Sys.runStepCommit_ended hlive)
      next hlost => exact hnot hd (by rw [hstep]; simpa using hlost)
    · have hd : j.commitDenied = false :=
        Job.commitDenied_eq_false (.inl hhost) (by rcases hlive with h | h <;> rw [h] <;> decide)
          (by rcases hlive with h | h <;> rw [h] <;> decide)
      have hl : j.state.live = true := by rcases hlive with h | h <;> rw [h] <;> rfl
      refine hnot hd ?_
      rw [Bool.eq_false_iff]
      exact fun hok => hno ((Job.stepOk_live hl).mp hok)
    · have hd : j.commitDenied = false :=
        Job.commitDenied_eq_false hmay (by rcases hlive with h | h <;> rw [h] <;> decide)
          (by rcases hlive with h | h <;> rw [h] <;> decide)
      have hl : j.state.live = true := by rcases hlive with h | h <;> rw [h] <;> rfl
      exact State.exec_waits (exec_stepCommit h q s) hwf (haccepts hd ((Job.stepOk_live hl).mpr hnow)) (Sys.runStepCommit_asked hl)
  case replay =>
    refine ⟨fun hhold => ?_, fun hrun hhold => ?_, fun hok hcopy => ?_, fun hok hcopy => ?_⟩
    · exact State.exec_answers (exec_stepReplay h q s) hwf ha (Sys.runStepReplay_held hhold)
    · exact State.exec_answers (exec_stepReplay h q s) hwf ha (Sys.runStepReplay_denied hrun hhold)
    · exact State.exec_waits (exec_stepReplay h q s) hwf ha
        ((Sys.runStepReplay_begins hok).trans (congrArg (Prod.mk none) (if_neg (by rw [show _ = false from hcopy]; decide))))
    · exact State.exec_waits (exec_stepReplay h q s) hwf ha
        ((Sys.runStepReplay_begins hok).trans (congrArg (Prod.mk none) (if_pos hcopy)))
  case stop =>
    refine ⟨fun hended => ?_, fun hlive hat => ?_, fun hlive hat => ?_⟩
    · exact State.exec_answers (exec_jobStop h q s) hwf ha (Sys.runJobStop_ended hended)
    · exact State.exec_waits (exec_jobStop h q s) hwf ha (Sys.runJobStop_now hlive hat)
    · obtain ⟨u, hrun, hstep, hwaits⟩ := Sys.runJobStop_step (s := t) (h := h) (q := q) hlive hat
      exact ⟨u, State.exec_waits (exec_jobStop h q s) hwf ha hrun, hstep, hwaits⟩
  case phase =>
    refine ⟨fun hrun hhold => ?_, fun hst hhold => ?_, fun hst hhold => ?_⟩
    · exact State.exec_answers (exec_phaseSet h q s) hwf ha (Sys.runPhaseSet_denied hrun hhold)
    · exact State.exec_answers (exec_phaseSet h q s) hwf ha (Sys.runPhaseSet_held hst hhold)
    · intro v g op
      have hrun := Sys.runPhaseSet_set (s := t) (h := h) (q := q) hst hhold
      refine ⟨fun hsame => ?_, fun hnew => ?_⟩
      · exact State.exec_answers (exec_phaseSet h q s) hwf ha (hrun.trans (if_pos hsame))
      · exact State.exec_waits (exec_phaseSet h q s) hwf ha (hrun.trans (if_neg hnew))

end Sys2Proof.Machine

/-! SUPPORT. What the lead hub's work on jobs leaves of the job table (R393–R403). -/

namespace Sys2Proof.Machine

/-- The job table is the same in both. -/
def Sys.SameJobs (a b : Sys) : Prop := b.lead.jobs = a.lead.jobs

section SameJobs
variable {a b c s : Sys}

theorem Sys.SameJobs.refl : Sys.SameJobs s s := rfl
theorem Sys.SameJobs.trans (hab : Sys.SameJobs a b) (hbc : Sys.SameJobs b c) : Sys.SameJobs a c := Eq.trans hbc hab

theorem Sys.SameJobs.job (h : Sys.SameJobs a b) (n : Nat) : b.job n = a.job n := by
  rw [Sys.job, h, Sys.job]

theorem Sys.foldl_sameJobs {α : Type} {f : Sys → α → Sys} (hf : ∀ s a, Sys.SameJobs s (f s a)) (l : List α) (s : Sys) :
    Sys.SameJobs s (l.foldl f s) :=
  List.foldlRecOn l f (motive := Sys.SameJobs s) rfl fun u hu a _ => hu.trans (hf u a)

theorem Sys.SameButLog.sameJobs (h : Sys.SameButLog a b) : Sys.SameJobs a b := by
  rw [Sys.SameJobs, h.lead]

theorem Sys.SameDesk.sameJobs (h : Sys.SameDesk a b) : Sys.SameJobs a b := congrArg Lead.jobs h.1

theorem Sys.pushReply_sameJobs (h q num : Nat) (r : Reply) : Sys.SameJobs s (s.pushReply h q num r) :=
  congrArg Lead.jobs (Sys.pushReply_keeps ..).1

theorem Sys.answerWaits_sameJobs (sel : WaitFor → Bool) (f : Reply → Reply) : Sys.SameJobs s (s.answerWaits sel f) :=
  List.foldlRecOn (motive := Sys.SameJobs s) _ _ rfl fun _ hu _ _ => hu.trans (Sys.pushReply_sameJobs ..)

theorem Sys.jobCtrl_sameJobs (n code : Nat) : Sys.SameJobs s (s.jobCtrl n code) := congrArg Lead.jobs (Sys.coreCtrl_lead ..)

theorem Sys.modTiles_sameJobs (l : List Nat) (f : Tile → Tile) :
    Sys.SameJobs s (l.foldl (fun (u : Sys) t => u.modTile t f) s) :=
  Sys.foldl_sameJobs (f := fun (u : Sys) t => u.modTile t f) (fun _ _ => rfl) _ _

theorem Sys.placeShadow_sameJobs {o k : Nat} {u : Sys} (hu : s.placeShadow o k = some u) : Sys.SameJobs s u := by
  unfold Sys.placeShadow at hu
  split at hu
  · split at hu
    · exact (Option.some.inj hu) ▸ rfl
    · exact absurd hu nofun
  · exact absurd hu nofun

theorem Sys.ensureShadows_sameJobs (p : Nat) : Sys.SameJobs s (s.ensureShadows p) := by
  refine Sys.foldl_sameJobs (fun u t => Sys.foldl_sameJobs (fun v k => ?_) _ _) _ _
  have hput (have_ : Bool) : Sys.SameJobs v (if have_ then v else (v.placeShadow t k).getD v) := by
    split
    · exact .refl
    · cases hv : v.placeShadow t k with
      | none => exact .refl
      | some w => exact Sys.placeShadow_sameJobs hv
  exact hput _

/-- A job's status word goes up: its entry, stamped, and nothing else of the table (R395). -/
theorem Sys.upJob_sameJobs (n : Nat) (f : Job → Job) :
    Sys.SameJobs (s.setJob n { f (s.job n) with seq := ((s.job n).seq + 2) % 2 ^ 32, time := s.now }) (s.upJob n f) := by
  unfold Sys.upJob
  dsimp only
  split
  · split
    · split
      · exact (Sys.eventBoth_sameButLog 4).sameJobs
      · exact (Sys.eventBoth_sameButLog 4).sameJobs
    · split <;> exact .refl
  · split
    · exact (Sys.eventBoth_sameButLog 4).sameJobs
    · exact .refl

theorem Sys.upJob_job (n : Nat) (f : Job → Job) :
    (s.upJob n f).job n = { f (s.job n) with seq := ((s.job n).seq + 2) % 2 ^ 32, time := s.now } :=
  ((Sys.upJob_sameJobs n f).job n).trans (Sys.job_setJob_same ..)

theorem Sys.modJob_job (n : Nat) (f : Job → Job) : (s.modJob n f).job n = f (s.job n) := Sys.job_setJob_same ..

end SameJobs

section Keep
variable {β : Type} {g : Job → β} {a b c s : Sys}

/-- What `g` reads of every job's entry is the same in both. -/
def Sys.Keep (g : Job → β) (a b : Sys) : Prop := ∀ n, g (b.job n) = g (a.job n)

theorem Sys.Keep.refl : Sys.Keep g s s := fun _ => rfl
theorem Sys.Keep.trans (hab : Sys.Keep g a b) (hbc : Sys.Keep g b c) : Sys.Keep g a c := fun n => (hbc n).trans (hab n)
theorem Sys.SameJobs.keep (h : Sys.SameJobs a b) : Sys.Keep g a b := fun n => congrArg g (h.job n)

theorem Sys.foldl_keep {α : Type} {f : Sys → α → Sys} (hf : ∀ s a, Sys.Keep g s (f s a)) (l : List α) (s : Sys) :
    Sys.Keep g s (l.foldl f s) :=
  List.foldlRecOn l f (motive := Sys.Keep g s) .refl fun u hu a _ => hu.trans (hf u a)

theorem Sys.setJob_keep {n : Nat} {j : Job} (hj : g j = g (s.job n)) : Sys.Keep g s (s.setJob n j) := by
  intro m
  rw [Sys.job, show (s.setJob n j).lead.jobs = NMap.put s.lead.jobs n j from rfl, NMap.get_put]
  split
  next heq => rw [heq]; exact hj
  next => rfl

theorem Sys.modJob_keep {n : Nat} {f : Job → Job} (hf : ∀ j, g (f j) = g j) : Sys.Keep g s (s.modJob n f) :=
  Sys.setJob_keep (hf _)

theorem Sys.stopJob_keep (n fail : Nat) (hg : ∀ j, g (j.toStop fail) = g j) : Sys.Keep g s (s.stopJob n fail) :=
  (Sys.setJob_keep (n := n) (hg (s.job n))).trans (Sys.SameJobs.keep (congrArg Lead.jobs (Sys.stopJob_lead n fail)))

/-- A part of a job's entry that a stamp of its status word leaves. -/
def Job.Unstamped (g : Job → β) : Prop := ∀ j x t, g { j with seq := x, time := t } = g j

variable (hg : Job.Unstamped g)
include hg

theorem Sys.upJob_keep {n : Nat} {f : Job → Job} (hf : ∀ j, g (f j) = g j) : Sys.Keep g s (s.upJob n f) :=
  (Sys.setJob_keep ((hg _ _ _).trans (hf _))).trans (Sys.upJob_sameJobs n f).keep

end Keep

section Laps
variable {s : Sys}

theorem Job.lapsCommitted_unstamped : Job.Unstamped Job.lapsCommitted := fun _ _ _ => rfl

theorem Sys.endJob_laps (n fail : Nat) : Sys.Keep Job.lapsCommitted s (s.endJob n fail) := by
  unfold Sys.endJob
  extract_lets u j v w x y z
  have hu : Sys.Keep Job.lapsCommitted s u := Sys.upJob_keep Job.lapsCommitted_unstamped fun _ => rfl
  have hv : Sys.SameJobs u v := Sys.modTiles_sameJobs ..
  have hw : Sys.SameJobs v w := Sys.pushReply_sameJobs ..
  have hx : Sys.SameJobs w x := Sys.answerWaits_sameJobs ..
  have hy : Sys.SameJobs x y := Sys.answerWaits_sameJobs ..
  have hz : Sys.SameJobs y z := Sys.answerWaits_sameJobs ..
  exact hu.trans (hv.trans (hw.trans (hx.trans (hy.trans (hz.trans (Sys.answerWaits_sameJobs ..)))))).keep

theorem Sys.freezeJob_laps (n : Nat) : Sys.Keep Job.lapsCommitted s (s.freezeJob n) := by
  refine Sys.Keep.trans ?_ (Sys.jobCtrl_sameJobs n 1).keep
  exact Sys.modJob_keep fun _ => rfl

theorem Sys.writeStarts_laps (n : Nat) : Sys.Keep Job.lapsCommitted s (s.writeStarts n) := by
  refine Sys.Keep.trans ?_ (Sys.writeStarts_sameDesk n).sameJobs.keep
  exact Sys.setJob_keep rfl

theorem Sys.thawOne_laps (n : Nat) : Sys.Keep Job.lapsCommitted s (s.thawOne n) := by
  unfold Sys.thawOne
  extract_lets u v
  have hu : Sys.Keep Job.lapsCommitted (s.writeStarts n) u := Sys.upJob_keep Job.lapsCommitted_unstamped fun _ => rfl
  have hv : Sys.Keep Job.lapsCommitted s v := (Sys.writeStarts_laps n).trans (hu.trans (Sys.jobCtrl_sameJobs ..).keep)
  split
  · exact hv
  · exact hv.trans (Sys.answerWaits_sameJobs ..).keep

theorem Sys.applyOpp_laps (l : List Nat) (op : Nat) : Sys.Keep Job.lapsCommitted s (s.applyOpp l op) := by
  unfold Sys.applyOpp
  extract_lets u v
  have hu : Sys.SameJobs s u := Sys.modTiles_sameJobs ..
  have hv : Sys.Keep Job.lapsCommitted u v := by
    refine Sys.foldl_keep (fun u n => ?_) _ _
    exact Sys.modJob_keep fun _ => rfl
  exact hu.keep.trans hv

theorem Sys.thawJob_laps (n : Nat) : Sys.Keep Job.lapsCommitted s (s.thawJob n) := by
  unfold Sys.thawJob
  split
  · exact Sys.thawOne_laps n
  next w _ =>
    extract_lets group late
    split
    · exact Sys.thawOne_laps n
    · split
      · exact (Sys.applyOpp_laps group w.2).trans (Sys.foldl_keep (fun u k => Sys.thawOne_laps k) _ _)
      · refine Sys.Keep.trans ?_ (Sys.foldl_keep (fun u k => Sys.freezeJob_laps k) _ _)
        exact Sys.upJob_keep Job.lapsCommitted_unstamped fun _ => rfl

/-- The job whose oldest step begins its commit has the commit noted (R398). -/
theorem Sys.beginCommit_job (n : Nat) : ∃ x, (s.beginCommit n).job n = { s.job n with commit := x } := by
  unfold Sys.beginCommit
  dsimp only
  split
  · exact ⟨_, rfl⟩
  · exact ⟨_, (((Sys.modTiles_sameJobs ..).job n).trans (Sys.job_setJob_same ..))⟩

/-- A commit counts the laps of its step, and nothing after it changes the count (R398). -/
theorem Sys.finishCommit_laps (n : Nat) :
    ((s.finishCommit n).job n).lapsCommitted = (s.job n).lapsTo ((s.job n).oldest + 1) := by
  unfold Sys.finishCommit
  extract_lets j k poison marks u v j1 w x y
  have hu : (u.job n).lapsCommitted = j.lapsTo (k + 1) := by rw [Sys.upJob_job]
  have hv : Sys.SameJobs u v := by
    refine Sys.foldl_sameJobs (fun _ _ => ?_) _ _
    rfl
  have hw : (w.job n).lapsCommitted = j.lapsTo (k + 1) := by
    rw [((Sys.answerWaits_sameJobs ..).job n), hv.job, hu]
  have hx : Sys.Keep Job.lapsCommitted w x := (Sys.armJob_sameDesk n).sameJobs.keep
  refine Eq.trans ?_ hw
  clear_value y x w
  split
  · exact Sys.endJob_laps n 0 n
  split
  · exact Sys.stopJob_keep n 0 (fun _ => rfl) n
  split
  · split
    · refine Sys.upJob_keep Job.lapsCommitted_unstamped ?_ n
      exact fun _ => rfl
    · rfl
  refine Eq.trans ?_ (hx n)
  split
  · exact Sys.thawJob_laps n n
  · refine Sys.modJob_keep ?_ n
    exact fun _ => rfl

end Laps

end Sys2Proof.Machine

/-! SUPPORT. Steps, commits and the frame watchdog at the lead hub, and O55. -/

namespace Sys2Proof.Machine

section Commit
variable {s : Sys} {n : Nat}

/-- No commit begins while one is under way or while the job replays (R398). -/
theorem Sys.beginCommit_idle (h : (s.job n).commit.isSome = true ∨ (s.job n).state = .replaying) : s.beginCommit n = s := by
  refine if_pos ?_
  rcases h with hcommit | hst
  · simp only [hcommit, Bool.true_or]
  · simp [hst]

/-- A replay that begins freezes the job and drops the commit under way (R401). -/
theorem Sys.beginReplay_job (hst : (s.job n).state = .running) (hrewinds : (s.job n).rewinds < 8) :
    ((s.beginReplay n).job n).state = .replaying ∧ ((s.beginReplay n).job n).lastEvent = stStepReplayed ∧
      ((s.beginReplay n).job n).commit = none ∧ ((s.beginReplay n).job n).lapsCommitted = (s.job n).lapsCommitted := by
  unfold Sys.beginReplay
  extract_lets j u v w
  rw [if_neg (by rw [show j.state = _ from hst]; decide), if_neg (Nat.not_le.mpr hrewinds)]
  have hv : Sys.SameJobs u v := Sys.answerWaits_sameJobs ..
  have hw : Sys.SameJobs v w := Sys.modTiles_sameJobs ..
  have hu : u.job n = _ := Sys.upJob_job n _
  have hfreeze : (w.freezeJob n).job n =
      { w.job n with frozeAt := w.now, cutAt := none, purgedAt := none, wd := { (w.job n).wd with anchored := false } } :=
    ((Sys.jobCtrl_sameJobs n 1).job n).trans (Sys.modJob_job ..)
  rw [hfreeze, hw.job, hv.job, hu]
  exact ⟨rfl, rfl, rfl, rfl⟩

/-- No tile's sweep failed. -/
theorem all_swept {l : List Nat} {p : Nat → Bool} (h : ∀ t ∈ l, p t = false) : l.any p = false := by
  rw [List.any_eq_false]
  exact fun t ht => by rw [h t ht]; decide

theorem Sys.decideCommit_failed {c : Commit} (hc : (s.job n).commit = some c) (hcopy : c.copying = false)
    (hfail : ∃ t ∈ c.waitTiles, (s.tile t).audit.commitFailed = true) (hhold : s.cool.hold = none) :
    s.decideCommit n = s.beginReplay n := by
  unfold Sys.decideCommit
  dsimp only
  rw [hc]
  dsimp only
  rw [if_neg (by rw [hcopy]; decide), if_pos (List.any_eq_true.mpr hfail), if_neg (by rw [hhold]; decide)]

/-- A step that is POISONED and not accepted is held (R398, R400). -/
theorem Sys.decideCommit_poisoned {c : Commit} (hc : (s.job n).commit = some c) (hcopy : c.copying = false)
    (hswept : ∀ t ∈ c.waitTiles, (s.tile t).audit.commitFailed = false) (hpoison : c.step ∈ (s.job n).poison)
    (hasked : (s.job n).asked = []) :
    ((s.decideCommit n).job n).lastEvent = stPoisoned ∧
      ((s.decideCommit n).job n).lapsCommitted = (s.job n).lapsCommitted ∧
      ((s.decideCommit n).job n).holdFor = (if (s.job n).holdFor = 0 then 2 else (s.job n).holdFor) ∧
      ((s.decideCommit n).job n).commit = (s.job n).commit := by
  unfold Sys.decideCommit
  dsimp only
  rw [hc]
  dsimp only
  rw [if_neg (by rw [hcopy]; decide), all_swept hswept, if_neg (by decide),
    if_pos (by rw [hasked]; simpa using hpoison), (Sys.answerWaits_sameJobs ..).job, Sys.modJob_job, Sys.upJob_job]
  exact ⟨rfl, rfl, rfl, hc⟩

/-- A step that is in order commits at once where there is nothing to copy (R398, R490). -/
theorem Sys.decideCommit_commits {c : Commit} (hc : (s.job n).commit = some c) (hcopy : c.copying = false)
    (hswept : ∀ t ∈ c.waitTiles, (s.tile t).audit.commitFailed = false) (hpoison : c.step ∉ (s.job n).poison)
    (hhost : (s.job n).spec.hostCommit = false)
    (hmirrors : (s.ensureShadows (s.job n).spec.partition).mirrors (s.job n).spec.partition = []) :
    s.decideCommit n = (s.ensureShadows (s.job n).spec.partition).finishCommit n := by
  unfold Sys.decideCommit
  dsimp only
  rw [hc]
  dsimp only
  rw [if_neg (by rw [hcopy]; decide), all_swept hswept, if_neg (by decide), if_neg (by simp [hpoison]),
    if_neg (by rw [hhost]; simp), hmirrors, if_pos (by rfl)]

theorem Sys.commitSweepDone_swept {c : Commit} (hc : (s.job n).commit = some c)
    (hended : ∀ t ∈ c.waitTiles, (s.tile t).sweepEnded = true) : s.commitSweepDone n = (s.decideCommit n).beginCommit n := by
  unfold Sys.commitSweepDone
  rw [hc]
  exact if_pos (List.all_eq_true.mpr hended)

theorem Sys.commitSweepDone_waits {c : Commit} (hc : (s.job n).commit = some c)
    (hopen : ∃ t ∈ c.waitTiles, (s.tile t).sweepEnded = false) : s.commitSweepDone n = s := by
  obtain ⟨t, ht, hno⟩ := hopen
  unfold Sys.commitSweepDone
  rw [hc]
  exact if_neg fun hall => absurd (List.all_eq_true.mp hall t ht) (by rw [hno]; decide)

end Commit

section StepEnd
variable {s : Sys} {n eid k : Nat} {m : TMsg}

/-- The panel once the lead hub has taken the oldest message of its inbox. -/
def Sys.leadTook (s : Sys) : Sys := s.setTad s.leadAddr { s.tad s.leadAddr with inbox := (s.tad s.leadAddr).inbox.drop 1 }

/-- The slots that have ended step `k` of a job once slot `eid` has (R396). -/
def Job.endedWith (j : Job) (k eid : Nat) : List Nat :=
  if (NMap.get [] j.ends k).contains eid then NMap.get [] j.ends k else NMap.get [] j.ends k ++ [eid]

theorem Job.mem_endedWith {j : Job} {e : Nat} : e ∈ j.endedWith k eid ↔ e = eid ∨ e ∈ NMap.get [] j.ends k := by
  unfold Job.endedWith
  split
  next h =>
    simp only [List.contains_iff_mem] at h
    constructor
    · exact .inr
    · rintro (rfl | he)
      · exact h
      · exact he
  next => rw [List.mem_append, List.mem_singleton, or_comm]

/-- A step-end notice of job `n` as it is counted (R396, R398). -/
theorem Sys.stepEnd_counted (hmail : (s.tad s.leadAddr).inbox.head? = some m) (htype : m.type = 0x10) (hsub : m.sub = ncStepEnd)
    (heid : bitsOf m.payload 23 8 = eid) (hk : bitsOf m.payload 39 24 + 2 ^ 16 * bitsOf m.payload 62 40 = k)
    (hjob : s.jobOfSlot eid = some n) :
    let j := s.job n
    let u := s.leadTook.modJob n (fun j => { j with ends := NMap.put j.ends k ((s.job n).endedWith k eid) })
    s.stepEnd = if k < j.oldest then s.leadTook
      else if j.spec.table.all (fun e => (j.endedWith k eid).contains e.slot) then
        ((u.modJob n (fun i => { i with marks := NMap.put i.marks k (u.itemMarks i.spec.partition) })).upJob n
          (fun i => { i with lapsDone := max i.lapsDone (i.lapsTo (k + 1)) })).beginCommit n
      else u := by
  have htake := Sys.takeMsg_head (f := fun m => decide (m.type = 0x10) && decide (m.sub = ncStepEnd)) hmail (by simp [htype, hsub])
  have hfind : s.leadTook.jobOfSlot eid = some n := hjob
  unfold Sys.leadTook at hfind
  unfold Sys.stepEnd
  rw [htake]
  dsimp only
  rw [heid, hk, hfind]
  rfl

end StepEnd

section Watchdog
variable {s : Sys} {n : Nat}

/-- The misses that a report counts (R220); a stop that it asks for changes none of them. -/
theorem Sys.reportMiss_job (f late : Nat) :
    ((s.reportMiss n f late).job n).misses = satAdd 32 (s.job n).misses 1 ∧
      ((s.reportMiss n f late).job n).missFrame = f % 2 ^ 32 ∧
      ((s.reportMiss n f late).job n).missNs = min late (2 ^ 32 - 1) ∧
      ((s.reportMiss n f late).job n).lastEvent = stDeadlineMissed ∧
      ((s.reportMiss n f late).job n).wd = { (s.job n).wd with reported := (s.job n).wd.reported ++ [f] } := by
  unfold Sys.reportMiss
  extract_lets u
  have hu : u.job n = _ := Sys.upJob_job n _
  have hstop {β : Type} (g : Job → β) (hg : ∀ j : Job, g (j.toStop stDeadlineMissed) = g j) :
      g ((if (u.job n).spec.stopOnMiss = true then u.stopJob n stDeadlineMissed else u).job n) = g (u.job n) := by
    split
    · exact Sys.stopJob_keep n _ hg n
    · rfl
  rw [hstop Job.misses fun _ => rfl, hstop Job.missFrame fun _ => rfl, hstop Job.missNs fun _ => rfl,
    hstop Job.lastEvent fun _ => rfl, hstop Job.wd fun _ => rfl, hu]
  exact ⟨rfl, rfl, rfl, rfl, rfl⟩

/-- The watchdog of a job moved to frame `f` at `t` (R219). -/
def Job.anchor (j : Job) (f t : Nat) : Job := { j with wd := { j.wd with f0 := f, t0 := t } }
/-- The watchdog of a job with frame `f` among the frames seen. -/
def Job.sawFrame (j : Job) (f : Nat) : Job := { j with wd := { j.wd with highest := max j.wd.highest f } }

/-- A frame notice judged (R218, R219): the first anchors the watchdog, one in time leaves the anchor, a late one is a miss
and moves it, one already reported moves it. -/
theorem Sys.frame_judged {m : TMsg} (hmail : (s.tad s.leadAddr).inbox.head? = some m) (htype : m.type = 0x11)
    (hjob : s.lead.jobs.find? (fun p => p.2.state.live && p.2.spec.watch &&
      decide ((s.tileOfEid p.2.spec.outputEid) = some m.src)) = some (n, s.job n)) :
    let j := s.job n
    let t := nearest (bitsOf m.payload 47 0) 48 s.now
    let f := nearest (bitsOf m.payload 63 48) 16 (if j.wd.anchored then j.wd.f0 + 1 else j.wd.highest)
    let due := j.wd.t0 + (f - j.wd.f0) * j.spec.cadence
    let t' := t + (j.wd.f0 - f) * j.spec.cadence
    let u := s.leadTook.modJob n (fun j => j.sawFrame f)
    s.frame = if !j.wd.anchored then u.modJob n (fun j => { j with wd := { j.wd with anchored := true, f0 := f, t0 := t } })
      else if !j.wd.reported.contains f then
        (if t' > due + j.spec.tolerance then (u.reportMiss n f (t' - due)).modJob n (fun j => j.anchor f t) else u)
      else u.modJob n (fun j => j.anchor f t) := by
  have htake := Sys.takeMsg_head (f := fun m => decide (m.type = 0x11)) hmail (by simp [htype])
  unfold Sys.frame
  rw [htake]
  have hfind : s.leadTook.lead.jobs.find? (fun p => p.2.state.live && p.2.spec.watch &&
    decide ((s.leadTook.tileOfEid p.2.spec.outputEid) = some m.src)) = some (n, s.job n) := hjob
  unfold Sys.leadTook at hfind
  dsimp only
  rw [hfind]
  rfl

/-- The first frame after the anchor is overdue once its tolerance and 2 µs have passed (R219). -/
theorem Sys.frameOverdue_first (hlive : (s.job n).state.live = true) (hwatch : (s.job n).spec.watch = true)
    (hanchor : (s.job n).wd.anchored = true) (hhold : s.cool.hold = none) (hreported : (s.job n).wd.reported = [])
    (hhighest : (s.job n).wd.highest = (s.job n).wd.f0) :
    let due := (s.job n).wd.t0 + (s.job n).spec.cadence
    s.frameOverdue n = if s.now > due + (s.job n).spec.tolerance + 2000
      then s.reportMiss n ((s.job n).wd.f0 + 1) (s.now - due) else s := by
  have hfind : (List.range ((s.job n).wd.reported.length + ((s.job n).wd.highest - (s.job n).wd.f0) + 2)).find? (fun i =>
      decide ((s.job n).wd.f0 + i + 1 > (s.job n).wd.highest) && !(s.job n).wd.reported.contains ((s.job n).wd.f0 + i + 1)) =
      some 0 := by
    rw [hreported, hhighest, Nat.sub_self]
    exact List.find?_cons_of_pos (by simp)
  unfold Sys.frameOverdue
  dsimp only
  rw [hlive, hwatch, hanchor, hhold, if_neg (by decide), hfind]
  simp only [Nat.zero_add, Nat.one_mul, Nat.add_zero]

end Watchdog

/-- Settles O55. -/
theorem stepsCommitsAndFrames : Obligations.StepsCommitsAndFrames := by
  unfold Obligations.StepsCommitsAndFrames
  intro s n hn j k
  have hwf : isJob n = true := by simpa [isJob] using hn
  refine ⟨fun m eid step hmail htype hsub heid hstep hjob => ?stepEnd, fun c hc hcopy hck hended hhold => ?sweep,
    fun c hc hopen => ?waits, fun m hmail htype hjob => ?frame, fun hlive hwatch hanchor hhold hreported hhighest => ?overdue⟩
  case stepEnd =>
    have hrun : exec .stepEnd s = .next { s with sys := s.sys.stepEnd } := exec_stepEnd s
    rw [hrun, Sys.stepEnd_counted hmail htype hsub heid hstep hjob]
    refine ⟨fun hlt => by rw [if_pos hlt]; rfl, fun hle => ?_⟩
    rw [if_neg (Nat.not_lt.mpr hle)]
    let u := s.sys.leadTook.modJob n (fun j => { j with ends := NMap.put j.ends step ((s.sys.job n).endedWith step eid) })
    have hu : u.job n = { j with ends := NMap.put j.ends step (j.endedWith step eid) } := Sys.modJob_job ..
    have hends : eid ∈ NMap.get [] (NMap.put j.ends step (j.endedWith step eid)) step := by
      rw [NMap.get_put_same]
      exact Job.mem_endedWith.mpr (.inl rfl)
    split
    next hall =>
      obtain ⟨x, hx⟩ := Sys.beginCommit_job (s := ((u.modJob n (fun i => { i with
        marks := NMap.put i.marks step (u.itemMarks i.spec.partition) })).upJob n
          (fun i => { i with lapsDone := max i.lapsDone (i.lapsTo (step + 1)) }))) n
      refine ⟨_, rfl, ?_⟩
      rw [hx, Sys.upJob_job, Sys.modJob_job, hu]
      exact ⟨hends, fun _ => rfl⟩
    next hall =>
      refine ⟨u, rfl, ?_⟩
      rw [hu]
      refine ⟨hends, fun hslots => absurd (List.all_eq_true.mpr fun e he => ?_) hall⟩
      simpa [Job.mem_endedWith] using hslots e he
  case sweep =>
    have hrun : exec (.commitSweepDone n) s = .next { s with sys := (s.sys.decideCommit n).beginCommit n } := by
      rw [exec_commitSweepDone, show (Instr.commitSweepDone n).wf = true from hwf, State.act_true,
        Sys.commitSweepDone_swept hc hended]
    rw [hrun]
    refine ⟨fun hfail hst hrewinds => ⟨_, rfl, ?_⟩, fun hswept hpoison hasked => ⟨_, rfl, ?_⟩,
      fun hswept hpoison hhost hmirrors => ⟨_, rfl, ?_⟩⟩
    · obtain ⟨hrep, hevent, hcommit, hlaps⟩ := Sys.beginReplay_job hst hrewinds
      rw [Sys.decideCommit_failed hc hcopy hfail hhold, Sys.beginCommit_idle (.inr hrep)]
      exact ⟨hrep, hevent, hcommit, hlaps⟩
    · obtain ⟨hevent, hlaps, hheld, hcommit⟩ := Sys.decideCommit_poisoned hc hcopy hswept (by rw [hck]; exact hpoison) hasked
      rw [Sys.beginCommit_idle (.inl (by rw [hcommit, hc]; rfl))]
      exact ⟨hevent, hlaps, fun hno => by rw [hheld, if_pos hno]⟩
    · rw [Sys.decideCommit_commits hc hcopy hswept (by rw [hck]; exact hpoison) hhost hmirrors]
      obtain ⟨x, hx⟩ := Sys.beginCommit_job (s := (s.sys.ensureShadows j.spec.partition).finishCommit n) n
      rw [hx]
      exact (Sys.finishCommit_laps n).trans (by rw [(Sys.ensureShadows_sameJobs _).job])
  case waits =>
    rw [exec_commitSweepDone, show (Instr.commitSweepDone n).wf = true from hwf, State.act_true, Sys.commitSweepDone_waits hc hopen]
  case frame =>
    intro t f due t' onTime
    have hrun : exec .frame s = .next { s with sys := s.sys.frame } := exec_frame s
    rw [hrun, Sys.frame_judged hmail htype hjob]
    let u := s.sys.leadTook.modJob n (fun j => j.sawFrame f)
    have hu : u.job n = j.sawFrame f := Sys.modJob_job ..
    by_cases ha : j.wd.anchored = true
    case neg =>
      refine ⟨u.modJob n (fun j => { j with wd := { j.wd with anchored := true, f0 := f, t0 := t } }), by
        rw [if_pos (by simpa using ha)], ?_⟩
      rw [Sys.modJob_job, hu]
      exact ⟨fun hon => absurd hon.1 ha, fun _ _ => ⟨rfl, rfl, rfl⟩, fun hanchor => absurd hanchor ha, fun _ => rfl⟩
    rw [if_neg (by simpa using ha)]
    by_cases hr : f ∈ j.wd.reported
    case pos =>
      refine ⟨u.modJob n (fun j => j.anchor f t), by rw [if_neg (by simpa using hr)], ?_⟩
      rw [Sys.modJob_job, hu]
      exact ⟨fun hon => absurd hr hon.2.1, fun _ _ => ⟨rfl, rfl, ha⟩, fun _ hno => absurd hr hno, fun _ => rfl⟩
    rw [if_pos (by simpa using hr)]
    by_cases hlate : t' > due + j.spec.tolerance
    case pos =>
      obtain ⟨hmiss, hframe, -, hevent, hwd⟩ := Sys.reportMiss_job (s := u) (n := n) f (t' - due)
      refine ⟨(u.reportMiss n f (t' - due)).modJob n (fun j => j.anchor f t), by rw [if_pos hlate], ?_⟩
      have hin : ¬ t' ≤ due + j.spec.tolerance := Nat.not_le.mpr hlate
      rw [Sys.modJob_job]
      refine ⟨fun hon => absurd hon.2.2 hin, fun _ _ => ⟨rfl, rfl, ?_⟩, fun _ _ _ _ => ⟨?_, hframe, hevent⟩, fun hno => ?_⟩
      · exact (congrArg Watchdog.anchored hwd).trans (by rw [hu]; exact ha)
      · exact hmiss.trans (by rw [hu]; rfl)
      · rcases hno with h | h | h
        · exact absurd (h.symm.trans ha) (by decide)
        · exact absurd h hr
        · exact absurd h hin
    · refine ⟨u, by rw [if_neg hlate], ?_⟩
      have hin : t' ≤ due + j.spec.tolerance := Nat.not_lt.mp hlate
      rw [hu]
      exact ⟨fun _ => rfl, fun hoff => absurd ⟨ha, hr, hin⟩ hoff, fun _ _ hover => absurd hover hlate, fun _ => rfl⟩
  case overdue =>
    intro due
    have hrun : exec (.frameOverdue n) s = .next { s with sys := s.sys.frameOverdue n } := by
      rw [exec_frameOverdue, show (Instr.frameOverdue n).wf = true from hwf, State.act_true]
    rw [hrun, Sys.frameOverdue_first hlive hwatch hanchor hhold hreported hhighest]
    refine ⟨fun hin => by rw [if_neg (Nat.not_lt.mpr hin)], fun hlate => ?_⟩
    obtain ⟨hmiss, hframe, hns, hevent, hwd⟩ := Sys.reportMiss_job (s := s.sys) (n := n) (j.wd.f0 + 1) (s.sys.now - due)
    refine ⟨_, by rw [if_pos hlate], hmiss, hframe, hns, hevent, ?_⟩
    rw [hwd, hreported]
    rfl

end Sys2Proof.Machine

/-! SUPPORT. What leaves the lead hub's tables as they are, and what a thaw and a failure do to a job (R393, R401, R403). -/

namespace Sys2Proof.Machine

/-- The lead hub's tables are the same in both. -/
def Sys.SameLead (a b : Sys) : Prop := b.lead = a.lead

section SameLead
variable {a b c s : Sys}

theorem Sys.SameLead.refl : Sys.SameLead s s := rfl
theorem Sys.SameLead.trans (hab : Sys.SameLead a b) (hbc : Sys.SameLead b c) : Sys.SameLead a c := Eq.trans hbc hab
theorem Sys.SameLead.sameJobs (h : Sys.SameLead a b) : Sys.SameJobs a b := congrArg Lead.jobs h

theorem Sys.foldl_sameLead {α : Type} {f : Sys → α → Sys} (hf : ∀ s a, Sys.SameLead s (f s a)) (l : List α) (s : Sys) :
    Sys.SameLead s (l.foldl f s) :=
  List.foldlRecOn l f (motive := Sys.SameLead s) rfl fun u hu a _ => hu.trans (hf u a)

theorem Sys.queueNotice_sameLead (n : Nat) (u : Bool) (code payload : Nat) : Sys.SameLead s (s.queueNotice n u code payload) := by
  unfold Sys.queueNotice
  dsimp only
  split
  · split <;> exact .refl
  · exact .refl

theorem Sys.deliverOut_sameLead (t : Nat) (o : Out) : Sys.SameLead s (s.deliverOut t o) := by
  cases o with
  | notice => exact Sys.queueNotice_sameLead ..
  | _ => rfl

theorem Sys.putTX_sameLead (t : Nat) (x : TX) : Sys.SameLead s (s.putTX t x) :=
  Sys.foldl_sameLead (fun _ _ => Sys.deliverOut_sameLead ..) _ (s.setTile t x.tile)

theorem Sys.onTile_sameLead (t : Nat) (f : TX → TX) : Sys.SameLead s (s.onTile t f) := by
  unfold Sys.onTile
  split
  · exact Sys.putTX_sameLead ..
  · exact .refl

theorem Sys.askTile_sameLead {α : Type} (t : Nat) (f : TX → α × TX) : Sys.SameLead s (s.askTile t f).2 := Sys.putTX_sameLead ..

theorem Sys.sendAll_sameLead (l : List TMsg) : Sys.SameLead s (s.sendAll l) :=
  Sys.foldl_sameLead (f := fun (u : Sys) m => u.sendMsg u.leadAddr m) (fun _ _ => rfl) _ _

theorem Sys.setTileReg_sameLead (t off v : Nat) : Sys.SameLead s (s.setTileReg t off v) := rfl

theorem Sys.loseShadow_sameLead (m : NMap (Nat × Nat)) (t k : Nat) : Sys.SameLead s (s.loseShadow m t k) := by
  unfold Sys.loseShadow
  extract_lets u
  have hu : Sys.SameLead s u := by
    unfold u
    split
    · split <;> exact .refl
    · exact .refl
  exact hu.trans .refl

theorem Sys.shadowRows_sameLead (o k : Nat) : Sys.SameLead s (s.shadowRows o k).2 := by
  unfold Sys.shadowRows
  split
  · exact .refl
  split
  · exact .refl
  split
  · exact Sys.askTile_sameLead _ fun x => x.regionRows _
  · exact .refl

theorem Sys.dropShadow_sameLead (l m : Nat) : Sys.SameLead s (s.dropShadow l m) := by
  unfold Sys.dropShadow
  split <;> exact .refl

theorem Sys.placeShadow_sameLead {o k : Nat} {u : Sys} (hu : s.placeShadow o k = some u) : Sys.SameLead s u := by
  unfold Sys.placeShadow at hu
  split at hu
  · split at hu
    · exact (Option.some.inj hu) ▸ rfl
    · exact absurd hu nofun
  · exact absurd hu nofun

theorem Sys.moveShadow_sameLead (o k : Nat) : Sys.SameLead s (s.moveShadow o k) := by
  unfold Sys.moveShadow
  extract_lets old want here clean
  split
  · exact .refl
  have hrows : Sys.SameLead s (if clean = true then
      match s.askTile o fun x => x.regionRows k with
      | (r, s) => (some r.1, s)
    else s.shadowRows o k : Option (List (Nat × Bool)) × Sys).2 := by
    split
    · exact Sys.askTile_sameLead _ fun x => x.regionRows _
    · exact Sys.shadowRows_sameLead ..
  generalize (if clean = true then
      match s.askTile o fun x => x.regionRows k with
      | (r, s) => (some r.1, s)
    else s.shadowRows o k : Option (List (Nat × Bool)) × Sys) = p at hrows ⊢
  obtain ⟨rows, u⟩ := p
  dsimp -zeta only
  extract_lets v w
  have hv : Sys.SameLead u v := by
    clear_value old
    unfold v
    split
    · exact Sys.dropShadow_sameLead ..
    · exact .refl
  have hw : Sys.SameLead s w := hrows.trans hv
  clear_value w
  split
  · exact hw
  split
  · exact hw
  next z hz =>
    have hplaced := hw.trans (Sys.placeShadow_sameLead hz)
    split
    · split
      · exact hplaced.trans (Sys.onTile_sameLead ..)
      · exact hplaced
    · exact hplaced

theorem Sys.restoreMirrors_sameLead (p : Nat) : Sys.SameLead s (s.restoreMirrors p).2 := by
  unfold Sys.restoreMirrors
  refine List.foldlRecOn (motive := fun a : Bool × Sys => Sys.SameLead s a.2) _ _ .refl fun a ha t _ => ?_
  refine List.foldlRecOn (motive := fun a : Bool × Sys => Sys.SameLead s a.2) _ _ ha fun a ha k _ => ?_
  have hrows : Sys.SameLead s (a.2.shadowRows t k).2 := ha.trans (Sys.shadowRows_sameLead t k)
  dsimp only
  split
  · split
    · exact hrows.trans (Sys.onTile_sameLead ..)
    · exact hrows
  · exact hrows.trans (Sys.moveShadow_sameLead t k)

theorem Sys.oldRows_sameLead (old k : Nat) : Sys.SameLead s (s.oldRows old k).2 := by
  unfold Sys.oldRows
  split
  · exact Sys.askTile_sameLead _ fun x => x.regionRows _
  · exact .refl

theorem Sys.otherRows_sameLead (l o k : Nat) (r : Region) (code : Bool) : Sys.SameLead s (s.otherRows l o k r code).2 := by
  unfold Sys.otherRows
  split
  · split
    · exact .refl
    split
    · split
      · exact .refl
      · exact Sys.askTile_sameLead _ fun x => x.regionRows _
    · exact .refl
  split
  · exact Sys.shadowRows_sameLead ..
  split
  · split <;> exact .refl
  · exact .refl

theorem Sys.rebuildRows_sameLead (g : Regrown) (k : Nat) (r : Region) (code : Bool) :
    Sys.SameLead s (s.rebuildRows g k r code).2 := by
  have hold : Sys.SameLead s (s.oldRows g.old k).2 := Sys.oldRows_sameLead ..
  unfold Sys.rebuildRows
  dsimp only
  split
  · exact hold
  · exact hold.trans (Sys.otherRows_sameLead ..)

/-- A reload of damaged regions takes them off the recovery's list, and changes no other table (R188). -/
theorem Sys.reloadDamaged_sameJobs (p : Nat) : Sys.SameJobs s (s.reloadDamaged p).2 := by
  unfold Sys.reloadDamaged
  refine List.foldlRecOn (motive := fun a : Bool × Sys => Sys.SameJobs s a.2) _ _ .refl fun a ha d _ => ?_
  split
  · next r l _ _ =>
    have hrows : Sys.SameJobs s (a.2.otherRows l d.1 d.2 r false).2 := ha.trans (Sys.otherRows_sameLead ..).sameJobs
    dsimp only
    split
    · exact hrows.trans (Sys.onTile_sameLead ..).sameJobs
    · split
      · exact hrows.trans (Sys.loseShadow_sameLead ..).sameJobs
      · exact hrows
  · exact ha

theorem Sys.purgePart_sameLead (p : Nat) : Sys.SameLead s (s.purgePart p) := by
  unfold Sys.purgePart
  extract_lets a b c
  have ha : Sys.SameLead s a := by
    refine Sys.foldl_sameLead (fun u t => ?_) _ _
    split
    · exact Sys.onTile_sameLead ..
    · exact .refl
  have hb : Sys.SameLead a b := by
    refine Sys.foldl_sameLead (fun _ _ => ?_) _ _
    rfl
  have hc : Sys.SameLead b c := by
    unfold c
    clear_value b
    exact .refl
  exact ha.trans (hb.trans (hc.trans (Sys.sendAll_sameLead _)))

theorem Sys.unlatchPart_sameLead (p : Nat) : Sys.SameLead s (s.unlatchPart p) := by
  unfold Sys.unlatchPart
  refine Sys.foldl_sameLead (fun _ _ => Sys.foldl_sameLead (fun _ _ => ?_) _ _) _ _
  rfl

theorem Sys.resendItems_sameLead (p : Nat) : Sys.SameLead s (s.resendItems p) := by
  unfold Sys.resendItems
  refine Sys.foldl_sameLead (fun _ _ => ?_) _ _
  rfl

end SameLead

end Sys2Proof.Machine

/-! SUPPORT. What a thaw and a failure do to a job, and a job's rewind (R393, R401, R483, R488, R565). -/

namespace Sys2Proof.Machine

/-- Nothing of the steps after the last commit is kept (R401): what a rewind leaves of a job. -/
def Job.Cleared (j : Job) : Prop := j.ends = [] ∧ j.poison = [] ∧ j.commit = none ∧ j.purgedAt = none

/-- Every job that is cleared stays so. -/
def Sys.KeepsCleared (a b : Sys) : Prop := ∀ n, (a.job n).Cleared → (b.job n).Cleared

section Thaw
variable {a b c s : Sys}

theorem Sys.KeepsCleared.trans (hab : Sys.KeepsCleared a b) (hbc : Sys.KeepsCleared b c) : Sys.KeepsCleared a c :=
  fun n hn => hbc n (hab n hn)

theorem Sys.SameJobs.keepsCleared (h : Sys.SameJobs a b) : Sys.KeepsCleared a b := fun n hn => h.job n ▸ hn

theorem Sys.foldl_keepsCleared {α : Type} {f : Sys → α → Sys} (hf : ∀ s a, Sys.KeepsCleared s (f s a)) (l : List α) (s : Sys) :
    Sys.KeepsCleared s (l.foldl f s) :=
  List.foldlRecOn l f (motive := Sys.KeepsCleared s) (fun _ hn => hn) fun u hu a _ => hu.trans (hf u a)

theorem Sys.setJob_keepsCleared {n : Nat} {j : Job} (hj : (s.job n).Cleared → j.Cleared) : Sys.KeepsCleared s (s.setJob n j) := by
  intro m hm
  rw [Sys.job, show (s.setJob n j).lead.jobs = NMap.put s.lead.jobs n j from rfl, NMap.get_put]
  split
  next heq => exact hj (heq ▸ hm)
  next => exact hm

theorem Sys.modJob_keepsCleared {n : Nat} {f : Job → Job} (hf : ∀ j, j.Cleared → (f j).Cleared) :
    Sys.KeepsCleared s (s.modJob n f) := Sys.setJob_keepsCleared (hf _)

theorem Sys.upJob_keepsCleared {n : Nat} {f : Job → Job} (hf : ∀ j, j.Cleared → (f j).Cleared) :
    Sys.KeepsCleared s (s.upJob n f) := by
  refine Sys.KeepsCleared.trans ?_ (Sys.upJob_sameJobs n f).keepsCleared
  exact Sys.setJob_keepsCleared fun hn => hf _ hn

theorem Sys.freezeJob_keepsCleared (n : Nat) : Sys.KeepsCleared s (s.freezeJob n) := by
  refine Sys.KeepsCleared.trans ?_ (Sys.jobCtrl_sameJobs n 1).keepsCleared
  exact Sys.modJob_keepsCleared fun _ ⟨hends, hpoison, hcommit, _⟩ => ⟨hends, hpoison, hcommit, rfl⟩

theorem Sys.thawOne_keepsCleared (n : Nat) : Sys.KeepsCleared s (s.thawOne n) := by
  unfold Sys.thawOne
  extract_lets u v
  have hstarts : Sys.KeepsCleared s (s.writeStarts n) := by
    refine Sys.KeepsCleared.trans ?_ (Sys.writeStarts_sameDesk n).sameJobs.keepsCleared
    exact Sys.setJob_keepsCleared fun hn => hn
  have hu : Sys.KeepsCleared (s.writeStarts n) u := Sys.upJob_keepsCleared fun _ hn => hn
  have hv : Sys.KeepsCleared s v := hstarts.trans (hu.trans (Sys.jobCtrl_sameJobs ..).keepsCleared)
  split
  · exact hv
  · exact hv.trans (Sys.answerWaits_sameJobs ..).keepsCleared

theorem Sys.applyOpp_keepsCleared (l : List Nat) (op : Nat) : Sys.KeepsCleared s (s.applyOpp l op) := by
  unfold Sys.applyOpp
  extract_lets u v
  have hu : Sys.SameJobs s u := Sys.modTiles_sameJobs ..
  have hv : Sys.KeepsCleared u v := by
    refine Sys.foldl_keepsCleared (fun u n => ?_) _ _
    exact Sys.modJob_keepsCleared fun _ hn => hn
  exact hu.keepsCleared.trans hv

theorem Sys.thawJob_keepsCleared (n : Nat) : Sys.KeepsCleared s (s.thawJob n) := by
  unfold Sys.thawJob
  split
  · exact Sys.thawOne_keepsCleared n
  next w _ =>
    extract_lets group late
    split
    · exact Sys.thawOne_keepsCleared n
    · split
      · exact (Sys.applyOpp_keepsCleared group w.2).trans (Sys.foldl_keepsCleared (fun u k => Sys.thawOne_keepsCleared k) _ _)
      · refine Sys.KeepsCleared.trans ?_ (Sys.foldl_keepsCleared (fun u k => Sys.freezeJob_keepsCleared k) _ _)
        exact Sys.upJob_keepsCleared fun _ hn => hn

end Thaw

section Fail
variable {s : Sys} {n : Nat}

/-- How a job's entry stands once the job has ended (R393). -/
theorem Sys.endJob_job (fail : Nat) :
    ((s.endJob n fail).job n).state = (if fail = 0 then .done else .failed) ∧
      ((s.endJob n fail).job n).failStatus = fail ∧ ((s.endJob n fail).job n).faultEid = (s.job n).faultEid := by
  unfold Sys.endJob
  extract_lets u j v w x y z
  have hu : u.job n = _ := Sys.upJob_job n _
  have hv : Sys.SameJobs u v := Sys.modTiles_sameJobs ..
  have hw : Sys.SameJobs v w := Sys.pushReply_sameJobs ..
  have hx : Sys.SameJobs w x := Sys.answerWaits_sameJobs ..
  have hy : Sys.SameJobs x y := Sys.answerWaits_sameJobs ..
  have hz : Sys.SameJobs y z := Sys.answerWaits_sameJobs ..
  rw [(hv.trans (hw.trans (hx.trans (hy.trans (hz.trans (Sys.answerWaits_sameJobs ..)))))).job, hu]
  exact ⟨rfl, rfl, rfl⟩

/-- A live job that fails (R483). -/
theorem Sys.failJob_job {fail : Nat} (hlive : (s.job n).state.live = true) (hfail : fail ≠ 0) (fault : Nat) :
    ((s.failJob n fail fault).job n).state = .failed ∧ ((s.failJob n fail fault).job n).failStatus = fail ∧
      ((s.failJob n fail fault).job n).faultEid = fault := by
  unfold Sys.failJob
  rw [if_pos hlive]
  obtain ⟨hstate, hstatus, hfault⟩ := Sys.endJob_job (s := (s.jobCtrl n 3).modJob n (fun j => { j with faultEid := fault })) (n := n) fail
  rw [if_neg hfail] at hstate
  rw [Sys.modJob_job] at hfault
  exact ⟨hstate, hstatus, hfault⟩

end Fail

section Slots
variable {s : Sys} {t k l n : Nat}

/-- Panel time at which a slot that does not freeze is cut (R565). -/
def Sys.cutTime (s : Sys) (n : Nat) : Nat :=
  (s.job n).frozeAt + ceilDiv (2 * (s.job n).spec.lapCc * 1000) (oppMhz (s.job n).opp) + 4000

theorem Sys.freezeTimeout_early (hl : (s.tile t).logical = some l) (hn : s.jobOfSlot (16 * l + k) = some n)
    (hearly : s.now < s.cutTime n) : s.freezeTimeout t k = s := by
  unfold Sys.freezeTimeout
  rw [hl]
  dsimp only
  rw [hn]
  refine if_neg fun h => ?_
  simp only [Bool.and_eq_true, decide_eq_true_eq] at h
  exact absurd h.2 (Nat.not_le.mpr hearly)

theorem Sys.freezeTimeout_late (hl : (s.tile t).logical = some l) (hn : s.jobOfSlot (16 * l + k) = some n)
    (hlate : s.cutTime n ≤ s.now) (hst : (s.job n).state = .replaying) (hcore : s.coreState t k = .lapRunning)
    (hshed : (s.tile t).shed = false) :
    s.freezeTimeout t k = (s.modJob n (fun j => { j with cutAt := some s.now })).coreCtrl [(t, k)] 5 := by
  unfold Sys.freezeTimeout
  rw [hl]
  dsimp only
  rw [hn]
  refine if_pos ?_
  simp only [hst, hcore, hshed, Bool.and_eq_true, decide_eq_true_eq]
  exact ⟨⟨⟨trivial, trivial⟩, rfl⟩, hlate⟩

variable {e : Nat × Nat × Nat} (he : s.lead.recov.starting.find? (fun e => e.1 = t && e.2.1 = k) = some e)
include he

theorem Sys.slotReadyTimeout_idle (hidle : s.slotReady t k = true ∨ s.now < e.2.2 + 1000000) :
    s.slotReadyTimeout t k = s := by
  unfold Sys.slotReadyTimeout
  rw [he]
  refine if_pos ?_
  rcases hidle with hready | hearly
  · simp [hready]
  · simp [hearly]

/-- A restarted slot that is not ready in time leaves the list, and its job fails (R488). -/
theorem Sys.slotReadyTimeout_late (hl : (s.tile t).logical = some l) (hn : s.jobOfSlot (16 * l + k) = some n)
    (hready : s.slotReady t k = false) (hlate : e.2.2 + 1000000 ≤ s.now) :
    s.slotReadyTimeout t k = (s.modLead (fun x => { x with recov := { x.recov with
      starting := x.recov.starting.filter (fun d => d ≠ e) } })).failJob n stInternalError (16 * l + k) := by
  have hkept : (s.modLead (fun x => { x with recov := { x.recov with
      starting := x.recov.starting.filter (fun d => d ≠ e) } })).jobOfSlot (16 * l + k) = some n := hn
  unfold Sys.slotReadyTimeout
  rw [he]
  dsimp only
  rw [if_neg (by simpa [hready] using hlate), show ((s.modLead _).tile t).logical = some l from hl]
  dsimp only
  rw [hkept]

theorem Sys.slotReadyTimeout_fails (hl : (s.tile t).logical = some l) (hn : s.jobOfSlot (16 * l + k) = some n)
    (hready : s.slotReady t k = false) (hlate : e.2.2 + 1000000 ≤ s.now) (hlive : (s.job n).state.live = true) :
    ((s.slotReadyTimeout t k).job n).state = .failed ∧ ((s.slotReadyTimeout t k).job n).failStatus = stInternalError ∧
      ((s.slotReadyTimeout t k).job n).faultEid = 16 * l + k := by
  rw [Sys.slotReadyTimeout_late he hl hn hready hlate]
  refine Sys.failJob_job ?_ (by decide) _
  exact hlive

end Slots

section Rewind
variable {s : Sys} {n : Nat}

theorem Sys.replayRewind_unready (h : s.rewindReady n = false) : s.replayRewind n = s := if_pos (by rw [h]; rfl)

theorem Sys.replayRewind_purges (h : s.rewindReady n = true) (hpurged : (s.job n).purgedAt = none)
    (hgroups : s.partGroups (s.job n).spec.partition ≠ []) : s.replayRewind n =
      (s.purgePart (s.job n).spec.partition).modJob n (fun j => { j with purgedAt := some s.now }) := by
  unfold Sys.replayRewind
  dsimp only
  rw [h, if_neg (by decide), if_pos (by simpa [hpurged] using hgroups)]

theorem Sys.replayRewind_waits {at_ : Nat} (h : s.rewindReady n = true) (hpurged : (s.job n).purgedAt = some at_)
    (hearly : s.now < at_ + 2000) : s.replayRewind n = s := by
  unfold Sys.replayRewind
  dsimp only
  rw [h, if_neg (by decide), hpurged, if_neg (by simp), if_pos (by simpa using hearly)]

/-- The rewind goes on where its purge is over: at once where no group has open slots, else 2 µs after the last GROUP_PURGE
(R286, R401). `y` is the panel once purged. -/
theorem Sys.replayRewind_resumes {y : Sys} (h : s.rewindReady n = true)
    (hy : ((s.job n).purgedAt = none ∧ s.partGroups (s.job n).spec.partition = [] ∧
      y = s.purgePart (s.job n).spec.partition) ∨ (∃ at_, (s.job n).purgedAt = some at_ ∧ at_ + 2000 ≤ s.now ∧ y = s)) :
    let d := y.reloadDamaged (s.job n).spec.partition
    let r := d.2.restoreMirrors (s.job n).spec.partition
    (r.1 = false ∨ d.1 = false → s.replayRewind n = r.2.failJob n stStateLost 0) ∧
      (r.1 = true → d.1 = true → ((s.replayRewind n).job n).Cleared ∧
        ((s.replayRewind n).job n).lapsCommitted = (s.job n).lapsCommitted) := by
  have hpurged : Sys.SameJobs s y ∧ (if (s.job n).purgedAt.isNone then s.purgePart (s.job n).spec.partition else s) = y ∧
      ((s.job n).purgedAt.isNone && !(s.partGroups (s.job n).spec.partition).isEmpty) = false ∧
      (s.job n).purgedAt.any (fun t => decide (s.now < t + 2000)) = false := by
    rcases hy with ⟨hnone, hgroups, hpurged⟩ | ⟨t, ht, hlate, rfl⟩
    · rw [hpurged]
      have hpurge : Sys.SameJobs s (s.purgePart (s.job n).spec.partition) := Sys.SameLead.sameJobs (Sys.purgePart_sameLead _)
      refine ⟨hpurge, ?_, ?_, ?_⟩
      · rw [hnone]
        exact if_pos rfl
      · rw [hgroups]
        simp
      · rw [hnone]
        rfl
    · exact ⟨.refl, by simp [ht], by simp [ht], by simpa [ht] using hlate⟩
  obtain ⟨hsame, hif, hgroups, hwait⟩ := hpurged
  have hd : Sys.SameJobs y (y.reloadDamaged (s.job n).spec.partition).2 := Sys.reloadDamaged_sameJobs _
  generalize hreload : y.reloadDamaged (s.job n).spec.partition = d at hd
  obtain ⟨whole, z⟩ := d
  have hr : Sys.SameLead z (z.restoreMirrors (s.job n).spec.partition).2 := Sys.restoreMirrors_sameLead _
  dsimp only
  generalize hrestore : z.restoreMirrors (s.job n).spec.partition = r at hr
  obtain ⟨ok, w⟩ := r
  have hw : Sys.SameJobs s w := hsame.trans (hd.trans hr.sameJobs)
  unfold Sys.replayRewind
  extract_lets j p k0 steps purged left
  have hpurged : purged = y := hif
  rw [hpurged, show y.reloadDamaged p = (whole, z) from hreload, h, if_neg (by decide),
    if_neg (by rw [hgroups]; decide), if_neg (by rw [hwait]; decide)]
  dsimp -zeta only
  rw [show z.restoreMirrors p = (ok, w) from hrestore]
  dsimp -zeta only
  refine ⟨fun hlost => if_pos ?_, fun hok hwhole => ?_⟩
  · rcases hlost with rfl | rfl
    · rfl
    · rw [Bool.not_false, Bool.or_true]
  subst hok hwhole
  rw [if_neg (by decide)]
  extract_lets tiles u1 u2 u3 u4 u5 u6
  have h1 : Sys.SameJobs w u1 := by
    refine Sys.foldl_sameJobs (fun u e => ?_) _ _
    dsimp only
    refine Sys.SameJobs.trans ?_ (Sys.onTile_sameLead ..).sameJobs
    split <;> exact .refl
  have h2 : Sys.SameJobs u1 u2 := rfl
  have h3 : Sys.SameJobs u2 u3 := ((Sys.unlatchPart_sameLead p).trans (Sys.resendItems_sameLead p)).sameJobs
  have h4 : (u4.job n).Cleared ∧ (u4.job n).lapsCommitted = (u3.job n).lapsCommitted := by
    unfold u4
    rw [Sys.modJob_job]
    exact ⟨⟨rfl, rfl, rfl, rfl⟩, rfl⟩
  have h5 : Sys.SameJobs u4 u5 := Sys.modTiles_sameJobs ..
  have harm : Sys.SameJobs u5 (u5.armJob n) := (Sys.armJob_sameDesk n).sameJobs
  have hlaps : (u6.job n).lapsCommitted = (u5.job n).lapsCommitted :=
    (Sys.thawJob_laps n n).trans (congrArg Job.lapsCommitted (harm.job n))
  have hcleared : (u6.job n).Cleared := by
    refine Sys.thawJob_keepsCleared n n ?_
    rw [harm.job, h5.job]
    exact h4.1
  rw [(Sys.answerWaits_sameJobs ..).job]
  refine ⟨hcleared, hlaps.trans ?_⟩
  rw [h5.job, h4.2, (hw.trans (h1.trans (h2.trans h3))).job]

end Rewind

end Sys2Proof.Machine

/-! SUPPORT. A regrown tile rebuilt, and drains that end in sheds (R486, R487, R498). -/

namespace Sys2Proof.Machine

section Rebuild
variable {a b c s : Sys}

/-- The tiles that are regrown are the same in both. -/
def Sys.SameRegrown (a b : Sys) : Prop := b.lead.recov.regrown = a.lead.recov.regrown

theorem Sys.SameRegrown.trans (hab : Sys.SameRegrown a b) (hbc : Sys.SameRegrown b c) : Sys.SameRegrown a c := Eq.trans hbc hab
theorem Sys.SameLead.sameRegrown (h : Sys.SameLead a b) : Sys.SameRegrown a b := by
  rw [Sys.SameRegrown, h]

theorem Sys.SameButLog.sameRegrown (h : Sys.SameButLog a b) : Sys.SameRegrown a b := by
  rw [Sys.SameRegrown, h.lead]

theorem Sys.foldl_sameRegrown {α : Type} {f : Sys → α → Sys} (hf : ∀ s a, Sys.SameRegrown s (f s a)) (l : List α) (s : Sys) :
    Sys.SameRegrown s (l.foldl f s) :=
  List.foldlRecOn l f (motive := Sys.SameRegrown s) rfl fun u hu a _ => hu.trans (hf u a)

theorem Sys.upJob_sameRegrown (n : Nat) (f : Job → Job) : Sys.SameRegrown s (s.upJob n f) := by
  have hset (j : Job) : Sys.SameRegrown s ((s.setJob n j).eventBoth 4) := (Sys.eventBoth_sameButLog 4).sameRegrown
  unfold Sys.upJob
  dsimp only
  split
  · split
    · split
      · exact hset _
      · exact hset _
    · split <;> rfl
  · split
    · exact hset _
    · rfl

theorem Sys.pushReply_sameRegrown (h q num : Nat) (r : Reply) : Sys.SameRegrown s (s.pushReply h q num r) :=
  Sys.SameLead.sameRegrown (Sys.pushReply_keeps ..).1

theorem Sys.answerWaits_sameRegrown (sel : WaitFor → Bool) (f : Reply → Reply) : Sys.SameRegrown s (s.answerWaits sel f) :=
  List.foldlRecOn (motive := Sys.SameRegrown s) _ _ rfl fun _ hu _ _ => hu.trans (Sys.pushReply_sameRegrown ..)

theorem Sys.endJob_sameRegrown (n fail : Nat) : Sys.SameRegrown s (s.endJob n fail) := by
  unfold Sys.endJob
  extract_lets u j v w x y z
  have hu : Sys.SameRegrown s u := Sys.upJob_sameRegrown ..
  have hv : Sys.SameRegrown u v := Sys.foldl_sameRegrown (f := fun (u : Sys) t => u.modTile t _) (fun _ _ => rfl) _ _
  have hw : Sys.SameRegrown v w := Sys.pushReply_sameRegrown ..
  have hx : Sys.SameRegrown w x := Sys.answerWaits_sameRegrown ..
  have hy : Sys.SameRegrown x y := Sys.answerWaits_sameRegrown ..
  have hz : Sys.SameRegrown y z := Sys.answerWaits_sameRegrown ..
  exact hu.trans (hv.trans (hw.trans (hx.trans (hy.trans (hz.trans (Sys.answerWaits_sameRegrown ..))))))

theorem Sys.failJob_sameRegrown (n fail fault : Nat) : Sys.SameRegrown s (s.failJob n fail fault) := by
  unfold Sys.failJob
  split
  · refine Sys.SameRegrown.trans ?_ (Sys.endJob_sameRegrown n fail)
    exact Sys.SameLead.sameRegrown (a := s) (b := s.jobCtrl n 3) (Sys.coreCtrl_lead ..)
  · rfl

theorem Sys.failPart_sameRegrown (p fail : Nat) : Sys.SameRegrown s (s.failPart p fail) := by
  refine Sys.foldl_sameRegrown (fun u n => ?_) _ _
  split
  · exact Sys.failJob_sameRegrown ..
  · rfl

theorem Sys.reloadSlot_sameRegrown (t l src k : Nat) : Sys.SameRegrown s (s.reloadSlot t l src k) := by
  unfold Sys.reloadSlot
  extract_lets u v w
  have hu : Sys.SameLead s u := by
    unfold u
    split
    · exact Sys.onTile_sameLead ..
    · exact .refl
  have hv : Sys.SameLead u v := by
    unfold v
    split
    · split
      · exact Sys.onTile_sameLead ..
      · exact .refl
    · exact .refl
  have hw : Sys.SameLead v w := Sys.onTile_sameLead ..
  split
  · exact (hu.trans (hv.trans hw)).sameRegrown
  · exact (hu.trans hv).sameRegrown

variable {t : Nat}

theorem Sys.tileRebuild_none (h : ∀ g ∈ s.lead.recov.regrown, g.now_ ≠ t) : s.tileRebuild t = s := by
  unfold Sys.tileRebuild
  rw [List.find?_eq_none.mpr fun g hg => by simpa using h g hg]

/-- A rebuilt tile leaves the list of the regrown (R486, R487). -/
theorem Sys.tileRebuild_regrown {g : Regrown} (hg : s.lead.recov.regrown.find? (fun g => g.now_ = t) = some g)
    (hserves : s.physOf g.logical = some t) (hswitch : s.noSwitch = true)
    (hstill : ∀ p ∈ s.partsOf [g.logical], s.partStill p = true) (hgood : (s.tile t).pwr.pgood = true) :
    (s.tileRebuild t).lead.recov.regrown = s.lead.recov.regrown.filter (fun x => x.logical ≠ g.logical) := by
  unfold Sys.tileRebuild
  rw [hg]
  dsimp -zeta only
  extract_lets parts old srcs codes u1 u2 u3 opp u4 u5 u6 u7
  rw [if_neg (by simpa [hserves, hswitch, hgood] using hstill)]
  have h2 : Sys.SameRegrown s u2 :=
    Sys.foldl_sameRegrown (f := fun (u : Sys) k => u.setTileReg t (0x120 + 4 * k) 0) (fun _ _ => rfl) _ u1
  have h3 : Sys.SameRegrown s u3 := by
    refine Sys.SameRegrown.trans ?_ (Sys.foldl_sameRegrown (fun _ _ => Sys.reloadSlot_sameRegrown ..) _ _)
    refine List.foldlRecOn (motive := fun a : Bool × Sys => Sys.SameRegrown s a.2) _ _ h2 fun a ha r _ => ?_
    have hrows := ha.trans (Sys.rebuildRows_sameLead g r.1 r.2 (codes.contains r.1)).sameRegrown
    split
    · exact hrows.trans (Sys.onTile_sameLead ..).sameRegrown
    · split
      · exact hrows.trans (Sys.loseShadow_sameLead ..).sameRegrown
      · exact hrows
  clear_value u3
  have h5 : Sys.SameRegrown s u5 := h3
  clear_value u5
  have h6 : u6.lead.recov.regrown = s.lead.recov.regrown.filter (fun x => x.logical ≠ g.logical) :=
    congrArg (fun l => l.filter (fun (x : Regrown) => x.logical ≠ g.logical)) h5
  have h7 : Sys.SameRegrown u6 u7 := (Sys.foldl_sameLead (fun _ _ => Sys.moveShadow_sameLead ..) _ _).sameRegrown
  split
  · exact Eq.trans (Sys.foldl_sameRegrown (fun _ _ => Sys.failPart_sameRegrown ..) _ _) (Eq.trans h7 h6)
  · exact Eq.trans h7 h6

end Rebuild

section Jobs
variable {s : Sys}

theorem Sys.discard_sameLead (n : Nat) (p : Packet) (cause : Nat) : Sys.SameLead s (s.discard n p cause) := by
  unfold Sys.discard
  extract_lets u
  have hu : Sys.SameLead s u := by
    have hbump (lo hi : Nat) : Sys.SameLead s (s.bumpTile n 0x60C4 hi lo 1) := by
      unfold Sys.bumpTile
      split <;> exact .refl
    unfold u
    split
    · exact hbump ..
    split
    · exact hbump ..
    split
    · exact hbump ..
    · exact hbump ..
  exact hu.trans (Sys.queueNotice_sameLead ..)

theorem Sys.linkEndFails_sameLead (n p : Nat) : Sys.SameLead s (s.linkEndFails n p) := by
  unfold Sys.linkEndFails
  extract_lets r q lost open_ u v w
  split
  · exact .refl
  have hu : Sys.SameLead s u := rfl
  have hv : Sys.SameLead u v := Sys.foldl_sameLead (fun _ _ => Sys.discard_sameLead ..) _ _
  have hw : Sys.SameLead v w := by
    refine Sys.foldl_sameLead (fun _ _ => Sys.foldl_sameLead (fun x c => ?_) _ _) _ _
    dsimp only
    split
    · exact .refl
    · exact Sys.SameLead.trans (b := x.setRouter n _) .refl (Sys.foldl_sameLead (fun _ _ => Sys.discard_sameLead ..) _ _)
  have hsame := hu.trans (hv.trans hw)
  split
  · split
    · exact hsame.trans (Sys.queueNotice_sameLead ..)
    · exact hsame.trans (Sys.queueNotice_sameLead ..)
  · exact hsame

theorem Sys.linkFail_sameLead (n p : Nat) : Sys.SameLead s (s.linkFail n p) := by
  unfold Sys.linkFail
  split
  · exact .refl
  · exact (Sys.linkEndFails_sameLead ..).trans (Sys.linkEndFails_sameLead ..)

theorem Sys.siluaDown_sameJobs (e p : Nat) (notice : Bool) : Sys.SameJobs s (s.siluaDown e p notice) := by
  unfold Sys.siluaDown
  extract_lets q u v
  have hv : Sys.SameJobs s v := rfl
  split
  · exact hv.trans (Sys.queueNotice_sameLead ..).sameJobs
  · exact hv

theorem Sys.siluaRetrain_sameLead (e p : Nat) : Sys.SameLead s (s.siluaRetrain e p) := by
  unfold Sys.siluaRetrain
  extract_lets q u
  have hu : Sys.SameLead s u := rfl
  refine hu.trans (Sys.foldl_sameLead (fun _ _ => ?_) _ _)
  split <;> exact .refl

theorem Sys.takeDown_sameJobs (kind wher sub : Nat) : Sys.SameJobs s (s.takeDown kind wher sub) := by
  unfold Sys.takeDown
  split
  · exact (Sys.linkFail_sameLead ..).sameJobs
  split
  · exact (Sys.linkFail_sameLead ..).sameJobs
  split
  · exact .refl
  split
  · exact .refl
  split
  · extract_lets p q left u
    have hu : Sys.SameJobs s u := rfl
    split
    · exact .refl
    split
    · exact hu.trans (Sys.siluaDown_sameJobs ..)
    · exact hu.trans (Sys.siluaRetrain_sameLead ..).sameJobs
  split
  · refine Sys.foldl_sameJobs (fun u p => Sys.SameJobs.trans (b := u.modPort wher p _) ?_ (Sys.siluaDown_sameJobs ..)) _ _
    exact .refl
  · exact .refl

theorem Sys.askSwitch_sameJobs : Sys.SameJobs s s.askSwitch := by
  unfold Sys.askSwitch
  split <;> exact .refl

theorem Sys.markShed_sameJobs (kind wher sub : Nat) (hard host : Bool) : Sys.SameJobs s (s.markShed kind wher sub hard host) := by
  unfold Sys.markShed
  extract_lets key u
  split
  · exact .refl
  · have hu : Sys.SameJobs s (u.mapShed kind wher sub 3 0xFF) := rfl
    exact hu.trans ((Sys.log_sameButLog ..).trans (Sys.eventBoth_sameButLog 7)).sameJobs

theorem Sys.keys_none {a b : Sys} (h : Sys.SameJobs a b) (hnone : a.lead.jobs = []) : NMap.keys b.lead.jobs = [] := by
  rw [h, hnone]
  rfl

end Jobs

section Drains
variable {s : Sys} {kind wher sub : Nat}

/-- A unit's record once it is shed (R379). -/
def Unit_.shedAt (u : Unit_) (now : Nat) (hard host : Bool) : Unit_ :=
  { u with shed := some now, draining := none, watch := none, held := false, hard := hard, host := host }

/-- A unit that is marked shed (R379, R498). -/
theorem Sys.markShed_unit (hard host : Bool) (hshed : (s.unit (unitKey kind wher sub)).shed = none) :
    ((s.markShed kind wher sub hard host).unit (unitKey kind wher sub)).shed = some s.now ∧
      ((s.markShed kind wher sub hard host).unit (unitKey kind wher sub)).draining = none ∧
      (s.markShed kind wher sub hard host).tiles = s.tiles := by
  unfold Sys.markShed
  extract_lets key u
  rw [if_neg (by rw [hshed]; decide)]
  have hlogged : Sys.SameButLog (u.mapShed kind wher sub 3 0xFF) _ :=
    (Sys.log_sameButLog 0x0020 1 kind wher sub 0).trans (Sys.eventBoth_sameButLog 7)
  have hunit : (u.mapShed kind wher sub 3 0xFF).unit (unitKey kind wher sub) =
      (s.unit (unitKey kind wher sub)).shedAt s.now hard host :=
    Sys.unit_modUnit_same s key fun v => v.shedAt s.now hard host
  rw [Sys.unit_congr hlogged.health, hunit, hlogged.tiles]
  exact ⟨rfl, rfl, rfl⟩

/-- A draining core that has become the resting one leaves service (R498). -/
theorem Sys.drain_resting {t c : Nat} (ht : t < 256) (hdrain : (s.unit (unitKey 2 t c)).draining.isSome = true)
    (hshed : (s.unit (unitKey 2 t c)).shed = none) (hrest : (s.tile t).rest = c) (hvalid : (s.tile t).restValid = true)
    (hjobs : s.lead.jobs = []) :
    ((s.drain 2 t c).unit (unitKey 2 t c)).shed = some s.now ∧ ((s.drain 2 t c).unit (unitKey 2 t c)).draining = none ∧
      ((s.drain 2 t c).tile t).restValid = false := by
  have hdo : s.onTile t (fun x => x.retireRest) = s.setTile t ((s.tx t).retireRest).tile := if_pos ht
  generalize hr : s.setTile t ((s.tx t).retireRest).tile = r at hdo
  have hrunit : (r.unit (unitKey 2 t c)).shed = none := by rw [← hr]; exact hshed
  have hrnow : r.now = s.now := by rw [← hr]; rfl
  have hrjobs : Sys.SameJobs s r := by rw [← hr]; rfl
  have hrtile : (r.tile t).restValid = false := by rw [← hr, Sys.tile_setTile_same]; rfl
  have hdrained : s.drain 2 t c = r.markShed 2 t c false (s.unit (unitKey 2 t c)).host := by
    unfold Sys.drain
    dsimp only
    rw [if_neg (by simpa [Option.isSome_iff_ne_none] using hdrain), if_neg (by decide), if_pos (by decide : (2 : Nat) = ukCore),
      if_pos (by simp [hrest, hvalid]), hdo, Sys.keys_none (hrjobs.trans (Sys.markShed_sameJobs ..)) hjobs]
    rfl
  obtain ⟨hu, hd, htiles⟩ := Sys.markShed_unit (s := r) false (s.unit (unitKey 2 t c)).host hrunit
  rw [hdrained]
  exact ⟨hu.trans (congrArg some hrnow), hd, by rw [Sys.tile, htiles]; exact hrtile⟩

/-- Units other than tiles, cores and banks are shed and taken down, and the routes follow (R484). -/
theorem Sys.shedNow_apart (hkind : 4 ≤ kind) (hard host : Bool) :
    s.shedNow kind wher sub hard host = ((s.markShed kind wher sub hard host).takeDown kind wher sub).askSwitch := by
  unfold Sys.shedNow
  rw [if_neg (show kind ≠ ukTile by unfold ukTile; omega), if_neg (show kind ≠ ukBank by unfold ukBank; omega),
    if_neg (show kind ≠ ukCore by unfold ukCore; omega)]

/-- The drain limit of a unit without a drain of its own kind passes: the unit is shed where it stands (R498). -/
theorem Sys.drainLimit_sheds {since : Nat} (hkind : 4 ≤ kind) (hdrain : (s.unit (unitKey kind wher sub)).draining = some since)
    (hjobs : s.lead.jobs = []) (hlate : since + 60000000000 ≤ s.now) :
    s.drainLimit kind wher sub = (((s.modUnit (unitKey kind wher sub) (fun u => { u with draining := none })).markShed kind wher
      sub false (s.unit (unitKey kind wher sub)).host).takeDown kind wher sub).askSwitch := by
  unfold Sys.drainLimit
  dsimp only
  rw [hdrain]
  dsimp only
  rw [if_neg (Nat.not_lt.mpr hlate), Sys.unit_modUnit_same, Sys.shedNow_apart hkind]
  have hkeys := Sys.keys_none (a := s) (b := (((s.modUnit (unitKey kind wher sub) (fun u => { u with draining := none })).markShed
      kind wher sub false (s.unit (unitKey kind wher sub)).host).takeDown kind wher sub).askSwitch) ?_ hjobs
  · rw [hkeys]
    rfl
  · have hmod : Sys.SameJobs s (s.modUnit (unitKey kind wher sub) (fun u => { u with draining := none })) := rfl
    exact hmod.trans ((Sys.markShed_sameJobs ..).trans ((Sys.takeDown_sameJobs ..).trans Sys.askSwitch_sameJobs))

theorem Sys.drainLimit_early {since : Nat} (hdrain : (s.unit (unitKey kind wher sub)).draining = some since)
    (hearly : s.now < since + 60000000000) : s.drainLimit kind wher sub = s := by
  unfold Sys.drainLimit
  dsimp only
  rw [hdrain]
  exact if_pos hearly

end Drains

end Sys2Proof.Machine

/-! SUPPORT. Health samples, heartbeats and lost hubs, and O56 (R494–R500). -/

namespace Sys2Proof.Machine

section Health
variable {s : Sys}

/-- The events of a unit since the last sample (R495): event and count. -/
def Health.eventsOf (h : Health) (k : Nat) : List (Nat × Nat) := (h.counts.filter (fun c => c.1 / 32 = k)).map (fun c => (c.1 % 32, c.2))

/-- The units once every unit with events has a record (R495). -/
def Health.known (h : Health) : NMap Unit_ :=
  (h.counts.map (fun c => c.1 / 32)).foldl (fun (m : NMap Unit_) k => if (NMap.find m k).isSome then m else NMap.put m k {}) h.units

/-- The units as a sample leaves them while scores are not frozen (R495, R496). -/
def Health.resampled (h : Health) (now : Nat) : NMap Unit_ :=
  h.known.map (fun e => (e.1, (e.2.counted now (h.eventsOf e.1)).sampled now (h.eventsOf e.1)))

/-- A unit below the watch level that neither is watched nor drains: a sample does nothing more with it (R497). -/
def Unit_.calm (u : Unit_) : Prop := u.watch = none ∧ u.draining = none ∧ u.score < 1000 * 256

theorem Sys.judgeUnit_calm {key : Nat} (hcalm : (s.unit key).calm) (fell : Bool) : s.judgeUnit key fell = s := by
  obtain ⟨hwatch, hdrain, hscore⟩ := hcalm
  unfold Sys.judgeUnit
  extract_lets u kind wher sub drains ended v due
  split
  · rfl
  have hdrains : drains = false := congrArg Option.isSome hdrain
  have hv : v = s := by
    refine (if_neg (by rw [hdrains]; decide)).trans ((if_neg ?_).trans (if_neg ?_))
    · simpa [show u.watch = none from hwatch] using hscore
    · simp [show u.watch = none from hwatch]
  have hlow : u.score < (if drains then 8000 else 4000) * 256 := by
    rw [hdrains]
    exact Nat.lt_of_lt_of_le hscore (by decide)
  exact (if_pos (by rw [decide_eq_true hlow]; rfl)).trans hv

theorem Sys.unit_calm (hcalm : ∀ e ∈ s.health.units, e.2.calm) (key : Nat) : (s.unit key).calm := by
  rcases NMap.get_eq_default_or_mem ({} : Unit_) s.health.units key with hdef | hmem
  · rw [Sys.unit, hdef]
    exact ⟨rfl, rfl, by decide⟩
  · exact hcalm _ hmem

theorem Sys.judged_calm (hcalm : ∀ e ∈ s.health.units, e.2.calm) (fell : Bool) (l : List Nat) :
    l.foldl (fun s k => s.judgeUnit k fell) s = s :=
  List.foldlRecOn (motive := fun u : Sys => u = s) _ _ rfl fun u hu k _ => by
    rw [hu]
    exact Sys.judgeUnit_calm (Sys.unit_calm hcalm k) fell

/-- A sample of units that all stay calm, too few of them rising for a common cause (R495–R500). -/
theorem Sys.healthSample_calm (hfrozen : s.health.frozen s.now = false)
    (hcalm : ∀ e ∈ s.health.resampled s.now, e.2.calm)
    (hfew : ((s.health.resampled s.now).filter
      (fun u => decide ((u.2.gains.map (fun g => g.2)).foldl (· + ·) 0 ≥ 100 * 256))).length < 8) :
    s.healthSample = { s with health := { s.health with
      units := s.health.resampled s.now, counts := [], sampled := s.now, removed := s.health.removed24 s.now } } := by
  unfold Sys.healthSample
  extract_lets h now was ofKey new step units u before frozen feeds v removed fell after w
  have hunits : units = s.health.resampled s.now := by
    unfold units step was
    rw [show h.frozen now = false from hfrozen]
    rfl
  have hcause : u.commonCause = false := by
    have hrising : u.rising.length < 8 := by
      rw [Sys.rising, List.length_map, show u.health.units = _ from hunits]
      exact hfew
    unfold Sys.commonCause
    simp only [Bool.and_eq_false_iff, decide_eq_false_iff_not]
    exact .inl (Nat.not_le.mpr hrising)
  have hv : v = u := if_neg (by rw [hcause]; decide)
  have hw : w = { s with health := { s.health with
      units := s.health.resampled s.now, counts := [], sampled := s.now, removed := s.health.removed24 s.now } } := by
    unfold w after removed
    rw [hv]
    unfold u
    rw [hunits]
    rfl
  rw [hw]
  exact Sys.judged_calm hcalm ..

/-- Without new events a unit's score only decays (R495). -/
theorem Unit_.sampled_none {u : Unit_} {now : Nat} (hgains : u.gains = []) :
    (u.counted now []).sampled now [] = { u with score := decayed u.base (now - u.baseAt) } := by
  cases u
  subst hgains
  rfl

theorem Health.resampled_none {h : Health} {now : Nat} (hcounts : h.counts = []) (hgains : ∀ e ∈ h.units, e.2.gains = []) :
    h.resampled now = h.units.map (fun e => (e.1, { e.2 with score := decayed e.2.base (now - e.2.baseAt) })) := by
  have hevents (k : Nat) : h.eventsOf k = [] := by rw [Health.eventsOf, hcounts]; rfl
  have hknown : h.known = h.units := by rw [Health.known, hcounts]; rfl
  rw [Health.resampled, hknown]
  refine List.map_congr_left fun e he => ?_
  rw [hevents, Unit_.sampled_none (hgains e he)]

theorem Sys.healthSample_decays (hcounts : s.health.counts = []) (hfrozen : s.health.frozen s.now = false)
    (hunits : ∀ e ∈ s.health.units, e.2.gains = [] ∧ e.2.watch = none ∧ e.2.draining = none ∧
      decayed e.2.base (s.now - e.2.baseAt) < 1000 * 256) :
    s.healthSample = { s with health := { s.health with
      units := s.health.units.map (fun e => (e.1, { e.2 with score := decayed e.2.base (s.now - e.2.baseAt) }))
      sampled := s.now, removed := s.health.removed24 s.now } } := by
  have hunits' := Health.resampled_none (now := s.now) hcounts fun e he => (hunits e he).1
  rw [Sys.healthSample_calm hfrozen, hunits', ← hcounts]
  · rw [hunits']
    intro e he
    obtain ⟨x, hx, rfl⟩ := List.mem_map.mp he
    exact (hunits x hx).2
  · rw [hunits', List.filter_eq_nil_iff.mpr]
    · decide
    · intro e he
      obtain ⟨x, hx, rfl⟩ := List.mem_map.mp he
      rw [(hunits x hx).1]
      decide

/-- The record of a unit that `gain` has just come to (R495, R496). -/
def Unit_.scoring (now gain c ev : Nat) : Unit_ :=
  { base := gain, baseAt := now, score := gain, peak := gain, gains := [(now, gain)],
    events := satAdd 32 0 c, lastCode := eventCode ev, lastTime := now }

theorem eventPoints_pos {ev : Nat} (hev : ev < 19) : 0 < eventPoints ev := by
  revert ev
  decide

theorem Unit_.sampled_first {now c ev : Nat} (hgain : 0 < 256 * eventPoints ev * c) :
    (({} : Unit_).counted now [(ev, c)]).sampled now [(ev, c)] = Unit_.scoring now (256 * eventPoints ev * c) c ev := by
  have hdecayed (dt : Nat) : decayed 0 dt = 0 := by
    unfold decayed
    simp
  have hsum : ([(ev, c)].map (fun e => 256 * eventPoints e.1 * e.2)).foldl (· + ·) 0 = 256 * eventPoints ev * c := Nat.zero_add _
  have hcount : ([(ev, c)].map (fun e => e.2)).foldl (· + ·) 0 = c := Nat.zero_add _
  unfold Unit_.sampled Unit_.counted
  dsimp only [List.getLast?_singleton]
  rw [hsum, hcount, if_neg (Nat.ne_of_gt hgain), hdecayed, Nat.zero_add, Nat.zero_max]
  rfl

theorem Sys.healthSample_first {key ev c : Nat} (hcounts : s.health.counts = [(32 * key + ev, c)]) (hunits : s.health.units = [])
    (hfrozen : s.health.frozen s.now = false) (hev : ev < 19) (hc : 0 < c) (hlow : 256 * (eventPoints ev * c) < 1000 * 256) :
    s.healthSample = { s with health := { s.health with
      units := [(key, Unit_.scoring s.now (256 * eventPoints ev * c) c ev)], counts := []
      sampled := s.now, removed := s.health.removed24 s.now } } := by
  have hgain : 0 < 256 * eventPoints ev * c := Nat.mul_pos (Nat.mul_pos (by decide) (eventPoints_pos hev)) hc
  have hdiv : (32 * key + ev) / 32 = key := by omega
  have hmod : (32 * key + ev) % 32 = ev := by omega
  have hknown : s.health.known = [(key, {})] := by
    rw [Health.known, hcounts, hunits]
    simp only [List.map_cons, List.map_nil, List.foldl_cons, List.foldl_nil, hdiv]
    rfl
  have hevents : s.health.eventsOf key = [(ev, c)] := by
    rw [Health.eventsOf, hcounts]
    simp [hdiv, hmod]
  have hnew : s.health.resampled s.now = [(key, Unit_.scoring s.now (256 * eventPoints ev * c) c ev)] := by
    rw [Health.resampled, hknown, List.map_singleton, hevents, Unit_.sampled_first hgain]
  rw [Sys.healthSample_calm hfrozen, hnew]
  · rw [hnew]
    intro e he
    rw [List.mem_singleton.mp he]
    exact ⟨rfl, rfl, Nat.mul_assoc .. ▸ hlow⟩
  · rw [hnew]
    exact Nat.lt_of_le_of_lt (List.length_filter_le ..) (show 1 < 8 by decide)

/-- The health-history ring in the flash of each hub that lives (R495). -/
theorem Sys.healthRing_flash {x : Nat} (hx : x < 2) (hlive : (s.hub x).live = true) :
    (s.healthRing.flash x).ring = s.health.units.map (fun e => (e.1, e.2.score)) ∧ (s.healthRing.flash x).ringTime = s.now := by
  unfold Sys.healthRing
  extract_lets ring put fl
  have hput (f : Flash) : (put f).ring = ring ∧ (put f).ringTime = s.now := ⟨rfl, rfl⟩
  have hfl : ∃ f, NMap.get {} fl x = put f := by
    have hfold : fl = if (s.hub 1).live then NMap.modify {} (if (s.hub 0).live then NMap.modify {} s.boot.flash 0 put
        else s.boot.flash) 1 put else if (s.hub 0).live then NMap.modify {} s.boot.flash 0 put else s.boot.flash := rfl
    rw [hfold]
    obtain rfl | rfl : x = 0 ∨ x = 1 := by omega
    · rw [hlive, if_pos rfl]
      refine ⟨NMap.get {} s.boot.flash 0, ?_⟩
      split
      · exact (NMap.get_put_other _ _ _ _ _ (by decide)).trans (NMap.get_put_same ..)
      · exact NMap.get_put_same ..
    · rw [if_pos hlive]
      exact ⟨_, NMap.get_put_same ..⟩
  obtain ⟨f, hf⟩ := hfl
  rw [Sys.flash, hf]
  exact hput f

end Health

section Hubs
variable {s : Sys} {n : Nat}

theorem Sys.scoreFreezeEnd_at {e : Nat} (he : s.health.frozenUntil = some e) : s.scoreFreezeEnd =
    if s.now < e then s else ({ s with health := { s.health with frozenUntil := none } } : Sys).eventBoth 7 := by
  unfold Sys.scoreFreezeEnd
  rw [he]

theorem Sys.hubLost_late (hlive : (s.hub n).live = true) (hother : (s.hub (1 - n)).live = true) (hstep : 9 ≤ (s.bootHub (1 - n)).step)
    (hlate : (s.hub (1 - n)).heard + 3000000 ≤ s.now) :
    s.hubLost n = if s.lead.hub = n then (s.hubGone n).takeLead (1 - n) else s.hubGone n := by
  unfold Sys.hubLost
  dsimp only
  rw [if_neg (by simp [hlive, hother, hstep, hlate])]
  simp only [decide_eq_true_eq]

theorem Sys.hubLost_early (hearly : s.now < (s.hub (1 - n)).heard + 3000000) : s.hubLost n = s :=
  if_pos (by simp [hearly])

end Hubs

theorem unitPlaceOk_fits {kind wher sub : Nat} (h : unitPlaceOk kind wher sub = true) : wher < 256 ∧ sub < 1024 := by
  unfold unitPlaceOk at h
  repeat' split at h
  all_goals
    simp only [Bool.and_eq_true, decide_eq_true_eq] at h
    omega

/-- Settles O56. -/
theorem recoveryAndHealth : Obligations.RecoveryAndHealth := by
  unfold Obligations.RecoveryAndHealth
  intro s n t k l hn ht hk j now h
  have hdo (i : Instr) (f : Sys → Sys) (hexec : exec i s = s.act i.wf f) (hwf : i.wf = true) :
      exec i s = .next { s with sys := f s.sys } := by rw [hexec, hwf, State.act_true]
  have htk : (Instr.freezeTimeout t k).wf = true := by simp [Instr.wf, isTile, isSlot, ht, hk]
  have hready : (Instr.slotReadyTimeout t k).wf = true := htk
  have hjob : (Instr.replayRewind n).wf = true := decide_eq_true hn
  have hrewind := hdo _ _ (exec_replayRewind n s) hjob
  have hrebuild := hdo _ _ (exec_tileRebuild t s) (decide_eq_true ht)
  refine ⟨fun hl hslot => ⟨fun hearly => ?_, fun hlate hst hcore hshed => ?_, fun e he => ⟨fun hidle => ?_, fun hno hlate hlive => ?_⟩⟩,
    fun hno => ?_, fun hyes => ⟨fun hpurged hgroups => ?_, fun at_ hpurged hearly => ?_, fun y hy => ⟨fun hlost => ?_, fun hok hwhole => ?_⟩⟩,
    fun hnone => ?_, fun g hg hserves hswitch hstill hgood => ?_, fun c hdrain hshed hrest hvalid hjobs _ hc => ?_,
    fun kind wher sub since h4 h9 hplace hdrain hjobs => ⟨fun hearly => ?_, fun hlate => ?_⟩, fun hcounts hfrozen hunits => ?_,
    fun key ev c hcounts hunits hfrozen hev hc hlow => ?_, ?_, fun e he => ⟨fun hearly => ?_, fun hlate => ?_⟩,
    fun x hx hlive hother href => ?_, fun x hx => ⟨fun hearly => ?_, fun hlive hother hstep hlate => ?_⟩⟩
  · rw [hdo _ _ (exec_freezeTimeout t k s) htk, Sys.freezeTimeout_early hl hslot hearly]
  · rw [hdo _ _ (exec_freezeTimeout t k s) htk, Sys.freezeTimeout_late hl hslot hlate hst hcore hshed]
  · rw [hdo _ _ (exec_slotReadyTimeout t k s) hready, Sys.slotReadyTimeout_idle he hidle]
  · exact ⟨_, hdo _ _ (exec_slotReadyTimeout t k s) hready, Sys.slotReadyTimeout_fails he hl hslot hno hlate hlive⟩
  · rw [hrewind, Sys.replayRewind_unready hno]
  · rw [hrewind, Sys.replayRewind_purges hyes hpurged hgroups]
  · rw [hrewind, Sys.replayRewind_waits hyes hpurged hearly]
  · obtain ⟨hfails, -⟩ := Sys.replayRewind_resumes (s := s.sys) (y := y) hyes hy
    rw [hrewind, hfails hlost]
  · obtain ⟨-, hresumes⟩ := Sys.replayRewind_resumes (s := s.sys) (y := y) hyes hy
    obtain ⟨⟨hends, hpoison, hcommit, hpurged⟩, hlaps⟩ := hresumes hok hwhole
    exact ⟨_, hrewind, hends, hpoison, hcommit, hpurged, hlaps⟩
  · rw [hrebuild, Sys.tileRebuild_none hnone]
  · exact ⟨_, hrebuild, Sys.tileRebuild_regrown hg hserves hswitch hstill hgood⟩
  · have hwf : (Instr.drain 2 t c).wf = true := by
      simp only [Instr.wf, Bool.and_eq_true, decide_eq_true_eq]
      omega
    exact ⟨_, hdo _ _ (exec_drain 2 t c s) hwf, Sys.drain_resting ht hdrain hshed hrest hvalid hjobs⟩
  · have hwf : (Instr.drainLimit kind wher sub).wf = true := by
      have hfits := unitPlaceOk_fits hplace
      simp only [Instr.wf, Bool.and_eq_true, decide_eq_true_eq]
      omega
    rw [hdo _ _ (exec_drainLimit kind wher sub s) hwf, Sys.drainLimit_early hdrain hearly]
  · have hwf : (Instr.drainLimit kind wher sub).wf = true := by
      have hfits := unitPlaceOk_fits hplace
      simp only [Instr.wf, Bool.and_eq_true, decide_eq_true_eq]
      omega
    rw [hdo _ _ (exec_drainLimit kind wher sub s) hwf, Sys.drainLimit_sheds h4 hdrain hjobs hlate]
  · rw [hdo _ _ (exec_healthSample s) rfl, Sys.healthSample_decays hcounts hfrozen hunits]
  · rw [hdo _ _ (exec_healthSample s) rfl, Sys.healthSample_first hcounts hunits hfrozen hev hc hlow]
    rfl
  · exact ⟨_, hdo _ _ (exec_healthRingWrite s) rfl, fun x hx hlive => Sys.healthRing_flash hx hlive⟩
  · rw [hdo _ _ (exec_scoreFreezeEnd s) rfl, Sys.scoreFreezeEnd_at he, if_pos hearly]
  · rw [hdo _ _ (exec_scoreFreezeEnd s) rfl, Sys.scoreFreezeEnd_at he, if_neg (Nat.not_lt.mpr hlate)]
  · rw [hdo _ _ (exec_hubHeartbeat x s) (decide_eq_true hx)]
    unfold Sys.hubHeartbeat
    rw [hlive, hother, href]
    rfl
  · rw [hdo _ _ (exec_hubLost x s) (decide_eq_true hx), Sys.hubLost_early hearly]
  · rw [hdo _ _ (exec_hubLost x s) (decide_eq_true hx), Sys.hubLost_late hlive hother hstep hlate]

end Sys2Proof.Machine

/-! SUPPORT. A feed said to drop at a voltage that no reading of a feed can name (log entry 9). -/

namespace Sys2Proof.Machine

/-- The state after a COLD reset with its first feed qualified. -/
def State.oneFeed : State := { State.reset with sys := { State.reset.sys with power := { feeds := [(0, { qualified := true })] } } }

/-- Refutes O57: the statement lets a feed drop at any voltage above 60 V, but a voltage of 65,536 (in units of 10 mV) is
none that the row can carry: the command is not well formed and the feed stays qualified. -/
theorem not_powerManagement : ¬ Obligations.PowerManagement := by
  unfold Obligations.PowerManagement
  intro h
  let s := State.oneFeed
  obtain ⟨-, hdrop, -⟩ := h s 0 0 (by decide) (by decide)
  obtain ⟨z, hexec, hfeed, -⟩ := hdrop 0 65536 50000 (by decide) rfl (by decide) (.inr (by decide)) (fun hother => absurd hother (by decide))
  have hrun : exec (.feedDrop 0 65536 50000) s = .next s := by
    rw [exec_feedDrop, show (Instr.feedDrop 0 65536 50000).wf = false by decide]
    rfl
  obtain rfl : s = z := Host.Outcome.next.inj (hrun.symm.trans hexec)
  exact absurd (congrArg Feed.qualified hfeed) (by decide)

end Sys2Proof.Machine

/-! SUPPORT. What leaves the cooling and the power of the panel as they are (R393–R403, R464–R472). -/

namespace Sys2Proof.Machine

/-- Cooling and power are the same in both. -/
def Sys.SameRig (a b : Sys) : Prop := b.cool = a.cool ∧ b.power = a.power
/-- Cooling is the same in both. -/
def Sys.SameCool (a b : Sys) : Prop := b.cool = a.cool

section Rig
variable {a b c s : Sys}

theorem Sys.SameRig.refl : Sys.SameRig s s := ⟨rfl, rfl⟩
theorem Sys.SameRig.trans (hab : Sys.SameRig a b) (hbc : Sys.SameRig b c) : Sys.SameRig a c :=
  ⟨hbc.1.trans hab.1, hbc.2.trans hab.2⟩
theorem Sys.SameCool.refl : Sys.SameCool s s := rfl
theorem Sys.SameCool.trans (hab : Sys.SameCool a b) (hbc : Sys.SameCool b c) : Sys.SameCool a c := Eq.trans hbc hab

theorem Sys.foldl_sameRig {α : Type} {f : Sys → α → Sys} (hf : ∀ s a, Sys.SameRig s (f s a)) (l : List α) (s : Sys) :
    Sys.SameRig s (l.foldl f s) :=
  List.foldlRecOn l f (motive := Sys.SameRig s) .refl fun u hu a _ => hu.trans (hf u a)
theorem Sys.foldl_sameCool {α : Type} {f : Sys → α → Sys} (hf : ∀ s a, Sys.SameCool s (f s a)) (l : List α) (s : Sys) :
    Sys.SameCool s (l.foldl f s) :=
  List.foldlRecOn l f (motive := Sys.SameCool s) .refl fun u hu a _ => hu.trans (hf u a)

theorem Sys.SameButLog.sameRig (h : Sys.SameButLog a b) : Sys.SameRig a b := ⟨by rw [h.1], by rw [h.1]⟩

theorem Sys.pushReply_sameRig (h q num : Nat) (r : Reply) : Sys.SameRig s (s.pushReply h q num r) := by
  unfold Sys.pushReply
  dsimp only
  split
  · exact .refl
  · split <;> exact .refl

theorem Sys.answerWaits_sameRig (sel : WaitFor → Bool) (f : Reply → Reply) : Sys.SameRig s (s.answerWaits sel f) :=
  List.foldlRecOn (motive := Sys.SameRig s) _ _ ⟨rfl, rfl⟩ fun _ hu _ _ => hu.trans (Sys.pushReply_sameRig ..)

theorem Sys.modTiles_sameRig (l : List Nat) (f : Tile → Tile) :
    Sys.SameRig s (l.foldl (fun (u : Sys) t => u.modTile t f) s) :=
  Sys.foldl_sameRig (f := fun (u : Sys) t => u.modTile t f) (fun _ _ => .refl) _ _

theorem Sys.coreCtrl_sameRig (slots : List (Nat × Nat)) (code : Nat) : Sys.SameRig s (s.coreCtrl slots code) :=
  List.foldlRecOn (motive := Sys.SameRig s) _ _ .refl fun _ hu _ _ => hu

theorem Sys.jobCtrl_sameRig (n code : Nat) : Sys.SameRig s (s.jobCtrl n code) := Sys.coreCtrl_sameRig ..

theorem Sys.upJob_sameRig (n : Nat) (f : Job → Job) : Sys.SameRig s (s.upJob n f) := by
  have hset (j : Job) : Sys.SameRig s ((s.setJob n j).eventBoth 4) :=
    Sys.SameRig.trans (b := s.setJob n j) .refl (Sys.eventBoth_sameButLog 4).sameRig
  unfold Sys.upJob
  dsimp only
  split
  · split
    · split
      · exact hset _
      · exact hset _
    · split <;> exact .refl
  · split
    · exact hset _
    · exact .refl

theorem Sys.endJob_sameRig (n fail : Nat) : Sys.SameRig s (s.endJob n fail) := by
  unfold Sys.endJob
  extract_lets u j v w x y z
  have hu : Sys.SameRig s u := Sys.upJob_sameRig ..
  have hv : Sys.SameRig u v := Sys.modTiles_sameRig ..
  have hw : Sys.SameRig v w := Sys.pushReply_sameRig ..
  have hx : Sys.SameRig w x := Sys.answerWaits_sameRig ..
  have hy : Sys.SameRig x y := Sys.answerWaits_sameRig ..
  have hz : Sys.SameRig y z := Sys.answerWaits_sameRig ..
  exact hu.trans (hv.trans (hw.trans (hx.trans (hy.trans (hz.trans (Sys.answerWaits_sameRig ..))))))

theorem Sys.failJob_sameRig (n fail fault : Nat) : Sys.SameRig s (s.failJob n fail fault) := by
  unfold Sys.failJob
  split
  · refine Sys.SameRig.trans (b := s.jobCtrl n 3) (Sys.jobCtrl_sameRig ..) (Sys.SameRig.trans ?_ (Sys.endJob_sameRig n fail))
    exact ⟨rfl, rfl⟩
  · exact .refl

theorem Sys.freezeJob_sameRig (n : Nat) : Sys.SameRig s (s.freezeJob n) := by
  unfold Sys.freezeJob
  refine Sys.SameRig.trans ?_ (Sys.jobCtrl_sameRig ..)
  exact ⟨rfl, rfl⟩

theorem Sys.holdThermal_sameRig (n : Nat) : Sys.SameRig s (s.holdThermal n) := by
  unfold Sys.holdThermal
  extract_lets j u
  have hu : Sys.SameRig s u := by
    unfold u
    split <;> exact .refl
  split
  · exact .refl
  · exact hu.trans ((Sys.upJob_sameRig ..).trans (Sys.freezeJob_sameRig n))

theorem Sys.settleHold_sameRig (t : Nat) : Sys.SameRig s (s.settleHold t) := by
  unfold Sys.settleHold
  dsimp only
  split <;> exact .refl

theorem Sys.sendCeiling_sameRig (t mask ceil : Nat) : Sys.SameRig s (s.sendCeiling t mask ceil) := by
  unfold Sys.sendCeiling
  split <;> exact .refl

theorem Sys.writeStarts_sameRig (n : Nat) : Sys.SameRig s (s.writeStarts n) :=
  List.foldlRecOn (motive := Sys.SameRig s) _ _ ⟨rfl, rfl⟩ fun _ hu _ _ => hu

theorem Sys.thawOne_sameRig (n : Nat) : Sys.SameRig s (s.thawOne n) := by
  unfold Sys.thawOne
  extract_lets u v
  have hv : Sys.SameRig s v := (Sys.writeStarts_sameRig n).trans ((Sys.upJob_sameRig ..).trans (Sys.jobCtrl_sameRig ..))
  split
  · exact hv
  · exact hv.trans (Sys.answerWaits_sameRig ..)

theorem Sys.applyOpp_sameCool (l : List Nat) (op : Nat) : Sys.SameCool s (s.applyOpp l op) := by
  unfold Sys.applyOpp
  extract_lets u v
  have hu : Sys.SameRig s u := Sys.modTiles_sameRig ..
  have hv : Sys.SameRig u v := by
    refine Sys.foldl_sameRig (fun u n => ?_) _ _
    exact ⟨rfl, rfl⟩
  exact (hu.trans hv).1

theorem Sys.thawJob_sameCool (n : Nat) : Sys.SameCool s (s.thawJob n) := by
  unfold Sys.thawJob
  split
  · exact (Sys.thawOne_sameRig n).1
  next w _ =>
    extract_lets group late
    split
    · exact (Sys.thawOne_sameRig n).1
    · split
      · exact (Sys.applyOpp_sameCool group w.2).trans (Sys.foldl_sameRig (fun u k => Sys.thawOne_sameRig k) _ _).1
      · exact ((Sys.upJob_sameRig ..).trans (Sys.foldl_sameRig (fun u k => Sys.freezeJob_sameRig k) _ _)).1

theorem Sys.thawThermal_sameCool (n : Nat) : Sys.SameCool s (s.thawThermal n) := by
  unfold Sys.thawThermal
  dsimp only
  split
  · split
    · exact Sys.thawJob_sameCool n
    · exact (Sys.upJob_sameRig ..).1
  · exact .refl

theorem Sys.askOpp_sameCool (l : List Nat) (op : Nat) : Sys.SameCool s (s.askOpp l op) := by
  unfold Sys.askOpp
  extract_lets p u
  have hu : Sys.SameCool s u := rfl
  split
  · exact hu.trans (Sys.foldl_sameRig (fun u k => Sys.freezeJob_sameRig k) _ _).1
  · exact hu

theorem Sys.regrant_sameCool (l : List Nat) : Sys.SameCool s (s.regrant l) := by
  unfold Sys.regrant
  split
  · exact .refl
  · dsimp only
    split
    · exact Sys.applyOpp_sameCool ..
    split
    · exact .refl
    · exact Sys.askOpp_sameCool ..

end Rig

section Caps
variable {s : Sys}

/-- The cap in force follows its terms, with an event and a log entry where it changes (R453). -/
theorem Sys.updateCap_rig : s.updateCap.cool = s.cool ∧ s.updateCap.power =
    { s.power with inForce := (leastCap s.caps (20000000, 0)).1, limiter := (leastCap s.caps (20000000, 0)).2 } ∧
    s.updateCap.lead.hub = s.lead.hub ∧ s.updateCap.boot = s.boot ∧ s.updateCap.now = s.now := by
  unfold Sys.updateCap
  dsimp only
  split
  next h =>
    simp only [Bool.and_eq_true, decide_eq_true_eq] at h
    rw [h.1, h.2]
    exact ⟨rfl, rfl, rfl, rfl, rfl⟩
  next =>
    generalize hu : ({ s with power := { s.power with
      inForce := (leastCap s.caps (20000000, 0)).1, limiter := (leastCap s.caps (20000000, 0)).2 } } : Sys) = u
    have hlog := (Sys.eventBoth_sameButLog (s := u) 5).trans (Sys.log_sameButLog 0x001F 0 0 0 0
      ((leastCap s.caps (20000000, 0)).1 + 2 ^ 32 * (leastCap s.caps (20000000, 0)).2))
    rw [hlog.sameRig.1, hlog.sameRig.2, hlog.lead, hlog.boot, hlog.now, ← hu]
    exact ⟨rfl, rfl, rfl, rfl, rfl⟩

end Caps

end Sys2Proof.Machine

/-! SUPPORT. Caps, the coolant sensor and Hold (R453–R455, R466–R472). -/

namespace Sys2Proof.Machine

section Pldm
variable {s : Sys}

/-- The budget manager's contact as a command of it leaves it (R455). -/
theorem Sys.contact_power : s.contact.power = { s.power with rackState := 1, lastContact := s.now } := rfl

/-- The terms of the cap in force are all in the power part. -/
theorem Sys.caps_congr {a b : Sys} {c l : Nat} (h : b.power = { a.power with inForce := c, limiter := l }) : b.caps = a.caps := by
  unfold Sys.caps
  rw [h]
  rfl

theorem Sys.updateCap_inForce : s.updateCap.power.inForce = (leastCap s.updateCap.caps (20000000, 0)).1 := by
  rw [Sys.caps_congr Sys.updateCap_rig.2.1, Sys.updateCap_rig.2.1]

theorem Sys.setPowerCap_taken {cap hb : Nat} (hcap : 6000 ≤ cap ∧ cap ≤ 20000) (hhb : 1 ≤ hb ∧ hb ≤ 60) :
    (s.setPowerCap cap hb).power.rackCap = cap ∧ (s.setPowerCap cap hb).power.heartbeatS = hb ∧
      (s.setPowerCap cap hb).power.rackState = 1 ∧ (s.setPowerCap cap hb).power.lastContact = s.now ∧
      ((s.setPowerCap cap hb).hub s.lead.hub).mctp = some (2 ^ 8 * (s.setPowerCap cap hb).power.inForce) := by
  unfold Sys.setPowerCap
  extract_lets u q v w
  rw [if_neg (by simp; omega)]
  obtain ⟨-, hpower, hhub, -, -⟩ := Sys.updateCap_rig (s := v)
  have hanswer : (w.mctpAnswer (2 ^ 8 * w.power.inForce)).power = w.power := rfl
  rw [hanswer]
  refine ⟨congrArg PanelPower.rackCap hpower, congrArg PanelPower.heartbeatS hpower, congrArg PanelPower.rackState hpower,
    congrArg PanelPower.lastContact hpower, ?_⟩
  rw [Sys.mctpAnswer, show w.lead.hub = s.lead.hub from hhub, Sys.modHub, Sys.hub_setHub_same]

theorem Sys.heartbeat_answer : s.heartbeat.power.rackState = 1 ∧ s.heartbeat.power.lastContact = s.now ∧
    (s.heartbeat.hub s.lead.hub).mctp = some 0 := by
  obtain ⟨-, hpower, hhub, -, -⟩ := Sys.updateCap_rig (s := s.contact)
  have hkeep : s.heartbeat.power = s.contact.updateCap.power := rfl
  rw [hkeep, hpower]
  refine ⟨rfl, rfl, ?_⟩
  rw [Sys.heartbeat, Sys.mctpAnswer, show s.contact.updateCap.lead.hub = s.lead.hub from hhub, Sys.modHub, Sys.hub_setHub_same]

theorem Sys.contactLost_due (hst : s.power.rackState = 1) (hlate : s.power.lastContact + 1000000000 * s.power.heartbeatS ≤ s.now) :
    s.contactLost = { s with power := { s.power with rackState := 2, lostAt := s.now } } :=
  if_pos (by simp [hst, hlate])

theorem Sys.contactLost_early (h : s.power.rackState ≠ 1 ∨ s.now < s.power.lastContact + 1000000000 * s.power.heartbeatS) :
    s.contactLost = s := by
  refine if_neg ?_
  simp only [Bool.and_eq_true, decide_eq_true_eq]
  omega

theorem Sys.safeCapEntry_due (hst : s.power.rackState = 2) (hlate : s.power.lostAt + 30000000000 ≤ s.now) :
    s.safeCapEntry.power.rackState = 3 ∧ s.safeCapEntry.power.rackCap = s.limit 0 4 12000 ∧
      s.safeCapEntry.power.inForce = (leastCap s.safeCapEntry.caps (20000000, 0)).1 := by
  have hrun : s.safeCapEntry =
      ({ s with power := { s.power with rackState := 3, rackCap := s.limit 0 4 12000 } } : Sys).updateCap :=
    if_pos (by simp [hst, hlate])
  rw [hrun, ← Sys.updateCap_inForce, Sys.updateCap_rig.2.1]
  exact ⟨rfl, rfl, rfl⟩

theorem Sys.safeCapEntry_early (h : s.power.rackState ≠ 2 ∨ s.now < s.power.lostAt + 30000000000) : s.safeCapEntry = s := by
  refine if_neg ?_
  simp only [Bool.and_eq_true, decide_eq_true_eq]
  omega

end Pldm

section Hold
variable {s : Sys}

/-- The cooling state changes with its event, and SLOW_FALL alone keeps a prediction (R467, R475). -/
theorem Sys.coolState_rig (n : Nat) : (s.coolState n).cool =
      { s.cool with state := n, predict := if s.cool.state = n then s.cool.predict else if n = 1 then s.cool.predict else none } ∧
    (s.coolState n).power = s.power ∧ (s.coolState n).lead.hub = s.lead.hub ∧ (s.coolState n).boot = s.boot ∧
    (s.coolState n).now = s.now := by
  unfold Sys.coolState
  split
  next h =>
    refine ⟨?_, rfl, rfl, rfl, rfl⟩
    cases hc : s.cool
    rw [hc] at h
    subst h
    rfl
  next h =>
    dsimp only
    have hevent (u : Sys) := Sys.eventBoth_sameButLog (s := u) 6
    rw [(hevent _).sameRig.1, (hevent _).sameRig.2, (hevent _).lead, (hevent _).boot, (hevent _).now]
    exact ⟨rfl, rfl, rfl, rfl, rfl⟩

/-- What entering Hold does to the cooling and to the power manager's ceilings (R471). -/
theorem Sys.enterHold_rig (cause : Nat) (hopen : (s.cool.hold.isSome || decide (s.cool.state = 4)) = false) :
    (s.enterHold cause).cool = { s.cool with
      hold := some { since := s.now, cause := cause }, state := 3, predict := if s.cool.state = 3 then s.cool.predict else none } ∧
    ∃ a b, (s.enterHold cause).power = { s.power with ceil := a, bubbled := b } := by
  unfold Sys.enterHold
  rw [if_neg (by rw [hopen]; decide)]
  extract_lets held u v live w limits x y
  obtain ⟨hcool, hpower, -⟩ := Sys.coolState_rig (s := u) 3
  have hv : Sys.SameRig (u.coolState 3) v := (Sys.log_sameButLog ..).sameRig
  have hw : Sys.SameRig v w := Sys.foldl_sameRig (fun _ _ => Sys.sendCeiling_sameRig ..) _ _
  have hy : Sys.SameRig x y := Sys.foldl_sameRig (fun _ _ => Sys.holdThermal_sameRig ..) _ _
  obtain ⟨hc, hp⟩ := hy.trans (Sys.foldl_sameRig (fun _ _ => Sys.settleHold_sameRig ..) live y)
  rw [hc, hp]
  refine ⟨?_, live.map (fun t => (t, 8)), [], ?_⟩
  · have hx : x.cool = w.cool := rfl
    rw [hx, hw.1, hv.1, hcool]
    rfl
  · have hx : x.power = { w.power with ceil := live.map (fun t => (t, 8)), bubbled := [] } := rfl
    rw [hx, hw.2, hv.2, hpower]

theorem Sys.enterHold_shut (cause : Nat) (hshut : (s.cool.hold.isSome || decide (s.cool.state = 4)) = true) :
    s.enterHold cause = s := if_pos hshut

theorem Sys.enterHold_some (cause : Nat) : (∃ a b c, (s.enterHold cause).cool = { s.cool with hold := a, state := b, predict := c }) ∧
    (s.enterHold cause).power.coolCap = s.power.coolCap := by
  cases h : s.cool.hold.isSome || decide (s.cool.state = 4) with
  | false =>
    obtain ⟨hcool, a, b, hpower⟩ := Sys.enterHold_rig cause h
    exact ⟨⟨_, _, _, hcool⟩, by rw [hpower]⟩
  | true =>
    rw [Sys.enterHold_shut cause h]
    exact ⟨⟨_, _, _, rfl⟩, rfl⟩

end Hold

theorem Sys.SameButLog.leadHub {a b : Sys} (h : Sys.SameButLog a b) : b.lead.hub = a.lead.hub := by rw [h.lead]

theorem Sys.nominalFlow_congr {a b : Sys} (hboot : b.boot = a.boot) (hhub : b.lead.hub = a.lead.hub) :
    b.nominalFlow = a.nominalFlow := by
  unfold Sys.nominalFlow Sys.limit Sys.confRec
  rw [hboot, hhub]

section Coolant
variable {s : Sys} {inlet outlet flow status seq : Nat}

/-- The cooling cap is a term of the cap in force and no part of the cooling (R467). -/
theorem Sys.coolingCap_rig : (s.coolingCap flow inlet).cool = s.cool ∧ (s.coolingCap flow inlet).now = s.now ∧
    (s.flowGood flow = true → signedOf 16 inlet ≤ 4000 → (s.coolingCap flow inlet).power.coolCap = 20000) := by
  unfold Sys.coolingCap
  extract_lets nom byFlow temp byInlet limits u
  obtain ⟨hcool, hpower, -, -, hnow⟩ := Sys.updateCap_rig (s := u)
  refine ⟨hcool, hnow, fun hgood hinlet => ?_⟩
  have hflow : byFlow = 20000 := if_pos (of_decide_eq_true hgood)
  have hcold : byInlet = 20000 := if_neg (Int.not_lt.mpr hinlet)
  have hcap : u.power.coolCap = min byFlow byInlet := rfl
  rw [hpower]
  exact hcap.trans (by rw [hflow, hcold]; rfl)

/-- The third failed read in a row sets SENSOR_LOST (R466, R467). -/
theorem Sys.coolantFailed_cool : s.coolantFailed.cool.fails = s.cool.fails + 1 ∧
    (2 ≤ s.cool.fails → s.cool.state < 3 → s.coolantFailed.cool.state = 2) := by
  unfold Sys.coolantFailed
  extract_lets fails before u after v w
  have hu : u.cool.fails = s.cool.fails + 1 := rfl
  split
  next hfew => exact ⟨hu, fun htwo => absurd hfew (by omega)⟩
  next =>
    rw [Sys.coolingCap_rig.1]
    have hv : v.cool.fails = s.cool.fails + 1 ∧ v.cool.state = s.cool.state := ⟨rfl, rfl⟩
    clear_value v
    unfold w
    split
    next =>
      rw [(Sys.coolState_rig 2).1]
      exact ⟨hv.1, fun _ _ => rfl⟩
    next hhigh => exact ⟨hv.1, fun _ hlow => absurd (hv.2 ▸ hlow) hhigh⟩

/-- A time since which something holds. -/
def sinceWhen (now : Nat) (o : Option Nat) (b : Bool) : Option Nat := if b then some (o.getD now) else none

/-- The cooling as a good sample leaves it, but for its state and a prediction (R466–R468, R472). -/
def Sys.sampledCool (s : Sys) (inlet outlet flow status seq : Nat) : Cooling :=
  { s.cool with
    inlet := inlet, outlet := outlet, flow := flow, status := status, seq := some seq, good := true, fails := 0
    flows := ringPush 3 s.cool.flows flow, cold := decide (signedOf 16 inlet < 1500)
    pump := bitOf status 0 || decide (s.cool.pumpLow ≥ 3)
    heats := ringPush 100 s.cool.heats ((flow : Int) * (signedOf 16 outlet - signedOf 16 inlet))
    fedW := ringPush 100 s.cool.fedW (s.panelMw / 1000)
    coolSince := sinceWhen s.now s.cool.coolSince (s.flowGood flow && decide (signedOf 16 inlet ≤ 4000))
    hold := s.cool.hold.map (fun h => { h with goodSince := sinceWhen s.now h.goodSince (s.flowGood flow) }) }

/-- A good sample as it is put down: the log entry of cold coolant, then the state, which below Hold follows the flow. -/
def Sys.coolantRead (s : Sys) (inlet outlet flow status seq : Nat) : Sys :=
  let w : Sys := { s with cool := s.sampledCool inlet outlet flow status seq }
  let x := if decide (signedOf 16 inlet < 1500) && !s.cool.cold then w.log 0x0014 0 0 0 0 0 else w
  if x.cool.state < 3 then x.coolState (if s.flowGood flow then 0 else 1) else x

theorem Sys.coolantRead_rig : (∃ p, (s.coolantRead inlet outlet flow status seq).cool =
      { s.sampledCool inlet outlet flow status seq with
        state := if s.cool.state < 3 then (if s.flowGood flow then 0 else 1) else s.cool.state, predict := p }) ∧
    (s.coolantRead inlet outlet flow status seq).now = s.now ∧ (s.coolantRead inlet outlet flow status seq).boot = s.boot ∧
    (s.coolantRead inlet outlet flow status seq).lead.hub = s.lead.hub := by
  unfold Sys.coolantRead
  extract_lets w x
  have hx : Sys.SameButLog w x := by
    unfold x
    split
    · exact Sys.log_sameButLog ..
    · exact .refl
  have hxcool : x.cool = s.sampledCool inlet outlet flow status seq := hx.sameRig.1
  have hlow : x.cool.state = s.cool.state := by rw [hxcool]; rfl
  have hxnow : x.now = s.now := hx.now
  have hxboot : x.boot = s.boot := hx.boot
  have hxhub : x.lead.hub = s.lead.hub := hx.leadHub
  clear_value x
  rw [hlow]
  split
  · obtain ⟨hcool, -, hhub, hboot, hnow⟩ := Sys.coolState_rig (s := x) (if s.flowGood flow then 0 else 1)
    exact ⟨⟨_, hcool.trans (by rw [hxcool])⟩, hnow.trans hxnow, hboot.trans hxboot, hhub.trans hxhub⟩
  · exact ⟨⟨x.cool.predict, by rw [hxcool]; rfl⟩, hxnow, hxboot, hxhub⟩

/-- The flow has fallen by more than 9 % of nominal over three samples (R471). -/
def flowFell (flows : List Nat) (nominal : Nat) : Bool :=
  match flows with
  | [a, _, b] => decide (100 * (a - b) > 9 * nominal)
  | _ => false

/-- A good sample: the state, then the cap, then what a low or falling flow brings (R467, R471). -/
theorem Sys.coolantSample_good (hstatus : bitOf status 1 = false) (hseq : s.cool.seq ≠ some seq) :
    let z := (s.coolantRead inlet outlet flow status seq).coolingCap flow inlet
    s.coolantSample true inlet outlet flow status seq = if 5 * flow < z.nominalFlow then z.enterHold 0
        else if flowFell (ringPush 3 s.cool.flows flow) z.nominalFlow then z.enterHold 1
        else if bitOf status 0 then z.enterHold 2 else z := by
  refine (if_neg ?_).trans ?_
  · simp [hstatus, hseq]
  · rfl

theorem Sys.coolantCapped_rig :
    let z := (s.coolantRead inlet outlet flow status seq).coolingCap flow inlet
    (∃ p, z.cool = { s.sampledCool inlet outlet flow status seq with
        state := if s.cool.state < 3 then (if s.flowGood flow then 0 else 1) else s.cool.state, predict := p }) ∧
      z.now = s.now ∧ z.nominalFlow = s.nominalFlow ∧
      (s.flowGood flow = true → signedOf 16 inlet ≤ 4000 → z.power.coolCap = 20000) := by
  obtain ⟨⟨p, hcool⟩, hnow, hboot, hhub⟩ := Sys.coolantRead_rig (s := s) (inlet := inlet) (outlet := outlet) (flow := flow)
    (status := status) (seq := seq)
  generalize s.coolantRead inlet outlet flow status seq = y at hcool hnow hboot hhub ⊢
  obtain ⟨hzcool, hznow, hzcap⟩ := Sys.coolingCap_rig (s := y) (flow := flow) (inlet := inlet)
  have hgood : y.flowGood flow = s.flowGood flow := by rw [Sys.flowGood, Sys.flowGood, Sys.nominalFlow_congr hboot hhub]
  refine ⟨⟨p, hzcool.trans hcool⟩, hznow.trans hnow, ?_, hgood ▸ hzcap⟩
  exact Sys.nominalFlow_congr (Sys.updateCap_rig.2.2.2.1.trans hboot) (Sys.updateCap_rig.2.2.1.trans hhub)

variable (hstatus : bitOf status 1 = false) (hseq : s.cool.seq ≠ some seq)
include hstatus hseq

/-- What of a good sample no state and no Hold changes. -/
theorem Sys.coolantSample_read :
    let z := s.coolantSample true inlet outlet flow status seq
    z.cool.inlet = inlet ∧ z.cool.outlet = outlet ∧ z.cool.flow = flow ∧ z.cool.fails = 0 ∧ z.cool.seq = some seq ∧
      (s.flowGood flow = true → signedOf 16 inlet ≤ 4000 → z.power.coolCap = 20000) := by
  obtain ⟨⟨p, hcool⟩, -, -, hcap⟩ := Sys.coolantCapped_rig (s := s) (inlet := inlet) (outlet := outlet) (flow := flow)
    (status := status) (seq := seq)
  have hrun := Sys.coolantSample_good (inlet := inlet) (outlet := outlet) (flow := flow) hstatus hseq
  dsimp only at hrun ⊢
  rw [hrun]
  generalize (s.coolantRead inlet outlet flow status seq).coolingCap flow inlet = z at hcool hcap ⊢
  have hafter : ∀ r : Sys, (r = z ∨ ∃ k, r = z.enterHold k) → r.cool.inlet = inlet ∧ r.cool.outlet = outlet ∧
      r.cool.flow = flow ∧ r.cool.fails = 0 ∧ r.cool.seq = some seq ∧
      (s.flowGood flow = true → signedOf 16 inlet ≤ 4000 → r.power.coolCap = 20000) := by
    rintro r (rfl | ⟨k, rfl⟩)
    · rw [hcool]
      exact ⟨rfl, rfl, rfl, rfl, rfl, hcap⟩
    · obtain ⟨⟨a, b, c, hheld⟩, hsame⟩ := Sys.enterHold_some (s := z) k
      rw [hheld, hsame, hcool]
      exact ⟨rfl, rfl, rfl, rfl, rfl, hcap⟩
  refine hafter _ ?_
  split
  · exact .inr ⟨0, rfl⟩
  split
  · exact .inr ⟨1, rfl⟩
  split
  · exact .inr ⟨2, rfl⟩
  · exact .inl rfl

/-- A flow below a fifth of nominal is a sudden stop (R471). -/
theorem Sys.coolantSample_stop (hlow : 5 * flow < s.nominalFlow) (hhold : s.cool.hold = none) (hst : s.cool.state < 3) :
    let z := s.coolantSample true inlet outlet flow status seq
    z.cool.state = 3 ∧ z.cool.hold = some { since := s.now, cause := 0 } := by
  obtain ⟨⟨p, hcool⟩, hnow, hnominal, -⟩ := Sys.coolantCapped_rig (s := s) (inlet := inlet) (outlet := outlet) (flow := flow)
    (status := status) (seq := seq)
  have hrun := Sys.coolantSample_good (inlet := inlet) (outlet := outlet) (flow := flow) hstatus hseq
  dsimp only at hrun ⊢
  rw [hrun]
  generalize (s.coolantRead inlet outlet flow status seq).coolingCap flow inlet = z at hcool hnow hnominal ⊢
  have hzhold : z.cool.hold = none := by
    rw [hcool]
    exact congrArg (Option.map _) hhold
  have hzstate : z.cool.state < 3 := by
    rw [hcool]
    dsimp only
    rw [if_pos hst]
    split <;> decide
  have hopen : (z.cool.hold.isSome || decide (z.cool.state = 4)) = false := by
    rw [hzhold]
    simp
    omega
  rw [hnominal, if_pos hlow, (Sys.enterHold_rig 0 hopen).1, hnow]
  exact ⟨rfl, rfl⟩

/-- A steady flow of a fifth of nominal or more sets the state below Hold and whether Hold may end (R467, R472). -/
theorem Sys.coolantSample_steady (hflow : s.nominalFlow ≤ 5 * flow) (hpump : bitOf status 0 = false) (hfirst : s.cool.flows = [])
    (hst : s.cool.state < 3) :
    let z := s.coolantSample true inlet outlet flow status seq
    z.cool.state = (if s.flowGood flow then 0 else 1) ∧
      z.cool.hold = s.cool.hold.map (fun h => { h with goodSince := sinceWhen s.now h.goodSince (s.flowGood flow) }) := by
  obtain ⟨⟨p, hcool⟩, hnow, hnominal, -⟩ := Sys.coolantCapped_rig (s := s) (inlet := inlet) (outlet := outlet) (flow := flow)
    (status := status) (seq := seq)
  have hrun := Sys.coolantSample_good (inlet := inlet) (outlet := outlet) (flow := flow) hstatus hseq
  dsimp only at hrun ⊢
  rw [hrun]
  generalize (s.coolantRead inlet outlet flow status seq).coolingCap flow inlet = z at hcool hnow hnominal ⊢
  rw [hnominal, if_neg (Nat.not_lt.mpr hflow), hfirst, if_neg (by simp [flowFell, ringPush]), hpump, if_neg (by decide), hcool]
  exact ⟨if_pos hst, rfl⟩

end Coolant

end Sys2Proof.Machine

/-! SUPPORT. Tile temperatures, the end of Hold, cooling power-down and return (R466–R472). -/

namespace Sys2Proof.Machine

section Sensors
variable {s : Sys}

theorem Sys.pumpFaultN_high : s.pumpFaultN true = { s with cool := { s.cool with pumpLow := 0, pump := bitOf s.cool.status 0 } } := by
  unfold Sys.pumpFaultN
  dsimp only
  rw [if_pos rfl, if_neg (by decide)]
  simp

theorem Sys.pumpFaultN_third (hlow : 2 ≤ s.cool.pumpLow) (hhold : s.cool.hold = none) (hst : s.cool.state < 3) :
    (s.pumpFaultN false).cool.state = 3 ∧ (s.pumpFaultN false).cool.hold = some { since := s.now, cause := 2 } ∧
      (s.pumpFaultN false).cool.pump = true := by
  unfold Sys.pumpFaultN
  extract_lets c low u
  have hthree : low ≥ 3 := Nat.succ_le_succ hlow
  have hopen : (u.cool.hold.isSome || decide (u.cool.state = 4)) = false := by
    rw [show u.cool.hold = none from hhold, show u.cool.state = s.cool.state from rfl]
    simp
    omega
  rw [if_pos hthree, (Sys.enterHold_rig 2 hopen).1]
  refine ⟨rfl, rfl, ?_⟩
  have hpump : u.cool.pump = (bitOf c.status 0 || decide (low ≥ 3)) := rfl
  exact hpump.trans (by rw [decide_eq_true hthree, Bool.or_true])

theorem Sys.slowFallAlert_fallen {rise : Int} (hst : s.cool.state = 1) : (s.slowFallAlert rise).cool.predict =
    if 0 < rise then some ((840 - s.hottest).toNat * 125 * 1000 / rise.toNat) else none := by
  unfold Sys.slowFallAlert
  rw [if_neg (by rw [hst]; decide), (Sys.log_sameButLog ..).sameRig.1]

theorem Sys.heatBalance_rig (hheats : s.cool.heats ≠ []) :
    let n := s.cool.heats.length
    let q : Int := s.cool.heats.foldl (· + ·) 0 * (s.limit 8 2 1020 : Nat) * (s.limit 10 2 3900 : Nat) / (600000000 * (n : Int))
    let fed := s.cool.fedW.foldl (· + ·) 0 / n
    let off : Prop := 2000 ≤ fed ∧ 15 * fed < 100 * (q - (fed : Int)).natAbs
    s.heatBalance.cool.heat = q.toNat ∧ (off → s.heatBalance.cool.unequal = s.cool.unequal + 1) ∧
      (¬ off → s.heatBalance.cool.unequal = 0) := by
  intro n q fed off
  unfold Sys.heatBalance
  extract_lets c m q' p off' run u
  have hn : m ≠ 0 := fun h => hheats (List.length_eq_zero_iff.mp h)
  have hcast (k : Nat) : (2000 : Int) ≤ (k : Int) ↔ 2000 ≤ k := by omega
  have hoff : off' = decide off := by
    unfold off' off p q'
    rw [Int.toNat_natCast]
    simp only [Bool.decide_and, ge_iff_le, gt_iff_lt, hcast]
    rfl
  have hresult : ∀ r : Sys, r.cool = u.cool → r.cool.heat = q.toNat ∧ (off → r.cool.unequal = s.cool.unequal + 1) ∧
      (¬ off → r.cool.unequal = 0) := by
    intro r hr
    have hrun : r.cool.unequal = if off' then s.cool.unequal + 1 else 0 := by rw [hr]
    refine ⟨by rw [hr], fun h => ?_, fun h => ?_⟩
    · rw [hrun, hoff, if_pos (decide_eq_true h)]
    · rw [hrun, hoff, if_neg (by simpa using h)]
  rw [if_neg hn]
  refine hresult _ ?_
  split
  · exact (Sys.log_sameButLog ..).sameRig.1
  · rfl

end Sensors

section Temperature
variable {x : TX} {temps : List Nat} {rise : Int}

theorem Tile.temp_congr {a b : Tile} (h : b.pwr.temps = a.pwr.temps) : b.temp = a.temp := by
  rw [Tile.temp, h, Tile.temp]

/-- A sample of a tile's sensors: the codes, the rise, how long it is hot, and the limit (R469). -/
theorem TX.tempSample_pwr : ∃ lim,
    (x.tempSample temps rise).tile.pwr = { x.tile.pwr with
      temps := (List.range 8).map (fun i => (i, temps.getD i 0 % 4096)), rising := decide (rise > 8)
      hotSince := if (x.tempSample temps rise).tile.temp ≥ 840 then some (x.tile.pwr.hotSince.getD x.now) else none
      tempLimit := lim } ∧
    (∀ h, 840 ≤ (x.tempSample temps rise).tile.temp → x.tile.pwr.hotSince = some h → h + 100000000 ≤ x.now → lim = true) ∧
    ((x.tempSample temps rise).tile.temp ≤ 760 → lim = false) := by
  unfold TX.tempSample
  extract_lets p0 p tile c hot rising x1 x2 long
  have h2 : x2.tile.pwr = { p with hotSince := hot, rising := rising } := by
    unfold x2
    split <;> rfl
  have hc (y : TX) (h : y.tile.pwr.temps = p.temps) : y.tile.temp = c := Tile.temp_congr h
  have hlong (h : Nat) (hhot : 840 ≤ c) (hsince : x.tile.pwr.hotSince = some h) (hlate : h + 100000000 ≤ x.now) : long = true := by
    have hh : hot = some h := (if_pos hhot).trans (by rw [show p.hotSince = _ from hsince]; rfl)
    clear_value hot
    subst hh
    exact decide_eq_true hlate
  have hshort (hcold : c ≤ 760) : long = false := by
    have hh : hot = none := if_neg (by omega)
    clear_value hot
    subst hh
    rfl
  have hresult (y : TX) (lim : Bool) (hy : y.tile.pwr = { p with hotSince := hot, rising := rising, tempLimit := lim })
      (hhot : 840 ≤ c → long = true → lim = true) (hcold : c ≤ 760 → lim = false) : ∃ lim,
      y.tile.pwr = { x.tile.pwr with
        temps := (List.range 8).map (fun i => (i, temps.getD i 0 % 4096)), rising := decide (rise > 8)
        hotSince := if y.tile.temp ≥ 840 then some (x.tile.pwr.hotSince.getD x.now) else none, tempLimit := lim } ∧
      (∀ h, 840 ≤ y.tile.temp → x.tile.pwr.hotSince = some h → h + 100000000 ≤ x.now → lim = true) ∧
      (y.tile.temp ≤ 760 → lim = false) := by
    have htemp : y.tile.temp = c := hc y (by rw [hy])
    rw [htemp]
    exact ⟨lim, hy, fun h hh hsince hlate => hhot hh (hlong h hh hsince hlate), hcold⟩
  have hp : p0.tempLimit = x.tile.pwr.tempLimit := rfl
  split
  next hset =>
    refine hresult _ true ?_ (fun _ _ => rfl) fun hcold => ?_
    · change { x2.tile.pwr with tempLimit := true } = _
      rw [h2]
    · rw [hshort hcold] at hset
      exact absurd hset (by simp)
  next hset =>
    split
    next hdrop =>
      refine hresult _ false ?_ (fun hh _ => ?_) fun _ => rfl
      · change { x2.tile.pwr with tempLimit := false } = _
        rw [h2]
      · simp only [Bool.and_eq_true, decide_eq_true_eq] at hdrop
        omega
    next hkeep =>
      refine hresult _ p.tempLimit h2 (fun _ hl => ?_) fun hcold => ?_
      · simpa [hl] using hset
      · simpa [hcold] using hkeep

end Temperature

section HoldEnd
variable {s : Sys} {h : Hold}

theorem Sys.holdRestore_waits (hh : s.cool.hold = some h) (hwait : ∀ g, h.goodSince = some g → s.now < g + 2000000000) :
    s.holdRestore = s := by
  unfold Sys.holdRestore
  rw [hh]
  dsimp only
  cases hg : h.goodSince with
  | none => rfl
  | some g =>
    refine if_pos ?_
    simp [hwait g hg]

/-- Hold ends once the flow has been good for 2 s and no tile is above 95 °C (R472). -/
theorem Sys.holdRestore_ends {g : Nat} (hh : s.cool.hold = some h) (hg : h.goodSince = some g) (hlate : g + 2000000000 ≤ s.now)
    (hcold : s.hottest ≤ 760) :
    s.holdRestore.cool.hold = none ∧ s.holdRestore.cool.state = (if s.flowGood s.cool.flow then 0 else 1) := by
  generalize hst : (if s.flowGood s.cool.flow then 0 else 1) = st
  unfold Sys.holdRestore
  rw [hh]
  extract_lets before u v w order x
  dsimp -zeta only
  extract_lets long
  have hlong : long = true := by
    unfold long
    rw [hg]
    exact decide_eq_true hlate
  rw [if_neg (by rw [hlong]; simpa using hcold)]
  obtain ⟨hv, -⟩ := Sys.coolState_rig (s := u) (if u.flowGood u.cool.flow then 0 else 1)
  have hw : Sys.SameCool v w := by
    refine Sys.foldl_sameCool (fun _ _ => ?_) _ _
    rfl
  have hx : Sys.SameCool w x := by
    refine List.foldlRecOn (motive := fun a : List Nat × Sys => Sys.SameCool w a.2) _ _ rfl fun a ha n _ => ?_
    split
    · exact ha
    · exact ha.trans (Sys.regrant_sameCool _)
  have hgood : u.flowGood u.cool.flow = s.flowGood s.cool.flow := by
    have hnominal : u.nominalFlow = s.nominalFlow := Sys.nominalFlow_congr rfl rfl
    have hflow : u.cool.flow = s.cool.flow := rfl
    rw [Sys.flowGood, hnominal, hflow, Sys.flowGood]
  have hhold : v.cool.hold = none := congrArg Cooling.hold hv
  have hstate : v.cool.state = st := by
    rw [← hst, ← hgood]
    exact congrArg Cooling.state hv
  have hlast := hw.trans (hx.trans (Sys.foldl_sameCool (f := fun (s : Sys) n => s.thawThermal n)
    (fun _ n => Sys.thawThermal_sameCool n) order x))
  clear_value v
  rw [hlast]
  exact ⟨hhold, hstate⟩

theorem Sys.coolingPowerRestore_waits {since : Nat} (hsince : s.cool.coolSince = some since)
    (h : s.cool.state ≠ 4 ∨ s.now < since + 10000000000) : s.coolingPowerRestore = s := by
  unfold Sys.coolingPowerRestore
  rw [hsince]
  refine if_neg ?_
  simp only [Bool.and_eq_true, decide_eq_true_eq]
  omega

/-- The regions power up again once the flow has been good for 10 s (R472). -/
theorem Sys.coolingPowerRestore_starts {since : Nat} (hsince : s.cool.coolSince = some since) (hst : s.cool.state = 4)
    (hlate : since + 10000000000 ≤ s.now) :
    s.coolingPowerRestore.cool.state = 0 ∧ (s.coolingPowerRestore.bootHub s.lead.hub).step = 5 ∧
      s.coolingPowerRestore.boot.partial_ = true ∧
      s.coolingPowerRestore.power.upQueue = (List.range 16).filter (fun d => (NMap.get {} s.power.domains d).state = 0) := by
  unfold Sys.coolingPowerRestore
  rw [hsince]
  dsimp -zeta only
  rw [if_pos (by simp [hst, hlate])]
  extract_lets u todo limits v
  obtain ⟨hcool, hpower, hhub, -, -⟩ := Sys.coolState_rig (s := s) 0
  have hv : v.lead.hub = s.lead.hub := hhub
  have htodo : todo = (List.range 16).filter (fun d => (NMap.get {} s.power.domains d).state = 0) := by
    unfold todo u
    rw [hpower]
  have hstep : ((v.modBootHub v.lead.hub (fun b => { b with step := 5 })).bootHub s.lead.hub).step = 5 := by
    rw [hv]
    exact congrArg BootHub.step (NMap.get_put_same ..)
  exact ⟨congrArg Cooling.state hcool, hstep, rfl, htodo⟩

end HoldEnd

section Blind
variable {β : Type} {g : Sys → β} {s : Sys}

/-- A part of the panel in which neither the routers, the links, the tadpole routers nor the tiles' registers show. -/
structure Sys.NetBlind (g : Sys → β) : Prop where
  tad : ∀ s n v, g (Sys.setTad s n v) = g s
  router : ∀ s n v, g (Sys.setRouter s n v) = g s
  link : ∀ s n p v, g (Sys.setLink s n p v) = g s
  regs : ∀ s t r, g (Sys.setTile s t { Sys.tile s t with regs := r }) = g s

theorem Sys.foldl_blind {α : Type} {f : Sys → α → Sys} (hf : ∀ s a, g (f s a) = g s) (l : List α) (s : Sys) :
    g (l.foldl f s) = g s :=
  List.foldlRecOn l f (motive := fun u => g u = g s) rfl fun u hu a _ => (hf u a).trans hu

variable (hg : Sys.NetBlind g)
include hg

theorem Sys.queueNotice_blind (n : Nat) (u : Bool) (code payload : Nat) : g (s.queueNotice n u code payload) = g s := by
  unfold Sys.queueNotice
  extract_lets r v m
  split
  · have hv : g v = g s := hg.tad ..
    split
    · exact (hg.regs ..).trans hv
    · exact hv
  · exact hg.tad ..

theorem Sys.discard_blind (n : Nat) (p : Packet) (cause : Nat) : g (s.discard n p cause) = g s := by
  have hbump (lo hi : Nat) : g (s.bumpTile n 0x60C4 hi lo 1) = g s := by
    unfold Sys.bumpTile
    split
    · exact hg.regs ..
    · rfl
  unfold Sys.discard
  extract_lets u
  have hu : g u = g s := by
    unfold u
    split
    · exact hbump ..
    split
    · exact hbump ..
    split
    · exact hbump ..
    · exact hbump ..
  exact (Sys.queueNotice_blind hg ..).trans hu

theorem Sys.linkEndFails_blind (n p : Nat) : g (s.linkEndFails n p) = g s := by
  unfold Sys.linkEndFails
  extract_lets r q lost open_ u v w
  split
  · rfl
  have hv : g v = g s := (Sys.foldl_blind (fun _ _ => Sys.discard_blind hg ..) _ _).trans (hg.router ..)
  have hw : g w = g s := by
    refine (Sys.foldl_blind (fun _ _ => Sys.foldl_blind (fun x c => ?_) _ _) _ _).trans hv
    dsimp only
    split
    · rfl
    · exact (Sys.foldl_blind (fun _ _ => Sys.discard_blind hg ..) _ _).trans (hg.router ..)
  split
  · split
    · exact (Sys.queueNotice_blind hg ..).trans ((hg.link ..).trans hw)
    · exact (Sys.queueNotice_blind hg ..).trans ((hg.link ..).trans hw)
  · exact hw

theorem Sys.linkFail_blind (n p : Nat) : g (s.linkFail n p) = g s := by
  unfold Sys.linkFail
  split
  · rfl
  · exact (Sys.linkEndFails_blind hg ..).trans (Sys.linkEndFails_blind hg ..)

theorem Sys.killRouter_blind (n : Nat) : g (s.killRouter n) = g s := by
  unfold Sys.killRouter
  refine (Sys.foldl_blind (fun _ _ => ?_) _ _).trans (hg.router ..)
  split
  · split
    · exact Sys.linkEndFails_blind hg ..
    · rfl
  · rfl

end Blind

section Rails
variable {s : Sys}

theorem Sys.rails_blind : Sys.NetBlind (fun s => fun t => (Sys.tile s t).pwr) where
  tad _ _ _ := rfl
  router _ _ _ := rfl
  link _ _ _ _ := rfl
  regs s t r := by
    funext i
    by_cases hi : i = t
    · subst hi
      rw [Sys.tile_setTile_same]
    · rw [Sys.tile_setTile_other _ _ _ _ hi]

theorem Sys.rig_blind : Sys.NetBlind (fun s => (Sys.cool s, Sys.power s)) :=
  ⟨fun _ _ _ => rfl, fun _ _ _ => rfl, fun _ _ _ _ => rfl, fun _ _ _ => rfl⟩

/-- A tile that goes cold has its rails down, and no other tile's rails change (R472). -/
theorem Sys.coldTile_rails (t i : Nat) : ((s.coldTile t).tile i).pwr.on = (if i = t then false else (s.tile i).pwr.on) := by
  unfold Sys.coldTile Sys.railsOff
  extract_lets x u
  have hkill : ((u.killRouter t).tile i).pwr = (u.tile i).pwr := congrFun (Sys.killRouter_blind (s := u) Sys.rails_blind t) i
  rw [Sys.tile_setTad, hkill]
  unfold u
  split
  next h =>
    rw [h, Sys.modTile, Sys.tile_setTile_same]
  next h => rw [Sys.modTile, Sys.tile_setTile_other _ _ _ _ h, Sys.tile_setTile_other _ _ _ _ h]

theorem Sys.coldTile_sameRig (t : Nat) : Sys.SameRig s (s.coldTile t) := by
  have hkill := fun u : Sys => Sys.killRouter_blind (s := u) Sys.rig_blind t
  unfold Sys.coldTile Sys.railsOff
  extract_lets x u
  exact ⟨congrArg Prod.fst (hkill u), congrArg Prod.snd (hkill u)⟩

theorem Sys.modLead_rig (f : Lead → Lead) : Sys.SameRig s (s.modLead f) ∧ (s.modLead f).tiles = s.tiles := ⟨⟨rfl, rfl⟩, rfl⟩

theorem Sys.modHubs_rig (l : List Nat) (f : Hub → Hub) : Sys.SameRig s (l.foldl (fun (s : Sys) k => s.modHub k f) s) ∧
    (l.foldl (fun (s : Sys) k => s.modHub k f) s).tiles = s.tiles :=
  List.foldlRecOn (motive := fun u : Sys => Sys.SameRig s u ∧ u.tiles = s.tiles) l _ ⟨.refl, rfl⟩ fun _ hu _ _ => hu

/-- Every tile goes cold, and nothing of the cooling or the power follows (R472). -/
theorem Sys.coldTiles_rails (l : List Nat) (s : Sys) : Sys.SameRig s (l.foldl (fun s t => s.coldTile t) s) ∧
    ∀ t ∈ l, ((l.foldl (fun s t => s.coldTile t) s).tile t).pwr.on = false := by
  refine ⟨Sys.foldl_sameRig (fun _ _ => Sys.coldTile_sameRig _) l s, ?_⟩
  refine foldl_establishes (f := fun (s : Sys) t => s.coldTile t) (P := fun i (u : Sys) => (u.tile i).pwr.on = false)
    (fun u i => ?_) (fun u i j hj => ?_) l s
  · rw [Sys.coldTile_rails, if_pos rfl]
  · rw [Sys.coldTile_rails, hj, ite_self]

/-- A region that powers down with the panel's cooling reads as off (R472). -/
theorem domains_off {m : NMap Domain} {d : Nat} (hd : d < 16) (hst : (NMap.get {} m d).state ≠ 3) :
    (NMap.get {} (m.map (fun d => if d.1 < 16 && d.2.state ≠ 3 then (d.1, { d.2 with state := 0 }) else d)) d).state = 0 := by
  induction m with
  | nil => rfl
  | cons e m ih =>
    obtain ⟨i, v⟩ := e
    by_cases hi : i = d
    · subst hi
      have hv : v.state ≠ 3 := by simpa [NMap.get] using hst
      simp [NMap.get, hd, hv]
    · have hrest : (NMap.get {} m d).state ≠ 3 := by simpa [NMap.get, hi] using hst
      refine (congrArg Domain.state ?_).trans (ih hrest)
      rw [List.map_cons]
      split <;> exact if_neg hi

theorem Sys.coolingPowerDown_due {h : Hold} {t : Nat} (hh : s.cool.hold = some h) (ht : t < 256)
    (hdue : (h.since + 5000000000 ≤ s.now ∧ h.goodSince = none) ∨ 840 < s.hottest) :
    s.coolingPowerDown.cool.hold = none ∧ s.coolingPowerDown.cool.state = 4 ∧ (s.coolingPowerDown.tile t).pwr.on = false ∧
      ∀ d, d < 16 → (NMap.get {} s.power.domains d).state ≠ 3 →
        (NMap.get {} s.coolingPowerDown.power.domains d).state = 0 := by
  have hmem : t ∈ List.range 256 := List.mem_range.mpr ht
  unfold Sys.coolingPowerDown
  generalize List.range 256 = all at hmem ⊢
  rw [hh]
  extract_lets u v before w x limits y z l
  dsimp -zeta only
  rw [if_pos ?_]
  · have hv : Sys.SameRig s v :=
      (Sys.log_sameButLog 0x0017 3 0 0 0 0).sameRig.trans (Sys.foldl_sameRig (fun _ _ => Sys.failJob_sameRig _ _ _) _ _)
    obtain ⟨hcool, hpower, -⟩ := Sys.coolState_rig (s := w) 4
    have hxc : x.cool.hold = none ∧ x.cool.state = 4 := ⟨congrArg Cooling.hold hcool, congrArg Cooling.state hcool⟩
    have hxp : x.power = s.power := hpower.trans hv.2
    clear_value x
    have hyc : y.cool = x.cool := rfl
    have hyp : y.power.domains = x.power.domains.map (fun d => if d.1 < 16 && d.2.state ≠ 3 then (d.1, { d.2 with state := 0 }) else d) := rfl
    clear_value y
    obtain ⟨hz, hoff⟩ : Sys.SameRig y z ∧ ∀ t ∈ all, (z.tile t).pwr.on = false := Sys.coldTiles_rails all y
    clear_value z
    obtain ⟨hlrig, hltile⟩ : Sys.SameRig z l ∧ l.tiles = z.tiles := Sys.modLead_rig ..
    clear_value l
    have hend := fun f : Hub → Hub => Sys.modHubs_rig (s := l) [0, 1] f
    have hlc : l.cool = x.cool := hlrig.1.trans (hz.1.trans hyc)
    have hlp : l.power = y.power := hlrig.2.trans hz.2
    rw [(hend _).1.1, (hend _).1.2, Sys.tile, (hend _).2, hlc, hlp, hltile]
    refine ⟨hxc.1, hxc.2, hoff t hmem, fun d hd hst => ?_⟩
    rw [hyp, hxp]
    exact domains_off hd hst
  · rcases hdue with ⟨hlate, hnone⟩ | hhot
    · simp [hlate, hnone]
    · simp [hhot]

end Rails

end Sys2Proof.Machine

/-! SUPPORT. The rows of the rack budget manager and of cooling, and O58. -/

namespace Sys2Proof.Machine

section Rows
variable {s : State} {t : Nat}

/-- A command of a tile whose rails are up is what the tile does, put back into the panel. -/
theorem State.exec_powered {i : Instr} {f : TX → TX} (hi : exec i s = s.act i.wf (fun y => y.onPowered t f)) (hwf : i.wf = true)
    (ht : t < 256) (hon : (s.sys.tile t).pwr.on = true) : exec i s = .next (s.tileDid t (f (s.sys.tx t))) := by
  rw [hi, hwf, State.act_true, Sys.onPowered, if_pos hon, Sys.onTile, if_pos ht]
  rfl

/-- A temperature sample as the tile holds it (R469). -/
theorem State.tempSampled {temps : List Nat} {rise : Int} (ht : t < 256) (hon : (s.sys.tile t).pwr.on = true)
    (hwf : (Instr.tileTempSample t temps rise).wf = true) :
    ∃ z, exec (.tileTempSample t temps rise) s = .next z ∧
      (∀ i, i < 8 → NMap.get 0 (z.sys.tile t).pwr.temps i = temps.getD i 0 % 4096) ∧
      (z.sys.tile t).pwr.rising = decide (8 < rise) ∧
      (∀ h, 840 ≤ (z.sys.tile t).temp → (s.sys.tile t).pwr.hotSince = some h → h + 100000000 ≤ (s.sys.tx t).now →
        (z.sys.tile t).pwr.tempLimit = true) ∧
      ((z.sys.tile t).temp ≤ 760 → (z.sys.tile t).pwr.tempLimit = false ∧ (z.sys.tile t).pwr.hotSince = none) := by
  have hrun := State.exec_powered (exec_tileTempSample t temps rise s) hwf ht hon
  obtain ⟨lim, hpwr, hhot, hcold⟩ := TX.tempSample_pwr (x := s.sys.tx t) (temps := temps) (rise := rise)
  obtain ⟨r, hr⟩ := Sys.putTX_tile s.sys t ((s.sys.tx t).tempSample temps rise)
  generalize (s.sys.tx t).tempSample temps rise = y at hrun hpwr hhot hcold hr
  have htile : (s.tileDid t y).sys.tile t = { y.tile with regs := r } := hr
  have hp : ((s.tileDid t y).sys.tile t).pwr = y.tile.pwr := by rw [htile]
  have htemp : ((s.tileDid t y).sys.tile t).temp = y.tile.temp := Tile.temp_congr (congrArg TilePower.temps hp)
  refine ⟨_, hrun, ?_⟩
  rw [hp, htemp, hpwr]
  refine ⟨fun i hi => NMap.get_map_self _ _ (List.mem_range.mpr hi), rfl, fun h hh hsince hlate => hhot h hh hsince hlate,
    fun hlow => ⟨hcold hlow, if_neg ?_⟩⟩
  omega

theorem TX.thermalLimit_due {x : TX} {h : Nat} (hhot : x.tile.pwr.hotSince = some h) (hshed : x.tile.shed = false)
    (hlate : h + 5000000000 ≤ x.now) :
    x.thermalLimit = (x.setPwr { x.tile.pwr with hotSince := none }).note true ncThermalLimit ukTile x.phys 0 0 := by
  unfold TX.thermalLimit
  rw [hhot]
  exact if_pos (by simp [hshed, hlate])

end Rows

/-- Settles O58. -/
theorem rackManagerAndCooling : Obligations.RackManagerAndCooling := by
  unfold Obligations.RackManagerAndCooling
  intro s t ht now c p x pw lead answered nominal
  have hdo (i : Instr) (f : Sys → Sys) (hexec : exec i s = s.act i.wf f) (hwf : i.wf = true) :
      exec i s = .next { s with sys := f s.sys } := by rw [hexec, hwf, State.act_true]
  have hgood (flow : Nat) : s.sys.flowGood flow = decide (85 * nominal ≤ 100 * flow) := rfl
  refine ⟨fun cap hb hwf => ⟨fun hlo hhi hb1 hb60 => ?_, fun hbad => ?_⟩, ?_, ?_, ⟨?_, ?_, ?_, ?_⟩, fun code hwf hother => ?_,
    fun hst hlate => ?_, fun hwait => ?_, fun hst hlate => ?_, fun hwait => ?_, fun inlet outlet flow status seq hwf => ?_,
    fun inlet outlet flow status seq hwf hstatus hseq => ?_, ?_, fun hlow hhold hst => ?_, fun rise => ⟨fun hst => ?_, fun hst => ?_⟩,
    fun hnone => ?_, fun hheats => ?_, fun temps rise hon hwf => ?_, fun h hon hhot hshed hlate => ?_, fun hnone => ⟨?_, ?_⟩,
    fun h hh => ⟨fun hnone => ?_, fun g hg hearly => ?_, fun g hg hlate hcold => ?_, fun hdue => ?_⟩,
    fun since hsince => ⟨fun hwait => ?_, fun hst hlate => ?_⟩⟩
  · exact ⟨_, hdo _ _ (exec_setPowerCap cap hb s) hwf, Sys.setPowerCap_taken ⟨hlo, hhi⟩ ⟨hb1, hb60⟩⟩
  · rw [hdo _ _ (exec_setPowerCap cap hb s) hwf, Sys.setPowerCap, if_pos (by simp; omega)]
    rfl
  · rw [hdo _ _ (exec_getPowerReading s) rfl, Sys.getPowerReading]
    dsimp only
    rw [Sys.mctpAnswer, show s.sys.contact.updateCap.lead.hub = lead from Sys.updateCap_rig.2.2.1]
    rfl
  · exact ⟨_, hdo _ _ (exec_heartbeat s) rfl, Sys.heartbeat_answer⟩
  · exact hdo _ _ (exec_getTid s) rfl
  · exact hdo _ _ (exec_getPldmVersion s) rfl
  · exact hdo _ _ (exec_getPldmTypes s) rfl
  · exact hdo _ _ (exec_getPldmCommands s) rfl
  · rw [hdo _ _ (exec_unsupportedPldmCmd code s) hwf, Sys.pldmOther, if_neg (by simpa using hother)]
    rfl
  · rw [hdo _ _ (exec_contactLost s) rfl, Sys.contactLost_due hst hlate]
  · rw [hdo _ _ (exec_contactLost s) rfl, Sys.contactLost_early hwait]
  · exact ⟨_, hdo _ _ (exec_safeCapEntry s) rfl, Sys.safeCapEntry_due hst hlate⟩
  · rw [hdo _ _ (exec_safeCapEntry s) rfl, Sys.safeCapEntry_early hwait]
  · refine ⟨_, hdo _ _ (exec_coolantSample false inlet outlet flow status seq s) hwf, ?_⟩
    exact Sys.coolantFailed_cool
  · obtain ⟨hin, hout, hflow, hfails, hsq, hcap⟩ := Sys.coolantSample_read (s := s.sys) (inlet := inlet) (outlet := outlet)
      (flow := flow) hstatus hseq
    refine ⟨_, hdo _ _ (exec_coolantSample true inlet outlet flow status seq s) hwf, hin, hout, hflow, hfails, hsq,
      fun hlow hhold hst => ?_, fun hsteady hpump hfirst hst => ?_, fun hfull hcold => hcap (decide_eq_true hfull) hcold⟩
    · exact Sys.coolantSample_stop hstatus hseq hlow hhold hst
    · obtain ⟨hstate, hheld⟩ := Sys.coolantSample_steady (inlet := inlet) (outlet := outlet) hstatus hseq hsteady hpump hfirst hst
      rw [hstate, hheld, hgood]
      simp only [sinceWhen, decide_eq_true_eq]
      exact ⟨trivial, rfl⟩
  · rw [hdo _ _ (exec_pumpFaultN true s) rfl, Sys.pumpFaultN_high]
  · exact ⟨_, hdo _ _ (exec_pumpFaultN false s) rfl, Sys.pumpFaultN_third hlow hhold hst⟩
  · rw [hdo _ _ (exec_slowFallAlert rise s) rfl, Sys.slowFallAlert, if_pos hst]
  · exact ⟨_, hdo _ _ (exec_slowFallAlert rise s) rfl, Sys.slowFallAlert_fallen hst⟩
  · rw [hdo _ _ (exec_heatBalanceCheck s) rfl, Sys.heatBalance, if_pos (by rw [show s.sys.cool.heats = [] from hnone]; rfl)]
  · exact ⟨_, hdo _ _ (exec_heatBalanceCheck s) rfl, Sys.heatBalance_rig hheats⟩
  · exact State.tempSampled ht hon hwf
  · rw [State.exec_powered (exec_thermalLimit t s) (decide_eq_true ht) ht hon, TX.thermalLimit_due hhot hshed hlate]
    rfl
  · rw [hdo _ _ (exec_holdRestore s) rfl, Sys.holdRestore, show s.sys.cool.hold = none from hnone]
  · rw [hdo _ _ (exec_coolingPowerDown s) rfl, Sys.coolingPowerDown, show s.sys.cool.hold = none from hnone]
  · rw [hdo _ _ (exec_holdRestore s) rfl, Sys.holdRestore_waits hh fun g hg => absurd (hnone.symm.trans hg) nofun]
  · rw [hdo _ _ (exec_holdRestore s) rfl, Sys.holdRestore_waits hh fun g' hg' => Option.some.inj (hg.symm.trans hg') ▸ hearly]
  · obtain ⟨hhold, hstate⟩ := Sys.holdRestore_ends hh hg hlate hcold
    refine ⟨_, hdo _ _ (exec_holdRestore s) rfl, hhold, hstate.trans ?_⟩
    rw [hgood]
    simp only [decide_eq_true_eq]
    rfl
  · exact ⟨_, hdo _ _ (exec_coolingPowerDown s) rfl, Sys.coolingPowerDown_due hh ht hdue⟩
  · rw [hdo _ _ (exec_coolingPowerRestore s) rfl, Sys.coolingPowerRestore_waits hsince hwait]
  · exact ⟨_, hdo _ _ (exec_coolingPowerRestore s) rfl, Sys.coolingPowerRestore_starts hsince hst hlate⟩

end Sys2Proof.Machine

/-! SUPPORT. Tile links: a training that begins, the lanes that a test leaves, both ends of a link (R408–R418). -/

namespace Sys2Proof.Machine

section Ends
variable {s : Sys} {t p m mp : Nat}

theorem Sys.link_setLink (s : Sys) (t p u k : Nat) (v : TileLink) :
    (s.setLink t p v).link u k = if 4 * u + k = 4 * t + p then v else s.link u k := NMap.get_put ..

@[simp] theorem Sys.link_setLink_same (s : Sys) (t p : Nat) (v : TileLink) : (s.setLink t p v).link t p = v := NMap.get_put_same ..

theorem Sys.link_congr {a b : Sys} (h : b.links = a.links) (t p : Nat) : b.link t p = a.link t p := by rw [Sys.link, h, Sys.link]

theorem Sys.router_congr {a b : Sys} (h : b.mesh = a.mesh) (n : Nat) : b.router n = a.router n := by
  rw [Sys.router, h, Sys.router]

@[simp] theorem Sys.bumpTile_links (t off hi lo n : Nat) : (s.bumpTile t off hi lo n).links = s.links := by
  unfold Sys.bumpTile; split <;> rfl

@[simp] theorem Sys.noteAt_links (n : Nat) (urgent : Bool) (code kind wher sub detail : Nat) :
    (s.noteAt n urgent code kind wher sub detail).links = s.links := by
  unfold Sys.noteAt Sys.queueNotice
  dsimp only
  repeat' split
  all_goals rfl

/-- Two ends of links whose ports are below 4 are different where their tiles are. -/
theorem linkIndex_ne {u k : Nat} (hu : u ≠ t) (hk : k < 4) (hp : p < 4) : 4 * u + k ≠ 4 * t + p := by omega

/-- The far end of a tile's port is a tile's port below 4, or a hub. -/
theorem neighbour_port (h : neighbour t p = some (m, mp)) (hm : m < 256) : mp < 4 := by
  unfold neighbour at h
  (repeat' split at h) <;> simp only [reduceCtorEq, Option.some.injEq, Prod.mk.injEq] at h <;> omega

theorem tileEnds_eq (hnb : neighbour t p = some (m, mp)) : tileEnds t p = if m < 256 then [(t, p), (m, mp)] else [(t, p)] := by
  simp [tileEnds, hnb]

/-- What is true of the near end and, where it is a tile's, of the far end is true of every tile end. -/
theorem tileEnds_forall {P : Nat × Nat → Prop} (hnb : neighbour t p = some (m, mp)) (hnear : P (t, p))
    (hfar : m < 256 → P (m, mp)) : ∀ e ∈ tileEnds t p, P e := by
  intro e he
  rw [tileEnds_eq hnb] at he
  split at he
  next hm =>
    rcases List.mem_cons.mp he with rfl | he
    · exact hnear
    · rw [List.mem_singleton.mp he]
      exact hfar hm
  next => rw [List.mem_singleton.mp he]; exact hnear

theorem Sys.bothEnds_router (hnb : neighbour t p = some (m, mp)) (f : MeshPort → MeshPort) :
    ((s.bothEnds t p f).router t).port p = f ((s.router t).port p) := by
  have hne : t ≠ m := (neighbour_ne hnb).symm
  rw [Sys.bothEnds, hnb]
  dsimp only
  rw [Sys.router_setRouter_other _ _ _ _ hne, Sys.router_setRouter_same, Router.port_setPort_same]

@[simp] theorem Sys.bothEnds_links (f : MeshPort → MeshPort) : (s.bothEnds t p f).links = s.links := by
  unfold Sys.bothEnds
  split <;> rfl

end Ends

section Begin
variable {s : Sys} {t p : Nat}

/-- A link record as a training begins. -/
def TileLink.begun (l : TileLink) (now cause : Nat) (full : Bool) : TileLink :=
  { l with
    phase := 1, since := now, full := full, lockLost := false, ctrlTimes := [], cause := if full then 1 else cause
    retrainTimes := if full then l.retrainTimes else within now 1000000000 l.retrainTimes ++ [now]
    bootRetrains := if full then l.bootRetrains else l.bootRetrains + 1 }

/-- A training begins at one tile end. -/
def Sys.beginEnd (s : Sys) (t p cause : Nat) (full : Bool) (e : Nat × Nat) : Sys :=
  let s := s.setLink e.1 e.2 ((s.link e.1 e.2).begun s.now (if e = (t, p) then cause else 6) full)
  let s := s.bumpTile e.1 (0xC014 + 0x200 * e.2) (if full then 31 else 15) (if full then 16 else 0) 1
  let s := s.setTileReg e.1 (0xC020 + 0x200 * e.2) (putBits (s.tileReg e.1 (0xC020 + 0x200 * e.2)) 0 0 0)
  if full then s else s.scored (linkKind e.1 e.2) e.1 (linkSub e.1 e.2) evRetrain 1

theorem Sys.beginTraining_eq (cause : Nat) (full : Bool) :
    s.beginTraining t p cause full = (tileEnds t p).foldl (fun s e => s.beginEnd t p cause full e) s := rfl

variable (s t p) (cause : Nat) (full : Bool) (e : Nat × Nat)

theorem Sys.beginEnd_link (u k : Nat) : (s.beginEnd t p cause full e).link u k =
    if 4 * u + k = 4 * e.1 + e.2 then (s.link e.1 e.2).begun s.now (if e = (t, p) then cause else 6) full else s.link u k := by
  refine (Sys.link_congr ?_ u k).trans (s.link_setLink e.1 e.2 u k _)
  unfold Sys.beginEnd
  dsimp only
  split <;> exact Sys.bumpTile_links ..

theorem Sys.bumpTile_sameAround (u off hi lo n : Nat) :
    (s.bumpTile u off hi lo n).mesh = s.mesh ∧ (s.bumpTile u off hi lo n).now = s.now := by
  unfold Sys.bumpTile; split <;> exact ⟨rfl, rfl⟩

theorem Sys.beginEnd_sameAround :
    (s.beginEnd t p cause full e).mesh = s.mesh ∧ (s.beginEnd t p cause full e).now = s.now := by
  unfold Sys.beginEnd
  dsimp only
  split <;> exact Sys.bumpTile_sameAround ..

/-- FLAP_LIMIT is left as it is where the bit that asks for a retrain is cleared. -/
theorem bitsOf_putBits_zero (v : Nat) : bitsOf (putBits v 0 0 0) 15 8 = bitsOf v 15 8 := by
  simp only [bitsOf, putBits]
  omega

theorem Sys.tileReg_setTileReg (u k off v w : Nat) :
    (s.setTileReg u off v).tileReg k w = if k = u ∧ w = off then v else s.tileReg k w := by
  by_cases hk : k = u
  · subst hk
    simp [Sys.tileReg, Sys.setTileReg, Sys.modTile, NMap.get_put]
  · simp [Sys.tileReg, Sys.setTileReg, Sys.modTile, Sys.tile_setTile_other _ _ _ _ hk, hk]

theorem Sys.bumpTile_tileReg_other {u k off w : Nat} (hi lo n : Nat) (hw : w ≠ off) :
    (s.bumpTile u off hi lo n).tileReg k w = s.tileReg k w := by
  unfold Sys.bumpTile
  split
  next =>
    by_cases hk : k = u
    · subst hk
      simp [Sys.tileReg, Sys.modTile, NMap.get_put, hw]
    · simp [Sys.tileReg, Sys.modTile, Sys.tile_setTile_other _ _ _ _ hk]
  next => rfl

theorem Sys.beginEnd_flapLimit (u k : Nat) :
    bitsOf ((s.beginEnd t p cause full e).tileReg u (0xC020 + 0x200 * k)) 15 8 =
      bitsOf (s.tileReg u (0xC020 + 0x200 * k)) 15 8 := by
  have hbump (y : Sys) (i hi lo : Nat) : (y.bumpTile e.1 (0xC014 + 0x200 * e.2) hi lo 1).tileReg i (0xC020 + 0x200 * k) =
      y.tileReg i (0xC020 + 0x200 * k) := Sys.bumpTile_tileReg_other _ _ _ _ (by omega)
  have hset (y : Sys) : bitsOf ((y.setTileReg e.1 (0xC020 + 0x200 * e.2)
      (putBits (y.tileReg e.1 (0xC020 + 0x200 * e.2)) 0 0 0)).tileReg u (0xC020 + 0x200 * k)) 15 8 =
      bitsOf (y.tileReg u (0xC020 + 0x200 * k)) 15 8 := by
    rw [Sys.tileReg_setTileReg]
    split
    next h => rw [bitsOf_putBits_zero, ← h.2, h.1]
    next => rfl
  unfold Sys.beginEnd
  dsimp only
  split <;> exact (hset _).trans (congrArg (bitsOf · 15 8) (hbump _ _ _ _))

end Begin

section Training
variable {s : Sys} {t p m mp : Nat}

/-- A training has begun at every tile end of a link; nothing of the mesh and no flap limit has changed. -/
theorem Sys.beginTraining_ends (hp : p < 4) (hnb : neighbour t p = some (m, mp)) (cause : Nat) (full : Bool) :
    ∀ e ∈ tileEnds t p, (s.beginTraining t p cause full).link e.1 e.2 =
      (s.link e.1 e.2).begun s.now (if e = (t, p) then cause else 6) full ∧
      bitsOf ((s.beginTraining t p cause full).tileReg e.1 (0xC020 + 0x200 * e.2)) 15 8 =
        bitsOf (s.tileReg e.1 (0xC020 + 0x200 * e.2)) 15 8 := by
  rw [Sys.beginTraining_eq, tileEnds_eq hnb]
  have hne : m ≠ t := neighbour_ne hnb
  split
  next hm =>
    have hfar : 4 * m + mp ≠ 4 * t + p := linkIndex_ne hne (neighbour_port hnb hm) hp
    have hnow := (Sys.beginEnd_sameAround s t p cause full (t, p)).2
    intro e he
    simp only [List.foldl_cons, List.foldl_nil, Sys.beginEnd_flapLimit, and_true, Sys.beginEnd_link, hnow]
    rcases List.mem_cons.mp he with rfl | he
    · simp [hfar.symm]
    · obtain rfl := List.mem_singleton.mp he
      simp [hfar]
  next =>
    intro e he
    obtain rfl := List.mem_singleton.mp he
    simp [Sys.beginEnd_flapLimit, Sys.beginEnd_link]

theorem Sys.beginTraining_mesh (cause : Nat) (full : Bool) : (s.beginTraining t p cause full).mesh = s.mesh := by
  rw [Sys.beginTraining_eq]
  exact List.foldlRecOn (motive := fun u : Sys => u.mesh = s.mesh) _ _ rfl
    fun u hu e _ => (Sys.beginEnd_sameAround u t p cause full e).1.trans hu

/-- What a lane test leaves at its end of a link, seen with what the partner found. -/
def TileLink.Tested (l : TileLink) (test far : LaneTest) (version : Nat) : Prop :=
  l.phase = 5 ∧ l.ctrlBad = test.ctrlBad ∧ l.roundTrip = max test.trip far.trip ∧
    l.ctrlLost = (test.ctrlLost || far.ctrlLost) ∧ l.version = version

theorem Sys.foldl_scored {α : Type} {P : Sys → Prop} (f : Sys → α → Sys) (l : List α) (y : Sys)
    (hf : ∀ u a, P u → P (f u a)) (hy : P y) : P (l.foldl f y) :=
  List.foldlRecOn _ _ hy fun u hu a _ => hf u a hu

theorem Sys.takeTest_tested (test far : LaneTest) (version : Nat) : ∃ l : TileLink, l.Tested test far version ∧
    (s.takeTest t p test (some far) version).links = NMap.put s.links (4 * t + p) l ∧
    (s.takeTest t p test (some far) version).mesh = s.mesh := by
  unfold Sys.takeTest
  extract_lets l lanes out farOut g fails l1 l2 s1 was
  refine ⟨l2, ⟨rfl, rfl, rfl, rfl, rfl⟩, ?_⟩
  have hs1 : s1.links = NMap.put s.links (4 * t + p) l2 ∧ s1.mesh = s.mesh :=
    ⟨Sys.bumpTile_links .., (Sys.bumpTile_sameAround ..).1⟩
  clear_value s1 l2
  refine List.foldlRecOn (motive := fun u : Sys => u.links = NMap.put s.links (4 * t + p) l2 ∧ u.mesh = s.mesh) _ _ hs1 ?_
  intro u hu x _
  dsimp only
  repeat' split
  all_goals exact hu

end Training

end Sys2Proof.Machine

/-! SUPPORT. The rows of a tile link: training, retraining and link up, and the part of O59 about them. -/

namespace Sys2Proof.Machine

section LinkRows
variable {s : Sys} {t p m mp : Nat}

/-- The state in which both ends of a link train. -/
def Sys.trainingStarted (s : Sys) (t p : Nat) : Sys :=
  (s.beginTraining t p 1 true).bothEnds t p (fun q => { q with
    link := 2, dead := false, wire := [], replay := [], sendSeq := 0, recvSeq := 0, failing := false, onBits := 0, replayRuns := [] })

/-- Both lane tests of a training. -/
def Sys.testEnds (s : Sys) (t p : Nat) (here there : LaneTest) (v : Nat) : Sys :=
  match (tileEnds t p)[1]? with
  | some (u, up) => (s.takeTest t p here (some there) v).takeTest u up there (some here) v
  | none => s.takeTest t p here (some there) v

theorem Sys.linkTraining_eq (ht : t < 256) (hnb : neighbour t p = some (m, mp)) (halive : (s.router t).alive = true)
    (hfar : (s.router m).alive = true) (hshed : (s.unit (linkKey t p)).shed = none) (hlink : ((s.router t).port p).link ≠ 3)
    (a b : LaneTest) : ∃ v,
      s.linkTraining t p a b = (if ((s.router t).port p).link ≠ 2 then s.trainingStarted t p else s).testEnds t p a b v ∧
      (((s.router t).port p).link ≠ 2 → m < 256 → v = min a.version b.version) := by
  rw [Sys.linkTraining, hnb]
  dsimp only
  rw [if_neg (by simp [ht, halive, hfar, hshed, hlink])]
  by_cases h2 : ((s.router t).port p).link = 2
  · simp only [h2, ne_eq, not_true_eq_false, if_false, false_implies, and_true]
    exact ⟨_, rfl⟩
  · simp only [h2, ne_eq, not_false_eq_true, if_true, true_implies]
    exact ⟨_, rfl, fun hm => if_pos hm⟩

/-- The near end keeps its own test when the far end takes its own, and no test touches the mesh. -/
theorem Sys.testEnds_tested (hp : p < 4) (hnb : neighbour t p = some (m, mp)) (a b : LaneTest) (v : Nat) :
    ((s.testEnds t p a b v).link t p).Tested a b v ∧ (s.testEnds t p a b v).mesh = s.mesh := by
  obtain ⟨l, hl, hlinks, hmesh⟩ := Sys.takeTest_tested (s := s) (t := t) (p := p) a b v
  have hown : (s.takeTest t p a (some b) v).link t p = l := by rw [Sys.link, hlinks, NMap.get_put_same]
  rw [Sys.testEnds, tileEnds_eq hnb]
  by_cases hm : m < 256
  · rw [if_pos hm]
    obtain ⟨k, -, hlinks', hmesh'⟩ := Sys.takeTest_tested (s := s.takeTest t p a (some b) v) (t := m) (p := mp) b a v
    refine ⟨?_, hmesh'.trans hmesh⟩
    have hne : 4 * t + p ≠ 4 * m + mp := linkIndex_ne (neighbour_ne hnb).symm hp (neighbour_port hnb hm)
    have hkeep : ((s.takeTest t p a (some b) v).takeTest m mp b (some a) v).link t p = l := by
      rw [Sys.link, hlinks', NMap.get_put_other _ _ _ _ _ hne]; exact hown
    exact hkeep ▸ hl
  · rw [if_neg hm]
    exact ⟨hown ▸ hl, hmesh⟩

theorem Sys.trainingStarted_port (hnb : neighbour t p = some (m, mp)) :
    ((s.trainingStarted t p).router t).port p = { (s.router t).port p with
      link := 2, dead := false, wire := [], replay := [], sendSeq := 0, recvSeq := 0, failing := false, onBits := 0, replayRuns := [] } := by
  rw [Sys.trainingStarted, Sys.bothEnds_router hnb, Sys.router_congr (Sys.beginTraining_mesh _ _)]

/-- A retrain that is due and within the flap limit of both ends: the links as the training begins, the ends' ports
training with what they hold. -/
theorem Sys.retrain_due {c : Nat} (ht : t < 256) (hp : p < 4) (hnb : neighbour t p = some (m, mp))
    (hlink : ((s.router t).port p).link = 3) (hc : s.retrainCause t p = some c)
    (hflap : ∀ e ∈ tileEnds t p, (within s.now 1000000000 (s.link e.1 e.2).retrainTimes).length + 1 ≤
      bitsOf (s.tileReg e.1 (0xC020 + 0x200 * e.2)) 15 8) :
    (s.retrain t p).link t p = (s.link t p).begun s.now c false ∧
      ((s.retrain t p).router t).port p = { (s.router t).port p with
        link := 2, onBits := 0, failing := ((s.router t).port p).failing || !((s.router t).port p).wire.isEmpty, wire := []
        replayRuns := [] } := by
  have hends := Sys.beginTraining_ends (s := s) hp hnb c false
  have hnear : (t, p) ∈ tileEnds t p := by rw [tileEnds_eq hnb]; split <;> simp
  have hmesh : (s.beginTraining t p c false).mesh = s.mesh := Sys.beginTraining_mesh ..
  rw [Sys.retrain, if_neg (by simp [ht, hlink]), hc]
  dsimp only
  rw [if_neg]
  · refine ⟨?_, ?_⟩
    · rw [Sys.link_congr (Sys.bothEnds_links _), (hends _ hnear).1, if_pos rfl]
    · rw [Sys.bothEnds_router hnb, Sys.router_congr hmesh]
  · simp only [List.any_eq_true, not_exists, not_and]
    intro e he
    obtain ⟨hl, hreg⟩ := hends e he
    simp only [hl, hreg, TileLink.begun, Bool.false_eq_true, if_false, List.length_append, List.length_singleton,
      decide_eq_true_eq, Nat.not_lt]
    exact hflap e he

theorem Sys.endUp_link (rx tx ns : Nat) : (s.endUp t p rx tx ns).link t p = { s.link t p with
    phase := 6, rxWidth := rx, txWidth := tx, lastNs := ns, lastTime := s.now, full := false } := by
  unfold Sys.endUp
  dsimp only
  split
  · exact (Sys.link_congr (Sys.noteAt_links ..) t p).trans (Sys.link_setLink_same ..)
  · exact Sys.link_setLink_same ..

theorem Sys.noteAt_mesh (n : Nat) (urgent : Bool) (code kind wher sub detail : Nat) :
    (s.noteAt n urgent code kind wher sub detail).mesh = s.mesh := (Sys.queueNotice_sameMesh ..).1

theorem Sys.endUp_mesh (rx tx ns : Nat) : (s.endUp t p rx tx ns).mesh = s.mesh := by
  unfold Sys.endUp
  dsimp only
  split
  · exact Sys.noteAt_mesh ..
  · rfl

theorem Sys.endUp_link_other {u k : Nat} (h : 4 * u + k ≠ 4 * t + p) (rx tx ns : Nat) :
    (s.endUp t p rx tx ns).link u k = s.link u k := by
  have hset (l : TileLink) : (s.setLink t p l).link u k = s.link u k := by rw [Sys.link_setLink, if_neg h]
  unfold Sys.endUp
  dsimp only
  split
  · exact (Sys.link_congr (Sys.noteAt_links ..) u k).trans (hset _)
  · exact hset _

/-- Both ends of a link with their widths. -/
def Sys.endsUp (s : Sys) (t p m mp rx tx ns : Nat) : Sys :=
  if m < 256 then (s.endUp t p rx tx ns).endUp m mp tx rx ns else s.endUp t p rx tx ns

theorem Sys.endsUp_link (hp : p < 4) (hnb : neighbour t p = some (m, mp)) (rx tx ns : Nat) :
    (s.endsUp t p m mp rx tx ns).link t p = { s.link t p with
      phase := 6, rxWidth := rx, txWidth := tx, lastNs := ns, lastTime := s.now, full := false } := by
  unfold Sys.endsUp
  split
  next hm =>
    rw [Sys.endUp_link_other (linkIndex_ne (neighbour_ne hnb).symm hp (neighbour_port hnb hm)), Sys.endUp_link]
  next => exact Sys.endUp_link ..

theorem Sys.endsUp_mesh (rx tx ns : Nat) : (s.endsUp t p m mp rx tx ns).mesh = s.mesh := by
  unfold Sys.endsUp
  split
  · exact (Sys.endUp_mesh ..).trans (Sys.endUp_mesh ..)
  · exact Sys.endUp_mesh ..

/-- A training that ends in time with both directions wide enough brings the link up. -/
theorem Sys.linkUp_wide {ns rx tx : Nat} (ht : t < 256) (hnb : neighbour t p = some (m, mp))
    (hlink : ((s.router t).port p).link = 2) (hphase : (s.link t p).phase = 5) (hctrl : (s.link t p).ctrlLost = false)
    (hfar : m < 256 → (s.link m mp).ctrlLost = false ∧ (s.link m mp).roundTrip ≤ 12) (htrip : (s.link t p).roundTrip ≤ 12)
    (hns : ns ≤ (if (s.link t p).full then 33000 else 10000))
    (hrx : linkWidth (s.link t p).version (liveGroups (s.link t p).groups) = rx)
    (htx : (if m < 256 then linkWidth (s.link m mp).version (liveGroups (s.link m mp).groups)
      else linkWidth (s.link t p).version (18 - popCount (s.link t p).txLost 18)) = tx) (hrx0 : rx ≠ 0) (htx0 : tx ≠ 0) :
    s.linkUp t p ns = (s.endsUp t p m mp rx tx ns).bothEnds t p
      (fun q => { q with link := 3, dead := false, onBits := if (s.link t p).full then 31 else 0 }) := by
  rw [Sys.linkUp, hnb]
  dsimp only
  rw [if_neg (by simp [ht, hlink, hphase]), hrx, htx, if_neg]
  · rfl
  · have hlost : (decide (m < 256) && (s.link m mp).ctrlLost) = false := by
      by_cases hm : m < 256
      · simp [(hfar hm).1]
      · simp [hm]
    have hlong : (decide (m < 256) && decide ((s.link m mp).roundTrip > 12)) = false := by
      by_cases hm : m < 256
      · simpa [hm] using (hfar hm).2
      · simp [hm]
    simp [hctrl, hlost, hlong, hrx0, htx0, htrip, hns]

end LinkRows

/-- The clauses of O59 about tile links. -/
def TileLinkClauses (s : State) (t p m mp : Nat) : Prop :=
  let now := s.sys.now
  let q := (s.sys.router t).port p
  let l := s.sys.link t p
  let far := s.sys.link m mp
  (∀ a b, (s.sys.router t).alive = true → (s.sys.router m).alive = true → (s.sys.unit (linkKey t p)).shed = none →
    (q.link = 3 → exec (.linkTraining t p a b) s = .next s) ∧
    (q.link ≠ 3 → ∃ z, exec (.linkTraining t p a b) s = .next z ∧ (z.sys.link t p).phase = 5 ∧
      (z.sys.link t p).ctrlBad = a.ctrlBad ∧ (z.sys.link t p).roundTrip = max a.trip b.trip ∧
      (z.sys.link t p).ctrlLost = (a.ctrlLost || b.ctrlLost) ∧ ((z.sys.router t).port p).link = 2 ∧
      (q.link ≠ 2 → ((z.sys.router t).port p).wire = [] ∧ ((z.sys.router t).port p).replay = [] ∧
        ((z.sys.router t).port p).sendSeq = 0 ∧ ((z.sys.router t).port p).dead = false ∧
        (m < 256 → (z.sys.link t p).version = min a.version b.version)))) ∧
  (q.link = 3 → exec (.laneLockLost t p) s = .next { s with sys := s.sys.setLink t p { l with lockLost := true } }) ∧
  (q.link ≠ 3 → exec (.laneLockLost t p) s = .next s ∧ exec (.retrain t p) s = .next s) ∧
  (q.link = 3 → s.sys.retrainCause t p = none → exec (.retrain t p) s = .next s) ∧
  (∀ c, q.link = 3 → s.sys.retrainCause t p = some c →
    (∀ e ∈ tileEnds t p, (within now 1000000000 (s.sys.link e.1 e.2).retrainTimes).length + 1 ≤
      bitsOf (s.sys.tileReg e.1 (0xC020 + 0x200 * e.2)) 15 8) →
    ∃ z, exec (.retrain t p) s = .next z ∧ ((z.sys.router t).port p).link = 2 ∧ ((z.sys.router t).port p).wire = [] ∧
      ((z.sys.router t).port p).replay = q.replay ∧ (z.sys.link t p).phase = 1 ∧ (z.sys.link t p).cause = c ∧
      (z.sys.link t p).bootRetrains = l.bootRetrains + 1) ∧
  (∀ ns, q.link = 2 → l.phase = 5 → l.ctrlLost = false → (m < 256 → far.ctrlLost = false ∧ far.roundTrip ≤ 12) →
    l.roundTrip ≤ 12 → ns ≤ (if l.full then 33000 else 10000) →
    let rx := linkWidth l.version (liveGroups l.groups)
    let tx := if m < 256 then linkWidth far.version (liveGroups far.groups) else linkWidth l.version (18 - popCount l.txLost 18)
    rx ≠ 0 → tx ≠ 0 → (m, mp) ≠ (t, p) → ∃ z, exec (.linkUp t p ns) s = .next z ∧ ((z.sys.router t).port p).link = 3 ∧
      ((z.sys.router t).port p).dead = false ∧ (z.sys.link t p).phase = 6 ∧ (z.sys.link t p).rxWidth = rx ∧
      (z.sys.link t p).txWidth = tx ∧ (z.sys.link t p).lastNs = ns)

/-- Training, retraining and coming up, one clause each (R404–R418). -/
theorem tileLinkClauses (s : State) {t p m mp : Nat} (ht : t < 256) (hp : p < 4) (hnb : neighbour t p = some (m, mp)) :
    TileLinkClauses s t p m mp := by
  have hdo (i : Instr) (f : Sys → Sys) (hexec : exec i s = s.act i.wf f) (hwf : i.wf = true) :
      exec i s = .next { s with sys := f s.sys } := by rw [hexec, hwf, State.act_true]
  have hwf : (isTile t && isLink p) = true := by simp [isTile, isLink, ht, hp]
  refine ⟨fun a b halive hfar hshed => ⟨fun h3 => ?_, fun h3 => ?_⟩, fun h3 => ?_, fun h3 => ⟨?_, ?_⟩, fun h3 hc => ?_,
    fun c h3 hc hflap => ?_, fun ns h2 hphase hctrl hfar htrip hns => ?_⟩
  · rw [hdo _ _ (exec_linkTraining t p a b s) hwf, Sys.linkTraining, hnb]
    dsimp only
    rw [if_pos (by simp [h3])]
  · obtain ⟨v, heq, hv⟩ := Sys.linkTraining_eq ht hnb halive hfar hshed h3 a b
    refine ⟨_, hdo _ _ (exec_linkTraining t p a b s) hwf, ?_⟩
    dsimp only
    rw [heq]
    obtain ⟨⟨hph, hbad, htrip, hlost, hver⟩, hmesh⟩ := Sys.testEnds_tested
      (s := if ((s.sys.router t).port p).link ≠ 2 then s.sys.trainingStarted t p else s.sys) hp hnb a b v
    rw [Sys.router_congr hmesh]
    refine ⟨hph, hbad, htrip, hlost, ?_, fun h2 => ?_⟩
    · by_cases h2 : ((s.sys.router t).port p).link = 2
      · rw [if_neg (fun h => h h2)]
        exact h2
      · rw [if_pos h2, Sys.trainingStarted_port hnb]
    · rw [hver, if_pos h2, Sys.trainingStarted_port hnb]
      exact ⟨rfl, rfl, rfl, rfl, hv h2⟩
  · rw [hdo _ _ (exec_laneLockLost t p s) hwf, Sys.laneLockLost, if_pos h3]
  · rw [hdo _ _ (exec_laneLockLost t p s) hwf, Sys.laneLockLost, if_neg h3]
  · rw [hdo _ _ (exec_retrain t p s) hwf, Sys.retrain, if_pos (by simp [h3])]
  · rw [hdo _ _ (exec_retrain t p s) hwf, Sys.retrain, if_neg (by simp [ht, h3]), hc]
  · obtain ⟨hl, hq⟩ := Sys.retrain_due ht hp hnb h3 hc hflap
    refine ⟨_, hdo _ _ (exec_retrain t p s) hwf, ?_⟩
    dsimp only
    rw [hl, hq]
    exact ⟨rfl, rfl, rfl, rfl, rfl, rfl⟩
  · intro rx tx hrx htx _
    refine ⟨_, hdo _ _ (exec_linkUp t p ns s) hwf, ?_⟩
    dsimp only
    rw [Sys.linkUp_wide ht hnb h2 hphase hctrl hfar htrip hns rfl rfl hrx htx, Sys.bothEnds_router hnb,
      Sys.link_congr (Sys.bothEnds_links _), Sys.endsUp_link hp hnb]
    exact ⟨rfl, rfl, rfl, rfl, rfl, rfl⟩

end Sys2Proof.Machine

/-! SUPPORT. Silua: what sending and the packets of an engine leave of a port's receiving side, ports that go down, the
return map and the lasers (R422–R432). -/

namespace Sys2Proof.Machine

section Port

/-- What sending cells leaves of a port: its training, its receiving side, and the cells already on the fibre. -/
structure OptPort.SameEnd (q r : OptPort) : Prop where
  lanes : r.lanes = q.lanes
  link : r.link = q.link
  peer : r.peer = q.peer
  version : r.version = q.version
  lastTime : r.lastTime = q.lastTime
  recvSeq : r.recvSeq = q.recvSeq
  failing : r.failing = q.failing
  sent : ∀ c ∈ q.sent, c ∈ r.sent

theorem OptPort.SameEnd.refl (q : OptPort) : q.SameEnd q := ⟨rfl, rfl, rfl, rfl, rfl, rfl, rfl, fun _ h => h⟩

theorem OptPort.SameEnd.trans {q r o : OptPort} (h : q.SameEnd r) (h' : r.SameEnd o) : q.SameEnd o where
  lanes := h'.lanes.trans h.lanes
  link := h'.link.trans h.link
  peer := h'.peer.trans h.peer
  version := h'.version.trans h.version
  lastTime := h'.lastTime.trans h.lastTime
  recvSeq := h'.recvSeq.trans h.recvSeq
  failing := h'.failing.trans h.failing
  sent c hc := h'.sent c (h.sent c hc)

theorem OptPort.pump_sameEnd (fuel : Nat) : ∀ q : OptPort, q.SameEnd (q.pump fuel) := by
  induction fuel with
  | zero => exact OptPort.SameEnd.refl
  | succ n ih =>
    intro q
    rw [OptPort.pump]
    split
    · exact .refl q
    · split
      · exact .refl q
      · split
        · exact .refl q
        · refine OptPort.SameEnd.trans ?_ (ih _)
          exact ⟨rfl, rfl, rfl, rfl, rfl, rfl, rfl, fun c hc => List.mem_append_left _ hc⟩

/-- A port where nothing waits has nothing to send. -/
theorem OptPort.pump_idle {q : OptPort} (h : q.waiting = []) (fuel : Nat) : q.pump fuel = q := by
  cases fuel with
  | zero => rfl
  | succ n => rw [OptPort.pump, h]; rfl

theorem Engine.port_setPort (x : Engine) (p i : Nat) (q : OptPort) :
    (x.setPort p q).port i = if i = p then q else x.port i := NMap.get_put ..

@[simp] theorem Engine.port_setPort_same (x : Engine) (p : Nat) (q : OptPort) : (x.setPort p q).port p = q :=
  NMap.get_put_same ..

@[simp] theorem Engine.port_bump (x : Engine) (off hi lo n i : Nat) : (x.bump off hi lo n).port i = x.port i := rfl

variable (s : Sys) (e : Nat)

@[simp] theorem Sys.engine_modEngine (f : Engine → Engine) : (s.modEngine e f).engine e = f (s.engine e) :=
  Sys.engine_setEngine_same ..

@[simp] theorem Sys.engine_modPort (p : Nat) (f : OptPort → OptPort) :
    (s.modPort e p f).engine e = (s.engine e).setPort p (f ((s.engine e).port p)) := Sys.engine_setEngine_same ..

theorem Sys.refreshPeers_engines : s.refreshPeers.engines = s.engines := rfl

theorem Sys.engine_congr {a b : Sys} (h : b.engines = a.engines) (e : Nat) : b.engine e = a.engine e := by
  rw [Sys.engine, h, Sys.engine]

@[simp] theorem Sys.noteAt_engines (n : Nat) (urgent : Bool) (code kind wher sub detail : Nat) :
    (s.noteAt n urgent code kind wher sub detail).engines = s.engines := by
  unfold Sys.noteAt Sys.queueNotice
  dsimp only
  repeat' split
  all_goals rfl

/-- Scores taken one after another touch no engine. -/
theorem Sys.foldl_engines {α : Type} {f : Sys → α → Sys} (hf : ∀ u a, (f u a).engines = u.engines) (l : List α) :
    (l.foldl f s).engines = s.engines :=
  List.foldlRecOn (motive := fun u : Sys => u.engines = s.engines) _ _ rfl fun u hu a _ => (hf u a).trans hu

end Port

section Heard
variable {e k : Nat}

/-- A port's training and receiving side are the same, and what it has put on the fibre is still there. -/
def Sys.Heard (e k : Nat) (a b : Sys) : Prop := ((a.engine e).port k).SameEnd ((b.engine e).port k)

theorem Sys.Heard.refl (s : Sys) : Sys.Heard e k s s := OptPort.SameEnd.refl _

theorem Sys.Heard.trans {a b c : Sys} (h : Sys.Heard e k a b) (h' : Sys.Heard e k b c) : Sys.Heard e k a c :=
  OptPort.SameEnd.trans h h'

theorem Sys.Heard.of_engines {a b : Sys} (h : b.engines = a.engines) : Sys.Heard e k a b := by
  rw [Sys.Heard, Sys.engine_congr h]; exact .refl _

variable {s : Sys}

theorem Sys.modEngine_heard {f : Engine → Engine} (hf : ∀ x : Engine, (f x).ports = x.ports) :
    Sys.Heard e k s (s.modEngine e f) := by
  rw [Sys.Heard, Sys.engine_modEngine, Engine.port, Engine.port, hf]; exact .refl _

theorem Sys.modPort_heard {p : Nat} {f : OptPort → OptPort} (hf : ∀ q : OptPort, q.SameEnd (f q)) :
    Sys.Heard e k s (s.modPort e p f) := by
  rw [Sys.Heard, Sys.engine_modPort, Engine.port_setPort]
  split
  next h => rw [h]; exact hf _
  next => exact .refl _

theorem Sys.cellOut_heard (p hop : Nat) (pkt : Packet) : Sys.Heard e k s (s.cellOut e p hop pkt) :=
  Sys.modPort_heard fun q => OptPort.SameEnd.trans (r := { q with waiting := q.waiting ++ [{ long := pkt.long, hop := hop, pkt := pkt }] })
    ⟨rfl, rfl, rfl, rfl, rfl, rfl, rfl, fun _ h => h⟩ (OptPort.pump_sameEnd 600 _)

theorem Sys.engineInject_engines (row col : Nat) (p : Packet) : (s.engineInject e row col p).engines = s.engines := rfl

theorem Sys.engineNack_engines (p : Packet) (status : Nat) : (s.engineNack e p status).engines = s.engines := rfl

theorem Sys.siluaOut_heard (p : Packet) : Sys.Heard e k s (s.siluaOut e p).2 := by
  have hback (y : Sys) (r : Return) : Sys.Heard e k y (y.modEngine e (fun x => { x with back := x.back ++ [r] })) :=
    Sys.modEngine_heard fun _ => rfl
  unfold Sys.siluaOut
  dsimp only
  generalize (if p.type = 2 then some p.offset else none) = off
  split
  · exact Sys.modEngine_heard fun _ => rfl
  split
  · exact Sys.cellOut_heard ..
  split
  · exact .of_engines (Sys.engineNack_engines ..)
  split
  · exact .of_engines (Sys.engineNack_engines ..)
  split
  · exact .refl s
  split
  · exact Sys.cellOut_heard ..
  · exact (hback _ _).trans (Sys.cellOut_heard ..)

theorem Sys.enginePool_heard (n c fuel : Nat) : ∀ s : Sys, Sys.Heard e k s (s.enginePool e n c fuel) := by
  induction fuel with
  | zero => exact Sys.Heard.refl
  | succ m ih =>
    intro s
    rw [Sys.enginePool]
    dsimp only
    split
    · exact .refl s
    next p q _ =>
      have hset : Sys.Heard e k s (s.setStraight n ((s.straight n).setPort c q)) := .of_engines rfl
      generalize s.setStraight n ((s.straight n).setPort c q) = y at hset
      have hout := Sys.siluaOut_heard (e := e) (k := k) (s := y) p
      generalize y.siluaOut e p = r at hout
      split
      · exact (hset.trans hout).trans (ih _)
      · exact .refl s

theorem Sys.foldl_heard {α : Type} {f : Sys → α → Sys} (hf : ∀ u a, Sys.Heard e k u (f u a)) (l : List α) :
    Sys.Heard e k s (l.foldl f s) :=
  List.foldlRecOn (motive := fun u => Sys.Heard e k s u) _ _ (.refl s) fun u hu a _ => Sys.Heard.trans hu (hf u a)

theorem Sys.engineRetry_heard : Sys.Heard e k s (s.engineRetry e) :=
  Sys.foldl_heard (fun u _ => Sys.enginePool_heard _ _ _ u) _

/-- An entry taken out of the return map, and its answer carried into the grid. -/
theorem Sys.returned_heard (f : Engine → Engine) (row col : Nat) (q : Packet) (hf : ∀ x : Engine, (f x).ports = x.ports) :
    Sys.Heard e k s (((s.modEngine e f).engineInject e row col q).engineRetry e) :=
  ((Sys.modEngine_heard hf).trans (.of_engines (Sys.engineInject_engines ..))).trans Sys.engineRetry_heard

theorem Sys.siluaIn_heard (p : Packet) : Sys.Heard e k s (s.siluaIn e p) := by
  unfold Sys.siluaIn
  dsimp only
  split
  · split
    · exact Sys.modEngine_heard fun _ => rfl
    · exact Sys.returned_heard _ _ _ _ fun _ => rfl
  split
  · split
    · exact Sys.modEngine_heard fun _ => rfl
    · split
      · exact Sys.modEngine_heard fun _ => rfl
      · exact .of_engines (Sys.engineInject_engines ..)
  · exact .of_engines (Sys.engineInject_engines ..)

end Heard

section Down
variable {s : Sys} {e p : Nat}

/-- A port that goes down keeps nothing to send. -/
def OptPort.down (q : OptPort) : OptPort := { q with link := 0, replay := [], waiting := [], credits := [] }

theorem Sys.siluaDown_engine (notice : Bool) : (s.siluaDown e p notice).engine e =
    ((s.engine e).setPort p ((s.engine e).port p).down).bump (0x10 * p + 0xC) 31 16
      (((s.engine e).port p).replay.length + ((s.engine e).port p).waiting.length) := by
  unfold Sys.siluaDown
  dsimp only
  split
  · rw [Sys.engine_congr (Sys.noteAt_engines ..), Sys.engine_congr (Sys.refreshPeers_engines _)]
    exact Sys.engine_modEngine ..
  · rw [Sys.engine_congr (Sys.refreshPeers_engines _)]
    exact Sys.engine_modEngine ..

/-- A port whose lanes are gone. -/
def Sys.lanesGone (s : Sys) (e p : Nat) : Sys := (s.modPort e p (fun q => { q with lanes := 0 })).siluaDown e p true

theorem Sys.lanesGone_port (i : Nat) : ((s.lanesGone e p).engine e).port i =
    if i = p then { (s.engine e).port p with lanes := 0, link := 0, replay := [], waiting := [], credits := [] }
    else (s.engine e).port i := by
  rw [Sys.lanesGone, Sys.siluaDown_engine, Engine.port_bump, Engine.port_setPort]
  split
  next => simp [OptPort.down]
  next h => rw [Sys.engine_modPort, Engine.port_setPort, if_neg h]

theorem Sys.lanesGone_lasers : ((s.lanesGone e p).engine e).lasers = (s.engine e).lasers := by
  rw [Sys.lanesGone, Sys.siluaDown_engine, Sys.engine_modPort]; rfl

end Down

section Pools

variable {s : Sys} {e : Nat}

/-- No frame waits at an input of an engine (R251). -/
def Sys.InputsEmpty (s : Sys) (e : Nat) : Prop :=
  ∀ c, c < 4 → ((s.straight (16 + 4 * (e % 4) + c)).port (if e < 4 then 16 else 17)).takeCarried = none

theorem Sys.enginePool_idle {n k fuel : Nat} (h : ((s.straight n).port k).takeCarried = none) : s.enginePool e n k fuel = s := by
  cases fuel with
  | zero => rfl
  | succ m => rw [Sys.enginePool]; dsimp only; rw [h]

theorem Sys.engineRetry_idle (h : s.InputsEmpty e) : s.engineRetry e = s := by
  rw [Sys.engineRetry]
  simp only [List.foldl_cons, List.foldl_nil]
  rw [Sys.enginePool_idle (h 0 (by omega)), Sys.enginePool_idle (h 1 (by omega)), Sys.enginePool_idle (h 2 (by omega)),
    Sys.enginePool_idle (h 3 (by omega))]

/-- Where no frame waits at the engine, the entries that are too old leave the return map and are counted (R432). -/
theorem Sys.returnExpiry_engine (h : s.InputsEmpty e) : (s.returnExpiry e).engine e = { s.engine e with
    back := (s.engine e).back.filter (fun r => !decide (s.now > r.since + 10000000))
    expired := (s.engine e).expired + ((s.engine e).back.filter (fun r => decide (s.now > r.since + 10000000))).length } := by
  rw [Sys.returnExpiry]
  dsimp only
  rw [Sys.engineRetry_idle (show Sys.InputsEmpty (s.modEngine e _) e from h)]
  exact Sys.engine_modEngine ..

end Pools

end Sys2Proof.Machine

/-! SUPPORT. The rows of a Silua port and of a laser, and O59. -/

namespace Sys2Proof.Machine

section Training
variable {s : Sys} {e p lanes partner version : Nat}

/-- A port whose training ends now (R426). -/
def Sys.trainingEnded (s : Sys) (e p : Nat) : Sys :=
  s.modPort e p (fun q => { q with lastTime := s.now, lastNs := s.now - q.since })

theorem Sys.trainingEnded_port : ((s.trainingEnded e p).engine e).port p =
    { (s.engine e).port p with lastTime := s.now, lastNs := s.now - ((s.engine e).port p).since } := by
  rw [Sys.trainingEnded, Sys.engine_modPort, Engine.port_setPort_same]

/-- The partner is another panel that the peer route entry of this engine and port names (R424, R429). -/
def Sys.expects (s : Sys) (e p partner : Nat) : Prop :=
  (s.peerEntry partner).2.2 = true ∧ (s.peerEntry partner).1 = e ∧ bitOf (s.peerEntry partner).2.1 p = true ∧
    partner ≠ s.boot.panelId

/-- A port up with its partner: what a retrain keeps, or the state of a first training. -/
def OptPort.partnered (q : OptPort) (lanes partner version : Nat) : OptPort :=
  if decide (q.link = 1) && !(q.credits.isEmpty) then
    { q with link := 2, lanes := lanes, peer := partner, version := version, sent := q.sent ++ q.replay }
  else { q with
    link := 2, lanes := lanes, peer := partner, version := version, sendSeq := 0, recvSeq := 0, failing := false
    replay := [], sent := [], waiting := [], credits := [(0, 128), (1, 256), (2, 512), (3, 128)] }

/-- A training ends in one of three ways: no lane is left, the partner is not the one expected, or the port is up. -/
theorem Sys.siluaTraining_cases (hrole : ((s.engine e).port p).role = 1)
    (halarm : (NMap.get {} (s.engine e).lasers (p / 2)).alarm = false) :
    (s.servingLanes e p lanes = 0 → s.siluaTraining e p lanes partner version = (s.trainingEnded e p).lanesGone e p) ∧
    (s.servingLanes e p lanes ≠ 0 → ¬ s.expects e p partner → s.siluaTraining e p lanes partner version =
      ((s.trainingEnded e p).modPort e p (fun q => { q with
        lanes := s.servingLanes e p lanes, link := 3, peer := partner, replay := [], waiting := [], credits := [] })).refreshPeers) ∧
    (s.servingLanes e p lanes ≠ 0 → s.expects e p partner → s.siluaTraining e p lanes partner version =
      ((s.trainingEnded e p).modPort e p (fun _ =>
        ((((s.trainingEnded e p).engine e).port p).partnered (s.servingLanes e p lanes) partner
          (min Config.siluaVersion version)).pump 600)).refreshPeers) := by
  unfold Sys.siluaTraining Sys.expects
  extract_lets q laser lanes' s1 q1 version' again q2
  rcases s.peerEntry partner with ⟨en, mask, v⟩
  dsimp -zeta only
  extract_lets expected
  have hs1 : s1 = s.trainingEnded e p := if_pos hrole
  have hlanes : lanes' = s.servingLanes e p lanes := if_neg (by simp [laser, halarm])
  have hq1 : q1 = ((s.trainingEnded e p).engine e).port p := by rw [← hs1]
  have hrole1 : ¬ q1.role ≠ 1 := by rw [hq1, Sys.trainingEnded_port]; exact Classical.not_not.mpr hrole
  have hid : s1.boot.panelId = s.boot.panelId := by rw [hs1]; rfl
  have hq2 : q2 = q1.partnered lanes' partner version' := rfl
  have hexp : (decide (partner = s1.boot.panelId) || !expected) = true ↔
      ¬ (v = true ∧ en = e ∧ bitOf mask p = true ∧ partner ≠ s.boot.panelId) := by
    rw [hid]
    simp only [expected, Bool.or_eq_true, decide_eq_true_eq, Bool.not_eq_true', Bool.eq_false_iff, ne_eq,
      Bool.and_eq_true]
    by_cases hpanel : partner = s.boot.panelId <;> simp [hpanel, and_assoc]
  clear_value q2 q1 lanes' s1
  subst hs1 hq1 hlanes
  rw [if_neg hrole1]
  refine ⟨fun h0 => if_pos h0, fun h0 hno => ?_, fun h0 hyes => ?_⟩
  · rw [if_neg h0, if_pos (hexp.mpr hno)]
  · rw [if_neg h0, if_neg (mt hexp.mp (Classical.not_not.mpr hyes)), hq2]

theorem OptPort.partnered_first {q : OptPort} (h : q.credits = []) : q.partnered lanes partner version = { q with
    link := 2, lanes := lanes, peer := partner, version := version, sendSeq := 0, recvSeq := 0, failing := false
    replay := [], sent := [], waiting := [], credits := [(0, 128), (1, 256), (2, 512), (3, 128)] } :=
  if_neg (by simp [h])

theorem OptPort.partnered_up (q : OptPort) : (q.partnered lanes partner version).link = 2 ∧
    (q.partnered lanes partner version).lanes = lanes ∧ (q.partnered lanes partner version).peer = partner ∧
    (q.partnered lanes partner version).version = version ∧ (q.partnered lanes partner version).lastTime = q.lastTime := by
  unfold OptPort.partnered
  split <;> exact ⟨rfl, rfl, rfl, rfl, rfl⟩

/-- The port after a training, whichever way it ends. -/
theorem Sys.siluaTraining_port (hrole : ((s.engine e).port p).role = 1)
    (halarm : (NMap.get {} (s.engine e).lasers (p / 2)).alarm = false) :
    let q := (s.engine e).port p
    let r := ((s.siluaTraining e p lanes partner version).engine e).port p
    let live := s.servingLanes e p lanes
    r.lanes = live ∧ r.lastTime = s.now ∧
      (live = 0 → r.link = 0 ∧ r.replay = [] ∧ r.waiting = [] ∧ r.credits = []) ∧
      (live ≠ 0 → ¬ s.expects e p partner → r.link = 3 ∧ r.peer = partner ∧ r.credits = []) ∧
      (live ≠ 0 → s.expects e p partner → r.link = 2 ∧ r.peer = partner ∧ r.version = min Config.siluaVersion version) ∧
      (live ≠ 0 → s.expects e p partner → q.credits = [] → r.sendSeq = 0 ∧ r.recvSeq = 0 ∧
        r.credits = [(0, 128), (1, 256), (2, 512), (3, 128)]) := by
  obtain ⟨hdark, hother, hup⟩ := Sys.siluaTraining_cases (lanes := lanes) (partner := partner) (version := version) hrole halarm
  intro q r live
  by_cases h0 : live = 0
  · have hr : r = { q with
        lastTime := s.now, lastNs := s.now - q.since, lanes := 0, link := 0, replay := [], waiting := [], credits := [] } := by
      simp only [r, hdark h0, Sys.lanesGone_port, if_true, Sys.trainingEnded_port]
      rfl
    refine ⟨hr ▸ h0.symm, hr ▸ rfl, fun _ => hr ▸ ⟨rfl, rfl, rfl, rfl⟩, fun h => absurd h0 h, fun h => absurd h0 h,
      fun h => absurd h0 h⟩
  by_cases hexp : s.expects e p partner
  · have hr : r = ((((s.trainingEnded e p).engine e).port p).partnered live partner (min Config.siluaVersion version)).pump 600 := by
      simp only [r, hup h0 hexp, Sys.engine_congr (Sys.refreshPeers_engines _), Sys.engine_modPort, Engine.port_setPort_same]
      rfl
    have hend := OptPort.pump_sameEnd 600
      ((((s.trainingEnded e p).engine e).port p).partnered live partner (min Config.siluaVersion version))
    obtain ⟨hlink, hlanes, hpeer, hver, htime⟩ := OptPort.partnered_up (lanes := live) (partner := partner)
      (version := min Config.siluaVersion version) (((s.trainingEnded e p).engine e).port p)
    rw [← hr] at hend
    refine ⟨hend.lanes.trans hlanes, hend.lastTime.trans (htime.trans (by rw [Sys.trainingEnded_port])), fun h => absurd h h0,
      fun _ h => absurd hexp h, fun _ _ => ⟨hend.link.trans hlink, hend.peer.trans hpeer, hend.version.trans hver⟩,
      fun _ _ hc => ?_⟩
    have hnone : (((s.trainingEnded e p).engine e).port p).credits = [] := by rw [Sys.trainingEnded_port]; exact hc
    rw [hr, OptPort.partnered_first hnone, OptPort.pump_idle rfl]
    exact ⟨rfl, rfl, rfl⟩
  · have hr : r = { q with
        lastTime := s.now, lastNs := s.now - q.since, lanes := live, link := 3, peer := partner, replay := [], waiting := []
        credits := [] } := by
      simp only [r, hother h0 hexp, Sys.engine_congr (Sys.refreshPeers_engines _), Sys.engine_modPort,
        Engine.port_setPort_same, Sys.trainingEnded_port]
      rfl
    refine ⟨hr ▸ rfl, hr ▸ rfl, fun h => absurd h h0, fun _ _ => hr ▸ ⟨rfl, rfl, rfl⟩, fun _ h => absurd h hexp,
      fun _ h => absurd h hexp⟩

end Training

section Cells
variable {s : Sys} {e p sym : Nat} {c : Cell}

/-- A cell whose code words failed: an idle cell asks for replay and the port discards until it begins (R425, R427). -/
theorem Sys.cellIn_bad (hrole : ((s.engine e).port p).role = 1) (hlink : ((s.engine e).port p).link = 2) (hsym : 15 < sym) :
    ((s.cellIn e p c sym).engine e).port p = { (s.engine e).port p with
      failing := true, bootErr := ((s.engine e).port p).bootErr + 1
      sent := ((s.engine e).port p).sent ++
        [{ idle := true, replay := true, ackValid := true, ack := (((s.engine e).port p).recvSeq + 65535) % 65536 }] } := by
  have hscore (u : Sys) (l : Nat) : (if bitOf ((s.engine e).port p).lanes l then
      u.scored ukOpticalLane e (4 * p + l) evCodeword 1 else u).engines = u.engines := by split <;> rfl
  unfold Sys.cellIn
  extract_lets q reply s1
  rw [if_neg (by simp [q, hrole, hlink]), if_pos hsym]
  rw [Sys.engine_congr (Sys.foldl_engines _ hscore _)]
  simp only [s1, Sys.engine_modEngine, Engine.port_bump, Engine.port_setPort_same]
  rfl

/-- What a good cell that asks for no replay does to its port before its packet is looked at: acknowledgement, credits,
and what can be sent with them. -/
def Sys.cellNoted (s : Sys) (e p : Nat) (c : Cell) (sym : Nat) : Sys :=
  let s := if sym = 0 then s else s.modEngine e (fun x => x.bump (0x10 * p + 0x4) 31 0 1)
  let q := (s.engine e).port p
  let q := if c.ackValid then { q with replay := (q.replay.dropWhile (fun r => r.seq ≠ (c.ack + 1) % 65536)) } else q
  let q := if c.credits = 0 then q else { q with credits := NMap.put q.credits c.cls (NMap.get 0 q.credits c.cls + c.credits) }
  s.modEngine e (fun x => x.setPort p (q.pump 600))

theorem Sys.cellNoted_heard (s : Sys) (c : Cell) : Sys.Heard e p s (s.cellNoted e p c sym) := by
  unfold Sys.cellNoted
  extract_lets s1 q q1 q2
  have hs1 : Sys.Heard e p s s1 := by
    unfold s1
    split
    · exact .refl s
    · exact Sys.modEngine_heard fun _ => rfl
  have hq1 : q.SameEnd q1 := by
    unfold q1
    split
    · exact ⟨rfl, rfl, rfl, rfl, rfl, rfl, rfl, fun _ h => h⟩
    · exact .refl q
  have hq2 : q1.SameEnd q2 := by
    unfold q2
    split
    · exact .refl q1
    · exact ⟨rfl, rfl, rfl, rfl, rfl, rfl, rfl, fun _ h => h⟩
  refine hs1.trans ?_
  rw [Sys.Heard, Sys.engine_modEngine, Engine.port_setPort_same]
  exact (hq1.trans hq2).trans (OptPort.pump_sameEnd 600 q2)

/-- A cell in sequence: the next is expected, and an idle cell acknowledges it with its credit (R426, R428). -/
def Sys.cellAcked (s : Sys) (e p : Nat) (c : Cell) : Sys :=
  s.modPort e p (fun q => { q with
    recvSeq := (q.recvSeq + 1) % 65536, failing := false
    sent := q.sent ++ [{ idle := true, ackValid := true, ack := c.seq, cls := c.pkt.vc, credits := 1 }] })

/-- Where the packet of a cell goes (R429, R431). -/
def Sys.cellCarried (s : Sys) (e p : Nat) (c : Cell) : Sys :=
  let peer := c.pkt.dst - 0x2000
  if c.pkt.dst < 0x2000 then s.modEngine e (fun x => x.bump (0x10 * p + 0xC) 31 16 1)
  else if peer = s.boot.panelId then s.siluaIn e c.pkt
  else
    let (en, mask, v) := s.peerEntry peer
    let ports := s.peerPorts e mask
    if !v || en ≠ e || ports = [] || c.hop ≥ 2 || !s.offers 10 then s.modEngine e (fun x => x.bump (0x10 * p + 0xC) 31 16 1)
    else s.cellOut e (ports.getD (Config.siluaHash c.pkt.src c.pkt.tag % ports.length) 0) (c.hop + 1) c.pkt

theorem Sys.cellCarried_heard (s : Sys) (c : Cell) : Sys.Heard e p s (s.cellCarried e p c) := by
  unfold Sys.cellCarried
  extract_lets peer
  split
  · exact Sys.modEngine_heard fun _ => rfl
  split
  · exact Sys.siluaIn_heard ..
  rcases s.peerEntry peer with ⟨en, mask, v⟩
  dsimp -zeta only
  extract_lets ports
  split
  · exact Sys.modEngine_heard fun _ => rfl
  · exact Sys.cellOut_heard ..

/-- A good cell that asks for no replay (R425–R428). -/
theorem Sys.cellIn_good (hrole : ((s.engine e).port p).role = 1) (hlink : ((s.engine e).port p).link = 2) (hsym : sym ≤ 15)
    (hreplay : c.replay = false) : s.cellIn e p c sym =
      if c.idle then s.cellNoted e p c sym
      else if c.seq ≠ (((s.cellNoted e p c sym).engine e).port p).recvSeq then s.cellNoted e p c sym
      else ((s.cellNoted e p c sym).cellAcked e p c).cellCarried e p c := by
  unfold Sys.cellIn
  extract_lets q reply sbad s1 q1 q2 q3 again first q4 s2 s3 qk ack s4 peer
  rw [if_neg (by simp [q, hrole, hlink]), if_neg (by omega)]
  have hagain : again = false := by simp [again, hreplay]
  have hq4 : q4 = q3 := if_neg (by simp [hagain])
  have hs2 : s2 = s.cellNoted e p c sym := by unfold s2; rw [hq4]; rfl
  have hs3 : s3 = s2 := if_neg (by simp [hagain])
  have hqk : qk = ((s.cellNoted e p c sym).engine e).port p := by unfold qk; rw [hs3, hs2]
  have hs4 : s4 = (s.cellNoted e p c sym).cellAcked e p c := by unfold s4; rw [hs3, hs2]; rfl
  rw [if_neg (by simp [hagain]), hqk, hs4, hs3, hs2]
  generalize (s.cellNoted e p c sym).cellAcked e p c = y
  rfl

end Cells



section Lasers
variable {s : Sys} {e i power : Nat} {ok : Bool}

/-- A laser tap after a sample (R422). -/
def Sys.laserRead (s : Sys) (e i power : Nat) (ok : Bool) : Laser :=
  let l := NMap.get {} (s.engine e).lasers i
  let v : Int := signedOf 16 power
  let th (off d : Nat) : Int := signedOf 16 (s.limit off 2 d)
  let failed := if ok then 0 else l.failed + 1
  let warn := if ok then decide (v < th 12 1800) else l.warn
  let bad := (ok && (decide (v < th 14 1650) || decide (v > th 16 2500))) || decide (failed ≥ 3)
  let minute := s.now / 60000000000 + 1
  { l with
    power := if ok then power % 65536 else l.power, warn := warn, alarm := l.alarm || bad, failed := failed
    warnMinute := if ok && warn then minute else l.warnMinute }

/-- A sample that raises the alarm: out of its limits, or the third that failed. -/
def Sys.laserBad (s : Sys) (e i power : Nat) (ok : Bool) : Bool :=
  (ok && (decide (signedOf 16 power < signedOf 16 (s.limit 14 2 1650)) ||
    decide (signedOf 16 power > signedOf 16 (s.limit 16 2 2500)))) ||
    decide ((if ok then 0 else (NMap.get {} (s.engine e).lasers i).failed + 1) ≥ 3)

/-- A sample puts the tap's record; a new alarm takes the laser's two ports down. -/
theorem Sys.laserSample_engine (s : Sys) (e i power : Nat) (ok : Bool) : ∃ y : Sys,
    y.engine e = { s.engine e with lasers := NMap.put (s.engine e).lasers i (s.laserRead e i power ok) } ∧
    s.laserSample e i power ok = if s.laserBad e i power ok && !(NMap.get {} (s.engine e).lasers i).alarm
      then (y.lanesGone e (2 * i)).lanesGone e (2 * i + 1) else y := by
  unfold Sys.laserSample
  extract_lets x l v th failed warn bad minute l' s1 s2 s3 s4
  have hbad : bad = s.laserBad e i power ok := by
    unfold bad failed th v l Sys.laserBad
    rfl
  have hs1 : s1.engine e = { s.engine e with lasers := NMap.put (s.engine e).lasers i (s.laserRead e i power ok) } :=
    Sys.engine_modEngine ..
  have hs2 : s2.engines = s1.engines := by unfold s2; split <;> rfl
  have hs3 : s3.engines = s2.engines := by
    unfold s3
    split
    · exact Sys.noteAt_engines ..
    · rfl
  have hs4 : s4.engines = s3.engines := Sys.noteAt_engines ..
  rw [← hbad]
  clear_value s4 s3 s2 s1
  by_cases hnew : (bad && !l.alarm) = true
  · refine ⟨s4, by rw [Sys.engine_congr hs4, Sys.engine_congr hs3, Sys.engine_congr hs2, hs1], ?_⟩
    rw [if_pos hnew, if_pos hnew]
    rfl
  · exact ⟨s3, by rw [Sys.engine_congr hs3, Sys.engine_congr hs2, hs1], by rw [if_neg hnew, if_neg hnew]⟩

theorem Sys.laserSample_laser : NMap.get {} ((s.laserSample e i power ok).engine e).lasers i = s.laserRead e i power ok := by
  obtain ⟨y, hy, heq⟩ := Sys.laserSample_engine s e i power ok
  have hl : ((s.laserSample e i power ok).engine e).lasers = (y.engine e).lasers := by
    rw [heq]
    split
    · rw [Sys.lanesGone_lasers, Sys.lanesGone_lasers]
    · rfl
  rw [hl, hy, NMap.get_put_same]

/-- A laser whose new alarm takes its ports down. -/
theorem Sys.laserSample_dark (hbad : s.laserBad e i power ok = true) (hold : (NMap.get {} (s.engine e).lasers i).alarm = false) :
    (((s.laserSample e i power ok).engine e).port (2 * i)).link = 0 ∧
      (((s.laserSample e i power ok).engine e).port (2 * i + 1)).link = 0 := by
  obtain ⟨y, -, heq⟩ := Sys.laserSample_engine s e i power ok
  rw [heq, if_pos (by simp [hbad, hold])]
  simp only [Sys.lanesGone_port, if_true]
  rw [if_neg (by omega)]
  exact ⟨rfl, trivial⟩

theorem Sys.laserSample_calm (hbad : s.laserBad e i power ok = false) (k : Nat) :
    ((s.laserSample e i power ok).engine e).port k = (s.engine e).port k := by
  obtain ⟨y, hy, heq⟩ := Sys.laserSample_engine s e i power ok
  rw [heq, if_neg (by simp [hbad]), hy]
  rfl

end Lasers

/-- Settles O59: the rows of tile links, of a Silua port, of the return map and of a laser, clause by clause. -/
theorem linksAndSilua : Obligations.LinksAndSilua := by
  unfold Obligations.LinksAndSilua
  intro s t p m mp e k ht hp hnb he hk now q l far o port
  have hdo (i : Instr) (f : Sys → Sys) (hexec : exec i s = s.act i.wf f) (hwf : i.wf = true) :
      exec i s = .next { s with sys := f s.sys } := by rw [hexec, hwf, State.act_true]
  have hcell (c : Cell) (sym : Nat) (hsym : sym < 65536) := hdo _ _ (exec_cell e k c sym s)
    (show (isEngine e && decide (k < 8) && decide (sym < 65536)) = true by simp [isEngine, he, hk, hsym])
  have hlaser (i power : Nat) (ok : Bool) (hi : i < 4) (hpw : power < 65536) := hdo _ _ (exec_laserSample e i power ok s)
    (show (isEngine e && decide (i < 4) && decide (power < 65536)) = true by simp [isEngine, he, hi, hpw])
  obtain ⟨htrain, hlock, hidle, hnocause, hretrain, hup⟩ := tileLinkClauses s ht hp hnb
  refine ⟨htrain, hlock, hidle, hnocause, hretrain, hup, fun lanes partner version hwf hrole halarm => ?_,
    fun c sym hout hsym => ?_, fun c sym hrole hlink hsym => ⟨fun hbad => ?_, fun hok hr hi hseq => ?_, fun hok hr hseq => ?_⟩,
    fun hpools => ?_, fun i power hi hpw => ?_, fun i power hi hpw => ?_⟩
  · exact ⟨_, hdo _ _ (exec_siluaTraining e k lanes partner version s) hwf, Sys.siluaTraining_port hrole halarm⟩
  · rw [hcell c sym hsym, Sys.cellIn]
    dsimp only
    rw [if_pos (by simpa using hout)]
  · refine ⟨_, hcell c sym hsym, ?_⟩
    dsimp only [port]
    rw [Sys.cellIn_bad hrole hlink hbad]
    exact ⟨rfl, rfl, rfl, rfl⟩
  · have hnoted : Sys.Heard e k s.sys (s.sys.cellNoted e k c sym) := Sys.cellNoted_heard _ _
    have hcarried := Sys.cellCarried_heard (e := e) (p := k) ((s.sys.cellNoted e k c sym).cellAcked e k c) c
    refine ⟨_, hcell c sym hsym, ?_⟩
    dsimp only [port]
    rw [Sys.cellIn_good hrole hlink hok hr, if_neg (by simp [hi]), if_neg (by rw [hnoted.recvSeq]; exact Classical.not_not.mpr hseq)]
    rw [Sys.Heard, Sys.cellAcked, Sys.engine_modPort, Engine.port_setPort_same] at hcarried
    refine ⟨hcarried.recvSeq.trans ?_, hcarried.failing, hcarried.sent _ (List.mem_append_right _ (List.mem_singleton_self _))⟩
    exact congrArg (fun n => (n + 1) % 65536) hnoted.recvSeq
  · have hnoted : Sys.Heard e k s.sys (s.sys.cellNoted e k c sym) := Sys.cellNoted_heard _ _
    refine ⟨_, hcell c sym hsym, ?_⟩
    dsimp only [port]
    rw [Sys.cellIn_good hrole hlink hok hr, if_pos (c := c.seq ≠ _) (by rw [hnoted.recvSeq]; exact hseq), ite_self]
    exact hnoted.recvSeq
  · have hempty : s.sys.InputsEmpty e := fun c hc => by
      obtain ⟨hf, hr⟩ := hpools c hc
      exact StraightPort.takeCarried_none (by simp [hf, hr])
    refine ⟨_, hdo _ _ (exec_returnMapExpiry e s) (show isEngine e = true by simp [isEngine, he]), ?_⟩
    dsimp only
    rw [Sys.returnExpiry_engine hempty]
    exact ⟨rfl, rfl⟩
  · intro old v bad
    have hbad : s.sys.laserBad e i power true = true ↔ bad := by simp [Sys.laserBad, bad, v]
    refine ⟨_, hlaser i power true hi hpw, ?_⟩
    dsimp only [port]
    rw [Sys.laserSample_laser]
    refine ⟨Nat.mod_eq_of_lt hpw, rfl, rfl, fun h => ?_, fun h hold => Sys.laserSample_dark (hbad.mpr h) hold,
      fun h => ⟨?_, Sys.laserSample_calm (Bool.eq_false_iff.mpr (mt hbad.mp h)) k⟩⟩
    · exact (congrArg (old.alarm || ·) (hbad.mpr h)).trans (Bool.or_true _)
    · exact (congrArg (old.alarm || ·) (Bool.eq_false_iff.mpr (mt hbad.mp h))).trans (Bool.or_false _)
  · refine ⟨_, hlaser i power false hi hpw, ?_⟩
    dsimp only
    rw [Sys.laserSample_laser]
    refine ⟨rfl, fun h => ?_⟩
    have hbad : s.sys.laserBad e i power false = true := by simpa [Sys.laserBad] using h
    exact (congrArg ((NMap.get {} (s.sys.engine e).lasers i).alarm || ·) hbad).trans (Bool.or_true _)

end Sys2Proof.Machine

/-! SUPPORT. Resets and what they leave, host writes to the reset and recovery registers, and the debug port (R505, R522,
R530). -/

namespace Sys2Proof.Machine

section Resets
variable {s : Sys} {h : Nat}

theorem NMap.get_hubs {α : Type} (d : α) (f : Nat → α) (hh : h < 2) : NMap.get d [(0, f 0), (1, f 1)] h = f h := by
  rcases (by omega : h = 0 ∨ h = 1) with rfl | rfl <;> rfl

theorem Sys.bootHub_congr {a b : Sys} (h : b.boot = a.boot) (n : Nat) : b.bootHub n = a.bootHub n := by
  rw [Sys.bootHub, h, Sys.bootHub]

theorem Sys.hub_congr {a b : Sys} (h : b.hubs = a.hubs) (n : Nat) : b.hub n = a.hub n := by rw [Sys.hub, h, Sys.hub]

/-- Everything but flash, fuses and host memory has lost its state (R505). -/
def Sys.Dark (s z : Sys) (h : Nat) : Prop :=
  z.tiles = [] ∧ z.mesh = [] ∧ z.boot.flash = s.boot.flash ∧ z.host = s.host ∧ (z.bootHub h).fuse = (s.bootHub h).fuse ∧
    (z.hub h).ready = false ∧ (z.hub h).live = false

/-- A hub's fuses, which no reset changes. -/
def Sys.fused (b : Boot) (h : Nat) : BootHub := { fuse := (NMap.get {} b.hubs h).fuse, revoked := (NMap.get {} b.hubs h).revoked }

theorem Sys.coldState_bootHub (b : Boot) (hh : h < 2) : (Sys.coldState b).bootHub h = Sys.fused b h := by
  show NMap.get {} [(0, Sys.fused b 0), (1, Sys.fused b 1)] h = Sys.fused b h
  exact NMap.get_hubs {} (Sys.fused b) hh

theorem Sys.coldBoot_bootHub {z : Sys} (hz : z.boot = (Sys.coldState s.boot).boot) (hh : h < 2) :
    z.bootHub h = Sys.fused s.boot h := by
  rw [Sys.bootHub_congr hz, Sys.coldState_bootHub s.boot hh]

theorem Sys.coldBoot_fuse {z : Sys} (hz : z.boot = (Sys.coldState s.boot).boot) (hh : h < 2) :
    (z.bootHub h).fuse = (s.bootHub h).fuse := by
  rw [Sys.coldBoot_bootHub hz hh]
  rfl

theorem Sys.coldReset_off (hoff : s.power.standby = false) : s.coldReset =
    { Sys.coldState s.boot with host := s.host, hostBad := s.hostBad, fresh := s.fresh, irqs := s.irqs } :=
  if_neg (by simp [hoff])

theorem Sys.coldReset_dark (hoff : s.power.standby = false) (hh : h < 2) : s.Dark s.coldReset h := by
  rw [Sys.coldReset_off hoff]
  exact ⟨rfl, rfl, rfl, rfl, Sys.coldBoot_fuse rfl hh, rfl, rfl⟩

theorem Sys.standbyLoss_dark (hh : h < 2) : s.Dark s.standbyLoss h := by
  exact ⟨rfl, rfl, rfl, rfl, Sys.coldBoot_fuse rfl hh, rfl, rfl⟩

/-- A hub as the boot sequence starts again. -/
def Sys.bootAgain (s : Sys) (h : Nat) : BootHub :=
  { step := bitNat (s.power.feeds.any (fun f => f.2.qualified)), fuse := (s.bootHub h).fuse, revoked := (s.bootHub h).revoked
    refOk := (s.bootHub h).refOk }

theorem Sys.restart_bootHub (hh : h < 2) : s.restart.bootHub h = s.bootAgain h := by
  show NMap.get {} [(0, s.bootAgain 0), (1, s.bootAgain 1)] h = s.bootAgain h
  exact NMap.get_hubs {} s.bootAgain hh

theorem Sys.restart_hub (hh : h < 2) : s.restart.hub h = (s.hub h).restarted := by
  show NMap.get {} [(0, (s.hub 0).restarted), (1, (s.hub 1).restarted)] h = (s.hub h).restarted
  exact NMap.get_hubs {} (fun n => (s.hub n).restarted) hh

theorem Sys.restart_dark (hh : h < 2) : s.Dark s.restart h := by
  refine ⟨rfl, rfl, rfl, rfl, ?_, ?_, ?_⟩
  · rw [Sys.restart_bootHub hh]; rfl
  · rw [Sys.restart_hub hh]; rfl
  · rw [Sys.restart_hub hh]; rfl

theorem Sys.restart_now : s.restart.now = s.now := rfl

theorem Sys.restart_flash (k : Nat) : s.restart.flash k = s.flash k := rfl

/-- A firmware that has not reached step 12 within 30 s is reset (R521). -/
theorem Sys.bootWatchdog_eq {t : Nat} (harmed : (s.bootHub h).armed = some t) (hstep : (s.bootHub h).step < 12) :
    s.bootWatchdog h = if t + 30000000000 ≤ s.now then s.restart else s := by
  rw [Sys.bootWatchdog, harmed]
  dsimp only
  by_cases hlate : t + 30000000000 ≤ s.now
  · rw [if_pos hlate, if_pos]
    rw [Bool.and_eq_true, decide_eq_true_eq, decide_eq_true_eq]
    exact ⟨hlate, hstep⟩
  · rw [if_neg hlate, if_neg]
    rw [Bool.and_eq_true, decide_eq_true_eq]
    exact fun h => hlate h.1

variable (hmem : (s.hub h).memSpace = true) (hlink : (s.hub h).linkRate ≠ 0)
include hmem hlink

theorem Sys.hostWord_panelReset : s.hostWord h 0 0x50808 1 = s.panelReset h := by
  rw [Sys.hostWord_write hmem hlink (by decide) (by decide), Sys.barWrite, if_pos rfl, Sys.hubRegWrite]
  rw [if_neg (by decide), if_neg (by decide), if_neg (by decide), if_neg (by decide), if_neg (by decide), if_neg (by decide),
    if_neg (by decide), if_pos rfl]
  dsimp only
  rw [if_pos (by decide)]

theorem Sys.hostWord_recoveryGo : s.hostWord h 0 0x5081C 1 = s.recoveryGo h := by
  rw [Sys.hostWord_write hmem hlink (by decide) (by decide), Sys.barWrite, if_pos rfl, Sys.hubRegWrite]
  rw [if_neg (by decide), if_neg (by decide), if_neg (by decide), if_neg (by decide), if_neg (by decide), if_neg (by decide),
    if_neg (by decide), if_neg (by decide), if_pos rfl]
  dsimp only
  rw [if_pos (by decide)]

end Resets

section Recovery
variable {s : Sys} {h : Nat}

/-- The address and the length of the recovery image, as the host wrote them (R522). -/
def Hub.recoveryAddr (u : Hub) : Nat := u.reg 0x50810 + 2 ^ 32 * u.reg 0x50814
def Hub.recoveryLen (u : Hub) : Nat := u.reg 0x50818

/-- The status that a refused recovery leaves. -/
def Sys.recoveryStatus (s : Sys) (h st : Nat) : Sys := s.setBootHub h { s.bootHub h with recStatus := st }

theorem Sys.recoveryGo_badField (hrec : (s.bootHub h).recovery = true)
    (hbad : (s.hub h).recoveryLen = 0 ∨ 33554432 < (s.hub h).recoveryLen ∨ (s.hub h).recoveryAddr % 4096 ≠ 0) :
    s.recoveryGo h = s.recoveryStatus h stInvalidField := by
  unfold Sys.recoveryGo
  extract_lets b u a n status
  rw [if_neg (by simp [b, hrec]), if_pos]
  · rfl
  · simp only [Bool.or_eq_true, decide_eq_true_eq]
    rcases hbad with h0 | h0 | h0
    · exact .inl (.inl h0)
    · exact .inl (.inr h0)
    · exact .inr h0

theorem Sys.recoveryGo_read {v : Nat} (hrec : (s.bootHub h).recovery = true) (hpos : 0 < (s.hub h).recoveryLen)
    (hlen : (s.hub h).recoveryLen ≤ 33554432) (haddr : (s.hub h).recoveryAddr % 4096 = 0)
    (hread : s.hostRead (s.hub h).recoveryAddr (s.hub h).recoveryLen = some v) :
    s.recoveryGo h = if s.authentic h (imageOf v (s.hub h).recoveryLen) then
      (s.modFlash h (fun f => { f with banks := NMap.put f.banks 0 (imageOf v (s.hub h).recoveryLen), active := 0 })).restart
      else s.recoveryStatus h stAuthFailed := by
  unfold Sys.recoveryGo
  extract_lets b u a n status
  have ha : a = (s.hub h).recoveryAddr := rfl
  have hn : n = (s.hub h).recoveryLen := rfl
  rw [if_neg (by simp [b, hrec]), if_neg (by rw [ha, hn]; simp; omega), ha, hn, hread]
  dsimp only
  cases s.authentic h (imageOf v (s.hub h).recoveryLen) <;> rfl

end Recovery

section Debug
variable {s : Sys} {h : Nat}

theorem Sys.debugChallenge_open (hlow : (s.bootHub h).refusals < 3) (hon : s.power.standby = true) : ∃ c,
    c % 2 ^ 64 = Config.panelSerial % 2 ^ 64 ∧
      s.debugChallenge h = { s.setBootHub h { s.bootHub h with challenge := some c } with answer := c, fresh := s.fresh + 1 } := by
  refine ⟨Config.panelSerial % 2 ^ 64 + 2 ^ 64 * (Config.freeNat s.fresh % 2 ^ 192), by omega, ?_⟩
  unfold Sys.debugChallenge
  dsimp only
  rw [if_neg (by simp [hon]; omega)]

theorem Sys.debugToken_checked {c : Nat} (hc : (s.bootHub h).challenge = some c) (hlow : (s.bootHub h).refusals < 3) (r t : Nat) :
    s.debugToken h r t = if Config.ecdsaVerify 4 (Config.sha384 c 32) r t && !s.debugDisabled h then
      (s.setBootHub h { s.bootHub h with unlocked := true, challenge := none }).log 0x001C 0 0 (0x1200 + h) 0 0
      else s.setBootHub h { s.bootHub h with refusals := (s.bootHub h).refusals + 1, challenge := none } := by
  unfold Sys.debugToken
  dsimp only
  rw [hc]
  dsimp only
  rw [if_neg (by omega)]

/-- What an unlocked debugger does to a hub (R530). -/
theorem Sys.debugAccess_hub (hun : (s.bootHub h).unlocked = true) (hon : s.power.standby = true) (x y v : Nat) :
    s.debugAccess h 4 x y v = { s with answer := Mem.read (s.hub h).sram x 4 } ∧
    s.debugAccess h 5 x y v = s.setHub h { s.hub h with sram := Mem.write (s.hub h).sram x 4 v } ∧
    (x < 4 → s.debugAccess h 0 x y v =
      s.setBootHub h { s.bootHub h with cpHalted := (s.bootHub h).cpHalted ||| 2 ^ x }) := by
  have hgo : ¬ ((!(s.bootHub h).unlocked || !s.power.standby) = true) := by simp [hun, hon]
  refine ⟨?_, ?_, fun hx => ?_⟩ <;> unfold Sys.debugAccess <;> rw [if_neg hgo]
  · rfl
  · rfl
  · rw [if_pos rfl, if_pos hx]
    rfl

end Debug

end Sys2Proof.Machine

/-! SUPPORT. Laws of the boot sequence: what a step leaves, the edge domain, and the hub that leads (R507–R510, R540). -/

namespace Sys2Proof.Machine

section Steps
variable {s : Sys} {h : Nat}

theorem Sys.setMissing_hub (code : Nat) : (s.setMissing h code).hub h = { s.hub h with missing := code } := by
  rw [Sys.setMissing, Sys.modHub, Sys.hub_setHub_same]

theorem Sys.setMissing_bootHub (code n : Nat) : (s.setMissing h code).bootHub n = s.bootHub n := rfl

/-- A hub refused by its boot: which element is missing, and its boot state. -/
theorem Sys.refused_hub (b : BootHub) (code : Nat) : ((s.setBootHub h b).setMissing h code).bootHub h = b ∧
    (((s.setBootHub h b).setMissing h code).hub h).missing = code :=
  ⟨by rw [Sys.setMissing_bootHub, Sys.bootHub_setBootHub, if_pos rfl], by rw [Sys.setMissing_hub]⟩

/-- A step done changes the boot state of the hubs and nothing else of the panel. -/
theorem Sys.stepDone_boot (h n : Nat) : ∃ m : NMap BootHub, s.stepDone h n =
    { s with boot := { s.boot with hubs := m, stepAt := s.now, begun := 0 } } := by
  unfold Sys.stepDone
  dsimp only
  split <;> exact ⟨_, rfl⟩

theorem Sys.stepDone_panel (h n : Nat) : (s.stepDone h n).hubs = s.hubs ∧ (s.stepDone h n).mesh = s.mesh ∧
    (s.stepDone h n).engines = s.engines ∧ (s.stepDone h n).power = s.power ∧ (s.stepDone h n).lead = s.lead := by
  obtain ⟨m, hm⟩ := Sys.stepDone_boot (s := s) h n
  rw [hm]
  exact ⟨rfl, rfl, rfl, rfl, rfl⟩

theorem Sys.stepDone_marks (h n : Nat) : (s.stepDone h n).boot.since = s.boot.since ∧
    (s.stepDone h n).boot.fixed = s.boot.fixed ∧ (s.stepDone h n).boot.leadKnown = s.boot.leadKnown := by
  obtain ⟨m, hm⟩ := Sys.stepDone_boot (s := s) h n
  rw [hm]
  exact ⟨rfl, rfl, rfl⟩

theorem Sys.stepDone_bootHub (hh : h < 2) (n : Nat) : (s.stepDone h n).bootHub h = { s.bootHub h with step := n } := by
  have hne : h ≠ 1 - h := by omega
  unfold Sys.stepDone
  extract_lets s1 o s2
  have hs1 : s1.bootHub h = { s.bootHub h with step := n } := by
    unfold s1
    rw [Sys.modBootHub, Sys.bootHub_setBootHub, if_pos rfl]
  change s2.bootHub h = _
  unfold s2
  split
  · rw [Sys.modBootHub, Sys.bootHub_setBootHub, if_neg hne, hs1]
  · exact hs1

/-- Before READY and with no step begun, nothing settles. -/
theorem Sys.settleBoot_idle (hbegun : s.boot.begun = 0) (hready : s.boot.ready = false) : s.settleBoot = s := by
  unfold Sys.settleBoot
  dsimp only
  rw [if_neg (by omega), if_neg (by omega), if_neg (by omega), if_neg (by simp [hready])]

/-- The steps of a hub that is in its boot and begins no step of the lead's. -/
structure Sys.Boots (s : Sys) (h : Nat) : Prop where
  recovery : (s.bootHub h).recovery = false
  excluded : (s.bootHub h).excluded = false
  standby : s.power.standby = true
  begun : s.boot.begun = 0
  ready : s.boot.ready = false

variable {res : BootRes}

theorem Sys.Boots.go (hb : s.Boots h) :
    ¬ (((s.bootHub h).recovery || (s.bootHub h).excluded || !s.power.standby || decide (s.boot.begun ≠ 0)) = true) := by
  simp [hb.recovery, hb.excluded, hb.standby, hb.begun]

theorem Sys.bootStep_zero (hb : s.Boots h) (hstep : (s.bootHub h).step = 0) : s.bootStep h res =
    if s.power.feeds.any (fun f => f.2.qualified) then ({ s with boot := { s.boot with since := s.now } } : Sys).stepDone h 1
    else s := by
  unfold Sys.bootStep
  rw [Sys.settleBoot_idle hb.begun hb.ready]
  dsimp only
  rw [if_neg hb.go, if_pos hstep]

theorem Sys.bootStep_one (hb : s.Boots h) (hstep : (s.bootHub h).step = 1) : s.bootStep h res = s.edgeUp h := by
  unfold Sys.bootStep
  rw [Sys.settleBoot_idle hb.begun hb.ready]
  dsimp only
  rw [if_neg hb.go, if_neg (by omega), if_pos hstep]

theorem Sys.bootStep_two (hb : s.Boots h) (hstep : (s.bootHub h).step = 2) : s.bootStep h res =
    if !res.refOk || !(s.bootHub h).refOk then
      (s.setBootHub h { s.bootHub h with refOk := false, excluded := true }).setMissing h 3
    else if !res.flashOk then (s.setBootHub h { s.bootHub h with excluded := true }).setMissing h 4
    else s.stepDone h 3 := by
  unfold Sys.bootStep
  rw [Sys.settleBoot_idle hb.begun hb.ready]
  dsimp only
  rw [if_neg hb.go, if_neg (by omega), if_neg (by omega), if_pos hstep]

theorem Sys.bootStep_three (hb : s.Boots h) (hstep : (s.bootHub h).step = 3) (hwait : (s.bootHub h).claimWait = none) :
    s.bootStep h res = s.bootImage h := by
  unfold Sys.bootStep
  rw [Sys.settleBoot_idle hb.begun hb.ready]
  dsimp only
  rw [if_neg hb.go, if_neg (by omega), if_neg (by omega), if_neg (by omega), if_pos hstep, hwait]
  rfl

theorem Sys.bootStep_seven (hb : s.Boots h) (hstep : (s.bootHub h).step = 7) (hknown : s.boot.leadKnown = true)
    (hlead : s.lead.hub = h) : s.bootStep h res = s.bootFeature.stepDone h 8 := by
  unfold Sys.bootStep
  rw [Sys.settleBoot_idle hb.begun hb.ready]
  dsimp only
  rw [if_neg hb.go, if_neg (by omega), if_neg (by omega), if_neg (by omega), if_neg (by omega),
    if_neg (by simp [hknown, hlead]), if_neg (by omega), if_neg (by omega), if_neg (by omega), if_pos hstep]

theorem Sys.bootFeature_boot : s.bootFeature.boot.fixed = true ∧ s.bootFeature.boot.hubs = s.boot.hubs := by
  unfold Sys.bootFeature
  dsimp only
  refine ⟨rfl, ?_⟩
  exact List.foldlRecOn (motive := fun u : Sys => u.boot.hubs = s.boot.hubs) _ _ rfl fun u hu t _ => hu

/-- A hub at step 2 is late 120 ms after the first feed qualified (R507, R508). -/
theorem Sys.bootStepTimeout_two (hstep : (s.bootHub h).step = 2) (hbegun : s.boot.begun = 0) (hready : s.boot.ready = false) :
    s.bootStepTimeout h = if s.now < s.boot.since + 120000000 then s
      else (s.setBootHub h { s.bootHub h with excluded := true }).setMissing h (if (s.bootHub h).refOk then 4 else 3) := by
  unfold Sys.bootStepTimeout
  rw [Sys.settleBoot_idle hbegun hready]
  dsimp only
  rw [hstep]
  by_cases hlate : s.now < s.boot.since + 120000000
  · rw [if_pos hlate]
    exact if_pos (by simpa [bootMax] using hlate)
  · rw [if_neg hlate]
    refine (if_neg (by simpa [bootMax] using hlate)).trans ?_
    rfl

end Steps

section Edge
variable {s : Sys} {h : Nat}

theorem Sys.tadUp_tads (s : Sys) (n : Nat) : ∃ m, s.tadUp n = { s with tads := m } := by
  unfold Sys.tadUp
  refine List.foldlRecOn (motive := fun u : Sys => ∃ m, u = { s with tads := m }) _ _ ⟨_, rfl⟩ ?_
  rintro u ⟨m, rfl⟩ p _
  split
  · split
    · exact ⟨_, rfl⟩
    · exact ⟨_, rfl⟩
  · exact ⟨_, rfl⟩

theorem Sys.tadUp_engines (s : Sys) (n : Nat) : (s.tadUp n).engines = s.engines := by
  obtain ⟨m, hm⟩ := Sys.tadUp_tads s n
  rw [hm]

/-- An engine that powers up with its hub. -/
def Sys.engineUp (h : Nat) (s : Sys) (i : Nat) : Sys :=
  (s.modEngine (4 * h + i) (fun e => { e with live := true })).tadUp (258 + 4 * h + i)

theorem Sys.engineUp_engine (i j : Nat) : (Sys.engineUp h s i).engine j =
    if j = 4 * h + i then { s.engine j with live := true } else s.engine j := by
  rw [Sys.engineUp, Sys.engine_congr (Sys.tadUp_engines _ _)]
  split
  next hj => rw [hj, Sys.engine_modEngine]
  next hj => exact Sys.engine_setEngine_other _ _ _ _ hj

/-- The engines and the tadpole routers apart, the panel is the same. -/
def Sys.SameButEngines (a b : Sys) : Prop :=
  b.hubs = a.hubs ∧ b.mesh = a.mesh ∧ b.power = a.power ∧ b.boot = a.boot

theorem Sys.engineUp_same (i : Nat) : Sys.SameButEngines s (Sys.engineUp h s i) := by
  obtain ⟨m, hm⟩ := Sys.tadUp_tads (s.modEngine (4 * h + i) (fun e => { e with live := true })) (258 + 4 * h + i)
  rw [Sys.engineUp, hm]
  exact ⟨rfl, rfl, rfl, rfl⟩

theorem Sys.enginesUp_live : (([0, 1, 2, 3].foldl (Sys.engineUp h) s).engine (4 * h)).live = true := by
  refine foldl_establishes (P := fun i (u : Sys) => (u.engine (4 * h + i)).live = true) (fun u i => ?_) (fun u i j hu => ?_)
    [0, 1, 2, 3] s 0 (by simp)
  · rw [Sys.engineUp_engine, if_pos rfl]
  · rw [Sys.engineUp_engine]
    split
    · rfl
    · exact hu

theorem Sys.foldl_sameButEngines {α : Type} {f : Sys → α → Sys} (hf : ∀ u a, Sys.SameButEngines u (f u a)) (l : List α) :
    Sys.SameButEngines s (l.foldl f s) :=
  List.foldlRecOn (motive := fun u => Sys.SameButEngines s u) _ _ ⟨rfl, rfl, rfl, rfl⟩ fun u hu a _ => by
    obtain ⟨h1, h2, h3, h4⟩ := hf u a
    obtain ⟨k1, k2, k3, k4⟩ := hu
    exact ⟨h1.trans k1, h2.trans k2, h3.trans k3, h4.trans k4⟩

/-- The edge domain of a hub powers up with its hub, router and engines (R450, R507). -/
theorem Sys.edgeUp_live (hh : h < 2) (hkept : (s.flash h).domainLost (16 + h) = false) :
    ((s.edgeUp h).bootHub h).step = 2 ∧ ((s.edgeUp h).hub h).live = true ∧ ((s.edgeUp h).router (256 + h)).alive = true ∧
      ((s.edgeUp h).engine (4 * h)).live = true ∧ (NMap.get {} (s.edgeUp h).power.domains (16 + h)).state = 2 := by
  unfold Sys.edgeUp
  extract_lets d p on s1 s2 r s3 q s4 s5
  rw [if_neg (by simp [d, hkept])]
  have hs3 : (s3.hub h).live = true ∧ (s3.router (256 + h)).alive = true ∧ (NMap.get {} s3.power.domains (16 + h)).state = 2 := by
    refine ⟨?_, ?_, ?_⟩
    · show (s2.hub h).live = true
      simp [s2, Sys.modHub]
    · simp [s3]
    · show (NMap.get {} s1.power.domains (16 + h)).state = 2
      simp [s1, NMap.modify, d]
  have hs4 : Sys.SameButEngines (s3.setReplica (256 + h) { q with stale := s3.boot.leadKnown }) s4 :=
    Sys.foldl_sameButEngines (f := fun (u : Sys) n => u.setReplica n { u.replica n with stale := u.boot.leadKnown })
      (fun u n => ⟨rfl, rfl, rfl, rfl⟩) _
  have hs5 : Sys.SameButEngines s4 s5 := Sys.foldl_sameButEngines (fun u i => Sys.engineUp_same i) _
  have heng : (s5.engine (4 * h)).live = true := Sys.enginesUp_live
  obtain ⟨hhubs, hmesh, hpower, -⟩ := hs4
  obtain ⟨hhubs', hmesh', hpower', -⟩ := hs5
  obtain ⟨hl, ha, hd⟩ := hs3
  obtain ⟨khubs, kmesh, keng, kpower, -⟩ := Sys.stepDone_panel (s := s5) h 2
  refine ⟨by rw [Sys.stepDone_bootHub hh], ?_, ?_, ?_, ?_⟩
  · rw [Sys.hub_congr (a := s3) (khubs.trans (hhubs'.trans hhubs))]; exact hl
  · rw [Sys.router_congr (a := s3) (kmesh.trans (hmesh'.trans hmesh))]; exact ha
  · rw [Sys.engine_congr keng]; exact heng
  · rw [kpower, hpower', hpower]; exact hd

end Edge

end Sys2Proof.Machine

/-! SUPPORT. Which hub leads, a hub that joins, and O60 (R510, R520–R522). -/

namespace Sys2Proof.Machine

section Leads
variable {s : Sys} {h : Nat}

/-- The roles of the optical ports are loaded; the lead hub and the hubs' boot states stay. -/
theorem Sys.loadRoles_boot : s.loadRoles.lead = s.lead ∧ s.loadRoles.boot.leadKnown = s.boot.leadKnown ∧
    s.loadRoles.boot.hubs = s.boot.hubs := by
  unfold Sys.loadRoles
  extract_lets role b0 s1
  have hs1 : s1.lead = s.lead ∧ s1.boot.leadKnown = s.boot.leadKnown ∧ s1.boot.hubs = s.boot.hubs := ⟨rfl, rfl, rfl⟩
  clear_value s1 role
  refine List.foldlRecOn (motive := fun u : Sys => u.lead = s.lead ∧ u.boot.leadKnown = s.boot.leadKnown ∧
    u.boot.hubs = s.boot.hubs) _ _ hs1 fun u hu e _ => ?_
  exact List.foldlRecOn (motive := fun w : Sys => w.lead = s.lead ∧ w.boot.leadKnown = s.boot.leadKnown ∧
    w.boot.hubs = s.boot.hubs) _ _ hu fun w hw p _ => hw

theorem Sys.updateCap_sameButLog : ∃ p, Sys.SameButLog { s with power := p } s.updateCap := by
  unfold Sys.updateCap
  dsimp only
  split
  · exact ⟨s.power, .refl⟩
  · exact ⟨_, (Sys.eventBoth_sameButLog 5).trans (Sys.log_sameButLog ..)⟩

/-- The firmware that starts on hub `h` makes it the lead (R510). -/
theorem Sys.goradStarts_led (h : Nat) : (s.goradStarts h).lead.hub = h ∧ (s.goradStarts h).boot.leadKnown = true ∧
    (s.goradStarts h).boot.hubs = s.boot.hubs := by
  unfold Sys.goradStarts
  extract_lets b0 s1 f s2 b2 p2 s3 s4 s5
  have hs2 : s2.lead.hub = h ∧ s2.boot.leadKnown = true ∧ s2.boot.hubs = s.boot.hubs := by
    obtain ⟨hl, hk, hb⟩ := Sys.loadRoles_boot (s := s1)
    exact ⟨congrArg Lead.hub hl, hk, hb⟩
  have hs3 : s3.lead.hub = h ∧ s3.boot.leadKnown = true ∧ s3.boot.hubs = s.boot.hubs := hs2
  obtain ⟨p, hcap⟩ := Sys.updateCap_sameButLog (s := s3)
  have hs5 : Sys.SameButLog s4 s5 := by
    unfold s5
    split
    · exact Sys.log_sameButLog ..
    · exact .refl
  have hall (z : Sys) (hz : Sys.SameButLog s5 z) : z.lead.hub = h ∧ z.boot.leadKnown = true ∧ z.boot.hubs = s.boot.hubs := by
    have hlog := (hcap.trans hs5).trans hz
    rw [hlog.leadHub, hlog.boot]
    exact hs3
  split
  · exact hall _ (Sys.log_sameButLog ..)
  · exact hall _ .refl

theorem Sys.claimLead_led (hh : h < 2) : (s.claimLead h).lead.hub = h ∧ (s.claimLead h).boot.leadKnown = true ∧
    ((s.claimLead h).bootHub h).step = 4 := by
  unfold Sys.claimLead
  extract_lets s1 s2
  obtain ⟨hlead, hknown, -⟩ := Sys.goradStarts_led (s := s2) h
  obtain ⟨-, -, -, -, kl⟩ := Sys.stepDone_panel (s := s2.goradStarts h) h 4
  obtain ⟨-, -, kk⟩ := Sys.stepDone_marks (s := s2.goradStarts h) h 4
  exact ⟨by rw [kl]; exact hlead, by rw [kk]; exact hknown, by rw [Sys.stepDone_bootHub hh]⟩

/-- The state of a panel whose boot ROM has chosen a bank, with a fall-back reported (R520). -/
theorem Sys.bootImage_chosen : ∃ y : Sys, y.boot.leadKnown = s.boot.leadKnown ∧ y.boot.hubs = s.boot.hubs ∧
    ((s.chooseBank h).2.1 = none →
      s.bootImage h = (y.modBootHub h (fun b => { b with recovery := true, armed := none })).setMissing h 5) ∧
    (h = 0 → (s.chooseBank h).2.1 ≠ none → s.boot.leadKnown = false → ∃ w, s.bootImage h = Sys.claimLead w 0) := by
  unfold Sys.bootImage
  rcases s.chooseBank h with ⟨f, cand, trial, fell⟩
  dsimp -zeta only
  extract_lets s1 s2
  have hs2 : s2.boot.leadKnown = s.boot.leadKnown ∧ s2.boot.hubs = s.boot.hubs := by
    unfold s2
    split
    · rw [(Sys.log_sameButLog ..).boot]
      exact ⟨rfl, rfl⟩
    · exact ⟨rfl, rfl⟩
  clear_value s2
  refine ⟨s2, hs2.1, hs2.2, fun hnone => ?_, fun h0 hsome hknown => ?_⟩
  · rw [hnone]
  · obtain ⟨k, rfl⟩ := Option.ne_none_iff_exists'.mp hsome
    refine ⟨_, (if_neg ?_).trans (if_pos h0)⟩
    rw [show (Sys.modBootHub s2 h _).boot.leadKnown = s2.boot.leadKnown from rfl, hs2.1, hknown]
    decide

theorem Sys.bootImage_none (hnone : (s.chooseBank h).2.1 = none) : ((s.bootImage h).bootHub h).recovery = true ∧
    ((s.bootImage h).hub h).missing = 5 := by
  obtain ⟨y, -, -, heq, -⟩ := Sys.bootImage_chosen (s := s) (h := h)
  rw [heq hnone]
  refine ⟨?_, by rw [Sys.setMissing_hub]⟩
  rw [Sys.setMissing_bootHub, Sys.modBootHub, Sys.bootHub_setBootHub, if_pos rfl]

theorem Sys.reconcile_bootHub (n : Nat) : s.reconcile.bootHub n = s.bootHub n := rfl

theorem Sys.raiseReady_ready : ((s.raiseReady h).hub h).ready = true ∧ (s.raiseReady h).boot = s.boot := by
  unfold Sys.raiseReady
  split
  next hr => exact ⟨hr, rfl⟩
  next =>
    have hlog := (Sys.event_sameButLog (s := s.modHub h (fun u => { u with ready := true, missing := 0 })) h 0).trans
      (Sys.event_sameButLog (1 - h) 0)
    obtain ⟨r, m, hr⟩ := hlog.2 h
    refine ⟨?_, hlog.boot⟩
    rw [hr, Sys.modHub, Sys.hub_setHub_same]

/-- A hub that may join follows the lead's step, and is ready where the lead is (R510). -/
theorem Sys.hubJoin_joins (hh : h < 2) (hknown : s.boot.leadKnown = true) (hlead : s.lead.hub = 1 - h)
    (hstep : (s.bootHub h).step = 4) (hex : (s.bootHub h).excluded = false) (hrec : (s.bootHub h).recovery = false)
    (hlive : (s.hub h).live = true) (hjoin : s.mayJoin (256 + h) = true) :
    ((s.hubJoin h).bootHub h).step = (s.bootHub (1 - h)).step ∧ ((s.hubJoin h).bootHub h).peer = true ∧
      ((s.bootHub (1 - h)).step = 12 → (s.hub (1 - h)).ready = true → ((s.hubJoin h).hub h).ready = true) := by
  unfold Sys.hubJoin
  extract_lets b l s1 s2
  have hl : l = s.bootHub (1 - h) := by unfold l; rw [hlead]
  have hs2 : s2.bootHub h = { s.bootHub h with step := (s.bootHub (1 - h)).step, peer := true } ∧
      s2.hubs = s.hubs ∧ s2.lead.hub = 1 - h := by
    have hs1 : s1.bootHub h = { s.bootHub h with step := (s.bootHub (1 - h)).step, peer := true } := by
      unfold s1
      rw [Sys.reconcile_bootHub, Sys.modBootHub, Sys.bootHub_setBootHub, if_pos rfl, hl]
    have hask : (s1.askSwitch).boot = s1.boot ∧ s1.askSwitch.hubs = s1.hubs ∧ s1.askSwitch.lead.hub = s1.lead.hub := by
      unfold Sys.askSwitch
      split <;> exact ⟨rfl, rfl, rfl⟩
    unfold s2
    split
    · exact ⟨hs1, rfl, hlead⟩
    · exact ⟨(Sys.bootHub_congr hask.1 h).trans hs1, hask.2.1, hask.2.2.trans hlead⟩
  obtain ⟨hboot, hhubs, hhub⟩ := hs2
  clear_value s2
  rw [if_neg (by simp [b, hknown, hlead, hstep, hex, hrec, hlive, hjoin]; omega), hl, hhub, Sys.hub_congr hhubs]
  by_cases hready : (decide ((s.bootHub (1 - h)).step = 12) && (s.hub (1 - h)).ready) = true
  · rw [if_pos hready]
    obtain ⟨hr, hb⟩ := Sys.raiseReady_ready (s := s2.modBootHub h (fun x => { x with armed := none })) (h := h)
    refine ⟨?_, ?_, fun _ _ => hr⟩ <;>
      rw [Sys.bootHub_congr hb, Sys.modBootHub, Sys.bootHub_setBootHub, if_pos rfl, hboot]
  · rw [if_neg hready, hboot]
    exact ⟨rfl, rfl, fun h12 hr => absurd (by simp [h12, hr]) hready⟩

/-- No claim within 1 s (R510). -/
theorem Sys.leadClaimTimeout_eq {t : Nat} (hwait : (s.bootHub 1).claimWait = some t) (hclaim : (s.bootHub 1).claim = false)
    (hknown : s.boot.leadKnown = false) : s.leadClaimTimeout = if t + 1000000000 ≤ s.now then s.claimLead 1 else s := by
  rw [Sys.leadClaimTimeout, hwait]
  dsimp only
  by_cases hlate : t + 1000000000 ≤ s.now
  · rw [if_pos hlate, if_pos]
    rw [hclaim, hknown, Bool.and_eq_true, Bool.and_eq_true, decide_eq_true_eq]
    exact ⟨⟨rfl, hlate⟩, rfl⟩
  · rw [if_neg hlate, if_neg]
    rw [Bool.and_eq_true, Bool.and_eq_true, decide_eq_true_eq]
    exact fun h => hlate h.1.2

end Leads

section Rows
variable (s : State) {h : Nat}

/-- What O60 states of the resets (R505, R521). -/
theorem State.resets (hh : h < 2) :
    (s.sys.power.standby = true → exec .coldReset s = .next s) ∧
    (s.sys.power.standby = false → ∃ z, exec .coldReset s = .next z ∧ s.sys.Dark z.sys h ∧ z.sys.now = 0 ∧
      z.sys.power.standby = true ∧ (z.sys.tad (256 + h)).alive = true ∧ (z.sys.bootHub h).step = 0) ∧
    (∃ z, exec .standbyRailLoss s = .next z ∧ s.sys.Dark z.sys h ∧ z.sys.power.standby = false ∧ z.sys.tads = []) ∧
    ((s.sys.hub h).memSpace = true → (s.sys.hub h).linkRate ≠ 0 →
      (s.sys.boot.leadKnown = true → s.sys.lead.hub = h → ∃ z, exec (.panelReset h) s = .next z ∧ s.sys.Dark z.sys h ∧
        z.sys.now = s.sys.now ∧ (z.sys.hub h).linkRate = (s.sys.hub h).linkRate ∧
        (z.sys.hub h).busMaster = (s.sys.hub h).busMaster ∧
        (z.sys.hub h).qps = (s.sys.hub h).qps.map (fun e => (e.1, { nextNum := e.2.nextNum, cause := 7 }))) ∧
      (s.sys.boot.leadKnown = false ∨ s.sys.lead.hub ≠ h →
        exec (.panelReset h) s = .next { s with sys := s.sys.log 0x0006 1 0 0 0 0 })) ∧
    (∀ t, (s.sys.bootHub h).armed = some t → (s.sys.bootHub h).step < 12 →
      (s.sys.now < t + 30000000000 → exec (.bootWatchdog h) s = .next s) ∧
      (t + 30000000000 ≤ s.sys.now → ∃ z, exec (.bootWatchdog h) s = .next z ∧ s.sys.Dark z.sys h ∧ z.sys.now = s.sys.now)) ∧
    ((s.sys.bootHub h).armed = none → exec (.bootWatchdog h) s = .next s) := by
  have hdo (i : Instr) (f : Sys → Sys) (hexec : exec i s = s.act i.wf f) (hwf : i.wf = true) :
      exec i s = .next { s with sys := f s.sys } := by rw [hexec, hwf, State.act_true]
  have hhub : isHub h = true := by simp [isHub, hh]
  have hcold := hdo _ _ (exec_coldReset s) rfl
  have hreset := hdo _ _ (exec_panelReset h s) hhub
  have hdog := hdo _ _ (exec_bootWatchdog h s) hhub
  refine ⟨fun hon => ?_, fun hoff => ?_, ?_, fun hmem hlink => ⟨fun hknown hlead => ?_, fun hnot => ?_⟩,
    fun t harmed hstep => ⟨fun hearly => ?_, fun hlate => ?_⟩, fun hnone => ?_⟩
  · rw [hcold, Sys.coldReset, if_pos hon]
  · refine ⟨_, hcold, Sys.coldReset_dark hoff hh, ?_⟩
    dsimp only
    rw [Sys.coldReset_off hoff]
    refine ⟨rfl, rfl, ?_, ?_⟩
    · show (NMap.get {} [(256, ({ alive := true } : TRouter)), (257, { alive := true })] (256 + h)).alive = true
      rcases (by omega : h = 0 ∨ h = 1) with rfl | rfl <;> rfl
    · exact congrArg BootHub.step (Sys.coldBoot_bootHub rfl hh)
  · exact ⟨_, hdo _ _ (exec_standbyRailLoss s) rfl, Sys.standbyLoss_dark hh, rfl, rfl⟩
  · refine ⟨_, hreset, ?_⟩
    dsimp only
    rw [Sys.hostWord_panelReset hmem hlink, Sys.panelReset, if_pos (by simp [hknown, hlead])]
    refine ⟨Sys.restart_dark hh, rfl, ?_⟩
    rw [Sys.restart_hub hh]
    exact ⟨rfl, rfl, rfl⟩
  · rw [hreset, Sys.hostWord_panelReset hmem hlink, Sys.panelReset, if_neg]
    rcases hnot with hnot | hnot <;> simp [hnot]
  · rw [hdog, Sys.bootWatchdog_eq harmed hstep, if_neg (by omega)]
  · refine ⟨_, hdog, ?_⟩
    dsimp only
    rw [Sys.bootWatchdog_eq harmed hstep, if_pos hlate]
    exact ⟨Sys.restart_dark hh, rfl⟩
  · rw [hdog, Sys.bootWatchdog, hnone]

/-- What O60 states of the boot sequence (R507, R508, R540). -/
theorem State.bootSteps (hh : h < 2) {res : BootRes} (hb : s.sys.Boots h) :
    let b := s.sys.bootHub h
    let step (z : State) : Nat := (z.sys.bootHub h).step
    (b.step = 0 → (∀ f ∈ s.sys.power.feeds, f.2.qualified = false) → exec (.bootStep h res) s = .next s) ∧
    (b.step = 0 → (∃ f ∈ s.sys.power.feeds, f.2.qualified = true) →
      ∃ z, exec (.bootStep h res) s = .next z ∧ step z = 1 ∧ z.sys.boot.since = s.sys.now) ∧
    (b.step = 1 → (s.sys.flash h).domainLost (16 + h) = false → ∃ z, exec (.bootStep h res) s = .next z ∧ step z = 2 ∧
      (z.sys.hub h).live = true ∧ (z.sys.router (256 + h)).alive = true ∧ (z.sys.engine (4 * h)).live = true ∧
      (NMap.get {} z.sys.power.domains (16 + h)).state = 2) ∧
    (b.step = 2 → res.refOk = true → b.refOk = true → res.flashOk = true →
      ∃ z, exec (.bootStep h res) s = .next z ∧ step z = 3) ∧
    (b.step = 2 → res.refOk = false → ∃ z, exec (.bootStep h res) s = .next z ∧ (z.sys.bootHub h).excluded = true ∧
      (z.sys.hub h).missing = 3) ∧
    (b.step = 2 → res.refOk = true → b.refOk = true → res.flashOk = false → ∃ z, exec (.bootStep h res) s = .next z ∧
      (z.sys.bootHub h).excluded = true ∧ (z.sys.hub h).missing = 4) ∧
    (b.step = 3 → b.claimWait = none → (s.sys.chooseBank h).2.1 = none → ∃ z, exec (.bootStep h res) s = .next z ∧
      (z.sys.bootHub h).recovery = true ∧ (z.sys.hub h).missing = 5) ∧
    (b.step = 3 → h = 0 → b.claimWait = none → (s.sys.chooseBank h).2.1 ≠ none → s.sys.boot.leadKnown = false →
      ∃ z, exec (.bootStep h res) s = .next z ∧ step z = 4 ∧ z.sys.lead.hub = 0 ∧ z.sys.boot.leadKnown = true) ∧
    (b.step = 7 → s.sys.boot.leadKnown = true → s.sys.lead.hub = h → ∃ z, exec (.bootStep h res) s = .next z ∧ step z = 8 ∧
      z.sys.boot.fixed = true) := by
  intro b step
  have hdo : exec (.bootStep h res) s = .next { s with sys := s.sys.bootStep h res } := by
    rw [exec_bootStep, show (Instr.bootStep h res).wf = true by simp [Instr.wf, isHub, hh], State.act_true]
  refine ⟨fun h0 hdead => ?_, fun h0 hfed => ?_, fun h1 hkept => ?_, fun h2 href href' hflash => ?_, fun h2 href => ?_,
    fun h2 href href' hflash => ?_, fun h3 hwait hnone => ?_, fun h3 hz hwait hsome hknown => ?_, fun h7 hknown hlead => ?_⟩
  · have hany : s.sys.power.feeds.any (fun f => f.2.qualified) = false :=
      List.any_eq_false.mpr fun f hf => by simp [hdead f hf]
    rw [hdo, Sys.bootStep_zero hb h0, hany]
    rfl
  · have hany : s.sys.power.feeds.any (fun f => f.2.qualified) = true := List.any_eq_true.mpr hfed
    refine ⟨_, hdo, ?_⟩
    dsimp only [step]
    rw [Sys.bootStep_zero hb h0, if_pos hany]
    exact ⟨by rw [Sys.stepDone_bootHub hh], (Sys.stepDone_marks h 1).1⟩
  · refine ⟨_, hdo, ?_⟩
    dsimp only [step]
    rw [Sys.bootStep_one hb h1]
    exact Sys.edgeUp_live hh hkept
  · refine ⟨_, hdo, ?_⟩
    dsimp only [step]
    rw [Sys.bootStep_two hb h2, if_neg (by simp [href, show (s.sys.bootHub h).refOk = true from href']), if_neg (by simp [hflash]),
      Sys.stepDone_bootHub hh]
  · refine ⟨_, hdo, ?_⟩
    dsimp only
    rw [Sys.bootStep_two hb h2, if_pos (by simp [href])]
    obtain ⟨hboot, hmiss⟩ := Sys.refused_hub (s := s.sys) (h := h) { s.sys.bootHub h with refOk := false, excluded := true } 3
    exact ⟨by rw [hboot], hmiss⟩
  · refine ⟨_, hdo, ?_⟩
    dsimp only
    rw [Sys.bootStep_two hb h2, if_neg (by simp [href, show (s.sys.bootHub h).refOk = true from href']), if_pos (by simp [hflash])]
    obtain ⟨hboot, hmiss⟩ := Sys.refused_hub (s := s.sys) (h := h) { s.sys.bootHub h with excluded := true } 4
    exact ⟨by rw [hboot], hmiss⟩
  · refine ⟨_, hdo, ?_⟩
    dsimp only
    rw [Sys.bootStep_three hb h3 hwait]
    exact Sys.bootImage_none hnone
  · refine ⟨_, hdo, ?_⟩
    dsimp only [step]
    obtain ⟨-, -, -, -, hclaim⟩ := Sys.bootImage_chosen (s := s.sys) (h := h)
    obtain ⟨w, hw⟩ := hclaim hz hsome hknown
    obtain ⟨hl, hk, hst⟩ := Sys.claimLead_led (s := w) (h := 0) (by decide)
    rw [Sys.bootStep_three hb h3 hwait, hw, hz]
    exact ⟨hst, hl, hk⟩
  · refine ⟨_, hdo, ?_⟩
    dsimp only [step]
    rw [Sys.bootStep_seven hb h7 hknown hlead]
    exact ⟨by rw [Sys.stepDone_bootHub hh], (Sys.stepDone_marks h 8).2.1.trans Sys.bootFeature_boot.1⟩

end Rows

/-- Settles O60: resets, the boot sequence, who leads, recovery, references and the debug port, clause by clause. -/
theorem resetsStartUpAndDebug : Obligations.ResetsStartUpAndDebug := by
  unfold Obligations.ResetsStartUpAndDebug
  intro s h hh now u b lead step dark
  have hdo (i : Instr) (f : Sys → Sys) (hexec : exec i s = s.act i.wf f) (hwf : i.wf = true) :
      exec i s = .next { s with sys := f s.sys } := by rw [hexec, hwf, State.act_true]
  have hhub : isHub h = true := by simp [isHub, hh]
  have hlate := hdo _ _ (exec_bootStepTimeout h s) hhub
  have hclaim := hdo _ _ (exec_leadClaim h s) hhub
  have hnoclaim := hdo _ _ (exec_leadClaimTimeout s) rfl
  have hjoin := hdo _ _ (exec_hubJoin h s) hhub
  have hgo := hdo _ _ (exec_hubBootRecoveryGo h s) hhub
  have hchal := hdo _ _ (exec_debugChallenge h s) hhub
  obtain ⟨hcold, hcoldOff, hrail, hpanel, hdog, hdogOff⟩ := State.resets s hh
  refine ⟨hcold, hcoldOff, hrail, hpanel, hdog, hdogOff,
    fun res hrec hex hon hbegun hready => State.bootSteps s hh ⟨hrec, hex, hon, hbegun, hready⟩,
    fun h2 hbegun hready => ⟨fun hearly => ?_, fun hover => ?_⟩, fun hcl hw hk => ?_, fun hcl => ?_,
    fun t hw hcl hk => ⟨fun hearly => ?_, fun hover => ?_⟩, fun hmay => ?_,
    fun hk hl hst hex hrec hlive hmay => ⟨_, hjoin, ?_⟩, fun hmem hlink hrec => ?_, ?_, fun n hn hon => ?_,
    fun hlow hon => ?_, fun hmany => ?_, fun c r t hc hlow hr ht => ?_, fun kind x y v hkind hv => ?_⟩
  · rw [hlate, Sys.bootStepTimeout_two h2 hbegun hready, if_pos hearly]
  · refine ⟨_, hlate, ?_⟩
    dsimp only
    rw [Sys.bootStepTimeout_two h2 hbegun hready, if_neg (by omega)]
    obtain ⟨hboot, hmiss⟩ := Sys.refused_hub (s := s.sys) (h := h) { s.sys.bootHub h with excluded := true }
      (if (s.sys.bootHub h).refOk then 4 else 3)
    exact ⟨by rw [hboot], hmiss⟩
  · rw [hclaim, Sys.leadClaim]
    rw [if_pos]
    rw [Bool.and_eq_true, Bool.and_eq_true]
    exact ⟨⟨hcl, hw⟩, hk⟩
  · rw [hclaim, Sys.leadClaim]
    rw [if_neg]
    rw [Bool.and_eq_true, Bool.and_eq_true]
    exact fun h => Bool.noConfusion (hcl.symm.trans h.1.1)
  · rw [hnoclaim, Sys.leadClaimTimeout_eq hw hcl hk, if_neg (by omega)]
  · refine ⟨_, hnoclaim, ?_⟩
    dsimp only
    rw [Sys.leadClaimTimeout_eq hw hcl hk, if_pos hover]
    exact Sys.claimLead_led (by decide)
  · rw [hjoin, Sys.hubJoin]
    dsimp only
    rw [if_pos (by simp [hmay])]
  · have hlead : lead = 1 - h := hl
    rw [hlead]
    exact Sys.hubJoin_joins hh hk hl hst hex hrec hlive hmay
  · have hrow (z : Sys) (hz : s.sys.recoveryGo h = z) : exec (.hubBootRecoveryGo h) s = .next { s with sys := z } := by
      rw [hgo, Sys.hostWord_recoveryGo hmem hlink, hz]
    have hstatus (st : Nat) : ((s.sys.recoveryStatus h st).bootHub h).recStatus = st := by
      rw [Sys.recoveryStatus, Sys.bootHub_setBootHub, if_pos rfl]
    intro a n
    refine ⟨fun hbad => ⟨_, hrow _ (Sys.recoveryGo_badField hrec hbad), hstatus _, rfl⟩, fun v hpos hlen haddr hread => ?_⟩
    have heq := Sys.recoveryGo_read hrec hpos hlen haddr hread
    refine ⟨fun hno => ⟨_, hrow _ (heq.trans (if_neg ?_)), hstatus _, rfl⟩, fun hyes => ⟨_, hrow _ (heq.trans (if_pos hyes)), ?_⟩⟩
    · exact Bool.eq_false_iff.mp hno
    · dsimp only
      rw [Sys.restart_flash, Sys.restart_hub hh, Sys.modFlash, Sys.flash_setFlash, if_pos rfl]
      exact ⟨NMap.get_put_same .., rfl, rfl, rfl⟩
  · rw [hdo _ _ (exec_referenceLoss (256 + h) s) (by simp [Instr.wf, isRouter]; omega), Sys.referenceLoss, if_neg (by omega),
      if_pos (by omega), Nat.add_sub_cancel_left]
    rfl
  · intro v
    rw [hdo _ _ (exec_referenceLoss n s) (by simp [Instr.wf, isRouter]; omega), Sys.referenceLoss, if_pos hn, if_pos hon]
  · obtain ⟨c, hser, heq⟩ := Sys.debugChallenge_open hlow hon
    refine ⟨_, c, hchal, ?_⟩
    have hboot : (s.sys.debugChallenge h).bootHub h = { s.sys.bootHub h with challenge := some c } := by
      rw [heq]
      exact (Sys.bootHub_setBootHub ..).trans (if_pos rfl)
    dsimp only
    rw [hboot]
    exact ⟨rfl, by rw [heq], hser, rfl⟩
  · rw [hchal, Sys.debugChallenge]
    dsimp only
    rw [if_pos]
    rw [Bool.or_eq_true, decide_eq_true_eq]
    exact .inl hmany
  · intro ok
    have hwf : (Instr.debugToken h r t).wf = true := by
      simp only [Instr.wf, Bool.and_eq_true, decide_eq_true_eq]
      exact ⟨⟨hhub, hr⟩, ht⟩
    have heq := Sys.debugToken_checked hc hlow r t
    refine ⟨_, hdo _ _ (exec_debugToken h r t s) hwf, ?_⟩
    dsimp only
    rw [heq]
    cases hok : ok
    · rw [if_neg (Bool.eq_false_iff.mp hok), Sys.bootHub_setBootHub, if_pos rfl]
      exact ⟨rfl, fun h => Bool.noConfusion h, fun _ => ⟨rfl, rfl⟩⟩
    · rw [if_pos hok, Sys.bootHub_congr (Sys.log_sameButLog ..).boot, Sys.bootHub_setBootHub, if_pos rfl]
      exact ⟨rfl, fun _ => ⟨rfl, rfl⟩, fun h => Bool.noConfusion h⟩
  · have hrow (k : Nat) (hk : k < 8) := hdo _ _ (exec_debugAccess h k x y v s)
      (show (isHub h && decide (k < 8) && decide (v < 2 ^ 32)) = true by
        rw [hhub, decide_eq_true hk, decide_eq_true hv]; rfl)
    refine ⟨fun hlock => ?_, fun hopen hon => ?_⟩
    · rw [hrow kind hkind, Sys.debugAccess, if_pos]
      rw [show (s.sys.bootHub h).unlocked = false from hlock]
      rfl
    · obtain ⟨h4, h5, h0⟩ := Sys.debugAccess_hub (s := s.sys) (h := h) hopen hon x y v
      rw [hrow 4 (by decide), hrow 5 (by decide), hrow 0 (by decide), h4, h5]
      exact ⟨rfl, rfl, fun hx => by rw [h0 hx]⟩

end Sys2Proof.Machine

/-! SUPPORT. What recovery leaves alone, for every part of the panel in which neither jobs, nor replies, nor messages on their
way show; routers that stay dead (R34, R480–R483). -/

namespace Sys2Proof.Machine

section Blind
variable {β : Type} {g : Sys → β} {s : Sys}

/-- A part of the panel in which neither logs, jobs, waiting replies, recovery, flash, health, host memory nor messages to
send show. -/
structure Sys.JobBlind (g : Sys → β) : Prop where
  log : ∀ a b, Sys.SameButLog a b → g b = g a
  job : ∀ s n j, g (Sys.setJob s n j) = g s
  waits : ∀ s w, g (Sys.setLead s { s.lead with waits := w }) = g s
  recov : ∀ s r, g (Sys.setLead s { s.lead with recov := r }) = g s
  hub : ∀ s h v, g (Sys.setHub s h v) = g s
  host : ∀ s a n v, g (Sys.hostWrite s a n v) = g s
  replays : ∀ s t b, g (Sys.modTile s t (fun x => { x with replaying := b })) = g s
  send : ∀ s n m, g (Sys.sendMsg s n m) = g s
  boot : ∀ (s : Sys) b, g { s with boot := b } = g s
  health : ∀ (s : Sys) h, g { s with health := h } = g s

variable (hg : Sys.JobBlind g)
include hg

theorem Sys.pushReply_blind (h q num : Nat) (r : Reply) : g (s.pushReply h q num r) = g s := by
  unfold Sys.pushReply
  dsimp only
  split
  · rfl
  · split <;> exact hg.hub ..

theorem Sys.answerWaits_blind (sel : WaitFor → Bool) (f : Reply → Reply) : g (s.answerWaits sel f) = g s :=
  (Sys.foldl_blind (fun _ _ => Sys.pushReply_blind hg ..) _ _).trans (hg.waits ..)

theorem Sys.sendAll_blind (l : List TMsg) : g (s.sendAll l) = g s := Sys.foldl_blind (fun _ _ => hg.send ..) _ _

theorem Sys.jobCtrl_blind (n code : Nat) : g (s.jobCtrl n code) = g s := Sys.sendAll_blind hg _

theorem Sys.upJob_blind (n : Nat) (f : Job → Job) : g (s.upJob n f) = g s := by
  have hlog (j : Job) : g ((s.setJob n j).eventBoth 4) = g s := (hg.log _ _ (Sys.eventBoth_sameButLog 4)).trans (hg.job ..)
  unfold Sys.upJob
  dsimp only
  split
  · split
    · split
      · exact (hg.host ..).trans (hlog _)
      · exact hlog _
    · split
      · exact (hg.host ..).trans (hg.job ..)
      · exact hg.job ..
  · split
    · exact hlog _
    · exact hg.job ..

theorem Sys.endJob_blind (n fail : Nat) : g (s.endJob n fail) = g s := by
  unfold Sys.endJob
  extract_lets u j v w x y z
  have hu : g u = g s := Sys.upJob_blind hg ..
  have hv : g v = g u := Sys.foldl_blind (fun _ _ => hg.replays ..) _ _
  have hw : g w = g v := Sys.pushReply_blind hg ..
  have hx : g x = g w := Sys.answerWaits_blind hg ..
  have hy : g y = g x := Sys.answerWaits_blind hg ..
  have hz : g z = g y := Sys.answerWaits_blind hg ..
  rw [Sys.answerWaits_blind hg, hz, hy, hx, hw, hv, hu]

theorem Sys.failJob_blind (n fail fault : Nat) : g (s.failJob n fail fault) = g s := by
  unfold Sys.failJob
  split
  · exact (Sys.endJob_blind hg ..).trans ((hg.job ..).trans (Sys.jobCtrl_blind hg ..))
  · rfl

theorem Sys.failPart_blind (p fail : Nat) : g (s.failPart p fail) = g s := by
  unfold Sys.failPart
  refine Sys.foldl_blind (fun u n => ?_) _ _
  split
  · exact Sys.failJob_blind hg ..
  · rfl

theorem Sys.freezeJob_blind (n : Nat) : g (s.freezeJob n) = g s := (Sys.jobCtrl_blind hg ..).trans (hg.job ..)

theorem Sys.beginReplay_blind (n : Nat) : g (s.beginReplay n) = g s := by
  unfold Sys.beginReplay
  extract_lets j u v w
  have hu : g u = g s := Sys.upJob_blind hg ..
  have hv : g v = g u := Sys.answerWaits_blind hg ..
  have hw : g w = g v := Sys.foldl_blind (fun _ _ => hg.replays ..) _ _
  split
  · rfl
  split
  · exact Sys.failJob_blind hg ..
  · rw [Sys.freezeJob_blind hg, hw, hv, hu]

theorem Sys.recoverPart_blind (p : Nat) : g (s.recoverPart p) = g s := by
  unfold Sys.recoverPart
  refine Sys.foldl_blind (fun u n => ?_) _ _
  dsimp only
  split
  · rfl
  split
  · exact Sys.freezeJob_blind hg ..
  split
  · rfl
  split
  · exact hg.recov ..
  · exact Sys.beginReplay_blind hg ..

theorem Sys.mapShed_blind (kind wher sub state logical : Nat) : g (s.mapShed kind wher sub state logical) = g s := hg.boot ..

theorem Sys.markShed_blind (kind wher sub : Nat) (hard host : Bool) : g (s.markShed kind wher sub hard host) = g s := by
  unfold Sys.markShed
  extract_lets key u
  have hu : g u = g s := hg.health ..
  split
  · rfl
  · rw [hg.log _ _ (Sys.eventBoth_sameButLog 7), hg.log _ _ (Sys.log_sameButLog ..), Sys.mapShed_blind hg, hu]

/-- The recovery of what a silent tile served, within its switch (R34). -/
theorem Sys.regrownIn_blind (ch : List (Nat × Nat)) (t : Nat) : g (s.regrownIn ch t) = g s := by
  unfold Sys.regrownIn
  extract_lets parts u v w
  have hu : g u = g s := (hg.recov ..).trans (Sys.markShed_blind hg ..)
  have hv : g v = g u := by
    refine Sys.foldl_blind (fun x c => ?_) _ _
    split
    · exact (hg.log _ _ (Sys.log_sameButLog ..)).trans (Sys.mapShed_blind hg ..)
    · exact hg.log _ _ (Sys.log_sameButLog ..)
  have hw : g w = g v := Sys.foldl_blind (fun _ _ => Sys.recoverPart_blind hg _) _ _
  refine (Sys.foldl_blind (fun x c => ?_) _ _).trans (hw.trans (hv.trans hu))
  split
  · rfl
  · exact Sys.foldl_blind (fun _ _ => Sys.failPart_blind hg ..) _ _

end Blind

section Standing
variable {s : Sys}

theorem Sys.tad_setTad (s : Sys) (n k : Nat) (v : TRouter) : (s.setTad n v).tad k = if k = n then v else s.tad k := NMap.get_put ..

theorem Sys.sendMsg_alive (n k : Nat) (m : TMsg) : ((s.sendMsg n m).tad k).alive = (s.tad k).alive := by
  rw [Sys.sendMsg, Sys.tad_setTad]
  dsimp only
  split
  next h => rw [h]; split <;> rfl
  next => rfl

theorem Sys.setTile_shed (t k : Nat) (v : Tile) (hv : v.shed = (s.tile t).shed) : ((s.setTile t v).tile k).shed = (s.tile k).shed := by
  by_cases hk : k = t
  · rw [hk, Sys.tile_setTile_same, hv]
  · rw [Sys.tile_setTile_other _ _ _ _ hk]

/-- The switch under way, which routers and tadpole routers are alive, which tiles are shed. -/
def Sys.standing (s : Sys) : Option Switch × NMap Router × (Nat → Bool) × (Nat → Bool) :=
  (s.lead.sw, s.mesh, fun n => (s.tad n).alive, fun t => (s.tile t).shed)

theorem Sys.standing_blind : Sys.JobBlind Sys.standing where
  log a b h := by
    have hmesh : b.mesh = a.mesh := by rw [h.1]
    have hsw : b.lead.sw = a.lead.sw := by rw [h.lead]
    simp only [Sys.standing, Sys.tad, Sys.tile, h.tads, h.tiles, hmesh, hsw]
  job _ _ _ := rfl
  waits _ _ := rfl
  recov _ _ := rfl
  hub _ _ _ := rfl
  host _ _ _ _ := rfl
  replays s t b := by
    have hshed (k : Nat) : ((s.modTile t (fun x => { x with replaying := b })).tile k).shed = (s.tile k).shed :=
      Sys.setTile_shed _ _ _ rfl
    exact congrArg (fun f => (s.lead.sw, s.mesh, (fun n => (s.tad n).alive), f)) (funext hshed)
  send s n m := by
    have halive (k : Nat) : ((s.sendMsg n m).tad k).alive = (s.tad k).alive := Sys.sendMsg_alive ..
    exact congrArg (fun f => (s.lead.sw, s.mesh, f, (fun t => (s.tile t).shed))) (funext halive)
  boot _ _ := rfl
  health _ _ := rfl

theorem Sys.standing_sw {a b : Sys} (h : b.standing = a.standing) : b.lead.sw = a.lead.sw := congrArg Prod.fst h
theorem Sys.standing_router {a b : Sys} (h : b.standing = a.standing) (n : Nat) : b.router n = a.router n :=
  Sys.router_congr (congrArg (fun x => x.2.1) h) n
theorem Sys.standing_alive {a b : Sys} (h : b.standing = a.standing) (n : Nat) : (b.tad n).alive = (a.tad n).alive :=
  congrFun (congrArg (fun x => x.2.2.1) h) n
theorem Sys.standing_shed {a b : Sys} (h : b.standing = a.standing) (t : Nat) : (b.tile t).shed = (a.tile t).shed :=
  congrFun (congrArg (fun x => x.2.2.2) h) t

end Standing

section Dead
variable {s : Sys} {n : Nat}

theorem Sys.router_setRouter (s : Sys) (n k : Nat) (v : Router) : (s.setRouter n v).router k = if k = n then v else s.router k :=
  NMap.get_put ..

/-- A failed end of a link leaves its router and every other alive or dead as they were (R240). -/
theorem Sys.linkEndFails_alive (m p k : Nat) : ((s.linkEndFails m p).router k).alive = (s.router k).alive := by
  have hport (y : Sys) (i : Nat) (q : MeshPort) : ((y.setRouter m ((y.router m).setPort i q)).router k).alive = (y.router k).alive := by
    rw [Sys.router_setRouter]
    split
    next h => rw [h]; rfl
    next => rfl
  have hdrop {α : Type} (y : Sys) (l : List α) (pkt : α → Packet) (c : Nat) :
      ((l.foldl (fun (u : Sys) h => u.discard m (pkt h) c) y).router k).alive = (y.router k).alive :=
    congrArg Router.alive ((Sys.discards_sameMesh l pkt c).router k)
  unfold Sys.linkEndFails
  extract_lets r q lost open_ u v w
  have hu : (u.router k).alive = (s.router k).alive := hport _ _ _
  have hv : (v.router k).alive = (u.router k).alive := hdrop _ _ _ _
  have hw : (w.router k).alive = (v.router k).alive := by
    refine Sys.foldl_blind (g := fun y : Sys => (y.router k).alive) (fun y i => ?_) _ _
    refine Sys.foldl_blind (g := fun y : Sys => (y.router k).alive) (fun y c => ?_) _ _
    dsimp only
    split
    · rfl
    · exact (hdrop _ _ _ _).trans (hport _ _ _)
  have hkept : (w.router k).alive = (s.router k).alive := hw.trans (hv.trans hu)
  split
  · rfl
  · split
    · split
      · exact (congrArg Router.alive (Sys.router_congr (Sys.noteAt_mesh ..) k)).trans hkept
      · exact (congrArg Router.alive (Sys.router_congr (Sys.noteAt_mesh ..) k)).trans hkept
    · exact hkept

theorem Sys.killRouter_dead (n : Nat) : ((s.killRouter n).router n).alive = false := by
  unfold Sys.killRouter
  refine List.foldlRecOn (motive := fun u : Sys => (u.router n).alive = false) _ _ ?_ fun u hu p _ => ?_
  · rw [Sys.router_setRouter_same]
  · split
    · split
      · rw [Sys.linkEndFails_alive]; exact hu
      · exact hu
    · exact hu

theorem Sys.killRouter_sameLead (n : Nat) : Sys.SameLead s (s.killRouter n) := by
  unfold Sys.killRouter
  refine Sys.SameLead.trans (b := s.setRouter n { s.router n with alive := false }) rfl (Sys.foldl_sameLead (fun u p => ?_) _ _)
  split
  · split
    · exact Sys.linkEndFails_sameLead ..
    · exact .refl
  · exact .refl

theorem Sys.shed_blind : Sys.NetBlind (fun s => fun t => (Sys.tile s t).shed) where
  tad _ _ _ := rfl
  router _ _ _ := rfl
  link _ _ _ _ := rfl
  regs _ _ _ := funext fun _ => Sys.setTile_shed _ _ _ rfl

theorem Sys.killRouter_shed (n t : Nat) : ((s.killRouter n).tile t).shed = (s.tile t).shed :=
  congrFun (Sys.killRouter_blind Sys.shed_blind n) t

end Dead

end Sys2Proof.Machine

/-! SUPPORT. The lead hub's messages and waits in an epoch switch, and O38 (R33, R34, R286). -/

namespace Sys2Proof.Machine

section Messages
variable {s : Sys}

/-- A message as the lead hub's router sends it. -/
def Sys.stamped (s : Sys) (m : TMsg) : TMsg := { m with src := s.leadAddr, rgen := (s.tad s.leadAddr).rgen }

/-- Urgent messages of the lead hub leave its router in their order. -/
theorem Sys.sendAll_urgent (l : List TMsg) : ∀ s : Sys, (∀ m ∈ l, m.urgent = true) →
    (s.sendAll l).tad s.leadAddr =
      { s.tad s.leadAddr with outUrgent := (s.tad s.leadAddr).outUrgent ++ l.map s.stamped } := by
  induction l with
  | nil => intro s _; simp [Sys.sendAll]
  | cons m l ih =>
    intro s hu
    have hone := Sys.sendMsg_urgent s s.leadAddr m (hu m List.mem_cons_self)
    have haddr : (s.sendMsg s.leadAddr m).leadAddr = s.leadAddr := rfl
    have hstamp : (s.sendMsg s.leadAddr m).stamped = s.stamped := by
      funext k
      rw [Sys.stamped, haddr, hone]
      rfl
    have hrest := ih (s.sendMsg s.leadAddr m) fun k hk => hu k (List.mem_cons_of_mem _ hk)
    rw [haddr, hstamp, hone] at hrest
    refine Eq.trans (b := ((s.sendMsg s.leadAddr m).sendAll l).tad s.leadAddr) rfl (hrest.trans ?_)
    simp [Sys.stamped]

/-- Lists of messages sent one after another leave what sending leaves. -/
theorem Sys.sendLists_blind {β α : Type} {g : Sys → β} (hg : Sys.JobBlind g) (l : List α) (f : α → List TMsg) :
    g (l.foldl (fun (u : Sys) a => u.sendAll (f a)) s) = g s :=
  Sys.foldl_blind (fun _ _ => Sys.sendAll_blind hg _) _ _

theorem Sys.sendLists_sameLead {α : Type} (l : List α) (f : α → List TMsg) :
    Sys.SameLead s (l.foldl (fun (u : Sys) a => u.sendAll (f a)) s) :=
  Sys.foldl_sameLead (fun _ _ => Sys.sendAll_sameLead _) _ _

/-- Which replicas are live does not depend on what a router still has to send or to take (R30, R33). -/
theorem Sys.liveReplicas_congr {a b : Sys} (htads : ∀ n, (b.tad n).alive = (a.tad n).alive) (hmesh : b.mesh = a.mesh)
    (heng : b.engines = a.engines) (hhubs : b.hubs = a.hubs) : b.liveReplicas = a.liveReplicas := by
  simp only [Sys.liveReplicas, htads, Sys.router_congr hmesh, Sys.engine_congr heng, Sys.hub_congr hhubs]

theorem Sys.swReplicas_routes (sw sw' : Switch) (h : sw'.routes = sw.routes) : s.swReplicas sw' = s.swReplicas sw := by
  rw [Sys.swReplicas, h, Sys.swReplicas]

/-- The panel once endpoint `n` has taken the oldest message of its inbox. -/
def Sys.took (s : Sys) (n : Nat) : Sys := s.setTad n { s.tad n with inbox := (s.tad n).inbox.drop 1 }

theorem Sys.took_alive (n k : Nat) : ((s.took n).tad k).alive = (s.tad k).alive := by
  rw [Sys.took, Sys.tad_setTad]
  split
  next h => rw [h]
  next => rfl

theorem Sys.took_swReplicas (n : Nat) (sw : Switch) : (s.took n).swReplicas sw = s.swReplicas sw := by
  rw [Sys.swReplicas, Sys.liveReplicas_congr (Sys.took_alive n) rfl rfl rfl, Sys.swReplicas]

theorem Sys.took_outUrgent (n : Nat) : ((s.took n).tad n).outUrgent = (s.tad n).outUrgent ∧ ((s.took n).tad n).rgen = (s.tad n).rgen := by
  rw [Sys.took, Sys.tad_setTad_same]
  exact ⟨rfl, rfl⟩

end Messages

section Start
variable {s : Sys} {ch : List (Nat × Nat)} {rest : List (List (Nat × Nat))}

/-- The next switch begins once nothing it touches runs laps (R33). -/
theorem Sys.epochSwitchStart_begins (hqueue : s.lead.swQueue = ch :: rest) (hnone : s.lead.sw = none)
    (hfrozen : ∀ p, p ∈ s.partsOf (ch.map (fun c => c.1)) → s.partFrozen p = true) : ∃ z : Switch,
      s.epochSwitchStart.lead = { s.lead with sw := some z, swQueue := rest } ∧ z.epoch = (s.lead.epoch + 1) % 256 ∧
        z.phase = 1 ∧ z.changes = ch ∧ z.wait = s.liveReplicas ∧ z.since = s.now := by
  have hall : (s.partsOf (ch.map (fun c => c.1))).all (fun p => s.partFrozen p) = true := List.all_eq_true.mpr hfrozen
  unfold Sys.epochSwitchStart
  rw [hqueue]
  dsimp -zeta only
  rw [if_neg (by simp [hnone, hall])]
  extract_lets e live place target routes msgs sw t
  exact ⟨sw, Sys.sendLists_sameLead _ _, rfl, rfl, rfl, rfl, rfl⟩

end Start

section Acks
variable {s : Sys} {m : TMsg} {sw : Switch}

/-- COMMIT goes to every replica that is prepared and live (R33). -/
theorem Sys.sendCommit_state (sw : Switch) :
    (s.sendCommit sw).lead = { s.lead with
      sw := some { sw with phase := 2, wait := s.swReplicas sw, drained := [], since := s.now } } ∧
    ((s.sendCommit sw).tad s.leadAddr).outUrgent = (s.tad s.leadAddr).outUrgent ++ (s.swReplicas sw).map (fun n =>
      s.stamped { dst := n, type := 0x18, urgent := true, sub := 3, tag := sw.epoch }) := by
  unfold Sys.sendCommit
  extract_lets live u
  have hsend := Sys.sendAll_urgent (live.map (fun n => { dst := n, type := 0x18, urgent := true, sub := 3, tag := sw.epoch })) u
    (by simp)
  refine ⟨Sys.sendAll_sameLead _, ?_⟩
  have haddr : u.leadAddr = s.leadAddr := rfl
  rw [haddr] at hsend
  rw [hsend, List.map_map]
  rfl

variable (hsw : s.lead.sw = some sw) (hmail : (s.tad s.leadAddr).inbox.head? = some m) (htype : m.type = 0x18)
include hsw hmail htype

/-- A PREPARE_ACK that counts every message sent to its replica takes it out of the wait (R33, R286). -/
theorem Sys.prepareAck_counted (hsub : m.sub = 2) (hphase : sw.phase = 1) (htag : sw.epoch = m.tag)
    (hcount : bitsOf m.payload 15 0 = NMap.get 0 sw.sent m.src % 65536) : s.prepareAck =
      if (sw.wait.filter (fun n => n ≠ m.src)).isEmpty then
        (s.took s.leadAddr).sendCommit { sw with wait := sw.wait.filter (fun n => n ≠ m.src) }
      else (s.took s.leadAddr).setLead { s.lead with sw := some { sw with wait := sw.wait.filter (fun n => n ≠ m.src) } } := by
  have htake := Sys.takeMsg_head (f := fun m => decide (m.type = 0x18) && decide (m.sub = 2)) hmail (by simp [htype, hsub])
  have hsw' : (s.took s.leadAddr).lead.sw = some sw := hsw
  unfold Sys.prepareAck
  rw [htake]
  change (match (s.took s.leadAddr).lead.sw with | none => _ | some sw => _) = _
  rw [hsw']
  dsimp only
  rw [if_neg (by simp [hphase, htag]), if_neg (Classical.not_not.mpr hcount)]
  rfl

/-- A COMMIT_ACK of the running switch takes its replica out of the wait (R33). -/
theorem Sys.commitAck_counted (hsub : m.sub = 4) (hphase : sw.phase = 2) (htag : sw.epoch = m.tag) :
    s.commitAck = (s.took s.leadAddr).acked sw m.src := by
  have htake := Sys.takeMsg_head (f := fun m => decide (m.type = 0x18) && decide (m.sub = 4)) hmail (by simp [htype, hsub])
  have hsw' : (s.took s.leadAddr).lead.sw = some sw := hsw
  unfold Sys.commitAck
  rw [htake]
  change (match (s.took s.leadAddr).lead.sw with | none => _ | some sw => _) = _
  rw [hsw']
  dsimp only
  rw [if_neg (by simp [hphase, htag])]
  rfl

/-- An EPOCH_DRAINED of the old epoch is noted (R33). -/
theorem Sys.epochDrained_noted (hsub : m.sub = 5) (htag : (sw.epoch + 255) % 256 = m.tag) : s.epochDrained =
    ((s.took s.leadAddr).setLead { s.lead with sw := some { sw with drained := sw.drained ++ [m.src] } }).tryRetire := by
  have htake := Sys.takeMsg_head (f := fun m => decide (m.type = 0x18) && decide (m.sub = 5)) hmail (by simp [htype, hsub])
  have hsw' : (s.took s.leadAddr).lead.sw = some sw := hsw
  unfold Sys.epochDrained
  rw [htake]
  change (match (s.took s.leadAddr).lead.sw with | none => _ | some sw => _) = _
  rw [hsw']
  dsimp only
  rw [if_neg (Classical.not_not.mpr htag)]
  rfl

end Acks

section Retire
variable {s : Sys} {sw : Switch}

/-- Every router that a switch has prepared and that lives has drained (R33). -/
def Sys.allDrained (s : Sys) (sw : Switch) : Bool := ((s.swReplicas sw).filter (fun n => n < 258)).all (fun n => sw.drained.contains n)

theorem Sys.tryRetire_waits (hsw : s.lead.sw = some sw) (hnot : s.allDrained sw = false) : s.tryRetire = s := by
  unfold Sys.tryRetire
  rw [hsw]
  dsimp only
  rw [if_neg]
  rw [Bool.and_eq_true]
  exact fun h => Bool.noConfusion (hnot.symm.trans h.2)

theorem Sys.tryRetire_retires (hsw : s.lead.sw = some sw) (hphase : sw.phase = 3) (hall : s.allDrained sw = true) :
    s.tryRetire = (s.setLead { s.lead with sw := none }).sendAll ((s.swReplicas sw).map (fun n =>
      { dst := n, type := 0x18, urgent := true, sub := 6, tag := (sw.epoch + 255) % 256 })) := by
  unfold Sys.tryRetire
  rw [hsw]
  dsimp only
  rw [if_pos]
  · rfl
  · rw [Bool.and_eq_true]
    exact ⟨decide_eq_true hphase, hall⟩

/-- Retiring changes the switch alone among what the lead hub keeps. -/
theorem Sys.tryRetire_lead : s.tryRetire.lead = s.lead ∨ s.tryRetire.lead = { s.lead with sw := none } := by
  unfold Sys.tryRetire
  split
  · exact .inl rfl
  · dsimp only
    split
    · exact .inr (Sys.sendAll_sameLead _)
    · exact .inl rfl

end Retire

section Commit
variable {s : Sys} {sw : Switch} {n : Nat}

/-- The replicas that have still to answer a COMMIT once replica `n` has. -/
def Sys.unanswered (s : Sys) (sw : Switch) (n : Nat) : List Nat :=
  sw.wait.filter (fun k => k ≠ n && (s.swReplicas sw).contains k)

theorem Sys.acked_waits (h : s.unanswered sw n ≠ []) :
    s.acked sw n = s.setLead { s.lead with sw := some { sw with wait := s.unanswered sw n } } := by
  unfold Sys.acked
  exact if_pos (by simpa [Sys.unanswered] using h)

theorem NMap.get_map_store {f : Nat × Tile → Nat × Tile} (hkey : ∀ x, (f x).1 = x.1) (hstore : ∀ x, (f x).2.store = x.2.store)
    (t : Nat) : ∀ m : NMap Tile, (NMap.get {} (m.map f) t).store = (NMap.get {} m t).store
  | [] => rfl
  | x :: m => by
    have hcons (y : Nat × Tile) (r : NMap Tile) : NMap.get {} (y :: r) t = if y.1 = t then y.2 else NMap.get {} r t := rfl
    rw [List.map_cons, hcons, hcons, hkey]
    split
    · exact hstore x
    · exact NMap.get_map_store hkey hstore t m

theorem Sys.dropNumbers_store (t : Nat) : (s.dropNumbers.tile t).store = (s.tile t).store := by
  refine NMap.get_map_store (fun x => ?_) (fun x => ?_) t s.tiles
  · split
    · split <;> rfl
    · rfl
  · split
    · split <;> rfl
    · rfl

theorem Tile.mirrorRegions_congr {a b : Tile} (h : b.store = a.store) : b.mirrorRegions = a.mirrorRegions := by
  rw [Tile.mirrorRegions, h, Tile.mirrorRegions]

/-- With no MIRROR region on any tile no shadow moves (R489). -/
theorem Sys.refreshShadows_none (h : ∀ t, (s.tile t).mirrorRegions = []) : s.refreshShadows = s := by
  unfold Sys.refreshShadows
  refine List.foldlRecOn (motive := fun u : Sys => u = s) _ _ rfl fun u hu p _ => ?_
  subst hu
  split
  · rfl
  · rw [h]; rfl

theorem Sys.sendAll_tiles (l : List TMsg) : (s.sendAll l).tiles = s.tiles :=
  List.foldlRecOn (motive := fun u : Sys => u.tiles = s.tiles) _ _ rfl fun _ hu _ _ => hu

theorem Sys.tryRetire_tiles : s.tryRetire.tiles = s.tiles := by
  unfold Sys.tryRetire
  split
  · rfl
  · dsimp only
    split
    · exact Sys.sendAll_tiles _
    · rfl

/-- After the last COMMIT_ACK the epoch and the placement are the switch's (R33, R263). -/
theorem Sys.acked_last (h : s.unanswered sw n = []) :
    (s.acked sw n).lead.epoch = sw.epoch ∧ (s.acked sw n).lead.place = applyChanges s.lead.place sw.changes ∧
      (s.acked sw n).lead.switches = satAdd 16 s.lead.switches 1 ∧ (s.acked sw n).lead.invalid = sw.invalid ∧
      ∀ t, ((s.acked sw n).tile t).store = (s.tile t).store := by
  unfold Sys.acked
  extract_lets live sw' u v
  have hempty : ¬ ((!sw'.wait.isEmpty) = true) := by simpa [sw', Sys.unanswered] using h
  rw [if_neg hempty]
  have hlog : Sys.SameButLog u.dropNumbers.noteStraights v := (Sys.eventBoth_sameButLog 1).trans (Sys.log_sameButLog ..)
  have hv : v.lead.epoch = sw.epoch ∧ v.lead.place = applyChanges s.lead.place sw.changes ∧
      v.lead.switches = satAdd 16 s.lead.switches 1 ∧ v.lead.invalid = sw.invalid := by
    rw [hlog.lead]
    exact ⟨rfl, rfl, rfl, rfl⟩
  have hstore (t : Nat) : (v.tryRetire.tile t).store = (s.tile t).store := by
    rw [Sys.tile, Sys.tryRetire_tiles, hlog.tiles]
    exact Sys.dropNumbers_store (s := u) t
  clear_value v
  refine ⟨?_, ?_, ?_, ?_, hstore⟩ <;> rcases Sys.tryRetire_lead (s := v) with hl | hl <;> rw [hl]
  · exact hv.1
  · exact hv.1
  · exact hv.2.1
  · exact hv.2.1
  · exact hv.2.2.1
  · exact hv.2.2.1
  · exact hv.2.2.2
  · exact hv.2.2.2

end Commit

section Late
variable {s : Sys} {sw : Switch} {n : Nat}

theorem Sys.fenceTile_shed (n : Nat) : ((s.fenceTile n).tile n).shed = true := by
  unfold Sys.fenceTile
  extract_lets u
  have hu : (u.tile n).shed = true := by simp [u, Sys.modTile]
  exact List.foldlRecOn (motive := fun y : Sys => (y.tile n).shed = true) _ _ hu fun y hy a _ => hy

theorem Sys.fenceTile_lead (n : Nat) : (s.fenceTile n).lead = s.lead := by
  unfold Sys.fenceTile
  exact List.foldlRecOn (motive := fun y : Sys => y.lead = s.lead) _ _ rfl fun y hy a _ => hy

/-- The panel with a silent replica taken out: a tile fenced, a router dead, its tadpole router dead (R34). -/
def Sys.silenced (s : Sys) (n : Nat) : Sys :=
  let u := if n < 256 then (s.fenceTile n).killRouter n else if n < 258 then s.killRouter n else s
  u.setTad n { u.tad n with alive := false }

theorem Sys.silenced_state (n : Nat) : (s.silenced n).lead = s.lead ∧ ((s.silenced n).tad n).alive = false ∧
    (n < 258 → ((s.silenced n).router n).alive = false) ∧ (n < 256 → ((s.silenced n).tile n).shed = true) := by
  unfold Sys.silenced
  extract_lets u
  have hu : u.lead = s.lead ∧ (n < 258 → (u.router n).alive = false) ∧ (n < 256 → (u.tile n).shed = true) := by
    unfold u
    split
    next => exact ⟨Eq.trans (Sys.killRouter_sameLead (s := s.fenceTile n) n) (Sys.fenceTile_lead n), fun _ => Sys.killRouter_dead n,
      fun _ => (Sys.killRouter_shed n n).trans (Sys.fenceTile_shed n)⟩
    next h256 =>
      split
      next => exact ⟨Sys.killRouter_sameLead n, fun _ => Sys.killRouter_dead n, fun h => absurd h h256⟩
      next h258 => exact ⟨rfl, fun h => absurd h h258, fun h => absurd h h256⟩
  exact ⟨hu.1, by rw [Sys.tad_setTad_same], hu.2⟩

/-- The silent replica's switch goes on without it, with what replaces its tile among the changes (R34). -/
theorem Sys.prepareAckTimeout_goesOn (hsw : s.lead.sw = some sw) (hlate : s.ackLate n = true) : ∃ z : Switch,
    (s.prepareAckTimeout n).lead.sw = some z ∧
      (s.prepareAckTimeout n).standing = (some z, (s.silenced n).standing.2) ∧ z.phase = sw.phase ∧ z.epoch = sw.epoch ∧
      sw.changes <+: z.changes ∧ (256 ≤ n → z.changes = sw.changes) ∧ n ∉ z.wait := by
  unfold Sys.prepareAckTimeout
  rw [hsw]
  dsimp -zeta only
  rw [if_neg (by simp [hlate])]
  extract_lets u q v planned extra changes target live routes msgs sent sw' w
  have hv : v = s.silenced n := rfl
  refine ⟨sw', congrArg Lead.sw (Sys.sendLists_sameLead _ _), (Sys.sendLists_blind Sys.standing_blind _ _).trans ?_, rfl, rfl,
    ⟨extra, rfl⟩, fun hn => ?_, fun hin => ?_⟩
  · rw [← hv]; rfl
  · have hextra : extra = [] := by
      refine List.map_eq_nil_iff.mpr (List.filter_eq_nil_iff.mpr fun x _ => ?_)
      have hnot : ¬ n < 256 := by omega
      simp [hnot]
    show sw.changes ++ extra = sw.changes
    rw [hextra, List.append_nil]
  · have hlive : n ∈ v.liveReplicas := (List.mem_filter.mp hin).1
    have halive := (List.mem_filter.mp hlive).2
    rw [hv, (Sys.silenced_state n).2.1] at halive
    exact Bool.noConfusion halive

/-- PREPARE unanswered for 50 µs, with the recovery of what the silent tile served (R34). -/
theorem Sys.prepareLost_goesOn (hsw : s.lead.sw = some sw) (hlate : s.ackLate n = true) : ∃ z : Switch,
    (s.prepareLost n).lead.sw = some z ∧ ((s.prepareLost n).tad n).alive = false ∧
      (n < 258 → ((s.prepareLost n).router n).alive = false) ∧ (n < 256 → ((s.prepareLost n).tile n).shed = true) ∧
      z.phase = sw.phase ∧ z.epoch = sw.epoch ∧ sw.changes <+: z.changes ∧ (256 ≤ n → z.changes = sw.changes) ∧
      n ∉ z.wait := by
  obtain ⟨z, hz, hstand, hphase, hepoch, hpre, hhub, hwait⟩ := Sys.prepareAckTimeout_goesOn hsw hlate
  obtain ⟨-, hdead, hrouter, hshed⟩ := Sys.silenced_state (s := s) n
  have hlost : (s.prepareLost n).standing = (some z, (s.silenced n).standing.2) := by
    unfold Sys.prepareLost
    rw [if_neg (by simp [hlate])]
    extract_lets before u extra
    split
    · exact (Sys.regrownIn_blind Sys.standing_blind _ _).trans hstand
    · exact hstand
  have hrest : (s.prepareLost n).standing.2 = (s.silenced n).standing.2 := by rw [hlost]
  refine ⟨z, congrArg Prod.fst hlost, ?_, fun hn => ?_, fun hn => ?_, hphase, hepoch, hpre, hhub, hwait⟩
  · exact (congrFun (congrArg (fun x => x.2.1) hrest) n).trans hdead
  · exact (congrArg Router.alive (Sys.router_congr (congrArg Prod.fst hrest) n)).trans (hrouter hn)
  · exact (congrFun (congrArg (fun x => x.2.2) hrest) n).trans (hshed hn)

/-- A router that has not drained 50 µs after COMMIT is failed, and the switch ends where the others have (R34). -/
theorem Sys.drainLost_draining (hn : n < 258) (hsw : s.lead.sw = some sw) (hphase : sw.phase = 3)
    (hnot : sw.drained.contains n = false) (hlate : sw.since + 50000 ≤ s.now) (hshed : n < 256 → (s.tile n).shed = true) :
    s.drainLost n = (s.killRouter n).tryRetire := by
  have hdue : s.drainLate n = true := by
    unfold Sys.drainLate
    rw [hsw]
    dsimp only
    rw [hnot, hphase, decide_eq_true (show s.now ≥ sw.since + 50000 from hlate), decide_eq_true hn]
    rfl
  have hlead : (s.killRouter n).lead = s.lead := Sys.killRouter_sameLead n
  have hepoch : (s.killRouter n).tryRetire.lead.epoch = s.lead.epoch := by
    rcases Sys.tryRetire_lead (s := s.killRouter n) with hl | hl <;> rw [hl]
    · rw [hlead]
    · exact (congrArg Lead.epoch hlead : (s.killRouter n).lead.epoch = s.lead.epoch)
  have htile (h : n < 256) : ((s.killRouter n).tryRetire.tile n).shed = true := by
    rw [Sys.tile, Sys.tryRetire_tiles]
    exact (Sys.killRouter_shed n n).trans (hshed h)
  unfold Sys.drainLost
  rw [if_neg (by simp [hdue])]
  extract_lets was q x1 x2 x3
  have hx1 : x1 = s.killRouter n := if_pos hn
  have hx2 : x2 = (s.killRouter n).tryRetire := by
    unfold x2
    rw [hx1, hlead, hsw]
    exact if_neg (show ¬ sw.phase = 2 by omega)
  have hx3 : x3 = (s.killRouter n).tryRetire := by
    unfold x3
    rw [if_pos (by rw [hx2]; exact hepoch), hx2]
  rw [hx3]
  split
  next h => rw [Sys.loseTile, if_pos (htile h)]
  next => rfl

end Late

/-- Settles O38: the lead hub's rows of an epoch switch, clause by clause. -/
theorem epochSwitchAtTheLead : Obligations.EpochSwitchAtTheLead := by
  unfold Obligations.EpochSwitchAtTheLead
  intro s m sw a y l msg
  have hdo (i : Instr) (f : Sys → Sys) (hexec : exec i s = s.act i.wf f) (hwf : i.wf = true) :
      exec i s = .next { s with sys := f s.sys } := by rw [hexec, hwf, State.act_true]
  have hstart := hdo _ _ (exec_epochSwitchStart s) rfl
  have hack := hdo _ _ (exec_prepareAck s) rfl
  have hcommit := hdo _ _ (exec_commitAck s) rfl
  have hdrained := hdo _ _ (exec_epochDrained s) rfl
  have hsent (sub : Nat) (tag : Nat) (n : Nat) :
      (s.sys.took s.sys.leadAddr).stamped { dst := n, type := 0x18, urgent := true, sub := sub, tag := tag } = msg sub n tag := by
    rw [Sys.stamped, show (s.sys.took s.sys.leadAddr).leadAddr = s.sys.leadAddr from rfl, (Sys.took_outUrgent _).2]
    rfl
  refine ⟨fun ch rest hqueue hnone hfrozen => ?_, fun hsw hmail htype => ⟨fun hsub hphase htag hcount => ?_,
    fun hsub hphase htag => ?_, fun hsub hphase htag => ?_⟩, fun n hn hsw hphase hwaits hlate => ?_,
    fun n hn hsw hphase hnot hlate hshed => ?_⟩
  · obtain ⟨z, hz⟩ := Sys.epochSwitchStart_begins hqueue hnone hfrozen
    exact ⟨_, z, hstart, hz⟩
  · intro wait
    have heq := Sys.prepareAck_counted hsw hmail htype hsub hphase htag hcount
    refine ⟨fun hleft => ?_, fun hleft => ⟨_, hack, ?_⟩⟩
    · rw [hack, heq, if_neg (by simpa [wait] using hleft)]
      rfl
    · obtain ⟨hlead, hout⟩ := Sys.sendCommit_state (s := s.sys.took s.sys.leadAddr) { sw with wait := wait }
      have hreps : (s.sys.took s.sys.leadAddr).swReplicas { sw with wait := wait } = s.sys.swReplicas sw :=
        (Sys.took_swReplicas ..).trans (Sys.swReplicas_routes sw _ rfl)
      rw [hreps] at hlead hout
      have hempty : (sw.wait.filter (fun n => n ≠ m.src)).isEmpty = true := List.isEmpty_iff.mpr hleft
      dsimp only
      rw [heq, if_pos hempty]
      refine ⟨hlead, hout.trans ?_⟩
      rw [show (s.sys.took s.sys.leadAddr).leadAddr = s.sys.leadAddr from rfl, (Sys.took_outUrgent _).1]
      exact congrArg _ (List.map_congr_left fun n _ => hsent 3 sw.epoch n)
  · intro wait
    have heq : s.sys.commitAck = (s.sys.took s.sys.leadAddr).acked sw m.src :=
      Sys.commitAck_counted hsw hmail htype hsub hphase htag
    have hwait : (s.sys.took s.sys.leadAddr).unanswered sw m.src = wait := by rw [Sys.unanswered, Sys.took_swReplicas]
    refine ⟨fun hleft => ?_, fun hleft hmirror => ⟨_, hcommit, ?_⟩⟩
    · have hw := Sys.acked_waits (s := s.sys.took s.sys.leadAddr) (sw := sw) (n := m.src) (by rw [hwait]; exact hleft)
      rw [hwait] at hw
      rw [hcommit, Sys.commitAcked, heq, hw]
      exact congrArg (fun u => Host.Outcome.next { s with sys := u }) (if_pos rfl)
    · obtain ⟨hepoch, hplace, hcount, hinv, hstore⟩ := Sys.acked_last (s := s.sys.took s.sys.leadAddr) (hwait.trans hleft)
      have hsame : s.sys.commitAcked = (s.sys.took s.sys.leadAddr).acked sw m.src := by
        rw [Sys.commitAcked, heq]
        split
        · rfl
        · exact Sys.refreshShadows_none fun t => (Tile.mirrorRegions_congr (hstore t)).trans (hmirror t)
      dsimp only
      rw [hsame]
      exact ⟨hepoch, hplace, hcount, hinv⟩
  · intro done
    have heq := Sys.epochDrained_noted hsw hmail htype hsub htag
    have hreps (d : List Nat) (l' : Lead) : ((s.sys.took s.sys.leadAddr).setLead l').swReplicas { sw with drained := d } =
        s.sys.swReplicas sw :=
      (Sys.took_swReplicas (s := s.sys) s.sys.leadAddr { sw with drained := d }).trans (Sys.swReplicas_routes sw _ rfl)
    have hall (l' : Lead) : ((s.sys.took s.sys.leadAddr).setLead l').allDrained { sw with drained := sw.drained ++ [m.src] } = done := by
      rw [Sys.allDrained, hreps]
    refine ⟨fun hd => ?_, fun hd => ⟨_, hdrained, ?_⟩⟩
    · rw [hdrained, heq, Sys.tryRetire_waits rfl ((hall _).trans hd)]
      rfl
    · have hret := Sys.tryRetire_retires (s := (s.sys.took s.sys.leadAddr).setLead { s.sys.lead with
        sw := some { sw with drained := sw.drained ++ [m.src] } }) rfl hphase ((hall _).trans hd)
      rw [hreps] at hret
      dsimp only
      rw [heq, hret]
      refine ⟨Sys.sendAll_sameLead _, ?_⟩
      have hsend := Sys.sendAll_urgent ((s.sys.swReplicas sw).map (fun n =>
        { dst := n, type := 0x18, urgent := true, sub := 6, tag := (sw.epoch + 255) % 256 }))
        ((s.sys.took s.sys.leadAddr).setLead { s.sys.lead with sw := none }) (by simp)
      have hout := congrArg TRouter.outUrgent hsend
      refine hout.trans ?_
      rw [List.map_map]
      show ((s.sys.took s.sys.leadAddr).tad s.sys.leadAddr).outUrgent ++ _ = _
      rw [(Sys.took_outUrgent _).1]
      exact congrArg _ (List.map_congr_left fun n _ => hsent 6 ((sw.epoch + 255) % 256) n)
  · have hdue : s.sys.ackLate n = true := by
      unfold Sys.ackLate
      rw [show s.sys.lead.sw = some sw from hsw]
      dsimp only
      rw [decide_eq_true hphase, hwaits, decide_eq_true (show s.sys.now ≥ sw.since + 50000 from hlate)]
      rfl
    obtain ⟨z, hz, hdead, hrouter, htile, hph, hrest⟩ := Sys.prepareLost_goesOn hsw hdue
    have hwf : (Instr.prepareAckTimeout n).wf = true := decide_eq_true hn
    exact ⟨_, z, hdo _ _ (exec_prepareAckTimeout n s) hwf, hdead, hz, hrouter, htile, hph.trans hphase, hrest⟩
  · intro z done
    have hwf : (Instr.drainTimeout n).wf = true := decide_eq_true hn
    have hrow := hdo _ _ (exec_drainTimeout n s) hwf
    have heq := Sys.drainLost_draining hn hsw hphase hnot hlate hshed
    have hzsw : z.lead.sw = some sw := (congrArg Lead.sw (Sys.killRouter_sameLead n)).trans hsw
    refine ⟨fun hd => ?_, fun hd => ⟨_, hrow, ?_⟩⟩
    · rw [hrow, heq, Sys.tryRetire_waits hzsw hd]
    · dsimp only
      rw [heq, Sys.tryRetire_retires hzsw hphase hd]
      refine ⟨?_, congrArg Lead.sw (Sys.sendAll_sameLead _)⟩
      have hmesh := Sys.standing_router (Sys.sendAll_blind Sys.standing_blind (s := z.setLead { z.lead with sw := none })
        ((z.swReplicas sw).map (fun k =>
          { dst := k, type := 0x18, urgent := true, sub := 6, tag := (sw.epoch + 255) % 256 }))) n
      exact (congrArg Router.alive hmesh).trans (Sys.killRouter_dead n)

end Sys2Proof.Machine
